-- ==== Sys2Proof/Word.lean ====
section
/-! DEFINITION. The word types of the OSG-8512 model and their plainest arithmetic. -/

namespace Sys2Proof

/-- A management register word (R10). -/
abbrev Word := BitVec 32

/-- A host physical address, or a 64-bit register. -/
abbrev Addr := BitVec 64

/-- One 64-byte line, byte 0 in bits [7:0] (R8). -/
abbrev Line := BitVec 512

abbrev Byte := BitVec 8

/-- Bits [lo+w-1 : lo] of a number (R8). -/
def bitsOf (v lo w : Nat) : Nat := v / 2 ^ lo % 2 ^ w

/-- Bit `lo` of a number. -/
def bitOf (v lo : Nat) : Bool := v.testBit lo

/-- Addition that stops at `top` (the saturating counters). -/
def satAdd (top a b : Nat) : Nat := min top (a + b)

/-- Addition modulo `2 ^ w`. -/
def wrapAdd (w a b : Nat) : Nat := (a + b) % 2 ^ w

/-- Subtraction modulo `2 ^ w`, of numbers below `2 ^ w`. -/
def wrapSub (w a b : Nat) : Nat := (a + 2 ^ w - b % 2 ^ w) % 2 ^ w

/-- `a / b` rounded up; 0 where `b` is 0. -/
def ceilDiv (a b : Nat) : Nat := (a + b - 1) / b

/-- 0 or 1. -/
def b2n (b : Bool) : Nat := if b then 1 else 0

end Sys2Proof
end

