-- ==== Sys2Proof/Syntax.lean ====
section
/-! DEFINITION. The commands of the OSG-8512: one constructor of `Instr` per row of the table of operations and events, with the operands that each one takes. -/

namespace Sys2Proof

/-- A fabric port (R17). -/
abbrev PortId := Fin 64
/-- A lane column (R34). -/
abbrev ColId := Fin 32
/-- A crossbar port (R18). -/
abbrev XId := Fin 80
/-- A traffic class (R82, internal header). -/
abbrev TcId := Fin 8
/-- A home slice (R149). -/
abbrev SliceId := Fin 4
/-- A Sum window (R181). -/
abbrev WinId := Fin 512
/-- A data mover function, 0 the PF (R205). -/
abbrev FnId := Fin 256
/-- A Beamlink (R225). -/
abbrev BlkId := Fin 8
/-- A memory slot (R296). -/
abbrev SlotId := Fin 32

/-- Who makes a management access (R279, R289, R343). -/
inductive Master where
  | fm
  | mctp
  | core (c : Fin 5)
  | dap
  deriving DecidableEq, Repr

/-- The opcodes of the packets and messages that the device tells apart (R75, R85, R154). -/
inductive Opc where
  | memRd | memRdData | memRdFwd | memRdTEE | memInv | memInvNT | memClnEvct | memSpecRd
  | memWr | memWrPtl | biConflict | biRspI | biRspS | biRspE
  | memData | cmp | cmpS | cmpE | biConflictAck
  | biSnpInv | biSnpData
  | pcieMemRd | pcieMemWr | pcieMsg | pcieCfg | pcieIo | pcieAtomic | pcieCpl
  | d2hReq | d2hRsp | rspIHitI | d2hData | h2dReq | h2dRsp | h2dData
  | farAtomic | atomicRsp | parked | poolWrDone
  deriving DecidableEq, Repr

/-- MetaValue of a CXL.mem request, or MetaField No-Op (R154). -/
inductive Meta where
  | i | s | a | noOp
  deriving DecidableEq, Repr

/-- Completion status of a PCIe completion (R75). -/
inductive CplStatus where
  | ok | unsupported | other
  deriving DecidableEq, Repr

/-- What a pool stores or returns for one line: a plaintext line under a key and a tweak (R263). AES is kept symbolic. -/
structure Cipher where
  key : Nat
  tweak : Nat
  plain : Line
  deriving DecidableEq, Repr

/-- The operation of a far atomic (R200). -/
structure AtomOp where
  opc : Nat
  wide : Bool
  lane : Nat
  op0 : BitVec 128
  op1 : BitVec 128
  deriving DecidableEq, Repr

/-- Options that a function of the device may advertise (R6, R62, R125, R205). -/
inductive Cap where
  | flitMode | tags10 | scaledCredits | dlFeature | l0s | l0p | l1ss | margining | aer | acs | dpc | ptm | doe | ide | sris | ltr | obff | ats | hotPlug | sriov | msix | flr
  deriving DecidableEq, Repr

/-- What a configuration request to one of the device's own functions addresses: the identity word, the class and revision word, whether an option is advertised, the Receiver Error status of AER, ACS Control, Slot Control, Slot Status, Link Status, or another word by its offset. A request with data is a write. -/
inductive CfgReg where
  | id | cls
  | cap (c : Cap)
  | aer | acs | slotCtl | slotSts | linkSts
  | word (off : Nat)
  deriving DecidableEq, Repr

/-- The functions whose configuration space the device presents to a host beside the data mover's words: the upstream switch port, a vPPB, a data mover function (R125, R205). -/
inductive CfgFn where
  | upstream
  | vppb (v : Fin 256)
  | fn (f : FnId)
  deriving DecidableEq, Repr

/-- Where a request is bound before translation: an address of the host map, a port that standard PCI routing names (R64), BAR0 and configuration space or BAR2 of a data mover function (R181, R205), configuration space of the virtual switch itself, or the latency tolerance that a device reports to it (R62). -/
inductive Route where
  | mem
  | port (p : PortId)
  | fn (f : FnId)
  | bar2 (f : FnId)
  | cfg (t : CfgFn) (r : CfgReg)
  | ltr
  deriving DecidableEq, Repr

/-- A request that arrives whole from a link or a unit (R86). `relaxed`, `ido` and `rqid` are the Relaxed Ordering and ID-Based Ordering attributes and the requester ID of a PCIe request (R85); `srcOk` says that the requester ID belongs below the port, which ACS source validation asks, and `atOk` that the address is untranslated, which translation blocking asks (R62). -/
structure LinkReq where
  op : Opc
  tag : Nat
  addr : Addr
  mv : Meta
  route : Route
  tc : TcId
  mid : BitVec 16
  unitEp : BitVec 8
  len : Nat
  data : List Line
  be : BitVec 64
  poison : Bool
  relaxed : Bool
  ido : Bool
  rqid : BitVec 16
  srcOk : Bool
  atOk : Bool
  ahead : Bool
  deriving DecidableEq, Repr

/-- A response that arrives whole from a link or a unit (R86). -/
structure LinkRsp where
  op : Opc
  tag : Nat
  status : CplStatus
  mv : Meta
  data : List Cipher
  poison : Bool
  devLoad : Option (Fin 4)
  unitEp : BitVec 8
  deriving DecidableEq, Repr

/-- A message at a home slice (R154). -/
structure HomeMsg where
  op : Opc
  lk : BitVec 54
  mid : BitVec 16
  port : XId
  tag : Nat
  mv : Meta
  tc : TcId
  data : Option Line
  be : BitVec 64
  poison : Bool
  wbAhead : Bool
  ruleEp : BitVec 8
  bindEp : BitVec 8
  req : Nat
  atom : Option AtomOp
  deriving DecidableEq, Repr

/-- What a pool device reports of itself (R130, R323). -/
structure PoolReport where
  serial : Nat
  capacity : Nat
  mld : Bool
  allocs : List Nat
  deriving DecidableEq, Repr

/-- What training and negotiation with a partner have settled when a port reaches DL_Up (R49, R53, R65, R66): protocols, the highest rate and the width that the partner takes, lanes of the slot (from 0) that detect no receiver or arrive inverted, whether the lane order arrives reversed, and the power states that the partner takes. -/
structure LinkNeg where
  cxl : Fin 4
  mem : Bool
  cache : Bool
  bi : Bool
  lopt : Bool
  both64 : Bool
  rate : Fin 6
  width : Nat
  dark : List Nat
  inverted : List Nat
  reversed : Bool
  l0p : Bool
  l11 : Bool
  l12 : Bool
  pool : PoolReport
  deriving DecidableEq, Repr

/-- A lane margining command (R44). -/
inductive MarginCmd where
  | capabilities
  | sampleCount
  | timing (right : Bool) (steps : Nat)
  | voltage (up : Bool) (steps : Nat)
  | normal
  deriving DecidableEq, Repr

/-- A transmitter coefficient request of the partner (R42). -/
inductive CoeffReq where
  | preset (k : Fin 11)
  | taps (pre main post : Nat)
  deriving DecidableEq, Repr

/-- One eye of a lane's quick scan (R48): contiguous positions of the 16 by 16 grid that counted zero, in time at the centre voltage and in voltage at the centre time. -/
structure EyeSpan where
  wide : Fin 17
  high : Fin 17
  deriving DecidableEq, Repr

/-- The quick scan of one lane (R45, R48): its eyes as EYECTL.EYE codes them, the middle one (or the only one below 64 GT/s) first. -/
structure EyeResult where
  mid : EyeSpan
  upper : EyeSpan
  lower : EyeSpan
  deriving DecidableEq, Repr

/-- A bad symbol at a lane, or a received FTS (R38). -/
structure LaneSymbol where
  lane : Fin 16
  fts : Bool
  deriving DecidableEq, Repr

/-- How equalization at a rate ended (R50, R51): the presets in the order of their phase 3 ranking, and whether the partner asked for precoding (R41). -/
structure EqDone where
  rate : Fin 6
  ranking : List (Fin 11)
  precode : Bool
  deriving DecidableEq, Repr

/-- How a port comes to a hot reset or a link disable (R74): a hot reset that it receives or sends, or the partner's link disable. -/
inductive ResetKind where
  | received | sent | partnerDisable
  deriving DecidableEq, Repr

/-- A hot reset or a link disable of a port (R74). -/
structure PortReset where
  port : PortId
  how : ResetKind
  deriving DecidableEq, Repr

/-- A port enters Recovery, goes on to equalization from it or from L0, or returns to L0 (R47). -/
inductive RecoveryMove where
  | enter | equalize | leave
  deriving DecidableEq, Repr

/-- The link power states that a port enters and leaves (R53). -/
inductive LinkPower where
  | l0 | l0p (width : Nat) | l1 | l11 | l12
  deriving DecidableEq, Repr

/-- Programming of an HDM decoder by its host (R127). -/
structure HdmProg where
  base : Addr
  size : Addr
  ways : Nat
  gran : Nat
  targets : List (PortId × Fin 256)
  lock : Bool
  commit : Bool
  deriving DecidableEq, Repr

/-- Which decoder a host programs: one of its upstream port's (R127), or one of an LD function's (R128): the device's own two for an LD carved from a single-logical pool, or those of the pool's LD. -/
inductive HdmTarget where
  | upstream (d : Fin 32)
  | ldFn (vppb : Fin 256) (d : Fin 16)
  deriving DecidableEq, Repr

/-- A key that a journal record holds sealed (R376): the slot, the key, its generation, and the SEALGEN it is sealed under. -/
inductive KeySlot where
  | ld (n : Nat)
  | mig (m : Nat)
  | rot (r : Nat)
  | domain
  deriving DecidableEq, Repr

structure SealedKey where
  slot : KeySlot
  key : Nat
  gen : Nat
  sealGen : Nat
  deriving DecidableEq, Repr

/-- A staged binding or LD entry (R148): TYPE, INDEX and bits [95:0]. -/
structure StgEntry where
  isLd : Bool
  index : Nat
  value : Nat
  deriving DecidableEq, Repr

/-- The body of a journal record, by TYPE (R377). -/
inductive JBody where
  | jmark
  | bind (entries : List StgEntry) (rf : Option (Nat × Nat × Bool)) (erase : Option Nat)
  | key (destroyed : List Nat)
  | migStart (m ld dport dldid dbase bm : Nat)
  | migCkpt (m cursor pass : Nat)
  | migCommit (m : Nat)
  | migAbort (m : Nat)
  | rotStart (r ld : Nat) (cells : List (Nat × Nat))
  | rotCkpt (r cursor : Nat)
  | rotDone (r : Nat)
  | act (cfg : Nat) (entries : List (Nat × Nat))
  | spare (cells : List (Nat × Nat))
  | wear (a b : Nat)
  | policy (pairs : List (Nat × Nat))
  | ver (n : Nat)
  | reserve (lo hi : Nat)
  | base (seq : Nat)
  | void (seq : Nat)
  deriving DecidableEq, Repr

/-- A journal record in the flash (R376): its pages, how many are programmed, and whether its checks pass. -/
structure JRec where
  seq : Nat
  body : JBody
  keys : List SealedKey
  pages : Nat
  programmed : Nat
  intact : Bool
  snap : Bool
  deriving DecidableEq, Repr

/-- A journal half (R375): its header (GEN, FIRSTSEQ, serial) if valid, its records, and whether it is erased. -/
structure JHalf where
  header : Option (Nat × Nat × Nat)
  recs : List JRec
  deriving DecidableEq, Repr

/-- An image (R368): what the checks of R370 read of it, and its sections. -/
structure Image where
  wellFormed : Bool
  keyHash : BitVec 384
  sigOk : Bool
  serial : Nat
  secver : Nat
  regs : List (Nat × Word)
  mirror : Option (Nat × Nat × Nat)
  chain : Bool
  len : Nat
  deriving DecidableEq, Repr, Inhabited

/-- The flash descriptor (R367). -/
structure FlashDesc where
  dseq : Nat
  prefFwB : Bool
  prefCfgB : Bool
  jinit : Bool
  deriving DecidableEq, Repr

/-- The boot flash (R366, R367). -/
structure Flash where
  answers : Bool
  width : Fin 3
  desc : Option FlashDesc
  fwA : Option Image
  fwB : Option Image
  cfgA : Option Image
  cfgB : Option Image
  chainOk : Bool
  halfA : JHalf
  halfB : JHalf
  halfPages : Nat
  deriving DecidableEq, Repr

/-- The strap pins, sampled at the release of RESET_N (R371). -/
structure Straps where
  cascadeId : Fin 8
  bootMode : Fin 4
  deriving DecidableEq, Repr

/-- One state of the body of a received bead (R229, R242, R252). -/
inductive CtrlMsg where
  | hello (id link : Nat) (stepping : Nat) (domain : Word) (mcand coarse : Bool) (hmapCrc : Nat) (nonce : Nat)
  | helloAck (macOk : Bool)
  | laneSub (pos cwcnt : Nat)
  | laneSubAck (pos cwcnt : Nat)
  | handoff (link rxexp : Nat)
  | handoffAck (link rxexp : Nat)
  | topo (bitmap : Nat)
  | depart (dhn : Nat)
  | departDone (dhn : Nat)
  | masterXfer (id : Nat) (time : Nat)
  deriving DecidableEq, Repr

/-- The header of a received bead (R229). -/
structure BeadHdr where
  retx : Bool
  seq : BitVec 16
  ack : BitVec 16
  nakmap : BitVec 64
  csel : Nat
  cval : BitVec 12
  sdev : Fin 8
  mstr : Bool
  deriving DecidableEq, Repr

/-- A link packet of a Beamlink (R231). -/
structure LinkPkt where
  ddev : Fin 8
  sdev : Fin 8
  dxp : XId
  sxp : XId
  relay : Bool
  op : Opc
  mid : BitVec 16
  ruleEp : BitVec 8
  bindEp : BitVec 8
  tc : TcId
  clvl : Fin 4
  wbAhead : Bool
  deriv : Bool
  xtag : Nat
  xld : Fin 4096
  addr : Nat
  mv : Meta
  data : List Line
  be : BitVec 64
  poison : Bool
  len : Nat
  deriving DecidableEq, Repr

/-- A TIME bead's fields (R252). -/
structure TimeBead where
  xid : Nat
  stamp : Nat
  t2 : Nat
  arrival : Nat
  deriving DecidableEq, Repr

/-- An FM API command of the mailbox that has no row of its own (R390). -/
inductive FmApi where
  | query (opcode : Nat)
  | tunnel (p : PortId) (opcode : Nat)
  | vendor (opcode : Nat)
  deriving DecidableEq, Repr

/-- Where a DECIDE arrives (R393). -/
inductive Via where
  | fm | mctp
  deriving DecidableEq, Repr

/-- The fields of a DECIDE that every command of R392 carries (R391). -/
structure Decide where
  via : Via
  decid : BitVec 16
  obj : Nat
  deriving DecidableEq, Repr

/-- An error record as its reporter sends it (R317); the collector adds nothing but SUPPR and STORM. -/
structure ErrRec where
  src : Nat
  kind : Nat
  cls : Fin 3
  epoch : Nat
  addr : Nat
  akind : Nat
  syndrome : Nat
  obj : Nat
  detail : Nat
  suppr : Nat
  deriving DecidableEq, Repr

/-- What one slot's pins read on a tick (R295): seating pins high, V_SNS in 0.01 mV, VDS in mV, VOUT in 5 mV, gate at least 8 V above VIN. -/
structure SlotSample where
  seatAHigh : Bool
  seatBHigh : Bool
  vsns : Nat
  vds : Nat
  vout : Nat
  gateUp : Bool
  vin : Nat
  deriving DecidableEq, Repr

/-- How a function reset is caused (R219). -/
inductive FnResetCause where
  | flr | busMasterOff | ctl (v : Word)
  deriving DecidableEq, Repr

/-- Which queue of a function (R208). -/
inductive QueueSel where
  | sq (q : Fin 4)
  | cq
  deriving DecidableEq, Repr

/-- A blob of R218 as RESTORE reads it: its authentication, version and contents. -/
structure VfBlob where
  keyId : Nat
  intact : Bool
  version : Nat
  sqmask : BitVec 4
  ctl : Word
  cqCfg : Word
  cqBase : Nat
  cqTail : Nat
  cqPhase : Bool
  cqHead : Nat
  coalCount : Nat
  coalAge : Nat
  pba : BitVec 8
  msix : List Nat
  sqs : List (Nat × Nat × Nat × Nat × Nat)
  unfinished : List (Nat × Nat × Nat × Nat × Nat)
  held : List Nat
  deriving DecidableEq, Repr, Inhabited

/-- An error that a scrub pass or a lookup found in one Tally entry (R172, R173). -/
structure TallyErr where
  set : Nat
  way : Fin 16
  uncorrectable : Bool
  deriving DecidableEq, Repr

/-- What asserts an error line that several causes share (R316, R421): the temperature and input monitors' warning or critical level, or the reference clock that is lost. -/
inductive LineCause where
  | warning | critical | refclk | beamRefclk | fmRefclk
  deriving DecidableEq, Repr

/-- The pins under the boundary register (R412 to R417, R443): a differential pair of a lane counts as one. -/
inductive Pin where
  | fabTx (c : Fin 32) (l : Fin 16)
  | fabRx (c : Fin 32) (l : Fin 16)
  | fmTx (l : Fin 16)
  | fmRx (l : Fin 16)
  | clkreqN (p : Fin 64)
  | fmClkreqN
  | fmPerstN
  | resetN
  | warmRstN
  | pwrfailN
  | faultN
  | cascadeId (i : Fin 3)
  | bootMode (i : Fin 2)
  | spiClk
  | spiCsN
  | spiIo (i : Fin 4)
  | i3cScl
  | i3cSda
  | trefIn
  | ppsIn
  | ppsOut
  | slotPg (n : Fin 32)
  | slotWarn (n : Fin 32)
  | slotSeatA (n : Fin 32)
  | slotSeatB (n : Fin 32)
  | vin12Sns
  deriving DecidableEq, Repr

/-- The cells of a pin (R443): AC transmit and AC receive cells of IEEE 1149.6, control and observe, control of an open drain and observe, observe alone. -/
inductive PinCell where
  | acTransmit | acReceive | controlObserve | openDrain | observe
  deriving DecidableEq, Repr

/-- The boundary register's cells (R443). Beamlink lanes, clocks, the thermal diode, JTAG pins and the pins that stay under the slot die have none. -/
def Pin.cell : Pin → PinCell
  | .fabTx _ _ | .fmTx _ => .acTransmit
  | .fabRx _ _ | .fmRx _ => .acReceive
  | .clkreqN _ | .fmClkreqN | .fmPerstN | .resetN | .warmRstN | .pwrfailN | .cascadeId _ | .bootMode _ | .spiClk | .spiCsN | .spiIo _ | .i3cScl | .i3cSda
  | .trefIn | .ppsIn | .ppsOut => .controlObserve
  | .faultN | .slotPg _ | .slotWarn _ => .openDrain
  | .slotSeatA _ | .slotSeatB _ | .vin12Sns => .observe

/-- A request packet that a master puts to the NoC (R332, R398): its flits, and the unit that sends it with the epoch that the packet carries. -/
structure NocRequest where
  flits : Nat
  sender : Option (Fin 6 × Nat × BitVec 8)
  deriving DecidableEq, Repr

/-- The table's commands, in the table's order. Each constructor names the rule of its row. -/
inductive Instr where
  /-- R13 -/ | coldReset (straps : Straps) (flash : Option Flash)
  /-- R13 -/ | warmReset
  /-- R436 -/ | gctlRst (v : Word)
  /-- R438 -/ | gctlBrst (v : Word)
  /-- R11 -/ | registerWrite (m : Master) (addr : BitVec 28) (v : Word)
  /-- R12 -/ | readClear (m : Master) (addr : BitVec 28)
  /-- R10 -/ | lowWordRead (m : Master) (addr : BitVec 28)
  /-- R10 -/ | highWordRead (m : Master) (addr : BitVec 28)
  /-- R432 -/ | badFormAccess (m : Master) (write : Bool) (addr : BitVec 28)
  /-- R28 -/ | assistWrite (v : Word)
  /-- R27 -/ | decisionTimeout (decid : BitVec 16)
  /-- R29 -/ | fmPortLinkDown
  /-- R395 -/ | mctpSessionExpiry
  /-- R36 -/ | colApply (c : ColId) (v : Word)
  /-- R38 -/ | receiveSymbolError (c : ColId) (l : LaneSymbol)
  /-- R40 -/ | elasticBufferOverrun (c : ColId) (l : Fin 16)
  /-- R42 -/ | coeffRequest (c : ColId) (l : Fin 16) (r : CoeffReq)
  /-- R43 -/ | ovrApply (c : ColId) (l : Fin 16) (v : Word)
  /-- R45 -/ | eyeScanStart (c : ColId) (v : Word)
  /-- R47 -/ | eyeScanAbort (c : ColId) (v : Word)
  /-- R46 -/ | eyePointDone (c : ColId) (mismatches : Nat)
  /-- R44 -/ | marginCommand (c : ColId) (l : Fin 16) (m : MarginCmd)
  /-- R49 -/ | eqComplete (p : PortId) (e : EqDone)
  /-- R50 -/ | eqFail (p : PortId) (rate : Fin 6)
  /-- R48 -/ | quickEyeDone (p : PortId) (eyes : List EyeResult)
  /-- R50 -/ | trainingAttemptFail (p : PortId)
  /-- R50 -/ | retryIntervalExpiry (p : PortId)
  /-- R50 -/ | retrain (c : ColId) (k : Fin 4) (v : Word)
  /-- R53 -/ | linkPowerStateChange (p : PortId) (pw : LinkPower)
  /-- R54 -/ | columnSleepEntry (c : ColId)
  /-- R56 -/ | columnWake (c : ColId) (p : PortId)
  /-- R61 -/ | portCfgWrite (p : PortId) (v : Word)
  /-- R70 -/ | tagcfgWrite (p : PortId) (v : Word)
  /-- R74 -/ | portUp (p : PortId) (n : LinkNeg)
  /-- R74 -/ | dlDown (p : PortId)
  /-- R74 -/ | hotReset (r : PortReset)
  /-- R74 -/ | dpcTrigger (p : PortId) (reason : Nat)
  /-- R74 -/ | portDisable (p : PortId) (v : Word)
  /-- R74 -/ | forceDown (p : PortId) (v : Word)
  /-- R76 -/ | flushComplete (p : PortId)
  /-- R71 -/ | ctoExpiry (p : PortId) (tag : Fin 1024)
  /-- R71 -/ | tagQuarantineExpiry (p : PortId) (tag : Fin 1024)
  /-- R70 -/ | tagAvailable (p : PortId)
  /-- R86 -/ | linkRequest (x : XId) (r : LinkReq)
  /-- R86 -/ | linkResponse (x : XId) (r : LinkRsp)
  /-- R83 -/ | flitCheckFail (p : PortId)
  /-- R91 -/ | sharedPoolMove (x : XId) (t : TcId)
  /-- R95 -/ | schedulerSlot
  /-- R100 -/ | crossingComplete (i : XId)
  /-- R100 -/ | crossingError (i : XId) (plane : Fin 5) (stale : Bool)
  /-- R100 -/ | replayRequest (i : XId) (e : XId) (t : TcId)
  /-- R82 -/ | sparePlaneCheck (ok : Bool)
  /-- R101 -/ | planeSubCommand (v : Word)
  /-- R102 -/ | substitutionComplete (stallNs : Nat)
  /-- R92 -/ | tcshareWrite (x : XId) (t : TcId) (v : Word)
  /-- R94 -/ | egqWrite (x : XId) (t : TcId) (v : Word)
  /-- R107 -/ | cmarkWrite (x : XId) (v : Word)
  /-- R113 -/ | egressVisit (x : XId)
  /-- R120 -/ | gateSpill (p : PortId)
  /-- R114 -/ | qcfgWrite (p : PortId) (t : TcId) (v : Word)
  /-- R115 -/ | shapeWrite (p : PortId) (t : TcId) (v : Word)
  /-- R117 -/ | gateBoundary (p : PortId)
  /-- R118 -/ | gclCommit (p : PortId) (v : Word)
  /-- R118 -/ | gclCancel (p : PortId) (v : Word)
  /-- R118 -/ | pendingListStart (p : PortId)
  /-- R118 -/ | gateDisable (p : PortId) (v : Word)
  /-- R123 -/ | egressSampleWindowEnd (p : PortId)
  /-- R127 -/ | hdmCommit (p : PortId) (t : HdmTarget) (g : HdmProg)
  /-- R132 -/ | bindCommit (v : Word)
  /-- R148 -/ | bindDiscard (v : Word)
  /-- R135 -/ | hostSlotPowerOff (p : PortId) (vppb : Fin 256)
  /-- R132 -/ | unbindTimeout
  /-- R133 -/ | commitPoint
  /-- R133 -/ | bindDrainDone
  /-- R135 -/ | bindVppb (index : Fin 4096) (host : PortId) (vppb : Fin 256) (kind : Fin 4) (target : Fin 4096)
  /-- R135 -/ | unbindVppb (host : PortId) (vppb : Fin 256) (mode : Fin 4)
  /-- R130 -/ | setLdAllocations (p : PortId) (allocs : List Nat)
  /-- R390 -/ | fmApiCommand (c : FmApi)
  /-- R137 -/ | migStart (m : Fin 2) (v : Word)
  /-- R146 -/ | mctlAbort (m : Fin 2) (v : Word)
  /-- R140 -/ | copyPassEnd (m : Fin 2)
  /-- R140 -/ | migCheckpoint (m : Fin 2)
  /-- R142 -/ | quiesceCopyDone (m : Fin 2) (lenNs : Nat)
  /-- R142 -/ | quiesceTimeout (m : Fin 2)
  /-- R143 -/ | migCommit (m : Fin 2)
  /-- R156 -/ | homeRequestAccept (n : SliceId)
  /-- R159 -/ | rdS (n : SliceId) (m : HomeMsg)
  /-- R159 -/ | rdA (n : SliceId) (m : HomeMsg)
  /-- R159 -/ | rdI (n : SliceId) (m : HomeMsg)
  /-- R159 -/ | invA (n : SliceId) (m : HomeMsg)
  /-- R156 -/ | wb (n : SliceId) (m : HomeMsg)
  /-- R159 -/ | wr (n : SliceId) (m : HomeMsg)
  /-- R159 -/ | cln (n : SliceId) (m : HomeMsg)
  /-- R154 -/ | nop (n : SliceId) (m : HomeMsg)
  /-- R177 -/ | atom (n : SliceId) (m : HomeMsg)
  /-- R163 -/ | conf (n : SliceId) (m : HomeMsg)
  /-- R160 -/ | rsp (n : SliceId) (m : HomeMsg)
  /-- R160 -/ | pd (n : SliceId) (m : HomeMsg)
  /-- R160 -/ | pc (n : SliceId) (m : HomeMsg)
  /-- R156 -/ | requestOrdered (n : SliceId) (lk : BitVec 54)
  /-- R165 -/ | carryQueueAllocate (n : SliceId) (set : Fin 262144)
  /-- R153 -/ | hmapWrite (n : SliceId) (b : Fin 64) (v : Word)
  /-- R169 -/ | rfConvert (v : Word)
  /-- R169 -/ | rfConvertDone
  /-- R172 -/ | scrubPass (n : SliceId) (errs : List TallyErr)
  /-- R174 -/ | departureSweepDone (p : PortId)
  /-- R177 -/ | atomicDone (n : SliceId) (lk : BitVec 54)
  /-- R177 -/ | atomBoardIdle (n : SliceId) (lk : BitVec 54)
  /-- R180 -/ | tallyProbe (n : SliceId) (v : Word)
  /-- R184 -/ | windowDescriptor (f : FnId) (w : WinId) (aligned : Bool) (d : Line)
  /-- R185 -/ | closeDoorbell (f : FnId) (w : WinId)
  /-- R186 -/ | slotRegistration (f : FnId) (w : WinId) (s : Fin 512) (whole : Bool) (d : BitVec 128)
  /-- R187 -/ | contribution (f : FnId) (w : WinId) (s : Fin 512) (first : Fin 64) (whole : Bool) (poison : Bool) (lines : List Line)
  /-- R181 -/ | bar2StrayWrite (f : FnId) (offset : BitVec 31)
  /-- R194 -/ | resultWritesDone (w : WinId)
  /-- R196 -/ | windowTimerExpiry (w : WinId)
  /-- R201 -/ | farAtomicCommand (f : FnId) (engine1 : Bool) (aligned : Bool) (d : Line)
  /-- R208 -/ | sqDoorbell (f : FnId) (q : Fin 4) (v : Word)
  /-- R208 -/ | cqDoorbell (f : FnId) (v : Word)
  /-- R209 -/ | descriptorFetch (f : FnId) (q : Fin 4) (ds : List Line)
  /-- R211 -/ | copy (f : FnId) (q : Fin 4) (idx : Fin 4096) (src : List Byte) (bad : List Nat)
  /-- R211 -/ | fill (f : FnId) (q : Fin 4) (idx : Fin 4096)
  /-- R211 -/ | zero (f : FnId) (q : Fin 4) (idx : Fin 4096)
  /-- R211 -/ | crc (f : FnId) (q : Fin 4) (idx : Fin 4096) (src : List Byte)
  /-- R211 -/ | compare (f : FnId) (q : Fin 4) (idx : Fin 4096) (src dst : List Byte)
  /-- R212 -/ | atomic (f : FnId) (q : Fin 4) (idx : Fin 4096)
  /-- R212 -/ | reKey (r : Fin 2) (tc : TcId)
  /-- R212 -/ | migrate (m : Fin 2) (block : Nat) (tc : TcId)
  /-- R213 -/ | descriptorDone (f : FnId) (q : Fin 4) (idx : Fin 4096) (status : Fin 11) (bytes : Nat)
  /-- R210 -/ | cqEntryWrite (f : FnId)
  /-- R214 -/ | cqCoalesceTimeout (f : FnId)
  /-- R223 -/ | queueEnable (f : FnId) (q : QueueSel) (v : Word)
  /-- R216 -/ | fcfgWrite (f : FnId) (v : Word)
  /-- R217 -/ | freeze (v : Word)
  /-- R217 -/ | freezeComplete
  /-- R218 -/ | save (v : Word)
  /-- R218 -/ | restore (v : Word) (b : VfBlob)
  /-- R217 -/ | unfreeze (v : Word)
  /-- R217 -/ | freezeDiscard (v : Word)
  /-- R219 -/ | functionReset (f : FnId) (c : FnResetCause)
  /-- R221 -/ | cryptoErase (v : Word)
  /-- R221 -/ | eraseZeroDone
  /-- R227 -/ | codewordReceived (n : BlkId) (correctable : Bool) (corrected : List (Fin 9))
  /-- R233 -/ | dataBead (n : BlkId) (h : BeadHdr) (pkts : List LinkPkt)
  /-- R230 -/ | beadCrcFail (n : BlkId)
  /-- R230 -/ | idleBead (n : BlkId) (h : BeadHdr) (credits : List (BitVec 12))
  /-- R235 -/ | retransmitTimeout (n : BlkId)
  /-- R241 -/ | hello (n : BlkId) (cseq : BitVec 8) (id : Fin 8) (link : Fin 8) (stepping : Fin 16) (domain : Word) (mcand coarse : Bool) (hmapCrc : Word) (nonce : BitVec 64)
  /-- R241 -/ | helloAck (n : BlkId) (cseq : BitVec 8) (macOk : Bool)
  /-- R243 -/ | laneSub (n : BlkId) (cseq : BitVec 8) (pos : Fin 8) (cwcnt : BitVec 12)
  /-- R243 -/ | laneSubAck (n : BlkId) (cseq : BitVec 8) (pos : Fin 8) (cwcnt : BitVec 12)
  /-- R244 -/ | handoff (n : BlkId) (cseq : BitVec 8) (failed : Fin 8) (rxexp : BitVec 16)
  /-- R244 -/ | handoffAck (n : BlkId) (cseq : BitVec 8) (failed : Fin 8) (rxexp : BitVec 16)
  /-- R242 -/ | topo (n : BlkId) (bitmap : BitVec 8)
  /-- R248 -/ | depart (n : BlkId) (cseq : BitVec 8) (dhn : BitVec 9)
  /-- R248 -/ | departDone (n : BlkId) (cseq : BitVec 8) (dhn : BitVec 9)
  /-- R251 -/ | masterXfer (n : BlkId) (cseq : BitVec 8) (id : Fin 8) (time : Nat)
  /-- R251 -/ | masterChange
  /-- R252 -/ | sync (n : BlkId) (t : TimeBead)
  /-- R252 -/ | dreq (n : BlkId) (t : TimeBead)
  /-- R252 -/ | drsp (n : BlkId) (t : TimeBead)
  /-- R252 -/ | timeBeadSend (n : BlkId)
  /-- R242 -/ | topoSend
  /-- R242 -/ | ctrlResend (n : BlkId)
  /-- R242 -/ | ctrlTimeout (n : BlkId)
  /-- R240 -/ | blkEnable (n : BlkId) (v : Word)
  /-- R240 -/ | trainComplete (n : BlkId) (locked : BitVec 9)
  /-- R240 -/ | blkStateTimeout (n : BlkId)
  /-- R240 -/ | blkRetryInterval (n : BlkId)
  /-- R243 -/ | laneLockLoss (n : BlkId) (l : Fin 9)
  /-- R243 -/ | laneErrorWindow (n : BlkId) (l : Fin 9)
  /-- R243 -/ | laneSubCommand (n : BlkId) (v : Word)
  /-- R243 -/ | spareLaneFail (n : BlkId)
  /-- R244 -/ | linkHandoffCommand (n : BlkId) (v : Word)
  /-- R246 -/ | linkSetFenceDone (d : Fin 8)
  /-- R250 -/ | unreachableTimeout (d : Fin 8)
  /-- R258 -/ | noiseSourceFail (src1 : Bool)
  /-- R262 -/ | domainKeySet (session : Nat) (key : BitVec 256)
  /-- R266 -/ | rotArm (r : Fin 2) (v : Word)
  /-- R292 -/ | rctlCancel (r : Fin 2) (v : Word)
  /-- R267 -/ | rotTimeReached (r : Fin 2)
  /-- R268 -/ | rekeyBlockDone (r : Fin 2)
  /-- R268 -/ | rotDrainDone (r : Fin 2)
  /-- R272 -/ | ideKm (p : PortId) (session : Nat) (cachemem : Bool) (kset : Bool) (key : Nat)
  /-- R271 -/ | kSetGo (p : PortId) (cachemem : Bool) (kset : Bool)
  /-- R273 -/ | ideCheckFail (p : PortId) (cachemem : Bool)
  /-- R277 -/ | keyExchange (doe : Nat)
  /-- R276 -/ | getMeasurements (doe : Nat) (index : Nat)
  /-- R275 -/ | spdmRequest (doe : Nat) (code : Nat)
  /-- R259 -/ | endSession (session : Nat)
  /-- R259 -/ | heartbeatTimeout (session : Nat)
  /-- R282 -/ | fvClear (v : Word)
  /-- R283 -/ | actCommit (v : Word)
  /-- R283 -/ | stagingReloadDone
  /-- R284 -/ | actDrainDone
  /-- R286 -/ | lcArm (m : Master) (v : Word)
  /-- R286 -/ | lcArmExpiry
  /-- R288 -/ | lcGo (m : Master) (v : Word) (token : Bool) (fuseOk : Bool)
  /-- R289 -/ | dapAccess (write : Bool) (pool : Bool) (ld : Fin 4096) (addr : BitVec 52) (v : Line)
  /-- R295 -/ | slotTick (n : SlotId) (s : SlotSample)
  /-- R296 -/ | seatingDetected (n : SlotId)
  /-- R297 -/ | qualifyComplete (n : SlotId)
  /-- R298 -/ | insertionDelayEnd (n : SlotId)
  /-- R299 -/ | seatingLost (n : SlotId)
  /-- R300 -/ | inrushTimeout (n : SlotId)
  /-- R301 -/ | faultTimerExpiry (n : SlotId)
  /-- R303 -/ | fastTrip (n : SlotId)
  /-- R302 -/ | retryTimerEnd (n : SlotId)
  /-- R304 -/ | pgDelayEnd (n : SlotId)
  /-- R304 -/ | warnClear (n : SlotId)
  /-- R302 -/ | retriesClear (n : SlotId)
  /-- R306 -/ | energyLimit (n : SlotId)
  /-- R307 -/ | fetDegraded (n : SlotId)
  /-- R307 -/ | fetShort (n : SlotId)
  /-- R308 -/ | dischargeTimeout (n : SlotId)
  /-- R298 -/ | slotOn (n : SlotId) (v : Word)
  /-- R298 -/ | slotOnAt (n : SlotId) (v : Word)
  /-- R298 -/ | onatReached (n : SlotId)
  /-- R309 -/ | slotOff (n : SlotId) (v : Word)
  /-- R307 -/ | slotClear (n : SlotId) (v : Word)
  /-- R306 -/ | slotApply (n : SlotId) (v : Word)
  /-- R310 -/ | vinEarlyWarning (vin : Fin 4096)
  /-- R310 -/ | vinLockout (vin : Fin 4096)
  /-- R310 -/ | slotDiePowerOn (vin : Fin 4096)
  /-- R314 -/ | thresholdWrite (thr1 : Bool) (v : Word)
  /-- R317 -/ | errorRecord (r : ErrRec)
  /-- R315 -/ | recordMerge (r : ErrRec)
  /-- R316 -/ | errorLineEdge (line : Fin 36) (why : LineCause)
  /-- R324 -/ | stormEnd (src : Fin 512)
  /-- R325 -/ | faultnQuietRelease
  /-- R325 -/ | faultnClr (v : Word)
  /-- R319 -/ | fltRheadWrite (v : Word)
  /-- R329 -/ | coreHeartbeat (c : Fin 5)
  /-- R329 -/ | heartbeatLoss (c : Fin 5)
  /-- R328 -/ | bringInComplete (cls : Fin 6) (i : Nat)
  /-- R333 -/ | fenceRelease (v : Word)
  /-- R333 -/ | releaseTestDone (pass : Bool)
  /-- R453 -/ | releaseTimeout
  /-- R340 -/ | eventRaised (src : Fin 1536) (cause : Fin 32) (payload : Word)
  /-- R343 -/ | claim (m : Master) (c : Fin 5)
  /-- R344 -/ | complete (m : Master) (c : Fin 5) (v : Word)
  /-- R346 -/ | ringRecordWrite
  /-- R346 -/ | ringHeadWrite (v : Word)
  /-- R346 -/ | ringCtlWrite (v : Word)
  /-- R348 -/ | holdoffEnd (g : Fin 24) (ring : Bool)
  /-- R349 -/ | wakeEdge (line : Fin 37) (stopped : Bool)
  /-- R349 -/ | wakeEvent (line : Fin 37)
  /-- R354 -/ | perfSelWrite (i : Fin 384) (k : Fin 8) (v : Word)
  /-- R355 -/ | counterOverflow (i : Fin 384) (k : Fin 8)
  /-- R358 -/ | perfFreeze (v : Word)
  /-- R358 -/ | freezeBoundary
  /-- R358 -/ | snapshot
  /-- R359 -/ | bwWindowEnd
  /-- R361 -/ | sampleRecord (req : Nat) (latNs homeLat poolLat : Nat)
  /-- R361 -/ | tsEnable (v : Word)
  /-- R371 -/ | bootRelease (v : Word)
  /-- R373 -/ | jreset (v : Word)
  /-- R454 -/ | pageProgramDone
  /-- R378 -/ | recordReadback (matches_ : Bool)
  /-- R380 -/ | compactionStart
  /-- R380 -/ | compact (v : Word)
  /-- R380 -/ | compactionSwitch
  /-- R382 -/ | pwrfail
  /-- R382 -/ | sealRelease
  /-- R383 -/ | policySubmit (v : Word)
  /-- R384 -/ | update (v : Word) (img : Image)
  /-- R384 -/ | updateDone (ok : Bool)
  /-- R392 -/ | dirQueue (d : Decide)
  /-- R392 -/ | dirThrottle (d : Decide) (mask : BitVec 64)
  /-- R392 -/ | slotGo (d : Decide)
  /-- R392 -/ | slotDeny (d : Decide)
  /-- R392 -/ | eqAccept (d : Decide)
  /-- R392 -/ | eqRedo (d : Decide) (preset : Fin 256)
  /-- R392 -/ | eqOverride (d : Decide) (taps : List (Nat × Nat))
  /-- R323 -/ | ucRecover (d : Decide)
  /-- R391 -/ | ucRecoverNodec (via : Via) (ld : Nat)
  /-- R392 -/ | ucKeep (d : Decide)
  /-- R392 -/ | migGo (d : Decide)
  /-- R392 -/ | migPass (d : Decide)
  /-- R392 -/ | migAbort (d : Decide)
  /-- R392 -/ | spareGo (d : Decide)
  /-- R392 -/ | spareHold (d : Decide)
  /-- R392 -/ | rotGo (d : Decide)
  /-- R392 -/ | rotDefer (d : Decide) (time : BitVec 64)
  /-- R392 -/ | rotCancel (d : Decide)
  /-- R392 -/ | sumExtend (d : Decide) (us : Nat)
  /-- R392 -/ | sumPublish (d : Decide)
  /-- R392 -/ | sumAbort (d : Decide)
  /-- R394 -/ | ownerKeySet (via : Via) (hash : BitVec 384) (fuseOk : Bool)
  /-- R395 -/ | mctpMessage (fmApi : Bool)
  /-- R398 -/ | nocRequestInject (r : Fin 36) (q : NocRequest)
  /-- R402 -/ | cdcOverrun (crossing : Fin 256) (unit : ErrRec)
  /-- R399 -/ | powerDownStart (d : Fin 13)
  /-- R400 -/ | powerDownAbort (d : Fin 13)
  /-- R400 -/ | pointOfNoReturn (d : Fin 13)
  /-- R400 -/ | minOffExpiry (d : Fin 13)
  /-- R400 -/ | domainOn (d : Fin 13)
  /-- R410 -/ | domainWake (d : Fin 13) (v : Word)
  /-- R403 -/ | trefLoss (pps : Bool)
  /-- R403 -/ | trefLock
  /-- R404 -/ | ppsEdge (second : Nat)
  /-- R404 -/ | timeStep (v : Word)
  /-- R404 -/ | timeSlew (v : Word)
  /-- R405 -/ | ppsOutSecond
  /-- R406 -/ | ptmRequest (p : PortId)
  /-- R417 -/ | fmPerst
  /-- R442 -/ | extest
  /-- R442 -/ | idcode
  /-- R442 -/ | samplePreload
  /-- R442 -/ | clamp
  /-- R442 -/ | highz
  /-- R442 -/ | extestPulse
  /-- R442 -/ | extestTrain
  /-- R289 -/ | dapacc
  /-- R442 -/ | bypass
  /-- R444 -/ | jtagDeselect
  /-- R445 -/ | loopbackNear (u : Fin 41) (v : Word)
  /-- R445 -/ | loopbackFar (u : Fin 41) (v : Word)
  /-- R445 -/ | loopbackLead (u : Fin 41) (v : Word)
  /-- R446 -/ | patternControl (u : Fin 41) (v : Word)
  /-- R449 -/ | injectArm (v : Word)
  /-- R47 -/ | linkRecovery (p : PortId) (move : RecoveryMove)
  /-- R55 -/ | columnPllLock (c : ColId)
  /-- R345 -/ | fmPortLinkUp
  /-- R380 -/ | blockEraseDone
  /-- R111 -/ | linkCreditUpdate (p : PortId) (list : Fin 4) (hdr data : Nat)
  /-- R446 -/ | patternCheckLock (u : Fin 41) (l : Fin 16) (lock : Bool)
  deriving DecidableEq, Repr

end Sys2Proof
end

