-- ==== Sys2Proof/Decode.lean ====
section
/-! DEFINITION. The command that a word of the table spells. The table of operations and events gives no row any bits: its rows are commands that reach the device over its pins, links and management interface, and none has an encoding. So no word spells a command. -/

namespace Sys2Proof

/-- The command that a word of `nbits` bits spells: none, as the table gives no row any bits. -/
def decodeTableWord (_nbits _w : Nat) : Option Instr := none

end Sys2Proof
end

