-- ==== Sys2Proof/Config.lean ====
section
/-! DEFINITION. What the spec leaves to the device or does not state: free values, of which nothing can be proved. -/

namespace Sys2Proof.Config

/-- The stream of free values: the step reads the next one where the spec states no value (log entry on free values). -/
opaque free : Nat → BitVec 512

/-- What AES-XTS decryption gives under a key or tweak other than the one that encrypted (R263): key and tweak of the decryption, then of the cipher text. -/
opaque garble : Nat → Nat → Nat → Nat → BitVec 512 → BitVec 512

/-- SHA-384 over a sequence of values (R276): kept uninterpreted. -/
opaque digest : List Nat → BitVec 384

/-- The transmitter coefficients of a preset at a rate: pre-cursor and post-cursor (R42 leaves them to the PCIe rules). -/
opaque presetPre : Nat → Nat → Nat
opaque presetPost : Nat → Nat → Nat

/-- The score of a set of eyes, as widths and heights (R48, R51): the spec names a worst eye and a best-scoring set and gives no measure. -/
opaque eyeScore : List (Nat × Nat) → Nat

/-- The image and the blob that the device reads from the fabric manager's memory when a write of UPDCTL or FRZCTL reaches it as a plain register write (R218, R384): that memory lies outside the device. -/
opaque freeImage : Nat → Image
opaque freeBlob : Nat → VfBlob

end Sys2Proof.Config
end

