-- ==== Sys2Proof/Machine/RegMap.lean ====
section
/-! DEFINITION. The register map: one descriptor per field of every register table of the spec, with its place in the management space (R431), width, reset value (R14), access code (R11) and reset class (R13). Function registers (R223) lie in the BAR0 of their function; they stand here above bit address 8 * 2^32, one 64 KiB window per function. -/

namespace Sys2Proof.Machine

/-- Access codes (R11). -/
inductive Acc where
  | rw | ro | w1c | rc | wo
  deriving DecidableEq, Repr

/-- Reset classes (R13). -/
inductive Cls where
  | cold | warm | block | link
  deriving DecidableEq, Repr

/-- The Reset column (R14). The four named forms are those whose value depends on the instance (R255, R336). -/
inductive Rst where
  | const (n : Nat) | laneState | lanePos | unitState | unitRole
  deriving DecidableEq, Repr

/-- A field of a register, or of an array of registers with up to two indexes. `base` is the bit address of bit 0 of the field in instance 0; `si`, `sj` are the strides of the two indexes in bits and `ni`, `nj` their counts. -/
structure Ent where
  base : Nat
  w : Nat
  rst : Rst
  acc : Acc
  cls : Cls
  si : Nat
  ni : Nat
  sj : Nat
  nj : Nat
  /-- The place of the field in `tabAll`. -/
  ix : Nat
  deriving DecidableEq, Repr

/-- The bit address of one instance of the field. Every use names an index below its count; the remainder keeps the key of any other index inside the field's own array. -/
def Ent.key (e : Ent) (i j : Nat) : Nat := e.base + e.si * (i % e.ni) + e.sj * (j % e.nj)

/-- The reset value of one instance. Unit class 0 is planes, 1 cores and 2 Beamlink lanes (R336). -/
def Ent.reset (e : Ent) (i j : Nat) : Nat :=
  match e.rst with
  | .const n => n
  | .laneState => if j = 8 then 1 else 0
  | .lanePos => if j < 8 then j else 0
  | .unitState => if (i ≤ 1 ∧ j = 4) ∨ (i = 2 ∧ j % 9 = 8) then 1 else 0
  | .unitRole => if i ≤ 1 ∧ j < 4 then j else 0


/- `COL.CFG`, R58 -/
def COL.CFG.BIFUR : Ent := ⟨268435456, 2, (.const 0), .rw, .cold, 1048576, 32, 0, 1, 391⟩
def COL.CFG.CSLEEP_EN : Ent := ⟨268435458, 1, (.const 0), .rw, .cold, 1048576, 32, 0, 1, 392⟩
def COL.CFG.MAXRATE : Ent := ⟨268435459, 3, (.const 0), .rw, .cold, 1048576, 32, 0, 1, 393⟩
def COL.CFG.PRECODE : Ent := ⟨268435462, 1, (.const 0), .rw, .cold, 1048576, 32, 0, 1, 394⟩
def COL.CFG.APPLY : Ent := ⟨268435463, 1, (.const 0), .wo, .cold, 1048576, 32, 0, 1, 395⟩

/- `COL.STAT`, R58 -/
def COL.STAT.CSTATE : Ent := ⟨268435488, 3, (.const 0), .ro, .cold, 1048576, 32, 0, 1, 396⟩
def COL.STAT.PLL_LOCK : Ent := ⟨268435491, 1, (.const 0), .ro, .cold, 1048576, 32, 0, 1, 397⟩
def COL.STAT.CFG_ERR : Ent := ⟨268435492, 1, (.const 0), .w1c, .cold, 1048576, 32, 0, 1, 398⟩
def COL.STAT.BORROWED : Ent := ⟨268435493, 1, (.const 0), .ro, .cold, 1048576, 32, 0, 1, 399⟩

/- `COL.EQPOL`, R58 -/
def COL.EQPOL.MINW_NRZ : Ent := ⟨268435520, 8, (.const 20), .rw, .cold, 1048576, 32, 0, 1, 400⟩
def COL.EQPOL.MINH_NRZ : Ent := ⟨268435528, 8, (.const 16), .rw, .cold, 1048576, 32, 0, 1, 401⟩
def COL.EQPOL.MINW_PAM4 : Ent := ⟨268435536, 8, (.const 10), .rw, .cold, 1048576, 32, 0, 1, 402⟩
def COL.EQPOL.MINH_PAM4 : Ent := ⟨268435544, 8, (.const 8), .rw, .cold, 1048576, 32, 0, 1, 403⟩

/- `COL.EYECTL`, R58 -/
def COL.EYECTL.LANE : Ent := ⟨268435584, 4, (.const 0), .rw, .warm, 1048576, 32, 0, 1, 404⟩
def COL.EYECTL.EYE : Ent := ⟨268435588, 2, (.const 0), .rw, .warm, 1048576, 32, 0, 1, 405⟩
def COL.EYECTL.DWELL : Ent := ⟨268435590, 5, (.const 20), .rw, .warm, 1048576, 32, 0, 1, 406⟩
def COL.EYECTL.TDEC : Ent := ⟨268435595, 2, (.const 0), .rw, .warm, 1048576, 32, 0, 1, 407⟩
def COL.EYECTL.VDEC : Ent := ⟨268435597, 2, (.const 0), .rw, .warm, 1048576, 32, 0, 1, 408⟩
def COL.EYECTL.START : Ent := ⟨268435599, 1, (.const 0), .wo, .warm, 1048576, 32, 0, 1, 409⟩
def COL.EYECTL.ABORT : Ent := ⟨268435600, 1, (.const 0), .wo, .warm, 1048576, 32, 0, 1, 410⟩

/- `COL.EYESTAT`, R58 -/
def COL.EYESTAT.STATE : Ent := ⟨268435616, 3, (.const 0), .ro, .warm, 1048576, 32, 0, 1, 411⟩
def COL.EYESTAT.POINTS : Ent := ⟨268435619, 14, (.const 0), .ro, .warm, 1048576, 32, 0, 1, 412⟩

/- `COL.TRN.TRNCTL`, R58 -/
def COL.TRN.TRNCTL.EN : Ent := ⟨268437504, 1, (.const 0), .rw, .cold, 1048576, 32, 128, 4, 413⟩
def COL.TRN.TRNCTL.RETRAIN : Ent := ⟨268437505, 1, (.const 0), .wo, .cold, 1048576, 32, 128, 4, 414⟩
def COL.TRN.TRNCTL.REV_FORCE : Ent := ⟨268437506, 2, (.const 0), .rw, .cold, 1048576, 32, 128, 4, 415⟩
def COL.TRN.TRNCTL.SRIS : Ent := ⟨268437508, 1, (.const 0), .rw, .cold, 1048576, 32, 128, 4, 416⟩
def COL.TRN.TRNCTL.RETRY_INT : Ent := ⟨268437509, 8, (.const 10), .rw, .cold, 1048576, 32, 128, 4, 417⟩

/- `COL.TRN.TRNSTAT`, R58 -/
def COL.TRN.TRNSTAT.LTSSM : Ent := ⟨268437536, 6, (.const 0), .ro, .link, 1048576, 32, 128, 4, 418⟩
def COL.TRN.TRNSTAT.RATE : Ent := ⟨268437542, 3, (.const 0), .ro, .link, 1048576, 32, 128, 4, 419⟩
def COL.TRN.TRNSTAT.WIDTH : Ent := ⟨268437545, 5, (.const 0), .ro, .link, 1048576, 32, 128, 4, 420⟩
def COL.TRN.TRNSTAT.REVERSED : Ent := ⟨268437550, 1, (.const 0), .ro, .link, 1048576, 32, 128, 4, 421⟩
def COL.TRN.TRNSTAT.EQ_HELD : Ent := ⟨268437551, 1, (.const 0), .ro, .link, 1048576, 32, 128, 4, 422⟩
def COL.TRN.TRNSTAT.ATTEMPTS : Ent := ⟨268437552, 16, (.const 0), .rc, .block, 1048576, 32, 128, 4, 423⟩

/- `COL.LANE.LCTL`, R58 -/
def COL.LANE.LCTL.POL_FORCE : Ent := ⟨268468224, 2, (.const 0), .rw, .cold, 1048576, 32, 512, 16, 424⟩
def COL.LANE.LCTL.OVR_EN : Ent := ⟨268468226, 1, (.const 0), .rw, .cold, 1048576, 32, 512, 16, 425⟩
def COL.LANE.LCTL.OVR_PRE : Ent := ⟨268468227, 6, (.const 0), .rw, .cold, 1048576, 32, 512, 16, 426⟩
def COL.LANE.LCTL.OVR_POST : Ent := ⟨268468233, 6, (.const 0), .rw, .cold, 1048576, 32, 512, 16, 427⟩
def COL.LANE.LCTL.OVR_APPLY : Ent := ⟨268468239, 1, (.const 0), .wo, .cold, 1048576, 32, 512, 16, 428⟩
def COL.LANE.LCTL.OVR_ERR : Ent := ⟨268468240, 1, (.const 0), .w1c, .cold, 1048576, 32, 512, 16, 429⟩

/- `COL.LANE.LSTAT`, R58 -/
def COL.LANE.LSTAT.PRE : Ent := ⟨268468256, 6, (.const 0), .ro, .link, 1048576, 32, 512, 16, 430⟩
def COL.LANE.LSTAT.MAIN : Ent := ⟨268468262, 7, (.const 64), .ro, .link, 1048576, 32, 512, 16, 431⟩
def COL.LANE.LSTAT.POST : Ent := ⟨268468269, 6, (.const 0), .ro, .link, 1048576, 32, 512, 16, 432⟩
def COL.LANE.LSTAT.PRESET : Ent := ⟨268468275, 4, (.const 15), .ro, .link, 1048576, 32, 512, 16, 433⟩
def COL.LANE.LSTAT.POL_INV : Ent := ⟨268468279, 1, (.const 0), .ro, .link, 1048576, 32, 512, 16, 434⟩
def COL.LANE.LSTAT.LOCK : Ent := ⟨268468280, 1, (.const 0), .ro, .link, 1048576, 32, 512, 16, 435⟩
def COL.LANE.LSTAT.FINAL : Ent := ⟨268468281, 1, (.const 0), .ro, .link, 1048576, 32, 512, 16, 436⟩

/- `COL.LANE.RXEQ`, R58 -/
def COL.LANE.RXEQ.CTLE : Ent := ⟨268468288, 4, (.const 0), .ro, .link, 1048576, 32, 512, 16, 437⟩
def COL.LANE.RXEQ.DFE1 : Ent := ⟨268468292, 8, (.const 0), .ro, .link, 1048576, 32, 512, 16, 438⟩
def COL.LANE.RXEQ.ADAPT : Ent := ⟨268468300, 1, (.const 0), .ro, .link, 1048576, 32, 512, 16, 439⟩

/- `COL.LANE.LERR`, R58 -/
def COL.LANE.LERR.CODE_ERR : Ent := ⟨268468320, 16, (.const 0), .rc, .block, 1048576, 32, 512, 16, 440⟩

/- `COL.LANE.QEYE`, R58 -/
def COL.LANE.QEYE.WIDTH : Ent := ⟨268468352, 7, (.const 0), .ro, .link, 1048576, 32, 512, 16, 441⟩
def COL.LANE.QEYE.HEIGHT : Ent := ⟨268468359, 8, (.const 0), .ro, .link, 1048576, 32, 512, 16, 442⟩
def COL.LANE.QEYE.EYE_WORST : Ent := ⟨268468367, 2, (.const 0), .ro, .link, 1048576, 32, 512, 16, 443⟩
def COL.LANE.QEYE.VALID : Ent := ⟨268468369, 1, (.const 0), .ro, .link, 1048576, 32, 512, 16, 444⟩

/- `COL.EYEDATA`, R58 -/
def COL.EYEDATA.COUNT : Ent := ⟨268959744, 24, (.const 0), .ro, .warm, 1048576, 32, 32, 8192, 445⟩
def COL.EYEDATA.SAT : Ent := ⟨268959768, 1, (.const 0), .ro, .warm, 1048576, 32, 32, 8192, 446⟩
def COL.EYEDATA.VALID : Ent := ⟨268959769, 1, (.const 0), .ro, .warm, 1048576, 32, 32, 8192, 447⟩

/- `PORT.CFG`, R80 -/
def PORT.CFG.ROLE : Ent := ⟨134217728, 2, (.const 0), .rw, .cold, 2097152, 64, 0, 1, 448⟩
def PORT.CFG.CXL_EN : Ent := ⟨134217730, 1, (.const 0), .rw, .cold, 2097152, 64, 0, 1, 449⟩
def PORT.CFG.MEM_EN : Ent := ⟨134217731, 1, (.const 0), .rw, .cold, 2097152, 64, 0, 1, 450⟩
def PORT.CFG.CACHE_EN : Ent := ⟨134217732, 1, (.const 0), .rw, .cold, 2097152, 64, 0, 1, 451⟩
def PORT.CFG.BI_EN : Ent := ⟨134217733, 1, (.const 0), .rw, .cold, 2097152, 64, 0, 1, 452⟩
def PORT.CFG.LOPT_EN : Ent := ⟨134217734, 1, (.const 0), .rw, .cold, 2097152, 64, 0, 1, 453⟩
def PORT.CFG.PTM_EN : Ent := ⟨134217735, 1, (.const 0), .rw, .cold, 2097152, 64, 0, 1, 454⟩
def PORT.CFG.POOL : Ent := ⟨134217736, 1, (.const 0), .rw, .cold, 2097152, 64, 0, 1, 455⟩

/- `PORT.STAT`, R80 -/
def PORT.STAT.PSTATE : Ent := ⟨134217760, 3, (.const 0), .ro, .warm, 2097152, 64, 0, 1, 456⟩
def PORT.STAT.PROTO : Ent := ⟨134217763, 2, (.const 0), .ro, .warm, 2097152, 64, 0, 1, 457⟩
def PORT.STAT.FLIT : Ent := ⟨134217765, 2, (.const 0), .ro, .warm, 2097152, 64, 0, 1, 458⟩
def PORT.STAT.IO : Ent := ⟨134217767, 1, (.const 0), .ro, .warm, 2097152, 64, 0, 1, 459⟩
def PORT.STAT.MEM : Ent := ⟨134217768, 1, (.const 0), .ro, .warm, 2097152, 64, 0, 1, 460⟩
def PORT.STAT.CACHE : Ent := ⟨134217769, 1, (.const 0), .ro, .warm, 2097152, 64, 0, 1, 461⟩
def PORT.STAT.BI : Ent := ⟨134217770, 1, (.const 0), .ro, .warm, 2097152, 64, 0, 1, 462⟩
def PORT.STAT.SWEEP : Ent := ⟨134217771, 1, (.const 0), .ro, .warm, 2097152, 64, 0, 1, 463⟩
def PORT.STAT.CFG_ERR : Ent := ⟨134217772, 1, (.const 0), .w1c, .warm, 2097152, 64, 0, 1, 464⟩
def PORT.STAT.CACHE_DENIED : Ent := ⟨134217773, 1, (.const 0), .ro, .warm, 2097152, 64, 0, 1, 465⟩

/- `PORT.CTL`, R80 -/
def PORT.CTL.DISABLE : Ent := ⟨134217792, 1, (.const 0), .rw, .warm, 2097152, 64, 0, 1, 466⟩
def PORT.CTL.FORCE_DOWN : Ent := ⟨134217793, 1, (.const 0), .wo, .warm, 2097152, 64, 0, 1, 467⟩

/- `PORT.ESTAT`, R80 -/
def PORT.ESTAT.DOWN_SURPRISE : Ent := ⟨134217824, 1, (.const 0), .w1c, .block, 2097152, 64, 0, 1, 468⟩
def PORT.ESTAT.DOWN_ORDERLY : Ent := ⟨134217825, 1, (.const 0), .w1c, .block, 2097152, 64, 0, 1, 469⟩
def PORT.ESTAT.DOWN_FORCED : Ent := ⟨134217826, 1, (.const 0), .w1c, .block, 2097152, 64, 0, 1, 470⟩
def PORT.ESTAT.CTO : Ent := ⟨134217827, 1, (.const 0), .w1c, .block, 2097152, 64, 0, 1, 471⟩
def PORT.ESTAT.LATE : Ent := ⟨134217828, 1, (.const 0), .w1c, .block, 2097152, 64, 0, 1, 472⟩
def PORT.ESTAT.TAG_STALL : Ent := ⟨134217829, 1, (.const 0), .w1c, .block, 2097152, 64, 0, 1, 473⟩
def PORT.ESTAT.BI_MISSING : Ent := ⟨134217830, 1, (.const 0), .w1c, .block, 2097152, 64, 0, 1, 474⟩

/- `PORT.TAGCFG`, R80 -/
def PORT.TAGCFG.RSV_IO : Ent := ⟨134217856, 10, (.const 64), .rw, .cold, 2097152, 64, 0, 1, 475⟩
def PORT.TAGCFG.RSV_MEM : Ent := ⟨134217866, 10, (.const 64), .rw, .cold, 2097152, 64, 0, 1, 476⟩
def PORT.TAGCFG.RSV_CACHE : Ent := ⟨134217876, 10, (.const 64), .rw, .cold, 2097152, 64, 0, 1, 477⟩

/- `PORT.TAGSTAT`, R80 -/
def PORT.TAGSTAT.IN_USE : Ent := ⟨134217888, 11, (.const 0), .ro, .link, 2097152, 64, 0, 1, 478⟩
def PORT.TAGSTAT.PEAK : Ent := ⟨134217899, 11, (.const 0), .rc, .link, 2097152, 64, 0, 1, 479⟩

/- `PORT.CTO`, R80 -/
def PORT.CTO.VALUE : Ent := ⟨134217920, 20, (.const 10000), .rw, .cold, 2097152, 64, 0, 1, 480⟩

/- `PORT.DLCTL`, R80 -/
def PORT.DLCTL.MODE : Ent := ⟨134217952, 2, (.const 0), .rw, .cold, 2097152, 64, 0, 1, 481⟩
def PORT.DLCTL.FORCE : Ent := ⟨134217954, 2, (.const 0), .rw, .cold, 2097152, 64, 0, 1, 482⟩

/- `PORT.FLUSH_REQ`, R80 -/
def PORT.FLUSH_REQ.COUNT : Ent := ⟨134217984, 32, (.const 0), .rc, .block, 2097152, 64, 0, 1, 483⟩

/- `PORT.FLUSH_RSP`, R80 -/
def PORT.FLUSH_RSP.COUNT : Ent := ⟨134218016, 32, (.const 0), .rc, .block, 2097152, 64, 0, 1, 484⟩

/- `PORT.ERRCPL`, R80 -/
def PORT.ERRCPL.COUNT : Ent := ⟨134218048, 32, (.const 0), .rc, .block, 2097152, 64, 0, 1, 485⟩

/- `PORT.CTOCNT`, R80 -/
def PORT.CTOCNT.COUNT : Ent := ⟨134218080, 32, (.const 0), .rc, .block, 2097152, 64, 0, 1, 486⟩

/- `PORT.LATECNT`, R80 -/
def PORT.LATECNT.COUNT : Ent := ⟨134218112, 32, (.const 0), .rc, .block, 2097152, 64, 0, 1, 487⟩

/- `FRAME.PLANECFG`, R109 -/
def FRAME.PLANECFG.SUB_THRESH : Ent := ⟨335544320, 16, (.const 64), .rw, .cold, 0, 1, 0, 1, 596⟩

/- `FRAME.PLANESTAT`, R109 -/
def FRAME.PLANESTAT.SPARE : Ent := ⟨335544352, 3, (.const 4), .ro, .cold, 0, 1, 0, 1, 597⟩
def FRAME.PLANESTAT.P0 : Ent := ⟨335544355, 2, (.const 0), .ro, .cold, 0, 1, 0, 1, 598⟩
def FRAME.PLANESTAT.P1 : Ent := ⟨335544357, 2, (.const 0), .ro, .cold, 0, 1, 0, 1, 599⟩
def FRAME.PLANESTAT.P2 : Ent := ⟨335544359, 2, (.const 0), .ro, .cold, 0, 1, 0, 1, 600⟩
def FRAME.PLANESTAT.P3 : Ent := ⟨335544361, 2, (.const 0), .ro, .cold, 0, 1, 0, 1, 601⟩
def FRAME.PLANESTAT.P4 : Ent := ⟨335544363, 2, (.const 1), .ro, .cold, 0, 1, 0, 1, 602⟩
def FRAME.PLANESTAT.FCNT : Ent := ⟨335544365, 2, (.const 0), .ro, .cold, 0, 1, 0, 1, 603⟩
def FRAME.PLANESTAT.NO_SPARE : Ent := ⟨335544367, 1, (.const 0), .ro, .cold, 0, 1, 0, 1, 604⟩
def FRAME.PLANESTAT.HALF_RATE : Ent := ⟨335544368, 1, (.const 0), .ro, .cold, 0, 1, 0, 1, 605⟩
def FRAME.PLANESTAT.SUBST : Ent := ⟨335544369, 1, (.const 0), .ro, .cold, 0, 1, 0, 1, 606⟩
def FRAME.PLANESTAT.SUB_ERR : Ent := ⟨335544370, 1, (.const 0), .w1c, .cold, 0, 1, 0, 1, 607⟩
def FRAME.PLANESTAT.MAPX : Ent := ⟨335544371, 12, (.const 1672), .ro, .cold, 0, 1, 0, 1, 608⟩

/- `FRAME.PLANECTL`, R109 -/
def FRAME.PLANECTL.PLANE : Ent := ⟨335544384, 3, (.const 0), .rw, .warm, 0, 1, 0, 1, 609⟩
def FRAME.PLANECTL.SUB : Ent := ⟨335544387, 1, (.const 0), .wo, .warm, 0, 1, 0, 1, 610⟩

/- `FRAME.SUBSTAT`, R109 -/
def FRAME.SUBSTAT.LAST_NS : Ent := ⟨335544416, 12, (.const 0), .ro, .cold, 0, 1, 0, 1, 611⟩
def FRAME.SUBSTAT.MAX_NS : Ent := ⟨335544428, 12, (.const 0), .rc, .cold, 0, 1, 0, 1, 612⟩
def FRAME.SUBSTAT.COUNT : Ent := ⟨335544440, 8, (.const 0), .ro, .cold, 0, 1, 0, 1, 613⟩

/- `FRAME.PLANEERR`, R109 -/
def FRAME.PLANEERR.COUNT : Ent := ⟨335544448, 16, (.const 0), .rc, .cold, 32, 5, 0, 1, 614⟩
def FRAME.PLANEERR.EPOCH : Ent := ⟨335544464, 8, (.const 0), .ro, .cold, 32, 5, 0, 1, 615⟩

/- `FRAME.XP.BUFCFG`, R109 -/
def FRAME.XP.BUFCFG.EXT_EN : Ent := ⟨336068608, 1, (.const 1), .rw, .cold, 32768, 80, 0, 1, 616⟩

/- `FRAME.XP.BUFSTAT`, R109 -/
def FRAME.XP.BUFSTAT.DED : Ent := ⟨336068640, 11, (.const 0), .ro, .warm, 32768, 80, 0, 1, 617⟩
def FRAME.XP.BUFSTAT.SHR : Ent := ⟨336068651, 11, (.const 0), .ro, .warm, 32768, 80, 0, 1, 618⟩

/- `FRAME.XP.TCSHARE`, R109 -/
def FRAME.XP.TCSHARE.MIN : Ent := ⟨336068736, 11, (.const 16), .rw, .cold, 32768, 80, 32, 8, 619⟩
def FRAME.XP.TCSHARE.MAX : Ent := ⟨336068747, 11, (.const 2047), .rw, .cold, 32768, 80, 32, 8, 620⟩

/- `FRAME.XP.CMARK`, R109 -/
def FRAME.XP.CMARK.T1 : Ent := ⟨336068992, 10, (.const 64), .rw, .cold, 32768, 80, 0, 1, 621⟩
def FRAME.XP.CMARK.T2 : Ent := ⟨336069002, 10, (.const 192), .rw, .cold, 32768, 80, 0, 1, 622⟩
def FRAME.XP.CMARK.T3 : Ent := ⟨336069012, 10, (.const 384), .rw, .cold, 32768, 80, 0, 1, 623⟩

/- `FRAME.XP.EGQ`, R109 -/
def FRAME.XP.EGQ.EQMIN : Ent := ⟨336069120, 11, (.const 32), .rw, .cold, 32768, 80, 32, 8, 624⟩
def FRAME.XP.EGQ.EQMAX : Ent := ⟨336069131, 11, (.const 512), .rw, .cold, 32768, 80, 32, 8, 625⟩

/- `FRAME.XP.ESTAT`, R109 -/
def FRAME.XP.ESTAT.CFG_ERR : Ent := ⟨336069376, 1, (.const 0), .w1c, .block, 32768, 80, 0, 1, 626⟩
def FRAME.XP.ESTAT.STALE : Ent := ⟨336069377, 1, (.const 0), .w1c, .block, 32768, 80, 0, 1, 627⟩
def FRAME.XP.ESTAT.REPLAY : Ent := ⟨336069378, 1, (.const 0), .w1c, .block, 32768, 80, 0, 1, 628⟩

/- `FRAME.XP.STALECNT`, R109 -/
def FRAME.XP.STALECNT.COUNT : Ent := ⟨336069408, 32, (.const 0), .rc, .block, 32768, 80, 0, 1, 629⟩

/- `FRAME.XP.REPLAYCNT`, R109 -/
def FRAME.XP.REPLAYCNT.COUNT : Ent := ⟨336069440, 32, (.const 0), .rc, .block, 32768, 80, 0, 1, 630⟩

/- `FRAME.XP.UNITEP`, R109 -/
def FRAME.XP.UNITEP.EPOCH : Ent := ⟨336069472, 8, (.const 0), .ro, .cold, 32768, 80, 0, 1, 631⟩

/- `FRAME.EG.SCHCFG`, R124 -/
def FRAME.EG.SCHCFG.GATE_EN : Ent := ⟨343932928, 1, (.const 0), .rw, .cold, 65536, 64, 0, 1, 632⟩
def FRAME.EG.SCHCFG.SHAPE_EN : Ent := ⟨343932929, 1, (.const 0), .rw, .cold, 65536, 64, 0, 1, 633⟩
def FRAME.EG.SCHCFG.POLICE_EN : Ent := ⟨343932930, 1, (.const 0), .rw, .cold, 65536, 64, 0, 1, 634⟩
def FRAME.EG.SCHCFG.GUARD : Ent := ⟨343932931, 8, (.const 0), .rw, .cold, 65536, 64, 0, 1, 635⟩
def FRAME.EG.SCHCFG.WINEXP : Ent := ⟨343932939, 5, (.const 20), .rw, .cold, 65536, 64, 0, 1, 636⟩

/- `FRAME.EG.SCHSTAT`, R124 -/
def FRAME.EG.SCHSTAT.UNIT_PS : Ent := ⟨343932960, 20, (.const 0), .ro, .link, 65536, 64, 0, 1, 637⟩
def FRAME.EG.SCHSTAT.U : Ent := ⟨343932980, 9, (.const 0), .ro, .link, 65536, 64, 0, 1, 638⟩

/- `FRAME.EG.ESTAT`, R124 -/
def FRAME.EG.ESTAT.CFG_ERR : Ent := ⟨343932992, 1, (.const 0), .w1c, .block, 65536, 64, 0, 1, 639⟩
def FRAME.EG.ESTAT.GCL_ERR : Ent := ⟨343932993, 1, (.const 0), .w1c, .block, 65536, 64, 0, 1, 640⟩
def FRAME.EG.ESTAT.LATE_BASE : Ent := ⟨343932994, 1, (.const 0), .w1c, .block, 65536, 64, 0, 1, 641⟩
def FRAME.EG.ESTAT.FORCED : Ent := ⟨343932995, 1, (.const 0), .w1c, .block, 65536, 64, 0, 1, 642⟩
def FRAME.EG.ESTAT.SPILL : Ent := ⟨343932996, 1, (.const 0), .w1c, .block, 65536, 64, 0, 1, 643⟩
def FRAME.EG.ESTAT.TIME_STEP : Ent := ⟨343932997, 1, (.const 0), .w1c, .block, 65536, 64, 0, 1, 644⟩

/- `FRAME.EG.OVRCNT`, R124 -/
def FRAME.EG.OVRCNT.COUNT : Ent := ⟨343933024, 32, (.const 0), .rc, .block, 65536, 64, 0, 1, 645⟩

/- `FRAME.EG.GCLBASE`, R124 -/
def FRAME.EG.GCLBASE.BASE : Ent := ⟨343933056, 64, (.const 0), .rw, .cold, 65536, 64, 128, 2, 646⟩

/- `FRAME.EG.GCLCYCLE`, R124 -/
def FRAME.EG.GCLCYCLE.CYCLE : Ent := ⟨343933120, 32, (.const 0), .rw, .cold, 65536, 64, 128, 2, 647⟩

/- `FRAME.EG.GCLLEN`, R124 -/
def FRAME.EG.GCLLEN.LEN : Ent := ⟨343933152, 9, (.const 0), .rw, .cold, 65536, 64, 128, 2, 648⟩

/- `FRAME.EG.GCLCTL`, R124 -/
def FRAME.EG.GCLCTL.SEL : Ent := ⟨343933312, 1, (.const 0), .rw, .warm, 65536, 64, 0, 1, 649⟩
def FRAME.EG.GCLCTL.COMMIT : Ent := ⟨343933313, 1, (.const 0), .wo, .warm, 65536, 64, 0, 1, 650⟩
def FRAME.EG.GCLCTL.CANCEL : Ent := ⟨343933314, 1, (.const 0), .wo, .warm, 65536, 64, 0, 1, 651⟩

/- `FRAME.EG.GCLSTAT`, R124 -/
def FRAME.EG.GCLSTAT.RUN : Ent := ⟨343933344, 1, (.const 0), .ro, .warm, 65536, 64, 0, 1, 652⟩
def FRAME.EG.GCLSTAT.LIST : Ent := ⟨343933345, 1, (.const 0), .ro, .warm, 65536, 64, 0, 1, 653⟩
def FRAME.EG.GCLSTAT.PENDING : Ent := ⟨343933346, 1, (.const 0), .ro, .warm, 65536, 64, 0, 1, 654⟩
def FRAME.EG.GCLSTAT.ENTRY : Ent := ⟨343933347, 8, (.const 0), .ro, .warm, 65536, 64, 0, 1, 655⟩
def FRAME.EG.GCLSTAT.CLOSED_TC : Ent := ⟨343933355, 8, (.const 0), .ro, .warm, 65536, 64, 0, 1, 656⟩

/- `FRAME.EG.GCL`, R124 -/
def FRAME.EG.GCL.GATES : Ent := ⟨343949312, 8, (.const 0), .rw, .cold, 65536, 64, 32, 512, 657⟩
def FRAME.EG.GCL.INTERVAL : Ent := ⟨343949320, 24, (.const 0), .rw, .cold, 65536, 64, 32, 512, 658⟩

/- `FRAME.EG.SAMPSTAT`, R124 -/
def FRAME.EG.SAMPSTAT.WINSEQ : Ent := ⟨343933376, 16, (.const 0), .ro, .warm, 65536, 64, 0, 1, 659⟩

/- `FRAME.EG.Q.QCFG`, R124 -/
def FRAME.EG.Q.QCFG.QUANTUM : Ent := ⟨343934976, 12, (.const 16), .rw, .cold, 65536, 64, 256, 8, 660⟩
def FRAME.EG.Q.QCFG.BURST : Ent := ⟨343934988, 12, (.const 64), .rw, .cold, 65536, 64, 256, 8, 661⟩

/- `FRAME.EG.Q.SHAPE`, R124 -/
def FRAME.EG.Q.SHAPE.RATE : Ent := ⟨343935008, 12, (.const 0), .rw, .cold, 65536, 64, 256, 8, 662⟩

/- `FRAME.EG.Q.POLICE`, R124 -/
def FRAME.EG.Q.POLICE.RATE : Ent := ⟨343935040, 12, (.const 0), .rw, .cold, 65536, 64, 256, 8, 663⟩

/- `FRAME.EG.Q.SHAPE`, R124 -/
def FRAME.EG.Q.SHAPE.DEPTH : Ent := ⟨343935020, 12, (.const 64), .rw, .cold, 65536, 64, 256, 8, 664⟩

/- `FRAME.EG.Q.POLICE`, R124 -/
def FRAME.EG.Q.POLICE.DEPTH : Ent := ⟨343935052, 12, (.const 64), .rw, .cold, 65536, 64, 256, 8, 665⟩

/- `FRAME.EG.Q.POLCNT`, R124 -/
def FRAME.EG.Q.POLCNT.COUNT : Ent := ⟨343935072, 32, (.const 0), .rc, .block, 65536, 64, 256, 8, 666⟩

/- `FRAME.EG.Q.DEPTH`, R124 -/
def FRAME.EG.Q.DEPTH.LIVE : Ent := ⟨343935104, 11, (.const 0), .ro, .warm, 65536, 64, 256, 8, 667⟩
def FRAME.EG.Q.DEPTH.WMAX : Ent := ⟨343935115, 11, (.const 0), .ro, .warm, 65536, 64, 256, 8, 668⟩

/- `FRAME.EG.Q.DAVG`, R124 -/
def FRAME.EG.Q.DAVG.WAVG : Ent := ⟨343935136, 11, (.const 0), .ro, .warm, 65536, 64, 256, 8, 669⟩

/- `FRAME.EG.Q.DELAYMAX`, R124 -/
def FRAME.EG.Q.DELAYMAX.NS : Ent := ⟨343935168, 32, (.const 0), .ro, .warm, 65536, 64, 256, 8, 670⟩

/- `FRAME.EG.Q.DELAYAVG`, R124 -/
def FRAME.EG.Q.DELAYAVG.NS : Ent := ⟨343935200, 32, (.const 0), .ro, .warm, 65536, 64, 256, 8, 671⟩

/- `BIND.CTL`, R148 -/
def BIND.CTL.STGCNT : Ent := ⟨402653184, 7, (.const 0), .rw, .warm, 0, 1, 0, 1, 488⟩
def BIND.CTL.COMMIT : Ent := ⟨402653191, 1, (.const 0), .wo, .warm, 0, 1, 0, 1, 489⟩
def BIND.CTL.DISCARD : Ent := ⟨402653192, 1, (.const 0), .wo, .warm, 0, 1, 0, 1, 490⟩
def BIND.CTL.UNB_TO : Ent := ⟨402653193, 8, (.const 30), .rw, .warm, 0, 1, 0, 1, 491⟩

/- `BIND.STAT`, R148 -/
def BIND.STAT.EPOCH : Ent := ⟨402653216, 8, (.const 0), .ro, .warm, 0, 1, 0, 1, 492⟩
def BIND.STAT.DONE : Ent := ⟨402653224, 1, (.const 1), .ro, .warm, 0, 1, 0, 1, 493⟩
def BIND.STAT.BUSY : Ent := ⟨402653225, 1, (.const 0), .ro, .warm, 0, 1, 0, 1, 494⟩
def BIND.STAT.RESULT : Ent := ⟨402653226, 3, (.const 0), .ro, .warm, 0, 1, 0, 1, 495⟩
def BIND.STAT.BADIDX : Ent := ⟨402653229, 6, (.const 0), .ro, .warm, 0, 1, 0, 1, 496⟩

/- `BIND.ESTAT`, R148 -/
def BIND.ESTAT.MISS : Ent := ⟨402653248, 1, (.const 0), .w1c, .block, 0, 1, 0, 1, 497⟩
def BIND.ESTAT.REJECT : Ent := ⟨402653249, 1, (.const 0), .w1c, .block, 0, 1, 0, 1, 498⟩
def BIND.ESTAT.QABORT : Ent := ⟨402653250, 1, (.const 0), .w1c, .block, 0, 1, 0, 1, 499⟩
def BIND.ESTAT.MIGFAIL : Ent := ⟨402653251, 1, (.const 0), .w1c, .block, 0, 1, 0, 1, 500⟩

/- `BIND.MISSCNT`, R148 -/
def BIND.MISSCNT.COUNT : Ent := ⟨402653280, 32, (.const 0), .rc, .block, 0, 1, 0, 1, 501⟩

/- `BIND.BT`, R148 -/
def BIND.BT.VALID : Ent := ⟨403177472, 1, (.const 0), .ro, .cold, 128, 4096, 0, 1, 502⟩
def BIND.BT.HOST : Ent := ⟨403177473, 6, (.const 0), .ro, .cold, 128, 4096, 0, 1, 503⟩
def BIND.BT.VPPB : Ent := ⟨403177479, 8, (.const 0), .ro, .cold, 128, 4096, 0, 1, 504⟩
def BIND.BT.KIND : Ent := ⟨403177487, 2, (.const 0), .ro, .cold, 128, 4096, 0, 1, 505⟩
def BIND.BT.TARGET : Ent := ⟨403177489, 12, (.const 0), .ro, .cold, 128, 4096, 0, 1, 506⟩
def BIND.BT.UNMODE : Ent := ⟨403177501, 2, (.const 0), .ro, .cold, 128, 4096, 0, 1, 507⟩
def BIND.BT.EPOCH : Ent := ⟨403177504, 8, (.const 0), .ro, .cold, 128, 4096, 0, 1, 508⟩

/- `BIND.LD`, R148 -/
def BIND.LD.VALID : Ent := ⟨403701760, 1, (.const 0), .ro, .cold, 128, 4096, 0, 1, 509⟩
def BIND.LD.STATE : Ent := ⟨403701761, 3, (.const 0), .ro, .cold, 128, 4096, 0, 1, 510⟩
def BIND.LD.POOL : Ent := ⟨403701764, 6, (.const 0), .ro, .cold, 128, 4096, 0, 1, 511⟩
def BIND.LD.LDID : Ent := ⟨403701770, 4, (.const 0), .ro, .cold, 128, 4096, 0, 1, 512⟩
def BIND.LD.MLD : Ent := ⟨403701774, 1, (.const 0), .ro, .cold, 128, 4096, 0, 1, 513⟩
def BIND.LD.SHARE : Ent := ⟨403701775, 1, (.const 0), .ro, .cold, 128, 4096, 0, 1, 514⟩
def BIND.LD.BASE : Ent := ⟨403701792, 20, (.const 0), .ro, .cold, 128, 4096, 0, 1, 515⟩
def BIND.LD.SIZE : Ent := ⟨403701824, 20, (.const 0), .ro, .cold, 128, 4096, 0, 1, 516⟩

/- `BIND.DEC`, R148 -/
def BIND.DEC.COMMITTED : Ent := ⟨404750336, 1, (.const 0), .ro, .link, 8192, 64, 256, 32, 517⟩
def BIND.DEC.LOCKED : Ent := ⟨404750337, 1, (.const 0), .ro, .link, 8192, 64, 256, 32, 518⟩
def BIND.DEC.IW : Ent := ⟨404750338, 3, (.const 0), .ro, .link, 8192, 64, 256, 32, 519⟩
def BIND.DEC.IG : Ent := ⟨404750341, 3, (.const 0), .ro, .link, 8192, 64, 256, 32, 520⟩
def BIND.DEC.BASE : Ent := ⟨404750368, 24, (.const 0), .ro, .link, 8192, 64, 256, 32, 521⟩
def BIND.DEC.SIZE : Ent := ⟨404750400, 24, (.const 0), .ro, .link, 8192, 64, 256, 32, 522⟩
def BIND.DEC.TARGET : Ent := ⟨404750464, 128, (.const 0), .ro, .link, 8192, 64, 256, 32, 523⟩

/- `BIND.MIG.MCTL`, R148 -/
def BIND.MIG.MCTL.LD : Ent := ⟨404226048, 12, (.const 0), .rw, .warm, 512, 2, 0, 1, 524⟩
def BIND.MIG.MCTL.DPORT : Ent := ⟨404226060, 6, (.const 0), .rw, .warm, 512, 2, 0, 1, 525⟩
def BIND.MIG.MCTL.DLDID : Ent := ⟨404226066, 4, (.const 0), .rw, .warm, 512, 2, 0, 1, 526⟩
def BIND.MIG.MCTL.START : Ent := ⟨404226070, 1, (.const 0), .wo, .warm, 512, 2, 0, 1, 527⟩
def BIND.MIG.MCTL.ABORT : Ent := ⟨404226071, 1, (.const 0), .wo, .warm, 512, 2, 0, 1, 528⟩

/- `BIND.MIG.MDEST`, R148 -/
def BIND.MIG.MDEST.DBASE : Ent := ⟨404226080, 20, (.const 0), .rw, .warm, 512, 2, 0, 1, 529⟩

/- `BIND.MIG.MBM`, R148 -/
def BIND.MIG.MBM.BASE : Ent := ⟨404226124, 52, (.const 0), .rw, .warm, 512, 2, 0, 1, 530⟩

/- `BIND.MIG.MCFG`, R148 -/
def BIND.MIG.MCFG.SHARE : Ent := ⟨404226176, 4, (.const 8), .rw, .warm, 512, 2, 0, 1, 531⟩
def BIND.MIG.MCFG.CONV : Ent := ⟨404226180, 8, (.const 8), .rw, .warm, 512, 2, 0, 1, 532⟩
def BIND.MIG.MCFG.MAXPASS : Ent := ⟨404226188, 4, (.const 8), .rw, .warm, 512, 2, 0, 1, 533⟩

/- `BIND.MIG.MSTAT`, R148 -/
def BIND.MIG.MSTAT.PHASE : Ent := ⟨404226208, 3, (.const 0), .ro, .warm, 512, 2, 0, 1, 534⟩
def BIND.MIG.MSTAT.PASS : Ent := ⟨404226211, 8, (.const 0), .ro, .warm, 512, 2, 0, 1, 535⟩
def BIND.MIG.MSTAT.THROTTLE : Ent := ⟨404226219, 1, (.const 0), .ro, .warm, 512, 2, 0, 1, 536⟩
def BIND.MIG.MSTAT.ERR : Ent := ⟨404226220, 1, (.const 0), .w1c, .warm, 512, 2, 0, 1, 537⟩

/- `BIND.MIG.MCURSOR`, R148 -/
def BIND.MIG.MCURSOR.OFFSET : Ent := ⟨404226240, 64, (.const 0), .ro, .warm, 512, 2, 0, 1, 538⟩

/- `BIND.MIG.MDIRTY`, R148 -/
def BIND.MIG.MDIRTY.BLOCKS : Ent := ⟨404226304, 32, (.const 0), .ro, .warm, 512, 2, 0, 1, 539⟩

/- `BIND.MIG.MQSTAT`, R148 -/
def BIND.MIG.MQSTAT.LAST_NS : Ent := ⟨404226336, 16, (.const 0), .ro, .warm, 512, 2, 0, 1, 540⟩
def BIND.MIG.MQSTAT.QABORTS : Ent := ⟨404226352, 8, (.const 0), .rc, .warm, 512, 2, 0, 1, 541⟩

/- `HOME.CFG`, R180 -/
def HOME.CFG.COARSE : Ent := ⟨536870912, 1, (.const 0), .rw, .cold, 33554432, 4, 0, 1, 545⟩
def HOME.CFG.SPEC_RD : Ent := ⟨536870913, 1, (.const 1), .rw, .cold, 33554432, 4, 0, 1, 546⟩
def HOME.CFG.BOARD_EN : Ent := ⟨536870914, 1, (.const 1), .rw, .cold, 33554432, 4, 0, 1, 547⟩

/- `HOME.STAT`, R180 -/
def HOME.STAT.OT_USE : Ent := ⟨536870944, 15, (.const 0), .ro, .warm, 33554432, 4, 0, 1, 548⟩
def HOME.STAT.CQ_USE : Ent := ⟨536870959, 9, (.const 0), .ro, .warm, 33554432, 4, 0, 1, 549⟩
def HOME.STAT.CQ_HELD : Ent := ⟨536870968, 1, (.const 0), .ro, .warm, 33554432, 4, 0, 1, 550⟩
def HOME.STAT.DEGR : Ent := ⟨536870969, 1, (.const 0), .ro, .warm, 33554432, 4, 0, 1, 551⟩
def HOME.STAT.FAILED : Ent := ⟨536870970, 1, (.const 0), .ro, .warm, 33554432, 4, 0, 1, 552⟩
def HOME.STAT.SWEEP : Ent := ⟨536870971, 1, (.const 0), .ro, .warm, 33554432, 4, 0, 1, 553⟩

/- `HOME.ESTAT`, R180 -/
def HOME.ESTAT.ECC_UE : Ent := ⟨536870976, 1, (.const 0), .w1c, .block, 33554432, 4, 0, 1, 554⟩
def HOME.ESTAT.POISONED : Ent := ⟨536870977, 1, (.const 0), .w1c, .block, 33554432, 4, 0, 1, 555⟩
def HOME.ESTAT.CQ_FULL : Ent := ⟨536870978, 1, (.const 0), .w1c, .block, 33554432, 4, 0, 1, 556⟩
def HOME.ESTAT.STALE_RSP : Ent := ⟨536870979, 1, (.const 0), .w1c, .block, 33554432, 4, 0, 1, 557⟩
def HOME.ESTAT.HMAP_MISS : Ent := ⟨536870980, 1, (.const 0), .w1c, .block, 33554432, 4, 0, 1, 558⟩
def HOME.ESTAT.RF_ERR : Ent := ⟨536870981, 1, (.const 0), .w1c, .block, 33554432, 4, 0, 1, 559⟩
def HOME.ESTAT.CFG_ERR : Ent := ⟨536870982, 1, (.const 0), .w1c, .block, 33554432, 4, 0, 1, 560⟩

/- `HOME.SCRUBCFG`, R180 -/
def HOME.SCRUBCFG.PERIOD : Ent := ⟨536871040, 16, (.const 1000), .rw, .cold, 33554432, 4, 0, 1, 561⟩

/- `HOME.SCRUBSTAT`, R180 -/
def HOME.SCRUBSTAT.PASSES : Ent := ⟨536871072, 16, (.const 0), .ro, .warm, 33554432, 4, 0, 1, 562⟩
def HOME.SCRUBSTAT.OVERRUN : Ent := ⟨536871088, 1, (.const 0), .w1c, .warm, 33554432, 4, 0, 1, 563⟩

/- `HOME.ATCFG`, R180 -/
def HOME.ATCFG.IDLE : Ent := ⟨536871104, 10, (.const 16), .rw, .cold, 33554432, 4, 0, 1, 564⟩

/- `HOME.SPARESTAT`, R180 -/
def HOME.SPARESTAT.USED : Ent := ⟨536871136, 7, (.const 0), .ro, .cold, 33554432, 4, 0, 1, 565⟩
def HOME.SPARESTAT.NONE : Ent := ⟨536871143, 1, (.const 0), .ro, .cold, 33554432, 4, 0, 1, 566⟩

/- `HOME.PROBELK`, R180 -/
def HOME.PROBELK.LK : Ent := ⟨536871168, 54, (.const 0), .rw, .warm, 33554432, 4, 0, 1, 567⟩

/- `HOME.PROBECTL`, R180 -/
def HOME.PROBECTL.GO : Ent := ⟨536871232, 1, (.const 0), .wo, .warm, 33554432, 4, 0, 1, 568⟩
def HOME.PROBECTL.DONE : Ent := ⟨536871233, 1, (.const 0), .ro, .warm, 33554432, 4, 0, 1, 569⟩
def HOME.PROBECTL.NOT_HOME : Ent := ⟨536871234, 1, (.const 0), .ro, .warm, 33554432, 4, 0, 1, 570⟩
def HOME.PROBECTL.HIT : Ent := ⟨536871235, 1, (.const 0), .ro, .warm, 33554432, 4, 0, 1, 571⟩
def HOME.PROBECTL.WAY : Ent := ⟨536871236, 4, (.const 0), .ro, .warm, 33554432, 4, 0, 1, 572⟩
def HOME.PROBECTL.SET : Ent := ⟨536871240, 18, (.const 0), .ro, .warm, 33554432, 4, 0, 1, 573⟩

/- `HOME.PROBEDATA`, R180 -/
def HOME.PROBEDATA.ENTRY : Ent := ⟨536871296, 128, (.const 0), .ro, .warm, 33554432, 4, 0, 1, 574⟩

/- `HOME.XCROSS`, R180 -/
def HOME.XCROSS.COUNT : Ent := ⟨536871424, 32, (.const 0), .rc, .block, 33554432, 4, 0, 1, 575⟩

/- `HOME.EVICTCNT`, R180 -/
def HOME.EVICTCNT.COUNT : Ent := ⟨536871456, 32, (.const 0), .rc, .block, 33554432, 4, 0, 1, 576⟩

/- `HOME.SNPCNT`, R180 -/
def HOME.SNPCNT.COUNT : Ent := ⟨536871488, 32, (.const 0), .rc, .block, 33554432, 4, 0, 1, 577⟩

/- `HOME.FWDCNT`, R180 -/
def HOME.FWDCNT.COUNT : Ent := ⟨536871520, 32, (.const 0), .rc, .block, 33554432, 4, 0, 1, 578⟩

/- `HOME.CECNT`, R180 -/
def HOME.CECNT.COUNT : Ent := ⟨536871552, 32, (.const 0), .rc, .block, 33554432, 4, 0, 1, 579⟩

/- `HOME.UECNT`, R180 -/
def HOME.UECNT.COUNT : Ent := ⟨536871584, 32, (.const 0), .rc, .block, 33554432, 4, 0, 1, 580⟩

/- `HOME.POISONCNT`, R180 -/
def HOME.POISONCNT.COUNT : Ent := ⟨536871616, 32, (.const 0), .rc, .block, 33554432, 4, 0, 1, 581⟩

/- `HOME.STALECNT`, R180 -/
def HOME.STALECNT.COUNT : Ent := ⟨536871648, 32, (.const 0), .rc, .block, 33554432, 4, 0, 1, 582⟩

/- `HOME.HMAP`, R180 -/
def HOME.HMAP.DHN : Ent := ⟨536872960, 9, (.const 0), .rw, .cold, 33554432, 4, 32, 64, 583⟩
def HOME.HMAP.VALID : Ent := ⟨536872969, 1, (.const 0), .rw, .cold, 33554432, 4, 32, 64, 584⟩

/- `HOME.RFCTL`, R180 -/
def HOME.RFCTL.LD : Ent := ⟨537395200, 12, (.const 0), .rw, .warm, 0, 1, 0, 1, 585⟩
def HOME.RFCTL.TO_SHARED : Ent := ⟨537395212, 1, (.const 0), .rw, .warm, 0, 1, 0, 1, 586⟩
def HOME.RFCTL.GO : Ent := ⟨537395213, 1, (.const 0), .wo, .warm, 0, 1, 0, 1, 587⟩

/- `HOME.RFREG`, R180 -/
def HOME.RFREG.REGION : Ent := ⟨537395232, 22, (.const 0), .rw, .warm, 0, 1, 0, 1, 588⟩

/- `HOME.RFSTAT`, R180 -/
def HOME.RFSTAT.BUSY : Ent := ⟨537395264, 1, (.const 0), .ro, .warm, 0, 1, 0, 1, 589⟩
def HOME.RFSTAT.RESULT : Ent := ⟨537395265, 2, (.const 0), .ro, .warm, 0, 1, 0, 1, 590⟩
def HOME.RFSTAT.HELD : Ent := ⟨537395267, 10, (.const 0), .ro, .warm, 0, 1, 0, 1, 591⟩

/- `HOME.RFMAP`, R180 -/
def HOME.RFMAP.BASE : Ent := ⟨537919488, 22, (.const 0), .ro, .cold, 64, 4096, 0, 1, 592⟩
def HOME.RFMAP.COUNT : Ent := ⟨537919510, 23, (.const 0), .ro, .cold, 64, 4096, 0, 1, 593⟩
def HOME.RFMAP.DEFAULT : Ent := ⟨537919533, 1, (.const 0), .ro, .cold, 64, 4096, 0, 1, 594⟩

/- `HOME.RFBITS`, R180 -/
def HOME.RFBITS.BITS : Ent := ⟨545259520, 32, (.const 0), .ro, .cold, 32, 131072, 0, 1, 595⟩

/- `SUM.CFG`, R204 -/
def SUM.CFG.ATOM_EN : Ent := ⟨1073741824, 1, (.const 1), .rw, .cold, 16777216, 2, 0, 1, 742⟩
def SUM.CFG.STRAY_EVT : Ent := ⟨1073741825, 1, (.const 0), .rw, .cold, 16777216, 2, 0, 1, 743⟩

/- `SUM.STAT`, R204 -/
def SUM.STAT.BUSYWIN : Ent := ⟨1073741856, 9, (.const 0), .ro, .warm, 16777216, 2, 0, 1, 744⟩
def SUM.STAT.QUSE : Ent := ⟨1073741865, 16, (.const 0), .ro, .warm, 16777216, 2, 0, 1, 745⟩
def SUM.STAT.DEGR : Ent := ⟨1073741881, 1, (.const 0), .ro, .warm, 16777216, 2, 0, 1, 746⟩
def SUM.STAT.FAILED : Ent := ⟨1073741882, 1, (.const 0), .ro, .warm, 16777216, 2, 0, 1, 747⟩

/- `SUM.ESTAT`, R204 -/
def SUM.ESTAT.DUP : Ent := ⟨1073741888, 1, (.const 0), .w1c, .block, 16777216, 2, 0, 1, 748⟩
def SUM.ESTAT.STRAY : Ent := ⟨1073741889, 1, (.const 0), .w1c, .block, 16777216, 2, 0, 1, 749⟩
def SUM.ESTAT.FORM : Ent := ⟨1073741890, 1, (.const 0), .w1c, .block, 16777216, 2, 0, 1, 750⟩
def SUM.ESTAT.OPEN_ERR : Ent := ⟨1073741891, 1, (.const 0), .w1c, .block, 16777216, 2, 0, 1, 751⟩
def SUM.ESTAT.TIMEOUT : Ent := ⟨1073741892, 1, (.const 0), .w1c, .block, 16777216, 2, 0, 1, 752⟩
def SUM.ESTAT.LOST : Ent := ⟨1073741893, 1, (.const 0), .w1c, .block, 16777216, 2, 0, 1, 753⟩
def SUM.ESTAT.NO_RESULT : Ent := ⟨1073741894, 1, (.const 0), .w1c, .block, 16777216, 2, 0, 1, 754⟩
def SUM.ESTAT.ATOM_ERR : Ent := ⟨1073741895, 1, (.const 0), .w1c, .block, 16777216, 2, 0, 1, 755⟩

/- `SUM.LINES`, R204 -/
def SUM.LINES.COUNT : Ent := ⟨1073741952, 32, (.const 0), .rc, .block, 16777216, 2, 0, 1, 756⟩

/- `SUM.DUPCNT`, R204 -/
def SUM.DUPCNT.COUNT : Ent := ⟨1073741984, 32, (.const 0), .rc, .block, 16777216, 2, 0, 1, 757⟩

/- `SUM.STRAYCNT`, R204 -/
def SUM.STRAYCNT.COUNT : Ent := ⟨1073742016, 32, (.const 0), .rc, .block, 16777216, 2, 0, 1, 758⟩

/- `SUM.PUBCNT`, R204 -/
def SUM.PUBCNT.COUNT : Ent := ⟨1073742048, 32, (.const 0), .rc, .block, 16777216, 2, 0, 1, 759⟩

/- `SUM.TOCNT`, R204 -/
def SUM.TOCNT.COUNT : Ent := ⟨1073742080, 32, (.const 0), .rc, .block, 16777216, 2, 0, 1, 760⟩

/- `SUM.ABORTCNT`, R204 -/
def SUM.ABORTCNT.COUNT : Ent := ⟨1073742112, 32, (.const 0), .rc, .block, 16777216, 2, 0, 1, 761⟩

/- `SUM.ATOMCNT`, R204 -/
def SUM.ATOMCNT.COUNT : Ent := ⟨1073742144, 32, (.const 0), .rc, .block, 16777216, 2, 0, 1, 762⟩

/- `SUM.ATOMERR`, R204 -/
def SUM.ATOMERR.COUNT : Ent := ⟨1073742176, 32, (.const 0), .rc, .block, 16777216, 2, 0, 1, 763⟩

/- `SUM.WIN`, R204 -/
def SUM.WIN.STATE : Ent := ⟨1073774592, 3, (.const 0), .ro, .warm, 16777216, 2, 128, 512, 764⟩
def SUM.WIN.LASTERR : Ent := ⟨1073774595, 3, (.const 0), .ro, .warm, 16777216, 2, 128, 512, 765⟩
def SUM.WIN.ARRIVED : Ent := ⟨1073774598, 10, (.const 0), .ro, .warm, 16777216, 2, 128, 512, 766⟩
def SUM.WIN.GEN : Ent := ⟨1073774608, 16, (.const 0), .ro, .warm, 16777216, 2, 128, 512, 767⟩
def SUM.WIN.REG : Ent := ⟨1073774624, 10, (.const 0), .ro, .warm, 16777216, 2, 128, 512, 768⟩
def SUM.WIN.LOSTCNT : Ent := ⟨1073774634, 10, (.const 0), .ro, .warm, 16777216, 2, 128, 512, 769⟩
def SUM.WIN.TREM : Ent := ⟨1073774656, 20, (.const 0), .ro, .warm, 16777216, 2, 128, 512, 770⟩
def SUM.WIN.QUARTERS : Ent := ⟨1073774688, 11, (.const 0), .ro, .warm, 16777216, 2, 128, 512, 771⟩

/- `SUM.GRANT`, R204 -/
def SUM.GRANT.WBASE : Ent := ⟨1074266112, 9, (.const 0), .rw, .cold, 32, 256, 0, 1, 772⟩
def SUM.GRANT.WCNT : Ent := ⟨1074266121, 10, (.const 0), .rw, .cold, 32, 256, 0, 1, 773⟩
def SUM.GRANT.OPEN : Ent := ⟨1074266131, 1, (.const 0), .rw, .cold, 32, 256, 0, 1, 774⟩
def SUM.GRANT.ATOM : Ent := ⟨1074266132, 1, (.const 0), .rw, .cold, 32, 256, 0, 1, 775⟩

/- `FN.CAP`, R223 -/
def FN.CAP.FNUM : Ent := ⟨34359738368, 8, (.const 0), .ro, .cold, 524288, 256, 0, 1, 800⟩
def FN.CAP.KIND : Ent := ⟨34359738376, 1, (.const 0), .ro, .cold, 524288, 256, 0, 1, 801⟩
def FN.CAP.MAXSQ : Ent := ⟨34359738377, 3, (.const 0), .ro, .cold, 524288, 256, 0, 1, 802⟩

/- `FN.STAT`, R223 -/
def FN.STAT.STATE : Ent := ⟨34359738400, 2, (.const 0), .ro, .block, 524288, 256, 0, 1, 803⟩
def FN.STAT.SQ_ERR : Ent := ⟨34359738402, 1, (.const 0), .w1c, .block, 524288, 256, 0, 1, 804⟩
def FN.STAT.RES_CHG : Ent := ⟨34359738403, 1, (.const 0), .w1c, .block, 524288, 256, 0, 1, 805⟩
def FN.STAT.CQ_ERR : Ent := ⟨34359738404, 1, (.const 0), .w1c, .block, 524288, 256, 0, 1, 806⟩

/- `FN.CTL`, R223 -/
def FN.CTL.EVEC : Ent := ⟨34359738432, 3, (.const 0), .rw, .block, 524288, 256, 0, 1, 807⟩
def FN.CTL.RESET : Ent := ⟨34359738435, 1, (.const 0), .wo, .block, 524288, 256, 0, 1, 808⟩

/- `FN.SQ.BASE`, R223 -/
def FN.SQ.BASE.BASE : Ent := ⟨34359740428, 52, (.const 0), .rw, .block, 524288, 256, 128, 4, 809⟩

/- `FN.CQ.BASE`, R223 -/
def FN.CQ.BASE.BASE : Ent := ⟨34359742476, 52, (.const 0), .rw, .block, 524288, 256, 0, 1, 810⟩

/- `FN.SQ.CFG`, R223 -/
def FN.SQ.CFG.EN : Ent := ⟨34359740480, 1, (.const 0), .rw, .block, 524288, 256, 128, 4, 811⟩

/- `FN.CQ.CFG`, R223 -/
def FN.CQ.CFG.EN : Ent := ⟨34359742528, 1, (.const 0), .rw, .block, 524288, 256, 0, 1, 812⟩

/- `FN.SQ.CFG`, R223 -/
def FN.SQ.CFG.LOGSIZE : Ent := ⟨34359740481, 4, (.const 4), .rw, .block, 524288, 256, 128, 4, 813⟩

/- `FN.CQ.CFG`, R223 -/
def FN.CQ.CFG.LOGSIZE : Ent := ⟨34359742529, 4, (.const 4), .rw, .block, 524288, 256, 0, 1, 814⟩
def FN.CQ.CFG.VEC : Ent := ⟨34359742533, 3, (.const 0), .rw, .block, 524288, 256, 0, 1, 815⟩
def FN.CQ.CFG.COUNT : Ent := ⟨34359742536, 8, (.const 0), .rw, .block, 524288, 256, 0, 1, 816⟩
def FN.CQ.CFG.TIME : Ent := ⟨34359742544, 10, (.const 0), .rw, .block, 524288, 256, 0, 1, 817⟩

/- `FN.SQ.STAT`, R223 -/
def FN.SQ.STAT.HEAD : Ent := ⟨34359740512, 12, (.const 0), .ro, .block, 524288, 256, 128, 4, 818⟩
def FN.SQ.STAT.STATE : Ent := ⟨34359740524, 2, (.const 0), .ro, .block, 524288, 256, 128, 4, 819⟩

/- `FN.CQ.STAT`, R223 -/
def FN.CQ.STAT.TAIL : Ent := ⟨34359742560, 14, (.const 0), .ro, .block, 524288, 256, 0, 1, 820⟩
def FN.CQ.STAT.PHASE : Ent := ⟨34359742574, 1, (.const 1), .ro, .block, 524288, 256, 0, 1, 821⟩
def FN.CQ.STAT.FULL : Ent := ⟨34359742575, 1, (.const 0), .ro, .block, 524288, 256, 0, 1, 822⟩

/- `FN.SQ.DB`, R223 -/
def FN.SQ.DB.INDEX : Ent := ⟨34359771136, 14, (.const 0), .wo, .block, 524288, 256, 32, 4, 823⟩

/- `FN.CQ.DB`, R223 -/
def FN.CQ.DB.INDEX : Ent := ⟨34359771264, 14, (.const 0), .wo, .block, 524288, 256, 0, 1, 824⟩

/- `DMV.FRZCTL`, R224 -/
def DMV.FRZCTL.FN : Ent := ⟨1107296256, 8, (.const 0), .rw, .warm, 0, 1, 0, 1, 776⟩
def DMV.FRZCTL.OP : Ent := ⟨1107296264, 3, (.const 0), .rw, .warm, 0, 1, 0, 1, 777⟩
def DMV.FRZCTL.GO : Ent := ⟨1107296267, 1, (.const 0), .wo, .warm, 0, 1, 0, 1, 778⟩

/- `DMV.FRZSTAT`, R224 -/
def DMV.FRZSTAT.BUSY : Ent := ⟨1107296288, 1, (.const 0), .ro, .warm, 0, 1, 0, 1, 779⟩
def DMV.FRZSTAT.RESULT : Ent := ⟨1107296289, 3, (.const 0), .ro, .warm, 0, 1, 0, 1, 780⟩

/- `DMV.FRZADDR`, R224 -/
def DMV.FRZADDR.ADDR : Ent := ⟨1107296332, 52, (.const 0), .rw, .warm, 0, 1, 0, 1, 781⟩

/- `DMV.ERASECTL`, R224 -/
def DMV.ERASECTL.LD : Ent := ⟨1107296384, 12, (.const 0), .rw, .warm, 0, 1, 0, 1, 782⟩
def DMV.ERASECTL.ZERO : Ent := ⟨1107296396, 1, (.const 0), .rw, .warm, 0, 1, 0, 1, 783⟩
def DMV.ERASECTL.GO : Ent := ⟨1107296397, 1, (.const 0), .wo, .warm, 0, 1, 0, 1, 784⟩

/- `DMV.ERASESTAT`, R224 -/
def DMV.ERASESTAT.BUSY : Ent := ⟨1107296416, 1, (.const 0), .ro, .warm, 0, 1, 0, 1, 785⟩
def DMV.ERASESTAT.RESULT : Ent := ⟨1107296417, 2, (.const 0), .ro, .warm, 0, 1, 0, 1, 786⟩

/- `DMV.ERRCNT`, R224 -/
def DMV.ERRCNT.COUNT : Ent := ⟨1107296448, 32, (.const 0), .rc, .block, 0, 1, 0, 1, 787⟩

/- `DMV.FN.FCFG`, R224 -/
def DMV.FN.FCFG.MAXSQ : Ent := ⟨1107329024, 3, (.const 0), .rw, .cold, 128, 256, 0, 1, 788⟩
def DMV.FN.FCFG.SHARE : Ent := ⟨1107329027, 8, (.const 0), .rw, .cold, 128, 256, 0, 1, 789⟩
def DMV.FN.FCFG.RATE : Ent := ⟨1107329035, 8, (.const 0), .rw, .cold, 128, 256, 0, 1, 790⟩

/- `DMV.FN.FSTAT`, R224 -/
def DMV.FN.FSTAT.STATE : Ent := ⟨1107329056, 2, (.const 0), .ro, .warm, 128, 256, 0, 1, 791⟩
def DMV.FN.FSTAT.BOUND : Ent := ⟨1107329058, 1, (.const 0), .ro, .warm, 128, 256, 0, 1, 792⟩
def DMV.FN.FSTAT.HOST : Ent := ⟨1107329059, 6, (.const 0), .ro, .warm, 128, 256, 0, 1, 793⟩

/- `DMV.PAP`, R224 -/
def DMV.PAP.VALID : Ent := ⟨1107820544, 1, (.const 0), .rw, .cold, 512, 256, 128, 4, 794⟩
def DMV.PAP.RD : Ent := ⟨1107820545, 1, (.const 0), .rw, .cold, 512, 256, 128, 4, 795⟩
def DMV.PAP.WR : Ent := ⟨1107820546, 1, (.const 0), .rw, .cold, 512, 256, 128, 4, 796⟩
def DMV.PAP.TFN : Ent := ⟨1107820547, 8, (.const 0), .rw, .cold, 512, 256, 128, 4, 797⟩
def DMV.PAP.SIZE : Ent := ⟨1107820576, 32, (.const 0), .rw, .cold, 512, 256, 128, 4, 798⟩
def DMV.PAP.BASE : Ent := ⟨1107820620, 52, (.const 0), .rw, .cold, 512, 256, 128, 4, 799⟩

/- `BLK.CFG`, R255 -/
def BLK.CFG.EN : Ent := ⟨301989888, 1, (.const 0), .rw, .cold, 1048576, 8, 0, 1, 672⟩
def BLK.CFG.PEER_CHK : Ent := ⟨301989889, 1, (.const 0), .rw, .cold, 1048576, 8, 0, 1, 673⟩
def BLK.CFG.PEER_ID : Ent := ⟨301989890, 3, (.const 0), .rw, .cold, 1048576, 8, 0, 1, 674⟩
def BLK.CFG.RETRY_INT : Ent := ⟨301989893, 8, (.const 10), .rw, .cold, 1048576, 8, 0, 1, 675⟩

/- `BLK.STAT`, R255 -/
def BLK.STAT.LSTATE : Ent := ⟨301989920, 3, (.const 0), .ro, .warm, 1048576, 8, 0, 1, 676⟩
def BLK.STAT.PEER : Ent := ⟨301989923, 3, (.const 0), .ro, .warm, 1048576, 8, 0, 1, 677⟩
def BLK.STAT.PEERLINK : Ent := ⟨301989926, 3, (.const 0), .ro, .warm, 1048576, 8, 0, 1, 678⟩
def BLK.STAT.NO_SPARE : Ent := ⟨301989929, 1, (.const 0), .ro, .warm, 1048576, 8, 0, 1, 679⟩
def BLK.STAT.RELAYING : Ent := ⟨301989930, 1, (.const 0), .ro, .warm, 1048576, 8, 0, 1, 680⟩
def BLK.STAT.FAILCAUSE : Ent := ⟨301989931, 3, (.const 0), .ro, .warm, 1048576, 8, 0, 1, 681⟩
def BLK.STAT.ATTEMPTS : Ent := ⟨301989934, 16, (.const 0), .rc, .warm, 1048576, 8, 0, 1, 682⟩

/- `BLK.ESTAT`, R255 -/
def BLK.ESTAT.DOWN : Ent := ⟨301989952, 1, (.const 0), .w1c, .block, 1048576, 8, 0, 1, 683⟩
def BLK.ESTAT.RTO : Ent := ⟨301989953, 1, (.const 0), .w1c, .block, 1048576, 8, 0, 1, 684⟩
def BLK.ESTAT.BADSEQ : Ent := ⟨301989954, 1, (.const 0), .w1c, .block, 1048576, 8, 0, 1, 685⟩
def BLK.ESTAT.UCW : Ent := ⟨301989955, 1, (.const 0), .w1c, .block, 1048576, 8, 0, 1, 686⟩
def BLK.ESTAT.LANE_SUB : Ent := ⟨301989956, 1, (.const 0), .w1c, .block, 1048576, 8, 0, 1, 687⟩
def BLK.ESTAT.LINK_SUB : Ent := ⟨301989957, 1, (.const 0), .w1c, .block, 1048576, 8, 0, 1, 688⟩
def BLK.ESTAT.STALE_ACK : Ent := ⟨301989958, 1, (.const 0), .w1c, .block, 1048576, 8, 0, 1, 689⟩
def BLK.ESTAT.HELLO_FAIL : Ent := ⟨301989959, 1, (.const 0), .w1c, .block, 1048576, 8, 0, 1, 690⟩
def BLK.ESTAT.SUB_ERR : Ent := ⟨301989960, 1, (.const 0), .w1c, .block, 1048576, 8, 0, 1, 691⟩

/- `BLK.RTCFG`, R255 -/
def BLK.RTCFG.RTO : Ent := ⟨301989984, 14, (.const 2000), .rw, .cold, 1048576, 8, 0, 1, 692⟩
def BLK.RTCFG.RTOMAX : Ent := ⟨301989998, 14, (.const 4000), .rw, .cold, 1048576, 8, 0, 1, 693⟩
def BLK.RTCFG.FAILN : Ent := ⟨301990012, 4, (.const 3), .rw, .cold, 1048576, 8, 0, 1, 694⟩

/- `BLK.SEQSTAT`, R255 -/
def BLK.SEQSTAT.TXNEXT : Ent := ⟨301990016, 16, (.const 0), .ro, .link, 1048576, 8, 0, 1, 695⟩
def BLK.SEQSTAT.TXACKED : Ent := ⟨301990032, 16, (.const 0), .ro, .link, 1048576, 8, 0, 1, 696⟩

/- `BLK.RXSTAT`, R255 -/
def BLK.RXSTAT.RXEXP : Ent := ⟨301990048, 16, (.const 0), .ro, .link, 1048576, 8, 0, 1, 697⟩
def BLK.RXSTAT.HELD : Ent := ⟨301990064, 13, (.const 0), .ro, .link, 1048576, 8, 0, 1, 698⟩

/- `BLK.LCTL`, R255 -/
def BLK.LCTL.LANE : Ent := ⟨301990080, 4, (.const 0), .rw, .warm, 1048576, 8, 0, 1, 699⟩
def BLK.LCTL.SUB : Ent := ⟨301990084, 1, (.const 0), .wo, .warm, 1048576, 8, 0, 1, 700⟩
def BLK.LCTL.HANDOFF : Ent := ⟨301990085, 1, (.const 0), .wo, .warm, 1048576, 8, 0, 1, 701⟩

/- `BLK.LSPCFG`, R255 -/
def BLK.LSPCFG.SUB_THRESH : Ent := ⟨301990112, 16, (.const 16), .rw, .cold, 1048576, 8, 0, 1, 702⟩
def BLK.LSPCFG.NAKHOLD : Ent := ⟨301990128, 12, (.const 400), .rw, .cold, 1048576, 8, 0, 1, 703⟩

/- `BLK.RETXCNT`, R255 -/
def BLK.RETXCNT.COUNT : Ent := ⟨301990144, 32, (.const 0), .rc, .block, 1048576, 8, 0, 1, 704⟩

/- `BLK.DUPCNT`, R255 -/
def BLK.DUPCNT.COUNT : Ent := ⟨301990176, 32, (.const 0), .rc, .block, 1048576, 8, 0, 1, 705⟩

/- `BLK.CRCCNT`, R255 -/
def BLK.CRCCNT.COUNT : Ent := ⟨301990208, 32, (.const 0), .rc, .block, 1048576, 8, 0, 1, 706⟩

/- `BLK.UCWCNT`, R255 -/
def BLK.UCWCNT.COUNT : Ent := ⟨301990240, 32, (.const 0), .rc, .block, 1048576, 8, 0, 1, 707⟩

/- `BLK.CCWCNT`, R255 -/
def BLK.CCWCNT.COUNT : Ent := ⟨301990272, 32, (.const 0), .rc, .block, 1048576, 8, 0, 1, 708⟩

/- `BLK.RTOCNT`, R255 -/
def BLK.RTOCNT.COUNT : Ent := ⟨301990304, 32, (.const 0), .rc, .block, 1048576, 8, 0, 1, 709⟩

/- `BLK.BADSEQ`, R255 -/
def BLK.BADSEQ.COUNT : Ent := ⟨301990336, 32, (.const 0), .rc, .block, 1048576, 8, 0, 1, 710⟩

/- `BLK.STALEACK`, R255 -/
def BLK.STALEACK.COUNT : Ent := ⟨301990368, 32, (.const 0), .rc, .block, 1048576, 8, 0, 1, 711⟩

/- `BLK.LANE`, R255 -/
def BLK.LANE.STATE : Ent := ⟨301990400, 2, .laneState, .ro, .cold, 1048576, 8, 32, 9, 712⟩
def BLK.LANE.POS : Ent := ⟨301990402, 3, .lanePos, .ro, .cold, 1048576, 8, 32, 9, 713⟩
def BLK.LANE.EPOCH : Ent := ⟨301990405, 8, (.const 0), .ro, .cold, 1048576, 8, 32, 9, 714⟩
def BLK.LANE.LOCK : Ent := ⟨301990413, 1, (.const 0), .ro, .cold, 1048576, 8, 32, 9, 715⟩

/- `BLK.LANEERR`, R255 -/
def BLK.LANEERR.COUNT : Ent := ⟨301990912, 32, (.const 0), .rc, .block, 1048576, 8, 32, 9, 716⟩

/- `BLK.CRED`, R255 -/
def BLK.CRED.LIMIT : Ent := ⟨301991936, 12, (.const 0), .ro, .link, 1048576, 8, 32, 18, 717⟩
def BLK.CRED.USED : Ent := ⟨301991948, 12, (.const 0), .ro, .link, 1048576, 8, 32, 18, 718⟩

/- `BLKC.CCFG`, R255 -/
def BLKC.CCFG.MCAND : Ent := ⟨302514176, 1, (.const 0), .rw, .cold, 0, 1, 0, 1, 719⟩
def BLKC.CCFG.UNREACH : Ent := ⟨302514177, 8, (.const 10), .rw, .cold, 0, 1, 0, 1, 720⟩

/- `BLKC.CSTAT`, R255 -/
def BLKC.CSTAT.MYID : Ent := ⟨302514208, 3, (.const 0), .ro, .warm, 0, 1, 0, 1, 721⟩
def BLKC.CSTAT.MASTER : Ent := ⟨302514211, 3, (.const 0), .ro, .warm, 0, 1, 0, 1, 722⟩
def BLKC.CSTAT.MVALID : Ent := ⟨302514214, 1, (.const 0), .ro, .warm, 0, 1, 0, 1, 723⟩
def BLKC.CSTAT.IS_MASTER : Ent := ⟨302514215, 1, (.const 0), .ro, .warm, 0, 1, 0, 1, 724⟩
def BLKC.CSTAT.REACH : Ent := ⟨302514216, 8, (.const 0), .ro, .warm, 0, 1, 0, 1, 725⟩
def BLKC.CSTAT.DIRECT : Ent := ⟨302514224, 8, (.const 0), .ro, .warm, 0, 1, 0, 1, 726⟩
def BLKC.CSTAT.TSRC : Ent := ⟨302514232, 4, (.const 15), .ro, .warm, 0, 1, 0, 1, 727⟩
def BLKC.CSTAT.TLOCK : Ent := ⟨302514236, 1, (.const 0), .ro, .warm, 0, 1, 0, 1, 728⟩

/- `BLKC.DOMAIN`, R255 -/
def BLKC.DOMAIN.TAG : Ent := ⟨302514240, 32, (.const 0), .ro, .cold, 0, 1, 0, 1, 729⟩

/- `BLKC.ROUTE`, R255 -/
def BLKC.ROUTE.LINKS : Ent := ⟨302514304, 8, (.const 0), .ro, .warm, 32, 8, 0, 1, 730⟩
def BLKC.ROUTE.VIA : Ent := ⟨302514312, 3, (.const 0), .ro, .warm, 32, 8, 0, 1, 731⟩
def BLKC.ROUTE.RELAY : Ent := ⟨302514315, 1, (.const 0), .ro, .warm, 32, 8, 0, 1, 732⟩
def BLKC.ROUTE.REACH : Ent := ⟨302514316, 1, (.const 0), .ro, .warm, 32, 8, 0, 1, 733⟩

/- `BLKC.LDDEV`, R255 -/
def BLKC.LDDEV.DEV0 : Ent := ⟨302546944, 3, (.const 0), .ro, .cold, 32, 512, 0, 1, 734⟩
def BLKC.LDDEV.DEV1 : Ent := ⟨302546948, 3, (.const 0), .ro, .cold, 32, 512, 0, 1, 735⟩
def BLKC.LDDEV.DEV2 : Ent := ⟨302546952, 3, (.const 0), .ro, .cold, 32, 512, 0, 1, 736⟩
def BLKC.LDDEV.DEV3 : Ent := ⟨302546956, 3, (.const 0), .ro, .cold, 32, 512, 0, 1, 737⟩
def BLKC.LDDEV.DEV4 : Ent := ⟨302546960, 3, (.const 0), .ro, .cold, 32, 512, 0, 1, 738⟩
def BLKC.LDDEV.DEV5 : Ent := ⟨302546964, 3, (.const 0), .ro, .cold, 32, 512, 0, 1, 739⟩
def BLKC.LDDEV.DEV6 : Ent := ⟨302546968, 3, (.const 0), .ro, .cold, 32, 512, 0, 1, 740⟩
def BLKC.LDDEV.DEV7 : Ent := ⟨302546972, 3, (.const 0), .ro, .cold, 32, 512, 0, 1, 741⟩

/- `SEC.LCSTAT`, R292 -/
def SEC.LCSTAT.STATE : Ent := ⟨50331648, 3, (.const 1), .ro, .cold, 0, 1, 0, 1, 177⟩
def SEC.LCSTAT.HELD : Ent := ⟨50331651, 1, (.const 0), .ro, .cold, 0, 1, 0, 1, 178⟩
def SEC.LCSTAT.SEALGEN : Ent := ⟨50331652, 4, (.const 0), .ro, .cold, 0, 1, 0, 1, 179⟩
def SEC.LCSTAT.OWNER : Ent := ⟨50331656, 1, (.const 0), .ro, .cold, 0, 1, 0, 1, 180⟩

/- `SEC.LCCTL`, R292 -/
def SEC.LCCTL.TARGET : Ent := ⟨50331680, 3, (.const 0), .rw, .warm, 0, 1, 0, 1, 181⟩
def SEC.LCCTL.ARM : Ent := ⟨50331683, 1, (.const 0), .wo, .warm, 0, 1, 0, 1, 182⟩
def SEC.LCCTL.GO : Ent := ⟨50331684, 1, (.const 0), .wo, .warm, 0, 1, 0, 1, 183⟩
def SEC.LCCTL.RESULT : Ent := ⟨50331685, 3, (.const 0), .ro, .warm, 0, 1, 0, 1, 184⟩
def SEC.LCCTL.BUSY : Ent := ⟨50331688, 1, (.const 0), .ro, .warm, 0, 1, 0, 1, 185⟩

/- `SEC.LCNONCE`, R292 -/
def SEC.LCNONCE.NONCE : Ent := ⟨50331712, 64, (.const 0), .ro, .warm, 0, 1, 0, 1, 186⟩

/- `SEC.LCADDR`, R292 -/
def SEC.LCADDR.ADDR : Ent := ⟨50331782, 58, (.const 0), .rw, .warm, 0, 1, 0, 1, 187⟩

/- `SEC.DBGCTL`, R292 -/
def SEC.DBGCTL.EN : Ent := ⟨50331840, 1, (.const 1), .rw, .cold, 0, 1, 0, 1, 188⟩
def SEC.DBGCTL.ACTIVE : Ent := ⟨50331841, 1, (.const 0), .ro, .cold, 0, 1, 0, 1, 189⟩

/- `SEC.KSTAT`, R292 -/
def SEC.KSTAT.LDKEYS : Ent := ⟨50331872, 13, (.const 0), .ro, .cold, 0, 1, 0, 1, 190⟩
def SEC.KSTAT.DOMAIN : Ent := ⟨50331885, 1, (.const 0), .ro, .cold, 0, 1, 0, 1, 191⟩
def SEC.KSTAT.DRBG_OK : Ent := ⟨50331886, 1, (.const 0), .ro, .cold, 0, 1, 0, 1, 192⟩

/- `SEC.ESTAT`, R292 -/
def SEC.ESTAT.CERT : Ent := ⟨50331904, 1, (.const 0), .w1c, .block, 0, 1, 0, 1, 193⟩
def SEC.ESTAT.UNSEAL_FAIL : Ent := ⟨50331905, 1, (.const 0), .w1c, .block, 0, 1, 0, 1, 194⟩
def SEC.ESTAT.IDE_FAIL : Ent := ⟨50331906, 1, (.const 0), .w1c, .block, 0, 1, 0, 1, 195⟩
def SEC.ESTAT.LC_ABORT : Ent := ⟨50331907, 1, (.const 0), .w1c, .block, 0, 1, 0, 1, 196⟩

/- `SEC.SPDMCFG`, R292 -/
def SEC.SPDMCFG.MUTUAL : Ent := ⟨50331936, 1, (.const 0), .rw, .cold, 0, 1, 0, 1, 197⟩
def SEC.SPDMCFG.MEAS_VCS : Ent := ⟨50331937, 1, (.const 0), .rw, .cold, 0, 1, 0, 1, 198⟩

/- `SEC.ROT.RCTL`, R292 -/
def SEC.ROT.RCTL.LD : Ent := ⟨50332160, 12, (.const 0), .rw, .warm, 256, 2, 0, 1, 199⟩
def SEC.ROT.RCTL.RATE : Ent := ⟨50332172, 4, (.const 1), .rw, .warm, 256, 2, 0, 1, 200⟩
def SEC.ROT.RCTL.ARM : Ent := ⟨50332176, 1, (.const 0), .wo, .warm, 256, 2, 0, 1, 201⟩
def SEC.ROT.RCTL.CANCEL : Ent := ⟨50332177, 1, (.const 0), .wo, .warm, 256, 2, 0, 1, 202⟩

/- `SEC.ROT.RSTAT`, R292 -/
def SEC.ROT.RSTAT.PHASE : Ent := ⟨50332192, 3, (.const 0), .ro, .warm, 256, 2, 0, 1, 203⟩
def SEC.ROT.RSTAT.RESULT : Ent := ⟨50332195, 3, (.const 0), .ro, .warm, 256, 2, 0, 1, 204⟩

/- `SEC.ROT.RTIME`, R292 -/
def SEC.ROT.RTIME.TIME : Ent := ⟨50332224, 64, (.const 0), .rw, .warm, 256, 2, 0, 1, 205⟩

/- `SEC.ROT.RRESCUE`, R292 -/
def SEC.ROT.RRESCUE.RLD : Ent := ⟨50332288, 12, (.const 0), .rw, .warm, 256, 2, 0, 1, 206⟩
def SEC.ROT.RRESCUE.OFFSET : Ent := ⟨50332300, 52, (.const 0), .rw, .warm, 256, 2, 0, 1, 207⟩

/- `SEC.ROT.RCURSOR`, R292 -/
def SEC.ROT.RCURSOR.OFFSET : Ent := ⟨50332352, 64, (.const 0), .ro, .warm, 256, 2, 0, 1, 208⟩

/- `SEC.IDE`, R292 -/
def SEC.IDE.IO_STATE : Ent := ⟨50333696, 2, (.const 0), .ro, .link, 32, 64, 0, 1, 209⟩
def SEC.IDE.CM_STATE : Ent := ⟨50333698, 2, (.const 0), .ro, .link, 32, 64, 0, 1, 210⟩
def SEC.IDE.KSET : Ent := ⟨50333700, 1, (.const 0), .ro, .link, 32, 64, 0, 1, 211⟩
def SEC.IDE.REQ : Ent := ⟨50333701, 1, (.const 0), .rw, .cold, 32, 64, 0, 1, 212⟩
def SEC.IDE.ERRCNT : Ent := ⟨50333704, 8, (.const 0), .rc, .link, 32, 64, 0, 1, 213⟩

/- `SEC.FUSESH`, R292 -/
def SEC.FUSESH.WORD : Ent := ⟨50593792, 32, (.const 0), .ro, .cold, 32, 64, 0, 1, 214⟩

/- `SEC.LDKEY`, R292 -/
def SEC.LDKEY.VALID : Ent := ⟨50855936, 1, (.const 0), .ro, .cold, 32, 4096, 0, 1, 215⟩
def SEC.LDKEY.ROT : Ent := ⟨50855937, 1, (.const 0), .ro, .cold, 32, 4096, 0, 1, 216⟩
def SEC.LDKEY.GEN : Ent := ⟨50855938, 16, (.const 0), .ro, .cold, 32, 4096, 0, 1, 217⟩

/- `ACT.CFG`, R293 -/
def ACT.CFG.DEFAULT : Ent := ⟨58720256, 16, (.const 0), .ro, .cold, 0, 1, 0, 1, 236⟩

/- `ACT.STGCFG`, R293 -/
def ACT.STGCFG.DEFAULT : Ent := ⟨58720288, 16, (.const 0), .rw, .cold, 0, 1, 0, 1, 237⟩

/- `ACT.COMMIT`, R293 -/
def ACT.COMMIT.EPOCH : Ent := ⟨58720320, 8, (.const 0), .ro, .warm, 0, 1, 0, 1, 238⟩
def ACT.COMMIT.GO : Ent := ⟨58720328, 1, (.const 0), .wo, .warm, 0, 1, 0, 1, 239⟩
def ACT.COMMIT.DONE : Ent := ⟨58720329, 1, (.const 1), .ro, .warm, 0, 1, 0, 1, 240⟩
def ACT.COMMIT.SEALED : Ent := ⟨58720330, 1, (.const 1), .ro, .warm, 0, 1, 0, 1, 241⟩
def ACT.COMMIT.STG_BUSY : Ent := ⟨58720331, 1, (.const 0), .ro, .warm, 0, 1, 0, 1, 242⟩
def ACT.COMMIT.RESULT : Ent := ⟨58720332, 2, (.const 0), .ro, .warm, 0, 1, 0, 1, 243⟩

/- `ACT.FVSTAT`, R293 -/
def ACT.FVSTAT.VALID : Ent := ⟨58720384, 1, (.const 0), .w1c, .block, 0, 1, 0, 1, 244⟩
def ACT.FVSTAT.OVF : Ent := ⟨58720385, 1, (.const 0), .w1c, .block, 0, 1, 0, 1, 245⟩
def ACT.FVSTAT.KIND : Ent := ⟨58720386, 2, (.const 0), .ro, .block, 0, 1, 0, 1, 246⟩
def ACT.FVSTAT.OP : Ent := ⟨58720388, 2, (.const 0), .ro, .block, 0, 1, 0, 1, 247⟩
def ACT.FVSTAT.DEFAULT : Ent := ⟨58720390, 1, (.const 0), .ro, .block, 0, 1, 0, 1, 248⟩
def ACT.FVSTAT.ENTRY : Ent := ⟨58720391, 10, (.const 0), .ro, .block, 0, 1, 0, 1, 249⟩
def ACT.FVSTAT.EPOCH : Ent := ⟨58720401, 8, (.const 0), .ro, .block, 0, 1, 0, 1, 250⟩

/- `ACT.FVMID`, R293 -/
def ACT.FVMID.MID : Ent := ⟨58720416, 16, (.const 0), .ro, .block, 0, 1, 0, 1, 251⟩
def ACT.FVMID.LD : Ent := ⟨58720432, 12, (.const 0), .ro, .block, 0, 1, 0, 1, 252⟩

/- `ACT.FVADDR`, R293 -/
def ACT.FVADDR.VALUE : Ent := ⟨58720448, 64, (.const 0), .ro, .block, 0, 1, 0, 1, 253⟩

/- `ACT.FVTIME`, R293 -/
def ACT.FVTIME.VALUE : Ent := ⟨58720512, 64, (.const 0), .ro, .block, 0, 1, 0, 1, 254⟩

/- `ACT.DENYCNT`, R293 -/
def ACT.DENYCNT.COUNT : Ent := ⟨58720576, 32, (.const 0), .rc, .block, 0, 1, 0, 1, 255⟩

/- `ACT.ENT`, R293 -/
def ACT.ENT.VALID : Ent := ⟨59768832, 1, (.const 0), .ro, .cold, 256, 1024, 0, 1, 256⟩

/- `ACT.STG`, R293 -/
def ACT.STG.VALID : Ent := ⟨59244544, 1, (.const 0), .rw, .cold, 256, 1024, 0, 1, 257⟩

/- `ACT.ENT`, R293 -/
def ACT.ENT.KIND : Ent := ⟨59768833, 2, (.const 0), .ro, .cold, 256, 1024, 0, 1, 258⟩

/- `ACT.STG`, R293 -/
def ACT.STG.KIND : Ent := ⟨59244545, 2, (.const 0), .rw, .cold, 256, 1024, 0, 1, 259⟩

/- `ACT.ENT`, R293 -/
def ACT.ENT.DENY : Ent := ⟨59768835, 1, (.const 0), .ro, .cold, 256, 1024, 0, 1, 260⟩

/- `ACT.STG`, R293 -/
def ACT.STG.DENY : Ent := ⟨59244547, 1, (.const 0), .rw, .cold, 256, 1024, 0, 1, 261⟩

/- `ACT.ENT`, R293 -/
def ACT.ENT.RD : Ent := ⟨59768836, 1, (.const 0), .ro, .cold, 256, 1024, 0, 1, 262⟩

/- `ACT.STG`, R293 -/
def ACT.STG.RD : Ent := ⟨59244548, 1, (.const 0), .rw, .cold, 256, 1024, 0, 1, 263⟩

/- `ACT.ENT`, R293 -/
def ACT.ENT.WR : Ent := ⟨59768837, 1, (.const 0), .ro, .cold, 256, 1024, 0, 1, 264⟩

/- `ACT.STG`, R293 -/
def ACT.STG.WR : Ent := ⟨59244549, 1, (.const 0), .rw, .cold, 256, 1024, 0, 1, 265⟩

/- `ACT.ENT`, R293 -/
def ACT.ENT.LD : Ent := ⟨59768840, 12, (.const 0), .ro, .cold, 256, 1024, 0, 1, 266⟩

/- `ACT.STG`, R293 -/
def ACT.STG.LD : Ent := ⟨59244552, 12, (.const 0), .rw, .cold, 256, 1024, 0, 1, 267⟩

/- `ACT.ENT`, R293 -/
def ACT.ENT.MID : Ent := ⟨59768864, 16, (.const 0), .ro, .cold, 256, 1024, 0, 1, 268⟩

/- `ACT.STG`, R293 -/
def ACT.STG.MID : Ent := ⟨59244576, 16, (.const 0), .rw, .cold, 256, 1024, 0, 1, 269⟩

/- `ACT.ENT`, R293 -/
def ACT.ENT.MASK : Ent := ⟨59768880, 16, (.const 0), .ro, .cold, 256, 1024, 0, 1, 270⟩

/- `ACT.STG`, R293 -/
def ACT.STG.MASK : Ent := ⟨59244592, 16, (.const 0), .rw, .cold, 256, 1024, 0, 1, 271⟩

/- `ACT.ENT`, R293 -/
def ACT.ENT.BASE : Ent := ⟨59768908, 52, (.const 0), .ro, .cold, 256, 1024, 0, 1, 272⟩

/- `ACT.STG`, R293 -/
def ACT.STG.BASE : Ent := ⟨59244620, 52, (.const 0), .rw, .cold, 256, 1024, 0, 1, 273⟩

/- `ACT.ENT`, R293 -/
def ACT.ENT.LIMIT : Ent := ⟨59768972, 52, (.const 0), .ro, .cold, 256, 1024, 0, 1, 274⟩

/- `ACT.STG`, R293 -/
def ACT.STG.LIMIT : Ent := ⟨59244684, 52, (.const 0), .rw, .cold, 256, 1024, 0, 1, 275⟩

/- `SLOT.CFG`, R314 -/
def SLOT.CFG.MODE : Ent := ⟨67108864, 2, (.const 0), .rw, .cold, 32768, 32, 0, 1, 324⟩
def SLOT.CFG.PORT_EN : Ent := ⟨67108866, 1, (.const 0), .rw, .cold, 32768, 32, 0, 1, 325⟩
def SLOT.CFG.PORT : Ent := ⟨67108867, 6, (.const 0), .rw, .cold, 32768, 32, 0, 1, 326⟩
def SLOT.CFG.RETRY_MAX : Ent := ⟨67108873, 4, (.const 0), .rw, .cold, 32768, 32, 0, 1, 327⟩
def SLOT.CFG.RCLR : Ent := ⟨67108877, 8, (.const 0), .rw, .cold, 32768, 32, 0, 1, 328⟩
def SLOT.CFG.FASTX : Ent := ⟨67108885, 2, (.const 0), .rw, .cold, 32768, 32, 0, 1, 329⟩

/- `SLOT.CTL`, R314 -/
def SLOT.CTL.ON : Ent := ⟨67108896, 1, (.const 0), .wo, .warm, 32768, 32, 0, 1, 330⟩
def SLOT.CTL.ON_AT : Ent := ⟨67108897, 1, (.const 0), .wo, .warm, 32768, 32, 0, 1, 331⟩
def SLOT.CTL.OFF : Ent := ⟨67108898, 1, (.const 0), .wo, .warm, 32768, 32, 0, 1, 332⟩
def SLOT.CTL.CLEAR : Ent := ⟨67108899, 1, (.const 0), .wo, .warm, 32768, 32, 0, 1, 333⟩
def SLOT.CTL.APPLY : Ent := ⟨67108900, 1, (.const 0), .wo, .warm, 32768, 32, 0, 1, 334⟩

/- `SLOT.STAT`, R314 -/
def SLOT.STAT.STATE : Ent := ⟨67108928, 4, (.const 0), .ro, .cold, 32768, 32, 0, 1, 335⟩
def SLOT.STAT.PG : Ent := ⟨67108932, 1, (.const 0), .ro, .cold, 32768, 32, 0, 1, 336⟩
def SLOT.STAT.WARN : Ent := ⟨67108933, 1, (.const 0), .ro, .cold, 32768, 32, 0, 1, 337⟩
def SLOT.STAT.SEATED : Ent := ⟨67108934, 1, (.const 0), .ro, .cold, 32768, 32, 0, 1, 338⟩
def SLOT.STAT.TIMER : Ent := ⟨67108935, 1, (.const 0), .ro, .cold, 32768, 32, 0, 1, 339⟩
def SLOT.STAT.RETRY_RUN : Ent := ⟨67108936, 1, (.const 0), .ro, .cold, 32768, 32, 0, 1, 340⟩
def SLOT.STAT.RETRIES : Ent := ⟨67108937, 4, (.const 0), .ro, .cold, 32768, 32, 0, 1, 341⟩
def SLOT.STAT.LASTTRIP : Ent := ⟨67108941, 3, (.const 0), .ro, .cold, 32768, 32, 0, 1, 342⟩

/- `SLOT.ESTAT`, R314 -/
def SLOT.ESTAT.TRIP_TIMER : Ent := ⟨67108960, 1, (.const 0), .w1c, .block, 32768, 32, 0, 1, 343⟩
def SLOT.ESTAT.TRIP_FAST : Ent := ⟨67108961, 1, (.const 0), .w1c, .block, 32768, 32, 0, 1, 344⟩
def SLOT.ESTAT.TRIP_ENERGY : Ent := ⟨67108962, 1, (.const 0), .w1c, .block, 32768, 32, 0, 1, 345⟩
def SLOT.ESTAT.TRIP_INRUSH : Ent := ⟨67108963, 1, (.const 0), .w1c, .block, 32768, 32, 0, 1, 346⟩
def SLOT.ESTAT.TRIP_FETDEG : Ent := ⟨67108964, 1, (.const 0), .w1c, .block, 32768, 32, 0, 1, 347⟩
def SLOT.ESTAT.FET_SHORT : Ent := ⟨67108965, 1, (.const 0), .w1c, .block, 32768, 32, 0, 1, 348⟩
def SLOT.ESTAT.DISCH_FAIL : Ent := ⟨67108966, 1, (.const 0), .w1c, .block, 32768, 32, 0, 1, 349⟩
def SLOT.ESTAT.GLITCH : Ent := ⟨67108967, 1, (.const 0), .w1c, .block, 32768, 32, 0, 1, 350⟩
def SLOT.ESTAT.LATCH : Ent := ⟨67108968, 1, (.const 0), .w1c, .block, 32768, 32, 0, 1, 351⟩
def SLOT.ESTAT.INPUT : Ent := ⟨67108969, 1, (.const 0), .w1c, .block, 32768, 32, 0, 1, 352⟩
def SLOT.ESTAT.CFG_ERR : Ent := ⟨67108970, 1, (.const 0), .w1c, .block, 32768, 32, 0, 1, 353⟩

/- `SLOT.ILIM`, R314 -/
def SLOT.ILIM.ILIM : Ent := ⟨67108992, 8, (.const 0), .rw, .cold, 32768, 32, 0, 1, 354⟩
def SLOT.ILIM.ILIM_IR : Ent := ⟨67109000, 8, (.const 0), .rw, .cold, 32768, 32, 0, 1, 355⟩
def SLOT.ILIM.RSENSE : Ent := ⟨67109008, 8, (.const 0), .rw, .cold, 32768, 32, 0, 1, 356⟩

/- `SLOT.TFLT`, R314 -/
def SLOT.TFLT.TFLT : Ent := ⟨67109024, 14, (.const 0), .rw, .cold, 32768, 32, 0, 1, 357⟩
def SLOT.TFLT.TINRUSH : Ent := ⟨67109038, 8, (.const 0), .rw, .cold, 32768, 32, 0, 1, 358⟩

/- `SLOT.TSEQ`, R314 -/
def SLOT.TSEQ.TDEB : Ent := ⟨67109056, 8, (.const 10), .rw, .cold, 32768, 32, 0, 1, 359⟩
def SLOT.TSEQ.TINSERT : Ent := ⟨67109064, 10, (.const 100), .rw, .cold, 32768, 32, 0, 1, 360⟩
def SLOT.TSEQ.TREMOVE : Ent := ⟨67109074, 10, (.const 200), .rw, .cold, 32768, 32, 0, 1, 361⟩

/- `SLOT.TRETRY`, R314 -/
def SLOT.TRETRY.TRETRY : Ent := ⟨67109088, 16, (.const 1000), .rw, .cold, 32768, 32, 0, 1, 362⟩
def SLOT.TRETRY.SLEW : Ent := ⟨67109104, 8, (.const 12), .rw, .cold, 32768, 32, 0, 1, 363⟩
def SLOT.TRETRY.TPGDLY : Ent := ⟨67109112, 8, (.const 10), .rw, .cold, 32768, 32, 0, 1, 364⟩

/- `SLOT.FETCHK`, R314 -/
def SLOT.FETCHK.VDSPG : Ent := ⟨67109120, 8, (.const 100), .rw, .cold, 32768, 32, 0, 1, 365⟩
def SLOT.FETCHK.VDSMAX : Ent := ⟨67109128, 8, (.const 100), .rw, .cold, 32768, 32, 0, 1, 366⟩
def SLOT.FETCHK.EMAX : Ent := ⟨67109136, 16, (.const 0), .rw, .cold, 32768, 32, 0, 1, 367⟩

/- `SLOT.MEAS`, R314 -/
def SLOT.MEAS.VOUT : Ent := ⟨67109152, 12, (.const 0), .ro, .cold, 32768, 32, 0, 1, 368⟩
def SLOT.MEAS.VSNS : Ent := ⟨67109164, 16, (.const 0), .ro, .cold, 32768, 32, 0, 1, 369⟩

/- `SLOT.EACC`, R314 -/
def SLOT.EACC.ELAST : Ent := ⟨67109184, 16, (.const 0), .ro, .block, 32768, 32, 0, 1, 370⟩
def SLOT.EACC.EMAXSEEN : Ent := ⟨67109200, 16, (.const 0), .rc, .block, 32768, 32, 0, 1, 371⟩

/- `SLOT.COUNTS`, R314 -/
def SLOT.COUNTS.TRIPCNT : Ent := ⟨67109216, 16, (.const 0), .rc, .block, 32768, 32, 0, 1, 372⟩
def SLOT.COUNTS.GLITCHCNT : Ent := ⟨67109232, 16, (.const 0), .rc, .block, 32768, 32, 0, 1, 373⟩

/- `SLOT.ONAT`, R314 -/
def SLOT.ONAT.TIME : Ent := ⟨67109248, 64, (.const 0), .rw, .warm, 32768, 32, 0, 1, 374⟩

/- `SLOTV.CFG`, R314 -/
def SLOTV.CFG.PF_EN : Ent := ⟨68157440, 1, (.const 0), .rw, .cold, 0, 1, 0, 1, 375⟩
def SLOTV.CFG.FALLRATE : Ent := ⟨68157441, 8, (.const 0), .rw, .cold, 0, 1, 0, 1, 376⟩

/- `SLOTV.THR0`, R314 -/
def SLOTV.THR0.OV : Ent := ⟨68157472, 8, (.const 240), .rw, .cold, 0, 1, 0, 1, 377⟩
def SLOTV.THR0.QHI : Ent := ⟨68157480, 8, (.const 208), .rw, .cold, 0, 1, 0, 1, 378⟩
def SLOTV.THR0.QLO : Ent := ⟨68157488, 8, (.const 120), .rw, .cold, 0, 1, 0, 1, 379⟩
def SLOTV.THR0.WARN : Ent := ⟨68157496, 8, (.const 112), .rw, .cold, 0, 1, 0, 1, 380⟩

/- `SLOTV.THR1`, R314 -/
def SLOTV.THR1.UVLO : Ent := ⟨68157504, 8, (.const 64), .rw, .cold, 0, 1, 0, 1, 381⟩

/- `SLOTV.STAT`, R314 -/
def SLOTV.STAT.VIN : Ent := ⟨68157536, 12, (.const 0), .ro, .cold, 0, 1, 0, 1, 382⟩
def SLOTV.STAT.WARN : Ent := ⟨68157548, 1, (.const 0), .ro, .cold, 0, 1, 0, 1, 383⟩
def SLOTV.STAT.UVLO : Ent := ⟨68157549, 1, (.const 0), .ro, .cold, 0, 1, 0, 1, 384⟩
def SLOTV.STAT.OV : Ent := ⟨68157550, 1, (.const 0), .ro, .cold, 0, 1, 0, 1, 385⟩
def SLOTV.STAT.INWIN : Ent := ⟨68157551, 1, (.const 0), .ro, .cold, 0, 1, 0, 1, 386⟩

/- `SLOTV.ESTAT`, R314 -/
def SLOTV.ESTAT.WARN_EV : Ent := ⟨68157568, 1, (.const 0), .w1c, .block, 0, 1, 0, 1, 387⟩
def SLOTV.ESTAT.UVLO_EV : Ent := ⟨68157569, 1, (.const 0), .w1c, .block, 0, 1, 0, 1, 388⟩
def SLOTV.ESTAT.OV_EV : Ent := ⟨68157570, 1, (.const 0), .w1c, .block, 0, 1, 0, 1, 389⟩
def SLOTV.ESTAT.CFG_ERR : Ent := ⟨68157571, 1, (.const 0), .w1c, .block, 0, 1, 0, 1, 390⟩

/- `FLT.CFG`, R336 -/
def FLT.CFG.QUIET : Ent := ⟨16777216, 16, (.const 1000), .rw, .cold, 0, 1, 0, 1, 39⟩
def FLT.CFG.STORM : Ent := ⟨16777232, 8, (.const 64), .rw, .cold, 0, 1, 0, 1, 40⟩
def FLT.CFG.SAFE_SLOT_OFF : Ent := ⟨16777240, 1, (.const 0), .rw, .cold, 0, 1, 0, 1, 41⟩

/- `FLT.STAT`, R336 -/
def FLT.STAT.SAFE : Ent := ⟨16777248, 1, (.const 0), .ro, .warm, 0, 1, 0, 1, 42⟩
def FLT.STAT.FAULTN : Ent := ⟨16777249, 1, (.const 0), .ro, .warm, 0, 1, 0, 1, 43⟩
def FLT.STAT.UCHELD : Ent := ⟨16777250, 1, (.const 0), .ro, .warm, 0, 1, 0, 1, 44⟩
def FLT.STAT.DROPS : Ent := ⟨16777251, 16, (.const 0), .ro, .warm, 0, 1, 0, 1, 45⟩

/- `FLT.ESTAT`, R336 -/
def FLT.ESTAT.OVF : Ent := ⟨16777280, 1, (.const 0), .w1c, .warm, 0, 1, 0, 1, 46⟩
def FLT.ESTAT.SELF : Ent := ⟨16777281, 1, (.const 0), .w1c, .warm, 0, 1, 0, 1, 47⟩

/- `FLT.RECOV`, R336 -/
def FLT.RECOV.COUNT : Ent := ⟨16777312, 16, (.const 0), .rc, .warm, 0, 1, 0, 1, 48⟩

/- `FLT.RHEAD`, R336 -/
def FLT.RHEAD.INDEX : Ent := ⟨16777344, 10, (.const 0), .rw, .warm, 0, 1, 0, 1, 49⟩

/- `FLT.RTAIL`, R336 -/
def FLT.RTAIL.INDEX : Ent := ⟨16777376, 10, (.const 0), .ro, .warm, 0, 1, 0, 1, 50⟩

/- `FLT.LINES`, R336 -/
def FLT.LINES.SLOT : Ent := ⟨16777408, 32, (.const 0), .w1c, .cold, 0, 1, 0, 1, 51⟩

/- `FLT.LINEEN`, R336 -/
def FLT.LINEEN.SLOT : Ent := ⟨16777472, 32, (.const 0xffffffff), .rw, .cold, 0, 1, 0, 1, 52⟩

/- `FLT.LINES`, R336 -/
def FLT.LINES.VIN : Ent := ⟨16777440, 1, (.const 0), .w1c, .cold, 0, 1, 0, 1, 53⟩

/- `FLT.LINEEN`, R336 -/
def FLT.LINEEN.VIN : Ent := ⟨16777504, 1, (.const 1), .rw, .cold, 0, 1, 0, 1, 54⟩

/- `FLT.LINES`, R336 -/
def FLT.LINES.TEMP : Ent := ⟨16777441, 1, (.const 0), .w1c, .cold, 0, 1, 0, 1, 55⟩

/- `FLT.LINEEN`, R336 -/
def FLT.LINEEN.TEMP : Ent := ⟨16777505, 1, (.const 1), .rw, .cold, 0, 1, 0, 1, 56⟩

/- `FLT.LINES`, R336 -/
def FLT.LINES.RAIL : Ent := ⟨16777442, 1, (.const 0), .w1c, .cold, 0, 1, 0, 1, 57⟩

/- `FLT.LINEEN`, R336 -/
def FLT.LINEEN.RAIL : Ent := ⟨16777506, 1, (.const 1), .rw, .cold, 0, 1, 0, 1, 58⟩

/- `FLT.LINES`, R336 -/
def FLT.LINES.CLK : Ent := ⟨16777443, 1, (.const 0), .w1c, .cold, 0, 1, 0, 1, 59⟩

/- `FLT.LINEEN`, R336 -/
def FLT.LINEEN.CLK : Ent := ⟨16777507, 1, (.const 1), .rw, .cold, 0, 1, 0, 1, 60⟩
def FLT.LINEEN.FLTN : Ent := ⟨16777535, 1, (.const 0), .rw, .cold, 0, 1, 0, 1, 61⟩

/- `FLT.SUBTHR`, R336 -/
def FLT.SUBTHR.ROW : Ent := ⟨16777536, 16, (.const 32), .rw, .cold, 0, 1, 0, 1, 62⟩
def FLT.SUBTHR.CORE : Ent := ⟨16777552, 16, (.const 16), .rw, .cold, 0, 1, 0, 1, 63⟩

/- `FLT.FENCE`, R336 -/
def FLT.FENCE.CLASS : Ent := ⟨16777568, 3, (.const 0), .rw, .warm, 0, 1, 0, 1, 64⟩
def FLT.FENCE.INDEX : Ent := ⟨16777571, 7, (.const 0), .rw, .warm, 0, 1, 0, 1, 65⟩
def FLT.FENCE.RELEASE : Ent := ⟨16777578, 1, (.const 0), .wo, .warm, 0, 1, 0, 1, 66⟩
def FLT.FENCE.BUSY : Ent := ⟨16777579, 1, (.const 0), .ro, .warm, 0, 1, 0, 1, 67⟩
def FLT.FENCE.RESULT : Ent := ⟨16777580, 2, (.const 0), .ro, .warm, 0, 1, 0, 1, 68⟩

/- `FLT.SPARE`, R336 -/
def FLT.SPARE.PLANE : Ent := ⟨16777600, 1, (.const 0), .ro, .cold, 0, 1, 0, 1, 69⟩
def FLT.SPARE.CORE : Ent := ⟨16777601, 1, (.const 0), .ro, .cold, 0, 1, 0, 1, 70⟩
def FLT.SPARE.ROW : Ent := ⟨16777602, 4, (.const 0), .ro, .cold, 0, 1, 0, 1, 71⟩
def FLT.SPARE.LANE : Ent := ⟨16777606, 8, (.const 0), .ro, .cold, 0, 1, 0, 1, 72⟩
def FLT.SPARE.HOME : Ent := ⟨16777614, 2, (.const 0), .ro, .cold, 0, 1, 0, 1, 73⟩
def FLT.SPARE.SUM : Ent := ⟨16777616, 1, (.const 0), .ro, .cold, 0, 1, 0, 1, 74⟩

/- `FLT.STALENOC`, R336 -/
def FLT.STALENOC.COUNT : Ent := ⟨16777632, 32, (.const 0), .rc, .block, 0, 1, 0, 1, 75⟩

/- `FLT.CTL`, R336 -/
def FLT.CTL.FAULTN_CLR : Ent := ⟨16777664, 1, (.const 0), .wo, .warm, 0, 1, 0, 1, 76⟩

/- `FLT.FATALREC`, R336 -/
def FLT.FATALREC.RECORD : Ent := ⟨16777728, 256, (.const 0), .ro, .cold, 0, 1, 0, 1, 77⟩

/- `FLT.REC`, R336 -/
def FLT.REC.RECORD : Ent := ⟨17301504, 256, (.const 0), .ro, .warm, 256, 1024, 0, 1, 78⟩

/- `FLT.UNIT`, R336 -/
def FLT.UNIT.EPOCH : Ent := ⟨16809984, 8, (.const 0), .ro, .cold, 4096, 6, 32, 72, 79⟩
def FLT.UNIT.STATE : Ent := ⟨16809992, 2, .unitState, .ro, .cold, 4096, 6, 32, 72, 80⟩
def FLT.UNIT.ROLE : Ent := ⟨16809994, 3, .unitRole, .ro, .cold, 4096, 6, 32, 72, 81⟩

/- `FLT.SRC`, R336 -/
def FLT.SRC.EVT_CE : Ent := ⟨16842752, 1, (.const 0), .rw, .cold, 32, 512, 0, 1, 82⟩
def FLT.SRC.EVT_UC : Ent := ⟨16842753, 1, (.const 1), .rw, .cold, 32, 512, 0, 1, 83⟩
def FLT.SRC.FLTN_CE : Ent := ⟨16842754, 1, (.const 0), .rw, .cold, 32, 512, 0, 1, 84⟩
def FLT.SRC.FLTN_UC : Ent := ⟨16842755, 1, (.const 1), .rw, .cold, 32, 512, 0, 1, 85⟩
def FLT.SRC.MUTE : Ent := ⟨16842756, 1, (.const 0), .rw, .cold, 32, 512, 0, 1, 86⟩
def FLT.SRC.STORM : Ent := ⟨16842757, 1, (.const 0), .ro, .cold, 32, 512, 0, 1, 87⟩

/- `FLT.CNT`, R336 -/
def FLT.CNT.CE : Ent := ⟨16875520, 16, (.const 0), .rc, .block, 32, 512, 0, 1, 88⟩
def FLT.CNT.UC : Ent := ⟨16875536, 16, (.const 0), .rc, .block, 32, 512, 0, 1, 89⟩

/- `EVT.RING.CTL`, R352 -/
def EVT.RING.CTL.EN : Ent := ⟨25165824, 1, (.const 0), .rw, .warm, 0, 1, 0, 1, 0⟩
def EVT.RING.CTL.LOG : Ent := ⟨25165825, 5, (.const 8), .rw, .warm, 0, 1, 0, 1, 1⟩

/- `EVT.RING.STAT`, R352 -/
def EVT.RING.STAT.ARMED : Ent := ⟨25165856, 1, (.const 0), .ro, .warm, 0, 1, 0, 1, 2⟩
def EVT.RING.STAT.FULL : Ent := ⟨25165857, 1, (.const 0), .ro, .warm, 0, 1, 0, 1, 3⟩
def EVT.RING.STAT.BUF : Ent := ⟨25165858, 9, (.const 0), .ro, .warm, 0, 1, 0, 1, 4⟩
def EVT.RING.STAT.PHASE : Ent := ⟨25165867, 1, (.const 1), .ro, .warm, 0, 1, 0, 1, 5⟩
def EVT.RING.STAT.HEAD_ERR : Ent := ⟨25165868, 1, (.const 0), .w1c, .warm, 0, 1, 0, 1, 6⟩
def EVT.RING.STAT.CFG_ERR : Ent := ⟨25165869, 1, (.const 0), .w1c, .warm, 0, 1, 0, 1, 7⟩

/- `EVT.RING.BASE`, R352 -/
def EVT.RING.BASE.BASE : Ent := ⟨25165900, 52, (.const 0), .rw, .cold, 0, 1, 0, 1, 8⟩

/- `EVT.RING.HEAD`, R352 -/
def EVT.RING.HEAD.INDEX : Ent := ⟨25165952, 16, (.const 0), .rw, .warm, 0, 1, 0, 1, 9⟩

/- `EVT.RING.TAIL`, R352 -/
def EVT.RING.TAIL.INDEX : Ent := ⟨25165984, 16, (.const 0), .ro, .warm, 0, 1, 0, 1, 10⟩

/- `EVT.ERRCNT`, R352 -/
def EVT.ERRCNT.BADCPL : Ent := ⟨25166016, 16, (.const 0), .rc, .block, 0, 1, 0, 1, 11⟩
def EVT.ERRCNT.SRCDROP : Ent := ⟨25166032, 16, (.const 0), .rc, .block, 0, 1, 0, 1, 12⟩

/- `EVT.RING.DROPS`, R352 -/
def EVT.RING.DROPS.COUNT : Ent := ⟨25166048, 32, (.const 0), .rc, .block, 0, 1, 0, 1, 13⟩

/- `EVT.WAKELAT`, R352 -/
def EVT.WAKELAT.LINE : Ent := ⟨25166080, 37, (.const 0), .ro, .cold, 0, 1, 0, 1, 14⟩

/- `EVT.WAKEEN`, R352 -/
def EVT.WAKEEN.LINE : Ent := ⟨25166144, 37, (.const 0x1fffffffff), .rw, .cold, 0, 1, 0, 1, 15⟩

/- `EVT.GRP`, R352 -/
def EVT.GRP.HOLD : Ent := ⟨25167872, 16, (.const 0), .rw, .cold, 32, 24, 0, 1, 16⟩
def EVT.GRP.HOLD_CORE : Ent := ⟨25167888, 1, (.const 0), .ro, .warm, 32, 24, 0, 1, 17⟩
def EVT.GRP.HOLD_RING : Ent := ⟨25167889, 1, (.const 0), .ro, .warm, 32, 24, 0, 1, 18⟩

/- `EVT.CORE.THRESH`, R352 -/
def EVT.CORE.THRESH.THRESH : Ent := ⟨25169920, 4, (.const 15), .rw, .warm, 256, 5, 0, 1, 19⟩

/- `EVT.CORE.CLAIM`, R352 -/
def EVT.CORE.CLAIM.SRC : Ent := ⟨25169952, 11, (.const 0), .rc, .warm, 256, 5, 0, 1, 20⟩
def EVT.CORE.CLAIM.CAUSE : Ent := ⟨25169963, 5, (.const 0), .rc, .warm, 256, 5, 0, 1, 21⟩
def EVT.CORE.CLAIM.OVF : Ent := ⟨25169968, 1, (.const 0), .rc, .warm, 256, 5, 0, 1, 22⟩
def EVT.CORE.CLAIM.WAKE : Ent := ⟨25169969, 1, (.const 0), .rc, .warm, 256, 5, 0, 1, 23⟩
def EVT.CORE.CLAIM.VALID : Ent := ⟨25169983, 1, (.const 0), .rc, .warm, 256, 5, 0, 1, 24⟩

/- `EVT.CORE.COMPLETE`, R352 -/
def EVT.CORE.COMPLETE.SRC : Ent := ⟨25169984, 11, (.const 0), .wo, .warm, 256, 5, 0, 1, 25⟩

/- `EVT.CORE.CTIME`, R352 -/
def EVT.CORE.CTIME.TIME : Ent := ⟨25170016, 48, (.const 0), .ro, .warm, 256, 5, 0, 1, 26⟩

/- `EVT.CORE.CPAY`, R352 -/
def EVT.CORE.CPAY.PAYLOAD : Ent := ⟨25170080, 32, (.const 0), .ro, .warm, 256, 5, 0, 1, 27⟩

/- `EVT.CORE.CSTAT`, R352 -/
def EVT.CORE.CSTAT.IRQ : Ent := ⟨25170112, 1, (.const 0), .ro, .warm, 256, 5, 0, 1, 28⟩
def EVT.CORE.CSTAT.ACTIVE : Ent := ⟨25170113, 11, (.const 0), .ro, .warm, 256, 5, 0, 1, 29⟩
def EVT.CORE.CSTAT.ROLEVALID : Ent := ⟨25170124, 1, (.const 0), .ro, .warm, 256, 5, 0, 1, 30⟩
def EVT.CORE.CSTAT.ROLE : Ent := ⟨25170125, 3, (.const 0), .ro, .warm, 256, 5, 0, 1, 31⟩

/- `EVT.SRC`, R352 -/
def EVT.SRC.PRIO : Ent := ⟨25690112, 4, (.const 0), .rw, .cold, 32, 1536, 0, 1, 32⟩
def EVT.SRC.FM : Ent := ⟨25690116, 1, (.const 0), .rw, .cold, 32, 1536, 0, 1, 33⟩
def EVT.SRC.MASK : Ent := ⟨25690117, 1, (.const 0), .rw, .cold, 32, 1536, 0, 1, 34⟩
def EVT.SRC.HELD : Ent := ⟨25690118, 3, (.const 0), .ro, .warm, 32, 1536, 0, 1, 35⟩
def EVT.SRC.CORE : Ent := ⟨25690121, 3, (.const 0), .ro, .warm, 32, 1536, 0, 1, 36⟩
def EVT.SRC.ASSIGNED : Ent := ⟨25690124, 1, (.const 0), .ro, .warm, 32, 1536, 0, 1, 37⟩
def EVT.SRC.STATE : Ent := ⟨25690125, 2, (.const 0), .ro, .warm, 32, 1536, 0, 1, 38⟩

/- `PERF.CTL`, R365 -/
def PERF.CTL.FREEZE : Ent := ⟨33554432, 1, (.const 0), .rw, .warm, 0, 1, 0, 1, 276⟩
def PERF.CTL.FRZOVF : Ent := ⟨33554433, 1, (.const 0), .rw, .warm, 0, 1, 0, 1, 277⟩

/- `PERF.STAT`, R365 -/
def PERF.STAT.FROZEN : Ent := ⟨33554464, 1, (.const 0), .ro, .warm, 0, 1, 0, 1, 278⟩
def PERF.STAT.TSFULL : Ent := ⟨33554465, 1, (.const 0), .ro, .warm, 0, 1, 0, 1, 279⟩
def PERF.STAT.NEXT : Ent := ⟨33554466, 12, (.const 0), .ro, .warm, 0, 1, 0, 1, 280⟩
def PERF.STAT.COUNT : Ent := ⟨33554478, 13, (.const 0), .ro, .warm, 0, 1, 0, 1, 281⟩

/- `PERF.ESTAT`, R365 -/
def PERF.ESTAT.OVF : Ent := ⟨33554496, 1, (.const 0), .w1c, .block, 0, 1, 0, 1, 282⟩
def PERF.ESTAT.SEL_ERR : Ent := ⟨33554497, 1, (.const 0), .w1c, .block, 0, 1, 0, 1, 283⟩
def PERF.ESTAT.TSB_FULL : Ent := ⟨33554498, 1, (.const 0), .w1c, .block, 0, 1, 0, 1, 284⟩

/- `PERF.FRZAT`, R365 -/
def PERF.FRZAT.ARM : Ent := ⟨33554560, 1, (.const 0), .rw, .warm, 0, 1, 0, 1, 285⟩

/- `PERF.SNAPAT`, R365 -/
def PERF.SNAPAT.ARM : Ent := ⟨33554624, 1, (.const 0), .rw, .warm, 0, 1, 0, 1, 286⟩

/- `PERF.FRZAT`, R365 -/
def PERF.FRZAT.TIME : Ent := ⟨33554570, 54, (.const 0), .rw, .warm, 0, 1, 0, 1, 287⟩

/- `PERF.SNAPAT`, R365 -/
def PERF.SNAPAT.TIME : Ent := ⟨33554634, 54, (.const 0), .rw, .warm, 0, 1, 0, 1, 288⟩

/- `PERF.SNAPCFG`, R365 -/
def PERF.SNAPCFG.PER : Ent := ⟨33554688, 1, (.const 0), .rw, .warm, 0, 1, 0, 1, 289⟩
def PERF.SNAPCFG.EXP : Ent := ⟨33554689, 6, (.const 20), .rw, .warm, 0, 1, 0, 1, 290⟩
def PERF.SNAPCFG.SNAPSEQ : Ent := ⟨33554704, 16, (.const 0), .ro, .warm, 0, 1, 0, 1, 291⟩

/- `PERF.SNAPTIME`, R365 -/
def PERF.SNAPTIME.TIME : Ent := ⟨33554752, 64, (.const 0), .ro, .warm, 0, 1, 0, 1, 292⟩

/- `PERF.BWCFG`, R365 -/
def PERF.BWCFG.EXP : Ent := ⟨33554816, 5, (.const 20), .rw, .cold, 0, 1, 0, 1, 293⟩

/- `PERF.TSCFG`, R365 -/
def PERF.TSCFG.EN : Ent := ⟨33554944, 1, (.const 0), .rw, .warm, 0, 1, 0, 1, 294⟩
def PERF.TSCFG.WRAP : Ent := ⟨33554945, 1, (.const 0), .rw, .warm, 0, 1, 0, 1, 295⟩
def PERF.TSCFG.RAND : Ent := ⟨33554946, 1, (.const 0), .rw, .warm, 0, 1, 0, 1, 296⟩
def PERF.TSCFG.NLOG : Ent := ⟨33554947, 5, (.const 10), .rw, .warm, 0, 1, 0, 1, 297⟩
def PERF.TSCFG.XP : Ent := ⟨33554952, 7, (.const 0), .rw, .warm, 0, 1, 0, 1, 298⟩
def PERF.TSCFG.ALLXP : Ent := ⟨33554959, 1, (.const 0), .rw, .warm, 0, 1, 0, 1, 299⟩
def PERF.TSCFG.OPCMASK : Ent := ⟨33554960, 16, (.const 65535), .rw, .warm, 0, 1, 0, 1, 300⟩

/- `PERF.TSFILT`, R365 -/
def PERF.TSFILT.LD : Ent := ⟨33554976, 12, (.const 0), .rw, .warm, 0, 1, 0, 1, 301⟩
def PERF.TSFILT.LDF : Ent := ⟨33554988, 1, (.const 0), .rw, .warm, 0, 1, 0, 1, 302⟩

/- `PERF.TSMISS`, R365 -/
def PERF.TSMISS.COUNT : Ent := ⟨33555008, 32, (.const 0), .rc, .block, 0, 1, 0, 1, 303⟩

/- `PERF.CNT.SEL`, R365 -/
def PERF.CNT.SEL.EVENT : Ent := ⟨34078720, 8, (.const 0), .rw, .cold, 2048, 384, 256, 8, 304⟩
def PERF.CNT.SEL.EN : Ent := ⟨34078728, 1, (.const 0), .rw, .cold, 2048, 384, 256, 8, 305⟩
def PERF.CNT.SEL.CHAIN : Ent := ⟨34078729, 1, (.const 0), .rw, .cold, 2048, 384, 256, 8, 306⟩
def PERF.CNT.SEL.OVF : Ent := ⟨34078730, 1, (.const 0), .w1c, .cold, 2048, 384, 256, 8, 307⟩
def PERF.CNT.SEL.OVF_EVT : Ent := ⟨34078731, 1, (.const 0), .rw, .cold, 2048, 384, 256, 8, 308⟩
def PERF.CNT.SEL.TCF_EN : Ent := ⟨34078732, 1, (.const 0), .rw, .cold, 2048, 384, 256, 8, 309⟩
def PERF.CNT.SEL.TC : Ent := ⟨34078733, 3, (.const 0), .rw, .cold, 2048, 384, 256, 8, 310⟩

/- `PERF.CNT.VALUE`, R365 -/
def PERF.CNT.VALUE.COUNT : Ent := ⟨34078784, 48, (.const 0), .rw, .warm, 2048, 384, 256, 8, 311⟩

/- `PERF.CNT.SNAP`, R365 -/
def PERF.CNT.SNAP.COUNT : Ent := ⟨34078848, 48, (.const 0), .ro, .warm, 2048, 384, 256, 8, 312⟩

/- `PERF.CNT.VALUE`, R365 -/
def PERF.CNT.VALUE.OVF : Ent := ⟨34078832, 1, (.const 0), .ro, .warm, 2048, 384, 256, 8, 313⟩

/- `PERF.CNT.SNAP`, R365 -/
def PERF.CNT.SNAP.OVF : Ent := ⟨34078896, 1, (.const 0), .ro, .warm, 2048, 384, 256, 8, 314⟩

/- `PERF.VIEW`, R365 -/
def PERF.VIEW.PORT : Ent := ⟨35127296, 6, (.const 0), .rw, .cold, 32, 64, 0, 1, 315⟩
def PERF.VIEW.EN : Ent := ⟨35127302, 1, (.const 0), .rw, .cold, 32, 64, 0, 1, 316⟩

/- `PERF.GRANT`, R365 -/
def PERF.GRANT.VIEW : Ent := ⟨35160064, 6, (.const 0), .rw, .cold, 32, 256, 0, 1, 317⟩
def PERF.GRANT.EN : Ent := ⟨35160070, 1, (.const 0), .rw, .cold, 32, 256, 0, 1, 318⟩
def PERF.GRANT.BW : Ent := ⟨35160071, 1, (.const 0), .rw, .cold, 32, 256, 0, 1, 319⟩

/- `PERF.BW.RX`, R365 -/
def PERF.BW.RX.UNITS : Ent := ⟨35192832, 32, (.const 0), .ro, .warm, 128, 64, 0, 1, 320⟩

/- `PERF.BW.TX`, R365 -/
def PERF.BW.TX.UNITS : Ent := ⟨35192864, 32, (.const 0), .ro, .warm, 128, 64, 0, 1, 321⟩

/- `PERF.BWSEQ`, R365 -/
def PERF.BWSEQ.SEQ : Ent := ⟨35201024, 16, (.const 0), .ro, .warm, 0, 1, 0, 1, 322⟩

/- `BOOT.STAT`, R386 -/
def BOOT.STAT.PHASE : Ent := ⟨8388608, 4, (.const 0), .ro, .cold, 0, 1, 0, 1, 133⟩
def BOOT.STAT.RESULT : Ent := ⟨8388612, 3, (.const 0), .ro, .cold, 0, 1, 0, 1, 134⟩
def BOOT.STAT.FWSLOT : Ent := ⟨8388615, 1, (.const 0), .ro, .cold, 0, 1, 0, 1, 135⟩
def BOOT.STAT.CFGSLOT : Ent := ⟨8388616, 1, (.const 0), .ro, .cold, 0, 1, 0, 1, 136⟩
def BOOT.STAT.JHALF : Ent := ⟨8388617, 1, (.const 0), .ro, .cold, 0, 1, 0, 1, 137⟩
def BOOT.STAT.JGAP : Ent := ⟨8388618, 1, (.const 0), .ro, .cold, 0, 1, 0, 1, 138⟩
def BOOT.STAT.UNOWNED : Ent := ⟨8388619, 1, (.const 0), .ro, .cold, 0, 1, 0, 1, 139⟩
def BOOT.STAT.SEALED : Ent := ⟨8388620, 1, (.const 0), .ro, .cold, 0, 1, 0, 1, 140⟩
def BOOT.STAT.MODE : Ent := ⟨8388621, 2, (.const 0), .ro, .cold, 0, 1, 0, 1, 141⟩
def BOOT.STAT.WIDTH : Ent := ⟨8388623, 2, (.const 0), .ro, .cold, 0, 1, 0, 1, 142⟩

/- `BOOT.CTL`, R386 -/
def BOOT.CTL.RELEASE : Ent := ⟨8388640, 1, (.const 0), .wo, .warm, 0, 1, 0, 1, 143⟩
def BOOT.CTL.JRESET : Ent := ⟨8388641, 1, (.const 0), .wo, .warm, 0, 1, 0, 1, 144⟩
def BOOT.CTL.COMPACT : Ent := ⟨8388642, 1, (.const 0), .wo, .warm, 0, 1, 0, 1, 145⟩

/- `BOOT.ESTAT`, R386 -/
def BOOT.ESTAT.JWRITE : Ent := ⟨8388672, 1, (.const 0), .w1c, .block, 0, 1, 0, 1, 146⟩
def BOOT.ESTAT.SEAL : Ent := ⟨8388673, 1, (.const 0), .w1c, .block, 0, 1, 0, 1, 147⟩
def BOOT.ESTAT.VOID : Ent := ⟨8388674, 1, (.const 0), .w1c, .block, 0, 1, 0, 1, 148⟩
def BOOT.ESTAT.GAP : Ent := ⟨8388675, 1, (.const 0), .w1c, .block, 0, 1, 0, 1, 149⟩
def BOOT.ESTAT.CFG_REJ : Ent := ⟨8388676, 1, (.const 0), .w1c, .block, 0, 1, 0, 1, 150⟩
def BOOT.ESTAT.WEAR : Ent := ⟨8388677, 1, (.const 0), .w1c, .block, 0, 1, 0, 1, 151⟩
def BOOT.ESTAT.MIRROR : Ent := ⟨8388678, 1, (.const 0), .w1c, .block, 0, 1, 0, 1, 152⟩

/- `BOOT.JCFG`, R386 -/
def BOOT.JCFG.HIWAT : Ent := ⟨8388704, 7, (.const 0), .rw, .cold, 0, 1, 0, 1, 153⟩
def BOOT.JCFG.CSLOT : Ent := ⟨8388711, 16, (.const 0), .rw, .cold, 0, 1, 0, 1, 154⟩
def BOOT.JCFG.PFREL : Ent := ⟨8388727, 8, (.const 0), .rw, .cold, 0, 1, 0, 1, 155⟩

/- `BOOT.JSTAT`, R386 -/
def BOOT.JSTAT.FILL : Ent := ⟨8388736, 7, (.const 0), .ro, .warm, 0, 1, 0, 1, 156⟩
def BOOT.JSTAT.COMPACT : Ent := ⟨8388743, 3, (.const 0), .ro, .warm, 0, 1, 0, 1, 157⟩
def BOOT.JSTAT.GEN : Ent := ⟨8388752, 16, (.const 0), .ro, .warm, 0, 1, 0, 1, 158⟩

/- `BOOT.JCFG2`, R386 -/
def BOOT.JCFG2.ENDUR : Ent := ⟨8388768, 32, (.const 0), .rw, .cold, 0, 1, 0, 1, 159⟩

/- `BOOT.JSEQ`, R386 -/
def BOOT.JSEQ.SEQ : Ent := ⟨8388800, 64, (.const 0), .ro, .warm, 0, 1, 0, 1, 160⟩

/- `BOOT.WEAR`, R386 -/
def BOOT.WEAR.ERASEA : Ent := ⟨8388864, 16, (.const 0), .ro, .cold, 0, 1, 0, 1, 161⟩
def BOOT.WEAR.ERASEB : Ent := ⟨8388880, 16, (.const 0), .ro, .cold, 0, 1, 0, 1, 162⟩

/- `BOOT.SECVER`, R386 -/
def BOOT.SECVER.SECVER : Ent := ⟨8388896, 32, (.const 0), .ro, .cold, 0, 1, 0, 1, 163⟩

/- `BOOT.UPDCTL`, R386 -/
def BOOT.UPDCTL.TARGET : Ent := ⟨8388928, 1, (.const 0), .rw, .warm, 0, 1, 0, 1, 164⟩
def BOOT.UPDCTL.GO : Ent := ⟨8388929, 1, (.const 0), .wo, .warm, 0, 1, 0, 1, 165⟩

/- `BOOT.UPDSTAT`, R386 -/
def BOOT.UPDSTAT.BUSY : Ent := ⟨8388960, 1, (.const 0), .ro, .warm, 0, 1, 0, 1, 166⟩
def BOOT.UPDSTAT.RESULT : Ent := ⟨8388961, 3, (.const 0), .ro, .warm, 0, 1, 0, 1, 167⟩

/- `BOOT.UPDLEN`, R386 -/
def BOOT.UPDLEN.LEN : Ent := ⟨8388992, 28, (.const 0), .rw, .warm, 0, 1, 0, 1, 168⟩

/- `BOOT.UPDADDR`, R386 -/
def BOOT.UPDADDR.ADDR : Ent := ⟨8389068, 52, (.const 0), .rw, .warm, 0, 1, 0, 1, 169⟩

/- `BOOT.POLCTL`, R386 -/
def BOOT.POLCTL.CNT : Ent := ⟨8389120, 7, (.const 0), .rw, .warm, 0, 1, 0, 1, 170⟩
def BOOT.POLCTL.GO : Ent := ⟨8389127, 1, (.const 0), .wo, .warm, 0, 1, 0, 1, 171⟩

/- `BOOT.POLSTAT`, R386 -/
def BOOT.POLSTAT.BUSY : Ent := ⟨8389152, 1, (.const 0), .ro, .warm, 0, 1, 0, 1, 172⟩
def BOOT.POLSTAT.RESULT : Ent := ⟨8389153, 2, (.const 0), .ro, .warm, 0, 1, 0, 1, 173⟩
def BOOT.POLSTAT.BADIDX : Ent := ⟨8389155, 6, (.const 0), .ro, .warm, 0, 1, 0, 1, 174⟩

/- `BOOT.POL`, R386 -/
def BOOT.POL.OFFSET : Ent := ⟨8390656, 28, (.const 0), .rw, .warm, 64, 64, 0, 1, 175⟩
def BOOT.POL.VALUE : Ent := ⟨8390688, 32, (.const 0), .rw, .warm, 64, 64, 0, 1, 176⟩

/- `TIME.CTL`, R409 -/
def TIME.CTL.TREF_EN : Ent := ⟨41943040, 1, (.const 0), .rw, .cold, 0, 1, 0, 1, 218⟩
def TIME.CTL.PPS_EN : Ent := ⟨41943041, 1, (.const 0), .rw, .cold, 0, 1, 0, 1, 219⟩
def TIME.CTL.PPSOUT_EN : Ent := ⟨41943042, 1, (.const 0), .rw, .cold, 0, 1, 0, 1, 220⟩
def TIME.CTL.STEP : Ent := ⟨41943043, 1, (.const 0), .wo, .cold, 0, 1, 0, 1, 221⟩
def TIME.CTL.SLEW : Ent := ⟨41943044, 1, (.const 0), .wo, .cold, 0, 1, 0, 1, 222⟩
def TIME.CTL.STEPTHR : Ent := ⟨41943056, 10, (.const 1), .rw, .cold, 0, 1, 0, 1, 223⟩

/- `TIME.STAT`, R409 -/
def TIME.STAT.STATE : Ent := ⟨41943072, 3, (.const 0), .ro, .cold, 0, 1, 0, 1, 224⟩
def TIME.STAT.TREF_OK : Ent := ⟨41943075, 1, (.const 0), .ro, .cold, 0, 1, 0, 1, 225⟩
def TIME.STAT.PPS_OK : Ent := ⟨41943076, 1, (.const 0), .ro, .cold, 0, 1, 0, 1, 226⟩
def TIME.STAT.STEPPED : Ent := ⟨41943077, 1, (.const 0), .w1c, .cold, 0, 1, 0, 1, 227⟩
def TIME.STAT.SET_ERR : Ent := ⟨41943078, 1, (.const 0), .w1c, .cold, 0, 1, 0, 1, 228⟩
def TIME.STAT.SLEWING : Ent := ⟨41943079, 1, (.const 0), .ro, .cold, 0, 1, 0, 1, 229⟩

/- `TIME.NOW`, R409 -/
def TIME.NOW.NS : Ent := ⟨41943104, 64, (.const 0), .ro, .cold, 0, 1, 0, 1, 230⟩

/- `TIME.FRAC`, R409 -/
def TIME.FRAC.FRAC : Ent := ⟨41943168, 16, (.const 0), .ro, .cold, 0, 1, 0, 1, 231⟩

/- `TIME.SET`, R409 -/
def TIME.SET.NS : Ent := ⟨41943232, 64, (.const 0), .rw, .warm, 0, 1, 0, 1, 232⟩

/- `TIME.ADJ`, R409 -/
def TIME.ADJ.OFFSET : Ent := ⟨41943296, 32, (.const 0), .rw, .warm, 0, 1, 0, 1, 233⟩

/- `TIME.ERR`, R409 -/
def TIME.ERR.EST_ERR : Ent := ⟨41943328, 32, (.const 0), .ro, .cold, 0, 1, 0, 1, 234⟩

/- `TIME.PPSCFG`, R409 -/
def TIME.PPSCFG.PWIDTH : Ent := ⟨41943360, 10, (.const 100), .rw, .cold, 0, 1, 0, 1, 235⟩

/- `NOC.ESTAT`, R410 -/
def NOC.ESTAT.CDC_OVR : Ent := ⟨75497472, 1, (.const 0), .w1c, .block, 0, 1, 0, 1, 121⟩
def NOC.ESTAT.STALE : Ent := ⟨75497473, 1, (.const 0), .w1c, .block, 0, 1, 0, 1, 122⟩

/- `NOC.CDCSTAT`, R410 -/
def NOC.CDCSTAT.FIRST : Ent := ⟨75497504, 8, (.const 0), .ro, .block, 0, 1, 0, 1, 123⟩
def NOC.CDCSTAT.COUNT : Ent := ⟨75497512, 8, (.const 0), .rc, .block, 0, 1, 0, 1, 124⟩

/- `NOC.RATE`, R410 -/
def NOC.RATE.RATE : Ent := ⟨75499520, 12, (.const 0), .rw, .cold, 32, 36, 0, 1, 125⟩
def NOC.RATE.BURST : Ent := ⟨75499532, 12, (.const 64), .rw, .cold, 32, 36, 0, 1, 126⟩

/- `NOC.PD.CTL`, R410 -/
def NOC.PD.CTL.AUTO : Ent := ⟨75501568, 1, (.const 0), .rw, .cold, 64, 13, 0, 1, 127⟩
def NOC.PD.CTL.IDLE : Ent := ⟨75501569, 15, (.const 100), .rw, .cold, 64, 13, 0, 1, 128⟩
def NOC.PD.CTL.WAKE : Ent := ⟨75501584, 1, (.const 0), .wo, .cold, 64, 13, 0, 1, 129⟩

/- `NOC.PD.STAT`, R410 -/
def NOC.PD.STAT.STATE : Ent := ⟨75501600, 2, (.const 0), .ro, .warm, 64, 13, 0, 1, 130⟩
def NOC.PD.STAT.HELD : Ent := ⟨75501602, 3, (.const 0), .ro, .warm, 64, 13, 0, 1, 131⟩
def NOC.PD.STAT.ABORTS : Ent := ⟨75501616, 16, (.const 0), .rc, .warm, 64, 13, 0, 1, 132⟩

/- `GCTL.ID`, R440 -/
def GCTL.ID.DEVICE : Ent := ⟨0, 16, (.const 34066), .ro, .cold, 0, 1, 0, 1, 90⟩
def GCTL.ID.VENDOR : Ent := ⟨16, 16, (.const 7567), .ro, .cold, 0, 1, 0, 1, 91⟩

/- `GCTL.REV`, R440 -/
def GCTL.REV.MINOR : Ent := ⟨32, 4, (.const 1), .ro, .cold, 0, 1, 0, 1, 92⟩
def GCTL.REV.MAJOR : Ent := ⟨36, 4, (.const 0), .ro, .cold, 0, 1, 0, 1, 93⟩
def GCTL.REV.GRADE : Ent := ⟨40, 1, (.const 0), .ro, .cold, 0, 1, 0, 1, 94⟩

/- `GCTL.STAT`, R440 -/
def GCTL.STAT.RUN : Ent := ⟨64, 1, (.const 0), .ro, .warm, 0, 1, 0, 1, 95⟩
def GCTL.STAT.SAFE : Ent := ⟨65, 1, (.const 0), .ro, .warm, 0, 1, 0, 1, 96⟩
def GCTL.STAT.FAULTN : Ent := ⟨66, 1, (.const 0), .ro, .warm, 0, 1, 0, 1, 97⟩
def GCTL.STAT.SPARE_LOW : Ent := ⟨67, 1, (.const 0), .ro, .warm, 0, 1, 0, 1, 98⟩
def GCTL.STAT.HALF_RATE : Ent := ⟨68, 1, (.const 0), .ro, .warm, 0, 1, 0, 1, 99⟩
def GCTL.STAT.SEALED : Ent := ⟨69, 1, (.const 0), .ro, .warm, 0, 1, 0, 1, 100⟩
def GCTL.STAT.HELD : Ent := ⟨70, 1, (.const 0), .ro, .warm, 0, 1, 0, 1, 101⟩
def GCTL.STAT.LC : Ent := ⟨71, 3, (.const 0), .ro, .warm, 0, 1, 0, 1, 102⟩
def GCTL.STAT.CASCADE : Ent := ⟨74, 3, (.const 0), .ro, .warm, 0, 1, 0, 1, 103⟩
def GCTL.STAT.MASTER : Ent := ⟨77, 1, (.const 0), .ro, .warm, 0, 1, 0, 1, 104⟩
def GCTL.STAT.TSTATE : Ent := ⟨78, 3, (.const 0), .ro, .warm, 0, 1, 0, 1, 105⟩

/- `GCTL.ESTAT`, R440 -/
def GCTL.ESTAT.ACCESS : Ent := ⟨96, 1, (.const 0), .w1c, .warm, 0, 1, 0, 1, 106⟩
def GCTL.ESTAT.RST_KEY : Ent := ⟨97, 1, (.const 0), .w1c, .warm, 0, 1, 0, 1, 107⟩
def GCTL.ESTAT.BRST_ERR : Ent := ⟨98, 1, (.const 0), .w1c, .warm, 0, 1, 0, 1, 108⟩

/- `GCTL.ASSIST`, R440 -/
def GCTL.ASSIST.MODE : Ent := ⟨128, 8, (.const 0), .rw, .cold, 0, 1, 0, 1, 109⟩

/- `GCTL.ASTAT`, R440 -/
def GCTL.ASTAT.HELD : Ent := ⟨160, 8, (.const 0), .ro, .warm, 0, 1, 0, 1, 110⟩
def GCTL.ASTAT.LASTDEC : Ent := ⟨176, 16, (.const 0), .ro, .cold, 0, 1, 0, 1, 111⟩

/- `GCTL.RST`, R440 -/
def GCTL.RST.WARM : Ent := ⟨192, 1, (.const 0), .wo, .warm, 0, 1, 0, 1, 112⟩
def GCTL.RST.KEY : Ent := ⟨208, 16, (.const 0), .wo, .warm, 0, 1, 0, 1, 113⟩

/- `GCTL.BRST`, R440 -/
def GCTL.BRST.UNIT : Ent := ⟨224, 5, (.const 0), .rw, .warm, 0, 1, 0, 1, 114⟩
def GCTL.BRST.INST : Ent := ⟨229, 7, (.const 0), .rw, .warm, 0, 1, 0, 1, 115⟩
def GCTL.BRST.GO : Ent := ⟨236, 1, (.const 0), .wo, .warm, 0, 1, 0, 1, 116⟩
def GCTL.BRST.BUSY : Ent := ⟨237, 1, (.const 0), .ro, .warm, 0, 1, 0, 1, 117⟩

/- `GCTL.RSTSTAT`, R440 -/
def GCTL.RSTSTAT.CAUSE : Ent := ⟨256, 2, (.const 0), .ro, .cold, 0, 1, 0, 1, 118⟩
def GCTL.RSTSTAT.WARMCNT : Ent := ⟨258, 16, (.const 0), .ro, .cold, 0, 1, 0, 1, 119⟩

/- `GCTL.SCRATCH`, R440 -/
def GCTL.SCRATCH.VALUE : Ent := ⟨384, 32, (.const 0), .rw, .cold, 32, 4, 0, 1, 120⟩

/- `TST.STAT`, R451 -/
def TST.STAT.LIVE : Ent := ⟨83886080, 1, (.const 1), .ro, .warm, 0, 1, 0, 1, 825⟩
def TST.STAT.ACTIVE : Ent := ⟨83886081, 1, (.const 0), .ro, .warm, 0, 1, 0, 1, 826⟩
def TST.STAT.JTAG : Ent := ⟨83886082, 1, (.const 0), .ro, .warm, 0, 1, 0, 1, 827⟩

/- `TST.ESTAT`, R451 -/
def TST.ESTAT.REFUSED : Ent := ⟨83886112, 1, (.const 0), .w1c, .warm, 0, 1, 0, 1, 828⟩

/- `TST.LB.CTL`, R451 -/
def TST.LB.CTL.MODE : Ent := ⟨83888128, 2, (.const 0), .rw, .warm, 1024, 41, 0, 1, 829⟩
def TST.LB.CTL.PAT : Ent := ⟨83888130, 4, (.const 0), .rw, .warm, 1024, 41, 0, 1, 830⟩
def TST.LB.CTL.GEN : Ent := ⟨83888134, 1, (.const 0), .rw, .warm, 1024, 41, 0, 1, 831⟩
def TST.LB.CTL.CHK : Ent := ⟨83888135, 1, (.const 0), .rw, .warm, 1024, 41, 0, 1, 832⟩
def TST.LB.CTL.LANES : Ent := ⟨83888136, 16, (.const 0), .rw, .warm, 1024, 41, 0, 1, 833⟩

/- `TST.LB.ERR`, R451 -/
def TST.LB.ERR.COUNT : Ent := ⟨83888160, 24, (.const 0), .rc, .warm, 1024, 41, 32, 16, 834⟩
def TST.LB.ERR.LOCK : Ent := ⟨83888184, 1, (.const 0), .ro, .warm, 1024, 41, 32, 16, 835⟩
def TST.LB.ERR.SAT : Ent := ⟨83888185, 1, (.const 0), .ro, .warm, 1024, 41, 32, 16, 836⟩

/- `TST.PERT.DELAY`, R451 -/
def TST.PERT.DELAY.DLY : Ent := ⟨83951616, 12, (.const 0), .rw, .warm, 128, 80, 0, 1, 837⟩
def TST.PERT.DELAY.JIT : Ent := ⟨83951628, 12, (.const 0), .rw, .warm, 128, 80, 0, 1, 838⟩

/- `TST.PERT.BP`, R451 -/
def TST.PERT.BP.ON : Ent := ⟨83951648, 16, (.const 0), .rw, .warm, 128, 80, 0, 1, 839⟩
def TST.PERT.BP.PERIOD : Ent := ⟨83951664, 16, (.const 0), .rw, .warm, 128, 80, 0, 1, 840⟩

/- `TST.HOMEPERT`, R451 -/
def TST.HOMEPERT.SNPDLY : Ent := ⟨83984384, 12, (.const 0), .rw, .warm, 32, 4, 0, 1, 841⟩

/- `TST.INJCTL`, R451 -/
def TST.INJCTL.DOMAIN : Ent := ⟨84017152, 4, (.const 0), .rw, .warm, 0, 1, 0, 1, 842⟩
def TST.INJCTL.INST : Ent := ⟨84017156, 7, (.const 0), .rw, .warm, 0, 1, 0, 1, 843⟩
def TST.INJCTL.BITS : Ent := ⟨84017163, 2, (.const 1), .rw, .warm, 0, 1, 0, 1, 844⟩
def TST.INJCTL.COUNT : Ent := ⟨84017165, 8, (.const 0), .rw, .warm, 0, 1, 0, 1, 845⟩
def TST.INJCTL.GAP : Ent := ⟨84017173, 9, (.const 0), .rw, .warm, 0, 1, 0, 1, 846⟩
def TST.INJCTL.ARM : Ent := ⟨84017182, 1, (.const 0), .wo, .warm, 0, 1, 0, 1, 847⟩

/- `TST.INJSTAT`, R451 -/
def TST.INJSTAT.BUSY : Ent := ⟨84017184, 1, (.const 0), .ro, .warm, 0, 1, 0, 1, 848⟩
def TST.INJSTAT.FIRED : Ent := ⟨84017185, 8, (.const 0), .ro, .warm, 0, 1, 0, 1, 849⟩

/- `BIND.STG`, R148 -/
def BIND.STG.VALUE : Ent := ⟨402685952, 96, (.const 0), .rw, .cold, 128, 64, 0, 1, 542⟩
def BIND.STG.TYPE : Ent := ⟨402686048, 1, (.const 0), .rw, .cold, 128, 64, 0, 1, 543⟩
def BIND.STG.INDEX : Ent := ⟨402686049, 12, (.const 0), .rw, .cold, 128, 64, 0, 1, 544⟩

/- `PERF.TSB`, R361 -/
def PERF.TSB.REC : Ent := ⟨35651584, 256, (.const 0), .ro, .warm, 256, 4096, 0, 1, 323⟩

/-- The fields of the COL registers. -/
def tabCOL : List Ent :=
  [COL.CFG.BIFUR, COL.CFG.CSLEEP_EN, COL.CFG.MAXRATE, COL.CFG.PRECODE, COL.CFG.APPLY, COL.STAT.CSTATE, COL.STAT.PLL_LOCK, COL.STAT.CFG_ERR, COL.STAT.BORROWED, COL.EQPOL.MINW_NRZ, COL.EQPOL.MINH_NRZ, COL.EQPOL.MINW_PAM4, COL.EQPOL.MINH_PAM4, COL.EYECTL.LANE, COL.EYECTL.EYE, COL.EYECTL.DWELL, COL.EYECTL.TDEC, COL.EYECTL.VDEC, COL.EYECTL.START, COL.EYECTL.ABORT, COL.EYESTAT.STATE, COL.EYESTAT.POINTS, COL.TRN.TRNCTL.EN, COL.TRN.TRNCTL.RETRAIN, COL.TRN.TRNCTL.REV_FORCE, COL.TRN.TRNCTL.SRIS, COL.TRN.TRNCTL.RETRY_INT, COL.TRN.TRNSTAT.LTSSM, COL.TRN.TRNSTAT.RATE, COL.TRN.TRNSTAT.WIDTH, COL.TRN.TRNSTAT.REVERSED, COL.TRN.TRNSTAT.EQ_HELD, COL.TRN.TRNSTAT.ATTEMPTS, COL.LANE.LCTL.POL_FORCE, COL.LANE.LCTL.OVR_EN, COL.LANE.LCTL.OVR_PRE, COL.LANE.LCTL.OVR_POST, COL.LANE.LCTL.OVR_APPLY, COL.LANE.LCTL.OVR_ERR, COL.LANE.LSTAT.PRE] ++
  [COL.LANE.LSTAT.MAIN, COL.LANE.LSTAT.POST, COL.LANE.LSTAT.PRESET, COL.LANE.LSTAT.POL_INV, COL.LANE.LSTAT.LOCK, COL.LANE.LSTAT.FINAL, COL.LANE.RXEQ.CTLE, COL.LANE.RXEQ.DFE1, COL.LANE.RXEQ.ADAPT, COL.LANE.LERR.CODE_ERR, COL.LANE.QEYE.WIDTH, COL.LANE.QEYE.HEIGHT, COL.LANE.QEYE.EYE_WORST, COL.LANE.QEYE.VALID, COL.EYEDATA.COUNT, COL.EYEDATA.SAT, COL.EYEDATA.VALID]

/-- The fields of the PORT registers. -/
def tabPORT : List Ent :=
  [PORT.CFG.ROLE, PORT.CFG.CXL_EN, PORT.CFG.MEM_EN, PORT.CFG.CACHE_EN, PORT.CFG.BI_EN, PORT.CFG.LOPT_EN, PORT.CFG.PTM_EN, PORT.CFG.POOL, PORT.STAT.PSTATE, PORT.STAT.PROTO, PORT.STAT.FLIT, PORT.STAT.IO, PORT.STAT.MEM, PORT.STAT.CACHE, PORT.STAT.BI, PORT.STAT.SWEEP, PORT.STAT.CFG_ERR, PORT.STAT.CACHE_DENIED, PORT.CTL.DISABLE, PORT.CTL.FORCE_DOWN, PORT.ESTAT.DOWN_SURPRISE, PORT.ESTAT.DOWN_ORDERLY, PORT.ESTAT.DOWN_FORCED, PORT.ESTAT.CTO, PORT.ESTAT.LATE, PORT.ESTAT.TAG_STALL, PORT.ESTAT.BI_MISSING, PORT.TAGCFG.RSV_IO, PORT.TAGCFG.RSV_MEM, PORT.TAGCFG.RSV_CACHE, PORT.TAGSTAT.IN_USE, PORT.TAGSTAT.PEAK, PORT.CTO.VALUE, PORT.DLCTL.MODE, PORT.DLCTL.FORCE, PORT.FLUSH_REQ.COUNT, PORT.FLUSH_RSP.COUNT, PORT.ERRCPL.COUNT, PORT.CTOCNT.COUNT, PORT.LATECNT.COUNT]

/-- The fields of the FRAME registers. -/
def tabFRAME : List Ent :=
  [FRAME.PLANECFG.SUB_THRESH, FRAME.PLANESTAT.SPARE, FRAME.PLANESTAT.P0, FRAME.PLANESTAT.P1, FRAME.PLANESTAT.P2, FRAME.PLANESTAT.P3, FRAME.PLANESTAT.P4, FRAME.PLANESTAT.FCNT, FRAME.PLANESTAT.NO_SPARE, FRAME.PLANESTAT.HALF_RATE, FRAME.PLANESTAT.SUBST, FRAME.PLANESTAT.SUB_ERR, FRAME.PLANESTAT.MAPX, FRAME.PLANECTL.PLANE, FRAME.PLANECTL.SUB, FRAME.SUBSTAT.LAST_NS, FRAME.SUBSTAT.MAX_NS, FRAME.SUBSTAT.COUNT, FRAME.PLANEERR.COUNT, FRAME.PLANEERR.EPOCH]

/-- The fields of the XP registers. -/
def tabXP : List Ent :=
  [FRAME.XP.BUFCFG.EXT_EN, FRAME.XP.BUFSTAT.DED, FRAME.XP.BUFSTAT.SHR, FRAME.XP.TCSHARE.MIN, FRAME.XP.TCSHARE.MAX, FRAME.XP.CMARK.T1, FRAME.XP.CMARK.T2, FRAME.XP.CMARK.T3, FRAME.XP.EGQ.EQMIN, FRAME.XP.EGQ.EQMAX, FRAME.XP.ESTAT.CFG_ERR, FRAME.XP.ESTAT.STALE, FRAME.XP.ESTAT.REPLAY, FRAME.XP.STALECNT.COUNT, FRAME.XP.REPLAYCNT.COUNT, FRAME.XP.UNITEP.EPOCH]

/-- The fields of the EG registers. -/
def tabEG : List Ent :=
  [FRAME.EG.SCHCFG.GATE_EN, FRAME.EG.SCHCFG.SHAPE_EN, FRAME.EG.SCHCFG.POLICE_EN, FRAME.EG.SCHCFG.GUARD, FRAME.EG.SCHCFG.WINEXP, FRAME.EG.SCHSTAT.UNIT_PS, FRAME.EG.SCHSTAT.U, FRAME.EG.ESTAT.CFG_ERR, FRAME.EG.ESTAT.GCL_ERR, FRAME.EG.ESTAT.LATE_BASE, FRAME.EG.ESTAT.FORCED, FRAME.EG.ESTAT.SPILL, FRAME.EG.ESTAT.TIME_STEP, FRAME.EG.OVRCNT.COUNT, FRAME.EG.GCLBASE.BASE, FRAME.EG.GCLCYCLE.CYCLE, FRAME.EG.GCLLEN.LEN, FRAME.EG.GCLCTL.SEL, FRAME.EG.GCLCTL.COMMIT, FRAME.EG.GCLCTL.CANCEL, FRAME.EG.GCLSTAT.RUN, FRAME.EG.GCLSTAT.LIST, FRAME.EG.GCLSTAT.PENDING, FRAME.EG.GCLSTAT.ENTRY, FRAME.EG.GCLSTAT.CLOSED_TC, FRAME.EG.GCL.GATES, FRAME.EG.GCL.INTERVAL, FRAME.EG.SAMPSTAT.WINSEQ, FRAME.EG.Q.QCFG.QUANTUM, FRAME.EG.Q.QCFG.BURST, FRAME.EG.Q.SHAPE.RATE, FRAME.EG.Q.POLICE.RATE, FRAME.EG.Q.SHAPE.DEPTH, FRAME.EG.Q.POLICE.DEPTH, FRAME.EG.Q.POLCNT.COUNT, FRAME.EG.Q.DEPTH.LIVE, FRAME.EG.Q.DEPTH.WMAX, FRAME.EG.Q.DAVG.WAVG, FRAME.EG.Q.DELAYMAX.NS, FRAME.EG.Q.DELAYAVG.NS]

/-- The fields of the BIND registers. -/
def tabBIND : List Ent :=
  [BIND.CTL.STGCNT, BIND.CTL.COMMIT, BIND.CTL.DISCARD, BIND.CTL.UNB_TO, BIND.STAT.EPOCH, BIND.STAT.DONE, BIND.STAT.BUSY, BIND.STAT.RESULT, BIND.STAT.BADIDX, BIND.ESTAT.MISS, BIND.ESTAT.REJECT, BIND.ESTAT.QABORT, BIND.ESTAT.MIGFAIL, BIND.MISSCNT.COUNT, BIND.BT.VALID, BIND.BT.HOST, BIND.BT.VPPB, BIND.BT.KIND, BIND.BT.TARGET, BIND.BT.UNMODE, BIND.BT.EPOCH, BIND.LD.VALID, BIND.LD.STATE, BIND.LD.POOL, BIND.LD.LDID, BIND.LD.MLD, BIND.LD.SHARE, BIND.LD.BASE, BIND.LD.SIZE, BIND.DEC.COMMITTED, BIND.DEC.LOCKED, BIND.DEC.IW, BIND.DEC.IG, BIND.DEC.BASE, BIND.DEC.SIZE, BIND.DEC.TARGET, BIND.MIG.MCTL.LD, BIND.MIG.MCTL.DPORT, BIND.MIG.MCTL.DLDID, BIND.MIG.MCTL.START] ++
  [BIND.MIG.MCTL.ABORT, BIND.MIG.MDEST.DBASE, BIND.MIG.MBM.BASE, BIND.MIG.MCFG.SHARE, BIND.MIG.MCFG.CONV, BIND.MIG.MCFG.MAXPASS, BIND.MIG.MSTAT.PHASE, BIND.MIG.MSTAT.PASS, BIND.MIG.MSTAT.THROTTLE, BIND.MIG.MSTAT.ERR, BIND.MIG.MCURSOR.OFFSET, BIND.MIG.MDIRTY.BLOCKS, BIND.MIG.MQSTAT.LAST_NS, BIND.MIG.MQSTAT.QABORTS, BIND.STG.VALUE, BIND.STG.TYPE, BIND.STG.INDEX]

/-- The fields of the HOME registers. -/
def tabHOME : List Ent :=
  [HOME.CFG.COARSE, HOME.CFG.SPEC_RD, HOME.CFG.BOARD_EN, HOME.STAT.OT_USE, HOME.STAT.CQ_USE, HOME.STAT.CQ_HELD, HOME.STAT.DEGR, HOME.STAT.FAILED, HOME.STAT.SWEEP, HOME.ESTAT.ECC_UE, HOME.ESTAT.POISONED, HOME.ESTAT.CQ_FULL, HOME.ESTAT.STALE_RSP, HOME.ESTAT.HMAP_MISS, HOME.ESTAT.RF_ERR, HOME.ESTAT.CFG_ERR, HOME.SCRUBCFG.PERIOD, HOME.SCRUBSTAT.PASSES, HOME.SCRUBSTAT.OVERRUN, HOME.ATCFG.IDLE, HOME.SPARESTAT.USED, HOME.SPARESTAT.NONE, HOME.PROBELK.LK, HOME.PROBECTL.GO, HOME.PROBECTL.DONE, HOME.PROBECTL.NOT_HOME, HOME.PROBECTL.HIT, HOME.PROBECTL.WAY, HOME.PROBECTL.SET, HOME.PROBEDATA.ENTRY, HOME.XCROSS.COUNT, HOME.EVICTCNT.COUNT, HOME.SNPCNT.COUNT, HOME.FWDCNT.COUNT, HOME.CECNT.COUNT, HOME.UECNT.COUNT, HOME.POISONCNT.COUNT, HOME.STALECNT.COUNT, HOME.HMAP.DHN, HOME.HMAP.VALID] ++
  [HOME.RFCTL.LD, HOME.RFCTL.TO_SHARED, HOME.RFCTL.GO, HOME.RFREG.REGION, HOME.RFSTAT.BUSY, HOME.RFSTAT.RESULT, HOME.RFSTAT.HELD, HOME.RFMAP.BASE, HOME.RFMAP.COUNT, HOME.RFMAP.DEFAULT, HOME.RFBITS.BITS]

/-- The fields of the SUM registers. -/
def tabSUM : List Ent :=
  [SUM.CFG.ATOM_EN, SUM.CFG.STRAY_EVT, SUM.STAT.BUSYWIN, SUM.STAT.QUSE, SUM.STAT.DEGR, SUM.STAT.FAILED, SUM.ESTAT.DUP, SUM.ESTAT.STRAY, SUM.ESTAT.FORM, SUM.ESTAT.OPEN_ERR, SUM.ESTAT.TIMEOUT, SUM.ESTAT.LOST, SUM.ESTAT.NO_RESULT, SUM.ESTAT.ATOM_ERR, SUM.LINES.COUNT, SUM.DUPCNT.COUNT, SUM.STRAYCNT.COUNT, SUM.PUBCNT.COUNT, SUM.TOCNT.COUNT, SUM.ABORTCNT.COUNT, SUM.ATOMCNT.COUNT, SUM.ATOMERR.COUNT, SUM.WIN.STATE, SUM.WIN.LASTERR, SUM.WIN.ARRIVED, SUM.WIN.GEN, SUM.WIN.REG, SUM.WIN.LOSTCNT, SUM.WIN.TREM, SUM.WIN.QUARTERS, SUM.GRANT.WBASE, SUM.GRANT.WCNT, SUM.GRANT.OPEN, SUM.GRANT.ATOM]

/-- The fields of the FN registers. -/
def tabFN : List Ent :=
  [FN.CAP.FNUM, FN.CAP.KIND, FN.CAP.MAXSQ, FN.STAT.STATE, FN.STAT.SQ_ERR, FN.STAT.RES_CHG, FN.STAT.CQ_ERR, FN.CTL.EVEC, FN.CTL.RESET, FN.SQ.BASE.BASE, FN.CQ.BASE.BASE, FN.SQ.CFG.EN, FN.CQ.CFG.EN, FN.SQ.CFG.LOGSIZE, FN.CQ.CFG.LOGSIZE, FN.CQ.CFG.VEC, FN.CQ.CFG.COUNT, FN.CQ.CFG.TIME, FN.SQ.STAT.HEAD, FN.SQ.STAT.STATE, FN.CQ.STAT.TAIL, FN.CQ.STAT.PHASE, FN.CQ.STAT.FULL, FN.SQ.DB.INDEX, FN.CQ.DB.INDEX]

/-- The fields of the DMV registers. -/
def tabDMV : List Ent :=
  [DMV.FRZCTL.FN, DMV.FRZCTL.OP, DMV.FRZCTL.GO, DMV.FRZSTAT.BUSY, DMV.FRZSTAT.RESULT, DMV.FRZADDR.ADDR, DMV.ERASECTL.LD, DMV.ERASECTL.ZERO, DMV.ERASECTL.GO, DMV.ERASESTAT.BUSY, DMV.ERASESTAT.RESULT, DMV.ERRCNT.COUNT, DMV.FN.FCFG.MAXSQ, DMV.FN.FCFG.SHARE, DMV.FN.FCFG.RATE, DMV.FN.FSTAT.STATE, DMV.FN.FSTAT.BOUND, DMV.FN.FSTAT.HOST, DMV.PAP.VALID, DMV.PAP.RD, DMV.PAP.WR, DMV.PAP.TFN, DMV.PAP.SIZE, DMV.PAP.BASE]

/-- The fields of the BLK registers. -/
def tabBLK : List Ent :=
  [BLK.CFG.EN, BLK.CFG.PEER_CHK, BLK.CFG.PEER_ID, BLK.CFG.RETRY_INT, BLK.STAT.LSTATE, BLK.STAT.PEER, BLK.STAT.PEERLINK, BLK.STAT.NO_SPARE, BLK.STAT.RELAYING, BLK.STAT.FAILCAUSE, BLK.STAT.ATTEMPTS, BLK.ESTAT.DOWN, BLK.ESTAT.RTO, BLK.ESTAT.BADSEQ, BLK.ESTAT.UCW, BLK.ESTAT.LANE_SUB, BLK.ESTAT.LINK_SUB, BLK.ESTAT.STALE_ACK, BLK.ESTAT.HELLO_FAIL, BLK.ESTAT.SUB_ERR, BLK.RTCFG.RTO, BLK.RTCFG.RTOMAX, BLK.RTCFG.FAILN, BLK.SEQSTAT.TXNEXT, BLK.SEQSTAT.TXACKED, BLK.RXSTAT.RXEXP, BLK.RXSTAT.HELD, BLK.LCTL.LANE, BLK.LCTL.SUB, BLK.LCTL.HANDOFF, BLK.LSPCFG.SUB_THRESH, BLK.LSPCFG.NAKHOLD, BLK.RETXCNT.COUNT, BLK.DUPCNT.COUNT, BLK.CRCCNT.COUNT, BLK.UCWCNT.COUNT, BLK.CCWCNT.COUNT, BLK.RTOCNT.COUNT, BLK.BADSEQ.COUNT, BLK.STALEACK.COUNT] ++
  [BLK.LANE.STATE, BLK.LANE.POS, BLK.LANE.EPOCH, BLK.LANE.LOCK, BLK.LANEERR.COUNT, BLK.CRED.LIMIT, BLK.CRED.USED]

/-- The fields of the BLKC registers. -/
def tabBLKC : List Ent :=
  [BLKC.CCFG.MCAND, BLKC.CCFG.UNREACH, BLKC.CSTAT.MYID, BLKC.CSTAT.MASTER, BLKC.CSTAT.MVALID, BLKC.CSTAT.IS_MASTER, BLKC.CSTAT.REACH, BLKC.CSTAT.DIRECT, BLKC.CSTAT.TSRC, BLKC.CSTAT.TLOCK, BLKC.DOMAIN.TAG, BLKC.ROUTE.LINKS, BLKC.ROUTE.VIA, BLKC.ROUTE.RELAY, BLKC.ROUTE.REACH, BLKC.LDDEV.DEV0, BLKC.LDDEV.DEV1, BLKC.LDDEV.DEV2, BLKC.LDDEV.DEV3, BLKC.LDDEV.DEV4, BLKC.LDDEV.DEV5, BLKC.LDDEV.DEV6, BLKC.LDDEV.DEV7]

/-- The fields of the SEC registers. -/
def tabSEC : List Ent :=
  [SEC.LCSTAT.STATE, SEC.LCSTAT.HELD, SEC.LCSTAT.SEALGEN, SEC.LCSTAT.OWNER, SEC.LCCTL.TARGET, SEC.LCCTL.ARM, SEC.LCCTL.GO, SEC.LCCTL.RESULT, SEC.LCCTL.BUSY, SEC.LCNONCE.NONCE, SEC.LCADDR.ADDR, SEC.DBGCTL.EN, SEC.DBGCTL.ACTIVE, SEC.KSTAT.LDKEYS, SEC.KSTAT.DOMAIN, SEC.KSTAT.DRBG_OK, SEC.ESTAT.CERT, SEC.ESTAT.UNSEAL_FAIL, SEC.ESTAT.IDE_FAIL, SEC.ESTAT.LC_ABORT, SEC.SPDMCFG.MUTUAL, SEC.SPDMCFG.MEAS_VCS, SEC.ROT.RCTL.LD, SEC.ROT.RCTL.RATE, SEC.ROT.RCTL.ARM, SEC.ROT.RCTL.CANCEL, SEC.ROT.RSTAT.PHASE, SEC.ROT.RSTAT.RESULT, SEC.ROT.RTIME.TIME, SEC.ROT.RRESCUE.RLD, SEC.ROT.RRESCUE.OFFSET, SEC.ROT.RCURSOR.OFFSET, SEC.IDE.IO_STATE, SEC.IDE.CM_STATE, SEC.IDE.KSET, SEC.IDE.REQ, SEC.IDE.ERRCNT, SEC.FUSESH.WORD, SEC.LDKEY.VALID, SEC.LDKEY.ROT] ++
  [SEC.LDKEY.GEN]

/-- The fields of the ACT registers. -/
def tabACT : List Ent :=
  [ACT.CFG.DEFAULT, ACT.STGCFG.DEFAULT, ACT.COMMIT.EPOCH, ACT.COMMIT.GO, ACT.COMMIT.DONE, ACT.COMMIT.SEALED, ACT.COMMIT.STG_BUSY, ACT.COMMIT.RESULT, ACT.FVSTAT.VALID, ACT.FVSTAT.OVF, ACT.FVSTAT.KIND, ACT.FVSTAT.OP, ACT.FVSTAT.DEFAULT, ACT.FVSTAT.ENTRY, ACT.FVSTAT.EPOCH, ACT.FVMID.MID, ACT.FVMID.LD, ACT.FVADDR.VALUE, ACT.FVTIME.VALUE, ACT.DENYCNT.COUNT, ACT.ENT.VALID, ACT.STG.VALID, ACT.ENT.KIND, ACT.STG.KIND, ACT.ENT.DENY, ACT.STG.DENY, ACT.ENT.RD, ACT.STG.RD, ACT.ENT.WR, ACT.STG.WR, ACT.ENT.LD, ACT.STG.LD, ACT.ENT.MID, ACT.STG.MID, ACT.ENT.MASK, ACT.STG.MASK, ACT.ENT.BASE, ACT.STG.BASE, ACT.ENT.LIMIT, ACT.STG.LIMIT]

/-- The fields of the SLOT registers. -/
def tabSLOT : List Ent :=
  [SLOT.CFG.MODE, SLOT.CFG.PORT_EN, SLOT.CFG.PORT, SLOT.CFG.RETRY_MAX, SLOT.CFG.RCLR, SLOT.CFG.FASTX, SLOT.CTL.ON, SLOT.CTL.ON_AT, SLOT.CTL.OFF, SLOT.CTL.CLEAR, SLOT.CTL.APPLY, SLOT.STAT.STATE, SLOT.STAT.PG, SLOT.STAT.WARN, SLOT.STAT.SEATED, SLOT.STAT.TIMER, SLOT.STAT.RETRY_RUN, SLOT.STAT.RETRIES, SLOT.STAT.LASTTRIP, SLOT.ESTAT.TRIP_TIMER, SLOT.ESTAT.TRIP_FAST, SLOT.ESTAT.TRIP_ENERGY, SLOT.ESTAT.TRIP_INRUSH, SLOT.ESTAT.TRIP_FETDEG, SLOT.ESTAT.FET_SHORT, SLOT.ESTAT.DISCH_FAIL, SLOT.ESTAT.GLITCH, SLOT.ESTAT.LATCH, SLOT.ESTAT.INPUT, SLOT.ESTAT.CFG_ERR, SLOT.ILIM.ILIM, SLOT.ILIM.ILIM_IR, SLOT.ILIM.RSENSE, SLOT.TFLT.TFLT, SLOT.TFLT.TINRUSH, SLOT.TSEQ.TDEB, SLOT.TSEQ.TINSERT, SLOT.TSEQ.TREMOVE, SLOT.TRETRY.TRETRY, SLOT.TRETRY.SLEW] ++
  [SLOT.TRETRY.TPGDLY, SLOT.FETCHK.VDSPG, SLOT.FETCHK.VDSMAX, SLOT.FETCHK.EMAX, SLOT.MEAS.VOUT, SLOT.MEAS.VSNS, SLOT.EACC.ELAST, SLOT.EACC.EMAXSEEN, SLOT.COUNTS.TRIPCNT, SLOT.COUNTS.GLITCHCNT, SLOT.ONAT.TIME]

/-- The fields of the SLOTV registers. -/
def tabSLOTV : List Ent :=
  [SLOTV.CFG.PF_EN, SLOTV.CFG.FALLRATE, SLOTV.THR0.OV, SLOTV.THR0.QHI, SLOTV.THR0.QLO, SLOTV.THR0.WARN, SLOTV.THR1.UVLO, SLOTV.STAT.VIN, SLOTV.STAT.WARN, SLOTV.STAT.UVLO, SLOTV.STAT.OV, SLOTV.STAT.INWIN, SLOTV.ESTAT.WARN_EV, SLOTV.ESTAT.UVLO_EV, SLOTV.ESTAT.OV_EV, SLOTV.ESTAT.CFG_ERR]

/-- The fields of the FLT registers. -/
def tabFLT : List Ent :=
  [FLT.CFG.QUIET, FLT.CFG.STORM, FLT.CFG.SAFE_SLOT_OFF, FLT.STAT.SAFE, FLT.STAT.FAULTN, FLT.STAT.UCHELD, FLT.STAT.DROPS, FLT.ESTAT.OVF, FLT.ESTAT.SELF, FLT.RECOV.COUNT, FLT.RHEAD.INDEX, FLT.RTAIL.INDEX, FLT.LINES.SLOT, FLT.LINEEN.SLOT, FLT.LINES.VIN, FLT.LINEEN.VIN, FLT.LINES.TEMP, FLT.LINEEN.TEMP, FLT.LINES.RAIL, FLT.LINEEN.RAIL, FLT.LINES.CLK, FLT.LINEEN.CLK, FLT.LINEEN.FLTN, FLT.SUBTHR.ROW, FLT.SUBTHR.CORE, FLT.FENCE.CLASS, FLT.FENCE.INDEX, FLT.FENCE.RELEASE, FLT.FENCE.BUSY, FLT.FENCE.RESULT, FLT.SPARE.PLANE, FLT.SPARE.CORE, FLT.SPARE.ROW, FLT.SPARE.LANE, FLT.SPARE.HOME, FLT.SPARE.SUM, FLT.STALENOC.COUNT, FLT.CTL.FAULTN_CLR, FLT.FATALREC.RECORD, FLT.REC.RECORD] ++
  [FLT.UNIT.EPOCH, FLT.UNIT.STATE, FLT.UNIT.ROLE, FLT.SRC.EVT_CE, FLT.SRC.EVT_UC, FLT.SRC.FLTN_CE, FLT.SRC.FLTN_UC, FLT.SRC.MUTE, FLT.SRC.STORM, FLT.CNT.CE, FLT.CNT.UC]

/-- The fields of the EVT registers. -/
def tabEVT : List Ent :=
  [EVT.RING.CTL.EN, EVT.RING.CTL.LOG, EVT.RING.STAT.ARMED, EVT.RING.STAT.FULL, EVT.RING.STAT.BUF, EVT.RING.STAT.PHASE, EVT.RING.STAT.HEAD_ERR, EVT.RING.STAT.CFG_ERR, EVT.RING.BASE.BASE, EVT.RING.HEAD.INDEX, EVT.RING.TAIL.INDEX, EVT.ERRCNT.BADCPL, EVT.ERRCNT.SRCDROP, EVT.RING.DROPS.COUNT, EVT.WAKELAT.LINE, EVT.WAKEEN.LINE, EVT.GRP.HOLD, EVT.GRP.HOLD_CORE, EVT.GRP.HOLD_RING, EVT.CORE.THRESH.THRESH, EVT.CORE.CLAIM.SRC, EVT.CORE.CLAIM.CAUSE, EVT.CORE.CLAIM.OVF, EVT.CORE.CLAIM.WAKE, EVT.CORE.CLAIM.VALID, EVT.CORE.COMPLETE.SRC, EVT.CORE.CTIME.TIME, EVT.CORE.CPAY.PAYLOAD, EVT.CORE.CSTAT.IRQ, EVT.CORE.CSTAT.ACTIVE, EVT.CORE.CSTAT.ROLEVALID, EVT.CORE.CSTAT.ROLE, EVT.SRC.PRIO, EVT.SRC.FM, EVT.SRC.MASK, EVT.SRC.HELD, EVT.SRC.CORE, EVT.SRC.ASSIGNED, EVT.SRC.STATE]

/-- The fields of the PERF registers. -/
def tabPERF : List Ent :=
  [PERF.CTL.FREEZE, PERF.CTL.FRZOVF, PERF.STAT.FROZEN, PERF.STAT.TSFULL, PERF.STAT.NEXT, PERF.STAT.COUNT, PERF.ESTAT.OVF, PERF.ESTAT.SEL_ERR, PERF.ESTAT.TSB_FULL, PERF.FRZAT.ARM, PERF.SNAPAT.ARM, PERF.FRZAT.TIME, PERF.SNAPAT.TIME, PERF.SNAPCFG.PER, PERF.SNAPCFG.EXP, PERF.SNAPCFG.SNAPSEQ, PERF.SNAPTIME.TIME, PERF.BWCFG.EXP, PERF.TSCFG.EN, PERF.TSCFG.WRAP, PERF.TSCFG.RAND, PERF.TSCFG.NLOG, PERF.TSCFG.XP, PERF.TSCFG.ALLXP, PERF.TSCFG.OPCMASK, PERF.TSFILT.LD, PERF.TSFILT.LDF, PERF.TSMISS.COUNT, PERF.CNT.SEL.EVENT, PERF.CNT.SEL.EN, PERF.CNT.SEL.CHAIN, PERF.CNT.SEL.OVF, PERF.CNT.SEL.OVF_EVT, PERF.CNT.SEL.TCF_EN, PERF.CNT.SEL.TC, PERF.CNT.VALUE.COUNT, PERF.CNT.SNAP.COUNT, PERF.CNT.VALUE.OVF, PERF.CNT.SNAP.OVF, PERF.VIEW.PORT] ++
  [PERF.VIEW.EN, PERF.GRANT.VIEW, PERF.GRANT.EN, PERF.GRANT.BW, PERF.BW.RX.UNITS, PERF.BW.TX.UNITS, PERF.BWSEQ.SEQ, PERF.TSB.REC]

/-- The fields of the BOOT registers. -/
def tabBOOT : List Ent :=
  [BOOT.STAT.PHASE, BOOT.STAT.RESULT, BOOT.STAT.FWSLOT, BOOT.STAT.CFGSLOT, BOOT.STAT.JHALF, BOOT.STAT.JGAP, BOOT.STAT.UNOWNED, BOOT.STAT.SEALED, BOOT.STAT.MODE, BOOT.STAT.WIDTH, BOOT.CTL.RELEASE, BOOT.CTL.JRESET, BOOT.CTL.COMPACT, BOOT.ESTAT.JWRITE, BOOT.ESTAT.SEAL, BOOT.ESTAT.VOID, BOOT.ESTAT.GAP, BOOT.ESTAT.CFG_REJ, BOOT.ESTAT.WEAR, BOOT.ESTAT.MIRROR, BOOT.JCFG.HIWAT, BOOT.JCFG.CSLOT, BOOT.JCFG.PFREL, BOOT.JSTAT.FILL, BOOT.JSTAT.COMPACT, BOOT.JSTAT.GEN, BOOT.JCFG2.ENDUR, BOOT.JSEQ.SEQ, BOOT.WEAR.ERASEA, BOOT.WEAR.ERASEB, BOOT.SECVER.SECVER, BOOT.UPDCTL.TARGET, BOOT.UPDCTL.GO, BOOT.UPDSTAT.BUSY, BOOT.UPDSTAT.RESULT, BOOT.UPDLEN.LEN, BOOT.UPDADDR.ADDR, BOOT.POLCTL.CNT, BOOT.POLCTL.GO, BOOT.POLSTAT.BUSY] ++
  [BOOT.POLSTAT.RESULT, BOOT.POLSTAT.BADIDX, BOOT.POL.OFFSET, BOOT.POL.VALUE]

/-- The fields of the TIME registers. -/
def tabTIME : List Ent :=
  [TIME.CTL.TREF_EN, TIME.CTL.PPS_EN, TIME.CTL.PPSOUT_EN, TIME.CTL.STEP, TIME.CTL.SLEW, TIME.CTL.STEPTHR, TIME.STAT.STATE, TIME.STAT.TREF_OK, TIME.STAT.PPS_OK, TIME.STAT.STEPPED, TIME.STAT.SET_ERR, TIME.STAT.SLEWING, TIME.NOW.NS, TIME.FRAC.FRAC, TIME.SET.NS, TIME.ADJ.OFFSET, TIME.ERR.EST_ERR, TIME.PPSCFG.PWIDTH]

/-- The fields of the NOC registers. -/
def tabNOC : List Ent :=
  [NOC.ESTAT.CDC_OVR, NOC.ESTAT.STALE, NOC.CDCSTAT.FIRST, NOC.CDCSTAT.COUNT, NOC.RATE.RATE, NOC.RATE.BURST, NOC.PD.CTL.AUTO, NOC.PD.CTL.IDLE, NOC.PD.CTL.WAKE, NOC.PD.STAT.STATE, NOC.PD.STAT.HELD, NOC.PD.STAT.ABORTS]

/-- The fields of the GCTL registers. -/
def tabGCTL : List Ent :=
  [GCTL.ID.DEVICE, GCTL.ID.VENDOR, GCTL.REV.MINOR, GCTL.REV.MAJOR, GCTL.REV.GRADE, GCTL.STAT.RUN, GCTL.STAT.SAFE, GCTL.STAT.FAULTN, GCTL.STAT.SPARE_LOW, GCTL.STAT.HALF_RATE, GCTL.STAT.SEALED, GCTL.STAT.HELD, GCTL.STAT.LC, GCTL.STAT.CASCADE, GCTL.STAT.MASTER, GCTL.STAT.TSTATE, GCTL.ESTAT.ACCESS, GCTL.ESTAT.RST_KEY, GCTL.ESTAT.BRST_ERR, GCTL.ASSIST.MODE, GCTL.ASTAT.HELD, GCTL.ASTAT.LASTDEC, GCTL.RST.WARM, GCTL.RST.KEY, GCTL.BRST.UNIT, GCTL.BRST.INST, GCTL.BRST.GO, GCTL.BRST.BUSY, GCTL.RSTSTAT.CAUSE, GCTL.RSTSTAT.WARMCNT, GCTL.SCRATCH.VALUE]

/-- The fields of the TST registers. -/
def tabTST : List Ent :=
  [TST.STAT.LIVE, TST.STAT.ACTIVE, TST.STAT.JTAG, TST.ESTAT.REFUSED, TST.LB.CTL.MODE, TST.LB.CTL.PAT, TST.LB.CTL.GEN, TST.LB.CTL.CHK, TST.LB.CTL.LANES, TST.LB.ERR.COUNT, TST.LB.ERR.LOCK, TST.LB.ERR.SAT, TST.PERT.DELAY.DLY, TST.PERT.DELAY.JIT, TST.PERT.BP.ON, TST.PERT.BP.PERIOD, TST.HOMEPERT.SNPDLY, TST.INJCTL.DOMAIN, TST.INJCTL.INST, TST.INJCTL.BITS, TST.INJCTL.COUNT, TST.INJCTL.GAP, TST.INJCTL.ARM, TST.INJSTAT.BUSY, TST.INJSTAT.FIRED]

/-- The windows of R431, and the function BAR0s above them: the fields that an access at byte address `a` may reach. -/
def tabAt (a : Nat) : List Ent :=
  if a < 0x100000 then tabGCTL else
  if a < 0x200000 then tabBOOT else
  if a < 0x300000 then tabFLT else
  if a < 0x400000 then tabEVT else
  if a < 0x500000 then tabPERF else
  if a < 0x600000 then tabTIME else
  if a < 0x700000 then tabSEC else
  if a < 0x800000 then tabACT else
  if a < 0x820000 then tabSLOT else
  if a < 0x900000 then tabSLOTV else
  if a < 0xa00000 then tabNOC else
  if a < 0xb00000 then tabTST else
  if a < 0x1000000 then [] else
  if a < 0x2000000 then tabPORT else
  if a < 0x2400000 then tabCOL else
  if a < 0x2500000 then tabBLK ++ tabBLKC else
  if a < 0x2800000 then [] else
  if a < 0x2900000 then tabFRAME ++ tabXP else
  if a < 0x2980000 then tabEG else
  if a < 0x3000000 then [] else
  if a < 0x4000000 then tabBIND else
  if a < 0x5000000 then tabHOME else
  if a < 0x8000000 then [] else
  if a < 0x8400000 then tabSUM else
  if a < 0x8500000 then tabDMV else
  if a < 0x100000000 then [] else
  tabFN

/-- Every field of the map. -/
def tabAll : List Ent :=
  tabEVT ++ tabFLT ++ tabGCTL ++ tabNOC ++ tabBOOT ++ tabSEC ++ tabTIME ++ tabACT ++ tabPERF ++ tabSLOT ++ tabSLOTV ++ tabCOL ++ tabPORT ++ tabBIND ++ tabHOME ++ tabFRAME ++ tabXP ++ tabEG ++ tabBLK ++ tabBLKC ++ tabSUM ++ tabDMV ++ tabFN ++ tabTST

/-- The 64-bit registers (R10): byte address, and the strides and counts of the two indexes. -/
def wideRegs : List (Nat × Nat × Nat × Nat × Nat) :=
  [(0x100018, 0, 1, 0, 1), (0x100038, 0, 1, 0, 1), (0x100100, 8, 64, 0, 1), (0x200018, 0, 1, 0, 1),
   (0x200020, 0, 1, 0, 1), (0x300008, 0, 1, 0, 1), (0x300020, 0, 1, 0, 1), (0x300028, 0, 1, 0, 1),
   (0x30020c, 32, 5, 0, 1), (0x400010, 0, 1, 0, 1), (0x400018, 0, 1, 0, 1), (0x400028, 0, 1, 0, 1),
   (0x410008, 256, 384, 32, 8), (0x410010, 256, 384, 32, 8), (0x500008, 0, 1, 0, 1), (0x500018, 0, 1, 0, 1),
   (0x600008, 0, 1, 0, 1), (0x600010, 0, 1, 0, 1), (0x600048, 32, 2, 0, 1), (0x600050, 32, 2, 0, 1)] ++
  [(0x600058, 32, 2, 0, 1), (0x700018, 0, 1, 0, 1), (0x700020, 0, 1, 0, 1), (0x800030, 4096, 32, 0, 1),
   (0x2900010, 8192, 64, 16, 2), (0x3030008, 64, 2, 0, 1), (0x3030018, 64, 2, 0, 1), (0x4000020, 4194304, 4, 0, 1),
   (0x4020000, 8, 4096, 0, 1), (0x8400008, 0, 1, 0, 1), (0x100000100, 65536, 256, 16, 4), (0x100000200, 65536, 256, 0, 1)]

end Sys2Proof.Machine
end

