-- ==== Sys2Proof/Machine/Assoc.lean ====
section
/-! DEFINITION. Association lists with strictly rising keys: the one form in which the model keeps sparse tables. -/

namespace Sys2Proof.Machine

/-- The value at a key. -/
def look {α : Type} (l : List (Nat × α)) (k : Nat) : Option α :=
  match l with
  | [] => none
  | (k', v) :: t => if k = k' then some v else look t k

/-- The value at a key, or `d` where the table lists none. -/
def lookD {α : Type} (l : List (Nat × α)) (k : Nat) (d : α) : α :=
  match look l k with
  | some v => v
  | none => d

/-- The table with `v` at key `k`. -/
def put {α : Type} (l : List (Nat × α)) (k : Nat) (v : α) : List (Nat × α) :=
  match l with
  | [] => [(k, v)]
  | (k', v') :: t =>
    if k < k' then (k, v) :: (k', v') :: t
    else if k = k' then (k, v) :: t
    else (k', v') :: put t k v

/-- The table without key `k`. -/
def del {α : Type} (l : List (Nat × α)) (k : Nat) : List (Nat × α) :=
  l.filter (fun c => c.1 != k)

/-- Keys strictly rising. -/
def rising {α : Type} : List (Nat × α) → Bool
  | [] => true
  | [_] => true
  | (a, _) :: (b, y) :: t => decide (a < b) && rising ((b, y) :: t)

/-- A register table: `put`, but a value of 0 removes the entry, so that equal register files are equal lists. -/
def putNZ (l : List (Nat × Nat)) (k v : Nat) : List (Nat × Nat) :=
  if v = 0 then del l k else put l k v

/-- No entry is 0. -/
def noZero (l : List (Nat × Nat)) : Bool := l.all (fun c => c.2 != 0)

/-- Element `i` of a list, or `d`. -/
def nthD {α : Type} (l : List α) (i : Nat) (d : α) : α :=
  match l, i with
  | [], _ => d
  | x :: _, 0 => x
  | _ :: t, n + 1 => nthD t n d

/-- The list with element `i` replaced. -/
def setNth {α : Type} (l : List α) (i : Nat) (v : α) : List α :=
  match l, i with
  | [], _ => []
  | _ :: t, 0 => v :: t
  | x :: t, n + 1 => x :: setNth t n v

/-- The list without its first element that satisfies `p`, and that element. -/
def takeFirst {α : Type} (p : α → Bool) : List α → Option (α × List α)
  | [] => none
  | x :: t =>
    if p x then some (x, t)
    else
      match takeFirst p t with
      | some (y, r) => some (y, x :: r)
      | none => none

/-- A number into a rising list, once. -/
def insertNat (n : Nat) : List Nat → List Nat
  | [] => [n]
  | a :: t => if n < a then n :: a :: t else if n = a then a :: t else a :: insertNat n t

/-- A list without a number. -/
def without (n : Nat) (l : List Nat) : List Nat := l.filter (· != n)

end Sys2Proof.Machine
end

