-- ==== Sys2Proof/Machine/State.lean ====
section
/-! DEFINITION. The state of the OSG-8512 as plain data, and the state after reset. Registers stand in `regs`; what the spec gives the machine beside its registers stands in one structure for each unit. -/

namespace Sys2Proof.Machine

/-- No command of this model ends in a fault: every effect that the spec describes ends in a next state. The one reason is raised by no meaning; safe. -/
inductive Fault where
  /-- Raised by no meaning; it keeps the type inhabited. Safe. -/
  | none
  deriving DecidableEq, Repr

/-- Why a command has no effect in this model. -/
inductive Refusal where
  /-- Raised by the dispatch for a command that has no meaning yet; safe. -/
  | notModelled (mnemonic : String)
  deriving DecidableEq, Repr

/-- A message that a port puts on its link, or a unit takes: opcode, tag, address, LD-ID, MetaValue, data (key 0 is plaintext), byte enables, poison, DevLoad, completion status, and the length in bytes that a read asks for. -/
structure LinkMsg where
  op : Opc
  tag : Nat
  addr : Nat
  ldid : Nat
  mv : Meta
  data : List Cipher
  be : Nat
  poison : Bool
  devLoad : Nat
  status : CplStatus
  len : Nat
  deriving DecidableEq, Repr

/-- The channels for which a port advertises link credits (R72). -/
inductive Channel where
  | posted | nonPosted | completion | m2sReq | m2sRwD | biRsp | s2mNdr | s2mDrs | biSnp | h2dReq | h2dRsp | h2dData | d2hReq | d2hRsp | d2hData
  deriving DecidableEq, Repr

/-- What the device drives outwards, in the order of its effects. -/
inductive Out where
  /-- The word that a register read returns, with the address and the master. -/
  | rdata (m : Master) (addr v : Nat)
  /-- A vector raised towards the FM host (R347). -/
  | fmVector (v : Nat)
  /-- A posted write towards the FM host: address and contents (R345). -/
  | fmWrite (addr data : Nat)
  /-- FAULT_N driven active or released (R325). -/
  | faultN (active : Bool)
  /-- STATUS of a DECIDE (R391). -/
  | status (via : Via) (st : Nat)
  /-- A Receiver Error recorded by a port (R38). -/
  | rxError (p : Nat)
  /-- The answer to a coefficient request or a margining command of the partner (R42, R44). -/
  | coeff (c l : Nat) (ok : Bool)
  | margin (c l : Nat) (ok : Bool)
  /-- Margining capabilities (R44): timing steps per side, maximum timing offset in per cent of UI, voltage steps per side, maximum voltage offset in mV, whether samples are reported as a count, and the lanes margined at once; timing and voltage margining are both independent in their two directions. -/
  | marginCaps (c l tSteps tMax vSteps vMax : Nat) (sampleCount : Bool) (lanes : Nat)
  /-- The sample count of a lane being margined (R44). -/
  | marginSamples (c l n : Nat)
  /-- The preset from which the receiver has the partner start an equalization (R51). -/
  | eqPreset (p k : Nat)
  /-- Precoding at the rate just reached (R41): as transmitter, and as the receiver requests it. -/
  | precoding (p : Nat) (tx rx : Bool)
  /-- T_POWER_ON that a port advertises, in microseconds (R54, R55), and CLKREQ# of the port (R53). -/
  | tPowerOn (p us : Nat)
  | clkreq (p : Nat) (asserted : Bool)
  /-- Link credits returned on a channel list: one header and the data credits in 16 B units (R91). -/
  | credit (p lst units : Nat)
  /-- Credits advertised for a channel at DL_Up: header and data credits, in the units of R72. -/
  | advertise (p : Nat) (ch : Channel) (hdr data : Nat)
  /-- A hot reset sent on the link (R74). -/
  | hotReset (p : Nat)
  /-- The latency tolerance reported to a host (R62). -/
  | ltr (p v : Nat)
  /-- A flit is replayed by the link layer (R38, R83). -/
  | linkReplay (p : Nat)
  /-- A message on the link of a fabric port, or towards the unit at crossbar port 64 to 79. -/
  | link (p : Nat) (m : LinkMsg)
  /-- The FM API's Set LD Allocations command, proxied to a multi-logical pool (R130). -/
  | ldAlloc (p : Nat) (allocs : List Nat)
  /-- A range of pool memory that the device itself fills with zeros: a bitmap area (R137). -/
  | poolFill (p addr bytes : Nat)
  /-- The internal ZERO of a whole LD under its key, by the key's generation (R221). -/
  | ldZero (ld gen : Nat)
  /-- Programming of a pool device's decoder: an LD function's, passed through to a multi-logical pool, or one way with base 0 over the capacity of a single-logical one (R128). -/
  | hdmPass (p ldid : Nat) (g : HdmProg)
  /-- A DATA bead of a Beamlink with its header and the packets that end in it (R229, R232), a CTRL bead (R242) and a TIME bead (R252). -/
  | bead (n : Nat) (h : BeadHdr) (pkts : List LinkPkt)
  | ctrl (n : Nat) (h : BeadHdr) (cseq : Nat) (m : CtrlMsg)
  | timeBead (n : Nat) (h : BeadHdr) (kind : Nat) (t : TimeBead)
  /-- An IDLE bead: its header and the credit vector (R230). -/
  | idleBead (n : Nat) (h : BeadHdr) (credits : List Nat)
  /-- Hot-plug events of a vPPB towards its host: presence, or the attention button (R135). -/
  | presence (host vppb : Nat) (there : Bool)
  | attentionButton (host vppb : Nat)
  /-- The interrupt of a vPPB's slot, which its host enabled (R135). -/
  | slotInterrupt (host vppb : Nat)
  /-- A sealed blob of a data mover function, written to the fabric manager's memory (R218). -/
  | blob (addr : Nat) (b : VfBlob)
  /-- The answer of the SPDM responder on a DOE instance: response code and data (R275 to R277). -/
  | spdm (doe code : Nat) (data : List Nat)
  /-- A PTM response of a fabric port: fabric time in ns (R406). -/
  | ptm (p time : Nat)
  /-- A NoC request enters the mesh at a router, with its flits (R398). -/
  | noc (r flits : Nat)
  /-- The response of a NoC request is taken by the endpoint at its router (R397). -/
  | nocRsp (r : Nat)
  /-- PPS_OUT rises, until the given time in ns (R405). -/
  | ppsOut (till : Nat)
  /-- The contents of the register that an instruction connects between TDI and TDO (R442). -/
  | tdo (v : Nat)
  /-- The boundary register shifts out what its observe cells captured (R442, R443). -/
  | captured (pins : List Pin)
  /-- The boundary cells drive the pins named high, and the others with a driving cell low (R444); or every pin is released. -/
  | pins (high : List Pin)
  | pinsReleased
  deriving DecidableEq, Repr

/-- An event record (R339), without the ring phase. -/
structure EvRec where
  src : Nat
  cause : Nat
  ovf : Bool
  wake : Bool
  time : Nat
  payload : Nat
  deriving DecidableEq, Repr

/-- The event controller beside its registers (R340 to R350): records held and claimed at each source, the rotating pointer of R341, the ring buffer of R345, dropped records not yet reported, the groups of the entries from HEAD to TAIL, the groups written since the last raise, and the wake latches' edge counts and capture times. -/
structure EvtSt where
  held : List (Nat × List EvRec)
  claimed : List (Nat × List EvRec)
  rot : Nat
  buf : List EvRec
  lost : Nat
  ring : List Nat
  fresh : List Nat
  edges : List (Nat × Nat × Nat)
  deriving DecidableEq, Repr

/-- A bring-in (R328) from its switch-over to its SUBST record: class, old unit, incoming unit, position. -/
structure BringIn where
  cls : Nat
  old : Nat
  new : Nat
  pos : Nat
  deriving DecidableEq, Repr

/-- A storm of one source (R324): last kind and OBJ seen, CE records withheld, time of the last record. -/
structure Storm where
  kind : Nat
  withheld : Nat
  last : Nat
  deriving DecidableEq, Repr

/-- The fault collector beside its registers: records that reporters hold, with their time of detection (R315); records of which the spec asks one for each LD or binding, and which wait for their reporter; CE records stored per source in the current window (R324); storms; time of the last record that asserted FAULT_N and of the clearing of the last condition (R325); a FATAL in force; epoch counters by class (R331); last heartbeat of each core (R329); the epoch that each core role and each position is expected to carry (R332); bring-ins and the release in progress; corrected-error counts of cores (R329); ring words whose check bits were written with bits inverted, by index (R327, R448). -/
structure FltSt where
  held : List (ErrRec × Nat)
  owed : List (ErrRec × Nat)
  win : List (Nat × Nat × Nat)
  storms : List (Nat × Storm)
  lastAssert : Nat
  condEnd : Nat
  fatal : Bool
  ctr : List Nat
  beat : List Nat
  roleEp : List Nat
  bringIns : List BringIn
  release : Option (Nat × Nat)
  coreCe : List Nat
  damaged : List (Nat × Nat)
  deriving DecidableEq, Repr

/-- How a decision stands (R391). -/
inductive DecStat where
  | held | answered | lapsed | closed
  deriving DecidableEq, Repr

/-- The arbiter's record of a decision (R26, R391): function, OBJ, the time its timeout lapses, how it stands, and whether what it decides on has gone (R28; log entry on ended conditions). -/
structure Dec where
  func : Nat
  obj : Nat
  deadline : Nat
  stat : DecStat
  void : Bool
  deriving DecidableEq, Repr

/-- What the fuses hold (R256, R285, R435): life-cycle state, SEALGEN, owner and firmware key hashes, serial number, and whether a transition was interrupted before its wipe. -/
structure Fuses where
  lc : Nat
  sealGen : Nat
  owner : Option (BitVec 384)
  fwHash : BitVec 384
  serial : Nat
  wipeOwed : Option Nat
  idBlown : Bool
  deriving DecidableEq, Repr

/-- Why an eye scan is paused (R47): margining of the lane, the quick eye scan of a port, Recovery. -/
inductive Pause where
  | margin | quickEye (p : Nat) | recovery
  deriving DecidableEq, Repr

/-- A running or paused eye scan (R45 to R47): lane, decimations, dwell and the point in progress. -/
structure Scan where
  lane : Nat
  tdec : Nat
  vdec : Nat
  t : Nat
  v : Nat
  paused : List Pause
  deriving DecidableEq, Repr

/-- A column beside its registers: the configuration in force (bits [6:0] of CFG, R36), the scan, whether column-sleep entry has passed its point of no return and holds a wake (R56), lanes being margined (R44), and overrides that wait for L0 (R43). -/
structure ColSt where
  cfg : Nat
  scan : Option Scan
  wakeHeld : Bool
  margined : List Nat
  ovrWait : List (Nat × Nat × Nat)
  deriving DecidableEq, Repr

/-- A packet in the Frame with the fields of its internal header (R82) and what it carries. `lst` is 0 REQ, 1 RWD, 2 RSP, 3 SNP; `rid` names the request that it is, or answers; `ld` and `dpa` are its translation where `toLd` holds; `mirror` marks the copy of a write that goes to a migration's destination (R143); `ddev` and `dxp` name the device and crossbar port it goes to in a cascade (R231); `deriv` marks a message that R87 covers, `lp` holds a link packet that is relayed (R249), `len` is the length in bytes that a request asks for, `ido` and `rqid` are its ID-Based Ordering attribute and requester ID (R85), `gen` the generation of the LD's key when it was translated to a placement (R143), and `own` marks a packet that the device made itself, behind which no link credit stands (R91). -/
structure Pkt where
  uid : Nat
  op : Opc
  lst : Nat
  src : Nat
  dest : Nat
  orig : Nat
  tc : Nat
  payload : Nat
  mid : Nat
  ruleEp : Nat
  bindEp : Nat
  unitEp : Nat
  clvl : Nat
  poison : Bool
  relaxed : Bool
  rid : Nat
  tag : Nat
  addr : Nat
  mv : Meta
  data : List Line
  be : Nat
  ld : Nat
  dpa : Nat
  toLd : Bool
  shared : Bool
  status : CplStatus
  devLoad : Option Nat
  home : Option HomeMsg
  ddev : Nat
  dxp : Nat
  mirror : Bool
  deriv : Bool
  lp : Option LinkPkt
  len : Nat
  gen : Nat
  ido : Bool
  rqid : Nat
  own : Bool
  deriving DecidableEq, Repr

/-- A packet in an ingress buffer: whether it stands in the shared pool (R91), and how often in succession it failed on one plane (R100), and whether its link credits have gone back (R91). -/
structure VoqEnt where
  p : Pkt
  ext : Bool
  failPlane : Nat
  fails : Nat
  paid : Bool
  deriving DecidableEq, Repr

/-- A crossing that the egress has not yet confirmed (R100): the egress's crossbar port, slots for which the connection is still held (R97), the packets on it, whether it failed or was discarded behind a failed one, and the time of its match in ns (R99). -/
structure Cross where
  e : Nat
  tc : Nat
  slots : Nat
  ents : List VoqEnt
  dead : Bool
  at_ : Nat
  deriving DecidableEq, Repr

/-- A packet in an egress queue and the fabric time at which its header arrived (R123). -/
structure EgEnt where
  p : Pkt
  at_ : Nat
  deriving DecidableEq, Repr

/-- A request that counts towards the drains of its epochs until it completes (R88): originator's crossbar port, its tag there, opcode, class, epochs, CLVL kept with it (R106), target LD and DPA, line state asked for, time of acceptance, whether it is posted, responses still to come, for a request of another device that device and its crossbar port (R231), lines of a posted write to a home whose data have not crossed, and whether it counts as completed although responses are still under way (R88). -/
structure Req where
  x : Nat
  tag : Nat
  op : Opc
  tc : Nat
  mid : Nat
  ruleEp : Nat
  bindEp : Nat
  clvl : Nat
  ld : Nat
  dpa : Nat
  toLd : Bool
  posted : Bool
  time : Nat
  left : Nat
  odev : Nat
  oxp : Nat
  wr : Nat
  done : Bool
  deriving DecidableEq, Repr

/-- A plane substitution in progress (R102): failed plane, spare, position, start in ns, and triggers for other planes that wait, with whether each is a hard failure (R104). -/
structure Subst where
  old : Nat
  new : Nat
  pos : Nat
  start : Nat
  waiting : List (Nat × Bool)
  deriving DecidableEq, Repr

/-- The Frame beside its registers: ingress buffers in order of arrival, unconfirmed crossings by ingress in order, streams whose egress awaits a replay, as ingress and egress * 8 + class (R100), packets that cross first after a substitution (R102), packets for which an internal unit stalls at its crossbar port (R93), grant and accept pointers (R96), the class last sent by ingress to egress (R97), ALLOC and FREED by egress and class (R94), egress queues, open requests by id, the next packet and request ids, times of recent errors on each plane (R101), the substitution in progress, parked payloads by id (R155), BIConflictAcks that follow the last response of a request (R163), packets handed to the units at ports 64 to 79 and not yet taken. -/
structure FrameSt where
  voq : List (Nat × List VoqEnt)
  cross : List (Nat × List Cross)
  replay : List (Nat × Nat)
  first : List Nat
  stalled : List (Nat × List Pkt)
  gptr : List (Nat × Nat)
  aptr : List (Nat × Nat)
  lastTc : List (Nat × Nat)
  alloc : List (Nat × Nat)
  freed : List (Nat × Nat)
  egq : List (Nat × List EgEnt)
  reqs : List (Nat × Req)
  nextId : Nat
  planeErr : List (Nat × List Nat)
  subst : Option Subst
  parked : List (Nat × VoqEnt)
  acks : List (Nat × Pkt)
  inbox : List (Nat × List Pkt)
  deriving DecidableEq, Repr

/-- An egress set beside its registers (R113 to R123): deficits, shaper tokens and policer tokens by class (tokens in 1/16 byte times 2^-16), the time they were last refilled (2^-16 ns), the pointer, QCFG writes that wait for a visit, the running list with its start and the pending one (R118), forced heads with the end of the window in which they were marked, and the start of each head's failed cycle (R120), the last window end that it latched (R123), and the window's measures by class: greatest depth, sum and number of samples, greatest delay, sum and number of delays (R123). -/
structure EgSt where
  d : List Nat
  tok : List Nat
  pol : List Nat
  refilled : Nat
  ptr : Nat
  run : Option (Nat × Nat)
  pend : Option (Nat × Nat)
  forced : List (Nat × Nat)
  failSince : List (Nat × Nat)
  winAt : Nat
  wmax : List Nat
  sampled : Nat
  sum : List Nat
  cnt : Nat
  dmax : List Nat
  dsum : List Nat
  dcnt : List Nat
  deriving DecidableEq, Repr

/-- A tag in use (R69 to R71): its number on the link, whether the port sent the request, protocol (0 CXL.io and PCIe, 1 CXL.mem, 2 CXL.cache), the request it stands for, the partner's tag, its deadline in ns, whether it is quarantined, a partial write being merged (R264), its opcode, the packet that was sent, and where it comes from (R70): 0 its protocol's reserve, 1 the shared remainder, 2 the 32 that only sent requests draw. -/
structure TagEnt where
  tag : Nat
  sent : Bool
  proto : Nat
  rid : Nat
  deadline : Nat
  quar : Bool
  merge : Option (Line × Nat)
  opc : Opc
  pkt : Option Pkt
  pool : Nat
  deriving DecidableEq, Repr

/-- How a port left UP (R74). -/
inductive Loss where
  | surprise | orderly | forced
  deriving DecidableEq, Repr

/-- A port beside its registers: what negotiation settled, the lanes in use (R49), the rate cap and the rates at which the last equalization failed (R50), redos, the presets as phase 3 ranked them, the sets tried with their scores (R51), the rate of the final coefficients (R52), precoding as transmitter and as receiver (R41), an AER Receiver Error (R38, R62), tags, requests that wait for a tag (R70), the flush in progress, whether the local sweeps of R78 are owed, whether the flush itself is over, whether RETRAIN asked for training (R58), a wait of RETRY_INT, a forced loss whose recovery is a decision (R323), whether the host came UP last without back-invalidate, and the suspended bindings of which a record was raised (R68), link credits of the partner per list (R111), a wake of the column for the port (R56), the place in the order in which ports reached UP (R67), ROLE and POOL at the last entry to TRAINING (R90), and the latency tolerance that its device reported (R62). -/
structure PortSt where
  neg : Option LinkNeg
  used : List (Nat × Nat)
  rateCap : Option Nat
  eqFails : List Nat
  redos : Nat
  ranking : List Nat
  tried : List (Nat × List (Nat × Nat × Nat))
  finalRate : Nat
  precodeTx : Bool
  precodeRx : Bool
  rxErr : Bool
  quickEye : Bool
  tags : List TagEnt
  waiting : List LinkReq
  loss : Option Loss
  recoverable : Bool
  waitRetry : Bool
  sweepOwed : Bool
  flushed : Bool
  retrain : Bool
  biLost : Bool
  suspended : List Nat
  credits : List (Nat × Nat × Nat)
  wantTrain : Bool
  upNo : Nat
  carved : Option (Nat × Bool)
  ltr : Option Nat
  deriving DecidableEq, Repr

/-- A port of which nothing is held. -/
def PortSt.fresh : PortSt :=
  { neg := none, used := [], rateCap := none, eqFails := [], redos := 0, ranking := [], tried := [], finalRate := 0, precodeTx := false, precodeRx := false,
    rxErr := false, quickEye := false, tags := [], waiting := [], loss := none, recoverable := false, waitRetry := false, sweepOwed := false, flushed := false,
    retrain := false, biLost := false, suspended := [], credits := [], wantTrain := false, upNo := 0, carved := none, ltr := none }

/-- A change of the binding tables in progress (R133): its staged entries, hosts (port, vPPB) that step 1 waits for, whether its record is requested and whether it is sealed, the keys of newly carved LDs (R261), the sequence number of the record, and the time in ns at which step 1 began (R132). -/
structure Change where
  entries : List StgEntry
  waits : List (Nat × Nat)
  asked : Bool
  sealed_ : Bool
  keys : List (Nat × Nat)
  seq : Nat
  since : Nat
  deriving DecidableEq, Repr

/-- A live migration (R137 to R146): the LD and its state before START, the destination, the migration key, dirty blocks, the last completed checkpoint, quiesces aborted in succession, requests held at translation with their crossbar port and number, the start of the quiesce in ns, whether the quiesce waits for a commit (R147), whether MIG_COMMIT is sealed, whether an abort waits for its record and whether that record is requested, the sequence number of MIG_START, the header of the bitmap area as the destination holds it (R138), source reads of the copy under way by request with their LD offset (R139), the bytes that writes may still take while they are throttled (R140), and whether the pass in progress is the one further pass of MIG_PASS (R141). -/
structure MigSt where
  ld : Nat
  prior : Nat
  dport : Nat
  dldid : Nat
  dbase : Nat
  dmld : Bool
  key : Nat
  dirty : List Nat
  ckpt : Nat
  aborts : Nat
  held : List (Nat × Nat × LinkReq)
  qstart : Nat
  wantQ : Bool
  sealed_ : Bool
  aborting : Bool
  asked : Bool
  start : Nat
  area : Option Nat
  reads : List (Nat × Nat)
  allow : Nat
  once : Bool
  deriving DecidableEq, Repr

/-- The configuration registers of a vPPB that its host writes (R62, R135): ACS Control (source validation, translation blocking, request redirect, completion redirect, upstream forwarding from bit 0), Slot Control, and the changed bits of Slot Status. -/
structure Vppb where
  acs : Nat
  ctl : Nat
  sts : Nat
  deriving DecidableEq, Repr

/-- The binding engine beside its registers: the change in progress; decoders of the LD functions of vPPBs ((host * 256 + vPPB) * 16 + decoder, R128); decoders with Error Not Committed (R127); per vPPB (host * 256 + vPPB) presence, slot power turned off by the host, Attention Button Pressed, and the registers that its host writes (R135); state of FAILED LDs before the loss (R323); keys to destroy when the drain ends (R131, R143); lost writes by LD with their count and first DPA (R77); the migrations; what each pool port's device reports, and what it reported before a loss (R130, R323); former key and LD-ID of an LD whose older epoch drains (R143, R221); requests of internal units and Beamlinks that stall at their crossbar ports behind a full hold queue or a throttled LD, with port and number (R140, R142, R169). -/
structure BindSt where
  change : Option Change
  fnDec : List (Nat × HdmProg)
  hdmErr : List Nat
  present : List Nat
  powerOff : List Nat
  attention : List Nat
  vppbs : List (Nat × Vppb)
  failedFrom : List (Nat × Nat)
  dropKeys : List Nat
  lost : List (Nat × Nat × Nat)
  mig0 : Option MigSt
  mig1 : Option MigSt
  pools : List (Nat × PoolReport)
  poolWas : List (Nat × PoolReport)
  former : List (Nat × Nat × Nat)
  backlog : List (Nat × Nat × LinkReq)
  deriving DecidableEq, Repr

/-- A NoC power domain beside its registers (R399, R400): management accesses that wait for it in order, the first 4 in its boundary buffer; what waits at the egress towards it; whether a wake is pending, and the time it went OFF, in ns. -/
structure PdSt where
  held : List Instr
  late : List Instr
  wake : Bool
  offAt : Nat
  deriving DecidableEq, Repr

/-- The management complex beside its registers: power domains by number, regulator tokens in thousandths of a flit with the time they were filled in ns (R398), requests waiting at injection as router and flits, response room that endpoints hold reserved, by router and flits, and the routers whose requests are in the mesh (R397), remaining slew in 2^-16 ns with its sign (R404), EST_ERR on entry to the present time state and the time of that entry in ns (R403), the time of an MCTP session's last FM API request in ns (R395), the time until which PPS_OUT is high in ns (R405), the instruction selected at the test port (R442), the boundary register: the pins whose driving cells hold 1 and those whose observe cells do (R443), the time of the last injection in ns (R448). -/
structure MgmtSt where
  pds : List (Nat × PdSt)
  tokens : List (Nat × Nat × Nat)
  noc : List (Nat × Nat)
  nocRoom : List (Nat × Nat)
  nocSent : List Nat
  slew : Int
  errBase : Nat
  errAt : Nat
  mctpLast : Nat
  ppsHigh : Nat
  jtag : Nat
  bdrive : List Pin
  bseen : List Pin
  injAt : Option Nat
  deriving DecidableEq, Repr

/-- Who waits on a journal record (R132, R284 and the other requesters of R377). -/
inductive JWait where
  | bind | act (n : Nat) | mig (m : Nat) | rot (r : Nat) | rf | erase (ld : Nat) | policy | update | jnl | none
  deriving DecidableEq, Repr

/-- A request for a journal record (R378). -/
structure JReq where
  body : JBody
  keys : List SealedKey
  who : JWait
  deriving DecidableEq, Repr

/-- The record being written (R378): pages programmed, whether this is the repeat, whether its last page is in. -/
structure JCur where
  recd : JRec
  who : JWait
  second : Bool
  reading : Bool
  deriving DecidableEq, Repr

/-- Compaction (R380): the cut SEQ C, and the state as of C that goes into the other half. -/
structure Compaction where
  cut : Nat
  snap : List JRec
  deriving DecidableEq, Repr

/-- BOOT and the journal beside their registers: the flash, requests waiting and the record in work, last applied SEQ (R374), next SEQ, records sealed during a seal whose change was not applied, compaction, blocks still to be erased, the mirror ring and the page of its area that is written next (R378), an update's image and time, pending policy pairs, PWRFAIL_N asserted, the verified configuration image. -/
structure BootSt where
  flash : Flash
  queue : List JReq
  cur : Option JCur
  applied : Nat
  nextSeq : Nat
  unapplied : List Nat
  comp : Option Compaction
  eraseLeft : Nat
  halfBlank : Bool
  mirror : Option (Nat × Nat × Nat)
  mirrorRing : List JRec
  mirrorAt : Nat
  update : Option (Bool × Image)
  policies : List (Nat × Nat)
  pwrfail : Bool
  img : Option Image
  deriving DecidableEq, Repr

/-- The access table beside its registers (R283, R284): number of the latest commit, whether a record since the last sealed one failed, and the changed entries of the next record. -/
structure ActSt where
  latest : Nat
  failed : Bool
  unsealed : Nat
  deriving DecidableEq, Repr

/-- The block that a rotation rewrites (R268): its offset, the step it is in (1 read, 2 rescue data written, 3 rescue header written, 4 block written), whether its contents come from the rescue data after a restart (R269), its traffic class, its open reads by offset in the block, and what has come back: offset, lines and poison. -/
structure RotBlk where
  b : Nat
  stage : Nat
  rescued : Bool
  tc : Nat
  reads : List (Nat × Nat)
  got : List (Nat × List Line × Bool)
  deriving DecidableEq, Repr

/-- A key rotation in progress (R267, R268): the LD, the incoming key, the sequence number of its ROT_START, whether a migration has paused it (R270), the last journalled cursor, the block that is being rewritten (R268), and whether its ROT_DONE record is requested. -/
structure RotSt where
  ld : Nat
  key : Nat
  start : Nat
  paused : Bool
  ckpt : Nat
  copying : Option RotBlk
  finishing : Bool
  migDone : Bool
  deriving DecidableEq, Repr

/-- The security block beside its registers: DRBG draws, by which keys are named; the keys of LDs, the domain key, link key sets (port * 16 + stream * 2 + set), sessions with their DOE instance, failures in succession of the two noise sources (3 is out of use), the deadline of an armed transition, the rotations, and what their rescue areas last took (block, copied, ROT_START). -/
structure SecSt where
  draws : Nat
  ldKeys : List (Nat × Nat)
  domain : Option Nat
  linkKeys : List (Nat × Nat)
  sessions : List (Nat × Nat)
  nextSession : Nat
  noise0 : Nat
  noise1 : Nat
  armed : Option Nat
  rot0 : Option RotSt
  rot1 : Option RotSt
  rescue : List (Nat × Nat × Bool × Nat)
  deriving DecidableEq, Repr

/-- A Tally entry (R150): TAG, STATE, SHARERS, PIN, PRIOR and NRU. A corrected or uncorrectable ECC error is an event of its own, so no check bits are kept. -/
structure TallyEnt where
  tag : Nat
  state : Nat
  sharers : Nat
  pin : Bool
  prior : Nat
  nru : Bool
  deriving DecidableEq, Repr

/-- What a transaction of a home slice is (R154): the classes of requests, and the eviction of a victim, the write-back of a board line and the poisoning of a departed owner's line. -/
inductive HCls where
  | rdS | rdA | rdI | invA | wb | wr | cln | nop | atom | evict | board | poison
  deriving DecidableEq, Repr

/-- An open transaction of a line key (R156 to R160): the request; the Tally entry it pins (set * 16 + way); the stable state it found and its SHARERS; hosts whose snoops are outstanding, and hosts snooped that keep a copy; an outstanding pool read and whether its payload is to be dropped; the payload in hand, whether it is a writeback that also goes to the pool; whether its own writes are issued; pool writes outstanding; the writeback to be completed after PC; whether it runs, and whether the requester is answered. -/
structure HomeTx where
  lk : Nat
  cls : HCls
  msg : HomeMsg
  slot : Option Nat
  from_ : Nat
  vec : Nat
  owed : List Nat
  kept : List Nat
  rdOut : Bool
  drop : Bool
  pay : Option Nat
  payWb : Bool
  issued : Bool
  pcs : Nat
  wb : Option HomeMsg
  runs : Bool
  answered : Bool
  claim : Option Nat
  deriving DecidableEq, Repr

/-- What a slice still has to do within a step: apply a message, or give a way to the request that claimed it. -/
inductive HTodo where
  | msg (cls : HCls) (m : HomeMsg)
  | rsp (m : HomeMsg)
  | way (lk slot : Nat)
  deriving DecidableEq, Repr

/-- A line on the atomic board (R177): its key, data, poison, and the time of its last atomic. -/
structure BoardLine where
  lk : Nat
  data : Line
  poison : Bool
  used : Nat
  deriving DecidableEq, Repr

/-- One directory share (R149): the Tally by set * 16 + way, open transactions, requests that wait for their line in order, line keys in the carry queue and those that found it full (R165), messages held for WB_AHEAD (R157), responses to absorb (R161), the board (oldest use first), actions still due in this step, corrected errors by row, substituted rows, the time after which the next scrub pass falls due, whether the decision point of R167 is armed, and entries whose check bits were written with bits inverted, by place (R448). -/
structure HomeSt where
  tally : List (Nat × TallyEnt)
  txs : List HomeTx
  waiting : List (HCls × HomeMsg)
  carry : List Nat
  overflow : List Nat
  ahead : List (HTodo)
  absorb : List (Nat × Nat)
  board : List BoardLine
  todo : List HTodo
  rowCe : List (Nat × Nat)
  rows : List Nat
  scrubAt : Nat
  armed : Bool
  latent : List (Nat × Nat)
  deriving DecidableEq, Repr

/-- A region conversion (R169): LD, region, direction, whether its record is sealed, whether the clearing of its lines has begun, the hosts to be snooped and the next line for it, hosts and lines whose snoops are owed, held requests. -/
structure Conv where
  ld : Nat
  region : Nat
  toShared : Bool
  sealed_ : Bool
  cleared : Bool
  hosts : List Nat
  next : Nat
  owed : List (Nat × Nat)
  held : List (Nat × Nat × LinkReq)
  deriving DecidableEq, Repr

/-- Coherence state that no single share holds: writeback trackers (port, line key) (R157), writes of hosts of other devices whose headers have been applied (identity, line key), hosts of other devices that have used an LD of this one (host, LD), departing hosts with the LD to which a departure is restricted (R170, R174), the conversion, coarse mode in force (R171), lines poisoned by a departure (host, LD, count, first line key), bindings whose HMAP miss has been recorded (R153). -/
structure HomeG where
  tracker : List (Nat × Nat)
  applied : List (Nat × Nat)
  seen : List (Nat × Nat)
  departing : List (Nat × Option Nat)
  conv : Option Conv
  coarse : Bool
  poisoned : List (Nat × Nat × Nat × Nat)
  hmapSeen : List Nat
  deriving DecidableEq, Repr


/-- An open transaction sample (R360, R361): crossbar ports, class, opcode class, flags, identity, LD, address with its kind, and time of acceptance. -/
structure Sample where
  sxp : Nat
  dxp : Nat
  tc : Nat
  opc : Nat
  shared : Bool
  snooped : Bool
  fwd : Bool
  poison : Bool
  clvl : Nat
  flush : Bool
  mid : Nat
  ld : Nat
  addr : Nat
  ak : Bool
  time : Nat
  deriving DecidableEq, Repr

/-- Performance monitoring beside its registers: a freeze or resume that waits for its boundary (R358), eligible requests until the next sample, open samples by request (R360), and the cost received and sent by each port in the present window, in bytes (R359). -/
structure PerfSt where
  want : Option Bool
  left : Nat
  open_ : List (Nat × Sample)
  rx : List (Nat × Nat)
  tx : List (Nat × Nat)
  deriving DecidableEq, Repr


/-- A DATA bead in the retransmit window (R232): its number, the packets that end in it, and when it was last sent again, in ns. -/
structure TxBead where
  seq : Nat
  pkts : List LinkPkt
  resent : Option Nat
  deriving DecidableEq, Repr

/-- A CTRL message that waits for its answer (R242): CSEQ, the message, and the time of its first sending in ns. -/
structure CtrlWait where
  cseq : Nat
  msg : CtrlMsg
  since : Nat
  deriving DecidableEq, Repr

/-- A lane substitution of this receiver (R243): position, the lane that leaves, and the switch point, once agreed. -/
structure LaneSub where
  pos : Nat
  lane : Nat
  at_ : Nat
  agreed : Bool
  deriving DecidableEq, Repr

/-- A link handoff (R244): the link that takes the stream, or none for a relay path; whether this side has sent HANDOFF, and whether the peer's RXEXP is known. -/
structure Handoff where
  to_ : Option Nat
  sent : Bool
  peerRx : Option Nat
  deriving DecidableEq, Repr

/-- A Beamlink beside its registers (R226 to R244): retransmit window, the packets that the visit in progress has taken for its next beads, expiries in succession and last interval of its timer, reorder buffer by sequence number, own cumulative grants by class and the class whose grant the next header carries (R230), CSEQ last used, messages awaiting answers, last message received of each CTYPE by CSEQ, HELLO received and its nonce, whether the peer's MAC has passed and whether ours was asked for, consecutive uncorrectable codewords, the last CWCNT of each direction, the substitution and the positions that this sender still has to move, the handoff, lanes' counts at the start of the present window, when the link last went down, and the time exchange. -/
structure BlkSt where
  win : List TxBead
  out : List LinkPkt
  expiries : Nat
  interval : Nat
  timerAt : Nat
  slots : List (Nat × List LinkPkt)
  grants : List (Nat × Nat)
  csel : Nat
  cseq : Nat
  waits : List CtrlWait
  seen : List (Nat × Nat)
  hello : Option Nat
  macIn : Bool
  bad : Nat
  cwcnt : Nat
  sub : Option LaneSub
  txMove : List (Nat × Nat)
  handoff : Option Handoff
  winErr : List (Nat × Nat)
  xid : Nat
  t1 : Nat
  delay : Option Nat
  deriving DecidableEq, Repr

/-- The cascade (R242 to R252): the last TOPO bitmap of each device, peers whose new link set waits for its fence, requests to devices without a path, DEPART_DONE messages owed by host (DHN, device), ids of master candidates known, a role change that is due, and the hosts departed because their device was lost. -/
structure BlkG where
  topo : List (Nat × Nat)
  fences : List Nat
  held : List (Nat × Nat × Nat × LinkReq)
  departs : List (Nat × Nat)
  cands : List Nat
  xfer : Option (Nat × Nat)
  lostAt : List (Nat × Nat)
  deriving DecidableEq, Repr


/-- One element's lane of a long rod (R188): the exact sum in units of the lane's weight, and the element flags; `snan` and `pois` keep what R191 asks of its operands. -/
structure SumEl where
  sum : Int
  nan : Bool
  snan : Bool
  pinf : Bool
  ninf : Bool
  nz : Bool
  np : Bool
  pois : Bool
  deriving DecidableEq, Repr

/-- A registered slot (R186, R187, R197): its function, CADDR, CVAL, the lines that have arrived as a mask, and whether it is LOST. -/
structure SumSlot where
  fn : Nat
  caddr : Nat
  cval : Nat
  lines : Nat
  lost : Bool
  deriving DecidableEq, Repr

/-- A Sum window beside its register (R183 to R196): the descriptor's fields, the opener, registered slots, the rods by line, the deadline of its timer in ns, status and flags of the publication in progress, the epochs of that publication (R193), and the missing-slot bitmap of the latest publication or abort. -/
structure SumWin where
  fmt : Nat
  rmode : Nat
  intsat : Bool
  loss : Bool
  rearm : Bool
  lines : Nat
  expect : Nat
  ctc : Nat
  timeout : Nat
  raddr : Nat
  opener : Nat
  slots : List (Nat × SumSlot)
  rods : List (Nat × List SumEl)
  deadline : Option Nat
  status : Nat
  flags : Nat
  ruleEp : Nat
  bindEp : Nat
  bitmap : Nat
  deriving DecidableEq, Repr

/-- A far atomic at its home (R201, R202): function, result address, traffic class, TAG, size, operation code, OP0, engine, and the submission queue and index of the descriptor that it serves, if a descriptor asked for it (R212), and the epochs of the command (R87, R201). -/
structure AtomWait where
  fn : Nat
  raddr : Nat
  rtc : Nat
  tag : Nat
  wide : Bool
  opc : Nat
  op0 : Nat
  eng : Nat
  src : Option (Nat × Nat)
  ruleEp : Nat
  bindEp : Nat
  deriving DecidableEq, Repr

/-- The Sum engines beside their registers: windows by number, far atomics by the number of their request, and windows that finish on the partner of an engine that has returned to service (R333). -/
structure SumSt where
  wins : List (Nat × SumWin)
  atoms : List (Nat × AtomWait)
  away : List Nat
  deriving DecidableEq, Repr

/-- A descriptor that a data mover function has fetched (R209 to R213): submission queue and index, its 64 bytes, bytes done, CRC register, the status that a check or a completion has fixed (0 none), its final status once it has ended, RESULT, MISMATCH, the offset at which a freeze stops it, and whether the Sum engine has answered. -/
structure DmvDesc where
  q : Nat
  idx : Nat
  d : Nat
  bytes : Nat
  crc : Nat
  err : Nat
  fin : Option Nat
  result : Nat
  mism : Bool
  limit : Option Nat
  verdict : Bool
  deriving DecidableEq, Repr

/-- A data mover function beside its registers (R208 to R219): last tails written, descriptors in order of fetching, the host's CQ head and the entries the host holds, entries written since the last raise and the time of the oldest in ns, MSI-X pending bits and table, CQ entries restored and not yet written, and whether it has been restored. -/
structure FnSt where
  tails : List Nat
  exec : List DmvDesc
  cqHead : Nat
  used : Nat
  coal : Nat
  coalAt : Option Nat
  pba : Nat
  msix : List Nat
  heldQ : List Nat
  restored : Bool
  deriving DecidableEq, Repr

/-- A crypto-erase in progress (R221): LD, new key, whether a zero fill follows, and its stage: 0 waits for the record, 1 for the commit point, 2 for the drain, 3 for the fill. -/
structure Erase where
  ld : Nat
  key : Nat
  zero : Bool
  stage : Nat
  deriving DecidableEq, Repr

/-- The data mover beside its registers: functions, the function whose freeze runs, the crypto-erase. -/
structure DmvSt where
  fns : List (Nat × FnSt)
  frz : Option Nat
  erase : Option Erase
  deriving DecidableEq, Repr

/-- The configuration that a slot controller works under: the fields of CFG, ILIM, TFLT, TSEQ, TRETRY and FETCHK as the last accepted APPLY took them (R314). -/
structure SlotCfg where
  mode : Nat
  portEn : Bool
  port : Nat
  retryMax : Nat
  rclr : Nat
  fastx : Nat
  ilim : Nat
  ilimIr : Nat
  rsense : Nat
  tflt : Nat
  tinrush : Nat
  tdeb : Nat
  tinsert : Nat
  tremove : Nat
  tretry : Nat
  tpgdly : Nat
  vdspg : Nat
  vdsmax : Nat
  emax : Nat
  deriving DecidableEq, Repr

/-- A slot in the slot die (R295 to R309). Moments are in its own ticks: ticks counted, the microsecond of fabric time at the last one, configuration, state and the tick of entering it, power good and its tick, early warning, seating, running fault timer (its start), the tick at which it stopped with normal current since, retry timer (its end), retries, last trip, the first tick of the present qualification, consecutive high ticks of the seating pins with the first of them and whether seating is lost, start of the insertion delay, energy of the running episode (VDS in mV times V_SNS in 0.01 mV, per tick), start of a degraded-FET condition and of the two short conditions, the tick of the last gate-off while V_SNS has not fallen, start of a passing short check, state after DISCHARGE, whether SLOT_DISCH_n is driven, commands ON, ON_AT and OFF that wait, and a lockout to recover from. -/
structure SlotSt where
  t : Nat
  seen : Nat
  cfg : SlotCfg
  state : Nat
  entered : Nat
  pg : Bool
  pgAt : Nat
  warn : Bool
  seated : Bool
  timer : Option Nat
  calm : Option Nat
  retry : Option Nat
  retries : Nat
  lastTrip : Nat
  qual : Option Nat
  highs : Nat
  lossAt : Nat
  lost : Bool
  insert : Option Nat
  energy : Option Nat
  degr : Option Nat
  leakI : Option Nat
  leakV : Option Nat
  offAt : Option Nat
  pass : Option Nat
  next : Nat
  disch : Bool
  wantOn : Bool
  wantAt : Bool
  wantOff : Bool
  lockout : Bool
  deriving DecidableEq, Repr

/-- The slot die beside its registers: slots by number, and the last readings of VIN by microsecond, newest first (R310). -/
structure SlotDie where
  slots : List (Nat × SlotSt)
  vins : List (Nat × Nat)
  deriving DecidableEq, Repr

/-- The whole device. -/
structure State where
  /-- The register file: bit address of a field and its value XOR its reset value, where they differ. -/
  regs : List (Nat × Nat)
  /-- Upper halves latched by low-word reads, by byte address (R10). -/
  latch : List (Nat × Nat)
  /-- Fabric time in 2^-16 ns (R403). -/
  now : Nat
  /-- What the device has sent, oldest first. -/
  out : List Out
  /-- Number of free values used; the model's own. -/
  free : Nat
  fuses : Fuses
  straps : Straps
  evt : EvtSt
  flt : FltSt
  /-- Decisions by DECID (R26). -/
  decs : List (Nat × Dec)
  nextDec : Nat
  /-- The FM port's link is up (R29). -/
  fmUp : Bool
  /-- An authenticated MCTP session stands (R29, R395). -/
  mctpOpen : Bool
  cols : List (Nat × ColSt)
  ports : List (Nat × PortSt)
  frame : FrameSt
  egs : List (Nat × EgSt)
  bind : BindSt
  /-- Directory shares by die number. -/
  homes : List (Nat × HomeSt)
  homeG : HomeG
  act : ActSt
  sec : SecSt
  mgmt : MgmtSt
  boot : BootSt
  sum : SumSt
  dmv : DmvSt
  perf : PerfSt
  die : SlotDie
  blks : List (Nat × BlkSt)
  blkG : BlkG
  /-- Ports whose new requests to a slice wait (R167), as masks by slice. -/
  throttle : List (Nat × Nat)
  /-- The commands that wait, first in, first out. -/
  pending : List Instr
  deriving DecidableEq, Repr

/-- The machine after reset: every register at its Reset value, before boot has read the flash. -/
def State.reset : State where
  regs := [(50594624, 1)]
  latch := []
  now := 0
  out := []
  free := 0
  fuses := { lc := 1, sealGen := 0, owner := none, fwHash := 0, serial := 0, wipeOwed := none, idBlown := false }
  straps := { cascadeId := 0, bootMode := 0 }
  evt := { held := [], claimed := [], rot := 0, buf := [], lost := 0, ring := [], fresh := [], edges := [] }
  flt := { held := [], owed := [], win := [], storms := [], lastAssert := 0, condEnd := 0, fatal := false,
           ctr := [0, 0, 0, 0, 0, 0], beat := [0, 0, 0, 0, 0], roleEp := [0, 0, 0, 0], bringIns := [], release := none,
           coreCe := [0, 0, 0, 0, 0], damaged := [] }
  decs := []
  nextDec := 0
  fmUp := false
  mctpOpen := false
  cols := []
  ports := []
  frame := { voq := [], cross := [], replay := [], first := [], stalled := [], gptr := [], aptr := [], lastTc := [], alloc := [], freed := [],
             egq := [], reqs := [], nextId := 1, planeErr := [], subst := none, parked := [], acks := [], inbox := [] }
  egs := []
  bind := { change := none, fnDec := [], hdmErr := [], present := [], powerOff := [], attention := [], vppbs := [], failedFrom := [], dropKeys := [],
            lost := [], mig0 := none, mig1 := none, pools := [], poolWas := [], former := [], backlog := [] }
  homes := []
  homeG := { tracker := [], applied := [], seen := [], departing := [], conv := none, coarse := false, poisoned := [], hmapSeen := [] }
  act := { latest := 0, failed := false, unsealed := 0 }
  sec := { draws := 0, ldKeys := [], domain := none, linkKeys := [], sessions := [], nextSession := 0, noise0 := 0, noise1 := 0,
           armed := none, rot0 := none, rot1 := none, rescue := [] }
  mgmt := { pds := [], tokens := [], noc := [], nocRoom := [], nocSent := [], slew := 0, errBase := 0, errAt := 0, mctpLast := 0, ppsHigh := 0, jtag := 1, bdrive := [], bseen := [],
            injAt := none }
  boot := { flash := { answers := true, width := 0, desc := none, fwA := none, fwB := none, cfgA := none, cfgB := none,
                       chainOk := true, halfA := ⟨none, []⟩, halfB := ⟨none, []⟩, halfPages := 0 },
            queue := [], cur := none, applied := 0, nextSeq := 1, unapplied := [], comp := none, eraseLeft := 0,
            halfBlank := true, mirror := none, mirrorRing := [], mirrorAt := 0, update := none, policies := [], pwrfail := false, img := none }
  sum := { wins := [], atoms := [], away := [] }
  dmv := { fns := [], frz := none, erase := none }
  die := { slots := [], vins := [] }
  perf := { want := none, left := 0, open_ := [], rx := [], tx := [] }
  blks := []
  blkG := { topo := [], fences := [], held := [], departs := [], cands := [], xfer := none, lostAt := [] }
  throttle := []
  pending := []

end Sys2Proof.Machine
end

