-- ==== Sys2Proof/Machine/Ops.lean ====
section
/-! DEFINITION. The named operations over registers, time, output and free values that every meaning is written in. -/

namespace Sys2Proof.Machine

/-- What every meaning answers: a next state. -/
abbrev Result := Host.Outcome State Fault Refusal

namespace State

/-- The value that a register field holds. The register file lists the fields whose value differs from their reset value. -/
def get (s : State) (e : Ent) (i : Nat := 0) (j : Nat := 0) : Nat :=
  Nat.xor (lookD s.regs (e.key i j) 0) (e.reset i j)

/-- A one-bit field as a Boolean. -/
def on (s : State) (e : Ent) (i : Nat := 0) (j : Nat := 0) : Bool := s.get e i j != 0

/-- Hardware or software writes a field; bits above its width are dropped. -/
def set (s : State) (e : Ent) (v : Nat) (i : Nat := 0) (j : Nat := 0) : State :=
  { s with regs := putNZ s.regs (e.key i j) (Nat.xor (v % 2 ^ e.w) (e.reset i j)) }

/-- A one-bit field from a Boolean. -/
def setB (s : State) (e : Ent) (b : Bool) (i : Nat := 0) (j : Nat := 0) : State := s.set e (b2n b) i j

/-- Add to a counter field that saturates at all ones. -/
def bump (s : State) (e : Ent) (n : Nat := 1) (i : Nat := 0) (j : Nat := 0) : State :=
  s.set e (satAdd (2 ^ e.w - 1) (s.get e i j) n) i j

/-- Add to a counter field that wraps. -/
def count (s : State) (e : Ent) (n : Nat := 1) (i : Nat := 0) (j : Nat := 0) : State :=
  s.set e (s.get e i j + n) i j

/-- A field back to its reset value. -/
def clear (s : State) (e : Ent) (i : Nat := 0) (j : Nat := 0) : State := s.set e (e.reset i j) i j

/-- Send something to the outside; the newest stands last. -/
def emit (s : State) (o : Out) : State := { s with out := s.out ++ [o] }

/-- Fabric time in whole nanoseconds (R403). -/
def ns (s : State) : Nat := s.now / 2 ^ 16

/-- A moment that a command asserts has come: fabric time is at least `t` ns (log entry on time). -/
def reach (s : State) (t : Nat) : State := { s with now := max s.now (t * 2 ^ 16) }

/-- The next free value of `w` bits: nothing constrains it. -/
def freeNat (s : State) (w : Nat) : Nat := (Config.free s.free).toNat % 2 ^ w

/-- Move on to the next free value. -/
def spend (s : State) : State := { s with free := s.free + 1 }

/-- The device runs (R372). -/
def running (s : State) : Bool := s.get BOOT.STAT.PHASE == 8

/-- EXTEST, CLAMP, HIGHZ, EXTEST_PULSE or EXTEST_TRAIN is selected: the boundary cells drive the pins in place of the core logic (R444). -/
def scan (s : State) : Bool := s.mgmt.jtag == 0 || (3 ≤ s.mgmt.jtag && s.mgmt.jtag ≤ 6)

/-- Ports and Beamlinks may train: the device runs, and no life-cycle transition holds it (R288, R372) nor the test port its pins (R444). -/
def live (s : State) : Bool := s.running && !s.on SEC.LCSTAT.HELD && !s.scan

/-- The safe state (R326). -/
def safe (s : State) : Bool := s.on FLT.STAT.SAFE

end State

/-- Apply `f` for each of 0 to `n - 1`, in that order. -/
def forN (n : Nat) (f : Nat → State → State) (s : State) : State :=
  (List.range n).foldl (fun t i => f i t) s

/-- Apply `f` for each element of a list, in order. -/
def forL {α : Type} (l : List α) (f : α → State → State) (s : State) : State :=
  l.foldl (fun t a => f a t) s

/-- A register of `w` bits as one word: its fields at their places (`es` lists them). -/
def State.word (s : State) (w : Nat) (es : List Ent) (i : Nat := 0) (j : Nat := 0) : Nat :=
  (es.map (fun e => s.get e i j * 2 ^ (e.base % w))).sum

/-- Set every field of a register of `w` bits from one word. -/
def putWord (w : Nat) (es : List Ent) (v : Nat) (i : Nat) (j : Nat) (s : State) : State :=
  forL es (fun e s => s.set e (bitsOf v (e.base % w) e.w) i j) s

/-- Set the fields that software writes from a written word. -/
def putRw (w : Nat) (es : List Ent) (v : Nat) (i : Nat) (j : Nat) (s : State) : State :=
  putWord w (es.filter (·.acc == .rw)) v i j s

/-- The first indexes at which a field with reset value 0 holds another value. -/
def State.idxOn (s : State) (e : Ent) : List Nat :=
  s.regs.filterMap (fun r =>
    if e.base ≤ r.1 && (r.1 - e.base) % e.si = 0 && (r.1 - e.base) / e.si < e.ni then some ((r.1 - e.base) / e.si) else none)

/-- Copy the registers of a bit range onto a range `off` bits higher; both have the same layout and reset values of 0. -/
def copyUp (lo n off : Nat) (s : State) : State :=
  let mine := s.regs.filter (fun r => lo ≤ r.1 && r.1 < lo + n)
  let kept := s.regs.filter (fun r => !(lo + off ≤ r.1 && r.1 < lo + off + n))
  { s with regs := mine.foldl (fun l r => putNZ l (r.1 + off) r.2) kept }

/-- Copy the registers of a bit range onto a range `off` bits lower. -/
def copyDown (lo n off : Nat) (s : State) : State :=
  let mine := s.regs.filter (fun r => lo ≤ r.1 && r.1 < lo + n)
  let kept := s.regs.filter (fun r => !(lo - off ≤ r.1 && r.1 < lo - off + n))
  { s with regs := mine.foldl (fun l r => putNZ l (r.1 - off) r.2) kept }

/-- The device is in life-cycle state END (R285). -/
def ended (s : State) : Bool := s.get SEC.LCSTAT.STATE == 4

/-- A management write to byte address `a` reaches its block: in the safe state GCTL.RST alone, before RUN only GCTL, BOOT and FLT, and nothing in END (R285, R326, R372, R433). -/
def served (s : State) (a : Nat) : Bool :=
  if ended s then false
  else if s.safe then a == GCTL.RST.WARM.base / 32 * 4
  else s.running || a < 0x300000

/-- A command that is a management write of the register with field `e`: one that is not served is discarded. -/
def atReg (e : Ent) (f : State → Result) (s : State) : Result :=
  if served s (e.base / 8) then f s else .next s

/-- One core clock of 2 GHz passes with no command: fabric time advances by 0.5 ns, and a slew in progress moves it by at most 100 ppm of that (R404; log entry on idling). -/
def tick (s : State) : State :=
  let lim : Int := 3
  let d : Int := max (-lim) (min lim s.mgmt.slew)
  { s with now := (Int.ofNat (s.now + 0x8000) + d).toNat, mgmt := { s.mgmt with slew := s.mgmt.slew - d } }

/-- A reflected CRC over bytes, from all ones and inverted at the end. -/
def crcOf (poly : Nat) (l : List Nat) : Nat :=
  let bit (c : Nat) : Nat := if c % 2 = 1 then Nat.xor (c / 2) poly else c / 2
  let byte (c b : Nat) : Nat := bit (bit (bit (bit (bit (bit (bit (bit (Nat.xor c b))))))))
  Nat.xor (l.foldl byte 0xFFFFFFFF) 0xFFFFFFFF

/-- CRC-32C (R229, R376). -/
def crc32c (l : List Nat) : Nat := crcOf 0x82F63B78 l

/-- The bytes of a value of n bytes, little-endian (R8). -/
def bytesOf (n v : Nat) : List Nat := (List.range n).map (fun i => bitsOf v (8 * i) 8)

end Sys2Proof.Machine
end

