-- ==== Sys2Proof/Machine/Events.lean ====
section
/-! DEFINITION. The event controller: raising, routing, claiming and completing events, the ring of the fabric manager, hold-offs and wake latches (R337 to R352). -/

namespace Sys2Proof.Machine

/-- A source that R337 and R342 leave unassigned. -/
def evReserved (s : Nat) : Bool :=
  (24 ≤ s && s < 64) || (176 ≤ s && s < 192) || (224 ≤ s && s < 256) || (1088 ≤ s && s < 1152)
    || (1157 ≤ s && s < 1216) || (1216 ≤ s && 14 ≤ (s - 1216) % 64) || 1536 ≤ s

/-- The group of a source (R337). -/
def evGroup (s : Nat) : Nat := s / 64

/-- The core that holds a role 0 to 3 in the unit table, if one does (R341). A role in substitution is vacant (R342, R388). -/
def roleCore (s : State) (role : Nat) : Option Nat :=
  if s.flt.bringIns.any (fun b => b.cls == 1 && b.pos == role) then none
  else (List.range 5).find? (fun c => s.get FLT.UNIT.STATE 1 c == 0 && s.get FLT.UNIT.ROLE 1 c == role)

/-- The number of records that a source holds, and whether one is claimed, shown in its register (R340). -/
def evSync (src : Nat) (s : State) : State :=
  let n := (lookD s.evt.held src []).length
  let a := (lookD s.evt.claimed src []).length
  let st := if a = 0 then (if n = 0 then 0 else 1) else if n = 0 then 2 else 3
  let s := s.set EVT.SRC.HELD n src
  let s := s.set EVT.SRC.STATE st src
  if st = 0 then (s.set EVT.SRC.ASSIGNED 0 src).set EVT.SRC.CORE 0 src else s

/-- Roles 0 to 3 in the order of the rotating pointer (R341). -/
def rolesFrom (r : Nat) : List Nat := [r % 4, (r + 1) % 4, (r + 2) % 4, (r + 3) % 4]

/-- The eligible role with the lowest THRESH, ties to the first at or after the pointer (R341). -/
def evPick (s : State) (prio : Nat) : Option (Nat × Nat) :=
  let th (c : Nat) : Nat := s.get EVT.CORE.THRESH.THRESH c
  (rolesFrom s.evt.rot).foldl (fun best r =>
    match roleCore s r with
    | none => best
    | some c =>
      if th c < prio then
        match best with
        | none => some (r, c)
        | some (r0, c0) => if th c < th c0 then some (r, c) else some (r0, c0)
      else best) none

/-- The fixed role of a shared source (R342). -/
def evSharedRole (src : Nat) : Nat := if src = 1154 then 1 else if src = 1155 then 3 else 0

/-- Assign a source to a core. -/
def evAssign (src c : Nat) (s : State) : State := (s.set EVT.SRC.CORE c src).set EVT.SRC.ASSIGNED 1 src

/-- Route one PENDING, unassigned, unmasked source (R341, R342); a routed source starts its group's core hold-off (R348). -/
def evRoute (src : Nat) (s : State) : State :=
  if s.get EVT.SRC.STATE src != 1 || s.on EVT.SRC.ASSIGNED src || s.on EVT.SRC.MASK src then s
  else
    let g := evGroup src
    if g < 18 then
      if s.on EVT.GRP.HOLD_CORE g then s
      else
        match evPick s (s.get EVT.SRC.PRIO src) with
        | none => s
        | some (r, c) =>
          let s := evAssign src c s
          let s := { s with evt := { s.evt with rot := (r + 1) % 4 } }
          if s.get EVT.GRP.HOLD g != 0 then s.set EVT.GRP.HOLD_CORE 1 g else s
    else if g = 18 then
      match roleCore s (evSharedRole src) with
      | none => s
      | some c => evAssign src c s
    else evAssign src (g - 19) s

/-- Every source with records is looked at again: an assignment whose core no longer qualifies is undone, and unassigned sources are routed (R341). -/
def evRouteAll (s : State) : State :=
  let srcs := s.evt.held.map (·.1)
  let undo (src : Nat) (s : State) : State :=
    let c := s.get EVT.SRC.CORE src
    if s.get EVT.SRC.STATE src == 1 && s.on EVT.SRC.ASSIGNED src && evGroup src < 18
        && (s.get EVT.SRC.PRIO src ≤ s.get EVT.CORE.THRESH.THRESH c || s.get FLT.UNIT.STATE 1 c != 0)
    then s.set EVT.SRC.ASSIGNED 0 src else s
  forL srcs evRoute (forL srcs undo s)

/-- The OVF mark on the newest record held. -/
def markOvf : List EvRec → List EvRec
  | [] => []
  | [r] => [{ r with ovf := true }]
  | r :: t => r :: markOvf t

/-- Hold a record at its source for the cores; a fifth is dropped (R340). -/
def evHold (r : EvRec) (s : State) : State :=
  if s.get EVT.SRC.PRIO r.src = 0 then s
  else
    let h := lookD s.evt.held r.src []
    if h.length < 4 then
      let s := { s with evt := { s.evt with held := put s.evt.held r.src (h ++ [r]) } }
      evRoute r.src (evSync r.src s)
    else
      let s := { s with evt := { s.evt with held := put s.evt.held r.src (markOvf h) } }
      s.bump EVT.ERRCNT.SRCDROP

/-- BUF shows the records in the ring buffer. -/
def evBufSync (s : State) : State := s.set EVT.RING.STAT.BUF s.evt.buf.length

/-- Records dropped before are reported once the buffer has space, before any later record (R345). -/
def evLost (s : State) : State :=
  if s.evt.lost != 0 && s.evt.buf.length < 256 then
    let r : EvRec := ⟨23, 31, false, false, s.ns % 2 ^ 48, min s.evt.lost (2 ^ 32 - 1)⟩
    evBufSync { s with evt := { s.evt with buf := s.evt.buf ++ [r], lost := 0 } }
  else s

/-- Sources that write to the ring whatever FM holds (R345). -/
def evAlwaysFm (src : Nat) : Bool := src ≤ 8 || src = 1152

/-- The ring copy of a record joins the buffer, or is dropped and counted (R345). -/
def evToRing (r : EvRec) (s : State) : State :=
  if evAlwaysFm r.src || s.on EVT.SRC.FM r.src then
    let s := evLost s
    if s.evt.buf.length < 256 && s.evt.lost = 0 then
      evBufSync { s with evt := { s.evt with buf := s.evt.buf ++ [r] } }
    else
      ({ s with evt := { s.evt with lost := s.evt.lost + 1 } }).bump EVT.RING.DROPS.COUNT
  else s

/-- A record is accepted: held for the cores and copied to the ring (R340, R345). -/
def evAccept (r : EvRec) (s : State) : State :=
  if evReserved r.src then s else evToRing r (evHold r s)

/-- A source raises an event (R338). -/
def raise (src cause payload : Nat) (s : State) : State :=
  evAccept ⟨src, cause, false, false, s.ns % 2 ^ 48, payload % 2 ^ 32⟩ s

/-- A state field of a source changes: the field takes the new code and CAUSE 0 is raised with the new and old codes (R338). -/
def setState (e : Ent) (v : Nat) (src : Nat) (s : State) (i : Nat := 0) (j : Nat := 0) : State :=
  let old := s.get e i j
  if old = v % 2 ^ e.w then s else raise src 0 (v % 2 ^ e.w % 256 + old % 256 * 256) (s.set e v i j)

/-- An ESTAT bit is set; if it was 0, the source raises CAUSE bit + 1 (R338). -/
def flag (e : Ent) (src : Nat) (s : State) (i : Nat := 0) (payload : Nat := 0) : State :=
  if s.on e i then s else raise src (e.base % 32 + 1) payload (s.set e 1 i)

/-- A function's own doorbell or MSI-X vector towards the FM host (R347). -/
def ringFull (s : State) : Bool :=
  (s.get EVT.RING.TAIL.INDEX + 1) % 2 ^ s.get EVT.RING.CTL.LOG == s.get EVT.RING.HEAD.INDEX

/-- FULL and PHASE are shown. -/
def evFullSync (s : State) : State := s.setB EVT.RING.STAT.FULL (s.on EVT.RING.CTL.EN && ringFull s)

/-- With ARMED set and a record of a group whose ring hold-off is not running after HEAD, vector 0 is raised: ARMED clears and the ring hold-offs of the groups written since the last raise start (R347, R348). -/
def evVector (s : State) : State :=
  if s.on EVT.RING.STAT.ARMED && s.evt.ring.any (fun g => !s.on EVT.GRP.HOLD_RING g) then
    let s1 := (s.set EVT.RING.STAT.ARMED 0).emit (.fmVector 0)
    let s2 := forL s.evt.fresh (fun g t => if g < 18 && t.get EVT.GRP.HOLD g != 0 then t.set EVT.GRP.HOLD_RING 1 g else t) s1
    { s2 with evt := { s2.evt with fresh := [] } }
  else s

/-- An event record as it is stored in the ring (R339). -/
def evWord (r : EvRec) (phase : Nat) : Nat :=
  r.src + r.cause * 2 ^ 11 + phase * 2 ^ 16 + b2n r.ovf * 2 ^ 17 + b2n r.wake * 2 ^ 18 + r.time * 2 ^ 32 + r.payload * 2 ^ 96

/-- Write the oldest buffered record at TAIL, if the ring is enabled and has room and the FM port is up (R345, R346). -/
def evRingWrite (s : State) : State :=
  match s.evt.buf with
  | [] => s
  | r :: rest =>
    if !s.on EVT.RING.CTL.EN || ringFull s || !s.fmUp then s
    else
      let tail := s.get EVT.RING.TAIL.INDEX
      let n := 2 ^ s.get EVT.RING.CTL.LOG
      let ph := s.get EVT.RING.STAT.PHASE
      let s := s.emit (.fmWrite (s.get EVT.RING.BASE.BASE * 4096 + tail * 16) (evWord r ph))
      let s := s.set EVT.RING.TAIL.INDEX ((tail + 1) % n)
      let s := if tail + 1 = n then s.set EVT.RING.STAT.PHASE (1 - ph) else s
      let g := evGroup r.src
      let s := { s with evt := { s.evt with buf := rest, ring := s.evt.ring ++ [g], fresh := s.evt.fresh ++ [g] } }
      evVector (evFullSync (evLost (evBufSync s)))

/-- The fabric manager writes HEAD (R346, R347). -/
def evHeadWrite (v : Nat) (s : State) : State :=
  let n := 2 ^ s.get EVT.RING.CTL.LOG
  let h := s.get EVT.RING.HEAD.INDEX
  let k := (v + n - h % n) % n
  if v < n && k ≤ s.evt.ring.length then
    let s := (s.set EVT.RING.HEAD.INDEX v).set EVT.RING.STAT.ARMED 1
    evVector (evFullSync { s with evt := { s.evt with ring := s.evt.ring.drop k } })
  else s.set EVT.RING.STAT.HEAD_ERR 1

/-- A write of RING.CTL (R346, R350). -/
def evCtlWrite (v : Nat) (s : State) : State :=
  let en := bitsOf v 0 1
  let lg := bitsOf v 1 5
  let cfgErr := s.set EVT.RING.STAT.CFG_ERR 1
  if s.on EVT.RING.CTL.EN then
    if en = 1 then (if lg = s.get EVT.RING.CTL.LOG then s else cfgErr)
    else evFullSync ((s.set EVT.RING.CTL.EN 0).set EVT.RING.CTL.LOG lg)
  else if en = 1 then
    if 6 ≤ lg && lg ≤ 16 then
      let s := (s.set EVT.RING.CTL.EN 1).set EVT.RING.CTL.LOG lg
      let s := (s.set EVT.RING.HEAD.INDEX 0).set EVT.RING.TAIL.INDEX 0
      let s := (s.set EVT.RING.STAT.PHASE 1).set EVT.RING.STAT.ARMED 1
      evFullSync { s with evt := { s.evt with ring := [], fresh := [] } }
    else cfgErr
  else s.set EVT.RING.CTL.LOG lg

/-- The sources that assert core c's interrupt input: assigned to it, PENDING or ACTIVE_PENDING, PRIO above THRESH (R343). -/
def evClaimable (s : State) (c : Nat) : List Nat :=
  (s.evt.held.map (·.1)).filter (fun src =>
    s.on EVT.SRC.ASSIGNED src && s.get EVT.SRC.CORE src == c && s.get EVT.SRC.STATE src % 2 == 1
      && s.get EVT.CORE.THRESH.THRESH c < s.get EVT.SRC.PRIO src)

/-- The claimable source with the highest PRIO, ties to the lowest number (R343). -/
def evBest (s : State) (c : Nat) : Option Nat :=
  (evClaimable s c).foldl (fun b src =>
    match b with
    | none => some src
    | some x => if s.get EVT.SRC.PRIO x < s.get EVT.SRC.PRIO src then some src else some x) none

/-- The word that CLAIM returns for a record. -/
def claimWord (r : EvRec) : Nat :=
  r.src + r.cause * 2 ^ 11 + b2n r.ovf * 2 ^ 16 + b2n r.wake * 2 ^ 17 + 2 ^ 31

/-- A read of CORE[c].CLAIM by core c (R343): the value returned and the state after. -/
def evClaim (c : Nat) (s : State) : Nat × State :=
  match evBest s c with
  | none => (0, s)
  | some src =>
    match lookD s.evt.held src [] with
    | [] => (0, s)
    | r :: rest =>
      let held := if rest.isEmpty then del s.evt.held src else put s.evt.held src rest
      let cl := put s.evt.claimed src (lookD s.evt.claimed src [] ++ [r])
      let s := { s with evt := { s.evt with held := held, claimed := cl } }
      let s := (s.set EVT.CORE.CTIME.TIME r.time c).set EVT.CORE.CPAY.PAYLOAD r.payload c
      (claimWord r, evSync src s)

/-- Core c completes a source (R344). -/
def evComplete (c src : Nat) (s : State) : State :=
  if 2 ≤ s.get EVT.SRC.STATE src && s.get EVT.SRC.CORE src == c && !evReserved src then
    let s := { s with evt := { s.evt with claimed := del s.evt.claimed src } }
    let s := s.set EVT.SRC.ASSIGNED 0 src
    evRoute src (evSync src s)
  else s.bump EVT.ERRCNT.BADCPL

/-- A core is fenced: its ACTIVE sources return to PENDING with their claimed records oldest, and its private records are dropped and counted (R350). -/
def evFenceCore (c : Nat) (s : State) : State :=
  let mine := (s.evt.claimed.map (·.1)).filter (fun src => s.get EVT.SRC.CORE src == c)
  let back (src : Nat) (s : State) : State :=
    let h := lookD s.evt.claimed src [] ++ lookD s.evt.held src []
    let s := { s with evt := { s.evt with held := put s.evt.held src h, claimed := del s.evt.claimed src } }
    evSync src (s.set EVT.SRC.ASSIGNED 0 src)
  let s := forL mine back s
  let priv := (s.evt.held.map (·.1)).filter (fun src => evGroup src == 19 + c)
  let drop (src : Nat) (s : State) : State :=
    let n := (lookD s.evt.held src []).length
    let s := { s with evt := { s.evt with held := del s.evt.held src } }
    (evSync src s).bump EVT.ERRCNT.SRCDROP n
  evRouteAll (forL priv drop s)

/-- What a WARM reset leaves of the controller: the wake latches and the pointer alone (R350). -/
def evWarm (s : State) : State :=
  { s with evt := { s.evt with held := [], claimed := [], buf := [], lost := 0, ring := [], fresh := [] } }

/-- The source of a wake line (R349). -/
def wakeSource (line : Nat) : Nat :=
  if line < 32 then 128 + line
  else if line = 32 then 16 else if line = 33 then 15 else if line = 34 then 1154 else if line = 35 then 21 else 22

/-- EVENT_RAISED (R340). -/
def execEventRaised (src : Fin 1536) (cause : Fin 32) (payload : Word) (s : State) : Result :=
  .next (if cause = 29 ∨ cause = 30 then s else raise src cause payload.toNat s)

/-- A NoC packet with a stale epoch is discarded and counted (R332). -/
def nocDiscard (s : State) : State := flag NOC.ESTAT.STALE 19 (s.bump FLT.STALENOC.COUNT)

/-- A fenced core's packets carry a stale epoch (R332). -/
def coreFenced (s : State) (c : Nat) : Bool := s.get FLT.UNIT.STATE 1 c == 2

/-- COMPLETE (R344): a master other than core c is ignored; a fenced core's write is discarded at NoC ingress and counted there (R332). -/
def execComplete (m : Master) (c : Fin 5) (v : Word) (s : State) : Result :=
  .next (if m = .core c then
      if coreFenced s c then nocDiscard s else evComplete c (v.toNat % 2 ^ 11) s
    else s)

/-- RING_RECORD_WRITE (R346). -/
def execRingRecordWrite (s : State) : Result := .next (evRingWrite s)

/-- RING_HEAD_WRITE (R346). -/
def execRingHeadWrite (v : Word) (s : State) : Result := atReg EVT.RING.HEAD.INDEX (fun s => .next (evHeadWrite (v.toNat % 2 ^ 16) s)) s

/-- RING_CTL_WRITE (R346). -/
def execRingCtlWrite (v : Word) (s : State) : Result := atReg EVT.RING.CTL.EN (fun s => .next (evCtlWrite v.toNat s)) s

/-- HOLDOFF_END (R348). -/
def execHoldoffEnd (g : Fin 24) (ring : Bool) (s : State) : Result :=
  .next (if ring then evVector (s.set EVT.GRP.HOLD_RING 0 g) else evRouteAll (s.set EVT.GRP.HOLD_CORE 0 g))

/-- WAKE_EDGE (R349): with the clock stopped, an enabled line latches, its first time is captured and edges are counted to 255; with clocks running, the source's ordinary event is raised. -/
def execWakeEdge (line : Fin 37) (stopped : Bool) (s : State) : Result :=
  .next (if stopped then
      if bitOf (s.get EVT.WAKEEN.LINE) line then
        let old := lookD s.evt.edges line (0, s.ns)
        let s := s.set EVT.WAKELAT.LINE (Nat.lor (s.get EVT.WAKELAT.LINE) (2 ^ line.val))
        { s with evt := { s.evt with edges := put s.evt.edges line (min 255 (old.1 + 1), old.2) } }
      else s
    else raise (wakeSource line) 0 0 s)

/-- WAKE_EVENT (R349): once both domains run, one event with CAUSE 24 and WAKE is raised with the captured time, and the latch clears. -/
def execWakeEvent (line : Fin 37) (s : State) : Result :=
  .next (if bitOf (s.get EVT.WAKELAT.LINE) line then
      let e := lookD s.evt.edges line (1, s.ns)
      let s := evAccept ⟨wakeSource line, 24, false, true, e.2 % 2 ^ 48, e.1⟩ s
      let s := s.set EVT.WAKELAT.LINE (Nat.xor (s.get EVT.WAKELAT.LINE) (2 ^ line.val))
      { s with evt := { s.evt with edges := del s.evt.edges line } }
    else s)

end Sys2Proof.Machine
end

