-- ==== Sys2Proof/Machine/Power.lean ====
section
/-! DEFINITION. Power domains of the control NoC: what wakes one, and what waits until it is ON (R399, R400, R433). The commands of a domain stand with the management complex. -/

namespace Sys2Proof.Machine

/-- The four states of a domain (R400). -/
def pdState (s : State) (d : Nat) : Nat := s.get NOC.PD.STAT.STATE d

def pdOn (s : State) (d : Nat) : Bool := pdState s d == 0

def setPdState (d v : Nat) (s : State) : State := setState NOC.PD.STAT.STATE v 19 s d

def pdSt (s : State) (d : Nat) : PdSt := lookD s.mgmt.pds d ⟨[], [], false, 0⟩

/-- HELD shows the accesses in the boundary buffer of 4 (R400). -/
def setPd (d : Nat) (p : PdSt) (s : State) : State :=
  ({ s with mgmt := { s.mgmt with pds := put s.mgmt.pds d p } }).set NOC.PD.STAT.HELD (min 4 p.held.length) d

/-- A packet for a domain, or a write of WAKE: in DRAINING it aborts the power-down, and in OFF it raises a wake; in WAKING it merges (R400, R408). -/
def pdWake (d : Nat) (s : State) : State :=
  if pdState s d = 1 then (setPdState d 0 s).bump NOC.PD.STAT.ABORTS 1 d
  else if pdState s d = 2 then setPd d { pdSt s d with wake := true } s
  else s

/-- An access to a register of domain `d`: it waits where the domain is not ON (R400, R433). -/
def toDomain (d : Nat) (c : Instr) (f : State → Result) (s : State) : Result :=
  let s := pdWake d s
  if pdOn s d then f s else .next (setPd d { pdSt s d with held := (pdSt s d).held ++ [c] } s)

/-- A command that is a management write of a register of domain `d`. -/
def atDomain (d : Nat) (e : Ent) (c : Instr) (f : State → Result) (s : State) : Result :=
  if served s (e.base / 8) then toDomain d c f s else .next s

/-- A host's write that the Frame carries to the unit of domain `d`: while the domain is not ON it waits at the egress, as for a closed queue (R399). In the safe state the Frame hands over nothing (R326). -/
def toUnit (d : Nat) (c : Instr) (f : State → Result) (s : State) : Result :=
  if s.safe then .next s
  else
    let s := pdWake d s
    if pdOn s d then f s else .next (setPd d { pdSt s d with late := (pdSt s d).late ++ [c] } s)

end Sys2Proof.Machine
end

