-- ==== Sys2Proof/Machine/Count.lean ====
section
/-! DEFINITION. Performance counters: what one event adds, saturation and chaining (R353 to R356), the windows of R359 and the marks of open transaction samples (R360). Codes that count clocks are left out with the rest of timing (log entry on timing). -/

namespace Sys2Proof.Machine

/-- The greatest value of a counter. -/
def perfTop : Nat := 2 ^ 48 - 1

/-- A counter overflows: OVF shows; with OVF_EVT the block's OVF bit is set, and FRZOVF asks for a freeze at the next boundary (R356). -/
def perfOvf (i k : Nat) (s : State) : State :=
  let s := (s.set PERF.CNT.SEL.OVF 1 i k).set PERF.CNT.VALUE.OVF 1 i k
  if s.on PERF.CNT.SEL.OVF_EVT i k then
    let s := flag PERF.ESTAT.OVF 20 s 0 (8 * i + k)
    if s.on PERF.CTL.FRZOVF then { s with perf := { s.perf with want := some true } } else s
  else s

/-- Add to an unchained counter: it stops at all ones (R355). -/
def perfSat (i k n : Nat) (s : State) : State :=
  let v := s.get PERF.CNT.VALUE.COUNT i k
  if v = perfTop && s.on PERF.CNT.SEL.OVF i k then s
  else if v + n < perfTop then s.set PERF.CNT.VALUE.COUNT (v + n) i k
  else perfOvf i k (s.set PERF.CNT.VALUE.COUNT perfTop i k)

/-- Add to counter k of instance i: a chained even counter carries into its neighbour (R355). -/
def perfStep (i k n : Nat) (s : State) : State :=
  if k % 2 = 0 && s.on PERF.CNT.SEL.CHAIN i k then
    let v := s.get PERF.CNT.VALUE.COUNT i k + n
    let s1 := s.set PERF.CNT.VALUE.COUNT v i k
    if perfTop < v then perfSat i (k + 1) (v / 2 ^ 48) (perfOvf i k s1) else s1
  else perfSat i k n s

/-- Counter k counts events of a code and traffic class. The odd neighbour of a chained counter counts carries alone. -/
def perfCounts (s : State) (i k code : Nat) (tc : Option Nat) : Bool :=
  s.on PERF.CNT.SEL.EN i k && s.get PERF.CNT.SEL.EVENT i k == code
    && !(k % 2 == 1 && s.on PERF.CNT.SEL.CHAIN i (k - 1))
    && (!s.on PERF.CNT.SEL.TCF_EN i k || tc == some (s.get PERF.CNT.SEL.TC i k))

/-- An event of instance i: every counter that selects it adds `n` (R354). -/
def perf (i code n : Nat) (tc : Option Nat) (s : State) : State :=
  if s.on PERF.STAT.FROZEN then s
  else forN 8 (fun k s => if perfCounts s i k code tc then perfStep i k n s else s) s

/-- An event of every view of an upstream port (R354). -/
def perfView (p code n : Nat) (tc : Option Nat) (s : State) : State :=
  forL ((s.idxOn PERF.VIEW.EN).filter (fun v => s.get PERF.VIEW.PORT v == p)) (fun v s => perf (320 + v) code n tc s) s

/-- Cost received or sent by a port in the present window (R359). -/
def bwRx (p c : Nat) (s : State) : State := { s with perf := { s.perf with rx := put s.perf.rx p (lookD s.perf.rx p 0 + c) } }

def bwTx (p c : Nat) (s : State) : State := { s with perf := { s.perf with tx := put s.perf.tx p (lookD s.perf.tx p 0 + c) } }

/-- The unit class and the number of classes of an injection domain's instances, where they are units (R448). -/
def injClass (dom : Nat) : Option Nat :=
  match dom with
  | 0 => some 4
  | 1 => some 0
  | 3 => some 5
  | 4 => some 3
  | 5 => some 3
  | 8 => some 1
  | _ => none

/-- An item that instance `inst` of domain `dom` writes or sends now is injected: injections are at least GAP × 10 ns apart (R448). -/
def injArmed (s : State) (dom inst : Nat) : Bool :=
  s.on TST.INJSTAT.BUSY && s.get TST.INJCTL.DOMAIN == dom && s.get TST.INJCTL.INST == inst
    && (match s.mgmt.injAt with | some t => t + 10 * s.get TST.INJCTL.GAP ≤ s.ns | none => true)

/-- The items of one instance that are injected count in FIRED, and injection ends when it reaches COUNT (R448, R449). -/
def injected (dom inst n : Nat) (s : State) : State :=
  if !s.on TST.INJSTAT.BUSY then s
  else forN n (fun _ s =>
    if injArmed s dom inst then
      let s := { s.bump TST.INJSTAT.FIRED with mgmt := { s.mgmt with injAt := some s.ns } }
      if s.get TST.INJCTL.COUNT ≤ s.get TST.INJSTAT.FIRED then s.set TST.INJSTAT.BUSY 0 else s
    else s) s

/-- Injection ends when its instance is fenced (R449). -/
def injFenced (cls i : Nat) (s : State) : State :=
  if s.on TST.INJSTAT.BUSY && injClass (s.get TST.INJCTL.DOMAIN) == some cls && s.get TST.INJCTL.INST == i then s.set TST.INJSTAT.BUSY 0 else s

/-- Mark the open sample of a request, if it has one (R361). -/
def mark (rid : Nat) (f : Sample → Sample) (s : State) : State :=
  match look s.perf.open_ rid with
  | some x => { s with perf := { s.perf with open_ := put s.perf.open_ rid (f x) } }
  | none => s

/-- COUNTER_OVERFLOW (R355, R356): an enabled counter reaches the end of its range. -/
def execCounterOverflow (i : Fin 384) (k : Fin 8) (s : State) : Result :=
  .next (if !s.on PERF.CNT.SEL.EN i k || s.on PERF.STAT.FROZEN then s
    else if k.val % 2 = 0 && s.on PERF.CNT.SEL.CHAIN i k then perfStep i k (2 ^ 48 - s.get PERF.CNT.VALUE.COUNT i k) s
    else perfStep i k (perfTop - s.get PERF.CNT.VALUE.COUNT i k) s)

end Sys2Proof.Machine
end

