-- ==== Sys2Proof/Machine/Faults.lean ====
section
/-! DEFINITION. The fault collector: reporters, the record ring, storms, FAULT_N, error lines, unit epochs, fencing and release (R315 to R336, R453). The reactions that other units take stand in React.lean. -/

namespace Sys2Proof.Machine

/-- Kinds of error records (R320). -/
def kLinkDown : Nat := 0x01
def kCto : Nat := 0x02
def kRateCap : Nat := 0x03
def kEqMarginal : Nat := 0x04
def kLdFailed : Nat := 0x05
def kBiSuspend : Nat := 0x06
def kDepartPoison : Nat := 0x07
def kHmapMiss : Nat := 0x08
def kSharedReset : Nat := 0x09
def kTallyCe : Nat := 0x0A
def kTallyUe : Nat := 0x0B
def kCrossCe : Nat := 0x0C
def kSpareBad : Nat := 0x0D
def kUnitFail : Nat := 0x0E
def kLinkFail : Nat := 0x0F
def kHalfRate : Nat := 0x10
def kBlkProto : Nat := 0x11
def kUnreach : Nat := 0x12
def kMigFail : Nat := 0x13
def kIdeFail : Nat := 0x14
def kUnseal : Nat := 0x15
def kDrbg : Nat := 0x16
def kFuse : Nat := 0x17
def kSlotTrip : Nat := 0x18
def kSlotLatch : Nat := 0x19
def kFetShort : Nat := 0x1A
def kVinWarn : Nat := 0x1B
def kVinLockout : Nat := 0x1C
def kTempWarn : Nat := 0x1D
def kTempCrit : Nat := 0x1E
def kClkLoss : Nat := 0x1F
def kCdcOverrun : Nat := 0x20
def kEccCe : Nat := 0x21
def kEccUe : Nat := 0x22
def kJournal : Nat := 0x23
def kSubst : Nat := 0x24
def kNoSpare : Nat := 0x25
def kSelf : Nat := 0x26
def kSelfFatal : Nat := 0x27
def kRecordLost : Nat := 0x28
def kDoubleFail : Nat := 0x29

/-- Sources of error records (R318). -/
def eCol : Nat := 0x40
def eBlk : Nat := 0x60
def ePlane : Nat := 0x68
def eFrame : Nat := 0x6D
def eHome : Nat := 0x70
def eDie : Nat := 0x74
def eSum : Nat := 0x78
def eDmv : Nat := 0x7A
def eBind : Nat := 0x7B
def eAct : Nat := 0x7C
def eSec : Nat := 0x7D
def eCore : Nat := 0x80
def eNoc : Nat := 0x88
def eBoot : Nat := 0x89
def eFlt : Nat := 0x8D
def eCdc : Nat := 0x8E
def eSlot : Nat := 0xA0
def eMon : Nat := 0xC0
def eLane : Nat := 0x100

/-- An error record with no address, syndrome or detail. -/
def rec0 (src kind : Nat) (cls : Fin 3) (obj : Nat) : ErrRec := ⟨src, kind, cls, 0, 0, 0, 0, obj, 0, 0⟩

/-- The records that the reporter of source `src` holds (R315). -/
def heldBy (s : State) (src : Nat) : List (ErrRec × Nat) := s.flt.held.filter (fun h => h.1.src == src)

/-- Merge a third fault into the newest held record of its source that `p` admits: SUPPR counts it (R315). -/
def mergeNewest (src : Nat) (p : ErrRec → Bool) (l : List (ErrRec × Nat)) : List (ErrRec × Nat) :=
  match takeFirst (fun h => h.1.src == src && p h.1) l.reverse with
  | none => l
  | some (h, _) =>
    let h' := ({ h.1 with suppr := satAdd 0xFFFF h.1.suppr 1 }, h.2)
    let rec go : List (ErrRec × Nat) → List (ErrRec × Nat)
      | [] => []
      | x :: t => if x.1.src == src && p x.1 then h' :: t else x :: go t
    (go l.reverse).reverse

/-- A block's reporter takes a record: it holds at most two until they are delivered, and merges a third (R315). -/
def report (r : ErrRec) (s : State) : State :=
  let h := heldBy s r.src
  if h.length < 2 then { s with flt := { s.flt with held := s.flt.held ++ [(r, s.ns)] } }
  else
    let p : ErrRec → Bool := if h.any (fun x => x.1.kind == r.kind) then (fun x => x.kind == r.kind) else (fun _ => true)
    { s with flt := { s.flt with held := mergeNewest r.src p s.flt.held } }

/-- Records of which the spec asks one for each LD or binding (R68, R77, R174, R179): a block raises the next when its reporter has room, so that none merges with another (DEDUCED, log entry on one record each). -/
def reportEach (r : ErrRec) (s : State) : State :=
  if (heldBy s r.src).length < 2 && s.flt.owed.all (fun x => x.1.src != r.src) then report r s
  else { s with flt := { s.flt with owed := s.flt.owed ++ [(r, s.ns)] } }

/-- A reporter has room again: the next such record of its source is raised. -/
def nextOwed (src : Nat) (s : State) : State :=
  if 2 ≤ (heldBy s src).length then s
  else
    match takeFirst (fun x => x.1.src == src) s.flt.owed with
    | some (x, rest) => { s with flt := { s.flt with owed := rest, held := s.flt.held ++ [x] } }
    | none => s

/-- The 32 bytes of a stored record (R317). -/
def recWord (r : ErrRec) (time : Nat) (storm : Bool) : Nat :=
  r.src % 2 ^ 12 + r.kind % 2 ^ 8 * 2 ^ 12 + r.cls.val * 2 ^ 20 + r.epoch % 2 ^ 8 * 2 ^ 22 + b2n storm * 2 ^ 30
    + r.addr % 2 ^ 52 * 2 ^ 32 + r.akind % 8 * 2 ^ 84 + r.syndrome % 2 ^ 32 * 2 ^ 96
    + time % 2 ^ 64 * 2 ^ 128 + r.obj % 2 ^ 12 * 2 ^ 192 + r.detail % 2 ^ 20 * 2 ^ 204 + r.suppr % 2 ^ 16 * 2 ^ 224

/-- The record ring is full (R319). -/
def fltFull (s : State) : Bool := (s.get FLT.RTAIL.INDEX + 1) % 1024 == s.get FLT.RHEAD.INDEX

/-- FAULT_N is asserted (R325). -/
def assertFaultN (s : State) : State :=
  let s := if s.on FLT.STAT.FAULTN then s else s.emit (.faultN true)
  ({ s with flt := { s.flt with lastAssert := s.ns } }).set FLT.STAT.FAULTN 1

/-- Write a record at RTAIL. Under injection its check bits carry errors (R448). -/
def fltWrite (r : ErrRec) (time : Nat) (storm : Bool) (s : State) : State :=
  let t := s.get FLT.RTAIL.INDEX
  let bits := max 1 (s.get TST.INJCTL.BITS)
  let s := { s with flt := { s.flt with damaged := if injArmed s 7 0 then put s.flt.damaged t bits else del s.flt.damaged t } }
  injected 7 0 1 ((s.set FLT.REC.RECORD (recWord r time storm) t).set FLT.RTAIL.INDEX (t + 1))

/-- Ring word i is read (R327): an error in one bit is corrected, and recorded; where more are wrong, the entry reads as a RECORD_LOST record. SUPPR and TIME of that record are the model's (DESIGN CHOICE, log entry on ring words). -/
def ringCheck (i : Nat) (s : State) : State :=
  match look s.flt.damaged i with
  | none => s
  | some n =>
    let s := { s with flt := { s.flt with damaged := del s.flt.damaged i } }
    if n < 2 then report (rec0 eFlt kEccCe 0 0) s
    else s.set FLT.REC.RECORD (recWord { rec0 eFlt kRecordLost 0 0 with suppr := 1 } s.ns false) i

/-- Reporting of a stored record per source (R321): the event of source 8, the FATAL event of source 1,152, and FAULT_N. -/
def fltReport (r : ErrRec) (idx : Nat) (s : State) : State :=
  match r.cls with
  | 0 =>
    let s := if s.on FLT.SRC.EVT_CE r.src then raise 8 25 idx s else s
    if s.on FLT.SRC.FLTN_CE r.src then assertFaultN s else s
  | 1 =>
    let s := if s.on FLT.SRC.EVT_UC r.src then raise 8 26 idx s else s
    if s.on FLT.SRC.FLTN_UC r.src then assertFaultN s else s
  | 2 => assertFaultN (raise 1152 27 idx (raise 8 27 idx s))

/-- A RECORD_LOST record is stored first once the ring has room after drops (R319). -/
def fltLost (s : State) : State :=
  if s.get FLT.STAT.DROPS != 0 && !fltFull s then
    let r := { rec0 eFlt kRecordLost 0 0 with suppr := s.get FLT.STAT.DROPS }
    let t := s.get FLT.RTAIL.INDEX
    fltReport r t ((fltWrite r s.ns false s).set FLT.STAT.DROPS 0)
  else s

/-- Store a record, or drop it when the ring is full; a FATAL record also goes to FATALREC (R319). -/
def fltStore (r : ErrRec) (time : Nat) (storm : Bool) (s : State) : State :=
  let s := fltLost s
  let idx := s.get FLT.RTAIL.INDEX
  let s := if r.cls = 2 then s.set FLT.FATALREC.RECORD (recWord r time storm) else s
  if fltFull s then
    let s := flag FLT.ESTAT.OVF 8 (s.bump FLT.STAT.DROPS)
    if r.cls = 2 then fltReport r idx s else s
  else
    let s := fltReport r idx (fltWrite r time storm s)
    if r.kind = kSelf then flag FLT.ESTAT.SELF 8 s else s

/-- The CE records of a source stored in the present window of 1 ms (R324). -/
def stormCount (s : State) (src : Nat) : Nat :=
  let w := s.ns / 1000000
  match look s.flt.win src with
  | some (w', n) => if w = w' then n else 0
  | none => 0

/-- A stored CE record counts towards a storm, and the source enters one when its count exceeds STORM; 0 disables storms (R324, R336). -/
def stormTest (r : ErrRec) (s : State) : State :=
  let n := stormCount s r.src + 1
  let s := { s with flt := { s.flt with win := put s.flt.win r.src (s.ns / 1000000, n) } }
  if s.get FLT.CFG.STORM != 0 && s.get FLT.CFG.STORM < n then
    ({ s with flt := { s.flt with storms := put s.flt.storms r.src ⟨r.kind, 0, s.ns⟩ } }).set FLT.SRC.STORM 1 r.src
  else s

/-- Every record of a storming source restarts its quiet period (R324). -/
def stormTouch (r : ErrRec) (withheld : Bool) (s : State) : State :=
  match look s.flt.storms r.src with
  | none => s
  | some st =>
    let st' : Storm := if withheld then ⟨r.kind, st.withheld + 1 + r.suppr, s.ns⟩ else { st with last := s.ns }
    { s with flt := { s.flt with storms := put s.flt.storms r.src st' } }

/-- The collector takes a record: it counts it, withholds or mutes it, or stores it (R317, R319, R321, R324). -/
def collect (r : ErrRec) (time : Nat) (s : State) : State :=
  match r.cls with
  | 0 =>
    let s := s.bump FLT.CNT.CE (1 + r.suppr) r.src
    if s.on FLT.SRC.STORM r.src then stormTouch r true s
    else if s.on FLT.SRC.MUTE r.src then s
    else
      let stored := !fltFull s
      let s := fltStore r time false s
      if stored then stormTest r s else s
  | 1 => fltStore r time false (stormTouch r false (s.bump FLT.CNT.UC (1 + r.suppr) r.src))
  | 2 =>
    let s := { s with flt := { s.flt with fatal := true } }
    fltStore r time false (stormTouch r false s)

/-- The conditions of R325 that keep FAULT_N asserted. -/
def faultnHeld (s : State) : Bool :=
  let lines := s.get FLT.LINES.SLOT + s.get FLT.LINES.VIN + s.get FLT.LINES.TEMP + s.get FLT.LINES.RAIL + s.get FLT.LINES.CLK
  s.flt.fatal || (s.on FLT.LINEEN.FLTN && lines != 0) || s.on FLT.STAT.UCHELD

/-- The quiet period in ns; 0 acts as 1 ms (R336). -/
def quietNs (s : State) : Nat := max 1 (s.get FLT.CFG.QUIET) * 1000000

/-- RECORD_MERGE (R315). -/
def execRecordMerge (r : ErrRec) (s : State) : Result := .next (report r s)

/-- STORM_END (R324): the quiet period has passed, so one summary record is stored and RECOV increments. -/
def execStormEnd (src : Fin 512) (s : State) : Result :=
  .next (match look s.flt.storms src with
    | none => s
    | some st =>
      let s := s.reach (st.last + quietNs s)
      let s := { s with flt := { s.flt with storms := del s.flt.storms src } }
      let s := s.set FLT.SRC.STORM 0 src
      let s := fltStore { rec0 src st.kind 0 0 with suppr := min 0xFFFF st.withheld } s.ns true s
      s.bump FLT.RECOV.COUNT)

/-- FAULTN_QUIET_RELEASE (R325): nothing is released while a condition is in force. -/
def execFaultnQuietRelease (s : State) : Result :=
  .next (if s.on FLT.STAT.FAULTN && !faultnHeld s then
      let s := s.reach (max s.flt.lastAssert s.flt.condEnd + quietNs s)
      ((s.set FLT.STAT.FAULTN 0).emit (.faultN false)).bump FLT.RECOV.COUNT
    else s)

/-- FAULTN_CLR (R325): released unless a FATAL is in force; not counted in RECOV. -/
def execFaultnClr (v : Word) (s : State) : Result := atReg FLT.CTL.FAULTN_CLR (fun s => .next (if bitOf v.toNat 0 && s.on FLT.STAT.FAULTN && !s.flt.fatal then (s.set FLT.STAT.FAULTN 0).emit (.faultN false) else s)) s

/-- FLT_RHEAD_WRITE (R319): entries are returned, and a pending RECORD_LOST record is stored. -/
def execFltRheadWrite (v : Word) (s : State) : Result := atReg FLT.RHEAD.INDEX (fun s => .next (fltLost (s.set FLT.RHEAD.INDEX v.toNat))) s

/-- The time at which the last condition of R325 cleared is noted when one clears. -/
def condNote (before : Bool) (s : State) : State :=
  if before && !faultnHeld s then { s with flt := { s.flt with condEnd := s.ns } } else s

/-- CORE_HEARTBEAT (R329): a fenced core's write is discarded at NoC ingress (R332). -/
def execCoreHeartbeat (c : Fin 5) (s : State) : Result :=
  .next (if coreFenced s c then nocDiscard s
    else { s with flt := { s.flt with beat := setNth s.flt.beat c s.ns } })

/-- The number of units of a class (R336). -/
def unitCount (cls : Nat) : Nat := nthD [5, 5, 72, 8, 4, 2] cls 0

/-- An epoch that no FENCED unit of the class holds, counting up from `e` (R331). -/
def freeEpoch (s : State) (cls : Nat) : Nat → Nat → Nat
  | 0, e => e % 256
  | fuel + 1, e =>
    if (List.range (unitCount cls)).any (fun i => s.get FLT.UNIT.STATE cls i == 2 && s.get FLT.UNIT.EPOCH cls i == e % 256)
    then freeEpoch s cls fuel (e + 1) else e % 256

/-- The class counter advances to the next usable epoch (R331). -/
def nextEpoch (cls : Nat) (s : State) : Nat × State :=
  let e := freeEpoch s cls 256 (nthD s.flt.ctr cls 0 + 1)
  (e, { s with flt := { s.flt with ctr := setNth s.flt.ctr cls e } })

/-- A unit becomes FENCED (R328). -/
def fenceUnit (cls i : Nat) (s : State) : State :=
  let s := injFenced cls i (s.set FLT.UNIT.STATE 2 cls i)
  if cls = 1 then evFenceCore i s else s

/-- The bit of FLT.SPARE of a class and unit (R336). -/
def setSpare (cls i v : Nat) (s : State) : State :=
  match cls with
  | 0 => s.set FLT.SPARE.PLANE v
  | 1 => s.set FLT.SPARE.CORE v
  | 2 => let b := s.get FLT.SPARE.LANE; let m := 2 ^ (i / 9)
         s.set FLT.SPARE.LANE (if v = 0 then b - (if bitOf b (i / 9) then m else 0) else Nat.lor b m)
  | 4 => let b := s.get FLT.SPARE.HOME; let m := 2 ^ (i / 2)
         s.set FLT.SPARE.HOME (if v = 0 then b - (if bitOf b (i / 2) then m else 0) else Nat.lor b m)
  | 5 => s.set FLT.SPARE.SUM v
  | _ => s

/-- The source of a unit's records (R318). -/
def unitSrc (cls i : Nat) : Nat :=
  match cls with
  | 0 => ePlane + i
  | 1 => eCore + i
  | 2 => eLane + i / 9 * 16 + i % 9
  | 3 => eBlk + i
  | 4 => eHome + i
  | _ => eSum + i

/-- The class and index of the unit that a source of R318 names, if it is a replaceable unit. -/
def srcUnit (src : Nat) : Option (Nat × Nat) :=
  if ePlane ≤ src && src < ePlane + 5 then some (0, src - ePlane)
  else if eCore ≤ src && src < eCore + 5 then some (1, src - eCore)
  else if eLane ≤ src && src % 16 < 9 && src < eLane + 128 then some (2, (src - eLane) / 16 * 9 + src % 16)
  else if eBlk ≤ src && src < eBlk + 8 then some (3, src - eBlk)
  else if eHome ≤ src && src < eHome + 4 then some (4, src - eHome)
  else if eSum ≤ src && src < eSum + 2 then some (5, src - eSum)
  else none

/-- A bring-in is running for a class (R328, R334). -/
def bringingIn (s : State) (cls : Nat) : Bool := s.flt.bringIns.any (fun b => b.cls == cls)

end Sys2Proof.Machine
end

