-- ==== Sys2Proof/Machine/Decide.lean ====
section
/-! DEFINITION. Decision points: posting, holding, ending and judging decisions (R26 to R30, R391 to R393, R437). What each function does at the end of its decision stands with that function. -/

namespace Sys2Proof.Machine

/-- The device is without a fabric manager (R29). -/
def withoutFm (s : State) : Bool := !s.fmUp && !s.mctpOpen

/-- Timeouts of R27, in ns. -/
def decTimeout (f : Nat) : Nat :=
  nthD [100000, 1000000000, 50000000, 10000000, 100000000, 1000000000, 10000000, 1000000] f 0

/-- HELD shows which functions have a held decision, and UCHELD whether function 3 has (R440, R336). -/
def decSync (s : State) : State :=
  let held (f : Nat) : Bool := s.decs.any (fun d => d.2.func == f && d.2.stat == .held)
  let v := (List.range 8).foldl (fun a f => a + b2n (held f) * 2 ^ f) 0
  condNote (faultnHeld s)
    ((s.set GCTL.ASTAT.HELD v).setB FLT.STAT.UCHELD (held 3))

/-- The payload of a decision's events (R338). -/
def decPayload (id obj : Nat) : Nat := id + obj % 2 ^ 12 * 2 ^ 16

/-- The index of the unit, lane unit or row die that an error source names. -/
def unitIndex (src : Nat) : Nat :=
  if src < ePlane then src - eBlk
  else if src < eFrame then src - ePlane
  else if src < eDie then src - eHome
  else if src < eSum then src - eDie
  else if src < eCore then src - eSum
  else if src < eLane then src - eCore
  else (src - eLane) / 16 * 9 + (src - eLane) % 16

/-- The OBJ that a decision shows: its instance, which for function 5 is the index of the unit (R338; DEDUCED, log entry). The record keeps the error source, which also names the class. -/
def shownObj (f obj : Nat) : Nat := if f = 5 then unitIndex obj else obj % 2 ^ 12

/-- A decision ends: its record takes the new standing and the closing event is posted (R28, R338). -/
def decEnd (id : Nat) (st : DecStat) (cause flags : Nat) (s : State) : State :=
  match look s.decs id with
  | none => s
  | some d => raise d.func cause (decPayload id (shownObj d.func d.obj) + flags) (decSync { s with decs := put s.decs id { d with stat := st } })

/-- A function reaches its decision point (R26, R29): the answer is whether the decision is held; where it is not, the caller takes the hardware-mode action at once. -/
def reachPoint (f obj : Nat) (s : State) : Bool × State :=
  if !bitOf (s.get GCTL.ASSIST.MODE) f then (false, s)
  else
    let id := s.nextDec
    let s := { s with nextDec := (id + 1) % 2 ^ 16, decs := put s.decs id ⟨f, obj % 2 ^ 12, s.ns + decTimeout f, .held, false⟩ }
    let s := raise f 25 (decPayload id (shownObj f obj)) (s.set GCTL.ASTAT.LASTDEC id)
    if withoutFm s then (false, decEnd id .lapsed 26 (2 ^ 29) s)
    else (true, decSync s)

/-- The decision of function `f` for instance `obj` that is held and still decides on something, if one is. -/
def heldDec (s : State) (f obj : Nat) : Option Nat :=
  (s.decs.find? (fun d => d.2.func == f && d.2.obj == obj % 2 ^ 12 && d.2.stat == .held && !d.2.void)).map (·.1)

/-- A rule closes a held decision (R196, R334): a later command is LATE, and its closing event is CAUSE 26, without the hardware-mode action (R338). -/
def closeDec (f obj : Nat) (s : State) : State :=
  match heldDec s f obj with
  | none => s
  | some id => decEnd id .lapsed 26 0 s

/-- What a held decision decides on has gone (an emptied slot, a lost port, a cancelled rotation): the decision stays held until it ends in one of the five ways of R28, and its end does nothing more (log entry on ended conditions). -/
def voidDec (f obj : Nat) (s : State) : State :=
  match heldDec s f obj with
  | none => s
  | some id =>
    match look s.decs id with
    | none => s
    | some d => { s with decs := put s.decs id { d with void := true } }

/-- Whether the end of a decision still has something to act on. -/
def decLive (s : State) (id : Nat) : Bool := match look s.decs id with | some d => !d.void | none => false

/-- STATUS values of R391. -/
def stAccepted : Nat := 0
def stLate : Nat := 1
def stUnknown : Nat := 2
def stMismatch : Nat := 3
def stInvalid : Nat := 4

/-- The judgement of a DECIDE without NODEC, in the order of R391; `valid` says whether its argument is valid for FUNC. A command whose arrival falls in the clock of the lapse or later is late (R28). -/
def judge (f : Nat) (d : Decide) (valid : Bool) (s : State) : Nat :=
  match look s.decs d.decid.toNat with
  | none => stUnknown
  | some r =>
    if r.stat = .answered ∨ r.stat = .closed then stUnknown
    else if r.func ≠ f ∨ shownObj f r.obj ≠ d.obj then stMismatch
    else if r.stat = .lapsed ∨ r.deadline ≤ s.ns then stLate
    else if !valid then stInvalid
    else stAccepted

/-- A command of the FM port's mailbox completes: it is counted, and vector 1 is raised (R354, R389). -/
def fmDone (s : State) : State := perf 319 0x12 1 none (s.emit (.fmVector 1))

/-- A vendor command answers with its STATUS; the mailbox raises vector 1 at its completion (R389, R391). -/
def mailbox (via : Via) (st : Nat) (s : State) : State :=
  let s := s.emit (.status via st)
  if via = .fm then fmDone s else s

/-- A DECIDE runs: the STATUS is returned, a late command posts CAUSE 28, and an accepted one ends the wait with CAUSE 27 and is carried out (R28, R338, R391). -/
def answer (f : Nat) (d : Decide) (valid : Bool) (act : Nat → State → State) (s : State) : State :=
  let st := judge f d valid s
  let s1 := mailbox d.via st s
  if st = stAccepted then
    let s2 := decEnd d.decid.toNat .answered 27 0 s1
    if decLive s d.decid.toNat then act ((look s.decs d.decid.toNat).elim 0 (·.obj)) s2 else s2
  else if st = stLate then raise f 28 (decPayload d.decid.toNat d.obj) s1
  else s1

/-- The decisions of a function that are held, as DECID and OBJ, in the order they were posted. -/
def heldOf (s : State) (p : Nat → Bool) : List (Nat × Dec) :=
  s.decs.filter (fun d => p d.2.func && d.2.stat == .held)

end Sys2Proof.Machine
end

