-- ==== Sys2Proof/Machine/Journal.lean ====
section
/-! DEFINITION. Requests for journal records (R375 to R378, R382). Writing, sealing and replaying them stand in Boot.lean. -/

namespace Sys2Proof.Machine

/-- The body of a record in bytes, without its sealed keys. R376 states 16 B of the worked example's binding entry; the other bodies' sizes are the model's (DESIGN CHOICE, log entry on record lengths). -/
def bodyBytes : JBody → Nat
  | .jmark => 0
  | .bind es _ _ => 16 * es.length
  | .key ds => 16 * ds.length
  | .migStart .. => 32
  | .migCkpt .. => 16
  | .migCommit _ => 16
  | .migAbort _ => 16
  | .rotStart .. => 16
  | .rotCkpt .. => 16
  | .rotDone _ => 16
  | .act _ es => 16 + 36 * es.length
  | .spare cs => 16 * cs.length
  | .wear .. => 16
  | .policy ps => 8 * ps.length
  | .ver _ => 16
  | .reserve .. => 16
  | .base _ => 16
  | .void _ => 16

/-- The pages of a record: header of 32 B, body, sealed keys and trailer of 16 B, in whole pages of 256 B, at least one (R376). -/
def recPages (b : JBody) (keys : List SealedKey) : Nat := max 1 (ceilDiv (48 + bodyBytes b + 82 * keys.length) 256)

/-- TYPE of a record (R377). -/
def jType : JBody → Nat
  | .jmark => 0x01
  | .bind .. => 0x02
  | .key _ => 0x03
  | .migStart .. => 0x04
  | .migCkpt .. => 0x05
  | .migCommit _ => 0x06
  | .migAbort _ => 0x07
  | .rotStart .. => 0x08
  | .rotCkpt .. => 0x09
  | .rotDone _ => 0x0A
  | .act .. => 0x0B
  | .spare _ => 0x0C
  | .wear .. => 0x0D
  | .policy _ => 0x0E
  | .ver _ => 0x0F
  | .reserve .. => 0x10
  | .base _ => 0x11
  | .void _ => 0x12

/-- The 32-byte header with which a record begins in a half of generation `gen`, written at `time` ns (R8, R376). -/
def recHeader (gen time : Nat) (r : JRec) : List Nat :=
  let h := bytesOf 2 0xA51E ++ bytesOf 1 (jType r.body) ++ bytesOf 1 (b2n (!r.keys.isEmpty) + 2 * b2n r.snap) ++ bytesOf 4 (256 * r.pages)
    ++ bytesOf 8 r.seq ++ bytesOf 8 time ++ bytesOf 4 gen
  h ++ bytesOf 4 (crc32c h)

/-- The 16-byte trailer that closes a record whose other bytes are `l` (R376). -/
def recTrailer (r : JRec) (l : List Nat) : List Nat :=
  let t := bytesOf 8 r.seq
  t ++ bytesOf 4 (crc32c (l ++ t)) ++ bytesOf 4 0x5EA1

/-- The active journal half (R375). -/
def activeHalf (s : State) : JHalf := if s.get BOOT.STAT.JHALF = 0 then s.boot.flash.halfA else s.boot.flash.halfB

/-- The same half with its records replaced. -/
def setActive (h : JHalf) (s : State) : State :=
  if s.get BOOT.STAT.JHALF = 0 then { s with boot := { s.boot with flash := { s.boot.flash with halfA := h } } }
  else { s with boot := { s.boot with flash := { s.boot.flash with halfB := h } } }

/-- Pages of a half that are programmed: its header and the pages of its records. -/
def halfUsed (h : JHalf) : Nat := (if h.header.isSome then 1 else 0) + (h.recs.map (·.programmed)).sum

/-- FILL shows how full the active half is, in percent (R386). -/
def fillSync (s : State) : State :=
  s.set BOOT.JSTAT.FILL (if s.boot.flash.halfPages = 0 then 0 else halfUsed (activeHalf s) * 100 / s.boot.flash.halfPages)

/-- What a request for a record answers. -/
inductive JAns where
  | taken | full | power
  deriving DecidableEq, Repr

/-- The journal is being sealed or is sealed (R382). -/
def sealedOff (s : State) : Bool := s.on BOOT.STAT.SEALED || s.boot.pwrfail

/-- Pages that waiting requests and the record in work will still take. -/
def pagesOwed (s : State) : Nat :=
  (s.boot.queue.map (fun q => recPages q.body q.keys)).sum +
    (match s.boot.cur with | some c => c.recd.pages - c.recd.programmed | none => 0)

/-- A core role is vacant while core 4 is being brought in for it (R387, R388). -/
def roleVacant (s : State) (role : Nat) : Bool := s.flt.bringIns.any (fun b => b.cls == 1 && b.pos == role)

/-- The device starts the next waiting record, while role 1 is held (R388): it takes the next SEQ, and a RESERVE record moves the numbering on (R376, R378, R380). -/
def startNext (s : State) : State :=
  match s.boot.queue with
  | [] => s
  | q :: rest =>
    if s.boot.cur.isSome || sealedOff s || roleVacant s 1 then s
    else
      let n := s.boot.nextSeq
      let (b, after) := match q.body with
        | .reserve _ _ => (JBody.reserve (n + 1) (n + 8192), n + 8193)
        | b => (b, n + 1)
      { s with boot := { s.boot with queue := rest, nextSeq := after, cur := some ⟨⟨n, b, q.keys, recPages b q.keys, 0, true, false⟩, q.who, false, false⟩ } }

/-- A block requests a journal record: requests are queued in order (R378); none is taken from recognition of PWRFAIL_N onwards (R382), or when the half is full (R380). -/
def request (b : JBody) (keys : List SealedKey) (who : JWait) (s : State) : JAns × State :=
  if sealedOff s then (.power, s)
  else if (activeHalf s).header.isNone || s.boot.flash.halfPages < halfUsed (activeHalf s) + pagesOwed s + recPages b keys then (.full, s)
  else (.taken, startNext { s with boot := { s.boot with queue := s.boot.queue ++ [⟨b, keys, who⟩] } })

/-- A request whose requester waits for nothing. -/
def note (b : JBody) (keys : List SealedKey) (s : State) : State := (request b keys .none s).2

/-- The change of a sealed record is applied (R374). -/
def markApplied (seq : Nat) (s : State) : State :=
  { s with boot := { s.boot with applied := max s.boot.applied seq, unapplied := without seq s.boot.unapplied } }

/-- The same for the sealed record, not yet applied, whose body `p` picks. -/
def markBody (p : JBody → Bool) (s : State) : State :=
  forL (((activeHalf s).recs.filter (fun r => s.boot.unapplied.contains r.seq && p r.body)).map (·.seq)) markApplied s

/-- A spare record: every unit's cell that differs from reset, the class counters at keys 0x1000 + class, and the substituted Tally rows at keys 0x10000 times die plus one, plus row (R105, R172, R328, R377). -/
def spareCells (s : State) : List (Nat × Nat) :=
  let unit (c : Nat) : List (Nat × Nat) := (List.range (unitCount c)).filterMap (fun i =>
    let v := s.get FLT.UNIT.EPOCH c i + s.get FLT.UNIT.STATE c i * 2 ^ 8 + s.get FLT.UNIT.ROLE c i * 2 ^ 10
    let r := FLT.UNIT.EPOCH.reset c i + FLT.UNIT.STATE.reset c i * 2 ^ 8 + FLT.UNIT.ROLE.reset c i * 2 ^ 10
    if v = r then none else some (c * 128 + i, v))
  (List.range 6).flatMap unit ++ (List.range 6).map (fun c => (0x1000 + c, nthD s.flt.ctr c 0))
    ++ s.homes.flatMap (fun h => h.2.rows.map (fun r => (0x10000 * (h.1 + 1) + r, 1)))

/-- The spare record of a bring-in, a release or a lane or plane change is requested. -/
def noteSpare (s : State) : State := note (.spare (spareCells s)) [] s

/-- Steps 2 to 4 of R328: the old unit is fenced, and the incoming unit takes a new epoch and the position (R331). A core role in substitution is announced by CORE_SUBST (R342). -/
def bringIn (cls old new pos : Nat) (s : State) : State :=
  let s := fenceUnit cls old s
  let (e, s) := nextEpoch cls s
  let s := (s.set FLT.UNIT.STATE 0 cls new).set FLT.UNIT.EPOCH e cls new
  let s := if cls ≤ 2 then s.set FLT.UNIT.ROLE pos cls new else s
  let s := { s with flt := { s.flt with bringIns := s.flt.bringIns ++ [⟨cls, old, new, pos⟩] } }
  let s := if cls = 1 ∧ new = 4 then pdWake 8 s else s
  if cls = 1 then raise 1153 0 (pos + e * 256) (evRouteAll { s with flt := { s.flt with roleEp := setNth s.flt.roleEp pos e } }) else s

/-- Step 5 of R328: the SUBST record is stored, FLT.SPARE is set and the spare record is requested. OBJ gives the unit, EPOCH the new epoch (R320). -/
def bringInDone (b : BringIn) (s : State) : State :=
  let s := { s with flt := { s.flt with bringIns := s.flt.bringIns.filter (· != b) } }
  let r := { rec0 eFlt kSubst 0 b.old with epoch := s.get FLT.UNIT.EPOCH b.cls b.new }
  let s := if b.cls = 1 then evRouteAll s else s
  startNext (noteSpare (setSpare b.cls b.old 1 (fltStore r s.ns false s)))

end Sys2Proof.Machine
end

