-- ==== Sys2Proof/Machine/Access.lean ====
section
/-! DEFINITION. The access table: the check of a request, denials and the first-violation record, and commits of a new table (R278 to R284, R290, R293). -/

namespace Sys2Proof.Machine

/-- What a checked request needs (R279), as OP of FVSTAT: 0 read, 1 write, 2 read and write; none where the request is not checked. `mv` is its MetaValue; a D2H request reads it as the state it asks for (DEDUCED, log entry on CXL.cache). -/
def needOf (op : Opc) (mv : Meta) : Option Nat :=
  match op with
  | .memRd | .memRdData | .memRdTEE | .memRdFwd => if mv = .a then some 2 else some 0
  | .memSpecRd | .pcieMemRd => some 0
  | .memInv | .memInvNT =>
    match mv with
    | .s => some 0
    | .a => some 2
    | .i | .noOp => none
  | .memWr | .memWrPtl | .pcieMemWr => some 1
  | .pcieAtomic | .farAtomic => some 2
  | .d2hReq =>
    match mv with
    | .a => some 2
    | .i => some 1
    | .s | .noOp => some 0
  | .memClnEvct | .biConflict | .biRspI | .biRspS | .biRspE => none
  | .memData | .cmp | .cmpS | .cmpE | .biConflictAck | .biSnpInv | .biSnpData => none
  | .pcieMsg | .pcieCfg | .pcieIo | .pcieCpl => none
  | .d2hRsp | .rspIHitI | .d2hData | .h2dReq | .h2dRsp | .h2dData | .atomicRsp | .parked | .poolWrDone => none

/-- Whether entry i matches (R280). -/
def actMatch (s : State) (mid kind ld page i : Nat) : Bool :=
  s.on ACT.ENT.VALID i && s.get ACT.ENT.KIND i == kind && (kind != 1 || s.get ACT.ENT.LD i == ld)
    && s.get ACT.ENT.BASE i ≤ page && page ≤ s.get ACT.ENT.LIMIT i
    && Nat.land (Nat.xor mid (s.get ACT.ENT.MID i)) (s.get ACT.ENT.MASK i) == 0

/-- Whether entry i permits the operation. -/
def actPermits (s : State) (op i : Nat) : Bool :=
  !s.on ACT.ENT.DENY i && (op == 1 || s.on ACT.ENT.RD i) && (op == 0 || s.on ACT.ENT.WR i)

/-- The check of R280: none allows; otherwise the deciding entry, and whether the default decided. The lowest matching entry decides. -/
def actCheck (s : State) (mid kind ld addr op : Nat) : Option (Bool × Nat) :=
  match (List.range 1024).find? (actMatch s mid kind ld (addr / 4096)) with
  | some i => if actPermits s op i then none else some (false, i)
  | none => if bitOf (s.get ACT.CFG.DEFAULT) (mid / 4096) then none else some (true, 0)

/-- A denial (R281, R282): it is counted; with no record held, the first violation is captured and an event of source 12 posted; otherwise OVF sets. -/
def actDeny (mid kind ld addr op : Nat) (why : Bool × Nat) (s : State) : State :=
  let s := s.bump ACT.DENYCNT.COUNT
  if s.on ACT.FVSTAT.VALID then s.set ACT.FVSTAT.OVF 1
  else
    let s := (((s.set ACT.FVSTAT.KIND kind).set ACT.FVSTAT.OP op).setB ACT.FVSTAT.DEFAULT why.1).set ACT.FVSTAT.ENTRY why.2
    let s := (s.set ACT.FVSTAT.EPOCH (s.get ACT.COMMIT.EPOCH)).set ACT.FVSTAT.VALID 1
    let s := (s.set ACT.FVMID.MID mid).set ACT.FVMID.LD (if kind = 1 then ld else 0)
    let s := (s.set ACT.FVADDR.VALUE addr).set ACT.FVTIME.VALUE s.ns
    raise 12 1 (why.2 + b2n why.1 * 2 ^ 10 + kind * 2 ^ 11 + op * 2 ^ 13) s

/-- FV_CLEAR (R282, R293): the W1C bits of FVSTAT; clearing VALID re-arms capture. -/
def execFvClear (v : Word) (s : State) : Result := atReg ACT.FVSTAT.VALID (fun s =>
  .next ((if bitOf v.toNat 0 then (fun s => putWord 32 [ACT.FVSTAT.KIND, ACT.FVSTAT.OP, ACT.FVSTAT.DEFAULT, ACT.FVSTAT.ENTRY, ACT.FVSTAT.EPOCH] 0 0 0 (((((s.set ACT.FVSTAT.VALID 0).set ACT.FVMID.MID 0).set ACT.FVMID.LD 0).set ACT.FVADDR.VALUE 0).set ACT.FVTIME.VALUE 0)) else id)
    (if bitOf v.toNat 1 then s.set ACT.FVSTAT.OVF 0 else s))) s

/-- First bit and length in bits of the active table and of the staging bank. -/
def entLo : Nat := ACT.ENT.VALID.base
def stgLo : Nat := ACT.STG.VALID.base
def entLen : Nat := 1024 * 256

/-- The fields of an entry of the active table. -/
def entFields : List Ent :=
  [ACT.ENT.VALID, ACT.ENT.KIND, ACT.ENT.DENY, ACT.ENT.RD, ACT.ENT.WR, ACT.ENT.LD, ACT.ENT.MID, ACT.ENT.MASK, ACT.ENT.BASE, ACT.ENT.LIMIT]

def stgFields : List Ent :=
  [ACT.STG.VALID, ACT.STG.KIND, ACT.STG.DENY, ACT.STG.RD, ACT.STG.WR, ACT.STG.LD, ACT.STG.MID, ACT.STG.MASK, ACT.STG.BASE, ACT.STG.LIMIT]

/-- Entries that a commit's record holds: those that the commit changes, or the whole table after a record that failed (R284). -/
def actChanged (s : State) : List (Nat × Nat) :=
  (List.range 1024).filterMap (fun i =>
    let v := s.word 256 stgFields i
    if s.act.failed || v != s.word 256 entFields i then some (i, v) else none)

/-- Whether every request checked under an older rule epoch has completed (R88). -/
def actDrained (s : State) : Bool := s.frame.reqs.all (fun r => r.2.done || r.2.ruleEp == s.get ACT.COMMIT.EPOCH)

/-- The commit point of R283. -/
def actCommitPoint (s : State) : State :=
  let rec0 := actChanged s
  let s := copyDown' s
  let s := s.set ACT.CFG.DEFAULT (s.get ACT.STGCFG.DEFAULT)
  let s := s.set ACT.COMMIT.EPOCH (s.get ACT.COMMIT.EPOCH + 1)
  let s := ((s.set ACT.COMMIT.DONE 0).set ACT.COMMIT.SEALED 0).set ACT.COMMIT.STG_BUSY 1
  let s := s.set ACT.COMMIT.RESULT 0
  let n := s.act.latest + 1
  let s := { s with act := { s.act with latest := n, unsealed := s.act.unsealed + 1 } }
  match request (.act (s.get ACT.CFG.DEFAULT) rec0) [] (.act n) s with
  | (.taken, s) => s
  | (.full, s) => { s with act := { s.act with failed := true, unsealed := s.act.unsealed - 1 } }.set ACT.COMMIT.RESULT 2
  | (.power, s) => s.set ACT.COMMIT.RESULT 3
where
  copyDown' (s : State) : State := copyUp stgLo entLen (entLo - stgLo) s

/-- ACT_COMMIT (R283): a write of COMMIT with GO at 1. -/
def execActCommit (v : Word) (s : State) : Result := atReg ACT.COMMIT.DONE (fun s =>
  .next (if !bitOf v.toNat 8 then s
    else if !s.on ACT.COMMIT.DONE || s.on ACT.COMMIT.STG_BUSY then s.set ACT.COMMIT.RESULT 1
    else actCommitPoint s)) s

/-- STAGING_RELOAD_DONE (R283): the staging bank and STGCFG hold the active table again. -/
def execStagingReloadDone (s : State) : Result :=
  .next (if s.on ACT.COMMIT.STG_BUSY then
      ((copyDown entLo entLen (entLo - stgLo) s).set ACT.STGCFG.DEFAULT (s.get ACT.CFG.DEFAULT)).set ACT.COMMIT.STG_BUSY 0
    else s)

/-- ACT_DRAIN_DONE (R284, R88): DONE sets once no request of an older epoch remains. -/
def execActDrainDone (s : State) : Result :=
  .next (if actDrained s then s.set ACT.COMMIT.DONE 1 else s)

/-- The record of commit n is sealed, or failed to seal (R284). After a power failure RESULT already shows POWER. -/
def actSealed (n : Nat) (ok : Bool) (s : State) : State :=
  let s := { s with act := { s.act with unsealed := s.act.unsealed - 1, failed := !ok } }
  if ok then (if n = s.act.latest then s.set ACT.COMMIT.SEALED 1 else s) else if s.boot.pwrfail then s else s.set ACT.COMMIT.RESULT 2

end Sys2Proof.Machine
end

