-- ==== Sys2Proof/Machine/Col.lean ====
section
/-! DEFINITION. Lane columns: bifurcation, lane errors, equalization, eye scans, training and column power (R34 to R58). -/

namespace Sys2Proof.Machine

/-- The column's state beside its registers. -/
def colSt (s : State) (c : Nat) : ColSt := lookD s.cols c ⟨0, none, false, [], []⟩

def setCol (c : Nat) (x : ColSt) (s : State) : State := { s with cols := put s.cols c x }

/-- A port's state beside its registers. -/
def portSt (s : State) (p : Nat) : PortSt :=
  lookD s.ports p PortSt.fresh

def setPort (p : Nat) (x : PortSt) (s : State) : State := { s with ports := put s.ports p x }

def modPort (p : Nat) (f : PortSt → PortSt) (s : State) : State := setPort p (f (portSt s p)) s

/-- BIFUR in force: 0 OFF, 1 1×16, 2 2×8, 3 4×4. -/
def bifur (s : State) (c : Nat) : Nat := (colSt s c).cfg % 4

def maxRate (s : State) (c : Nat) : Nat := bitsOf (colSt s c).cfg 3 3

/-- The partner column (R34). -/
def partner (c : Nat) : Nat := Nat.xor c 1

/-- A port's column, training slot, first lane and number of lanes, under the configuration in force (R34). -/
def slotOf (s : State) (p : Nat) : Option (Nat × Nat × Nat × Nat) :=
  let c := p / 2
  let i := p % 2
  match bifur s c with
  | 1 => if i = 0 then some (c, 0, 0, 16) else none
  | 2 => some (c, i, 8 * i, 8)
  | 3 => some (c, i, 4 * i, 4)
  | _ => if bifur s (partner c) = 3 then some (partner c, 2 + i, 8 + 4 * i, 4) else none

/-- A x16 port: the even port of a 1×16 column (R17, R34). -/
def isX16 (s : State) (p : Nat) : Bool := bifur s (p / 2) == 1 && p % 2 == 0

/-- The odd number behind a x16 port, whose registers read reset and ignore writes (R61). -/
def behindX16 (s : State) (p : Nat) : Bool := bifur s (p / 2) == 1 && p % 2 == 1

/-- The port that owns a crossbar port (R17). -/
def ownerPort (s : State) (x : Nat) : Nat := if behindX16 s x then x - 1 else x

/-- The port of a column's training slot (R34). -/
def portOfSlot (c k : Nat) : Nat := if k < 2 then 2 * c + k else 2 * partner c + (k - 2)

/-- The ports of a column under the configuration in force. -/
def colPorts (s : State) (c : Nat) : List Nat :=
  (List.range 64).filter (fun p => match slotOf s p with | some (c', _) => c' == c | none => false)

/-- The port that a lane serves. -/
def portOfLane (s : State) (c l : Nat) : Option Nat :=
  (colPorts s c).find? (fun p => match slotOf s p with | some (_, _, lo, n) => lo ≤ l && l < lo + n | none => false)

/-- LTSSM state of a port (R58). -/
def ltssm (s : State) (p : Nat) : Nat :=
  match slotOf s p with
  | some (c, k, _) => s.get COL.TRN.TRNSTAT.LTSSM c k
  | none => 0

def setLtssm (p v : Nat) (s : State) : State :=
  match slotOf s p with
  | some (c, k, _) => s.set COL.TRN.TRNSTAT.LTSSM v c k
  | none => s

/-- Write one TRNSTAT field of a port. -/
def setTrn (e : Ent) (p v : Nat) (s : State) : State :=
  match slotOf s p with
  | some (c, k, _) => s.set e v c k
  | none => s

def getTrn (s : State) (e : Ent) (p : Nat) : Nat :=
  match slotOf s p with
  | some (c, k, _) => s.get e c k
  | none => 0

/-- The lanes of a port. -/
def lanesOf (s : State) (p : Nat) : List (Nat × Nat) :=
  match slotOf s p with
  | some (c, _, lo, n) => (List.range n).map (fun i => (c, lo + i))
  | none => []

/-- A port state as PSTATE reads it: 0 DISABLED, 1 DOWN, 2 TRAINING, 3 UP, 4 FLUSHING. The change is an event of the port's source. -/
def pstate (s : State) (p : Nat) : Nat := s.get PORT.STAT.PSTATE p

def setPstate (p v : Nat) (s : State) : State := setState PORT.STAT.PSTATE v (64 + p) s p

/-- Column state CSTATE; the change is an event of source 128 + c. -/
def setCstate (c v : Nat) (s : State) : State := setState COL.STAT.CSTATE v (128 + c) s c

/-- A port is held out of training: role OFF, slot not enabled, column OFF or DISABLE set (R74). -/
def portBarred (s : State) (p : Nat) : Bool :=
  s.get PORT.CFG.ROLE p == 0 || s.on PORT.CTL.DISABLE p ||
    (match slotOf s p with
     | some (c, k, _) => !s.on COL.TRN.TRNCTL.EN c k || s.get COL.STAT.CSTATE c == 0
     | none => true)

/-- A port at rest shows DISABLED or DOWN, as R74 defines them. -/
def restState (s : State) (p : Nat) : Nat := if portBarred s p then 0 else 1

/-- A port that is neither UP, FLUSHING nor TRAINING takes its resting state. -/
def settle (p : Nat) (s : State) : State :=
  if pstate s p ≤ 1 then setPstate p (restState s p) s
  else if pstate s p = 2 && portBarred s p then setPstate p 0 (setLtssm p 0 s)
  else s

/-- A lane group of the port is in NEAR or FAR: training waits in DOWN (R450). -/
def looped (s : State) (p : Nat) : Bool := (lanesOf s p).any (fun q => s.get TST.LB.CTL.MODE q.1 == 1 || s.get TST.LB.CTL.MODE q.1 == 2)

/-- A port that may train needs its column's PLL: the column wakes first, and the port trains when the PLL has locked (R54, R56). -/
def wantLane (p : Nat) (s : State) : State := modPort p (fun x => { x with wantTrain := true }) s

/-- A port in DOWN that may train enters Detect (R49, R50): not one that waits for RETRY_INT or RETRAIN, or at the decision point of R323. A sleeping column wakes first. -/
def detect (p : Nat) (s : State) : State :=
  if pstate s p = 1 && !portBarred s p && s.live && !s.safe && !looped s p && !(portSt s p).waitRetry && (heldDec s 3 p).isNone then
    match slotOf s p with
    | none => s
    | some (c, _) =>
      let go (s : State) : State :=
        setPstate p 2 (setLtssm p 1 (modPort p (fun x => { x with carved := some (s.get PORT.CFG.ROLE p, s.on PORT.CFG.POOL p) }) s))
      match s.get COL.STAT.CSTATE c with
      | 2 => go s
      | 3 => if s.on COL.STAT.PLL_LOCK c then go (setCstate c 2 s) else wantLane p (setCol c { colSt s c with wakeHeld := true } s)
      | 4 => wantLane p (setCstate c 5 s)
      | _ => wantLane p s
  else s

/-- Whether a proposed BIFUR breaks R35: a column in 4×4 whose partner is not OFF. -/
def bifurClash (s : State) (c b : Nat) : Bool :=
  let o := bifur s (partner c)
  (b == 3 && o != 0) || (o == 3 && b != 0)

/-- An applied column configuration: the column relocks its PLL, or goes OFF unless it is borrowed; BORROWED shows in the partner (R34 to R36, R52). -/
def colTake (c v : Nat) (s : State) : State :=
  let old := colSt s c
  let s := setCol c { old with cfg := v } s
  let s := s.setB COL.STAT.BORROWED (v % 4 == 3) (partner c)
  let s :=
    if v % 4 = 0 then (setCstate c 0 s).set COL.STAT.PLL_LOCK 0 c
    else if old.cfg = v && s.on COL.STAT.PLL_LOCK c then s
    else (setCstate c 1 s).set COL.STAT.PLL_LOCK 0 c
  forL (List.range 4 |>.map (portOfSlot c)) settle s

/-- COL_APPLY (R35, R36): the fields of the write are held, and they are held too where the APPLY beside them is rejected (DESIGN CHOICE, log entry on column settings); with APPLY at 1 they govern once every port of the column and of its partner is in LTSSM DOWN and R35 holds. -/
def execColApply (c : ColId) (v : Word) (s : State) : Result := atReg COL.CFG.APPLY (fun s =>
  let w := v.toNat
  let s := (((s.set COL.CFG.BIFUR (bitsOf w 0 2) c).set COL.CFG.CSLEEP_EN (bitsOf w 2 1) c).set
    COL.CFG.MAXRATE (bitsOf w 3 3) c).set COL.CFG.PRECODE (bitsOf w 6 1) c
  let ports := colPorts s c ++ colPorts s (partner c)
  let ok := ports.all (fun p => ltssm s p == 0) && !bifurClash s c (w % 4) && bitsOf w 3 3 < 6
  .next (if !bitOf w 7 then s
    else if ok then colTake c (bitsOf w 0 7) s
    else s.set COL.STAT.CFG_ERR 1 c)) s

/-- The rate code of the port of a lane; 5 is 64 GT/s. -/
def laneRate (s : State) (c l : Nat) : Nat :=
  match portOfLane s c l with
  | some p => getTrn s COL.TRN.TRNSTAT.RATE p
  | none => 0

/-- How a lane codes its data (R37): 8b/10b with symbol lock on COM, 128b/130b with block lock on EIEOS, or PAM4 with 1b/1b and Gray coding in flit mode. -/
inductive Coding where
  | c8b10b | c128b130b | pam4
  deriving DecidableEq, Repr

/-- The coding of a rate (R37). -/
def codingOf (rate : Nat) : Coding := if rate ≤ 1 then .c8b10b else if rate ≤ 4 then .c128b130b else .pam4

/-- The port of a lane records a Receiver Error, in its AER state too (R38, R62). -/
def rxError (c l : Nat) (s : State) : State :=
  match portOfLane s c l with
  | some p => modPort p (fun x => { x with rxErr := true }) (s.emit (.rxError p))
  | none => s

/-- A bad symbol reaches the link layer marked bad, where the LCRC check leads to a replay (R38). -/
def badSymbol (c l : Nat) (s : State) : State :=
  match portOfLane s c l with
  | some p => perf p 0x12 1 none (s.emit (.linkReplay p))
  | none => s

/-- A lane of a column counts a symbol error or an overrun (R58, R354). -/
def codeErr (c l : Nat) (s : State) : State := perf (64 + c) 0x10 1 none (s.bump COL.LANE.LERR.CODE_ERR 1 c l)

/-- A symbol error by the coding of the lane (R38, R39): a bad 8b/10b symbol, an invalid sync header, or a PAM4 symbol error that the FEC reports, which is counted alone. -/
def laneError (c l : Nat) (s : State) : State :=
  let s1 := codeErr c l s
  match codingOf (laneRate s c l) with
  | .c8b10b => badSymbol c l (rxError c l s1)
  | .c128b130b => rxError c l s1
  | .pam4 => s1

/-- RECEIVE_SYMBOL_ERROR (R38, R39): `fts` marks a received FTS, which an 8b/10b lane ignores. -/
def execReceiveSymbolError (c : ColId) (l : LaneSymbol) (s : State) : Result :=
  .next (if l.fts && codingOf (laneRate s c l.lane) == .c8b10b then s else laneError c l.lane s)

/-- ELASTIC_BUFFER_OVERRUN (R40): at every rate a Receiver Error and a count. -/
def execElasticBufferOverrun (c : ColId) (l : Fin 16) (s : State) : Result :=
  .next (rxError c l (codeErr c l s))

/-- The three conditions of R42 on a pair of coefficients: MAIN is 64 less both. -/
def coeffOk (pre post : Nat) : Bool := pre ≤ 16 && post ≤ 24 && 16 + 2 * (pre + post) ≤ 64

/-- Coefficients in use. -/
def setCoeff (c l pre post preset : Nat) (s : State) : State :=
  (((s.set COL.LANE.LSTAT.PRE pre c l).set COL.LANE.LSTAT.POST post c l).set COL.LANE.LSTAT.MAIN (64 - pre - post) c l).set
    COL.LANE.LSTAT.PRESET preset c l

/-- The coefficients of preset k at a rate, as the PCIe Base specification gives them within the limits of R42. -/
def presetTaps (rate k : Nat) : Nat × Nat :=
  let pre := Config.presetPre rate k % 17
  (pre, Config.presetPost rate k % (25 - pre))

/-- COEFF_REQUEST (R42, R43): during equalization a preset of the rate in use is taken and taps are checked; with OVR_EN every request is rejected. The answer goes to the partner. Outside equalization a partner makes no request. -/
def execCoeffRequest (c : ColId) (l : Fin 16) (r : CoeffReq) (s : State) : Result :=
  let eq := match portOfLane s c l with | some p => ltssm s p == 5 | none => false
  .next (if !eq then s
    else if s.on COL.LANE.LCTL.OVR_EN c l then s.emit (.coeff c l false)
    else
      match r with
      | .preset k =>
        let (pre, post) := presetTaps (laneRate s c l) k
        (setCoeff c l pre post k s).emit (.coeff c l true)
      | .taps pre main post =>
        if coeffOk pre post && main + pre + post = 64 then (setCoeff c l pre post 15 s).emit (.coeff c l true)
        else s.emit (.coeff c l false))

/-- Override coefficients take effect at once in L0, and otherwise wait for the next entry to L0 (R43). -/
def applyOvr (c l pre post : Nat) (s : State) : State :=
  match portOfLane s c l with
  | some p =>
    if ltssm s p = 6 then setCoeff c l pre post 15 s
    else
      let x := colSt s c
      setCol c { x with ovrWait := (x.ovrWait.filter (·.1 != l)) ++ [(l, pre, post)] } s
  | none =>
    let x := colSt s c
    setCol c { x with ovrWait := (x.ovrWait.filter (·.1 != l)) ++ [(l, pre, post)] } s

/-- A port's lanes enter L0: overrides that wait take effect (R43). -/
def ovrRelease (p : Nat) (s : State) : State :=
  forL (lanesOf s p) (fun (c, l) s =>
    let x := colSt s c
    match x.ovrWait.find? (·.1 == l) with
    | some (_, pre, post) => setCoeff c l pre post 15 (setCol c { x with ovrWait := x.ovrWait.filter (·.1 != l) } s)
    | none => s) s

/-- OVR_APPLY (R43): a write of LCTL with OVR_APPLY at 1. -/
def execOvrApply (c : ColId) (l : Fin 16) (v : Word) (s : State) : Result := atReg COL.LANE.LCTL.OVR_APPLY (fun s =>
  let w := v.toNat
  let pre := bitsOf w 3 6
  let post := bitsOf w 9 6
  let s := (((s.set COL.LANE.LCTL.POL_FORCE (bitsOf w 0 2) c l).set COL.LANE.LCTL.OVR_EN (bitsOf w 2 1) c l).set
    COL.LANE.LCTL.OVR_PRE pre c l).set COL.LANE.LCTL.OVR_POST post c l
  let s := if bitOf w 16 then s.set COL.LANE.LCTL.OVR_ERR 0 c l else s
  .next (if bitOf w 15 && bitOf w 2 then
      if coeffOk pre post then applyOvr c l pre post s else s.set COL.LANE.LCTL.OVR_ERR 1 c l
    else s)) s

/-- Every EYEDATA entry of a column has VALID at 0. -/
def clearEye (c : Nat) (s : State) : State :=
  let lo := COL.EYEDATA.COUNT.key c 0
  let hi := lo + 32 * 8192
  let vb := COL.EYEDATA.VALID.base % 32
  { s with regs := s.regs.filter (fun r => !(lo ≤ r.1 && r.1 < hi && r.1 % 32 == vb)) }

/-- End a scan in a state of EYESTAT. -/
def endScan (c st : Nat) (s : State) : State :=
  let x := colSt s c
  (setCol c { x with scan := none } s).set COL.EYESTAT.STATE st c

/-- EYE_SCAN_START (R45, R46, R47): a write of EYECTL with START at 1. A port that is not in L0 is looked at before the EYE value, and a quick eye scan or margining that is already under way does not pause the new scan (DESIGN CHOICE, log entry on eye scans). -/
def execEyeScanStart (c : ColId) (v : Word) (s : State) : Result := atReg COL.EYECTL.START (fun s =>
  let w := v.toNat
  let lane := bitsOf w 0 4
  let eye := bitsOf w 4 2
  let s := ((((s.set COL.EYECTL.LANE lane c).set COL.EYECTL.EYE eye c).set COL.EYECTL.DWELL (bitsOf w 6 5) c).set
    COL.EYECTL.TDEC (bitsOf w 11 2) c).set COL.EYECTL.VDEC (bitsOf w 13 2) c
  let up := match portOfLane s c lane with | some p => ltssm s p == 6 | none => false
  .next (if !bitOf w 15 || (colSt s c).scan.isSome then s
    else
      let s := (clearEye c s).set COL.EYESTAT.POINTS 0 c
      if !up then s.set COL.EYESTAT.STATE 5 c
      else if eye = 3 || (eye != 0 && laneRate s c lane != 5) then s.set COL.EYESTAT.STATE 6 c
      else
        let x := colSt s c
        (setCol c { x with scan := some ⟨lane, 2 ^ bitsOf w 11 2, 2 ^ bitsOf w 13 2, 0, 0, []⟩ } s).set COL.EYESTAT.STATE 1 c)) s

/-- EYE_SCAN_ABORT (R47). -/
def execEyeScanAbort (c : ColId) (v : Word) (s : State) : Result := atReg COL.EYECTL.ABORT (fun s => .next (if bitOf v.toNat 16 && (colSt s c).scan.isSome then endScan c 6 s else s)) s

/-- EYE_POINT_DONE (R46): the running scan writes its point and steps to the next; after the last it is DONE. A paused scan restarts its point, so nothing is written (R47). -/
def execEyePointDone (c : ColId) (mismatches : Nat) (s : State) : Result :=
  .next (match (colSt s c).scan with
    | none => s
    | some sc =>
      if sc.paused != [] then s
      else
        let j := sc.t * 128 + sc.v
        let sat := 0xFFFFFF < mismatches
        let s := ((s.set COL.EYEDATA.COUNT (min mismatches 0xFFFFFF) c j).setB COL.EYEDATA.SAT sat c j).set COL.EYEDATA.VALID 1 c j
        let s := perf (64 + c) 0x12 1 none (s.count COL.EYESTAT.POINTS 1 c)
        let v' := sc.v + sc.vdec
        let x := colSt s c
        if v' < 128 then setCol c { x with scan := some { sc with v := v' } } s
        else if sc.t + sc.tdec < 64 then setCol c { x with scan := some { sc with t := sc.t + sc.tdec, v := 0 } } s
        else endScan c 3 s)

/-- Pause the scan of a column for a reason (R47). -/
def pauseScan (c : Nat) (why : Pause) (s : State) : State :=
  let x := colSt s c
  match x.scan with
  | none => s
  | some sc => (setCol c { x with scan := some { sc with paused := why :: sc.paused.filter (· != why) } } s).set COL.EYESTAT.STATE 2 c

/-- A pause ends; the scan runs again when no reason is left. -/
def resumeScan (c : Nat) (why : Pause) (s : State) : State :=
  let x := colSt s c
  match x.scan with
  | none => s
  | some sc =>
    let rest := sc.paused.filter (· != why)
    let s := setCol c { x with scan := some { sc with paused := rest } } s
    if rest = [] then s.set COL.EYESTAT.STATE 1 c else s

/-- Whether a column's scan looks at a lane of port p. -/
def scansPort (s : State) (p : Nat) : Option Nat :=
  match slotOf s p with
  | some (c, _, lo, n) =>
    match (colSt s c).scan with
    | some sc => if lo ≤ sc.lane && sc.lane < lo + n then some c else none
    | none => none
  | none => none

/-- The port leaves L0 for a state other than Recovery, L0p or L1: a scan of its lanes ends with ABORT_LINK (R47). -/
def scanLost (p : Nat) (s : State) : State :=
  match scansPort s p with
  | some c => endScan c 5 s
  | none => s

/-- MARGIN_COMMAND (R44, R47): an offset command pauses a scan of the lane, the return to normal settings resumes it; the answer goes to the partner. A query of the capabilities or of the sample count moves no sampler, nor does an offset out of range, so neither pauses a scan (DESIGN CHOICE, log entry on eye scans). The sample count is a free value. -/
def execMarginCommand (c : ColId) (l : Fin 16) (m : MarginCmd) (s : State) : Result :=
  let x := colSt s c
  let mine := match x.scan with | some sc => sc.lane == l.val | none => false
  let start (ok : Bool) : State :=
    if ok then
      let s := setCol c { x with margined := l.val :: x.margined.filter (· != l.val) } s
      (if mine then pauseScan c .margin s else s).emit (.margin c l true)
    else s.emit (.margin c l false)
  .next (match m with
    | .capabilities => s.emit (.marginCaps c l 32 50 64 160 true 16)
    | .sampleCount => s.spend.emit (.marginSamples c l (s.freeNat 32))
    | .timing _ n => start (n ≤ 32)
    | .voltage _ n => start (n ≤ 64)
    | .normal =>
      let s := setCol c { x with margined := x.margined.filter (· != l.val) } s
      (if mine then resumeScan c .margin s else s).emit (.margin c l true))

/-- U and T_unit of a link: bytes counted, wire bytes and coding by its format (R119). Rates are in tenths of GT/s. -/
def unitOf (flit lanes rate : Nat) : Nat × Nat :=
  let gt := nthD [25, 50, 80, 160, 320, 640] rate 25
  let lanes := max 1 lanes
  if flit ≥ 2 then (236, ceilDiv (256 * 80000) (lanes * gt))
  else
    let wire := if flit = 1 then 68 else 80
    match codingOf rate with
    | .c8b10b => (64, ceilDiv (wire * 80000 * 10) (lanes * gt * 8))
    | .c128b130b => (64, ceilDiv (wire * 80000 * 130) (lanes * gt * 128))
    | .pam4 => (64, ceilDiv (wire * 80000) (lanes * gt))

/-- The port controller computes U and T_unit on each entry to L0 (R119). -/
def computeUnit (p : Nat) (s : State) : State :=
  let (u, t) := unitOf (s.get PORT.STAT.FLIT p) (getTrn s COL.TRN.TRNSTAT.WIDTH p) (getTrn s COL.TRN.TRNSTAT.RATE p)
  (s.set FRAME.EG.SCHSTAT.U u p).set FRAME.EG.SCHSTAT.UNIT_PS t p

/-- Receivers adapt (R44, R53): ADAPT shows it. The peaking setting and the first tap that adaptation arrives at are free values. -/
def adapt (ls : List (Nat × Nat)) (s : State) : State :=
  if ls.isEmpty then s
  else
    let v := (Config.free s.free).toNat
    forL ((List.range ls.length).zip ls) (fun q s =>
      ((s.set COL.LANE.RXEQ.CTLE (bitsOf v (12 * q.1) 4) q.2.1 q.2.2).set COL.LANE.RXEQ.DFE1 (bitsOf v (12 * q.1 + 4) 8) q.2.1 q.2.2).set
        COL.LANE.RXEQ.ADAPT 1 q.2.1 q.2.2) s.spend

/-- Adaptation is frozen (R53). -/
def freeze (ls : List (Nat × Nat)) (s : State) : State := forL ls (fun q s => s.set COL.LANE.RXEQ.ADAPT 0 q.1 q.2) s

/-- Lanes hold or lose lock (R37, R58). -/
def lockLanes (b : Bool) (ls : List (Nat × Nat)) (s : State) : State := forL ls (fun q s => s.setB COL.LANE.LSTAT.LOCK b q.1 q.2) s

/-- A port's lanes enter L0: they hold lock and adapt, overrides that wait apply, a scan that Recovery paused resumes, and U and T_unit are computed (R43, R44, R47, R119). -/
def toL0 (p : Nat) (s : State) : State :=
  let us := (portSt s p).used
  let s := ovrRelease p (lockLanes true us (adapt us (setLtssm p 6 s)))
  computeUnit p (match scansPort s p with | some c => resumeScan c .recovery s | none => s)

/-- A port enters Recovery (4) or Recovery.Equalization (5): a scan of its lanes pauses, and lanes that change their coding or coefficients lose lock (R47, R49). -/
def toRecovery (p v : Nat) (s : State) : State :=
  let fresh := ltssm s p != 4 && ltssm s p != 5
  let s := setLtssm p v s
  let s := match slotOf s p with | some (c, _) => if fresh then perf (64 + c) 0x11 1 none s else s | none => s
  let s := if v = 5 then lockLanes false (portSt s p).used s else s
  match scansPort s p with | some c => pauseScan c .recovery s | none => s

/-- The highest rate that a port has negotiated (R48 to R50): the lower of both partners' and the column's, under the port's cap. -/
def topRate (s : State) (p : Nat) : Nat :=
  match (portSt s p).neg with
  | none => 0
  | some n => min n.rate.val (min (maxRate s ((slotOf s p).map (·.1) |>.getD (p / 2))) ((portSt s p).rateCap.getD 5))

/-- Coefficients of every lane of a port are final (R52). -/
def finalKept (s : State) (p : Nat) : Bool := !(lanesOf s p).isEmpty && (lanesOf s p).all (fun q => s.on COL.LANE.LSTAT.FINAL q.1 q.2)

/-- A port's quick eye scan begins, and pauses a scan of the column (R47, R48). -/
def quickStart (p : Nat) (s : State) : State :=
  let s := modPort p (fun x => { x with quickEye := true }) s
  match slotOf s p with
  | some (c, _) => pauseScan c (.quickEye p) s
  | none => s

/-- A port's quick eye scan is over (R47). -/
def quickEnd (p : Nat) (s : State) : State :=
  let s := modPort p (fun x => { x with quickEye := false }) s
  match slotOf s p with
  | some (c, _) => resumeScan c (.quickEye p) s
  | none => s

/-- EQ_COMPLETE (R41, R48, R49, R52): equalization at a rate that the port may run at completes and the port is in L0 at it. Phase 3 leaves its ranking of presets; final coefficients of the rate serve again, and then phases 2 and 3 are skipped and there is no ranking, quick scan or decision. At the highest negotiated rate the quick eye scan begins otherwise. -/
def execEqComplete (p : PortId) (e : EqDone) (s : State) : Result :=
  let rate := e.rate
  .next (if pstate s p != 3 || topRate s p < rate.val || !([4, 5, 6].contains (ltssm s p)) then s
    else
      let x := portSt s p
      let kept := finalKept s p && x.finalRate == rate.val
      let tx := decide (4 ≤ rate.val) && e.precode
      let rx := rate.val == 5 && (match slotOf s p with | some (c, _) => bitOf (colSt s c).cfg 6 | none => false)
      let s := setPort p { x with eqFails := x.eqFails.filter (· != rate.val), ranking := if kept then x.ranking else e.ranking.map (·.val),
                                  precodeTx := tx, precodeRx := rx } s
      let s := toL0 p (setTrn COL.TRN.TRNSTAT.RATE p rate (if 4 ≤ rate.val then s.emit (.precoding p tx rx) else s))
      if rate.val = topRate s p && !kept then quickStart p s else s)

/-- EQ_FAIL (R50): a phase times out or the link drops from Recovery to a lower rate. The second failure in succession at a rate caps the rate at the next lower one and raises a CE record. -/
def execEqFail (p : PortId) (rate : Fin 6) (s : State) : Result :=
  let x := portSt s p
  .next (if pstate s p != 3 then s
    else
      let s := if ltssm s p = 5 then setLtssm p 4 s else s
      if x.eqFails.contains rate.val then
        let s := setPort p { x with eqFails := x.eqFails.filter (· != rate.val), rateCap := some (rate.val - 1) } s
        report (rec0 p kRateCap 0 p) (setTrn COL.TRN.TRNSTAT.RATE p (min (getTrn s COL.TRN.TRNSTAT.RATE p) (rate.val - 1)) s)
      else setPort p { x with eqFails := rate.val :: x.eqFails } s)

/-- Coefficients of a port are recorded as final, at its rate (R51, R52). -/
def recordFinal (p : Nat) (s : State) : State :=
  let s := forL (lanesOf s p) (fun (c, l) s => s.set COL.LANE.LSTAT.FINAL 1 c l) s
  let r := getTrn s COL.TRN.TRNSTAT.RATE p
  setTrn COL.TRN.TRNSTAT.EQ_HELD p 0 (modPort p (fun x => { x with redos := 0, tried := [], finalRate := r }) s)

/-- Every lane of a port meets both limits of EQPOL at the port's rate (R51). -/
def eyesMeet (s : State) (p : Nat) : Bool :=
  (lanesOf s p).all (fun (c, l) =>
    let pam := laneRate s c l == 5
    let w := if pam then s.get COL.EQPOL.MINW_PAM4 c else s.get COL.EQPOL.MINW_NRZ c
    let h := if pam then s.get COL.EQPOL.MINH_PAM4 c else s.get COL.EQPOL.MINH_NRZ c
    w ≤ s.get COL.LANE.QEYE.WIDTH c l && h ≤ s.get COL.LANE.QEYE.HEIGHT c l)

/-- Equalization is redone at the rate from a preset, or from the next-best of the phase 3 ranking (R51): the partner is asked to start from it, and the port goes through Recovery.Equalization and scans again. -/
def redoEq (p : Nat) (preset : Option Nat) (s : State) : State :=
  let x := portSt s p
  let s := setPort p { x with redos := x.redos + 1 } s
  let s := setTrn COL.TRN.TRNSTAT.EQ_HELD p 0 (toRecovery p 5 s)
  match preset, x.ranking.drop (x.redos + 1) with
  | some k, _ => s.emit (.eqPreset p k)
  | none, k :: _ => s.emit (.eqPreset p k)
  | none, [] => s

/-- The set of a port's lanes now, with the score of its eyes (R51). -/
def eqSet (s : State) (p : Nat) : Nat × List (Nat × Nat × Nat) :=
  let ls := lanesOf s p
  (Config.eyeScore (ls.map (fun q => (s.get COL.LANE.QEYE.WIDTH q.1 q.2, s.get COL.LANE.QEYE.HEIGHT q.1 q.2))),
   ls.map (fun q => (s.get COL.LANE.LSTAT.PRE q.1 q.2, s.get COL.LANE.LSTAT.POST q.1 q.2, s.get COL.LANE.LSTAT.PRESET q.1 q.2)))

/-- The lanes of a port take the coefficients of a set; an override stays (R43). -/
def takeSet (p : Nat) (set : List (Nat × Nat × Nat)) (s : State) : State :=
  forL ((lanesOf s p).zip set) (fun q s =>
    if s.on COL.LANE.LCTL.OVR_EN q.1.1 q.1.2 then s else setCoeff q.1.1 q.1.2 q.2.1 q.2.2.1 q.2.2.2 s) s

/-- The best-scoring set of those tried; the earliest of equals. -/
def bestSet (l : List (Nat × List (Nat × Nat × Nat))) : Nat × List (Nat × Nat × Nat) :=
  l.foldl (fun b q => if b.1 < q.1 || b.2.isEmpty then q else b) (0, [])

/-- The hardware-mode action of the equalization decision (R51): limits met are final; otherwise two redos, and then the best-scoring set is final with a CE record. -/
def eqHardware (p : Nat) (s : State) : State :=
  if eyesMeet s p then recordFinal p s
  else
    let s := modPort p (fun x => { x with tried := x.tried ++ [eqSet s p] }) s
    if (portSt s p).redos < 2 then redoEq p none s
    else report (rec0 p kEqMarginal 0 p) (recordFinal p (takeSet p (bestSet (portSt s p).tried).2 s))

/-- The eye that a lane reports (R48): at 64 GT/s the worst of the three, by the free score, with its code; otherwise the only one. -/
def worstEye (rate : Nat) (e : EyeResult) : Nat × EyeSpan :=
  let score (x : EyeSpan) : Nat := Config.eyeScore [(4 * x.wide.val, 8 * x.high.val)]
  if rate != 5 then (0, e.mid)
  else
    let a := if score e.upper < score e.mid then (1, e.upper) else (0, e.mid)
    if score e.lower < score a.2 then (2, e.lower) else a

/-- QUICK_EYE_DONE (R48, R51): the results are written lane by lane, 4/64 UI and 8 × 2.5 mV to a position; a paused scan resumes, and the equalization decision point is reached. While a lane of the port is being margined the quick scan waits. -/
def execQuickEyeDone (p : PortId) (eyes : List EyeResult) (s : State) : Result :=
  .next (if !(portSt s p).quickEye || (lanesOf s p).any (fun q => (colSt s q.1).margined.contains q.2) then s
    else
      let ls := lanesOf s p
      let wr := fun (q : Nat × Nat × Nat) (s : State) =>
        let (i, c, l) := q
        let e := worstEye (laneRate s c l) (nthD eyes i ⟨⟨0, 0⟩, ⟨0, 0⟩, ⟨0, 0⟩⟩)
        (((s.set COL.LANE.QEYE.WIDTH (4 * e.2.wide.val) c l).set COL.LANE.QEYE.HEIGHT (8 * e.2.high.val) c l).set
          COL.LANE.QEYE.EYE_WORST e.1 c l).set COL.LANE.QEYE.VALID 1 c l
      let s := quickEnd p (forL ((List.range ls.length).zip ls) wr s)
      let (held, s) := reachPoint 2 p s
      if held then setTrn COL.TRN.TRNSTAT.EQ_HELD p 1 s else eqHardware p s)

/-- The LINK-class registers of a port's training slot and lanes take their reset values, and what training had settled goes (R13, R50, R52). -/
def laneLinkReset (p : Nat) (s : State) : State :=
  let s := match slotOf s p with
    | some (c, k, _) => forL [COL.TRN.TRNSTAT.LTSSM, COL.TRN.TRNSTAT.RATE, COL.TRN.TRNSTAT.WIDTH, COL.TRN.TRNSTAT.REVERSED, COL.TRN.TRNSTAT.EQ_HELD] (fun e s => s.clear e c k) s
    | none => s
  let s := forL (lanesOf s p) (fun q s =>
    forL [COL.LANE.LSTAT.PRE, COL.LANE.LSTAT.MAIN, COL.LANE.LSTAT.POST, COL.LANE.LSTAT.PRESET, COL.LANE.LSTAT.POL_INV, COL.LANE.LSTAT.LOCK,
      COL.LANE.LSTAT.FINAL, COL.LANE.RXEQ.CTLE, COL.LANE.RXEQ.DFE1, COL.LANE.RXEQ.ADAPT, COL.LANE.QEYE.WIDTH, COL.LANE.QEYE.HEIGHT,
      COL.LANE.QEYE.EYE_WORST, COL.LANE.QEYE.VALID] (fun e s => s.clear e q.1 q.2) s) s
  modPort p (fun x => { x with rateCap := none, eqFails := [], redos := 0, ranking := [], tried := [], finalRate := 0, precodeTx := false, precodeRx := false,
                               used := [] }) (quickEnd p s)

/-- TRAINING_ATTEMPT_FAIL (R50, R52): ATTEMPTS increments and the port waits in DOWN. -/
def execTrainingAttemptFail (p : PortId) (s : State) : Result :=
  .next (if pstate s p = 2 then
      let s := match slotOf s p with
        | some (c, k, _) => s.bump COL.TRN.TRNSTAT.ATTEMPTS 1 c k
        | none => s
      setPstate p 1 (modPort p (fun x => { x with waitRetry := true }) (laneLinkReset p s))
    else s)

/-- RETRY_INTERVAL_EXPIRY (R50): with RETRY_INT non-zero the wait ends and the port enters Detect. -/
def execRetryIntervalExpiry (p : PortId) (s : State) : Result :=
  .next (if pstate s p = 1 && (portSt s p).waitRetry && (heldDec s 3 p).isNone && getTrn s COL.TRN.TRNCTL.RETRY_INT p != 0 then
      detect p (modPort p (fun x => { x with waitRetry := false }) s)
    else s)

/-- Column sleep may begin (R54). -/
def sleepReady (s : State) (c : Nat) : Bool := bitOf (colSt s c).cfg 2 && (colPorts s c).all (fun p => ltssm s p == 0 || ltssm s p == 10)

/-- COLUMN_SLEEP_ENTRY (R54, R56): with CSLEEP_EN in force and every port of the column in L1.2 or DOWN, entry begins; a second occurrence disables the PLL, the point of no return, unless the conditions no longer hold, and then entry is aborted; a third completes entry, and a wake held since then starts the exit at once (log entry on column sleep). -/
def execColumnSleepEntry (c : ColId) (s : State) : Result :=
  let x := colSt s c
  .next (match s.get COL.STAT.CSTATE c with
    | 2 => if sleepReady s c then setCstate c 3 s else s
    | 3 =>
      if s.on COL.STAT.PLL_LOCK c then (if sleepReady s c then s.set COL.STAT.PLL_LOCK 0 c else setCstate c 2 s)
      else
        let s := perf (64 + c) 0x13 1 none (forL (colPorts s c) (fun p s => if ltssm s p = 10 then setLtssm p 11 s else s) s)
        if x.wakeHeld then setCol c { x with wakeHeld := false } (setCstate c 5 s) else setCstate c 4 s
    | _ => s)

/-- A port leaves L1.2 for L0, with CLKREQ# asserted (R53, R56). -/
def leaveL12 (p : Nat) (s : State) : State := if ltssm s p = 10 ∨ ltssm s p = 11 then toL0 p (s.emit (.clkreq p true)) else s

/-- COLUMN_WAKE (R56): before the point of no return entry is aborted and the port leaves L1.2; after it entry completes first; in sleep the column relocks its PLL. -/
def execColumnWake (c : ColId) (p : PortId) (s : State) : Result :=
  let woken := wantLane p s
  .next (match s.get COL.STAT.CSTATE c with
    | 3 =>
      if s.on COL.STAT.PLL_LOCK c then leaveL12 p (setCstate c 2 s)
      else setCol c { colSt s c with wakeHeld := true } woken
    | 4 => setCstate c 5 woken
    | 5 => woken
    | _ => leaveL12 p s)

/-- COLUMN_PLL_LOCK (R52, R55): STARTING and WAKING pass to ACTIVE; ports that slept in the column return to L1.2 and the woken one leaves it; ports in DOWN that may train do. -/
def execColumnPllLock (c : ColId) (s : State) : Result :=
  .next (if s.get COL.STAT.CSTATE c = 1 ∨ s.get COL.STAT.CSTATE c = 5 then
      let s := (setCstate c 2 s).set COL.STAT.PLL_LOCK 1 c
      forL (colPorts s c) (fun p s =>
        let s := if ltssm s p = 11 then setLtssm p 10 s else s
        let x := portSt s p
        let s := if x.wantTrain then leaveL12 p (setPort p { x with wantTrain := false } s) else s
        detect p (settle p s)) s
    else s)

/-- A port that trains goes on from Detect through Polling to Configuration as time passes (R49): when it does so is a free value. -/
def trainTick (s : State) : State :=
  forN 64 (fun p s =>
    if pstate s p = 2 && (ltssm s p = 1 || ltssm s p = 2) then (if s.freeNat 1 = 1 then setLtssm p (ltssm s p + 1) s else s).spend else s) s

end Sys2Proof.Machine
end

