-- ==== Sys2Proof/Machine/Frame.lean ====
section
/-! DEFINITION. The Frame: packets, ingress buffers, the scheduler, crossings and their replay, plane substitution (R81 to R109, R452). -/

namespace Sys2Proof.Machine

/-- The VOQ list of an opcode (R85): 0 REQ, 1 RWD, 2 RSP, 3 SNP. -/
def listOf : Opc → Nat
  | .memRd | .memRdData | .memRdFwd | .memRdTEE | .memInv | .memInvNT | .memClnEvct | .memSpecRd => 0
  | .pcieMemRd | .pcieCfg | .pcieIo | .pcieAtomic | .d2hReq | .farAtomic => 0
  | .pcieMemWr | .pcieMsg | .memWr | .memWrPtl | .biConflict => 1
  | .biSnpInv | .biSnpData | .h2dReq => 3
  | .biRspI | .biRspS | .biRspE | .memData | .cmp | .cmpS | .cmpE | .biConflictAck => 2
  | .pcieCpl | .d2hRsp | .rspIHitI | .d2hData | .h2dRsp | .h2dData | .atomicRsp | .parked | .poolWrDone => 2

/-- PCIe and CXL.io opcodes, whose ordering the PCI Express table decides (R85). -/
def isPcie : Opc → Bool
  | .pcieMemRd | .pcieCfg | .pcieIo | .pcieAtomic | .pcieMemWr | .pcieMsg | .pcieCpl => true
  | _ => false

/-- CXL.cache opcodes. -/
def isCache : Opc → Bool
  | .d2hReq | .d2hRsp | .rspIHitI | .d2hData | .h2dReq | .h2dRsp | .h2dData => true
  | _ => false

/-- The protocol whose tag reserve an opcode draws from (R70): 0 CXL.io and PCIe, 1 CXL.mem, 2 CXL.cache. -/
def protoOf (o : Opc) : Nat := if isPcie o then 0 else if isCache o then 2 else 1

/-- Requests that expect a response (R69). -/
def expects : Opc → Bool
  | .pcieMemWr | .pcieMsg | .memSpecRd => false
  | o => listOf o == 0 || listOf o == 1 || listOf o == 3

/-- CXL.mem reads (R75). -/
def isRead : Opc → Bool
  | .memRd | .memRdData | .memRdFwd | .memRdTEE => true
  | _ => false

/-- CXL.mem writes (R75). -/
def isWrite : Opc → Bool
  | .memWr | .memWrPtl => true
  | _ => false

/-- Beats of a packet: one header beat, and one for each 64 B of payload (R82). -/
def beats (p : Pkt) : Nat := 1 + ceilDiv p.payload 64

/-- Cost of a packet at an egress (R112). -/
def cost (p : Pkt) : Nat := 32 + 16 * ceilDiv p.payload 16

/-- Buffer units of 16 B: 2 for the header, one for each 16 B of data (R90). -/
def units (p : Pkt) : Nat := 2 + ceilDiv p.payload 16

/-- A bit of FRAME.XPx.ESTAT is set; egresses 0 to 63 are event sources 256 + x, the others have none (R337). -/
def flagX (e : Ent) (x : Nat) (s : State) : State := if x < 64 then flag e (256 + x) s x else s.set e 1 x

/-- The ingress buffer of a crossbar port, in order of arrival. -/
def voq (s : State) (i : Nat) : List VoqEnt := lookD s.frame.voq i []

def setVoq (i : Nat) (l : List VoqEnt) (s : State) : State :=
  { s with frame := { s.frame with voq := if l.isEmpty then del s.frame.voq i else put s.frame.voq i l } }

/-- Unconfirmed crossings of an ingress, oldest first. -/
def crossing (s : State) (i : Nat) : List Cross := lookD s.frame.cross i []

def setCross (i : Nat) (l : List Cross) (s : State) : State :=
  { s with frame := { s.frame with cross := if l.isEmpty then del s.frame.cross i else put s.frame.cross i l } }

/-- The dedicated region and shared pool of an ingress in units, by ROLE and POOL at its port's last entry to TRAINING (R90, R93). Before the first, ROLE and POOL as they stand count, and a port whose ROLE is OFF is carved as a device port or a pool port by POOL (DESIGN CHOICE, log entry on carving). Ports 64 to 71 hold bead credits in their dedicated region (R238); ports 72 to 79 have none. -/
def regionUnits (s : State) (i : Nat) : Nat × Nat :=
  if 72 ≤ i then (0, 16384)
  else if 64 ≤ i then (7488, 8896)
  else
    let p := ownerPort s i
    let (role, pool) := (portSt s p).carved.getD (s.get PORT.CFG.ROLE p, s.on PORT.CFG.POOL p)
    if role = 1 then (5824, 10560)
    else if pool then (5696, 10688) else (6464, 9920)

/-- Every packet that stands in an ingress buffer: waiting, crossing and not yet confirmed (R100), or a parked payload (R155). -/
def buffered (s : State) (i : Nat) : List VoqEnt :=
  (voq s i ++ (crossing s i).flatMap (·.ents)).filter (fun v => 72 ≤ i || !v.p.own) ++ (s.frame.parked.filter (·.2.p.src == i)).map (·.2)

def sumUnits (l : List VoqEnt) : Nat := (l.map (fun v => units v.p)).sum

def sharedUnits (s : State) (i : Nat) : Nat := sumUnits ((buffered s i).filter (·.ext))

def sharedTc (s : State) (i t : Nat) : Nat := sumUnits ((buffered s i).filter (fun v => v.ext && v.p.tc == t))

/-- The response reserve: 1,024 units (R92). -/
def rspReserve : Nat := 1024

/-- Whether a packet fits into the shared pool (R91, R92): its class below MAX, and the free space less the unmet MINs of the other classes and the response reserve at least its size. A packet of the RSP list may use the reserve. -/
def poolRoom (s : State) (i : Nat) (p : Pkt) : Bool :=
  let pool := (regionUnits s i).2
  let used := sharedUnits s i
  let unmet := ((List.range 8).filter (· != p.tc)).map (fun u => s.get FRAME.XP.TCSHARE.MIN i u * 16 - sharedTc s i u)
  let mx := min pool (s.get FRAME.XP.TCSHARE.MAX i p.tc * 16)
  let reserve := if p.lst = 2 then 0 else rspReserve
  sharedTc s i p.tc < mx && used + unmet.sum + reserve + units p ≤ pool

/-- Room at crossbar ports 72 to 79, which have no dedicated region: a class without room stalls its unit, but RSP-list packets are taken into the response reserve (R93). -/
def unitRoom (s : State) (i : Nat) (p : Pkt) : Bool :=
  poolRoom s i p || (p.lst == 2 && sharedUnits s i + units p ≤ (regionUnits s i).2)

/-- Packets for which an internal unit stalls, oldest first. -/
def stalled (s : State) (i : Nat) : List Pkt := lookD s.frame.stalled i []

def setStalled (i : Nat) (l : List Pkt) (s : State) : State :=
  { s with frame := { s.frame with stalled := if l.isEmpty then del s.frame.stalled i else put s.frame.stalled i l } }

/-- Packets for which a unit stalled enter as room comes, in order within their list and class (R93). -/
def unstall (i : Nat) (s : State) : State :=
  (stalled s i).foldl (fun s p =>
    if unitRoom s i p && (stalled s i).all (fun o => o.lst != p.lst || o.tc != p.tc) then setVoq i (voq s i ++ [⟨p, true, 0, 0, true⟩]) s
    else setStalled i (stalled s i ++ [p]) s) (setStalled i [] s)

/-- BUFSTAT shows the occupancy in granules of 256 B, rounded up (R109), once what stalled has entered. -/
def bufSync (i : Nat) (s : State) : State :=
  let s := if (stalled s i).isEmpty then s else unstall i s
  (s.set FRAME.XP.BUFSTAT.DED (ceilDiv (sumUnits ((buffered s i).filter (!·.ext))) 16) i).set
    FRAME.XP.BUFSTAT.SHR (ceilDiv (sharedUnits s i) 16) i

/-- The crossbar ports on which a packet enters and leaves, for a x16 source or destination (R84): `orig` is the originating fabric port, or the crossbar port of an internal source. -/
def destHalf (s : State) (d tc orig : Nat) : Nat := if d < 64 && isX16 s d then d + (tc + orig) % 2 else d

def srcHalf (s : State) (p tc dest : Nat) : Nat := if p < 64 && isX16 s p then p + (tc + dest) % 2 else p

/-- Units of an ingress buffer that are written with inverted check bits (R448): one wrong bit is corrected when the unit is read, two poison the data, and a record shows either. -/
def bufErr (p : Pkt) (i : Nat) (s : State) : State :=
  if !injArmed s 2 i then s
  else
    let r := { rec0 eFrame kEccCe 0 p.ld with addr := if p.toLd then p.dpa else p.addr, akind := if p.toLd then 1 else 2 }
    report (if s.get TST.INJCTL.BITS = 2 then { r with kind := kEccUe, cls := 1 } else r) s

/-- A packet enters an ingress buffer (R86 stage 6): the dedicated region of ports 0 to 71, and the shared pool of ports 72 to 79, where a unit whose class has no room stalls (R91, R93). -/
def enqueue (p : Pkt) (s : State) : State :=
  let dest := destHalf s p.dest p.tc p.orig
  let i := srcHalf s p.src p.tc dest
  let hurt := injArmed s 2 i && s.get TST.INJCTL.BITS == 2 && p.payload != 0
  let p := { p with dest := dest, src := i, uid := s.frame.nextId, poison := p.poison || hurt }
  let s := injected 2 i (1 + ceilDiv p.payload 16) (bufErr p i s)
  let s := { s with frame := { s.frame with nextId := s.frame.nextId + 1 } }
  let s := perf (96 + i) 0x10 1 (some p.tc) (perf (96 + i) 0x11 (beats p) (some p.tc) s)
  bufSync i (if 72 ≤ i then setStalled i (stalled s i ++ [p]) s else setVoq i (voq s i ++ [⟨p, false, 0, 0, p.own⟩]) s)

/-- A packet with no payload and no request behind it; the makers below fill it in. -/
def pkt0 : Pkt :=
  { uid := 0, op := .cmp, lst := 2, src := 0, dest := 0, orig := 0, tc := 0, payload := 0, mid := 0, ruleEp := 0, bindEp := 0,
    unitEp := 0, clvl := 0, poison := false, relaxed := false, rid := 0, tag := 0, addr := 0, mv := .noOp, data := [], be := 0,
    ld := 0, dpa := 0, toLd := false, shared := false, status := .ok, devLoad := none, home := none, ddev := 0, dxp := 0, mirror := false, deriv := false, lp := none, len := 0, gen := 0, ido := false, rqid := 0, own := false }

/-- ALLOC and FREED of an egress and class (R94), keyed by egress * 8 + class. -/
def qdepth (s : State) (e t : Nat) : Nat :=
  wrapSub 12 (lookD s.frame.alloc (e * 8 + t) 0) (lookD s.frame.freed (e * 8 + t) 0)

def addAlloc (e t n : Nat) (s : State) : State :=
  { s with frame := { s.frame with alloc := put s.frame.alloc (e * 8 + t) (wrapAdd 12 (lookD s.frame.alloc (e * 8 + t) 0) n) } }

def addFreed (e t n : Nat) (s : State) : State :=
  { s with frame := { s.frame with freed := put s.frame.freed (e * 8 + t) (wrapAdd 12 (lookD s.frame.freed (e * 8 + t) 0) n) } }

/-- Egress space in beats: 2,048 for the joined halves of a x16 port (R94). -/
def capacity (s : State) (e : Nat) : Nat := if e < 64 && isX16 s e then 2048 else 1024

/-- The egress whose registers and queues serve a crossbar port (R84, R94). -/
def egressOf (s : State) (x : Nat) : Nat := if x < 64 then ownerPort s x else x

/-- The test of R94 for egress e (an owner number) and class t. A Beamlink's egress keeps 64 beats for relay packets (R239). -/
def egressRoom (s : State) (e t : Nat) (relay : Bool) : Bool :=
  let dep := qdepth s e
  let unmet := ((List.range 8).filter (· != t)).map (fun u => s.get FRAME.XP.EGQ.EQMIN e u - dep u)
  let total := ((List.range 8).map dep).sum
  dep t + 9 ≤ s.get FRAME.XP.EGQ.EQMAX e t && total + 9 + unmet.sum + (if 64 ≤ e && e < 72 && !relay then 64 else 0) ≤ capacity s e

/-- An older packet of the same stream that a head may not pass (R85): a PCIe non-posted request waits for older PCIe posted packets, unless it is relaxed or carries ID-Based Ordering under another requester ID; a CXL.cache snoop waits for older GO responses (PRESUMED, the CXL channel ordering). RSP and SNP wait for nothing in REQ or RWD. -/
def mayPass (p o : Pkt) : Bool :=
  !((p.lst == 0 && isPcie p.op && !p.relaxed && o.lst == 1 && isPcie o.op && !(p.ido && o.rqid != p.rqid)) || (p.op == .h2dReq && o.op == .h2dRsp))

def blockedBy (older : List VoqEnt) (p : Pkt) : Bool := older.any (fun o => !mayPass p o.p)

/-- The heads of the lists of VOQ (e, t) of an ingress that may leave, oldest first (R85). -/
def voqHeads (l : List VoqEnt) (e t : Nat) : List VoqEnt :=
  let q := l.filter (fun v => v.p.dest == e && v.p.tc == t)
  let rec go (older : List VoqEnt) : List VoqEnt → List VoqEnt
    | [] => []
    | v :: r =>
      if older.any (fun o => o.p.lst == v.p.lst) || blockedBy older v.p then go (older ++ [v]) r
      else v :: go (older ++ [v]) r
  go [] q

/-- Room at a slice's egress for a REQ-list head: 64 beats of each class stay free for other packets (R166). -/
def sliceRoom (s : State) (v : VoqEnt) : Bool :=
  let d := v.p.dest
  !(72 ≤ d && d < 76 && v.p.lst == 0) || qdepth s d v.p.tc + 9 + 64 ≤ s.get FRAME.XP.EGQ.EQMAX d v.p.tc

/-- DIR_THROTTLE stops REQ packets of named ports to a slice (R167). -/
def heldBack (s : State) (v : VoqEnt) : Bool :=
  let d := v.p.dest
  !sliceRoom s v || (72 ≤ d && d < 76 && v.p.lst == 0 && bitOf (lookD s.throttle (d - 72) 0) v.p.orig)

/-- An ingress is stopped for ON clocks of each PERIOD while a perturbation is set (R447). -/
def perturbed (s : State) (i : Nat) : Bool :=
  let per := s.get TST.PERT.BP.PERIOD i
  per != 0 && s.now / 2 ^ 15 % per < s.get TST.PERT.BP.ON i

/-- A stream in `frame.replay`: its egress's crossbar port and its class. -/
def streamKey (e t : Nat) : Nat := e * 8 + t

/-- The packets of ingress i that may request egress e, by class (R95): the two egresses of a x16 port are two. With `first`, only packets that cross first after a substitution (R102). -/
def offers (s : State) (first : Bool) (i e : Nat) : List VoqEnt :=
  if perturbed s i then []
  else (List.range 8).flatMap (fun t =>
    (voqHeads (voq s i) e t).filter (fun v => egressRoom s (egressOf s e) t v.p.lp.isSome && !heldBack s v
      && !(s.frame.replay.contains (i, streamKey e t)) && (!first || s.frame.first.contains v.p.uid)))

/-- Connections that still run (R97). -/
def busyIngress (s : State) (i : Nat) : Bool := (crossing s i).any (fun c => c.slots != 0)

def busyEgress (s : State) (e : Nat) : Bool :=
  s.frame.cross.any (fun q => q.2.any (fun c => c.slots != 0 && c.e == e))

/-- The first candidate at or after a pointer, counting upwards modulo 80 (R95). -/
def firstFrom (ptr : Nat) (l : List Nat) : Option Nat :=
  match l.filter (fun x => ptr ≤ x) with
  | x :: _ => some x
  | [] => l.head?

/-- The class to send, by round robin after the one last sent to that egress, and its oldest eligible head (R97). -/
def chooseHead (s : State) (first : Bool) (i e : Nat) : Option VoqEnt :=
  let o := offers s first i e
  let last := lookD s.frame.lastTc (i * 80 + e) 7
  ((List.range 8).map (fun k => (last + 1 + k) % 8)).findSome? (fun t => (o.filter (·.p.tc == t)).head?)

/-- Slices that the planes holding a position carry, for injection (R448). -/
def carry (n : Nat) (s : State) : State :=
  let pl := s.get TST.INJCTL.INST
  if (List.range 4).any (fun q => bitsOf (s.get FRAME.PLANESTAT.MAPX) (3 * q) 3 == pl) then injected 1 pl n s else s

/-- The egress set of a fabric port. -/
def egSt (s : State) (x : Nat) : EgSt :=
  lookD s.egs x ⟨List.replicate 8 0, List.replicate 8 0, List.replicate 8 0, 0, 0, none, none, [], [], 0,
    List.replicate 8 0, 0, List.replicate 8 0, 0, List.replicate 8 0, List.replicate 8 0, List.replicate 8 0⟩

def setEg (x : Nat) (g : EgSt) (s : State) : State := { s with egs := put s.egs x g }

/-- Depth samples of R123 up to now: one every 64 ns, and the greatest depth. -/
def sampleEg (x : Nat) (s : State) : State :=
  if 64 ≤ x then s
  else
    let g := egSt s x
    let k := s.ns / 64
    let n := k - g.sampled
    let dep := (List.range 8).map (fun t => qdepth s x t)
    let g := { g with
      sampled := k, cnt := g.cnt + n,
      sum := (List.range 8).map (fun t => nthD g.sum t 0 + n * nthD dep t 0),
      wmax := (List.range 8).map (fun t => max (nthD g.wmax t 0) (nthD dep t 0)) }
    forN 8 (fun t s => s.set FRAME.EG.Q.DEPTH.LIVE (min 2047 (nthD dep t 0)) x t) (setEg x g s)

/-- The credit classes of a packet on a Beamlink, for its header and its data (R237). -/
def beadClass (p : Pkt) : Nat × Nat := match p.lp with | some l => if l.relay then (16, 17) else (p.tc, 8 + p.tc) | none => (p.tc, 8 + p.tc)

/-- A Beamlink's state beside its registers. -/
def blkSt (s : State) (n : Nat) : BlkSt :=
  lookD s.blks n ⟨[], [], 0, 0, 0, [], [], 0, 0, [], [], none, false, 0, 0, none, [], none, [], 0, 0, none⟩

def setBlk (n : Nat) (b : BlkSt) (s : State) : State := { s with blks := put s.blks n b }

def modBlk (n : Nat) (f : BlkSt → BlkSt) (s : State) : State := setBlk n (f (blkSt s n)) s

/-- A Beamlink's cumulative grant of a class grows (R238). -/
def grant (n c k : Nat) (s : State) : State := modBlk n (fun b => { b with grants := put b.grants c (wrapAdd 12 (lookD b.grants c 0) k) }) s

/-- Link credits for a packet go back to the partner (R91, R238). -/
def returnCredit (i : Nat) (p : Pkt) (s : State) : State :=
  if i < 64 then s.emit (.credit (ownerPort s i) p.lst (ceilDiv p.payload 16))
  else if i < 72 then
    let c := beadClass p
    grant (i - 64) c.1 1 (grant (i - 64) c.2 (ceilDiv p.payload 64) s)
  else s

/-- Slots for which a connection is held (R97, R103): a slot is two clocks, and at half rate each beat takes two. -/
def slotsOf (s : State) (p : Pkt) : Nat := if s.on FRAME.PLANESTAT.HALF_RATE then beats p else ceilDiv (beats p) 2

/-- A match is accepted: the packet leaves its VOQ for the crossing, its link credits go back, the egress space is allocated and the connection held (R91, R94, R97). A further header-only packet in a slot with a beat to spare, which the ingress may add, is never added (DESIGN CHOICE, log entry on spare beats). -/
def connect (i e : Nat) (lead only : Bool) (s : State) : State :=
  match chooseHead s only i e with
  | none => s
  | some v =>
    let t := v.p.tc
    let s := setVoq i ((voq s i).filter (fun w => w.p.uid != v.p.uid)) s
    let s := if v.paid then s else returnCredit i v.p s
    let s := setCross i (crossing s i ++ [⟨e, t, slotsOf s v.p, [{ v with paid := true }], false, s.ns⟩]) s
    let o := egressOf s e
    let s := sampleEg o (carry (beats v.p) (addAlloc o t (beats v.p) (sampleEg o s)))
    let f := { s.frame with lastTc := put s.frame.lastTc (i * 80 + e) t, first := without v.p.uid s.frame.first }
    let f := if lead then { f with gptr := put f.gptr e ((i + 1) % 80), aptr := put f.aptr i ((e + 1) % 80) } else f
    { s with frame := f }

/-- One request, grant and accept iteration (R95, R96). -/
def iteration (lead only : Bool) (s : State) : State :=
  let ins := (s.frame.voq.map (·.1)).filter (fun i => !busyIngress s i)
  let wants := ins.map (fun i =>
    let es := ((voq s i).map (·.p.dest)).eraseDups
    (i, es.filter (fun e => !busyEgress s e && !(offers s only i e).isEmpty)))
  let outs := (wants.flatMap (·.2)).eraseDups
  let grants := outs.filterMap (fun e =>
    (firstFrom (lookD s.frame.gptr e 0) ((wants.filter (fun w => w.2.contains e)).map (·.1))).map (fun i => (e, i)))
  let accepts := ins.filterMap (fun i =>
    let es := (List.range 80).filter (fun e => grants.contains (e, i))
    (firstFrom (lookD s.frame.aptr i 0) es).map (fun e => (i, e)))
  forL accepts (fun (i, e) s => connect i e lead only s) s

/-- The three iterations of a slot (R95). -/
def threeTimes (only : Bool) (s : State) : State := iteration false only (iteration false only (iteration true only s))

/-- Running connections move on by one slot. -/
def tickCross (s : State) : State :=
  { s with frame := { s.frame with cross := s.frame.cross.map (fun q => (q.1, q.2.map (fun c => { c with slots := c.slots - 1 }))) } }

/-- SCHEDULER_SLOT (R95 to R99, R102, R326): no grant is given during a plane substitution or in the safe state. After a substitution a slot is given to held replays alone while one of them can cross. -/
def execSchedulerSlot (s : State) : Result :=
  .next (if s.frame.subst.isSome || s.safe then s
    else
      let s := tickCross s
      let s1 := if s.frame.first.isEmpty then s else threeTimes true s
      if s1.frame.first = s.frame.first then threeTimes false s1 else s1)

/-- SHARED_POOL_MOVE (R91, R92, R238): ports 64 to 71 always extend, and a relay packet never moves. The oldest packet of the class in the dedicated region moves when there is room, and returns its credits. -/
def execSharedPoolMove (x : XId) (t : TcId) (s : State) : Result :=
  .next (if (!s.on FRAME.XP.BUFCFG.EXT_EN x && x.val < 64) || 72 ≤ x.val then s
    else
      let may (v : VoqEnt) : Bool := !v.ext && v.p.tc == t.val && (beadClass v.p).1 != 16 && poolRoom s x v.p
      match takeFirst (fun v => may v && !v.p.own) (voq s x) with
      | none =>
        match s.frame.parked.find? (fun q => q.2.p.src == x.val && may q.2) with
        | none => s
        | some (id, v) =>
          bufSync x ((if v.paid then fun s => s else returnCredit x v.p) { s with frame := { s.frame with parked := put s.frame.parked id { v with ext := true, paid := true } } })
      | some (v, _) =>
        let l := (voq s x).map (fun w => if w.p.uid = v.p.uid then { w with ext := true, paid := true } else w)
        bufSync x ((if v.paid then id else returnCredit x v.p) (setVoq x l s)))

/-- The egress queue of an owner number. -/
def egq (s : State) (e : Nat) : List EgEnt := lookD s.frame.egq e []

def setEgq (e : Nat) (l : List EgEnt) (s : State) : State :=
  { s with frame := { s.frame with egq := if l.isEmpty then del s.frame.egq e else put s.frame.egq e l } }

/-- An open request by id. -/
def reqOf (s : State) (rid : Nat) : Option Req := look s.frame.reqs rid

/-- A request completes for the drains of its epochs (R88); a BIConflictAck that waited for its last response follows (R163). -/
def closeReq (rid : Nat) (s : State) : State :=
  let acks := s.frame.acks.filter (·.1 == rid)
  let s := { s with frame := { s.frame with reqs := del s.frame.reqs rid, acks := s.frame.acks.filter (·.1 != rid) } }
  forL acks (fun a s => enqueue a.2 s) s

/-- One response of a request is in; the request completes with its last (R88). -/
def answerReq (rid : Nat) (s : State) : State :=
  match reqOf s rid with
  | none => s
  | some r => if r.left ≤ 1 then closeReq rid s else { s with frame := { s.frame with reqs := put s.frame.reqs rid { r with left := r.left - 1 } } }

/-- Open a request: it counts towards its drains from its enqueue (R88). -/
def openReq (r : Req) (s : State) : Nat × State :=
  let id := s.frame.nextId
  (id, { s with frame := { s.frame with nextId := id + 1, reqs := put s.frame.reqs id r } })

/-- The level of a queue of depth d under CMARK, in units of 2 beats (R106). -/
def markLevel (s : State) (e d : Nat) : Nat :=
  if d ≤ 2 * s.get FRAME.XP.CMARK.T1 e then 0
  else if d ≤ 2 * s.get FRAME.XP.CMARK.T2 e then 1
  else if d ≤ 2 * s.get FRAME.XP.CMARK.T3 e then 2 else 3

/-- Shaper and policer buckets refill with fabric time, up to their depth (R115, R116). Tokens count 1/16 byte times 2^-16. -/
def refill (x : Nat) (s : State) : State :=
  let g := egSt s x
  let dt := s.now - g.refilled
  let up (l : List Nat) (rate depth : Ent) : List Nat :=
    (List.range 8).map (fun t => min (64 * s.get depth x t * 2 ^ 20) (nthD l t 0 + dt * s.get rate x t))
  setEg x { g with refilled := s.now, tok := up g.tok FRAME.EG.Q.SHAPE.RATE FRAME.EG.Q.SHAPE.DEPTH,
                   pol := up g.pol FRAME.EG.Q.POLICE.RATE FRAME.EG.Q.POLICE.DEPTH } s

/-- The policer measures a packet that joins queue t: in profile it pays its cost, out of profile it is counted and, if a request, marked at level 3 (R116). -/
def police (x : Nat) (p : Pkt) (s : State) : Pkt × State :=
  if 64 ≤ x || !s.on FRAME.EG.SCHCFG.POLICE_EN x || s.get FRAME.EG.Q.POLICE.RATE x p.tc = 0 then (p, s)
  else
    let s := refill x s
    let g := egSt s x
    let c := cost p * 2 ^ 20
    if c ≤ nthD g.pol p.tc 0 then (p, setEg x { g with pol := setNth g.pol p.tc (nthD g.pol p.tc 0 - c) } s)
    else (if p.lst != 2 then { p with clvl := 3 } else p, perf (176 + x) 0x17 1 (some p.tc) (s.bump FRAME.EG.Q.POLCNT.COUNT 1 x p.tc))

/-- CLVL is kept with the request's tag (R106). -/
def keepClvl (p : Pkt) (s : State) : State :=
  match reqOf s p.rid with
  | some r => { s with frame := { s.frame with reqs := put s.frame.reqs p.rid { r with clvl := max r.clvl p.clvl } } }
  | none => s

/-- Egress e leads back to the originator at crossbar port x. The Beamlinks count as one, since a stream may have moved to another link (R244). -/
def backAt (s : State) (x e : Nat) : Bool := egressOf s x == e || (64 ≤ x && x < 72 && 64 ≤ e && e < 72)

/-- A response takes the tag of its originator, the congestion level kept with it, and where it goes on a cascade (R86, R106). -/
def addressRsp (s : State) (e : Nat) (p : Pkt) : Pkt :=
  match reqOf s p.rid with
  | some r => if p.lst = 2 && backAt s r.x e then { p with tag := r.tag, clvl := r.clvl, ddev := r.odev, dxp := r.oxp } else p
  | none => p

/-- The last response of a host's read adds its latency to the views of its port (R354). -/
def readDone (r : Req) (s : State) : State :=
  if r.left ≤ 1 && (isRead r.op || r.op == .pcieMemRd) && r.mid / 4096 = 0 then
    perfView (r.mid % 64) 0x16 (s.ns - r.time) (some r.tc) (perfView (r.mid % 64) 0x17 1 (some r.tc) s)
  else s

/-- A line of a posted write to a home is still to cross to its pool, or during MIRROR to the migration's destination (R88, R143). -/
def lineCrosses (s : State) (rid dpa : Nat) : Bool :=
  let is (v : VoqEnt) : Bool := v.p.lst == 1 && v.p.dpa == dpa && 72 ≤ v.p.orig && v.p.orig < 76 && (match v.p.home with | some m => m.req == rid | none => false)
  s.frame.voq.any (fun q => q.2.any is) || s.frame.cross.any (fun q => q.2.any (fun c => c.ents.any is))

/-- The last crossing of one line of a posted write is accepted; after the last line the write is completed for the drains (R88). -/
def lineCrossed (rid : Nat) (s : State) : State :=
  match reqOf s rid with
  | none => s
  | some r => { s with frame := { s.frame with reqs := put s.frame.reqs rid { r with wr := r.wr - 1, done := r.done || r.wr == 1 } } }

/-- A packet joins its egress queue: marked, policed and timed; a response at its originator's egress, and each crossing of a posted request at its target, count towards the request's completion for the drains (R88, R106, R116, R123). -/
def joinEgress (e : Nat) (p : Pkt) (s : State) : State :=
  let p := if p.lst != 2 && (e < 64 || 72 ≤ e) then { p with clvl := max p.clvl (markLevel s e (qdepth s e p.tc)) } else addressRsp s e p
  let (p, s) := police e p s
  let s := if p.lst ≤ 1 then keepClvl p s else s
  let s := if p.lst != 2 && p.clvl != 0 then perf (176 + e) 0x13 1 (some p.tc) (if p.clvl = 3 then perf (176 + e) 0x14 1 (some p.tc) s else s) else s
  let s := sampleEg e (setEgq e (egq s e ++ [⟨p, s.ns⟩]) s)
  let s := match p.home with | some m => if p.lst = 1 && 72 ≤ p.orig && p.orig < 76 && !lineCrosses s m.req p.dpa then lineCrossed m.req s else s | none => s
  match reqOf s p.rid with
  | none => s
  | some r =>
    if p.lst = 2 then
      (if backAt s r.x e then answerReq p.rid (readDone r (mark p.rid (fun x => { x with poison := x.poison || p.poison, clvl := p.clvl }) s)) else s)
    else if r.posted && !p.deriv then answerReq p.rid s else s

/-- CROSSING_COMPLETE (R100): the oldest live crossing of the ingress is confirmed; behind a failed one of its stream it is discarded and held for the replay. -/
def execCrossingComplete (i : XId) (s : State) : Result :=
  .next (match takeFirst (fun c => !c.dead) (crossing s i) with
    | none => s
    | some (c, rest) =>
      if s.frame.replay.contains (i.val, streamKey c.e c.tc) then
        setCross i ((crossing s i).map (fun d => if d.ents.map (·.p.uid) = c.ents.map (·.p.uid) then { d with dead := true, slots := 0 } else d)) s
      else
        let s := setCross i rest s
        bufSync i (forL c.ents (fun v s => joinEgress (egressOf s c.e) v.p s) s))

/-- Crossings that satisfy `f` go back to the head of their ingress's VOQs in their order, and their egress space is free again. -/
def uncross (i : Nat) (f : Cross → Bool) (s : State) : State :=
  let mine := (crossing s i).filter f
  let s := forL mine (fun c s => forL c.ents (fun v s => addFreed (egressOf s c.e) c.tc (beats v.p) s) s) s
  setVoq i (mine.flatMap (·.ents) ++ voq s i) (setCross i ((crossing s i).filter (fun c => !f c)) s)

/-- The replay of a stream (R100): the failed packet and the later discarded ones cross again; REPLAYCNT and REPLAY show it at the egress. -/
def replayOf (i e t : Nat) (s : State) : State :=
  let s := uncross i (fun c => c.dead && c.e == e && c.tc == t) s
  let s := { s with frame := { s.frame with replay := s.frame.replay.filter (· != (i, streamKey e t)) } }
  flagX FRAME.XP.ESTAT.REPLAY e (s.bump FRAME.XP.REPLAYCNT.COUNT 1 e)

/-- REPLAY_REQUEST (R100): from an egress that holds a failed crossing of the stream. -/
def execReplayRequest (i : XId) (e : XId) (t : TcId) (s : State) : Result :=
  .next (if s.frame.replay.contains (i.val, streamKey e t) then replayOf i e t s else s)

/-- The state of a plane: 0 ACTIVE, 1 SPARE, 2 FENCED (R109). -/
def planeEnt (p : Nat) : Ent :=
  nthD [FRAME.PLANESTAT.P0, FRAME.PLANESTAT.P1, FRAME.PLANESTAT.P2, FRAME.PLANESTAT.P3] p FRAME.PLANESTAT.P4

def planeState (s : State) (p : Nat) : Nat := s.get (planeEnt p)

/-- A plane's state changes, in PLANESTAT and in the unit table; FCNT counts the FENCED planes, at most 3. -/
def setPlane (p v : Nat) (s : State) : State :=
  let s := (s.set (planeEnt p) v).set FLT.UNIT.STATE v 0 p
  s.set FRAME.PLANESTAT.FCNT (min 3 ((List.range 5).filter (fun q => planeState s q == 2)).length)

/-- The plane at a traffic position, and the position of a plane (R81). -/
def planeAt (s : State) (pos : Nat) : Nat := bitsOf (s.get FRAME.PLANESTAT.MAPX) (3 * pos) 3

def posOf (s : State) (pl : Nat) : Option Nat := (List.range 4).find? (fun q => planeAt s q == pl)

def setMap (pos pl : Nat) (s : State) : State :=
  let m := s.get FRAME.PLANESTAT.MAPX
  s.set FRAME.PLANESTAT.MAPX (m - planeAt s pos * 8 ^ pos + pl % 8 * 8 ^ pos)

/-- The spare plane, while one stands by. -/
def sparePlane (s : State) : Option Nat := (List.range 5).find? (fun q => planeState s q == 1)

/-- Matches accepted in the slot that a substitution stops are cancelled; pointers keep their values (R99). -/
def cancelSlot (s : State) : State := forL (s.frame.cross.map (·.1)) (fun i s => uncross i (fun c => !c.dead && c.at_ == s.ns) s) s

/-- Steps 1 to 4 of R102: grants stop, matches of the slot are cancelled, crossings with errors stay held, the position maps onto the spare, which receives a new epoch; the old plane, if it still held the position, is FENCED. -/
def startSubst (old : Option Nat) (pos new : Nat) (s : State) : State :=
  let s := bringIn 0 (old.getD new) new pos (cancelSlot s)
  let s := match old with | some o => setPlane o 2 s | none => s
  let s := setMap pos new (setPlane new 0 s)
  let s := (s.set FRAME.PLANESTAT.SUBST 1).set FRAME.PLANEERR.EPOCH (s.get FLT.UNIT.EPOCH 0 new) new
  { s with frame := { s.frame with subst := some ⟨old.getD new, new, pos, s.ns, []⟩ } }

/-- A traffic plane fails with no spare: half rate, or DOUBLE_FAIL where the Frame already runs at half rate (R103, R320). -/
def halfRate (pl : Nat) (s : State) : State :=
  if s.on FRAME.PLANESTAT.HALF_RATE then report (rec0 eFrame kDoubleFail 2 pl) (noteSpare (fenceUnit 0 pl (setPlane pl 2 s)))
  else
    match posOf s pl with
    | none => s
    | some pos =>
      let s := setMap pos 7 (setPlane pl 2 s)
      let s := setSpare 0 pl 1 (s.set FRAME.PLANESTAT.HALF_RATE 1)
      raise 175 0 0 (report (rec0 eFrame kHalfRate 1 pl) (noteSpare s))

/-- A trigger for another plane during a substitution waits for its end (R104). -/
def waitSubst (b : Subst) (pl : Nat) (hard : Bool) (s : State) : State :=
  if b.old = pl || b.new = pl || b.waiting.contains (pl, hard) then s
  else { s with frame := { s.frame with subst := some { b with waiting := b.waiting ++ [(pl, hard)] } } }

/-- A hard failure of a plane (R100, R101, R104): the predictive decision held for it, if any, is overtaken (R334). -/
def planeFail (pl : Nat) (s : State) : State :=
  let s := closeDec 5 (unitSrc 0 pl) s
  match s.frame.subst with
  | some b => waitSubst b pl true s
  | none =>
    match posOf s pl with
    | none => s
    | some pos =>
      match sparePlane s with
      | some n => startSubst (some pl) pos n s
      | none => halfRate pl s

/-- The unit name that a decision of function 5 carries as OBJ: the error source of the unit (R318). -/
def spareObj (cls i : Nat) : Nat := unitSrc cls i

/-- A predictive trigger for a plane: during a substitution it waits, with no spare it is recorded as NO_SPARE, otherwise it reaches the decision point of bit 5 (R101, R328, R330). -/
def planePredict (pl : Nat) (s : State) : State :=
  if (heldDec s 5 (spareObj 0 pl)).isSome then s
  else match s.frame.subst with
  | some b => waitSubst b pl false s
  | none =>
    match sparePlane s with
    | none => report { rec0 eFlt kNoSpare 0 pl with detail := pl } s
    | some _ =>
      let (held, s) := reachPoint 5 (spareObj 0 pl) s
      if held then s else planeFail pl s

/-- Errors of a plane within the last microsecond (R101). -/
def recentErr (s : State) (pl : Nat) : List Nat := (lookD s.frame.planeErr pl []).filter (fun t => s.ns < t + 1000)

/-- CROSSING_ERROR (R82, R100, R101): the crossing fails on a plane, its packets are held for replay, the plane's errors are counted and the triggers of substitution tested. -/
def execCrossingError (i : XId) (plane : Fin 5) (stale : Bool) (s : State) : Result :=
  .next (match takeFirst (fun c => !c.dead) (crossing s i) with
    | none => s
    | some (c, _) =>
      let hit (v : VoqEnt) : VoqEnt := { v with failPlane := plane, fails := if v.failPlane = plane.val && v.fails != 0 then v.fails + 1 else 1 }
      let c' := { c with dead := true, slots := 0, ents := c.ents.map hit }
      let s := setCross i ((crossing s i).map (fun d => if d.ents.map (·.p.uid) = c.ents.map (·.p.uid) then c' else d)) s
      let s := if stale then flagX FRAME.XP.ESTAT.STALE c.e (s.bump FRAME.XP.STALECNT.COUNT 1 c.e) else s
      let s := { s with frame := { s.frame with
        replay := if s.frame.replay.contains (i.val, streamKey c.e c.tc) then s.frame.replay else s.frame.replay ++ [(i.val, streamKey c.e c.tc)],
        planeErr := put s.frame.planeErr plane (recentErr s plane ++ [s.ns]) } }
      let s := s.bump FRAME.PLANEERR.COUNT 1 plane
      let s := perf (96 + i) 0x18 1 (some c.tc) s
      let s := report { rec0 (ePlane + plane) kCrossCe 0 plane with epoch := s.get FLT.UNIT.EPOCH 0 plane } s
      let hard := c'.ents.any (fun v => 3 ≤ v.fails) || 16 < (recentErr s plane).length
      let thr := s.get FRAME.PLANECFG.SUB_THRESH
      if hard && (posOf s plane).isSome then
        planeFail plane (report { rec0 (ePlane + plane) kUnitFail 1 plane with epoch := s.get FLT.UNIT.EPOCH 0 plane } s)
      else if thr != 0 && s.get FRAME.PLANEERR.COUNT plane = thr && (posOf s plane).isSome then planePredict plane s
      else s)

/-- The standby plane is held as FENCED (R82, R320). -/
def fenceSpare (p : Nat) (s : State) : State :=
  let s := fenceUnit 0 p (setPlane p 2 s)
  noteSpare (setSpare 0 p 1 (s.set FRAME.PLANESTAT.NO_SPARE 1))

/-- SPARE_PLANE_CHECK (R82): a spare that fails its pattern is held as FENCED. -/
def execSparePlaneCheck (ok : Bool) (s : State) : Result :=
  .next (match sparePlane s with
    | none => s
    | some p => if ok then s else report { rec0 (ePlane + p) kSpareBad 0 p with epoch := s.get FLT.UNIT.EPOCH 0 p } (fenceSpare p s))

/-- PLANE_SUB_COMMAND (R101, R104): a write of PLANECTL with SUB at 1. -/
def execPlaneSubCommand (v : Word) (s : State) : Result := atReg FRAME.PLANECTL.SUB (fun s =>
  let w := v.toNat
  let pl := bitsOf w 0 3
  let s := s.set FRAME.PLANECTL.PLANE pl
  .next (if !bitOf w 3 then s
    else
      match sparePlane s, posOf s pl with
      | some n, some pos =>
        if s.frame.subst.isSome || s.on FRAME.PLANESTAT.NO_SPARE || 4 < pl || planeState s pl != 0 then s.set FRAME.PLANESTAT.SUB_ERR 1
        else startSubst (some pl) pos n s
      | _, _ => s.set FRAME.PLANESTAT.SUB_ERR 1)) s

/-- Every held replay of the Frame stands at the head of its VOQ, and crosses first (R102). -/
def replaysFirst (s : State) : State :=
  let uids := s.frame.cross.flatMap (fun q => (q.2.filter (·.dead)).flatMap (fun c => c.ents.map (·.p.uid)))
  let s := forL s.frame.replay (fun q s => replayOf q.1 (q.2 / 8) (q.2 % 8) s) s
  { s with frame := { s.frame with first := uids } }

/-- A substitution ends after a stall of `n` ns (R102 to R104): the stall is recorded, grants resume with held replays first, and triggers that waited are handled in turn: a hard failure under R103, a predictive one at its decision point. -/
def substDone (b : Subst) (n : Nat) (s : State) : State :=
  let s := (s.set FRAME.SUBSTAT.LAST_NS n).set FRAME.SUBSTAT.MAX_NS (max n (s.get FRAME.SUBSTAT.MAX_NS))
  let s := s.bump FRAME.SUBSTAT.COUNT
  let s := (s.set FRAME.PLANESTAT.SUBST 0).setB FRAME.PLANESTAT.NO_SPARE (sparePlane s).isNone
  let s := s.setB FRAME.PLANESTAT.HALF_RATE ((List.range 4).any (fun q => planeAt s q == 7))
  let s := replaysFirst (raise 175 0 0 { s with frame := { s.frame with subst := none } })
  forL b.waiting (fun q s => if q.2 then planeFail q.1 s else planePredict q.1 s) s

/-- SUBSTITUTION_COMPLETE (R102 to R104). -/
def execSubstitutionComplete (stallNs : Nat) (s : State) : Result :=
  .next (match s.frame.subst with
    | none => s
    | some b => substDone b (min 4095 stallNs) (s.reach (b.start + stallNs)))

/-- TCSHARE_WRITE (R92). -/
def execTcshareWrite (x : XId) (t : TcId) (v : Word) (s : State) : Result := atReg FRAME.XP.TCSHARE.MIN (fun s =>
  let mn := bitsOf v.toNat 0 11
  let sum := ((List.range 8).map (fun u => if u = t.val then mn else s.get FRAME.XP.TCSHARE.MIN x u)).sum
  .next (if sum * 16 + rspReserve ≤ (regionUnits s x).2 then
      (s.set FRAME.XP.TCSHARE.MIN mn x t).set FRAME.XP.TCSHARE.MAX (bitsOf v.toNat 11 11) x t
    else flagX FRAME.XP.ESTAT.CFG_ERR x s)) s

/-- EGQ_WRITE (R94): the registers of the odd half of a x16 port are ignored. -/
def execEgqWrite (x : XId) (t : TcId) (v : Word) (s : State) : Result := atReg FRAME.XP.EGQ.EQMIN (fun s =>
  let mn := bitsOf v.toNat 0 11
  let mx := bitsOf v.toNat 11 11
  let sum := ((List.range 8).map (fun u => if u = t.val then mn else s.get FRAME.XP.EGQ.EQMIN x u)).sum
  .next (if x.val < 64 && behindX16 s x then s
    else if mn ≤ mx && sum ≤ capacity s x then (s.set FRAME.XP.EGQ.EQMIN mn x t).set FRAME.XP.EGQ.EQMAX mx x t
    else flagX FRAME.XP.ESTAT.CFG_ERR x s)) s

/-- CMARK_WRITE (R107). -/
def execCmarkWrite (x : XId) (v : Word) (s : State) : Result := atReg FRAME.XP.CMARK.T1 (fun s =>
  let w := v.toNat
  let t1 := bitsOf w 0 10
  let t2 := bitsOf w 10 10
  let t3 := bitsOf w 20 10
  .next (if t1 ≤ t2 && t2 ≤ t3 then ((s.set FRAME.XP.CMARK.T1 t1 x).set FRAME.XP.CMARK.T2 t2 x).set FRAME.XP.CMARK.T3 t3 x
    else flagX FRAME.XP.ESTAT.CFG_ERR x s)) s

/-- FLIT_CHECK_FAIL (R83): the link layer replays the flit and nothing enters the Frame. -/
def execFlitCheckFail (p : PortId) (s : State) : Result := .next (perf p 0x12 1 none (s.emit (.linkReplay p)))

end Sys2Proof.Machine
end

