-- ==== Sys2Proof/Machine/Keys.lean ====
section
/-! DEFINITION. Keys: generation, the LD keys, and which key a line of pool memory is under (R258 to R263). A key is named by the number of its DRBG draw, and no meaning reads more of it. -/

namespace Sys2Proof.Machine

/-- A new key from the DRBG (R258). -/
def newKey (s : State) : Nat × State :=
  let k := s.sec.draws + 1
  (k, { s with sec := { s.sec with draws := k } })

/-- KSTAT shows how many LD keys are held (R292). -/
def keySync (s : State) : State :=
  (s.set SEC.KSTAT.LDKEYS s.sec.ldKeys.length).setB SEC.KSTAT.DOMAIN s.sec.domain.isSome

/-- LD n takes a key: created or replaced, so GEN increments (R261). -/
def takeLdKey (n key : Nat) (s : State) : State :=
  let s := { s with sec := { s.sec with ldKeys := put s.sec.ldKeys n key } }
  keySync ((s.set SEC.LDKEY.VALID 1 n).set SEC.LDKEY.GEN (s.get SEC.LDKEY.GEN n + 1) n)

/-- The key of LD n is destroyed; GEN stays (R261). -/
def dropLdKey (n : Nat) (s : State) : State :=
  let s := { s with sec := { s.sec with ldKeys := del s.sec.ldKeys n } }
  keySync (s.set SEC.LDKEY.VALID 0 n)

/-- A key sealed for a record under the present SEALGEN (R260). -/
def sealKey (s : State) (slot : KeySlot) (key gen : Nat) : SealedKey := ⟨slot, key, gen, s.fuses.sealGen⟩

def rotSt (s : State) (r : Nat) : Option RotSt := if r = 0 then s.sec.rot0 else s.sec.rot1

def setRot (r : Nat) (x : Option RotSt) (s : State) : State :=
  if r = 0 then { s with sec := { s.sec with rot0 := x } } else { s with sec := { s.sec with rot1 := x } }

/-- The rotation slot that holds an LD, from ARM until it is IDLE again. -/
def rotOf (s : State) (ld : Nat) : Option Nat :=
  (List.range 2).find? (fun r => match rotSt s r with | some x => x.ld == ld | none => false)

/-- PHASE of a rotation slot: 0 IDLE, 1 ARMED, 2 HELD, 3 REKEY, 4 DRAIN; a change is an event of source 13. -/
def rotPhase (s : State) (r : Nat) : Nat := s.get SEC.ROT.RSTAT.PHASE r

def setRotPhase (r v : Nat) (s : State) : State := setState SEC.ROT.RSTAT.PHASE v 13 s r

/-- A block of 64 KiB under rotation is being rewritten: other requests to it wait at the pool port (R268). -/
def rotHolds (s : State) (ld dpa : Nat) : Bool :=
  (List.range 2).any (fun r => match rotSt s r with
    | some x => x.ld == ld && (match x.copying with | some c => c.b ≤ dpa && dpa < c.b + 65536 | none => false)
    | none => false)

/-- Generation marks from here on name the incoming key of a rotation slot, for the copies that a rotation writes. -/
def rotGen : Nat := 2 ^ 17

/-- The placement that a packet of an older key generation was translated to, while it drains (R143, R221): the LD's former key and LD-ID. -/
def formerOf (s : State) (ld gen : Nat) : Option (Nat × Nat) :=
  if gen = s.get SEC.LDKEY.GEN ld || rotGen ≤ gen then none else look s.bind.former ld

/-- The key of a line of an LD: below the cursor of its rotation the incoming key, otherwise the LD's own, or its former one for a packet that drains (R263, R270). 0 where the LD has none. -/
def lineKey (s : State) (ld dpa gen : Nat) : Nat :=
  let old := formerOf s ld gen
  let own := match old with | some f => f.1 | none => lookD s.sec.ldKeys ld 0
  let rot := (List.range 2).filterMap (fun r => match rotSt s r with
    | some x => if x.ld = ld && x.key != 0 && (gen == rotGen + r || (gen < rotGen && x.migDone == old.isSome && dpa < s.get SEC.ROT.RCURSOR.OFFSET r)) then some x.key else none
    | none => none)
  rot.headD own

/-- The tweak of a line (R263). -/
def tweakOf (ld dpa : Nat) : Nat := dpa / 64 % 2 ^ 58 + ld % 2 ^ 12 * 2 ^ 58

/-- Encryption of a line under a key (R263). -/
def encrypt (key ld dpa : Nat) (d : Line) : Cipher := ⟨key, tweakOf ld dpa, d⟩

/-- Decryption under a key and tweak: the plaintext where both are those of the encryption, and otherwise a free value (R261, R263). -/
def decrypt (key ld dpa : Nat) (c : Cipher) : Line :=
  if c.key = key ∧ c.tweak = tweakOf ld dpa then c.plain else Config.garble key (tweakOf ld dpa) c.key c.tweak c.plain

end Sys2Proof.Machine
end

