-- ==== Sys2Proof/Machine/Bind.lean ====
section
/-! DEFINITION. Binding: host decoders and translation, logical devices, staging and the checks of a change (R125 to R136, R148). The commit point and what other units do at it stand in Commit.lean. -/

namespace Sys2Proof.Machine

/-- 256 MiB, the unit of bases and sizes. -/
def mib256 : Nat := 2 ^ 28

/-- Valid binding entries and valid LDs. -/
def validBt (s : State) : List Nat := s.idxOn BIND.BT.VALID

def validLd (s : State) : List Nat := s.idxOn BIND.LD.VALID

/-- The binding entry of (host, vPPB) (R126). -/
def btOf (s : State) (host vppb : Nat) : Option Nat :=
  (validBt s).find? (fun j => s.get BIND.BT.HOST j == host && s.get BIND.BT.VPPB j == vppb)

/-- The valid bindings of an LD. -/
def ldBindings (s : State) (n : Nat) : List Nat :=
  (validBt s).filter (fun j => s.get BIND.BT.KIND j == 0 && s.get BIND.BT.TARGET j == n)

/-- The valid LDs of a pool port. -/
def portLds (s : State) (p : Nat) : List Nat := (validLd s).filter (fun n => s.get BIND.LD.POOL n == p)

/-- The vPPB to which a data mover function is bound, as (host, vPPB). -/
def fnBinding (s : State) (f : Nat) : Option (Nat × Nat) :=
  ((validBt s).find? (fun j => s.get BIND.BT.KIND j == 2 && s.get BIND.BT.TARGET j == f)).map
    (fun j => (s.get BIND.BT.HOST j, s.get BIND.BT.VPPB j))

/-- The device ports bound to a host's VCS. -/
def vcsPorts (s : State) (host : Nat) : List Nat :=
  ((validBt s).filter (fun j => s.get BIND.BT.KIND j == 1 && s.get BIND.BT.HOST j == host)).map (fun j => s.get BIND.BT.TARGET j)

/-- The host to which a device port is bound whole. -/
def portHost (s : State) (p : Nat) : Option Nat :=
  ((validBt s).find? (fun j => s.get BIND.BT.KIND j == 1 && s.get BIND.BT.TARGET j == p)).map (fun j => s.get BIND.BT.HOST j)

def isUp (s : State) (p : Nat) : Bool := pstate s p == 3

/-- A binding of a shared LD to a host whose port came UP last without back-invalidate is suspended, until the port next reaches UP with BI at 1 (R68). -/
def suspended (s : State) (j : Nat) : Bool :=
  s.get BIND.BT.KIND j == 0 && s.on BIND.LD.SHARE (s.get BIND.BT.TARGET j) && (portSt s (s.get BIND.BT.HOST j)).biLost

/-- The device ports of a virtual switch, other than p, that hold CXL.cache: a port holds it from UP until it is DOWN again (R67). -/
def cachePorts (s : State) (h p : Nat) : List Nat :=
  (vcsPorts s h).filter (fun q => q != p && 3 ≤ pstate s q && s.on PORT.STAT.CACHE q)

/-- CXL.cache is withheld from a port, with an event (R67). -/
def cacheDenied (p : Nat) (s : State) : State := raise (64 + p) 0 1 ((s.set PORT.STAT.CACHE 0 p).set PORT.STAT.CACHE_DENIED 1 p)

/-- A bound device port that is UP may be the seventeenth of its virtual switch with CXL.cache: the ports that reached UP first keep it (R67; log entry on CXL.cache). -/
def cacheTrim (h : Nat) (s : State) : State :=
  let late (p : Nat) : Bool := 16 ≤ ((cachePorts s h p).filter (fun q => (portSt s q).upNo < (portSt s p).upNo)).length
  forL ((cachePorts s h 64).filter late) cacheDenied s

/-- The state of an LD that is neither FAILED nor MIGRATING (R131): 0 IDLE, 1 BOUND, 3 SUSPENDED. -/
def ldRest (s : State) (n : Nat) : Nat :=
  let b := ldBindings s n
  if !s.on BIND.LD.VALID n || b.isEmpty then 0 else if b.all (suspended s) then 3 else 1

/-- LD n shows its state again; FAILED and MIGRATING stay. -/
def restate (n : Nat) (s : State) : State :=
  if s.on BIND.LD.VALID n && (s.get BIND.LD.STATE n == 2 || s.get BIND.LD.STATE n == 4) then s
  else s.set BIND.LD.STATE (ldRest s n) n

def restateAll (s : State) : State := forL (validLd s) restate s

/-- A power of two at most `2 ^ m` times `base`: its exponent. -/
def powerOver (base m v : Nat) : Option Nat := (List.range (m + 1)).find? (fun k => v == base * 2 ^ k)

/-- Whether a decoder's fields are in the table of R127. -/
def hdmFieldsOk (g : HdmProg) : Bool :=
  (powerOver 1 4 g.ways).isSome && (powerOver 256 6 g.gran).isSome && g.base.toNat % mib256 == 0 && g.base.toNat < 2 ^ 52
    && 0 < g.size.toNat && g.size.toNat % (mib256 * g.ways) == 0 && g.targets.length == g.ways

def decRange (s : State) (p d : Nat) : Nat × Nat := (s.get BIND.DEC.BASE p d * mib256, s.get BIND.DEC.SIZE p d * mib256)

/-- Overlap with another committed decoder of the port. -/
def hdmOverlap (s : State) (p d : Nat) (g : HdmProg) : Bool :=
  (List.range 32).any (fun e => e != d && s.on BIND.DEC.COMMITTED p e &&
    (let r := decRange s p e
     r.1 < g.base.toNat + g.size.toNat && g.base.toNat < r.1 + r.2))

/-- The view of a decoder takes a programming (R148). -/
def hdmShow (p d : Nat) (g : HdmProg) (s : State) : State :=
  let s := (s.set BIND.DEC.IW ((powerOver 1 4 g.ways).getD 0) p d).set BIND.DEC.IG ((powerOver 256 6 g.gran).getD 0) p d
  let s := (s.set BIND.DEC.BASE (g.base.toNat / mib256) p d).set BIND.DEC.SIZE (g.size.toNat / mib256) p d
  let tg := (List.range 16).foldl (fun a k => a + (nthD (g.targets.map (·.2.val)) k 0) * 2 ^ (8 * k)) 0
  s.set BIND.DEC.TARGET tg p d

/-- HDM_COMMIT (R127, R128): a host programs a decoder of its upstream port, or of an LD function behind a vPPB. A locked decoder ignores it; a commit outside the limits is refused with Error Not Committed and changes nothing else. -/
def execHdmCommit (p : PortId) (t : HdmTarget) (g : HdmProg) (s : State) : Result :=
  .next (if s.get PORT.CFG.ROLE p != 1 then s
    else
      match t with
      | .upstream d =>
        let k := p.val * 32 + d.val
        if s.on BIND.DEC.LOCKED p d then s
        else if !g.commit then hdmShow p d g (s.set BIND.DEC.COMMITTED 0 p d)
        else if hdmFieldsOk g && !hdmOverlap s p d g && g.targets.all (fun q => q.1 == p) then
          let s := { s with bind := { s.bind with hdmErr := without k s.bind.hdmErr } }
          (hdmShow p d g (s.set BIND.DEC.COMMITTED 1 p d)).setB BIND.DEC.LOCKED g.lock p d
        else { s with bind := { s.bind with hdmErr := insertNat k s.bind.hdmErr } }
      | .ldFn v d =>
        let k := (p.val * 256 + v.val) * 16 + d.val
        match btOf s p v with
        | none => s
        | some j =>
          let n := s.get BIND.BT.TARGET j
          if s.get BIND.BT.KIND j != 0 || (2 ≤ d.val && !s.on BIND.LD.MLD n) then s
          else
            match look s.bind.fnDec k with
            | some old => if old.commit && old.lock then s else prog n k s
            | none => prog n k s)
where
  prog (n k : Nat) (s : State) : State :=
    if g.commit && !((powerOver 1 4 g.ways).isSome && (powerOver 256 6 g.gran).isSome && g.base.toNat % mib256 == 0 && 0 < g.size.toNat) then
      { s with bind := { s.bind with hdmErr := insertNat (2 ^ 16 + k) s.bind.hdmErr } }
    else
      let s := { s with bind := { s.bind with fnDec := put s.bind.fnDec k g, hdmErr := without (2 ^ 16 + k) s.bind.hdmErr } }
      if s.on BIND.LD.MLD n then s.emit (.hdmPass (s.get BIND.LD.POOL n) (s.get BIND.LD.LDID n) g) else s

/-- The committed upstream decoder that claims a host address, and the vPPB it selects (R129). -/
def upClaim (s : State) (host addr : Nat) : Option Nat :=
  ((List.range 32).find? (fun d => s.on BIND.DEC.COMMITTED host d &&
    (let r := decRange s host d
     r.1 ≤ addr && addr < r.1 + r.2))).map (fun d =>
      let k := addr / (256 * 2 ^ s.get BIND.DEC.IG host d) % 2 ^ s.get BIND.DEC.IW host d
      bitsOf (s.get BIND.DEC.TARGET host d) (8 * k) 8)

/-- The DPA that a decoder of an LD function forms (R128): the offset in its range without its interleave-way bits. -/
def dpaOf (g : HdmProg) (addr : Nat) : Nat :=
  let off := addr - g.base.toNat
  off / (g.gran * max 1 g.ways) * g.gran + off % g.gran

def fnClaims (g : HdmProg) (addr : Nat) : Bool := g.commit && g.base.toNat ≤ addr && addr < g.base.toNat + g.size.toNat

/-- The DPA at an LD function of a vPPB: decoder 1's DPAs follow decoder 0's, as the CXL specification defines for a memory device (DEDUCED, log entry on LD decoders). -/
def fnDpa (s : State) (host vppb addr : Nat) : Option Nat :=
  let rec go (below : Nat) : List Nat → Option Nat
    | [] => none
    | d :: r =>
      match look s.bind.fnDec ((host * 256 + vppb) * 16 + d) with
      | none => go below r
      | some g => if fnClaims g addr then some (below + dpaOf g addr) else go (below + if g.commit then g.size.toNat / max 1 g.ways else 0) r
  go 0 (List.range 16)

/-- What translation answers (R129). -/
inductive Xlat where
  | miss
  | port (p : Nat)
  | ld (n dpa j : Nat)
  deriving DecidableEq, Repr

/-- Binding translation of a host address (R129). -/
def translate (s : State) (host addr : Nat) : Xlat :=
  match upClaim s host addr with
  | none => .miss
  | some v =>
    match btOf s host v with
    | none => .miss
    | some j =>
      match s.get BIND.BT.KIND j with
      | 0 =>
        let n := s.get BIND.BT.TARGET j
        match fnDpa s host v addr with
        | none => .miss
        | some dpa => if dpa < s.get BIND.LD.SIZE n * mib256 then .ld n dpa j else .miss
      | 1 => .port (s.get BIND.BT.TARGET j)
      | _ => .miss

/-- A request that cannot be resolved is counted (R129). -/
def missed (s : State) : State := flag BIND.ESTAT.MISS 9 (s.bump BIND.MISSCNT.COUNT)

/-- Class and index of an identity. -/
def midClass (mid : Nat) : Nat := mid / 4096

/-- The upstream port in whose virtual switch a master stands. -/
def masterHost (s : State) (mid : Nat) : Option Nat :=
  match midClass mid with
  | 0 => some (mid % 64)
  | 1 => portHost s (mid % 64)
  | 3 => (fnBinding s (mid % 256)).map (·.1)
  | _ => none

/-- The host physical address of a DPA at one host, from the decoders that lead to its vPPB (R127, R128); the DPA itself where none does. -/
def hpaOf (s : State) (host ld dpa : Nat) : Nat :=
  match (ldBindings s ld).find? (fun j => s.get BIND.BT.HOST j == host) with
  | none => dpa
  | some j =>
    let v := s.get BIND.BT.VPPB j
    let idx := ((List.range 32).findSome? (fun d =>
      if s.on BIND.DEC.COMMITTED host d then (List.range (2 ^ s.get BIND.DEC.IW host d)).find? (fun i => bitsOf (s.get BIND.DEC.TARGET host d) (8 * i) 8 == v) else none)).getD 0
    let form (g : HdmProg) (off : Nat) : Nat := g.base.toNat + off / max 1 g.gran * (g.gran * g.ways) + idx * g.gran + off % max 1 g.gran
    let rec go (off : Nat) : List Nat → Nat
      | [] => dpa
      | d :: r =>
        match look s.bind.fnDec ((host * 256 + v) * 16 + d) with
        | none => go off r
        | some g =>
          let n := if g.commit then g.size.toNat / max 1 g.ways else 0
          if off < n then form g off else go (off - n) r
    go dpa (List.range 16)

/-- The host address under which a pool sees a line that the device reads or writes itself: that of the master's host, or of the first host to which the LD is bound (R128; DESIGN CHOICE for an LD that several hosts share, log entry on pool addresses). -/
def poolHpa (s : State) (mid ld dpa : Nat) : Nat :=
  let hosts := (ldBindings s ld).map (fun j => s.get BIND.BT.HOST j)
  let h := match masterHost s mid with | some h => if hosts.contains h then some h else hosts.head? | none => hosts.head?
  match h with | some h => hpaOf s h ld dpa | none => dpa

/-- CRC-32 of IEEE 802.3 over a list of bytes (R241; DEDUCED, log entry on HELLO). -/
def crc32 (l : List Nat) : Nat := crcOf 0xEDB88320 l

/-- The vPPB through which a device port is bound, as its host and number. -/
def portSlot (s : State) (p : Nat) : Option (Nat × Nat) :=
  ((validBt s).find? (fun j => s.get BIND.BT.KIND j == 1 && s.get BIND.BT.TARGET j == p)).map (fun j => (s.get BIND.BT.HOST j, s.get BIND.BT.VPPB j))

/-- The registers of a vPPB that its host writes. -/
def vppbOf (s : State) (host v : Nat) : Vppb := lookD s.bind.vppbs (host * 256 + v) ⟨0, 0, 0⟩

def setVppb (host v : Nat) (x : Vppb) (s : State) : State :=
  { s with bind := { s.bind with vppbs := if x = ⟨0, 0, 0⟩ then del s.bind.vppbs (host * 256 + v) else put s.bind.vppbs (host * 256 + v) x } }

/-- ACS Control of the downstream switch port above a device port (R62). -/
def acsOf (s : State) (p : Nat) : Nat := match portSlot s p with | some (h, v) => (vppbOf s h v).acs | none => 0

/-- Events of a vPPB's slot: their changed bits are set in Slot Status, and raise the slot interrupt where the host enabled the interrupt and one of them (R135). The bits stand where PCI Express puts them (PRESUMED, log entry on slots). -/
def slotEvent (host v bits : Nat) (s : State) : State :=
  let x := vppbOf s host v
  let s := setVppb host v { x with sts := Nat.lor x.sts bits } s
  if bitOf x.ctl 5 && Nat.land x.ctl (Nat.land bits 1 + Nat.land bits 8 + (if bitOf bits 8 then 4096 else 0)) != 0 then s.emit (.slotInterrupt host v) else s

/-- The address that goes to the pool: the host address on a multi-logical pool, LD BASE plus the DPA on a single-logical one (R128). -/
def poolAddr (s : State) (n hostAddr dpa : Nat) : Nat :=
  if s.on BIND.LD.MLD n then hostAddr else s.get BIND.LD.BASE n * mib256 + dpa

/-- A staged entry as its register reads (R148). -/
def stgEntry (s : State) (i : Nat) : StgEntry := ⟨s.on BIND.STG.TYPE i, s.get BIND.STG.INDEX i, s.get BIND.STG.VALUE i⟩

def stgValid (e : StgEntry) : Bool := e.value % 2 == 1

/-- Fields that a staged binding entry and a staged LD entry set. -/
def btFields : List Ent := [BIND.BT.VALID, BIND.BT.HOST, BIND.BT.VPPB, BIND.BT.KIND, BIND.BT.TARGET, BIND.BT.UNMODE]

def ldFields : List Ent := [BIND.LD.VALID, BIND.LD.POOL, BIND.LD.LDID, BIND.LD.MLD, BIND.LD.SHARE, BIND.LD.BASE, BIND.LD.SIZE]

/-- A staged entry written into its table; an entry with VALID 0 is removed whole. -/
def stgWrite (e : StgEntry) (s : State) : State :=
  let v := if stgValid e then e.value else 0
  if e.isLd then putWord 128 ldFields v e.index 0 s else putWord 128 (btFields ++ [BIND.BT.EPOCH]) (v % 2 ^ 32) e.index 0 s

/-- The targets of R126 hold for LD or function `t` of a kind. -/
def targetOk (s : State) (kind t : Nat) : Bool :=
  let users := ((validBt s).filter (fun j => s.get BIND.BT.KIND j == kind && s.get BIND.BT.TARGET j == t)).map (fun j => s.get BIND.BT.HOST j)
  match kind with
  | 0 => s.on BIND.LD.VALID t && (if s.on BIND.LD.SHARE t then users.eraseDups.length == users.length && users.length ≤ 63 else users.length ≤ 1)
  | 1 => t < 64 && s.get PORT.CFG.ROLE t == 2 && !s.on PORT.CFG.POOL t && users.length ≤ 1
  | 2 => t < 256 && users.length ≤ 1
  | _ => false

/-- A valid binding entry meets R126. -/
def btOk (s : State) (j : Nat) : Bool :=
  let h := s.get BIND.BT.HOST j
  s.get PORT.CFG.ROLE h == 1
    && ((validBt s).filter (fun i => s.get BIND.BT.HOST i == h && s.get BIND.BT.VPPB i == s.get BIND.BT.VPPB j)).length ≤ 1
    && targetOk s (s.get BIND.BT.KIND j) (s.get BIND.BT.TARGET j)

def overlap (a n b m : Nat) : Bool := a < b + m && b < a + n

/-- The placement agrees with what the pool device reports (R130). -/
def placedOk (s : State) (n : Nat) : Bool :=
  match look s.bind.pools (s.get BIND.LD.POOL n) with
  | none => true
  | some r =>
    r.mld == s.on BIND.LD.MLD n &&
      (if r.mld then nthD r.allocs (s.get BIND.LD.LDID n) 0 == s.get BIND.LD.SIZE n
       else s.get BIND.LD.BASE n + s.get BIND.LD.SIZE n ≤ r.capacity)

/-- A placement (port, MLD, LD-ID, base, size) meets R130 against the valid LDs of its port other than `skip`. -/
def placeFits (s : State) (skip p : Nat) (mld : Bool) (ldid base size : Nat) : Bool :=
  let others := (portLds s p).filter (· != skip)
  s.get PORT.CFG.ROLE p == 2 && s.on PORT.CFG.POOL p && 1 ≤ size
    && others.all (fun o => s.on BIND.LD.MLD o == mld)
    && (if mld then base == 0 && others.all (fun o => s.get BIND.LD.LDID o != ldid)
        else others.all (fun o => !overlap base size (s.get BIND.LD.BASE o) (s.get BIND.LD.SIZE o)))

/-- A valid LD entry meets R130; what the pool reports counts while its port is UP. -/
def ldOk (s : State) (n : Nat) : Bool :=
  let p := s.get BIND.LD.POOL n
  placeFits s n p (s.on BIND.LD.MLD n) (s.get BIND.LD.LDID n) (s.get BIND.LD.BASE n) (s.get BIND.LD.SIZE n)
    && (!isUp s p || placedOk s n) && targetOk s 0 n

def migSt (s : State) (m : Nat) : Option MigSt := if m = 0 then s.bind.mig0 else s.bind.mig1

def setMig (m : Nat) (x : Option MigSt) (s : State) : State :=
  if m = 0 then { s with bind := { s.bind with mig0 := x } } else { s with bind := { s.bind with mig1 := x } }

def modMig (m : Nat) (f : MigSt → MigSt) (s : State) : State := setMig m ((migSt s m).map f) s

/-- PHASE of a migration slot: 0 IDLE, 1 COPY, 2 HELD, 3 QUIESCE, 4 MIRROR, 5 DRAIN; a change is an event of source 10 + m. -/
def migPhase (s : State) (m : Nat) : Nat := s.get BIND.MIG.MSTAT.PHASE m

def setPhase (m v : Nat) (s : State) : State := setState BIND.MIG.MSTAT.PHASE v (10 + m) s m

/-- The slot that migrates an LD. -/
def migOf (s : State) (ld : Nat) : Option Nat :=
  (List.range 2).find? (fun m => match migSt s m with | some x => x.ld == ld && migPhase s m != 0 | none => false)

/-- A staged entry offends R126, R130 or R131 once the whole change stands in `t` (R132). -/
def stgOk (s t : State) (e : StgEntry) : Bool :=
  if e.isLd then
    if stgValid e then
      ldOk t e.index && (List.range 2).all (fun m =>
        match migSt s m with
        | some x => x.ld == e.index || x.dport != t.get BIND.LD.POOL e.index ||
            (if x.dmld then t.get BIND.LD.LDID e.index != x.dldid
             else !overlap (t.get BIND.LD.BASE e.index) (t.get BIND.LD.SIZE e.index) x.dbase (s.get BIND.LD.SIZE x.ld))
        | none => true)
    else (ldBindings t e.index).isEmpty && s.get BIND.LD.STATE e.index != 1
  else !stgValid e || btOk t e.index

/-- A staged entry names a MIGRATING LD or a binding entry of one (R132); an LD whose MIG_START is being written counts (DEDUCED, log entry on migrations). -/
def stgConflict (s : State) (e : StgEntry) : Bool :=
  let mig (n : Nat) : Bool := s.on BIND.LD.VALID n && (s.get BIND.LD.STATE n == 4 || (List.range 2).any (fun m => match migSt s m with | some x => x.ld == n | none => false))
  if e.isLd then mig e.index
  else (s.on BIND.BT.VALID e.index && s.get BIND.BT.KIND e.index == 0 && mig (s.get BIND.BT.TARGET e.index))
    || (stgValid e && bitsOf e.value 15 2 == 0 && mig (bitsOf e.value 17 12))

/-- The first offending entry of a change, with RESULT 2 INVALID or 3 CONFLICT (R132). -/
def badEntry (s : State) (es : List StgEntry) : Option (Nat × Nat) :=
  let t := forL es stgWrite s
  let rec go (i : Nat) (seen : List (Bool × Nat)) : List StgEntry → Option (Nat × Nat)
    | [] => none
    | e :: r =>
      if seen.contains (e.isLd, e.index) || !stgOk s t e then some (i, 2)
      else if stgConflict s e then some (i, 3)
      else go (i + 1) ((e.isLd, e.index) :: seen) r
  go 0 [] es

/-- A commit is refused (R132). -/
def refuse (result bad : Nat) (s : State) : State :=
  flag BIND.ESTAT.REJECT 9 ((s.set BIND.STAT.RESULT result).set BIND.STAT.BADIDX bad)

/-- A commit in steps 1 to 4 of R133. -/
def committing (s : State) : Bool := s.on BIND.STAT.BUSY

/-- A managed unbind of a change that must wait for its host (R135). -/
def managed (s : State) (e : StgEntry) : Option (Nat × Nat) :=
  if e.isLd || stgValid e || !s.on BIND.BT.VALID e.index || 2 ≤ bitsOf e.value 29 2 then none
  else
    let h := s.get BIND.BT.HOST e.index
    let v := s.get BIND.BT.VPPB e.index
    if isUp s h && !s.bind.powerOff.contains (h * 256 + v) then some (h, v) else none

/-- Mode 1 sets Attention Button Pressed on the vPPB (R135). -/
def pressButton (e : StgEntry) (s : State) : State :=
  match managed s e with
  | some (h, v) =>
    if bitsOf e.value 29 2 = 1 then
      slotEvent h v 1 (({ s with bind := { s.bind with attention := insertNat (h * 256 + v) s.bind.attention } }).emit (.attentionButton h v))
    else s
  | none => s

/-- Keys for the LDs that a change carves, created when the change is journalled (R261). -/
def carvedKeys (es : List StgEntry) (s : State) : List (Nat × Nat) × State :=
  es.foldl (fun (a : List (Nat × Nat) × State) e =>
    if e.isLd && stgValid e && !s.on BIND.LD.VALID e.index then
      let (k, t) := newKey a.2
      (a.1 ++ [(e.index, k)], t)
    else a) ([], s)

/-- Step 2 of R133: the record of the whole change is requested, with the keys of the LDs it carves sealed into it. -/
def askRecord (s : State) : State :=
  match s.bind.change with
  | none => s
  | some c =>
    if c.asked || c.waits != [] then s
    else
      let (ks, s) := carvedKeys c.entries s
      let sealed_ := ks.map (fun q => sealKey s (.ld q.1) q.2 (wrapAdd 16 (s.get SEC.LDKEY.GEN q.1) 1))
      match request (.bind c.entries none none) sealed_ .bind s with
      | (.taken, s) => { s with bind := { s.bind with change := some { c with asked := true, keys := ks } } }
      | (.full, s) => refuse 5 0 { (s.set BIND.STAT.BUSY 0) with bind := { s.bind with change := none } }
      | (.power, s) => refuse 6 0 { (s.set BIND.STAT.BUSY 0) with bind := { s.bind with change := none } }

/-- COMMIT of the staged entries of R132 and step 1 of R133. -/
def bindSubmit (cnt : Nat) (s : State) : State :=
  if !s.on BIND.STAT.DONE || committing s || (List.range 2).any (fun m => migPhase s m == 3 || migPhase s m == 4) then refuse 1 0 s
  else if cnt = 0 ∨ 64 < cnt then refuse 2 0 s
  else
    let es := (List.range cnt).map (stgEntry s)
    match badEntry s es with
    | some (i, r) => refuse r i s
    | none =>
      let waits := es.filterMap (managed s)
      let s := forL es pressButton (s.set BIND.STAT.BUSY 1)
      askRecord { s with bind := { s.bind with change := some ⟨es, waits, false, false, [], 0, s.ns⟩ } }

/-- Every staged entry becomes 0 (R148). -/
def clearStg (s : State) : State :=
  let lo := BIND.STG.VALUE.base
  { s with regs := s.regs.filter (fun r => !(lo ≤ r.1 && r.1 < lo + 64 * 128)) }

/-- The plain fields of a write of BIND.CTL. -/
def bindCtl (w : Nat) (s : State) : State := (s.set BIND.CTL.STGCNT (bitsOf w 0 7)).set BIND.CTL.UNB_TO (bitsOf w 9 8)

/-- BIND_COMMIT (R132): a write of CTL with COMMIT at 1; with DISCARD too, the staging area is cleared afterwards. -/
def execBindCommit (v : Word) (s : State) : Result := atReg BIND.CTL.COMMIT (fun s =>
  let w := v.toNat
  let s := bindCtl w s
  let s := if bitOf w 7 then bindSubmit (bitsOf w 0 7) s else s
  .next (if bitOf w 8 then clearStg s else s)) s

/-- BIND_DISCARD (R148): a write of CTL with DISCARD at 1; a COMMIT in the same write is submitted first. -/
def execBindDiscard (v : Word) (s : State) : Result := atReg BIND.CTL.DISCARD (fun s =>
  let w := v.toNat
  let s := bindCtl w s
  let s := if bitOf w 7 then bindSubmit (bitsOf w 0 7) s else s
  .next (if bitOf w 8 then clearStg s else s)) s

/-- A host no longer holds up step 1 of a commit (R135, R147). -/
def handshakeDone (p : Nat → Nat → Bool) (s : State) : State :=
  match s.bind.change with
  | none => s
  | some c => askRecord { s with bind := { s.bind with change := some { c with waits := c.waits.filter (fun w => !p w.1 w.2) } } }

/-- BIND_VPPB (R135, R390): the FM API command stages one entry and commits it. -/
def execBindVppb (index : Fin 4096) (host : PortId) (vppb : Fin 256) (kind : Fin 4) (target : Fin 4096) (s : State) : Result := atReg BIND.CTL.COMMIT (fun s =>
  let v := 1 + host.val * 2 + vppb.val * 2 ^ 7 + kind.val * 2 ^ 15 + target.val * 2 ^ 17
  let s := ((s.set BIND.STG.VALUE v 0).set BIND.STG.TYPE 0 0).set BIND.STG.INDEX index 0
  .next (fmDone (bindSubmit 1 (s.set BIND.CTL.STGCNT 1)))) s

/-- UNBIND_VPPB (R135, R390): the entry of the vPPB is staged with VALID 0 and the mode, and committed; an unbound vPPB leaves entry 0 staged without a valid entry to remove, which is refused as INVALID (DEDUCED, log entry on FM API unbind). -/
def execUnbindVppb (host : PortId) (vppb : Fin 256) (mode : Fin 4) (s : State) : Result := atReg BIND.CTL.COMMIT (fun s =>
  .next ((match btOf s host vppb with
    | none => refuse 2 0 s
    | some j =>
      let s := ((s.set BIND.STG.VALUE (mode.val * 2 ^ 29) 0).set BIND.STG.TYPE 0 0).set BIND.STG.INDEX j 0
      bindSubmit 1 (s.set BIND.CTL.STGCNT 1)) |> fmDone)) s

/-- The UC record of a FAILED LD (R77, R320): DETAIL holds the number of lost writes and ADDR the first DPA. -/
def ldRecord (p n : Nat) (s : State) : State :=
  let l := lookD s.bind.lost n (0, 0)
  let r := { rec0 p kLdFailed 1 n with addr := l.2, akind := if l.1 = 0 then 0 else 1, detail := min 0xFFFFF l.1 }
  reportEach r { s with bind := { s.bind with lost := del s.bind.lost n } }

/-- LD n becomes FAILED; the state it had is kept for its recovery (R77, R130, R323). -/
def failLd (n : Nat) (s : State) : State :=
  if s.get BIND.LD.STATE n == 2 then s
  else ({ s with bind := { s.bind with failedFrom := put s.bind.failedFrom n (s.get BIND.LD.STATE n) } }).set BIND.LD.STATE 2 n

/-- The placement check of R130 for the LDs of a pool port that is UP: an LD that does not match becomes FAILED, with a record. -/
def placementCheck (p : Nat) (s : State) : State :=
  forL (portLds s p) (fun n s =>
    if placedOk s n || s.get BIND.LD.STATE n == 2 then s else ldRecord p n (failLd n s)) s

/-- SET_LD_ALLOCATIONS (R130): proxied to the pool device, whose report then holds them; the placement check follows. -/
def execSetLdAllocations (p : PortId) (allocs : List Nat) (s : State) : Result :=
  .next (fmDone (if isUp s p then
      match look s.bind.pools p with
      | some r => if r.mld then ({ s with bind := { s.bind with pools := put s.bind.pools p { r with allocs := allocs } } }).emit (.ldAlloc p allocs) else s
      | none => s
    else s))

end Sys2Proof.Machine
end

