-- ==== Sys2Proof/Machine/Tally.lean ====
section
/-! DEFINITION. The Tally: line keys, entries, host numbers, the region filter, allocation of ways, and the packets that a home slice sends (R149 to R153, R155, R164, R168, R171). -/

namespace Sys2Proof.Machine

/-- The line key of an LD and a DPA (R149). -/
def lineKeyOf (ld dpa : Nat) : Nat := ld % 2 ^ 12 * 2 ^ 42 + dpa / 64 % 2 ^ 42

def lkLd (lk : Nat) : Nat := lk / 2 ^ 42 % 2 ^ 12

def lkDpa (lk : Nat) : Nat := lk % 2 ^ 42 * 64

/-- The share of a line: the XOR of the 27 two-bit groups of its key (R149). -/
def fold2 (lk : Nat) : Nat := (List.range 27).foldl (fun a i => Nat.xor a (bitsOf lk (2 * i) 2)) 0

/-- Set and tag of a line key (R149). -/
def setOf (lk : Nat) : Nat := Nat.xor (Nat.xor (bitsOf lk 2 18) (bitsOf lk 20 18)) (bitsOf lk 38 16)

def tagOf (lk : Nat) : Nat := bitsOf lk 20 34 * 4 + bitsOf lk 0 2

/-- The line key that a set and a tag give back. -/
def lkOf (set tag : Nat) : Nat :=
  let hi := tag / 4
  let mid := Nat.xor (Nat.xor set (hi % 2 ^ 18)) (bitsOf hi 18 16)
  hi * 2 ^ 20 + mid * 4 + tag % 4

/-- The slice that serves a share: its own, or the partner while it has failed (R175). -/
def serving (s : State) (k : Nat) : Nat := if s.on HOME.STAT.FAILED k then Nat.xor k 1 else k

/-- The share that slice n takes a line as. -/
def shareAt (s : State) (n lk : Nat) : Nat := if serving s (fold2 lk) = n then fold2 lk else n

def homeSt (s : State) (k : Nat) : HomeSt := lookD s.homes k ⟨[], [], [], [], [], [], [], [], [], [], [], 0, true, []⟩

def setHome (k : Nat) (h : HomeSt) (s : State) : State := { s with homes := put s.homes k h }

def modHome (k : Nat) (f : HomeSt → HomeSt) (s : State) : State := setHome k (f (homeSt s k)) s

/-- A flag or counter of the slice that serves share k; the slice is event source 169 + n. -/
def homeFlag (e : Ent) (k : Nat) (s : State) : State := flag e (169 + serving s k) s (serving s k)

def homeBump (e : Ent) (k n : Nat) (s : State) : State := s.bump e n (serving s k)

/-- The shares that slice n serves: its own, and its failed partner's (R175). -/
def sharesOf (s : State) (n : Nat) : List Nat := (List.range 4).filter (fun k => serving s k == n)

/-- Requests in the carry queue of slice n, of every share that it serves (R165, R175). -/
def carryLen (s : State) (n : Nat) : Nat := ((sharesOf s n).map (fun k => (homeSt s k).carry.length)).sum

/-- Open transactions of slice n: those that run, those that wait for their line, and records of responses to absorb (R156, R161, R165). -/
def openTxs (s : State) (n : Nat) : Nat :=
  ((sharesOf s n).map (fun k => (homeSt s k).txs.length + (homeSt s k).waiting.length + (homeSt s k).absorb.length)).sum

/-- STAT of the slice that serves a share shows its open transactions and its carry queue (R165, R180). -/
def homeSync (k : Nat) (s : State) : State :=
  let n := serving s k
  (s.set HOME.STAT.OT_USE (openTxs s n) n).set HOME.STAT.CQ_USE (carryLen s n) n

/-- The domain host number that a master identity names, if it is a host (R153, R278). -/
def dhnOf (s : State) (mid : Nat) : Option Nat :=
  if mid / 4096 = 0 then some (s.straps.cascadeId * 64 + mid % 64)
  else if mid / 4096 = 4 ∧ mid % 512 < 64 then some (mid % 4096 / 512 * 64 + mid % 64)
  else none

def localDhn (s : State) (p : Nat) : Nat := s.straps.cascadeId * 64 + p

/-- The HMAP entry that names a host (R153). -/
def hmapOf (s : State) (k dhn : Nat) : Option Nat :=
  (List.range 64).find? (fun b => s.on HOME.HMAP.VALID (serving s k) b && s.get HOME.HMAP.DHN (serving s k) b == dhn)

/-- The sharer bit of a host (R153, R171). -/
def bitOfHost (s : State) (k dhn : Nat) : Option Nat := if s.homeG.coarse then some (dhn / 8) else hmapOf s k dhn

/-- Hosts bound to an LD with back-invalidate (R169, R171). The bindings of a host of another device stand there: it counts as bound once it has used the LD here, and until it departs (DESIGN CHOICE, log entry on hosts of other devices). -/
def boundBi (s : State) (ld dhn : Nat) : Bool :=
  if dhn / 64 = s.straps.cascadeId then
    s.on PORT.STAT.BI (dhn % 64) && (ldBindings s ld).any (fun j => s.get BIND.BT.HOST j == dhn % 64)
  else s.homeG.seen.contains (dhn, ld)

/-- The hosts that a vector names: each bit's host, or in coarse mode the members of its group. -/
def hostsOf (s : State) (k ld vec : Nat) : List Nat :=
  (List.range 64).flatMap (fun b =>
    if !bitOf vec b then []
    else if s.homeG.coarse then ((List.range 8).map (fun i => 8 * b + i)).filter (boundBi s ld)
    else if s.on HOME.HMAP.VALID (serving s k) b then [s.get HOME.HMAP.DHN (serving s k) b] else [])

def setBit (v b : Nat) : Nat := Nat.lor v (2 ^ b)

def clearBit (v b : Nat) : Nat := if bitOf v b then v - 2 ^ b else v

/-- The vector with a host's bit. -/
def withHost (s : State) (k vec dhn : Nat) : Nat :=
  match bitOfHost s k dhn with
  | some b => setBit vec b
  | none => vec

/-- The vector without a host's bit; in coarse mode the group's bit stays (R171). -/
def withoutHost (s : State) (k vec dhn : Nat) : Nat :=
  if s.homeG.coarse then vec
  else match hmapOf s k dhn with
    | some b => clearBit vec b
    | none => vec

/-- The entry of a line in its set, with its place set * 16 + way. -/
def tallyFind (s : State) (k lk : Nat) : Option (Nat × TallyEnt) :=
  let st := setOf lk
  (List.range 16).findSome? (fun w =>
    match look (homeSt s k).tally (st * 16 + w) with
    | some e => if e.tag = tagOf lk && e.state != 0 then some (st * 16 + w, e) else none
    | none => none)

/-- An entry is written. Under injection its check bits carry errors, which the next lookup or scrub finds (R448). -/
def setEntry (k slot : Nat) (e : TallyEnt) (s : State) : State :=
  let hurt := injArmed s 0 k
  let bits := max 1 (s.get TST.INJCTL.BITS)
  injected 0 k 1 (modHome k (fun h => { h with tally := put h.tally slot e, latent := if hurt then put h.latent slot bits else del h.latent slot }) s)

/-- A way becomes INV. -/
def freeEntry (k slot : Nat) (s : State) : State := modHome k (fun h => { h with tally := del h.tally slot, latent := del h.latent slot }) s

/-- An access sets NRU (R150). -/
def touch (k slot : Nat) (s : State) : State :=
  match look (homeSt s k).tally slot with
  | some e => setEntry k slot { e with nru := true } s
  | none => s

/-- An entry takes a stable state, unpinned; INV, or SH with nobody in it, frees the way (R151, R159). -/
def settleEntry (k slot st vec : Nat) (s : State) : State :=
  if st = 0 ∨ (st = 1 ∧ vec = 0) then freeEntry k slot s
  else
    match look (homeSt s k).tally slot with
    | some e => setEntry k slot { e with state := st, sharers := vec, pin := false, prior := 0, nru := true } s
    | none => s

/-- What allocation finds in a set (R164): an INV way, a victim, or every way pinned. -/
inductive Way where
  | inv (slot : Nat)
  | victim (slot : Nat)
  | full
  deriving DecidableEq, Repr

/-- The choice of a way (R164); with no unpinned way at NRU 0, the set's NRU bits are cleared first. -/
def chooseWay (k set : Nat) (s : State) : Way × State :=
  let slots := (List.range 16).map (fun w => set * 16 + w)
  let ent (x : Nat) : Option TallyEnt := look (homeSt s k).tally x
  match slots.find? (fun x => (ent x).isNone) with
  | some x => (.inv x, s)
  | none =>
    let free := slots.filter (fun x => match ent x with | some e => !e.pin | none => false)
    match free.find? (fun x => match ent x with | some e => !e.nru | none => false) with
    | some x => (.victim x, s)
    | none =>
      match free with
      | [] => (.full, s)
      | x :: _ =>
        let clr (l : List (Nat × TallyEnt)) := l.map (fun q => if q.1 / 16 = set then (q.1, { q.2 with nru := false }) else q)
        (.victim x, modHome k (fun h => { h with tally := clr h.tally }) s)

/-- A home slice has every resource that a REQ-list packet may need: room in the carry queue and open transactions (R165). -/
def homeTakesReq (s : State) (n : Nat) : Bool := s.get HOME.STAT.CQ_USE n < 256 && s.get HOME.STAT.OT_USE n < 16384

/-- The class of a region of an LD: the region's bit, or DEFAULT beyond COUNT; PRIVATE unless the LD has SHARE 1 (R168). -/
def regionBit (s : State) (ld region : Nat) : Bool :=
  if region < s.get HOME.RFMAP.COUNT ld then
    let b := s.get HOME.RFMAP.BASE ld + region
    bitOf (s.get HOME.RFBITS.BITS (b / 32)) (b % 32)
  else s.on HOME.RFMAP.DEFAULT ld

def sharedAt (s : State) (ld dpa : Nat) : Bool := s.on BIND.LD.SHARE ld && regionBit s ld (dpa / 2 ^ 21)

/-- A payload is parked at an ingress under a fresh number (R155). -/
def park (p : Pkt) (s : State) : Nat × State :=
  let id := s.frame.nextId
  let unit := decide (72 ≤ p.src)
  let s := { s with frame := { s.frame with nextId := id + 1, parked := put s.frame.parked id ⟨p, unit, 0, 0, unit || p.own⟩ } }
  (id, bufSync p.src s)

def parkedOf (s : State) (id : Nat) : Option Pkt := (look s.frame.parked id).map (·.p)

/-- A parked payload is dropped or has been released to its last destination; its link credits go back as for a packet that left. -/
def unpark (id : Nat) (s : State) : State :=
  match look s.frame.parked id with
  | none => s
  | some v => bufSync v.p.src ((if v.paid then fun s => s else returnCredit v.p.src v.p) { s with frame := { s.frame with parked := del s.frame.parked id } })

/-- Where a response to a message goes: its requester's crossbar port and tag. -/
def toRequester (m : HomeMsg) (k : Nat) (s : State) : Pkt :=
  { pkt0 with src := 72 + serving s k, orig := 72 + serving s k, dest := m.port, tag := m.tag, rid := m.req, tc := m.tc, own := true,
              mid := m.mid.toNat, ruleEp := m.ruleEp.toNat, bindEp := m.bindEp.toNat, ld := lkLd m.lk.toNat, dpa := lkDpa m.lk.toNat, shared := true }

/-- A response without data from the home (R154). -/
def answerHome (op : Opc) (m : HomeMsg) (k : Nat) (s : State) : State := enqueue { toRequester m k s with op := op, lst := 2 } s

/-- A parked payload is released to the requester as MemData (R155). -/
def releaseData (id : Nat) (m : HomeMsg) (k : Nat) (s : State) : State :=
  match parkedOf s id with
  | none => s
  | some p => enqueue { toRequester m k s with op := .memData, lst := 2, src := p.src, devLoad := p.devLoad, data := p.data, poison := p.poison, payload := 64, deriv := true } s

/-- The ACTIVE links of a mask, in order of link number. -/
def linksIn (mask : Nat) : List Nat := (List.range 8).filter (fun l => bitOf mask l)

/-- The device that packets to device d are sent to: d itself, or the relay device (R249). -/
def viaDev (s : State) (d : Nat) : Nat := if s.on BLKC.ROUTE.RELAY d then s.get BLKC.ROUTE.VIA d else d

/-- The crossbar port of the Beamlink that a packet to device d takes: link index (SXP + DXP + TC) mod k of the k ACTIVE links (R246). -/
def linkTo (s : State) (d sxp dxp tc : Nat) : Option Nat :=
  let ls := linksIn (s.get BLKC.ROUTE.LINKS (viaDev s d))
  if ls.isEmpty then none else some (64 + nthD ls ((sxp + dxp + tc) % ls.length) 0)

/-- The device that holds an LD (R247). -/
def ldDev (s : State) (ld : Nat) : Nat :=
  s.get (nthD [BLKC.LDDEV.DEV0, BLKC.LDDEV.DEV1, BLKC.LDDEV.DEV2, BLKC.LDDEV.DEV3, BLKC.LDDEV.DEV4, BLKC.LDDEV.DEV5, BLKC.LDDEV.DEV6]
    (ld % 8) BLKC.LDDEV.DEV7) (ld / 8)

/-- The crossbar port towards a host: its port on this device, or the Beamlink towards its device. -/
def hostPort (s : State) (dhn sxp tc : Nat) : Nat :=
  if dhn / 64 = s.straps.cascadeId then dhn % 64 else (linkTo s (dhn / 64) sxp (dhn % 64) tc).getD 64

/-- A back-invalidate snoop to a host (R154, R159), with the epochs of the request that causes it (R87). -/
def sendSnoop (k : Nat) (inv : Bool) (dhn : Nat) (m : HomeMsg) (s : State) : State :=
  let p := { toRequester m k s with op := if inv then .biSnpInv else .biSnpData, lst := 3, dest := hostPort s dhn (72 + serving s k) m.tc, rid := 0,
                                    ddev := dhn / 64, dxp := dhn % 64, home := some m }
  let s := mark m.req (fun x => { x with snooped := true }) (homeBump HOME.SNPCNT.COUNT k 1 s)
  let s := perf (264 + serving s k) 0x14 1 (some m.tc) s
  enqueue p (if dhn / 64 = s.straps.cascadeId then perfView (dhn % 64) 0x14 1 (some m.tc) s else s)

/-- A request of the home itself to a pool port: it is open until its notice is back at the slice (R88). -/
def openHome (op : Opc) (m : HomeMsg) (k : Nat) (s : State) : Nat × State :=
  openReq ⟨72 + serving s k, 0, op, m.tc, m.mid.toNat, m.ruleEp.toNat, m.bindEp.toNat, 0, lkLd m.lk.toNat, lkDpa m.lk.toNat, true, false, s.ns, 1, 0, 0, 0, false⟩ s

def poolPort (s : State) (ld : Nat) : Nat := s.get BIND.LD.POOL ld

/-- The home issues a pool read of the line (R159). -/
def poolRead (k : Nat) (m : HomeMsg) (s : State) : State :=
  let (rid, s) := openHome .memRd m k s
  let ld := lkLd m.lk.toNat
  enqueue { toRequester m k s with op := .memRd, lst := 0, dest := poolPort s ld, rid := rid, tag := 0, toLd := true, home := some m,
                                   addr := poolAddr s ld (poolHpa s m.mid.toNat ld (lkDpa m.lk.toNat)) (lkDpa m.lk.toNat), gen := s.get SEC.LDKEY.GEN ld } s

/-- A parked payload is released to the LD's pool port as a write, and during MIRROR to the migration's destination too (R143, R155): the number of Cmps to await. -/
def poolWrite (k id : Nat) (m : HomeMsg) (s : State) : Nat × State :=
  match parkedOf s id with
  | none => (0, s)
  | some p =>
    let ld := lkLd m.lk.toNat
    let dpa := lkDpa m.lk.toNat
    let out (dest : Nat) (mir : Bool) (s : State) : State :=
      let (rid, s) := openHome p.op m k s
      enqueue { toRequester m k s with op := p.op, lst := 1, src := p.src, dest := dest, rid := rid, tag := 0, toLd := true, home := some m, mirror := mir,
                                       data := p.data, be := p.be, poison := p.poison, payload := 64, addr := poolAddr s ld (poolHpa s m.mid.toNat ld dpa) dpa, gen := s.get SEC.LDKEY.GEN ld } s
    let s := out (poolPort s ld) false s
    match migOf s ld with
    | some g =>
      match migSt s g with
      | some x => if migPhase s g = 4 then (2, out x.dport true s) else (1, s)
      | none => (1, s)
    | none => (1, s)

end Sys2Proof.Machine
end

