-- ==== Sys2Proof/Machine/Home.lean ====
section
/-! DEFINITION. The home slices: ordering, transitions, crossing cases, the carry queue, the atomic board, departures (R154 to R167, R174 to R177). Each function acts on one directory share `k`. -/

namespace Sys2Proof.Machine

def txOf (s : State) (k lk : Nat) : Option HomeTx := (homeSt s k).txs.find? (·.lk == lk)

def putTx (k : Nat) (t : HomeTx) (s : State) : State := modHome k (fun h => { h with txs := h.txs.filter (·.lk != t.lk) ++ [t] }) s

def dropTx (k lk : Nat) (s : State) : State := modHome k (fun h => { h with txs := h.txs.filter (·.lk != lk) }) s

def addTodo (k : Nat) (x : HTodo) (s : State) : State := modHome k (fun h => { h with todo := h.todo ++ [x] }) s

def msgLk (m : HomeMsg) : Nat := m.lk.toNat

/-- The class of a message at a home (R154); MemWr is a WB only from the recorded owner, which `isOwner` says. -/
def classOf (s : State) (isOwner : Bool) (m : HomeMsg) : HCls :=
  let host := (dhnOf s m.mid.toNat).isSome
  match m.op with
  | .memRd | .memRdData | .memRdTEE | .memRdFwd =>
    if !host then .rdI else match m.mv with | .s => .rdS | .a => .rdA | .i | .noOp => .rdI
  | .memInv | .memInvNT => match m.mv with | .s => .rdS | .a => .invA | .i => .cln | .noOp => .nop
  | .memClnEvct => .cln
  | .memWr | .memWrPtl => if isOwner then .wb else .wr
  | .farAtomic => .atom
  | .pcieMemRd | .d2hReq => .rdI
  | .pcieMemWr => .wr
  | _ => .nop

/-- MemInv and MemInvNT ask for no data (R154). -/
def wantsData (m : HomeMsg) : Bool := match m.op with | .memInv | .memInvNT => false | _ => true

/-- The recorded owner of a line: its entry in OWN, or PRIOR OWN while it is transient (R150). -/
def ownerOf (s : State) (k lk : Nat) : Option Nat :=
  match tallyFind s k lk with
  | some (_, e) => if e.state = 2 ∨ (8 ≤ e.state ∧ e.prior = 2) then some e.sharers else none
  | none => none

/-- The payload of a write: parked under the number of its request, or carried by the message and parked now (R155). -/
def payOf (m : HomeMsg) (s : State) : Option Nat × State :=
  match s.frame.parked.find? (fun q => q.2.p.rid == m.req && q.2.p.lst == 1 && q.2.p.dpa / 64 == lkDpa m.lk.toNat / 64 && m.req != 0) with
  | some (id, _) => (some id, s)
  | none =>
    match m.data with
    | none => (none, s)
    | some d =>
      let (id, s) := park { pkt0 with op := m.op, lst := 1, src := m.port, data := [d], be := m.be.toNat, poison := m.poison, payload := 64, tc := m.tc } s
      (some id, s)

/-- A line's entry shows the transaction that pins it (R151). -/
def showTx (k : Nat) (t : HomeTx) (dataReady : Bool) (s : State) : State :=
  match t.slot with
  | none => s
  | some x =>
    match look (homeSt s k).tally x with
    | none => s
    | some e =>
      let st := if t.cls = .evict then 11 else if t.owed != [] then 9 else if t.cls = .atom && dataReady then 12
        else if t.pcs != 0 || t.cls = .wr || t.cls = .wb then 10 else 8
      setEntry k x { e with state := st, pin := true, prior := t.from_ } s

/-- One occurrence of a pair goes. -/
def dropOne (x : Nat × Nat) (l : List (Nat × Nat)) : List (Nat × Nat) := match takeFirst (· == x) l with | some (_, rest) => rest | none => l

/-- The writeback header of a host for a line has been applied: its tracker entry goes, or for a host of another device, whose tracker stands there, the header is noted; messages held for it are due (R157). -/
def ackWrite (k : Nat) (m : HomeMsg) (s : State) : State :=
  let lk := msgLk m
  let g := s.homeG
  let g := if !isWrite m.op then g
    else if m.port.val < 64 then { g with tracker := dropOne (m.port.val, lk) g.tracker }
    else { g with applied := (m.mid.toNat, lk) :: dropOne (m.mid.toNat, lk) g.applied }
  let s := { s with homeG := g }
  let mine (x : HTodo) : Bool := match x with
    | .msg _ a => a.lk == m.lk && a.mid == m.mid
    | .rsp a => a.lk == m.lk && a.mid == m.mid
    | .way .. => false
  modHome k (fun h => { h with todo := h.todo ++ h.ahead.filter mine, ahead := h.ahead.filter (fun x => !mine x) }) s

/-- Whether a message must wait for a writeback header of the same host (R157). That the header of a host of another device has been applied holds until its next write of the line comes in (DESIGN CHOICE, log entry on hosts of other devices). -/
def waitsAhead (s : State) (m : HomeMsg) : Bool :=
  m.wbAhead && (if m.port.val < 64 then s.homeG.tracker.contains (m.port.val, msgLk m) else !s.homeG.applied.contains (m.mid.toNat, msgLk m))

/-- A host has departed, or with respect to the LD of a line (R170, R174). -/
def gone (s : State) (d lk : Nat) : Bool := s.homeG.departing.any (fun q => q.1 == d && (q.2 == none || q.2 == some (lkLd lk)))

/-- A line whose owner has departed is counted, with the binding it belongs to (R174). -/
def notePoison (k dhn lk : Nat) (s : State) : State :=
  let l := s.homeG.poisoned
  let l := match takeFirst (fun q => q.1 == dhn && q.2.1 == lkLd lk) l with
    | some ((a, b, n, f), rest) => rest ++ [(a, b, n + 1, f)]
    | none => l ++ [(dhn, lkLd lk, 1, lk)]
  homeFlag HOME.ESTAT.POISONED k (homeBump HOME.POISONCNT.COUNT k 1 { s with homeG := { s.homeG with poisoned := l } })

/-- A poisoned line of zeros, parked at the slice, in place of a lost owner's copy (R174). -/
def lostLine (k lk dhn : Nat) (s : State) : Nat × State :=
  park { pkt0 with op := .memWr, lst := 1, src := 72 + serving s k, data := [0], be := 2 ^ 64 - 1, poison := true, payload := 64 } (notePoison k dhn lk s)

/-- The stable state that a line reaches when its transaction ends, with its SHARERS (R159). A departed requester is left out (R174). -/
def nextOf (s : State) (k : Nat) (t : HomeTx) : Nat × Nat :=
  let h := match dhnOf s t.msg.mid.toNat with
    | some d => if gone s d t.lk then none else some d
    | none => none
  let base := if t.from_ = 1 then t.vec else t.kept.foldl (fun v d => withHost s k v d) 0
  let self := t.from_ = 2 && h == some t.vec
  let own (d : Option Nat) : Nat × Nat := match d with | some d => (2, d) | none => (0, 0)
  match t.cls with
  | .rdS => if self then (2, t.vec) else match h with | some d => (1, withHost s k base d) | none => (1, base)
  | .rdA | .invA => own h
  | .rdI => if self then (2, t.vec) else if t.from_ = 0 then (0, 0) else (1, base)
  | .wb => match t.msg.mv with
    | .i => (0, 0)
    | .s => match h with | some d => (1, withHost s k 0 d) | none => (0, 0)
    | .a | .noOp => own h
  | .cln | .nop | .wr | .atom | .evict | .board | .poison => (0, 0)

/-- A transaction ends: the writeback it took is completed, the entry takes its next state and unpins, and a waiting writeback of the line is due (R156, R158). -/
def finishTx (k : Nat) (t : HomeTx) (s : State) : State :=
  let s := match t.wb with | some w => answerHome .cmp w k s | none => s
  let (st, v) := nextOf s k t
  let s := match t.slot with | some x => settleEntry k x st v s | none => s
  let s := match t.pay with | some id => unpark id s | none => s
  let s := dropTx k t.lk s
  let h := homeSt s k
  match takeFirst (fun q => q.1 == HCls.wb && msgLk q.2 == t.lk) h.waiting with
  | some ((c, m), rest) => setHome k { h with waiting := rest, todo := h.todo ++ [.msg c m] } s
  | none => s

/-- End the transaction if no pool access is outstanding. -/
def tryFinish (k : Nat) (t : HomeTx) (s : State) : State :=
  if t.pcs = 0 && !t.rdOut && !t.drop then finishTx k t s else showTx k t false (putTx k t s)

/-- The completion of a read or ownership request (R159). -/
def cmpOf (s : State) (t : HomeTx) : Opc :=
  let self := t.from_ = 2 && dhnOf s t.msg.mid.toNat == some t.vec
  match t.cls with
  | .rdS => if self then .cmpE else .cmpS
  | .rdA | .invA => .cmpE
  | .rdI => if self then .cmpE else .cmp
  | _ => .cmp

/-- A parked payload that covers only part of its line (R159). -/
def isPartial (s : State) (id : Nat) : Bool := match parkedOf s id with | some p => p.op == .memWrPtl && p.be != 2 ^ 64 - 1 | none => false

/-- The payload in hand is released to the pool, and dropped from the ingress. -/
def payToPool (k : Nat) (t : HomeTx) (s : State) : HomeTx × State :=
  match t.pay with
  | none => (t, s)
  | some id =>
    let (n, s) := if t.payWb then poolWrite k id t.msg s else (0, s)
    ({ t with pay := none, payWb := false, pcs := t.pcs + n }, unpark id s)

/-- What a running transaction whose snoops are all satisfied does next (R158, R159). -/
def progress (k lk : Nat) (s : State) : State :=
  match txOf s k lk with
  | none => s
  | some t =>
    if !t.runs then s
    else if t.owed != [] then showTx k t false s
    else
      match t.cls with
      | .rdS | .rdA | .rdI =>
        if t.answered then tryFinish k t s
        else if !wantsData t.msg then
          let (t, s) := payToPool k t s
          tryFinish k { t with answered := true } (answerHome (cmpOf s t) t.msg k s)
        else
          match t.pay with
          | some id =>
            if t.payWb && isPartial s id then
              let (t, s) := payToPool k t s
              showTx k t false (putTx k t s)
            else
              let s := if t.payWb then perf (264 + serving s k) 0x15 1 (some t.msg.tc) (mark t.msg.req (fun x => { x with fwd := true }) (homeBump HOME.FWDCNT.COUNT k 1 s)) else s
              let s := answerHome (cmpOf s t) t.msg k (releaseData id t.msg k s)
              let (t, s) := payToPool k t s
              tryFinish k { t with answered := true } s
          | none =>
            if t.rdOut || t.pcs != 0 then showTx k t false s
            else
              let t := { t with rdOut := true }
              showTx k t false (poolRead k t.msg (putTx k t s))
      | .invA =>
        if t.issued then tryFinish k t s
        else
          let (t, s) := payToPool k t s
          tryFinish k { t with issued := true, answered := true } (answerHome .cmpE t.msg k s)
      | .wr =>
        if t.issued then
          (if t.pcs = 0 && !t.rdOut && !t.drop then finishTx k t (answerHome .cmp t.msg k s) else s)
        else
          let (t, s) := payToPool k t s
          if t.pcs != 0 then showTx k t false (putTx k t s)
          else
          let s := match t.wb with | some w => answerHome .cmp w k s | none => s
          let t := { t with wb := none }
          let (own, s) := payOf t.msg s
          let (n, s) := match own with
            | some id => (let (n, s) := poolWrite k id t.msg s; (n, unpark id s))
            | none => (0, s)
          let t := { t with issued := true, pcs := n }
          if t.pcs = 0 && !t.rdOut && !t.drop then finishTx k t (answerHome .cmp t.msg k s) else showTx k t false (putTx k t s)
      | .evict =>
        if t.issued then tryFinish k t s
        else
          let (t, s) := payToPool k t s
          let s := match t.slot, t.claim with
            | some x, some c => addTodo k (.way c x) (freeEntry k x s)
            | some x, none => freeEntry k x s
            | none, _ => s
          tryFinish k { t with issued := true, slot := none } s
      | .atom =>
        match t.pay with
        | some id =>
          if t.payWb && isPartial s id then
            let (t, s) := payToPool k t s
            showTx k t false (putTx k t s)
          else showTx k t true s
        | none =>
          if (homeSt s k).board.any (·.lk == lk) then showTx k t true s
          else if t.rdOut || t.pcs != 0 then showTx k t false s
          else
            let t := { t with rdOut := true }
            showTx k t false (poolRead k t.msg (putTx k t s))
      | .wb | .board | .poison => tryFinish k t s
      | .cln | .nop => finishTx k t s

/-- A transaction of a request, before it runs. -/
def newTx (cls : HCls) (m : HomeMsg) : HomeTx :=
  ⟨msgLk m, cls, m, none, 0, 0, [], [], false, false, none, false, false, 0, none, false, false, none⟩

/-- Snoops go out; a departing host's is treated as answered, and a departing owner's copy as lost (R174). -/
def snoopHosts (k : Nat) (inv : Bool) (hosts : List Nat) (t : HomeTx) (s : State) : State :=
  let live := hosts.filter (fun d => !gone s d t.lk)
  let s := forL live (fun d s => sendSnoop k inv d t.msg s) s
  let t := { t with owed := live }
  match hosts.find? (fun d => t.from_ == 2 && gone s d t.lk) with
  | some d =>
    let (id, s) := lostLine k t.lk d s
    putTx k { t with pay := some id, payWb := true } s
  | none => putTx k t s

/-- The request runs from the stable state of its line (R159): snoops and pool reads go out. -/
def begin_ (k : Nat) (t : HomeTx) (s : State) : State :=
  let t := { t with runs := true }
  let h := dhnOf s t.msg.mid.toNat
  let ld := lkLd t.lk
  let holders := if t.from_ = 1 then hostsOf s k ld t.vec else if t.from_ = 2 then [t.vec] else []
  let others := holders.filter (fun d => h != some d)
  let holders := if t.from_ = 1 && s.homeG.coarse then others else holders
  let read (t : HomeTx) (s : State) : State := if wantsData t.msg then poolRead k t.msg (putTx k { t with rdOut := true } s) else putTx k t s
  let spec (s : State) : State :=
    match txOf s k t.lk with
    | some t => if t.owed != [] && s.on HOME.CFG.SPEC_RD (serving s k) && wantsData t.msg then poolRead k t.msg (putTx k { t with rdOut := true } s) else s
    | none => s
  let s := match t.cls, t.from_ with
    | .rdS, 2 => if others.isEmpty then read t s else spec (snoopHosts k false others t s)
    | .rdI, 2 => if others.isEmpty then read t s else spec (snoopHosts k false others t s)
    | .rdA, 2 => if others.isEmpty then read t s else spec (snoopHosts k true others t s)
    | .rdA, 1 =>
      let s := snoopHosts k true others t s
      match txOf s k t.lk with | some t => read t s | none => s
    | .rdS, _ | .rdI, _ | .rdA, _ => read t s
    | .invA, _ => snoopHosts k true others t s
    | .wr, _ | .evict, _ => snoopHosts k true holders t s
    | .atom, _ => snoopHosts k true holders t s
    | _, _ => putTx k t s
  progress k t.lk s

/-- A named port's REQ packets flow again once the carry queue of slice n has fallen to 64 entries (R167). -/
def unthrottle (n : Nat) (s : State) : State :=
  if carryLen s n ≤ 64 then { s with throttle := del s.throttle n } else s

/-- The carry queue of the slice that serves a share crosses the decision point of R167: at 192 entries it is reached once, until the queue falls below 64 again. -/
def carryPoint (k : Nat) (s : State) : State :=
  let n := serving s k
  let s := unthrottle n s
  if carryLen s n < 64 then modHome n (fun h => { h with armed := true }) s
  else if 192 ≤ carryLen s n && (homeSt s n).armed then
    let (held, s) := reachPoint 0 n (modHome n (fun h => { h with armed := false }) s)
    s.setB HOME.STAT.CQ_HELD held n
  else s

/-- A request whose set is wholly pinned enters the carry queue, or waits for it while it is full (R165). -/
def carryEnter (k lk : Nat) (s : State) : State :=
  let h := homeSt s k
  let n := carryLen s (serving s k)
  if n < 256 then
    let s := setHome k { h with carry := h.carry ++ [lk] } s
    carryPoint k (if n = 255 then homeFlag HOME.ESTAT.CQ_FULL k s else s)
  else homeFlag HOME.ESTAT.CQ_FULL k (setHome k { h with overflow := h.overflow ++ [lk] } s)

/-- A transaction takes a way and runs. -/
def takeWay (k slot : Nat) (t : HomeTx) (s : State) : State :=
  let s := perf (264 + serving s k) 0x12 1 (some t.msg.tc) (setEntry k slot ⟨tagOf t.lk, 8, 0, true, 0, true⟩ s)
  begin_ k { t with slot := some slot } s

/-- A victim's holders are invalidated on behalf of the request that claims its way (R164). -/
def evict (k slot : Nat) (claim : Option Nat) (m : HomeMsg) (s : State) : State :=
  match look (homeSt s k).tally slot with
  | none => s
  | some e =>
    let lk := lkOf (slot / 16) e.tag
    let m' := { m with lk := BitVec.ofNat 54 lk, wbAhead := false, atom := none, data := none, op := .memRd }
    let t := { newTx .evict m' with slot := some slot, from_ := e.state, vec := e.sharers, claim := claim, runs := true }
    begin_ k t (setEntry k slot { e with state := 11, pin := true, prior := e.state } (perf (264 + serving s k) 0x13 1 (some m.tc) (homeBump HOME.EVICTCNT.COUNT k 1 s)))

/-- A request that needs an entry asks for a way of its set (R164, R165); behind requests of the set that stand in the carry queue or wait for it, it joins them. -/
def allocate (k : Nat) (t : HomeTx) (s : State) : State :=
  if ((homeSt s k).carry ++ (homeSt s k).overflow).any (fun lk => setOf lk == setOf t.lk) then carryEnter k t.lk (putTx k t s)
  else match chooseWay k (setOf t.lk) s with
  | (.inv x, s) => takeWay k x t s
  | (.victim x, s) => evict k x (some t.lk) t.msg (putTx k t s)
  | (.full, s) => carryEnter k t.lk (putTx k t s)

/-- A board line is written back to the pool (R177). -/
def boardOut (k : Nat) (b : BoardLine) (s : State) : State :=
  let s := modHome k (fun h => { h with board := h.board.filter (·.lk != b.lk) }) s
  let m : HomeMsg := ⟨.memWr, BitVec.ofNat 54 b.lk, BitVec.ofNat 16 (0x2000 + 72 + serving s k), ⟨(72 + serving s k) % 80, Nat.mod_lt _ (by decide)⟩, 0, .i, 0, none,
    BitVec.allOnes 64, b.poison, false, BitVec.ofNat 8 (s.get ACT.COMMIT.EPOCH), BitVec.ofNat 8 (s.get BIND.STAT.EPOCH), 0, none⟩
  let (id, s) := park { pkt0 with op := .memWr, lst := 1, src := 72 + serving s k, data := [b.data], be := 2 ^ 64 - 1, poison := b.poison, payload := 64 } s
  let (n, s) := poolWrite k id m s
  putTx k { newTx .board m with runs := true, pcs := n } (unpark id s)

/-- The departure action on a stable entry (R174): a departed sharer's bit clears, and a departed owner's line is poisoned in the pool. True where a transaction now holds the line. -/
def sweepEntry (k slot : Nat) (only : Nat → Bool) (s : State) : Bool × State :=
  match look (homeSt s k).tally slot with
  | none => (false, s)
  | some e =>
    let lk := lkOf (slot / 16) e.tag
    if e.state = 1 then
      let v := ((s.homeG.departing.map (·.1)).filter (fun d => only d && gone s d lk)).foldl (fun v d => withoutHost s k v d) e.sharers
      (false, if v = e.sharers then s else if v = 0 then freeEntry k slot s else setEntry k slot { e with sharers := v } s)
    else if e.state = 2 && gone s e.sharers lk && only e.sharers then
      let (id, s) := lostLine k lk e.sharers s
      let m : HomeMsg := ⟨.memWr, BitVec.ofNat 54 lk, BitVec.ofNat 16 (0x2000 + 72 + serving s k), ⟨(72 + serving s k) % 80, Nat.mod_lt _ (by decide)⟩, 0, .i, 0, none,
        BitVec.allOnes 64, true, false, BitVec.ofNat 8 (s.get ACT.COMMIT.EPOCH), BitVec.ofNat 8 (s.get BIND.STAT.EPOCH), 0, none⟩
      let (n, s) := poolWrite k id m s
      let t := { newTx .poison m with slot := some slot, from_ := 2, vec := e.sharers, runs := true, pcs := n }
      (true, showTx k t false (putTx k t (unpark id s)))
    else (false, s)

/-- What an error in a Tally entry does to it (R172, R173): a correctable one is corrected in place; any other is counted, and the entry is freed. -/
def tallyHit (k slot : Nat) (uncorrectable : Bool) (s : State) : State :=
  if uncorrectable then
    let s := homeFlag HOME.ESTAT.ECC_UE k (homeBump HOME.UECNT.COUNT k 1 s)
    modHome k (fun h => { h with txs := h.txs.map (fun t => if t.slot = some slot then { t with slot := none } else t) }) (freeEntry k slot s)
  else perf (268 + k) 0x11 1 none (modHome k (fun h => { h with latent := del h.latent slot }) (homeBump HOME.CECNT.COUNT k 1 s))

/-- An error found in a Tally entry, by a scrub or by a lookup (R172, R173); the record of the directory die names set and way. -/
def tallyErr (k : Nat) (e : TallyErr) (s : State) : State :=
  let set := e.set % 262144
  let r := { rec0 (eDie + k) kTallyCe 0 k with addr := set + e.way.val * 2 ^ 18, akind := 4 }
  report (if e.uncorrectable then { r with kind := kTallyUe, cls := 1 } else r) (tallyHit k (set * 16 + e.way.val) e.uncorrectable s)

/-- Entries read with inverted check bits show as errors: three bits are not correctable (R150, R448). -/
def foundErrs (k : Nat) (f : Nat → Bool) (s : State) : State :=
  forL ((homeSt s k).latent.filter (fun q => f q.1)) (fun q s => tallyErr k ⟨q.1 / 16, ⟨q.1 % 16, Nat.mod_lt _ (by decide)⟩, decide (3 ≤ q.2)⟩ s) s

/-- A request is ordered (R156, R159). The lookup reads the whole set, and meets the errors that stand in it (R172, R173). -/
def orderReq (k : Nat) (cls : HCls) (m : HomeMsg) (s : State) : State :=
  let lk := msgLk m
  let s := foundErrs k (fun x => x / 16 == setOf lk) s
  let h := homeSt s k
  let front (s : State) : State := modHome k (fun h => { h with waiting := (cls, m) :: h.waiting }) s
  match h.board.find? (fun b => b.lk == lk && cls != .atom) with
  | some b => front (boardOut k b s)
  | none =>
    let (busy, s) := match tallyFind s k lk with
      | some (x, _) => sweepEntry k x (fun _ => true) s
      | none => (false, s)
    if busy then front s
    else
      let ent := tallyFind s k lk
      let s := perf (264 + serving s k) 0x10 1 (some m.tc) (perf (268 + k) 0x10 1 none s)
      let s := if ent.isSome then perf (264 + serving s k) 0x11 1 (some m.tc) s else s
      let st := match ent with | some (_, e) => e.state | none => 0
      let vec := match ent with | some (_, e) => e.sharers | none => 0
      let s := match ent with | some (x, _) => touch k x s | none => s
      let host := dhnOf s m.mid.toNat
      let cls := if cls = .wb && !(st = 2 && host == some vec) then .wr else cls
      let t := { newTx cls m with slot := ent.map (·.1), from_ := st, vec := vec }
      match cls with
      | .cln =>
        let s := match ent, host with
          | some (x, _), some d =>
            if st = 2 then (if vec = d then freeEntry k x s else s)
            else settleEntry k x 1 (withoutHost s k vec d) s
          | _, _ => s
        answerHome .cmp m k s
      | .nop => answerHome .cmp m k s
      | .wb =>
        let (id, s) := payOf m (ackWrite k m s)
        let (n, s) := match id with
          | some id => (let (n, s) := poolWrite k id m s; (n, unpark id s))
          | none => (0, s)
        progress k lk (putTx k { t with runs := true, pcs := n, wb := some m } s)
      | .wr => begin_ k t (ackWrite k m s)
      | .rdS | .rdA | .invA => if ent.isSome then begin_ k t s else allocate k t s
      | .rdI => begin_ k t s
      | .atom => if ent.isNone && h.board.any (·.lk == lk) then allocate k t s else begin_ k t s
      | .evict | .board | .poison => s

/-- Crossing case A: the owner's writeback is taken as the data of the snoop that it owes (R161). -/
def caseA (k : Nat) (t : HomeTx) (m : HomeMsg) (d : Nat) (s : State) : State :=
  let (t, s) := payToPool k t s
  let (id, s) := payOf m (ackWrite k m s)
  let t := { t with owed := without d t.owed, kept := if m.mv = .s then t.kept ++ [d] else t.kept,
                    pay := id, payWb := true, wb := some m, drop := t.drop || t.rdOut, rdOut := false }
  progress k t.lk (putTx k t (modHome k (fun h => { h with absorb := h.absorb ++ [(t.lk, d)] }) s))

/-- A slice accepts a request or a writeback (R156, R157). -/
def acceptReq (k : Nat) (cls : HCls) (m : HomeMsg) (s : State) : State :=
  let lk := msgLk m
  let h := homeSt s k
  if waitsAhead s m then modHome k (fun h => { h with ahead := h.ahead ++ [.msg cls m] }) s
  else
    match txOf s k lk with
    | some t =>
      match dhnOf s m.mid.toNat with
      | some d =>
        if (cls = .wb || cls = .wr) && t.owed.contains d && t.from_ = 2 && t.vec = d then caseA k t m d s
        else if cls = .wb then setHome k { h with waiting := (cls, m) :: h.waiting } s
        else setHome k { h with waiting := h.waiting ++ [(cls, m)] } s
      | none => setHome k { h with waiting := h.waiting ++ [(cls, m)] } s
    | none =>
      if cls != .wb && h.waiting.any (fun q => msgLk q.2 == lk) then setHome k { h with waiting := h.waiting ++ [(cls, m)] } s
      else orderReq k cls m s

/-- A snoop response is applied (R157, R160 to R162): one that a crossing case left owing is absorbed before any later snoop counts as answered. -/
def applyRsp (k : Nat) (m : HomeMsg) (s : State) : State :=
  let lk := msgLk m
  let stale (s : State) : State := homeFlag HOME.ESTAT.STALE_RSP k (homeBump HOME.STALECNT.COUNT k 1 s)
  if waitsAhead s m then modHome k (fun h => { h with ahead := h.ahead ++ [.rsp m] }) s
  else
    match dhnOf s m.mid.toNat with
    | none => stale s
    | some d =>
      let owing := match txOf s k lk with | some t => t.owed.contains d | none => false
      if (homeSt s k).absorb.contains (lk, d) then
        let s := modHome k (fun h => { h with absorb := dropOne (lk, d) h.absorb }) s
        if m.wbAhead then s else perf (264 + serving s k) 0x17 1 (some m.tc) (homeBump HOME.XCROSS.COUNT k 1 s)
      else if owing then
        match txOf s k lk with
        | some t => progress k lk (putTx k { t with owed := without d t.owed, kept := if m.op = .biRspS then t.kept ++ [d] else t.kept } s)
        | none => s
      else
        match s.homeG.conv with
        | some c => if c.owed.contains (d, lk) then { s with homeG := { s.homeG with conv := some { c with owed := c.owed.filter (· != (d, lk)) } } } else stale s
        | none => stale s

/-- Actions that became due within the step run, oldest first. -/
def drain (k : Nat) : Nat → State → State
  | 0, s => s
  | fuel + 1, s =>
    match (homeSt s k).todo with
    | [] => s
    | x :: rest =>
      let s := modHome k (fun h => { h with todo := rest }) s
      let s := match x with
        | .msg c m => acceptReq k c m s
        | .rsp m => applyRsp k m s
        | .way lk slot => match txOf s k lk with | some t => takeWay k slot t s | none => s
      drain k fuel s

/-- A bound on the actions of one step: every held message and open transaction can become due at most twice. -/
def drainFuel (s : State) (k : Nat) : Nat :=
  let h := homeSt s k
  4 + 2 * (h.txs.length + h.waiting.length + h.ahead.length + h.todo.length)

/-- Run an action of a share, everything that it makes due, and show the slice's use of its resources. -/
def homeAct (k : Nat) (f : State → State) (s : State) : State :=
  let s := f s
  carryPoint k (homeSync k (drain k (drainFuel s k) s))

/-- A request accepted at slice n. -/
def homeTake (n : Nat) (cls : HCls) (m : HomeMsg) (s : State) : State :=
  let k := shareAt s n (msgLk m)
  homeAct k (acceptReq k cls m) s

/-- A write is a writeback from the recorded owner, and otherwise a WR (R154). -/
def writeCls (s : State) (k : Nat) (m : HomeMsg) : HCls :=
  match dhnOf s m.mid.toNat with
  | some d => if ownerOf s k (msgLk m) == some d then .wb else .wr
  | none => .wr

/-- A notice that pool data is parked (R160): a payload to be dropped comes first; then the read that waits takes it. The payload is the parked one that the notice names, or the notice carries it. -/
def applyPd (k : Nat) (m : HomeMsg) (s : State) : State :=
  let lk := msgLk m
  let (id, s) := payOf m s
  let gone (s : State) : State := match id with | some i => unpark i s | none => s
  match txOf s k lk with
  | none => gone s
  | some t =>
    if t.drop then
      let t := { t with drop := false }
      progress k lk (gone (putTx k t s))
    else if t.rdOut then progress k lk (putTx k { t with rdOut := false, pay := id, payWb := false } s)
    else gone s

/-- A pool write Cmp (R160). -/
def applyPc (k : Nat) (m : HomeMsg) (s : State) : State :=
  match txOf s k (msgLk m) with
  | none => s
  | some t => progress k t.lk (putTx k { t with pcs := t.pcs - 1 } s)

/-- A BIConflict (R163): the ack follows the responses of an earlier ordered request of the host to the line, and otherwise goes at once. -/
def applyConf (k : Nat) (m : HomeMsg) (s : State) : State :=
  let lk := msgLk m
  let h := homeSt s k
  let waits (rid : Nat) : Bool := h.waiting.any (fun q => q.2.req == rid) || (voqHas rid s)
  let mine := s.frame.reqs.find? (fun r => r.2.mid == m.mid.toNat && r.2.ld == lkLd lk && r.2.dpa / 64 == lkDpa lk / 64 && r.2.toLd && r.2.op != .biConflict
    && !waits r.1 && (match txOf s k lk with | some t => t.msg.req != r.1 || t.answered | none => true))
  match mine with
  | some (rid, r) =>
    let p := { toRequester m k s with op := .biConflictAck, lst := 2, tc := r.tc }
    { s with frame := { s.frame with acks := s.frame.acks ++ [(rid, p)] } }
  | none => answerHome .biConflictAck m k s
where
  voqHas (rid : Nat) (s : State) : Bool :=
    let is (p : Pkt) : Bool := p.rid == rid && p.lst ≤ 1
    s.frame.voq.any (fun q => q.2.any (fun v => is v.p)) || s.frame.cross.any (fun q => q.2.any (fun c => c.ents.any (fun v => is v.p)))
      || s.frame.stalled.any (fun q => q.2.any is) || s.frame.egq.any (fun q => q.2.any (fun v => v.p.rid == rid && v.p.lst ≤ 1))
      || s.frame.inbox.any (fun q => q.2.any (fun p => p.rid == rid))

/-- The operation of a far atomic on a line: the new line, the old value and whether it wrote (R200). -/
def atomCompute (a : AtomOp) (d : Line) : Line × Nat × Bool :=
  let w := if a.wide then 128 else 64
  let sh := 8 * (a.lane % 64)
  let old := bitsOf d.toNat sh w
  let x := a.op0.toNat % 2 ^ w
  let y := a.op1.toNat % 2 ^ w
  let new := match a.opc with
    | 0 => (old + x) % 2 ^ w
    | 1 => x
    | 2 => if old = x then y else old
    | 3 => Nat.land old x
    | 4 => Nat.lor old x
    | _ => Nat.xor old x
  (BitVec.ofNat 512 (d.toNat - old * 2 ^ sh + new * 2 ^ sh), old, a.opc != 2 || old == x)

/-- Whether a board line may be displaced: no transaction holds it. -/
def boardFree (s : State) (k : Nat) (b : BoardLine) : Bool := (txOf s k b.lk).isNone

/-- An atomic completes (R177): the old value goes back, and the line stays on the board as its latest line, displacing the least recently used of 64. A poisoned line is left unchanged (R201). -/
def atomDone (k lk : Nat) (s : State) : State :=
  match txOf s k lk with
  | none => s
  | some t =>
    let onBoard := (homeSt s k).board.find? (·.lk == lk)
    let src : Option (Line × Bool) :=
      match t.pay with
      | some id => match parkedOf s id with
        | some p => some (nthD p.data 0 0, p.poison)
        | none => none
      | none => onBoard.map (fun b => (b.data, b.poison))
    match src with
    | none => s
    | some (d, poison) =>
      if t.cls != .atom || t.owed != [] || !t.runs then s
      else
        let a := t.msg.atom.getD ⟨1, false, 0, 0, 0⟩
        let (new, old, _) := if poison then (d, 0, false) else atomCompute a d
        let r := { toRequester t.msg k s with op := .atomicRsp, lst := 2, data := [BitVec.ofNat 512 old], poison := poison, payload := 32, home := some t.msg }
        let s := finishTx k t (enqueue r (perf (264 + serving s k) 0x18 1 (some t.msg.tc) s))
        let b : BoardLine := ⟨lk, new, poison, s.ns⟩
        let s := modHome k (fun h => { h with board := h.board.filter (·.lk != lk) ++ [b] }) s
        if !s.on HOME.CFG.BOARD_EN (serving s k) then boardOut k b s
        else if 64 < (homeSt s k).board.length then
          match (homeSt s k).board.find? (boardFree s k) with
          | some b => boardOut k b s
          | none => s
        else s

/-- A departure concerns a line: any, or those of the LD to which it is restricted (R170). -/
def leaves (ld : Option Nat) (lk : Nat) : Bool := match ld with | some n => lkLd lk == n | none => true

/-- Phase 1 of a departure at a share (R174): snoops owed by the host are treated as answered, its copy as lost where it owned the line, and records of responses it owes are dropped. -/
def departPhase1 (k d : Nat) (ld : Option Nat) (s : State) : State :=
  let s := modHome k (fun h => { h with
    absorb := h.absorb.filter (fun q => !(q.2 == d && leaves ld q.1)),
    ahead := h.ahead.filter (fun x => match x with | .rsp m => !(dhnOf s m.mid.toNat == some d && leaves ld (msgLk m)) | _ => true) }) s
  let hit := ((homeSt s k).txs.filter (fun t => t.owed.contains d && leaves ld t.lk)).map (·.lk)
  let one (lk : Nat) (s : State) : State :=
    match txOf s k lk with
    | none => s
    | some t =>
      let t := { t with owed := without d t.owed, vec := if t.from_ = 1 then withoutHost s k t.vec d else t.vec }
      if t.from_ = 2 && t.vec = d then
        let (t, s) := payToPool k t s
        let (id, s) := lostLine k lk d s
        progress k lk (putTx k { t with pay := some id, payWb := true, drop := t.drop || t.rdOut, rdOut := false } s)
      else progress k lk (putTx k t s)
  homeAct k (forL hit one) s

/-- Phase 2 of the sweeps: every entry of a share is walked (R174). -/
def departPhase2 (k : Nat) (only : Nat → Bool) (ld : Option Nat) (s : State) : State :=
  let slots := (homeSt s k).tally.filter (fun q => !q.2.pin && leaves ld (lkOf (q.1 / 16) q.2.tag))
  homeAct k (forL (slots.map (·.1)) (fun x s => (sweepEntry k x only s).2)) s

/-- The identity that stands in a message for a host that has departed: no host at all. -/
def nobody : BitVec 16 := 0xFFFF

/-- A message that a departed host had sent no longer names it, so that nothing records it later (R174). -/
def forgetMsg (s : State) (d : Nat) (ld : Option Nat) (m : HomeMsg) : HomeMsg :=
  if dhnOf s m.mid.toNat == some d && leaves ld (msgLk m) then { m with mid := nobody } else m

def forgetPkt (s : State) (d : Nat) (ld : Option Nat) (p : Pkt) : Pkt := if p.lst ≤ 1 then { p with home := p.home.map (forgetMsg s d ld) } else p

/-- A share forgets a departed host (R174): in its messages, and in what open transactions record of it. -/
def forgetShare (d : Nat) (ld : Option Nat) (k : Nat) (s : State) : State :=
  let f := forgetMsg s d ld
  let todo (x : HTodo) : HTodo := match x with | .msg c m => .msg c (f m) | .rsp m => .rsp (f m) | .way l x => .way l x
  let tx (t : HomeTx) : HomeTx :=
    if !leaves ld t.lk then t
    else { t with msg := f t.msg, wb := t.wb.map f, kept := without d t.kept, vec := if t.from_ = 1 then withoutHost s k t.vec d else t.vec }
  modHome k (fun h => { h with txs := h.txs.map tx, waiting := h.waiting.map (fun q => (q.1, f q.2)), ahead := h.ahead.map todo, todo := h.todo.map todo }) s

/-- Requests of a departed host of another device that are still held at translation are discarded (R174, R248); those of a local host go with its port (R75). -/
def forgetHeld (d : Nat) (s : State) : State :=
  let mine (q : Nat × Nat × LinkReq) : Bool := 64 ≤ q.1 && dhnOf s q.2.2.mid.toNat == some d
  let drop (l : List (Nat × Nat × LinkReq)) (s : State) : State := forL (l.filter mine) (fun q s => closeReq q.2.1 s) s
  let s := forN 2 (fun m s =>
    match migSt s m with
    | some x => drop x.held (setMig m (some { x with held := x.held.filter (fun q => !mine q) }) s)
    | none => s) s
  let s := match s.homeG.conv with
    | some c => drop c.held { s with homeG := { s.homeG with conv := some { c with held := c.held.filter (fun q => !mine q) } } }
    | none => s
  drop s.bind.backlog { s with bind := { s.bind with backlog := s.bind.backlog.filter (fun q => !mine q) } }

/-- Everything that stands in the Frame and at the slices forgets a departed host, or forgets it for one LD (R170, R174). -/
def forgetHost (d : Nat) (ld : Option Nat) (s : State) : State :=
  let f := forgetPkt s d ld
  let ent (v : VoqEnt) : VoqEnt := { v with p := f v.p }
  let fr := s.frame
  let s := forN 4 (forgetShare d ld) { s with frame := { fr with
    voq := fr.voq.map (fun q => (q.1, q.2.map ent)), cross := fr.cross.map (fun q => (q.1, q.2.map (fun c => { c with ents := c.ents.map ent }))),
    stalled := fr.stalled.map (fun q => (q.1, q.2.map f)), egq := fr.egq.map (fun q => (q.1, q.2.map (fun e => { e with p := f e.p }))),
    inbox := fr.inbox.map (fun q => (q.1, q.2.map f)) } }
  let g := s.homeG
  { s with homeG := { g with seen := g.seen.filter (fun q => !(q.1 == d && (ld == none || ld == some q.2))),
                             applied := g.applied.filter (fun q => !(dhnOf s q.1 == some d && leaves ld q.2)) } }

/-- The records of lines poisoned by a departure: one UC record for each binding (R174). A host of another device is named by its DHN, since its binding stands there (DESIGN CHOICE, log entry on hosts of other devices). -/
def poisonRecords (d : Nat) (ld : Option Nat) (j : Option Nat) (s : State) : State :=
  let mine (q : Nat × Nat × Nat × Nat) : Bool := q.1 == d && (ld == none || ld == some q.2.1)
  let s := forL (s.homeG.poisoned.filter mine) (fun q s =>
    let obj := match j with
      | some j => j
      | none => if d / 64 = s.straps.cascadeId then ((ldBindings s q.2.1).find? (fun j => s.get BIND.BT.HOST j == d % 64)).getD 0 else d
    reportEach { rec0 (eHome + fold2 q.2.2.2) kDepartPoison 1 obj with addr := q.2.2.2, akind := 1, detail := min 0xFFFFF q.2.2.1 } s) s
  { s with homeG := { s.homeG with poisoned := s.homeG.poisoned.filter (fun q => !mine q) } }

/-- A host departs from this device's slices: phase 1 runs at once, and the walk stands over until its end (R78, R174). -/
def departHost (d : Nat) (s : State) : State :=
  let s := { s with homeG := { s.homeG with
    departing := (d, none) :: s.homeG.departing.filter (· != (d, none)),
    tracker := s.homeG.tracker.filter (fun q => !(d / 64 == s.straps.cascadeId && q.1 == d % 64)),
    conv := s.homeG.conv.map (fun c => { c with owed := c.owed.filter (·.1 != d), hosts := without d c.hosts }) } }
  let s := forN 4 (fun k s => s.set HOME.STAT.SWEEP 1 k) s
  forN 4 (fun k s => departPhase1 k d none s) s

/-- The walks of a host's departure end: one UC record for each binding on which lines were poisoned, and nothing names the host any more (R174). -/
def departEnd (d : Nat) (s : State) : State :=
  let s := forN 4 (fun k s => departPhase2 k (· == d) none s) s
  let s := forgetHeld d (forgetHost d none (poisonRecords d none none s))
  let s := { s with homeG := { s.homeG with departing := s.homeG.departing.filter (· != (d, none)) } }
  if s.homeG.departing.isEmpty then forN 4 (fun k s => s.set HOME.STAT.SWEEP 0 k) s else s

/-- A sweep of both phases restricted to one host and one LD, at the commit point that removes its binding j (R170, R174). -/
def departLd (host ld j : Nat) (s : State) : State :=
  let d := localDhn s host
  let s := { s with homeG := { s.homeG with departing := (d, some ld) :: s.homeG.departing } }
  let s := forN 4 (fun k s => departPhase1 k d (some ld) s) s
  let s := forN 4 (fun k s => departPhase2 k (· == d) (some ld) s) s
  let s := forgetHost d (some ld) (poisonRecords d (some ld) (some j) s)
  { s with homeG := { s.homeG with departing := s.homeG.departing.filter (· != (d, some ld)) } }

/-- What a transaction of a failed slice leaves running at its partner (R175): pool writes that are under way, with the write or writeback that they complete. -/
def inFlight (t : HomeTx) : Option HomeTx :=
  if t.pcs = 0 then none
  else some { t with cls := if t.cls = .wr && t.issued then .wr else .board, slot := none, owed := [], kept := [], rdOut := false, drop := false, pay := none, payWb := false,
                     runs := true, answered := true, claim := none }

/-- The requests that the ports reissue for a transaction of a failed slice, from their tag records and trackers (R175): a writeback that it had taken as snoop data, and its request. -/
def reissued (t : HomeTx) : List (HCls × HomeMsg) :=
  let wb := match t.wb with | some w => if t.pcs = 0 then [(HCls.wb, w)] else [] | none => []
  match t.cls with
  | .evict | .board | .poison => wb
  | c => if t.answered || (c = .wr && t.issued && t.pcs != 0) || (c = .wb && t.wb.isSome) then wb else wb ++ [(c, t.msg)]

/-- Takeover of a failed slice by its partner (R175): transient entries revert to PRIOR and unpin, pool writes under way go on, data that waited for the slice are dropped, and every open or waiting request is reissued to the survivor. -/
def takeover (k : Nat) (s : State) : State :=
  let h := homeSt s k
  let revert (e : TallyEnt) : TallyEnt := if e.pin then { e with state := e.prior, pin := false, prior := 0 } else e
  let poisoned (x : Nat) : Bool := h.txs.any (fun t => t.cls == .poison && t.slot == some x)
  let s := (((s.set HOME.STAT.FAILED 1 k).set HOME.STAT.DEGR 1 (Nat.xor k 1)).set HOME.STAT.OT_USE 0 k).set HOME.STAT.CQ_USE 0 k
  let s := forL h.txs (fun t s => match t.pay with | some id => if t.payWb && t.wb.isSome then s else unpark id s | none => s) s
  let s := setHome k { h with tally := (h.tally.map (fun q => (q.1, revert q.2))).filter (fun q => q.2.state != 0 && !poisoned q.1),
                              txs := h.txs.filterMap inFlight, waiting := [], carry := [], overflow := [], absorb := [],
                              todo := h.ahead ++ (h.txs.flatMap reissued ++ h.waiting).map (fun q => .msg q.1 q.2), ahead := [] } s
  homeAct k id { s with throttle := del s.throttle k }

end Sys2Proof.Machine
end

