-- ==== Sys2Proof/Machine/HomeCmd.lean ====
section
/-! DEFINITION. The commands of the home slices: acceptance, the classes of messages, ordering of waiting requests, the carry queue, HMAP, scrubbing, the atomic board and the probe (R153 to R180). -/

namespace Sys2Proof.Machine

/-- The packets handed to a unit's crossbar port and not yet taken. -/
def inbox (s : State) (x : Nat) : List Pkt := lookD s.frame.inbox x []

def setInbox (x : Nat) (l : List Pkt) (s : State) : State :=
  { s with frame := { s.frame with inbox := if l.isEmpty then del s.frame.inbox x else put s.frame.inbox x l } }

/-- One message at slice n, by its class (R154). MemSpecRd to a shared region is discarded. -/
def homeMessage (n : Nat) (m : HomeMsg) (s : State) : State :=
  let k := shareAt s n (msgLk m)
  match m.op with
  | .biRspI | .biRspS | .biRspE => homeAct k (applyRsp k m) s
  | .biConflict => homeAct k (applyConf k m) s
  | .parked => homeAct k (applyPd k m) s
  | .poolWrDone => homeAct k (applyPc k m) s
  | .memWr | .memWrPtl | .pcieMemWr => homeTake n (writeCls s k m) m s
  | .memRd | .memRdData | .memRdFwd | .memRdTEE | .memInv | .memInvNT | .memClnEvct | .pcieMemRd | .d2hReq | .farAtomic =>
    homeTake n (classOf s false m) m s
  | .memSpecRd => s
  | .memData | .cmp | .cmpS | .cmpE | .biConflictAck | .biSnpInv | .biSnpData | .pcieMsg | .pcieCfg | .pcieIo | .pcieAtomic
  | .pcieCpl | .d2hRsp | .rspIHitI | .d2hData | .h2dReq | .h2dRsp | .h2dData | .atomicRsp => s

/-- HOME_REQUEST_ACCEPT (R156, R165): the slice takes the oldest message that waits at its crossbar port; while its carry queue or its open transactions are full it passes over REQ-list packets. -/
def execHomeRequestAccept (n : SliceId) (s : State) : Result :=
  let x := 72 + n.val
  .next (match takeFirst (fun p => p.lst != 0 || homeTakesReq s n) (inbox s x) with
    | none => s
    | some (p, rest) =>
      let s := setInbox x rest s
      match p.home with
      | some m => homeMessage n m s
      | none => s)

/-- RD_S (R159). -/
def execRdS (n : SliceId) (m : HomeMsg) (s : State) : Result := .next (homeTake n .rdS m s)

/-- RD_A (R159). -/
def execRdA (n : SliceId) (m : HomeMsg) (s : State) : Result := .next (homeTake n .rdA m s)

/-- RD_I (R159). -/
def execRdI (n : SliceId) (m : HomeMsg) (s : State) : Result := .next (homeTake n .rdI m s)

/-- INV_A (R159). -/
def execInvA (n : SliceId) (m : HomeMsg) (s : State) : Result := .next (homeTake n .invA m s)

/-- WB (R154, R156): a writeback from the recorded owner; from any other master the message is a WR. -/
def execWb (n : SliceId) (m : HomeMsg) (s : State) : Result := .next (homeTake n (writeCls s (shareAt s n (msgLk m)) m) m s)

/-- WR (R154, R159): a write from any master but the recorded owner, whose write is a WB. -/
def execWr (n : SliceId) (m : HomeMsg) (s : State) : Result := .next (homeTake n (writeCls s (shareAt s n (msgLk m)) m) m s)

/-- CLN (R159). -/
def execCln (n : SliceId) (m : HomeMsg) (s : State) : Result := .next (homeTake n .cln m s)

/-- NOP (R154): ordered like any request, and completed with Cmp. -/
def execNop (n : SliceId) (m : HomeMsg) (s : State) : Result := .next (homeTake n .nop m s)

/-- ATOM (R177). -/
def execAtom (n : SliceId) (m : HomeMsg) (s : State) : Result := .next (homeTake n .atom m s)

/-- CONF (R163). -/
def execConf (n : SliceId) (m : HomeMsg) (s : State) : Result :=
  let k := shareAt s n (msgLk m)
  .next (homeAct k (applyConf k m) s)

/-- RSP (R157, R160 to R162). -/
def execRsp (n : SliceId) (m : HomeMsg) (s : State) : Result :=
  let k := shareAt s n (msgLk m)
  .next (homeAct k (applyRsp k m) s)

/-- PD (R160). -/
def execPd (n : SliceId) (m : HomeMsg) (s : State) : Result :=
  let k := shareAt s n (msgLk m)
  .next (homeAct k (applyPd k m) s)

/-- PC (R160). -/
def execPc (n : SliceId) (m : HomeMsg) (s : State) : Result :=
  let k := shareAt s n (msgLk m)
  .next (homeAct k (applyPc k m) s)

/-- REQUEST_ORDERED (R156): with no transaction open for the line, its oldest waiting request is ordered. -/
def execRequestOrdered (n : SliceId) (lk : BitVec 54) (s : State) : Result :=
  let k := shareAt s n lk.toNat
  .next (if (txOf s k lk.toNat).isSome then s
    else
      match takeFirst (fun q => q.2.lk == lk) (homeSt s k).waiting with
      | some ((c, m), rest) => homeAct k (orderReq k c m) (modHome k (fun h => { h with waiting := rest }) s)
      | none => s)

/-- Requests that found the carry queue full enter it as entries free (R165). -/
def refillCarry (k : Nat) (s : State) : State :=
  modHome k (fun h =>
    let n := 256 - carryLen s (serving s k)
    { h with carry := h.carry ++ h.overflow.take n, overflow := h.overflow.drop n }) s

/-- The oldest carry-queue request of a set takes a way (R164, R165). -/
def carryTake (k set : Nat) (s : State) : State :=
  let h := homeSt s k
  match (h.carry ++ h.overflow).find? (fun lk => setOf lk == set) with
  | none => s
  | some lk =>
    match txOf s k lk, chooseWay k set s with
    | none, _ => s
    | some _, (.full, _) => s
    | some t, (w, s) =>
      let out (l : List Nat) : List Nat := match takeFirst (· == lk) l with | some (_, r) => r | none => l
      let s := modHome k (fun h => if h.carry.contains lk then { h with carry := out h.carry } else { h with overflow := out h.overflow }) s
      let s := match w with
        | .inv x => takeWay k x t s
        | .victim x => evict k x (some lk) t.msg s
        | .full => s
      refillCarry k s

/-- CARRY_QUEUE_ALLOCATE (R165). -/
def execCarryQueueAllocate (n : SliceId) (set : Fin 262144) (s : State) : Result :=
  let s := homeAct n (carryTake n set) s
  .next (if s.on HOME.STAT.DEGR n then homeAct (Nat.xor n 1) (carryTake (Nat.xor n 1) set) s else s)

/-- HMAP_WRITE (R153): a write that would make a second valid entry name a DHN is ignored. -/
def execHmapWrite (n : SliceId) (b : Fin 64) (v : Word) (s : State) : Result := atReg HOME.HMAP.DHN (fun s =>
  let d := bitsOf v.toNat 0 9
  let dup := bitOf v.toNat 9 && (List.range 64).any (fun c => c != b.val && s.on HOME.HMAP.VALID n c && s.get HOME.HMAP.DHN n c == d)
  .next (if dup then flag HOME.ESTAT.CFG_ERR (169 + n) s n
    else (s.set HOME.HMAP.DHN d n b).set HOME.HMAP.VALID (bitsOf v.toNat 9 1) n b)) s

/-- The scrub period in ns (R172). -/
def scrubNs (s : State) (n : Nat) : Nat := s.get HOME.SCRUBCFG.PERIOD n * 1000000

/-- The sets that one scrub pass reads (R150, R172). -/
def scrubReads : Nat := 262144

/-- A write of SCRUBCFG: the next pass starts at the next multiple of the new PERIOD (R172). -/
def scrubCfg (n : Nat) (s : State) : State := modHome n (fun h => { h with scrubAt := s.ns }) s

/-- The time at which the next scrub pass of slice n starts: the first multiple of PERIOD after the last start, or after the last write of PERIOD (R172). -/
def scrubDue (s : State) (n : Nat) : Nat := ((homeSt s n).scrubAt / scrubNs s n + 1) * scrubNs s n

/-- SCRUB_PASS (R172): fabric time reaches the next multiple of PERIOD and the pass runs over every set; a pass whose successor was already due sets OVERRUN. `errs` are the errors that it meets beside those that injection left. -/
def execScrubPass (n : SliceId) (errs : List TallyErr) (s : State) : Result :=
  .next (if s.get HOME.SCRUBCFG.PERIOD n = 0 then s
    else
      let due := scrubDue s n
      let s := s.reach due
      let late := due + scrubNs s n ≤ s.ns
      let s := foundErrs n (fun _ => true) (forL errs (tallyErr n) s)
      let s := perf (268 + n) 0x12 scrubReads none (s.count HOME.SCRUBSTAT.PASSES 1 n)
      let s := if late then s.set HOME.SCRUBSTAT.OVERRUN 1 n else s
      homeAct n (scrubCfg n) s)

/-- ATOMIC_DONE (R177). -/
def execAtomicDone (n : SliceId) (lk : BitVec 54) (s : State) : Result :=
  let k := shareAt s n lk.toNat
  .next (homeAct k (atomDone k lk.toNat) s)

/-- ATOM_BOARD_IDLE (R177): the line has seen no atomic for IDLE × 64 ns; 0 acts as 1. -/
def execAtomBoardIdle (n : SliceId) (lk : BitVec 54) (s : State) : Result :=
  let k := shareAt s n lk.toNat
  .next (match (homeSt s k).board.find? (·.lk == lk.toNat) with
    | none => s
    | some b =>
      if boardFree s k b then homeAct k (boardOut k b) (s.reach (b.used + max 1 (s.get HOME.ATCFG.IDLE n) * 64)) else s)

/-- An entry as it is laid out (R150), its check bits read as 0. -/
def entWord (e : TallyEnt) : Nat :=
  e.tag % 2 ^ 36 + e.state % 16 * 2 ^ 36 + e.sharers % 2 ^ 64 * 2 ^ 40 + b2n e.pin * 2 ^ 104 + e.prior % 4 * 2 ^ 105 + b2n e.nru * 2 ^ 107

/-- TALLY_PROBE (R180): a write of PROBECTL with GO at 1; the result is there at once (log entry on waits). -/
def execTallyProbe (n : SliceId) (v : Word) (s : State) : Result := atReg HOME.PROBECTL.GO (fun s =>
  .next (if !bitOf v.toNat 0 then s
    else
      let lk := s.get HOME.PROBELK.LK n
      let mine := serving s (fold2 lk) == n.val
      let hit := if mine then tallyFind s (fold2 lk) lk else none
      let s := ((s.set HOME.PROBECTL.SET (setOf lk) n).setB HOME.PROBECTL.NOT_HOME (!mine) n).setB HOME.PROBECTL.HIT hit.isSome n
      let s := s.set HOME.PROBECTL.DONE 1 n
      match hit with
      | some (x, e) => (s.set HOME.PROBECTL.WAY (x % 16) n).set HOME.PROBEDATA.ENTRY (entWord e) n
      | none => (s.set HOME.PROBECTL.WAY 0 n).set HOME.PROBEDATA.ENTRY 0 n)) s

/-- A row of die k is copied to a spare row (R172, R328): the spare record is requested and a SUBST record raised; with none left, NO_SPARE is recorded and the row stays in service (R330). -/
def substRow (k row : Nat) (s : State) : State :=
  let h := homeSt s k
  if h.rows.contains row then s
  else if 64 ≤ h.rows.length then report { rec0 eFlt kNoSpare 0 k with detail := row } s
  else
    let s := setHome k { h with rows := insertNat row h.rows, rowCe := del h.rowCe row } s
    let n := (homeSt s k).rows.length
    let s := (s.set HOME.SPARESTAT.USED n k).setB HOME.SPARESTAT.NONE (n == 64) k
    let s := if n = 64 then s.set FLT.SPARE.ROW (Nat.lor (s.get FLT.SPARE.ROW) (2 ^ k)) else s
    noteSpare (report { rec0 eFlt kSubst 0 k with detail := row } s)

/-- The rows of die k whose corrected count has reached the threshold (R172, R329). -/
def rowsDue (s : State) (k : Nat) : List Nat :=
  let thr := s.get FLT.SUBTHR.ROW
  ((homeSt s k).rowCe.filter (fun q => thr != 0 && thr ≤ q.2 && !(homeSt s k).rows.contains q.1)).map (·.1)

/-- A corrected error counts against its row; at the threshold the decision point of GCTL.ASSIST bit 5 is reached, unless the die has no spare row (R172, R328 to R330). -/
def countRow (k row n : Nat) (s : State) : State :=
  let thr := s.get FLT.SUBTHR.ROW
  let old := lookD (homeSt s k).rowCe row 0
  let s := modHome k (fun h => { h with rowCe := put h.rowCe row (old + n) }) s
  if thr = 0 || old + n < thr || thr ≤ old || (homeSt s k).rows.contains row then s
  else if 64 ≤ (homeSt s k).rows.length then report { rec0 eFlt kNoSpare 0 k with detail := row } s
  else if (heldDec s 5 (eDie + k)).isSome then s
  else
    let (held, s) := reachPoint 5 (eDie + k) s
    if held then s else substRow k row s

end Sys2Proof.Machine
end

