-- ==== Sys2Proof/Machine/Link.lean ====
section
/-! DEFINITION. What a port controller does with packets: tags, messages on the link, encryption at pool ports, completions of lost targets (R69 to R75, R138, R142, R263, R264). -/

namespace Sys2Proof.Machine

/-- TAGSTAT shows the tags held and their peak (R80). -/
def tagSync (p : Nat) (s : State) : State :=
  let n := (portSt s p).tags.length
  (s.set PORT.TAGSTAT.IN_USE n p).set PORT.TAGSTAT.PEAK (max n (s.get PORT.TAGSTAT.PEAK p)) p

/-- The reserve of a protocol (R70). -/
def tagReserve (s : State) (p pr : Nat) : Nat := s.get (nthD [PORT.TAGCFG.RSV_IO, PORT.TAGCFG.RSV_MEM] pr PORT.TAGCFG.RSV_CACHE) p

/-- Where a request draws its tag from, if it may (R69, R70): its protocol's reserve, the 32 tags that only sent requests draw, or the shared remainder. A sent request leaves the remainder for last (DESIGN CHOICE, log entry on tags). -/
def tagPool (s : State) (p pr : Nat) (sent : Bool) : Option Nat :=
  let tags := (portSt s p).tags
  let rsv := tagReserve s p
  let held (k : Nat) : Nat := (tags.filter (fun e => e.pool == k)).length
  let mine := (tags.filter (fun e => e.pool == 0 && e.proto == pr)).length
  if 1024 ≤ tags.length then none
  else if mine < rsv pr then some 0
  else if sent && held 2 < 32 then some 2
  else if held 1 + 32 < 1024 - (rsv 0 + rsv 1 + rsv 2) then some 1
  else none

/-- Whether a request may draw a tag. -/
def tagFor (s : State) (p pr : Nat) (sent : Bool) : Bool := (tagPool s p pr sent).isSome

/-- The lowest tag number not in use: which free value a request draws is open (DESIGN CHOICE, log entry on tags). -/
def tagNumber (s : State) (p : Nat) : Nat :=
  let tags := (portSt s p).tags
  ((List.range 1024).find? (fun t => tags.all (·.tag != t))).getD 0

/-- A tag is drawn. -/
def drawTag (p : Nat) (e : Nat → TagEnt) (s : State) : Nat × State :=
  let t := tagNumber s p
  let k := (tagPool s p (e t).proto (e t).sent).getD 1
  (t, perf p 0x14 1 none (tagSync p (modPort p (fun x => { x with tags := x.tags ++ [{ e t with pool := k }] }) s)))

/-- Tags that satisfy `f` are freed. -/
def freeTags (p : Nat) (f : TagEnt → Bool) (s : State) : State :=
  tagSync p (modPort p (fun x => { x with tags := x.tags.filter (fun e => !f e) }) s)

/-- The tag that a port drew for a request it received. -/
def recvTag (s : State) (p rid : Nat) : Option TagEnt := (portSt s p).tags.find? (fun e => !e.sent && e.rid == rid)

/-- The response that a request's protocol takes in place of a CXL.mem one: a completion for PCIe, H2D messages for CXL.cache; none where the protocol has no such message. -/
def rspOp (req op : Opc) : Option Opc :=
  if isPcie req then
    match op with
    | .memData => some .pcieCpl
    | .cmp | .cmpS | .cmpE => none
    | o => some o
  else if isCache req then
    match op with
    | .memData => some .h2dData
    | .cmp | .cmpS | .cmpE => some .h2dRsp
    | o => some o
  else some op

/-- DevLoad of a response that port p sends to its host (R73): 0 on CXL 1.1, and absent from CXL.io. -/
def devLoadOf (s : State) (p : Nat) (pool : Option Nat) (lvl : Nat) : Nat :=
  if s.get PORT.STAT.PROTO p < 2 then 0
  else
    match s.get PORT.DLCTL.MODE p with
    | 0 => match pool with | some d => max d lvl | none => lvl
    | 1 => match pool with | some d => d | none => lvl
    | 2 => lvl
    | _ => s.get PORT.DLCTL.FORCE p

/-- Plaintext lines as a link carries them. -/
def clear_ (l : List Line) : List Cipher := l.map (fun d => ⟨0, 0, d⟩)

/-- A completion that ACS redirects leaves towards the host, and waits under a tag of the host's port until the host sends it back down (R62). -/
def redirected (p : Nat) (k : Pkt) (s : State) : State :=
  match reqOf s k.rid with
  | none => s
  | some r =>
    if k.op != .pcieCpl || egressOf s r.x == p then s
    else
      let cto := max 50 (min 1000000 (s.get PORT.CTO.VALUE p)) * 1000
      let (t, s) := drawTag p (fun t => ⟨t, true, 0, k.rid, s.ns + cto, false, none, r.op, some { pkt0 with op := r.op, orig := r.x, rid := k.rid, tc := r.tc, mid := r.mid }, 1⟩) s
      s.emit (.link p ⟨.pcieCpl, t, 0, 0, k.mv, clear_ k.data, k.be, k.poison, 0, k.status, 0⟩)

/-- A response leaves for the link partner that asked; after its last one the tag is freed (R69, R75). -/
def sendRsp (p : Nat) (k : Pkt) (s : State) : State :=
  match recvTag s p k.rid with
  | none => redirected p k s
  | some e =>
    let dl := if isPcie e.opc || s.get PORT.CFG.ROLE p != 1 then 0 else devLoadOf s p k.devLoad k.clvl
    let s := match rspOp e.opc k.op with
      | some o =>
        let s := if 2 ≤ dl then perf p 0x19 1 (some k.tc) s else s
        (injected 6 p 1 s).emit (.link p ⟨o, k.tag, 0, 0, k.mv, clear_ k.data, k.be, k.poison, dl, k.status, 0⟩)
      | none => s
    let more := (reqOf s k.rid).isSome || (egq s p).any (fun q => q.p.rid == k.rid && q.p.lst == 2)
    if more then s else freeTags p (fun f => !f.sent && f.rid == k.rid) s

/-- A response packet to the originator of an open request (R86). -/
def rspPkt (rid : Nat) (r : Req) (src : Nat) (op : Opc) : Pkt :=
  { pkt0 with op := op, lst := 2, src := src, orig := src, dest := r.x, tag := r.tag, rid := rid, tc := r.tc, mid := r.mid, ruleEp := r.ruleEp,
              bindEp := r.bindEp, ld := r.ld, dpa := r.dpa, toLd := r.toLd, clvl := r.clvl, ddev := r.odev, dxp := r.oxp }

/-- A response of `src` to an open request crosses the Frame. -/
def reply (rid src : Nat) (op : Opc) (f : Pkt → Pkt) (s : State) : State :=
  match reqOf s rid with
  | some r => enqueue (f (rspPkt rid r src op)) s
  | none => s

/-- The responses that a lost target owes (R75): every response that the opcode requires. A read that went to a home owes a completion beside its data. -/
def lostOps (op : Opc) (shared : Bool) : List Opc :=
  match op with
  | .memRd | .memRdData | .memRdFwd | .memRdTEE => if shared then [.memData, .cmp] else [.memData]
  | .memWr | .memWrPtl | .memInv | .memInvNT | .memClnEvct => [.cmp]
  | .pcieMemRd | .pcieCfg | .pcieIo | .pcieAtomic => [.pcieCpl]
  | .biConflict => [.biConflictAck]
  | .h2dReq => [.rspIHitI]
  | .d2hReq => [.h2dRsp]
  | .farAtomic => [.atomicRsp]
  | .memSpecRd | .pcieMemWr | .pcieMsg | .biSnpInv | .biSnpData => []
  | .biRspI | .biRspS | .biRspE | .memData | .cmp | .cmpS | .cmpE | .biConflictAck | .pcieCpl | .d2hRsp | .rspIHitI | .d2hData | .h2dRsp | .h2dData
  | .atomicRsp | .parked | .poolWrDone => []

/-- A lost target's response: data all zeros and poisoned, completions with status Unsupported Request (R75). -/
def lostFill (p : Pkt) : Pkt :=
  match p.op with
  | .memData => { p with data := [0], poison := true, payload := 64 }
  | .pcieCpl => { p with status := .unsupported }
  | .atomicRsp => { p with data := [0], poison := true, payload := 32 }
  | _ => p

/-- A pool write is lost: its LD counts it and keeps the first DPA (R77). -/
def loseWrite (ld dpa : Nat) (s : State) : State :=
  let l := lookD s.bind.lost ld (0, dpa)
  { s with bind := { s.bind with lost := put s.bind.lost ld (l.1 + 1, l.2) } }

/-- A notice from port p to the home slice that waits (R155, R160): pool data parked under `id`, or a pool write done. -/
def noticeHome (p : Nat) (op : Opc) (k : Pkt) (m : HomeMsg) (id : Nat) (s : State) : State :=
  let x := 72 + serving s (fold2 m.lk.toNat)
  enqueue { pkt0 with op := op, lst := 2, src := p, orig := p, dest := x, rid := k.rid, tc := k.tc, mid := k.mid, ruleEp := k.ruleEp, bindEp := k.bindEp,
                      ld := k.ld, dpa := k.dpa, shared := true, deriv := true, own := true, home := some { m with op := op, req := id, data := none, wbAhead := false } } s

/-- Pool data for a home is parked at port p with the DevLoad that the pool stated (R73), and the home is told (R155). Data that the port made itself have no link credit behind them. -/
def parkFor (p : Nat) (k : Pkt) (m : HomeMsg) (data : List Line) (poison : Bool) (dl : Option Nat) (own : Bool) (s : State) : State :=
  let (id, s) := park { pkt0 with op := .memData, lst := 2, src := p, orig := p, data := data, poison := poison, payload := 64, tc := k.tc, ld := k.ld, dpa := k.dpa, devLoad := dl, own := own } s
  noticeHome p .parked k m id s

/-- A request of a home to a lost pool, answered in the form of R75. -/
def lostHome (p : Nat) (k : Pkt) (m : HomeMsg) (s : State) : State :=
  if isWrite k.op || k.op == .pcieMemWr then noticeHome p .poolWrDone k m 0 (if k.toLd then loseWrite k.ld k.dpa s else s)
  else parkFor p k m [0] true none true s

/-- A read that crosses to another device does not know yet whether the line is shared: `left` holds this number plus its lines until its first response (R247). -/
def remoteMark : Nat := 4096

/-- A request that a flush or a timeout completed counts as completed for the drains, while its responses are still under way (R79, R88). -/
def finished (rid : Nat) (s : State) : State :=
  match reqOf s rid with
  | none => s
  | some r => { s with frame := { s.frame with reqs := put s.frame.reqs rid { r with done := true } } }

/-- A write is still to be carried out elsewhere too: at a migration's destination (R143), or in its bitmap (R138). -/
def moreWrites (s : State) (rid : Nat) : Bool := match reqOf s rid with | some q => 1 < q.left && q.left < remoteMark | none => false

/-- A request towards a lost target beyond port p is completed to its originator, and counted in ERRCPL of the port (R75). -/
def lostReply (p : Nat) (k : Pkt) (s : State) : State :=
  let s := perf p 0x18 1 (some k.tc) (s.bump PORT.ERRCPL.COUNT 1 p)
  let write := isWrite k.op || k.op == .pcieMemWr
  if write && moreWrites s k.rid then answerReq k.rid (if k.toLd then loseWrite k.ld k.dpa s else s)
  else
  match k.home, decide (72 ≤ k.orig ∧ k.orig < 76) with
  | some m, true => if write || (reqOf s k.rid).isSome then lostHome p k m s else s
  | _, _ =>
    let s := if k.toLd && write then loseWrite k.ld k.dpa s else s
    match reqOf s k.rid with
    | some _ => finished k.rid (forL (lostOps k.op k.shared) (fun o s => reply k.rid p o (fun c => { lostFill c with own := true }) s) s)
    | none => s

/-- A packet at the egress of a port that is FLUSHING or DOWN (R75). -/
def deadEgress (p : Nat) (k : Pkt) (s : State) : State :=
  if k.lst = 2 then
    let more := (reqOf s k.rid).isSome || (egq s p).any (fun q => q.p.rid == k.rid && q.p.lst == 2)
    let s := s.bump PORT.FLUSH_RSP.COUNT 1 p
    if more then s else freeTags p (fun f => !f.sent && f.rid == k.rid) s
  else
    match k.op with
    | .biSnpInv | .biSnpData => s
    | .pcieMemWr | .pcieMsg | .memSpecRd =>
      let s := s.bump PORT.FLUSH_REQ.COUNT 1 p
      match k.home with
      | some m => lostHome p k m s
      | none => if k.toLd && k.op == .pcieMemWr then loseWrite k.ld k.dpa s else s
    | _ => lostReply p k s

/-- The block of 64 KiB that an offset lies in. -/
def blockOf (dpa : Nat) : Nat := dpa / 65536

/-- The header of a bitmap area (R138): the LD, the sequence number of MIG_START, and the CRC-32 of these 16 bytes. The places of the fields are the model's (DESIGN CHOICE, log entry on the bitmap). -/
def bmHeader (ld start : Nat) : Nat :=
  ld + start * 2 ^ 64 + crc32 ((List.range 16).map (fun i => bitsOf (ld + start * 2 ^ 64) (8 * i) 8)) * 2 ^ 128

/-- The 64 bytes of the bitmap in which a block's bit lies. -/
def bmLine (x : MigSt) (b : Nat) : Line :=
  BitVec.ofNat 512 ((x.dirty.filter (fun d => d / 512 == b / 512)).foldl (fun a d => a + 2 ^ (d % 512)) 0)

/-- A line of a slot's bitmap goes out to the bitmap area as one pool write, from crossbar port x and on behalf of request `rid` of packet k (R138). -/
def bmWrite (m x b rid : Nat) (k : Pkt) (s : State) : State :=
  match migSt s m with
  | none => s
  | some y =>
    enqueue { pkt0 with op := .memWr, lst := 1, src := x, orig := k.orig, dest := y.dport, tc := k.tc, mid := k.mid, ruleEp := k.ruleEp, bindEp := k.bindEp, rid := rid, home := k.home,
                        ld := k.ld, dpa := k.dpa, addr := s.get BIND.MIG.MBM.BASE m * 4096 + 64 + 64 * (b / 512), data := [bmLine y b], be := 2 ^ 64 - 1, payload := 64,
                        len := 64, own := true, deriv := true } s

/-- A write to a migrating LD sets the bit of its block (R138). -/
def setDirty (m b : Nat) (s : State) : State :=
  let s := modMig m (fun x => { x with dirty := insertNat b x.dirty }) s
  match migSt s m with
  | some x => s.set BIND.MIG.MDIRTY.BLOCKS x.dirty.length m
  | none => s

/-- The same for a write that leaves the Frame otherwise than through a pool port. -/
def markDirty (ld dpa : Nat) (s : State) : State :=
  match migOf s ld with
  | none => s
  | some m => if migPhase s m = 5 then s else setDirty m (blockOf dpa) s

/-- The blocks that a write touches have their bits set and written through; a bit that was clear adds a pool write, and the write completes only after that one too (R138). -/
def dirtyWrite (p : Nat) (k : Pkt) (s : State) : State :=
  match migOf s k.ld with
  | none => s
  | some m =>
    if migPhase s m = 5 || k.mirror then s
    else
      let bs := ((List.range (max 1 k.data.length)).map (fun i => blockOf (k.dpa + 64 * i))).eraseDups
      forL bs (fun b s =>
        if (match migSt s m with | some x => x.dirty.contains b | none => true) then s
        else
          let s := setDirty m b s
          let s := match reqOf s k.rid with
            | some r => if r.posted then s else { s with frame := { s.frame with reqs := put s.frame.reqs k.rid { r with left := r.left + 1 } } }
            | none => s
          bmWrite m p b k.rid k s) s

/-- A write that does not cover its whole line (R264). -/
def partialWrite (k : Pkt) : Bool := (k.op == .memWrPtl || k.op == .pcieMemWr) && k.data.length ≤ 1 && k.be != 2 ^ 64 - 1

/-- The key of a pool line: the migration key for a copy to a migration's destination (R263). -/
def poolKey (s : State) (k : Pkt) (dpa : Nat) : Nat :=
  if k.mirror then match migOf s k.ld with | some m => (match migSt s m with | some x => x.key | none => 0) | none => 0
  else lineKey s k.ld dpa k.gen

/-- Lines encrypted for the pool, from the line of `dpa` upwards. -/
def sealLines (s : State) (k : Pkt) : List Cipher :=
  ((List.range k.data.length).zip k.data).map (fun q => encrypt (poolKey s k (k.dpa + 64 * q.1)) k.ld (k.dpa + 64 * q.1) q.2)

/-- The LD-ID on a pool's link, and the address there (R128, R143). -/
def poolLdid (s : State) (k : Pkt) : Nat :=
  if k.mirror then match migOf s k.ld with | some m => (match migSt s m with | some x => x.dldid | none => 0) | none => 0
  else match formerOf s k.ld k.gen with | some f => f.2 | none => s.get BIND.LD.LDID k.ld

def poolAt (s : State) (k : Pkt) : Nat :=
  if k.mirror then match migOf s k.ld with
    | some m => (match migSt s m with | some x => if x.dmld then k.dpa else x.dbase * mib256 + k.dpa | none => k.dpa)
    | none => k.dpa
  else k.addr

/-- The CXL.mem opcode that a request to an LD takes on the pool's link. -/
def poolOp (k : Pkt) : Opc :=
  match k.op with
  | .pcieMemRd | .d2hReq => .memRd
  | .pcieMemWr => .memWr
  | .memWrPtl => if partialWrite k then .memWrPtl else .memWr
  | o => o

/-- Completion timeout in ns (R71). -/
def ctoNs (s : State) (p : Nat) : Nat := max 50 (min 1000000 (s.get PORT.CTO.VALUE p)) * 1000

/-- A pool write that covers part of a line reads the line first (R264). -/
def readsFirst (k : Pkt) : Bool := k.toLd && partialWrite k

/-- The opcode that a request takes on the link of a port, and with it the tag's protocol (R69, R128, R264). -/
def wireOp (k : Pkt) : Opc := if readsFirst k then .memRd else if k.toLd then poolOp k else k.op

/-- The message of a request on the link, under tag t. -/
def reqMsg (s : State) (p : Nat) (k : Pkt) (t : Nat) : LinkMsg :=
  if readsFirst k then ⟨.memRd, t, poolAt s k, poolLdid s k, .noOp, [], 0, false, 0, .ok, 64⟩
  else if k.toLd then ⟨poolOp k, t, poolAt s k, poolLdid s k, k.mv, sealLines s k, k.be, k.poison, 0, .ok, k.len⟩
  else match k.op with
    | .biSnpInv | .biSnpData => ⟨k.op, t, hpaOf s p k.ld k.dpa, 0, k.mv, [], 0, false, 0, .ok, 64⟩
    | o => ⟨o, t, k.addr, 0, k.mv, clear_ k.data, k.be, k.poison, 0, .ok, k.len⟩

/-- A request leaves on the link of port p: it draws a tag if it expects a response, pool lines are encrypted, and a partial write first reads its line (R69, R71, R263, R264). -/
def sendReq (p : Nat) (k : Pkt) (s : State) : State :=
  let write := isWrite k.op || k.op == .pcieMemWr
  let s := if k.toLd && write && !readsFirst k then dirtyWrite p k s else s
  let s := if k.toLd && write && !readsFirst k then perf 277 0x11 k.data.length none s else s
  if expects (wireOp k) then
    let m := if readsFirst k then some (nthD k.data 0 0, k.be) else none
    let (t, s) := drawTag p (fun t => ⟨t, true, protoOf (wireOp k), k.rid, s.ns + ctoNs s p, false, m, k.op, some k, 1⟩) s
    (injected 6 p 1 s).emit (.link p (reqMsg s p k t))
  else (injected 6 p 1 s).emit (.link p (reqMsg s p k 0))

/-- Cost handed to a port controller (R112, R359). -/
def handed (x : Nat) (k : Pkt) (s : State) : State :=
  let s := perf (176 + x) 0x10 1 (some k.tc) (perf (176 + x) 0x11 (cost k / 16) (some k.tc) s)
  if x < 64 then perfView x 0x12 (cost k / 16) (some k.tc) (bwTx x (cost k) s) else s

/-- The LD of a packet has FAILED: its port may be UP again, and still nothing reaches it (R77, R129). -/
def failedLd (s : State) (k : Pkt) : Bool := k.toLd && !k.mirror && ldDev s k.ld == s.straps.cascadeId && s.get BIND.LD.STATE k.ld == 2

/-- A packet handed to the controller of fabric port p (R75, R77, R113, R129). -/
def portHand (p : Nat) (k : Pkt) (s : State) : State :=
  let s := handed p k s
  if !isUp s p || failedLd s k then deadEgress p k s
  else if k.lst = 2 then sendRsp p k s
  else sendReq p k s

/-- The partner's credits for a list, where it has returned any (R111). -/
def partnerCredit (s : State) (p lst : Nat) : Option (Nat × Nat) :=
  ((portSt s p).credits.find? (fun c => c.1 == lst)).map (fun c => (c.2.1, c.2.2))

/-- The port holds enough link credit for a packet: one header, and data in 16 B units. A list for which the partner has stated no credit is not limited (log entry on partner credit). -/
def creditFor (s : State) (p : Nat) (k : Pkt) : Bool :=
  match partnerCredit s p k.lst with
  | some (h, d) => 1 ≤ h && ceilDiv k.payload 16 ≤ d
  | none => true

/-- Credit that a packet takes. -/
def takeCredit (p : Nat) (k : Pkt) (s : State) : State :=
  modPort p (fun x => { x with credits := x.credits.map (fun c => if c.1 = k.lst then (c.1, c.2.1 - 1, c.2.2 - ceilDiv k.payload 16) else c) }) s

/-- The link carries traffic in L0 and L0p (R53), from the first entry to L0 at the final rate (R49). -/
def linkOpen (s : State) (p : Nat) : Bool := (ltssm s p == 6 || ltssm s p == 7) && topRate s p ≤ getTrn s COL.TRN.TRNSTAT.RATE p

/-- A request waits behind a partial write of the same line (R264). -/
def behindMerge (s : State) (p : Nat) (k : Pkt) : Bool :=
  k.toLd && (portSt s p).tags.any (fun e => match e.merge, e.pkt with | some _, some q => q.ld == k.ld && q.dpa / 64 == k.dpa / 64 | _, _ => false)

/-- A head needs a tag that the port cannot draw (R70). -/
def wantsTag (s : State) (p : Nat) (k : Pkt) : Bool := k.lst != 2 && (expects k.op || k.toLd && k.op == .pcieMemWr) && !tagFor s p (protoOf k.op) true

/-- While IDE is required, an UP port carries configuration requests and DOE messages alone until every stream that it negotiated is SECURE (R273). -/
def ideWaits (s : State) (p : Nat) : Bool :=
  s.on SEC.IDE.REQ p &&
    (s.get SEC.IDE.IO_STATE p != 2 || ((s.on PORT.STAT.MEM p || s.on PORT.STAT.CACHE p) && s.get SEC.IDE.CM_STATE p != 2))

/-- Whether a fabric port may be handed a head now (R70, R111, R268, R273): a port that is not UP takes everything. -/
def portCan (p : Nat) (s : State) (k : Pkt) : Bool :=
  !isUp s p || failedLd s k || (linkOpen s p && creditFor s p k && !wantsTag s p k && !behindMerge s p k
    && !(k.toLd && !k.mirror && k.gen < rotGen && rotHolds s k.ld k.dpa)
    && !(k.lst != 2 && k.op != .pcieCfg && ideWaits s p))

end Sys2Proof.Machine
end

