-- ==== Sys2Proof/Machine/Ingress.lean ====
section
/-! DEFINITION. The ingress pipeline: unit epochs, the access check, binding translation, the region filter, holds and the choice of a destination (R64, R67, R68, R86 to R89, R129, R153 to R157, R168, R247, R279). -/

namespace Sys2Proof.Machine

/-- The master identity of a request at a fabric port follows from the port's role (R278); other crossbar ports carry it in the request. -/
def midAt (s : State) (x : Nat) (r : LinkReq) : Nat :=
  if 64 ≤ x then r.mid.toNat else if s.get PORT.CFG.ROLE x = 1 then x else 0x1000 + x

/-- Address kind of a master's requests to memory (R279). Masters of class 2, 4 and 15 name an LD in bits [63:52] and a DPA below it (log entry on LD addresses). -/
def kindOf (mid : Nat) : Nat := if midClass mid = 2 ∨ midClass mid = 4 ∨ midClass mid = 15 then 1 else 0

def ldField (r : LinkReq) : Nat := bitsOf r.addr.toNat 52 12

def addrField (mid : Nat) (r : LinkReq) : Nat := if kindOf mid = 1 then bitsOf r.addr.toNat 0 52 else r.addr.toNat

/-- Where a request resolves to. -/
inductive Dest where
  | lost (miss : Bool)
  | port (p : Nat)
  | fn (f : Nat)
  | bar2 (f : Nat)
  | cfg (t : CfgFn) (r : CfgReg)
  | ltr
  | ld (n dpa : Nat) (j : Option Nat)
  deriving DecidableEq, Repr

/-- Two ports of one virtual switch (R4, R64). -/
def sameVcs (s : State) (mid q : Nat) : Bool :=
  match masterHost s mid with
  | some h => q == h || portHost s q == some h
  | none => false

/-- ACS of the downstream switch port above the device that sends a PCIe request (R62, R64): source validation and translation blocking turn it away, request redirect sends what is bound for another downstream port of the virtual switch up to the host, and upstream forwarding does so for what is bound for the port it came from. -/
def acsDest (s : State) (mid : Nat) (r : LinkReq) (d : Dest) : Dest :=
  if midClass mid != 1 || !isPcie r.op then d
  else
    match portSlot s (mid % 64) with
    | none => d
    | some (h, v) =>
      let a := (vppbOf s h v).acs
      if (bitOf a 0 && !r.srcOk) || (bitOf a 1 && !r.atOk) then .lost false
      else
        match d with
        | .port q => if q = h then d else if q = mid % 64 then (if bitOf a 4 then .port h else .lost false) else if bitOf a 2 then .port h else d
        | .ld _ _ _ | .fn _ | .bar2 _ => if bitOf a 2 then .port h else d
        | .lost _ | .cfg _ _ | .ltr => d

/-- Binding translation and standard routing (R64, R129). A request of a component or of a data mover function that its host's decoders do not claim goes upstream to the host (R206; DEDUCED, log entry on routing). -/
def resolve (s : State) (mid : Nat) (r : LinkReq) : Dest := acsDest s mid r (
  match r.route with
  | .cfg t g => if midClass mid = 0 && r.op == .pcieCfg then .cfg t g else .lost false
  | .ltr => if midClass mid = 1 && r.op == .pcieMsg && (masterHost s mid).isSome then .ltr else .lost false
  | .port q => if sameVcs s mid q then .port q else .lost false
  | .fn f => if (fnBinding s f).map (·.1) = masterHost s mid && (masterHost s mid).isSome then .fn f else .lost false
  | .bar2 f => if (fnBinding s f).map (·.1) = masterHost s mid && (masterHost s mid).isSome then .bar2 f else .lost false
  | .mem =>
    if kindOf mid = 1 then
      let n := ldField r
      if s.on BIND.LD.VALID n && addrField mid r < s.get BIND.LD.SIZE n * mib256 then .ld n (addrField mid r) none else .lost true
    else
      match masterHost s mid with
      | none => .lost true
      | some h =>
        match translate s h r.addr.toNat with
        | .ld n dpa j => .ld n dpa (some j)
        | .port q => .port q
        | .miss => if (midClass mid = 1 || midClass mid = 3) && (upClaim s h r.addr.toNat).isNone then .port h else .lost true)

/-- A completion at ingress, as for a lost target (R75, R129, R281): it leaves on the link, and its tag is freed. A unit's request is answered through the Frame. -/
def lostIngress (x rid : Nat) (r : LinkReq) (shared : Bool) (s : State) : State :=
  let old := look s.frame.reqs rid
  let s := closeReq rid s
  if x < 64 then
    let dl := if isPcie r.op || s.get PORT.CFG.ROLE x != 1 then 0 else devLoadOf s x none 0
    let send (o : Opc) (s : State) : State :=
      let q := lostFill { pkt0 with op := o }
      match rspOp r.op o with
      | some o => s.emit (.link x ⟨o, r.tag, 0, 0, r.mv, clear_ q.data, 0, q.poison, dl, if o = .pcieCpl then .unsupported else .ok, 0⟩)
      | none => s
    freeTags x (fun e => !e.sent && e.rid == rid) (forL (lostOps r.op shared) send s)
  else
    let k : Pkt := { pkt0 with src := x, orig := x, dest := x, rid := rid, tag := r.tag, tc := r.tc, mid := r.mid.toNat,
                               ddev := (old.map Req.odev).getD 0, dxp := (old.map Req.oxp).getD 0 }
    forL (lostOps r.op shared) (fun o s => enqueue (lostFill { k with op := o, own := true }) s) s

/-- The crossbar port of the engine that an offset in BAR2 addresses (R181, R182): a window's, or the one that bit 6 of the atomic command area selects; SUM0 takes the rest. -/
def bar2Port (s : State) (off : Nat) : Nat :=
  let eng (k : Nat) : Nat := if s.on SUM.STAT.FAILED (k % 2) || s.sum.away.contains k then 1 - k % 2 else k % 2
  if off < 0x40000000 then 76 + eng (off / 0x200000)
  else if off < 0x40020000 then 76 + eng ((off - 0x40000000) / 0x100)
  else if 0x40100000 ≤ off && off < 0x40500000 then 76 + eng ((off - 0x40100000) / 0x2000)
  else if 0x60000000 ≤ off && off < 0x60001000 then 76 + eng (off / 64 % 2)
  else 76

/-- A write of the contribution area (R181, R361). -/
def isContribution (r : LinkReq) : Bool := (match r.route with | .bar2 _ => true | _ => false) && decide (r.addr.toNat % 2 ^ 31 < 0x40000000)

/-- OPC of a transaction sample (R361); none where the opcode has no class. -/
def opcClass (mid : Nat) (contrib : Bool) : Opc → Option Nat
  | .memRd | .memRdData | .memRdTEE | .memRdFwd => some 0
  | .memInv | .memInvNT => some 1
  | .memClnEvct => some 2
  | .memWr => some 3
  | .memWrPtl => some 4
  | .farAtomic => some 5
  | .d2hReq => some 7
  | .pcieMemRd => if midClass mid = 3 then some 11 else some 8
  | .pcieMemWr => if contrib then some 6 else if midClass mid = 3 then some 12 else some 9
  | .pcieAtomic => some 10
  | _ => none

/-- The interval to the next sample: fixed, or drawn (R360). -/
def nextGap (s : State) : Nat × State :=
  let n := min 20 (s.get PERF.TSCFG.NLOG)
  if s.on PERF.TSCFG.RAND then (1 + s.freeNat 512 % (2 ^ (n + 1) - 1), s.spend) else (2 ^ n, s)

/-- A request that passed the access check is looked at for sampling (R360). -/
def sampleReq (x rid dxp mid : Nat) (r : LinkReq) (ld : Option (Nat × Nat)) (shared : Bool) (s : State) : State :=
  if !s.on PERF.TSCFG.EN || s.on PERF.STAT.TSFULL || !(s.on PERF.TSCFG.ALLXP || s.get PERF.TSCFG.XP == x) then s
  else
    match opcClass mid (isContribution r) r.op with
    | none => s
    | some c =>
      let okLd := !s.on PERF.TSFILT.LDF || (match ld with | some (n, _) => n == s.get PERF.TSFILT.LD | none => false)
      if !(bitOf (s.get PERF.TSCFG.OPCMASK) c && okLd) then s
      else if 1 < s.perf.left then { s with perf := { s.perf with left := s.perf.left - 1 } }
      else
        let (g, s) := nextGap s
        let s := { s with perf := { s.perf with left := g } }
        if 64 ≤ s.perf.open_.length then s.bump PERF.TSMISS.COUNT
        else
          let e : Sample := ⟨x, dxp, r.tc, c, shared, false, false, false, 0, false, mid, (ld.map (·.1)).getD 0,
            (match ld with | some (_, a) => a | none => r.addr.toNat), ld.isSome, s.ns⟩
          { s with perf := { s.perf with open_ := put s.perf.open_ rid e } }

/-- A write of upstream port p that is open at a home on another device: its line stands in the tracker until its Cmp is back (R157; DESIGN CHOICE, log entry on hosts of other devices). -/
def farWrite (s : State) (p : Nat) (q : Req) : Bool := q.x == p && isWrite q.op && q.toLd && ldDev s q.ld != s.straps.cascadeId && s.get PORT.CFG.ROLE p == 1

/-- An upstream port holds a writeback of a line in its tracker (R157). -/
def tracked (s : State) (p lk : Nat) : Bool :=
  s.homeG.tracker.contains (p, lk) || s.frame.reqs.any (fun q => farWrite s p q.2 && lineKeyOf q.2.ld q.2.dpa == lk)

/-- Lines that the writeback tracker of a port holds. -/
def trackerUse (s : State) (p : Nat) : Nat :=
  (s.homeG.tracker.filter (·.1 == p)).length + (s.frame.reqs.filter (fun q => farWrite s p q.2)).length

/-- WB_AHEAD of a request (R157): set at an upstream port for an M2S Req to a line in its tracker, and carried from there over Beamlinks. -/
def aheadOf (s : State) (x : Nat) (r : LinkReq) (lk : Nat) : Bool :=
  if x < 64 then listOf r.op == 0 && !isPcie r.op && s.get PORT.CFG.ROLE x == 1 && tracked s x lk else r.ahead

/-- The message of a request at its home (R154). -/
def homeMsg (s : State) (x rid : Nat) (r : LinkReq) (mid lk ruleEp bindEp : Nat) (data : Option Line) (atom : Option AtomOp) : HomeMsg :=
  ⟨r.op, BitVec.ofNat 54 lk, BitVec.ofNat 16 mid, ⟨x % 80, Nat.mod_lt _ (by decide)⟩, r.tag, r.mv, r.tc, data, r.be, r.poison,
    aheadOf s x r lk, BitVec.ofNat 8 ruleEp, BitVec.ofNat 8 bindEp, rid, atom⟩

/-- The packet of a request, before its destination is known. -/
def reqPkt (x rid : Nat) (r : LinkReq) (mid ruleEp bindEp : Nat) : Pkt :=
  { pkt0 with op := r.op, lst := listOf r.op, src := x, orig := x, tc := r.tc, mid := mid, ruleEp := ruleEp, bindEp := bindEp, unitEp := r.unitEp.toNat,
              rid := rid, tag := r.tag, addr := r.addr.toNat, mv := r.mv, data := r.data, be := r.be.toNat, poison := r.poison, relaxed := r.relaxed, ido := r.ido, rqid := r.rqid.toNat,
              payload := if r.data.isEmpty then 0 else max 16 r.len, len := r.len }

/-- A request is open from its enqueue (R88); where it came from in a cascade is already noted. -/
def openAs (x rid : Nat) (r : LinkReq) (mid ruleEp bindEp : Nat) (ld : Option (Nat × Nat)) (left : Nat) (s : State) : State :=
  let old := look s.frame.reqs rid
  let q : Req := ⟨x, r.tag, r.op, r.tc, mid, ruleEp, bindEp, 0, (ld.map (·.1)).getD 0, (ld.map (·.2)).getD 0, ld.isSome, !expects r.op, s.ns, left,
    (old.map Req.odev).getD 0, (old.map Req.oxp).getD 0, if r.op = .pcieMemWr then left else 0, false⟩
  { s with frame := { s.frame with reqs := put s.frame.reqs rid q } }

/-- A binding whose host is missing from HMAP is recorded once (R153). The binding of a host of another device stands there, so its record names the DHN, once for each LD (DESIGN CHOICE, log entry on hosts of other devices). -/
def hmapMiss (k : Nat) (j : Option Nat) (mid ld : Nat) (s : State) : State :=
  let s := homeFlag HOME.ESTAT.HMAP_MISS k s
  let d := (dhnOf s mid).getD 0
  let key := match j with | some b => b | none => 2 ^ 16 + d * 4096 + ld
  if s.homeG.hmapSeen.contains key then s
  else report (rec0 (eHome + serving s k) kHmapMiss 1 (j.getD d)) { s with homeG := { s.homeG with hmapSeen := insertNat key s.homeG.hmapSeen } }

/-- Hosts that stage 4 cannot name at a home: BI at 1 and no valid HMAP entry, in exact mode (R153). -/
def unmapped (s : State) (mid k : Nat) : Bool :=
  match dhnOf s mid with
  | some d => !s.homeG.coarse && (d / 64 != s.straps.cascadeId || s.on PORT.STAT.BI (d % 64)) && (hmapOf s k d).isNone
  | none => false

/-- A fresh number for a request or a payload. -/
def freshId (s : State) : Nat × State := (s.frame.nextId, { s with frame := { s.frame with nextId := s.frame.nextId + 1 } })

/-- The lines of a request that goes to a home: one message for each (R155). -/
def lineCount (r : LinkReq) : Nat := max 1 (ceilDiv r.len 64)

/-- Stages 4 to 6 of R86 for a request to the home of a shared line: the payload of each line of a write is parked, the first under the request's number and with the credit of all, a write of a host enters the tracker, and the header crosses to the slice (R155 to R157). -/
def toHome (x rid : Nat) (r : LinkReq) (mid ruleEp bindEp ld dpa : Nat) (atom : Option AtomOp) (s : State) : State :=
  let n := lineCount r
  let reads := (isRead r.op && wantsData (homeMsg s x rid r mid 0 0 0 none none)) || r.op == .pcieMemRd || r.op == .d2hReq
  let s := openAs x rid r mid ruleEp bindEp (some (ld, dpa)) (if reads then 2 * n else n) s
  forN n (fun i s =>
    let a := dpa + 64 * i
    let lk := lineKeyOf ld a
    let x' := 72 + serving s (fold2 lk)
    let write := listOf r.op == 1 && r.op != .biConflict
    let line := nthD r.data i 0
    let s := if write then
        (let (id, s) := if i = 0 then (rid, s) else freshId s
         let p := { reqPkt x rid r mid ruleEp bindEp with data := [line], payload := if i = 0 then 64 * n else 0, ld := ld, dpa := a, shared := true }
         { s with frame := { s.frame with parked := put s.frame.parked id ⟨p, decide (72 ≤ x), 0, 0, decide (i ≠ 0 ∨ 72 ≤ x)⟩ } })
      else s
    let m := homeMsg s x rid r mid lk ruleEp bindEp none atom
    let s := if isWrite r.op && x < 64 && s.get PORT.CFG.ROLE x = 1 then { s with homeG := { s.homeG with tracker := s.homeG.tracker ++ [(x, lk)] } } else s
    enqueue { reqPkt x rid r mid ruleEp bindEp with dest := x', ld := ld, dpa := a, toLd := true, shared := true, data := [], payload := if atom.isSome then 32 else 0, home := some m, own := write } s) s

/-- Stages 4 to 6 for a private line: straight to the LD's pool port, and during MIRROR to the destination too (R22, R143). -/
def toPool (x rid : Nat) (r : LinkReq) (mid ruleEp bindEp ld dpa : Nat) (s : State) : State :=
  let write := isWrite r.op || r.op == .pcieMemWr
  let mir := match migOf s ld with
    | some m => if write && migPhase s m = 4 then (migSt s m).map (·.dport) else none
    | none => none
  let s := openAs x rid r mid ruleEp bindEp (some (ld, dpa)) (if mir.isSome then 2 else 1) s
  let k := { reqPkt x rid r mid ruleEp bindEp with dest := poolPort s ld, ld := ld, dpa := dpa, toLd := true, addr := poolAddr s ld r.addr.toNat dpa, gen := s.get SEC.LDKEY.GEN ld }
  let s := enqueue k s
  match mir with
  | some d => enqueue { k with dest := d, mirror := true, own := true } s
  | none => s

/-- An LD of another device: the request crosses to it with the LD and the DPA; without a path it waits while the device is reachable, and is otherwise lost (R247, R250). -/
def toRemote (x rid : Nat) (r : LinkReq) (mid ruleEp bindEp ld dpa : Nat) (s : State) : State :=
  let d := ldDev s ld
  match linkTo s d x (poolPort s ld) r.tc with
  | some l =>
    let reads := isRead r.op || r.op == .pcieMemRd || r.op == .d2hReq
    let m := homeMsg s x rid r mid (lineKeyOf ld dpa) ruleEp bindEp none none
    let s := openAs x rid r mid ruleEp bindEp (some (ld, dpa)) (if reads then remoteMark + lineCount r else 1) s
    enqueue { reqPkt x rid r mid ruleEp bindEp with dest := l, ld := ld, dpa := dpa, toLd := true, ddev := d, dxp := poolPort s ld, home := if m.wbAhead then some m else none } s
  | none =>
    if s.on BLKC.ROUTE.REACH d then { s with blkG := { s.blkG with held := s.blkG.held ++ [(d, x, rid, r)] } }
    else lostIngress x rid r false s

/-- A far atomic on a private line (R176, R201): its answer carries no old value, and the engine reports PRIVATE. -/
def privateAtom (x rid : Nat) (r : LinkReq) (s : State) : State :=
  let old := look s.frame.reqs rid
  enqueue { pkt0 with op := .atomicRsp, lst := 2, src := x, orig := x, dest := x, rid := rid, tag := r.tag, tc := r.tc, mid := r.mid.toNat,
                      ddev := (old.map Req.odev).getD 0, dxp := (old.map Req.oxp).getD 0 } (closeReq rid s)

/-- Stages 4 to 6 of R86 for a request to an LD. -/
def routeLd (x rid : Nat) (r : LinkReq) (mid ruleEp bindEp ld dpa : Nat) (j : Option Nat) (atom : Option AtomOp) (s : State) : State :=
  if ldDev s ld != s.straps.cascadeId then toRemote x rid r mid ruleEp bindEp ld dpa s
  else if s.get BIND.LD.STATE ld == 2 || !sharedAt s ld dpa then
    (if s.get BIND.LD.STATE ld == 2 then toPool x rid r mid ruleEp bindEp ld dpa s
     else if r.op = .farAtomic then privateAtom x rid r s
     else if r.op = .pcieAtomic then lostIngress x rid r false s else toPool x rid r mid ruleEp bindEp ld dpa s)
  else if r.op = .memSpecRd then s
  else if r.op = .pcieAtomic then lostIngress x rid r false s
  else
    let k := fold2 (lineKeyOf ld dpa)
    if unmapped s mid k then lostIngress x rid r true (hmapMiss k j mid ld s)
    else toHome x rid r mid ruleEp bindEp ld dpa atom s

/-- The migration that holds new requests to an LD (R142): QUIESCE. -/
def holdsLd (s : State) (ld : Nat) : Option Nat :=
  match migOf s ld with
  | some m => if migPhase s m = 3 then some m else none
  | none => none

/-- A host's write may be the writeback that a snoop asks of it, or that its line's home or the conversion waits for: it is the line's recorded owner, or owes a snoop (R159, R169). -/
def answersSnoop (s : State) (mid lk : Nat) : Bool :=
  match dhnOf s mid with
  | none => false
  | some d =>
    let k := fold2 lk
    ownerOf s k lk == some d || (match txOf s k lk with | some t => t.owed.contains d | none => false)
      || (match s.homeG.conv with | some c => c.owed.contains (d, lk) | none => false)

/-- The conversion holds new requests to a region once it is journalled (R169). Owners' writebacks pass, since they must reach the pool. -/
def holdsRegion (s : State) (mid ld dpa : Nat) (op : Opc) : Bool :=
  match s.homeG.conv with
  | some c => c.sealed_ && c.ld == ld && c.region == dpa / 2 ^ 21 && op != .biConflict && !(isWrite op && answersSnoop s mid (lineKeyOf ld dpa))
  | none => false

/-- HELD of the conversion shows its hold queue. -/
def convSync (s : State) : State :=
  match s.homeG.conv with
  | some c => s.set HOME.RFSTAT.HELD (min 1023 c.held.length)
  | none => s.set HOME.RFSTAT.HELD 0

/-- Bytes that a write to an LD carries, or none for a request that writes nothing. -/
def writeBytes (r : LinkReq) : Option Nat := if isWrite r.op || r.op == .pcieMemWr then some (max 64 r.len) else none

/-- Writes to the LD are throttled and have no allowance left (R140). -/
def throttled (s : State) (ld : Nat) (r : LinkReq) : Bool :=
  match migOf s ld, writeBytes r with
  | some m, some n => s.on BIND.MIG.MSTAT.THROTTLE m && migPhase s m ≤ 2 && (match migSt s m with | some x => x.allow < n | none => false)
  | _, _ => false

/-- A throttled LD admits a write against what the copy allows. -/
def takeAllow (ld : Nat) (r : LinkReq) (s : State) : State :=
  match migOf s ld, writeBytes r with
  | some m, some n => if s.on BIND.MIG.MSTAT.THROTTLE m then modMig m (fun x => { x with allow := x.allow - n }) s else s
  | _, _ => s

/-- The hold queue of 512 that a request to an LD would enter is full, or the LD is throttled, so that it stays back (R140, R142, R169). -/
def holdsBack (s : State) (mid n dpa : Nat) (r : LinkReq) : Bool :=
  (match holdsLd s n with
   | some m => (match migSt s m with | some g => 512 ≤ g.held.length | none => false)
   | none => false)
  || (holdsRegion s mid n dpa r.op && (match s.homeG.conv with | some c => 512 ≤ c.held.length | none => false))
  || throttled s n r

/-- A request that an internal unit or a Beamlink cannot put through stalls at its crossbar port. -/
def stallAt (x rid : Nat) (r : LinkReq) (s : State) : State := { s with bind := { s.bind with backlog := s.bind.backlog ++ [(x, rid, r)] } }

/-- In BLANK the access table does not apply to the debug access port (R285). -/
def dapFree (s : State) (mid : Nat) : Bool := midClass mid == 15 && s.get SEC.LCSTAT.STATE == 0

/-- A denied read of the debug access port returns all ones, and a denied write is discarded (R281). -/
def dapDenied (r : LinkReq) (s : State) : State :=
  if isRead r.op then s.emit (.link 79 ⟨.memData, r.tag, r.addr.toNat, 0, r.mv, clear_ [BitVec.ofNat 512 (2 ^ 512 - 1)], 0, false, 0, .ok, r.len⟩) else s

/-- Options that each function advertises (R5, R6, R62, R125, R205); every other one reads as absent. -/
def capHere (t : CfgFn) (c : Cap) : Bool :=
  match t with
  | .upstream => [Cap.flitMode, .tags10, .scaledCredits, .dlFeature, .l0p, .l1ss, .margining, .aer, .ptm, .doe, .ide, .sris, .ltr].contains c
  | .vppb _ => [Cap.flitMode, .tags10, .scaledCredits, .dlFeature, .l0p, .l1ss, .margining, .aer, .acs, .dpc, .ptm, .ide, .sris, .ltr, .hotPlug].contains c
  | .fn _ => [Cap.msix, .flr].contains c

/-- The port whose AER registers a function shows: the upstream port, or the device port bound to a vPPB. -/
def aerPort (s : State) (h : Nat) : CfgFn → Option Nat
  | .upstream => some h
  | .vppb v => (List.range 64).find? (fun p => portSlot s p == some (h, v.val))
  | .fn _ => none

/-- The value of a configuration word of host h's own functions (R2, R62, R125, R135, R205). The class code of a bridge and the places of the slot's bits are those of PCI Express (PRESUMED, log entry on slots); a word of which the spec states nothing is a free value. -/
def cfgRead (h : Nat) (t : CfgFn) (g : CfgReg) (s : State) : Nat × State :=
  let rev := (s.get GCTL.REV.MINOR + s.get GCTL.REV.MAJOR * 16) % 256
  let slot (f : Nat → Vppb → Nat) : Nat := match t with | .vppb v => f (h * 256 + v.val) (vppbOf s h v.val) | _ => 0
  match g with
  | .id => (0x85121D8F, s)
  | .cls => ((match t with | .fn _ => 0x08800000 | _ => 0x06040000) + rev, s)
  | .cap c => (b2n (capHere t c), s)
  | .aer => (match aerPort s h t with | some p => b2n (portSt s p).rxErr | none => 0, s)
  | .acs => (slot (fun _ x => x.acs), s)
  | .slotCtl => (slot (fun k x => x.ctl + 1024 * b2n (s.bind.powerOff.contains k)), s)
  | .slotSts => (slot (fun k x => x.sts + 64 * b2n (s.bind.present.contains k)), s)
  | .linkSts => (slot (fun k _ => 8192 * b2n (s.bind.present.contains k)), s)
  | .word _ => (s.freeNat 32, s.spend)

/-- A write of a configuration word by the host (R62, R135): ACS Control, Slot Control with the slot's power controller, and bits that a 1 clears. Other words keep what they show. -/
def cfgWrite (h : Nat) (t : CfgFn) (g : CfgReg) (v : Nat) (s : State) : State :=
  match t with
  | .vppb n =>
    let k := h * 256 + n.val
    let x := vppbOf s h n.val
    match g with
    | .acs => setVppb h n.val { x with acs := v % 32 } s
    | .slotCtl =>
      let s := setVppb h n.val { x with ctl := Nat.land v 0x1029 } s
      if bitOf v 10 then handshakeDone (fun a b => a == h && b == n.val) { s with bind := { s.bind with powerOff := insertNat k s.bind.powerOff } }
      else { s with bind := { s.bind with powerOff := without k s.bind.powerOff } }
    | .slotSts =>
      let s := setVppb h n.val { x with sts := x.sts - Nat.land x.sts v } s
      if bitOf v 0 then { s with bind := { s.bind with attention := without k s.bind.attention } } else s
    | .aer => (match aerPort s h t with | some p => if bitOf v 0 then modPort p (fun y => { y with rxErr := false }) s else s | none => s)
    | _ => s
  | .upstream => (match g with | .aer => if bitOf v 0 then modPort h (fun y => { y with rxErr := false }) s else s | _ => s)
  | .fn _ => s

/-- A configuration request to the host's own virtual switch, answered at its port. -/
def cfgAccess (x rid : Nat) (r : LinkReq) (t : CfgFn) (g : CfgReg) (s : State) : State :=
  let mine := match t with | .fn f => (fnBinding s f).map (·.1) == some x | _ => true
  if !mine then lostIngress x rid r false s
  else
    let (v, s) := if r.data.isEmpty then cfgRead x t g s else (0, cfgWrite x t g (nthD r.data 0 0).toNat s)
    let d := if r.data.isEmpty then [BitVec.ofNat 512 v] else []
    freeTags x (fun e => !e.sent && e.rid == rid) ((closeReq rid s).emit (.link x ⟨.pcieCpl, r.tag, 0, 0, r.mv, clear_ d, 0, false, 0, .ok, r.len⟩))

/-- LTR (R62): the latency tolerance of a device is kept, and the least of those in its virtual switch goes up to the host. -/
def takeLtr (p : Nat) (v : Nat) (s : State) : State :=
  let s := modPort p (fun x => { x with ltr := some v }) s
  match portHost s p with
  | none => s
  | some h =>
    let l := (List.range 64).filterMap (fun q => if portHost s q == some h && isUp s q then (portSt s q).ltr else none)
    s.emit (.ltr h (l.foldl min v))

/-- Stages 3 to 6 of R86, for a request that the access check admitted under the epochs it carries. -/
def admitReq (x rid : Nat) (r : LinkReq) (ruleEp bindEp : Nat) (atom : Option AtomOp) (s : State) : State :=
  let mid := midAt s x r
  let host := midClass mid = 0
  let view (c : Nat) (s : State) : State := if host then perfView (mid % 64) c 1 (some r.tc.val) s else s
  let s := if r.route = .mem && kindOf mid = 0 then perf 275 0x10 1 none s else s
  match resolve s mid r with
  | .lost miss => lostIngress x rid r false (if miss then perf 275 0x11 1 none (perf (96 + x) 0x13 1 (some r.tc.val) (missed s)) else s)
  | .cfg t g => cfgAccess x rid r t g s
  | .ltr => takeLtr x r.addr.toNat s
  | .port q =>
    let s := openAs x rid r mid ruleEp bindEp none 1 s
    sampleReq x rid q mid r none false (enqueue { reqPkt x rid r mid ruleEp bindEp with dest := q } s)
  | .fn f =>
    let s := openAs x rid r mid ruleEp bindEp none 1 s
    sampleReq x rid 78 mid r none false (enqueue { reqPkt x rid r mid ruleEp bindEp with dest := 78, ld := f } s)
  | .bar2 f =>
    let q := bar2Port s (r.addr.toNat % 2 ^ 31)
    let s := openAs x rid r mid ruleEp bindEp none 1 s
    sampleReq x rid q mid r none false (enqueue { reqPkt x rid r mid ruleEp bindEp with dest := q, ld := f } s)
  | .ld n dpa j =>
    let sus := match j with | some j => host && suspended s j | none => false
    if sus then lostIngress x rid r (sharedAt s n dpa) s
    else if 64 ≤ x && holdsBack s mid n dpa r then stallAt x rid r s
    else
      match holdsLd s n with
      | some m => modMig m (fun g => { g with held := g.held ++ [(x, rid, r)] }) s
      | none =>
        if holdsRegion s mid n dpa r.op then
          convSync { s with homeG := { s.homeG with conv := s.homeG.conv.map (fun c => { c with held := c.held ++ [(x, rid, r)] }) } }
        else
          let shared := sharedAt s n dpa
          let s := if shared then view 0x13 (perf (96 + x) 0x14 1 (some r.tc.val) s) else s
          let dxp := if shared then 72 + serving s (fold2 (lineKeyOf n dpa)) else poolPort s n
          routeLd x rid r mid ruleEp bindEp n dpa j atom (takeAllow n r (sampleReq x rid dxp mid r (some (n, dpa)) shared s))

/-- The ingress pipeline from stage 2 (R86). The request has its number `rid`, and its tag where it draws one. -/
def takeIn (x rid : Nat) (r : LinkReq) (atom : Option AtomOp) (s : State) : State :=
  if s.bind.backlog.any (·.1 == x) then stallAt x rid r s
  else
  let mid := midAt s x r
  let kind := kindOf mid
  let host := midClass mid = 0
  let view (c : Nat) (s : State) : State := if host then perfView (mid % 64) c 1 (some r.tc.val) s else s
  let s := match needOf r.op r.mv with | some _ => perf 276 0x10 1 none s | none => s
  let denied := match needOf r.op r.mv with
    | some op => if dapFree s mid then none else (actCheck s mid kind (ldField r) (addrField mid r) op).map (fun why => (op, why))
    | none => none
  match denied with
  | some (op, why) =>
    let s := view 0x15 (perf 276 0x11 1 none (perf (96 + x) 0x12 1 (some r.tc.val) (actDeny mid kind (ldField r) (addrField mid r) op why s)))
    if midClass mid = 15 then dapDenied r s else lostIngress x rid r false s
  | none => admitReq x rid r (s.get ACT.COMMIT.EPOCH) (s.get BIND.STAT.EPOCH) atom s

/-- A far-atomic operation as a line carries it, in the layout of R200; the lane comes with the address. -/
def atomLine (a : AtomOp) : Line :=
  BitVec.ofNat 512 (a.opc % 16 + b2n a.wide * 16 + a.op0.toNat * 2 ^ 128 + a.op1.toNat * 2 ^ 256)

def lineAtom (d : Line) (addr : Nat) : AtomOp :=
  ⟨bitsOf d.toNat 0 4, bitOf d.toNat 4, addr % 64, BitVec.ofNat 128 (bitsOf d.toNat 128 128), BitVec.ofNat 128 (bitsOf d.toNat 256 128)⟩

/-- Held requests go through the pipeline again, oldest first, and after them those that stalled behind them (R142, R169). -/
def readmit (l : List (Nat × Nat × LinkReq)) (s : State) : State :=
  let back := s.bind.backlog
  forL (l ++ back) (fun q s => takeIn q.1 q.2.1 q.2.2 (if q.2.2.op = .farAtomic then some (lineAtom (q.2.2.data.headD 0) q.2.2.addr.toNat) else none) s)
    { s with bind := { s.bind with backlog := [] } }

/-- A request of a fabric port that must stay in the link receive buffer (R140, R142, R169). -/
def holdFull (s : State) (x : Nat) (r : LinkReq) : Bool :=
  match resolve s (midAt s x r) r with
  | .ld n dpa _ => holdsBack s (midAt s x r) n dpa r
  | _ => false

/-- The writeback tracker of a port is full, so it takes no further write to a shared line (R157). -/
def trackerFull (s : State) (x : Nat) (r : LinkReq) : Bool :=
  isWrite r.op && s.get PORT.CFG.ROLE x == 1 && 512 ≤ trackerUse s x &&
    (match resolve s (midAt s x r) r with | .ld n dpa _ => sharedAt s n dpa || ldDev s n != s.straps.cascadeId | _ => false)

/-- A request received on the link of fabric port p: it draws a tag if it expects a response, or waits in the link receive buffer (R69, R70, R86). -/
def receive (p : Nat) (r : LinkReq) (s : State) : State :=
  let pr := protoOf r.op
  let wait (s : State) : State := modPort p (fun x => { x with waiting := x.waiting ++ [r] }) s
  if holdFull s p r || trackerFull s p r then wait s
  else if !expects r.op then
    let (rid, s) := freshId s
    takeIn p rid r none s
  else if !tagFor s p pr false then wait (flag PORT.ESTAT.TAG_STALL (64 + p) s p)
  else
    let (rid, s) := freshId s
    let (_, s) := drawTag p (fun t => ⟨t, false, pr, rid, 0, false, none, r.op, none, 1⟩) s
    takeIn p rid r none s

/-- A packet at crossbar ports 64 to 79 carries a stale unit epoch: it is discarded and counted (R89). -/
def staleUnit (s : State) (x ep : Nat) : Bool := 64 ≤ x && ep != s.get FRAME.XP.UNITEP.EPOCH x

def discardStale (x : Nat) (s : State) : State := perf (96 + x) 0x15 1 none (flagX FRAME.XP.ESTAT.STALE x (s.bump FRAME.XP.STALECNT.COUNT 1 x))

/-- The waiting requests of a port that can be taken are taken in order (R70). -/
def takeWaiting (p : Nat) : Nat → State → State
  | 0, s => s
  | fuel + 1, s =>
    match (portSt s p).waiting with
    | [] => s
    | r :: rest =>
      if holdFull s p r || trackerFull s p r || (expects r.op && !tagFor s p (protoOf r.op) false) then s
      else takeWaiting p fuel (receive p r (modPort p (fun x => { x with waiting := rest }) s))

end Sys2Proof.Machine
end

