-- ==== Sys2Proof/Machine/Egress.lean ====
section
/-! DEFINITION. Egress scheduling: deficit round robin, shaping, gate control lists, the fit test and sampling (R110 to R124). What a port controller does with the packets handed to it stands in Ingress.lean and Port.lean. -/

namespace Sys2Proof.Machine

/-- The time by which fabric time has reached, in ns, rounded down. -/
def gclEntry (s : State) (x l i : Nat) : Nat × Nat :=
  (s.get FRAME.EG.GCL.GATES x (l * 256 + i), s.get FRAME.EG.GCL.INTERVAL x (l * 256 + i))

/-- Position in a running list at time `now`: entry and the time at which the entry ends (R117). `base` is the start of the list's cycle 0. Before it, which a step of fabric time can bring about, the list stands at entry 0 of cycle 0 (DESIGN CHOICE, log entry on gate lists). -/
def gclAt (s : State) (x l base now : Nat) : Nat × Nat :=
  let cyc := max 1 (s.get FRAME.EG.GCLCYCLE.CYCLE x l)
  let len := s.get FRAME.EG.GCLLEN.LEN x l
  let k := (now - base) / cyc
  let start := base + k * cyc
  let rec go : Nat → Nat → Nat → Nat × Nat
    | 0, i, _ => (i, start + cyc)
    | fuel + 1, i, t =>
      let e := t + (gclEntry s x l i).2
      if i + 1 = len ∨ start + cyc ≤ e then (i, start + cyc)
      else if now < e then (i, e)
      else go fuel (i + 1) e
  go 256 0 start

/-- The list that runs now, with the start of its cycle 0: a pending one from its S on (R118, R122). -/
def runNow (s : State) (x : Nat) : Option (Nat × Nat) :=
  let g := egSt s x
  match g.pend with
  | some (l, st) => if st ≤ s.ns then some (l, st) else g.run
  | none => g.run

/-- The gates that are open: all, unless a list runs with GATE_EN (R117). -/
def gatesNow (s : State) (x : Nat) : Nat :=
  match runNow s x with
  | some (l, base) => if s.on FRAME.EG.SCHCFG.GATE_EN x then (gclEntry s x l (gclAt s x l base s.ns).1).1 else 255
  | none => 255

/-- close(t): the end of the unbroken run of entries that open t, over the current entry and at most the next four, across cycle ends and a switch to a pending list (R119). -/
def closeTime (s : State) (x t : Nat) : Nat :=
  let g := egSt s x
  match runNow s x with
  | none => 0
  | some (l0, b0) =>
    let rec go : Nat → Nat → Nat → Nat → Nat
      | 0, _, _, now => now
      | fuel + 1, l, b, now =>
        let (i, e) := gclAt s x l b now
        let (l', b', e') := match g.pend with
          | some (lp, st) => if l = l0 && now < st && st ≤ e then (lp, st, st) else (l, b, e)
          | none => (l, b, e)
        if bitOf (gclEntry s x l i).1 t then go fuel l' b' e' else now
    go 5 l0 b0 s.ns

/-- The fit test of R119; it is not applied while no list runs. -/
def fits (s : State) (x : Nat) (p : Pkt) : Bool :=
  if (runNow s x).isNone || !s.on FRAME.EG.SCHCFG.GATE_EN x then true
  else
    let u := max 1 (s.get FRAME.EG.SCHSTAT.U x)
    let unit := s.get FRAME.EG.SCHSTAT.UNIT_PS x
    s.now * 1000 + ((ceilDiv (cost p) u + 1) * unit + s.get FRAME.EG.SCHCFG.GUARD x * 1000) * 2 ^ 16
      ≤ closeTime s x p.tc * 1000 * 2 ^ 16

/-- The head that queue t offers: the oldest list head that R85 lets leave and for which `can` holds (R111). R85 keeps an order only between packets of one source. -/
def offerHead (s : State) (x t : Nat) (can : Pkt → Bool) : Option EgEnt :=
  let q := (egq s x).filter (fun e => e.p.tc == t)
  let rec go (older : List EgEnt) : List EgEnt → Option EgEnt
    | [] => none
    | e :: r =>
      let blocked := older.any (fun o => o.p.lst == e.p.lst || (o.p.orig == e.p.orig && !mayPass e.p o.p))
      if blocked || !can e.p then go (older ++ [e]) r else some e
  go [] q

/-- A head leaves its egress queue: its beats are freed and its delay is measured (R94, R123). -/
def leaveQueue (x : Nat) (e : EgEnt) (s : State) : State :=
  let s := sampleEg x s
  let s := addFreed x e.p.tc (beats e.p) (setEgq x ((egq s x).filter (fun o => o.p.uid != e.p.uid)) s)
  if 64 ≤ x then s
  else
    let g := egSt s x
    let t := e.p.tc
    let dl := s.ns - e.at_
    let g := { g with dmax := setNth g.dmax t (max dl (nthD g.dmax t 0)), dsum := setNth g.dsum t (nthD g.dsum t 0 + dl), dcnt := setNth g.dcnt t (nthD g.dcnt t 0 + 1) }
    forN 8 (fun u s => s.set FRAME.EG.Q.DEPTH.LIVE (min 2047 (qdepth s x u)) x u) (setEg x g s)

/-- Tokens that an egress spends on a packet, and its deficit (R113). -/
def pay (x t c : Nat) (s : State) : State :=
  let g := egSt s x
  let g := { g with d := setNth g.d t (nthD g.d t 0 - c) }
  let g := if s.on FRAME.EG.SCHCFG.SHAPE_EN x && s.get FRAME.EG.Q.SHAPE.RATE x t != 0 then { g with tok := setNth g.tok t (nthD g.tok t 0 - c * 2 ^ 20) } else g
  setEg x g s

/-- A head failed the fit test; after a whole cycle of failures it is forced at the next opening of its gate, which comes after the present window's end (R120). -/
def noteMisfit (x : Nat) (p : Pkt) (s : State) : State :=
  let g := egSt s x
  match runNow s x with
  | none => s
  | some (l, _) =>
    let since := lookD g.failSince p.uid s.ns
    let g := { g with failSince := put g.failSince p.uid since }
    let due := since + s.get FRAME.EG.GCLCYCLE.CYCLE x l ≤ s.ns && (look g.forced p.uid).isNone
    let g := if due then { g with forced := put g.forced p.uid (closeTime s x p.tc) } else g
    setEg x g s

/-- A forced head may leave without the fit test: its gate has closed since it was marked (R120). -/
def forcedNow (s : State) (x : Nat) (p : Pkt) : Bool := match look (egSt s x).forced p.uid with | some t => t ≤ s.ns | none => false

/-- One visit of a queue under R113, with the tests that may end it. `hand` gives a packet to the port controller. The queues of a port that is not UP are served at full rate, without gates, deficit, shaping or fit test (R99, R122). -/
def visit (x t : Nat) (can : State → Pkt → Bool) (hand : Pkt → State → State) (s : State) : State :=
  let rec go : Nat → State → State
    | 0, s => s
    | fuel + 1, s =>
      match offerHead s x t (can s) with
      | none => s
      | some e =>
        let g := egSt s x
        let c := cost e.p
        let shaped := s.on FRAME.EG.SCHCFG.SHAPE_EN x && s.get FRAME.EG.Q.SHAPE.RATE x t != 0
        let forced := forcedNow s x e.p
        if pstate s x != 3 then go fuel (hand e.p (leaveQueue x e s))
        else if !bitOf (gatesNow s x) t then s
        else if nthD g.d t 0 < c then s
        else if shaped && nthD g.tok t 0 < c * 2 ^ 20 then s
        else if !fits s x e.p && !forced then perf (176 + x) 0x16 1 (some t) (noteMisfit x e.p s)
        else
          let s := if forced then perf (176 + x) 0x15 1 (some t) (flag FRAME.EG.ESTAT.FORCED (256 + x) (s.bump FRAME.EG.OVRCNT.COUNT 1 x) x) else s
          let g := { egSt s x with forced := del (egSt s x).forced e.p.uid, failSince := del (egSt s x).failSince e.p.uid }
          go fuel (hand e.p (leaveQueue x e (pay x t c (setEg x g s))))
  go (egq s x).length s

/-- The deficit gains one quantum on a visit, up to the burst; a QCFG written since the last visit applies now, its burst first (R113, R114). -/
def gain (x t : Nat) (s : State) : State :=
  let g := egSt s x
  let q := 64 * s.get FRAME.EG.Q.QCFG.QUANTUM x t
  let b := 64 * s.get FRAME.EG.Q.QCFG.BURST x t
  setEg x { g with d := setNth g.d t (min (min (nthD g.d t 0) b + q) b), ptr := (t + 1) % 8 } s

/-- The port reaches UP: deficits 0, buckets full, forced marks clear (R122). -/
def egressUp (x : Nat) (s : State) : State :=
  let g := egSt s x
  let full (e : Ent) : List Nat := (List.range 8).map (fun t => 64 * s.get e x t * 2 ^ 20)
  setEg x { g with d := List.replicate 8 0, refilled := s.now, forced := [], failSince := [],
                   tok := full FRAME.EG.Q.SHAPE.DEPTH, pol := full FRAME.EG.Q.POLICE.DEPTH } (computeUnit x s)

/-- GATE_SPILL (R120). -/
def execGateSpill (p : PortId) (s : State) : Result :=
  .next (flag FRAME.EG.ESTAT.SPILL (256 + p) (s.bump FRAME.EG.OVRCNT.COUNT 1 p) p)

/-- QCFG_WRITE (R110, R114): QUANTUM at least 9 and BURST at least QUANTUM. -/
def execQcfgWrite (p : PortId) (t : TcId) (v : Word) (s : State) : Result := atReg FRAME.EG.Q.QCFG.QUANTUM (fun s =>
  let q := bitsOf v.toNat 0 12
  let b := bitsOf v.toNat 12 12
  .next (if behindX16 s p then s
    else if 9 ≤ q && q ≤ b then (s.set FRAME.EG.Q.QCFG.QUANTUM q p t).set FRAME.EG.Q.QCFG.BURST b p t
    else flag FRAME.EG.ESTAT.CFG_ERR (256 + p) s p)) s

/-- SHAPE_WRITE (R110, R115): SHBURST at least 9. -/
def execShapeWrite (p : PortId) (t : TcId) (v : Word) (s : State) : Result := atReg FRAME.EG.Q.SHAPE.RATE (fun s =>
  let r := bitsOf v.toNat 0 12
  let b := bitsOf v.toNat 12 12
  .next (if behindX16 s p then s
    else if 9 ≤ b then (((refill p s).set FRAME.EG.Q.SHAPE.RATE r p t).set FRAME.EG.Q.SHAPE.DEPTH b p t)
    else flag FRAME.EG.ESTAT.CFG_ERR (256 + p) s p)) s

/-- The classes that no entry of a list opens (R121). -/
def closedTcs (s : State) (x l : Nat) : Nat :=
  255 - (List.range (s.get FRAME.EG.GCLLEN.LEN x l)).foldl (fun a i => Nat.lor a (gclEntry s x l i).1) 0

/-- GCLSTAT shows the running list, its entry, the classes that no entry of it opens, and a pending list (R124). -/
def gclSync (x : Nat) (s : State) : State :=
  let g := egSt s x
  let s := s.setB FRAME.EG.GCLSTAT.PENDING g.pend.isSome x
  match g.run with
  | none => (((s.set FRAME.EG.GCLSTAT.RUN 0 x).set FRAME.EG.GCLSTAT.LIST 0 x).set FRAME.EG.GCLSTAT.ENTRY 0 x).set FRAME.EG.GCLSTAT.CLOSED_TC 0 x
  | some (l, b) =>
    (((s.set FRAME.EG.GCLSTAT.RUN 1 x).set FRAME.EG.GCLSTAT.LIST l x).set FRAME.EG.GCLSTAT.ENTRY (gclAt s x l b s.ns).1 x).set
      FRAME.EG.GCLSTAT.CLOSED_TC (closedTcs s x l) x

/-- GATE_BOUNDARY (R117): fabric time reaches the end of the current entry. -/
def execGateBoundary (p : PortId) (s : State) : Result :=
  .next (match (egSt s p).run with
    | none => s
    | some (l, b) => gclSync p (s.reach (gclAt s p l b s.ns).2))

/-- The least BASE + k × CYCLE at least 1 µs after now, and k (R118). -/
def gclStart (s : State) (x l : Nat) : Nat × Nat :=
  let base := s.get FRAME.EG.GCLBASE.BASE x l
  let cyc := max 1 (s.get FRAME.EG.GCLCYCLE.CYCLE x l)
  let t := ceilDiv s.now (2 ^ 16) + 1000
  let k := if t ≤ base then 0 else ceilDiv (t - base) cyc
  (base + k * cyc, k)

/-- Whether a gate control list is running or pending. -/
def gclInUse (s : State) (x l : Nat) : Bool := [runNow s x, (egSt s x).pend].any (fun q => match q with | some (r, _) => r == l | none => false)

/-- GCL_COMMIT (R118): a write of GCLCTL with COMMIT at 1. A list that is accepted takes the place of another that is pending (DESIGN CHOICE, log entry on gate lists). -/
def execGclCommit (p : PortId) (v : Word) (s : State) : Result := atReg FRAME.EG.GCLCTL.COMMIT (fun s =>
  let l := bitsOf v.toNat 0 1
  let s0 := s.set FRAME.EG.GCLCTL.SEL l p
  let g := egSt s p
  let len := s.get FRAME.EG.GCLLEN.LEN p l
  let bad := gclInUse s p l || len = 0 || 256 < len || (List.range len).any (fun i => (gclEntry s p l i).2 < 8) || s.get FRAME.EG.GCLCYCLE.CYCLE p l < 64
  .next (if behindX16 s p then s
    else if !bitOf v.toNat 1 then s0
    else if bad then flag FRAME.EG.ESTAT.GCL_ERR (256 + p) s0 p
    else
      let (st, k) := gclStart s p l
      let s1 := if k = 0 then s0 else flag FRAME.EG.ESTAT.LATE_BASE (256 + p) s0 p
      gclSync p (setEg p { g with pend := some (l, st) } s1))) s

/-- GCL_CANCEL (R118). -/
def execGclCancel (p : PortId) (v : Word) (s : State) : Result := atReg FRAME.EG.GCLCTL.CANCEL (fun s => .next (if behindX16 s p then s else if !bitOf v.toNat 2 then s.set FRAME.EG.GCLCTL.SEL (bitsOf v.toNat 0 1) p else gclSync p (setEg p { egSt s p with pend := none } (s.set FRAME.EG.GCLCTL.SEL (bitsOf v.toNat 0 1) p)))) s

/-- PENDING_LIST_START (R118): at S the running list stops and the pending one runs from its entry 0. -/
def execPendingListStart (p : PortId) (s : State) : Result :=
  .next (match (egSt s p).pend with
    | none => s
    | some (l, st) =>
      let s := s.reach st
      gclSync p (setEg p { egSt s p with run := some (l, st), pend := none } s))

/-- GATE_DISABLE (R118): a write of SCHCFG that clears GATE_EN stops the running list and discards the pending one. So does a write that leaves GATE_EN at 0, with lists that were committed meanwhile (DESIGN CHOICE, log entry on gate lists). -/
def execGateDisable (p : PortId) (v : Word) (s : State) : Result := atReg FRAME.EG.SCHCFG.GATE_EN (fun s =>
  let w := v.toNat
  .next (if behindX16 s p then s
    else
      let s := ((((s.set FRAME.EG.SCHCFG.GATE_EN (bitsOf w 0 1) p).set FRAME.EG.SCHCFG.SHAPE_EN (bitsOf w 1 1) p).set
        FRAME.EG.SCHCFG.POLICE_EN (bitsOf w 2 1) p).set FRAME.EG.SCHCFG.GUARD (bitsOf w 3 8) p).set FRAME.EG.SCHCFG.WINEXP (bitsOf w 11 5) p
      if bitOf w 0 then s else gclSync p (setEg p { egSt s p with run := none, pend := none } s))) s

/-- Fabric time stepped: a running list is recomputed from its BASE and TIME_STEP sets (R122). -/
def gclStep (x : Nat) (s : State) : State :=
  match (egSt s x).run with
  | none => s
  | some (l, _) =>
    let base := s.get FRAME.EG.GCLBASE.BASE x l
    gclSync x (flag FRAME.EG.ESTAT.TIME_STEP (256 + x) (setEg x { egSt s x with run := some (l, base) } s) x)

/-- The exponent of the sampling window, clamped to 10 to 30 (R123, R124). -/
def winExp (s : State) (x : Nat) : Nat := max 10 (min 30 (s.get FRAME.EG.SCHCFG.WINEXP x))

/-- EGRESS_SAMPLE_WINDOW_END (R123): the window ends at a multiple of 2^WINEXP ns, every queue latches its measures and WINSEQ increments. Egresses whose windows end at one time all latch at it: the end is the multiple that fabric time has reached, or, where the egress has latched that one, the next. -/
def execEgressSampleWindowEnd (p : PortId) (s : State) : Result :=
  let w := 2 ^ winExp s p
  let k := if (egSt s p).winAt < s.ns / w * w then s.ns / w else s.ns / w + 1
  let s := sampleEg p (s.reach (k * w))
  let g := egSt s p
  let latch (t : Nat) (s : State) : State :=
    let n := nthD g.dcnt t 0
    let avg := if n = 0 then 0 else nthD g.dsum t 0 / n
    (((s.set FRAME.EG.Q.DEPTH.WMAX (min 2047 (nthD g.wmax t 0)) p t).set FRAME.EG.Q.DAVG.WAVG (min 2047 (if g.cnt = 0 then qdepth s p t else nthD g.sum t 0 / g.cnt)) p t).set
      FRAME.EG.Q.DELAYMAX.NS (min (2 ^ 32 - 1) (nthD g.dmax t 0)) p t).set FRAME.EG.Q.DELAYAVG.NS (min (2 ^ 32 - 1) avg) p t
  let s := (forN 8 latch s).count FRAME.EG.SAMPSTAT.WINSEQ 1 p
  let z := List.replicate 8 0
  .next (setEg p { g with winAt := k * w, wmax := (List.range 8).map (fun t => qdepth s p t), sum := z, cnt := 0, dmax := z, dsum := z, dcnt := z } s)

/-- A write of an entry, BASE, CYCLE or LEN of list l: ignored with GCL_ERR while the list runs or is pending (R118), and behind a x16 port (R110). -/
def gclField (x l : Nat) (put : State → State) (s : State) : State :=
  if behindX16 s x then s
  else if gclInUse s x l then flag FRAME.EG.ESTAT.GCL_ERR (256 + x) s x
  else put s

end Sys2Proof.Machine
end

