-- ==== Sys2Proof/Machine/Time.lean ====
section
/-! DEFINITION. Fabric time: its states, references, steps and slews, the error bound, PPS_OUT and PTM (R403 to R409). -/

namespace Sys2Proof.Machine

/-- EST_ERR (R403): it grows at 50 ppm of the elapsed time in FREE and at 1 ppm in HOLDOVER, rounded up, and is the offset bound of R254 in SLAVE. A slave whose source is the master is one hop away. -/
def estErr (s : State) : Nat :=
  let el := s.ns - s.mgmt.errAt
  let e := match s.get TIME.STAT.STATE with
    | 0 => s.mgmt.errBase + ceilDiv (el * 50) 1000000
    | 3 => s.mgmt.errBase + ceilDiv el 1000000
    | 4 => if s.get BLKC.CSTAT.TSRC < 8 && s.get BLK.STAT.PEER (s.get BLKC.CSTAT.TSRC) == s.get BLKC.CSTAT.MASTER then 10 else 20
    | _ => s.mgmt.errBase
  min e (2 ^ 32 - 1)

/-- The bound and the moment from which it grows. -/
def errFrom (e : Nat) (s : State) : State := { s with mgmt := { s.mgmt with errBase := e, errAt := s.ns } }

/-- A new time state. In LOCKED the bound is some value of at most 5 ns, which the spec leaves open (R403). -/
def setTime (v : Nat) (s : State) : State :=
  if s.get TIME.STAT.STATE = v then s
  else
    let e := estErr s
    let s := if v = 2 then errFrom (s.freeNat 32 % 6) s.spend else errFrom e s
    setState TIME.STAT.STATE v 18 s

/-- A reference that disciplined fabric time is lost: TIME_ALARM with payload 0 (R342, R403). -/
def timeAlarm (payload : Nat) (s : State) : State := raise 1155 0 payload s

/-- Fabric time steps to `t`, in 2^-16 ns (R404): STEPPED, TIME_ALARM with payload 1, and the running lists of the egresses. A slew in progress ends. -/
def stepTime (t : Nat) (s : State) : State :=
  let s := { s with now := t, mgmt := { s.mgmt with slew := 0, errBase := estErr s, errAt := t / 2 ^ 16 } }
  forN 64 gclStep (timeAlarm 1 (s.set TIME.STAT.STEPPED 1))

/-- Fabric time slews by an offset in ns, at no more than 100 ppm of the time that passes (R404). -/
def slewTime (off : Int) (s : State) : State := { s with mgmt := { s.mgmt with slew := off * 2 ^ 16 } }

/-- ADJ as a signed offset. -/
def adjOf (s : State) : Int := (BitVec.ofNat 32 (s.get TIME.ADJ.OFFSET)).toInt

/-- A write of TIME.CTL (R404, R409). Disciplining ends where the software turns its reference off: without TREF_IN the last frequency is held, and without PPS_IN the phase is free (DESIGN CHOICE, log entry on references). -/
def timeCtl (v : Nat) (s : State) : State :=
  let s := putRw 32 [TIME.CTL.TREF_EN, TIME.CTL.PPS_EN, TIME.CTL.PPSOUT_EN, TIME.CTL.STEPTHR] v 0 0 s
  let st := s.get TIME.STAT.STATE
  let s := if (st = 1 ∨ st = 2) ∧ !s.on TIME.CTL.TREF_EN then timeAlarm 0 (setTime 3 s)
    else if st = 2 ∧ !s.on TIME.CTL.PPS_EN then timeAlarm 0 (setTime 1 s) else s
  let slave := s.get TIME.STAT.STATE == 4
  if slave && (bitOf v 3 || bitOf v 4) then s.set TIME.STAT.SET_ERR 1
  else
    let s := if bitOf v 3 then stepTime (s.get TIME.SET.NS * 2 ^ 16) s else s
    if bitOf v 4 then slewTime (adjOf s) s else s

/-- TIME_STEP (R404): a write of TIME.CTL with STEP. -/
def execTimeStep (v : Word) (s : State) : Result := atReg TIME.CTL.STEP (fun s => .next (timeCtl v.toNat s)) s

/-- TIME_SLEW (R404): a write of TIME.CTL with SLEW. -/
def execTimeSlew (v : Word) (s : State) : Result := atReg TIME.CTL.SLEW (fun s => .next (timeCtl v.toNat s)) s

/-- TREF_LOSS (R403): TREF_IN, or PPS_IN, is lost; time that it disciplined enters HOLDOVER. -/
def execTrefLoss (pps : Bool) (s : State) : Result :=
  let st := s.get TIME.STAT.STATE
  .next (
    if pps then
      if s.on TIME.STAT.PPS_OK then timeAlarm 0 (if st = 2 then setTime 3 (s.set TIME.STAT.PPS_OK 0) else s.set TIME.STAT.PPS_OK 0) else s
    else
      if s.on TIME.STAT.TREF_OK then timeAlarm 0 (if st = 1 ∨ st = 2 then setTime 3 (s.set TIME.STAT.TREF_OK 0) else s.set TIME.STAT.TREF_OK 0)
      else s)

/-- TREF_LOCK (R403): TREF_IN is present; a device that disciplines to it reaches FREQ. -/
def execTrefLock (s : State) : Result :=
  let st := s.get TIME.STAT.STATE
  let s := s.set TIME.STAT.TREF_OK 1
  .next (if s.on TIME.CTL.TREF_EN ∧ (st = 0 ∨ st = 3) then setTime 1 s else s)

/-- PPS_EDGE (R403, R404): with both references the device is LOCKED, and measures the edge that marks the given integer second: an offset above STEPTHR steps, a smaller one is slewed away. -/
def execPpsEdge (second : Nat) (s : State) : Result :=
  let st := s.get TIME.STAT.STATE
  let s := s.set TIME.STAT.PPS_OK 1
  .next (
    if s.on TIME.CTL.PPS_EN ∧ (st = 2 ∨ ((st = 1 ∨ st = 3) ∧ s.on TIME.CTL.TREF_EN ∧ s.on TIME.STAT.TREF_OK)) then
      let s := setTime 2 s
      let goal := second * 1000000000 * 2 ^ 16
      let off : Int := Int.ofNat goal - Int.ofNat s.now
      if max 1 (s.get TIME.CTL.STEPTHR) * 1000 * 2 ^ 16 < off.natAbs then stepTime goal s
      else { s with mgmt := { s.mgmt with slew := off } }
    else s)

/-- PPS_OUT_SECOND (R405): fabric time reaches its next integer second; PPS_OUT rises for PWIDTH ms. -/
def execPpsOutSecond (s : State) : Result :=
  .next (if s.on TIME.CTL.PPSOUT_EN then
      let s := s.reach ((s.ns / 1000000000 + 1) * 1000000000)
      let till := s.ns + s.get TIME.PPSCFG.PWIDTH * 1000000
      ({ s with mgmt := { s.mgmt with ppsHigh := till } }).emit (.ppsOut till)
    else s)

/-- PTM_REQUEST (R62, R406): the responder of an UP port answers from fabric time in integer nanoseconds. -/
def execPtmRequest (p : PortId) (s : State) : Result :=
  .next (if isUp s p && s.on PORT.CFG.PTM_EN p then s.emit (.ptm p s.ns) else s)

end Sys2Proof.Machine
end

