-- ==== Sys2Proof/Machine/Blk.lean ====
section
/-! DEFINITION. Beamlinks: beads, acknowledgement, credits, link states, the routes of a cascade and its master (R225 to R251). What a received bead does stands in BlkRx.lean, and lanes and handoff in BlkFail.lean. -/

namespace Sys2Proof.Machine

/-- Link states (R255). -/
def lOff : Nat := 0
def lDown : Nat := 1
def lTrain : Nat := 2
def lHello : Nat := 3
def lActive : Nat := 4
def lHandoff : Nat := 5
def lFenced : Nat := 6
def lHelloFail : Nat := 7

def lstate (s : State) (n : Nat) : Nat := s.get BLK.STAT.LSTATE n

/-- A link changes its state; the link is event source 160 + n. -/
def setL (n v : Nat) (s : State) : State := setState BLK.STAT.LSTATE v (160 + n) s n

def blkFlag (e : Ent) (n : Nat) (s : State) : State := flag e (160 + n) s n

def linkUp (s : State) (n : Nat) : Bool := lstate s n == lActive

def peerOf (s : State) (n : Nat) : Nat := s.get BLK.STAT.PEER n

def me (s : State) : Nat := s.straps.cascadeId

/-- The ACTIVE links to a device, in order of link number. -/
def linksTo (s : State) (d : Nat) : List Nat := (List.range 8).filter (fun l => linkUp s l && peerOf s l == d)

/-- A record of kind BLK_PROTO (R320). -/
def protoErr (n : Nat) (s : State) : State := report (rec0 (eBlk + n) kBlkProto 0 n) s

/-- The LINK reset class and the sequence state of a link (R240): all numbers 0, windows empty. -/
def linkReset (n : Nat) (s : State) : State :=
  let s := (((s.set BLK.SEQSTAT.TXNEXT 0 n).set BLK.SEQSTAT.TXACKED 0 n).set BLK.RXSTAT.RXEXP 0 n).set BLK.RXSTAT.HELD 0 n
  let s := forN 18 (fun c s => (s.set BLK.CRED.LIMIT 0 n c).set BLK.CRED.USED 0 n c) s
  modBlk n (fun b => { b with win := [], out := [], expiries := 0, interval := 0, timerAt := 0, slots := [], grants := [], csel := 0, waits := [], seen := [],
                              hello := none, macIn := false, bad := 0, sub := none, handoff := none, delay := none }) s

/-- The dedicated amounts that each side grants on entry to HELLO (R237). -/
def firstGrant (c : Nat) : Nat := if c < 8 then 64 else if c < 16 then 192 else if c = 16 then 32 else 64

/-- Bytes of link packets that lie back to back, and the DATA beads they take (R229, R231). -/
def lpBytes (ks : List LinkPkt) : Nat := (ks.map (fun k => 32 + 64 * k.data.length)).sum

def lpBeads (ks : List LinkPkt) : Nat := ceilDiv (lpBytes ks) 108

/-- The packets among `ks` that end in bead `i` of their byte stream (R231). -/
def endsIn (ks : List LinkPkt) (i : Nat) : List LinkPkt :=
  (ks.zipIdx.filter (fun q => lpBeads (ks.take (q.2 + 1)) == i + 1)).map (·.1)

/-- Credit classes of a link packet (R237). -/
def lpClass (k : LinkPkt) : Nat × Nat := if k.relay then (16, 17) else (k.tc.val, 8 + k.tc.val)

/-- Beads that are sent and not yet acknowledged (R232). -/
def unacked (s : State) (n : Nat) : Nat := wrapSub 16 (s.get BLK.SEQSTAT.TXNEXT n) (s.get BLK.SEQSTAT.TXACKED n)

/-- Retransmit interval and its cap in ns (R255). -/
def rtoNs (s : State) (n : Nat) : Nat := max 200 (s.get BLK.RTCFG.RTO n)

def rtoMaxNs (s : State) (n : Nat) : Nat := max (rtoNs s n) (s.get BLK.RTCFG.RTOMAX n)

/-- NAKMAP (R229): beads from RXEXP on that are missing while a later one is held. -/
def nakMap (s : State) (n : Nat) : Nat :=
  let held := (blkSt s n).slots.map (fun q => wrapSub 16 q.1 (s.get BLK.RXSTAT.RXEXP n))
  (List.range 64).foldl (fun a i => if !held.contains i && held.any (i < ·) then a + 2 ^ i else a) 0

/-- The header of a bead that link n sends now (R229, R230): a bead that is no DATA bead carries TXNEXT as its number. -/
def txHdr (s : State) (n : Nat) (retx : Bool) (seq : Nat) : BeadHdr :=
  let c := (blkSt s n).csel
  ⟨retx, BitVec.ofNat 16 seq, BitVec.ofNat 16 (s.get BLK.RXSTAT.RXEXP n), BitVec.ofNat 64 (nakMap s n), c, BitVec.ofNat 12 (lookD (blkSt s n).grants c 0),
    ⟨me s % 8, Nat.mod_lt _ (by decide)⟩, s.on BLKC.CSTAT.IS_MASTER⟩

/-- The 16 bytes of a header (R8, R229), with TYPE 0 DATA, 1 IDLE, 2 CTRL or 3 TIME. -/
def hdrBytes (type : Nat) (h : BeadHdr) : List Nat :=
  bytesOf 16 (type % 8 + b2n h.retx * 2 ^ 3 + h.seq.toNat * 2 ^ 4 + h.ack.toNat * 2 ^ 20 + h.nakmap.toNat * 2 ^ 36 + h.csel % 32 * 2 ^ 100 + h.cval.toNat * 2 ^ 105
    + h.sdev.val * 2 ^ 117 + b2n h.mstr * 2 ^ 120)

/-- A bead leaves on link n, and the next one carries the grant of the next class (R230). -/
def sendBead (n : Nat) (retx : Bool) (seq : Nat) (f : BeadHdr → Out) (s : State) : State :=
  (modBlk n (fun b => { b with csel := (b.csel + 1) % 18 }) s).emit (f (txHdr s n retx seq))

/-- A link packet takes its credits, and its place among those that leave in the present visit (R231, R237). -/
def takeOut (n : Nat) (k : LinkPkt) (s : State) : State :=
  let (h, d) := lpClass k
  let s := s.set BLK.CRED.USED (wrapAdd 12 (s.get BLK.CRED.USED n h) 1) n h
  modBlk n (fun b => { b with out := b.out ++ [k] }) (s.set BLK.CRED.USED (wrapAdd 12 (s.get BLK.CRED.USED n d) k.data.length) n d)

/-- The packets of a visit leave back to back in new DATA beads, the last one padded (R231): the beads take their numbers and stay in the window until they are acknowledged (R232). -/
def sendBeads (n : Nat) (s : State) : State :=
  let ks := (blkSt s n).out
  let first := s.get BLK.SEQSTAT.TXNEXT n
  let nb := lpBeads ks
  let s := modBlk n (fun b => { b with out := [], timerAt := if b.win.isEmpty then s.ns else b.timerAt, interval := if b.win.isEmpty then rtoNs s n else b.interval }) s
  let one (i : Nat) (s : State) : State :=
    let q := wrapAdd 16 first i
    sendBead n false q (fun h => .bead n h (endsIn ks i)) (modBlk n (fun b => { b with win := b.win ++ [⟨q, endsIn ks i, none⟩] }) (injected 4 n 1 s))
  (perf (256 + n) 0x10 nb none (forN nb one s)).set BLK.SEQSTAT.TXNEXT (wrapAdd 16 first nb) n

/-- An IDLE bead leaves, with the full credit vector (R230). -/
def sendIdle (n : Nat) (s : State) : State :=
  sendBead n false (s.get BLK.SEQSTAT.TXNEXT n) (fun h => .idleBead n h ((List.range 18).map (fun c => lookD (blkSt s n).grants c 0))) s

/-- Credit in hand for a class (R237). -/
def credLeft (s : State) (n c : Nat) : Nat := wrapSub 12 (s.get BLK.CRED.LIMIT n c) (s.get BLK.CRED.USED n c)

/-- A bead of the window goes again with RETX, unless `hold` and it went again less than NAKHOLD before (R234, R235). -/
def resend (n seq : Nat) (hold : Bool) (s : State) : State :=
  let b := blkSt s n
  match b.win.find? (·.seq == seq) with
  | none => s
  | some e =>
    let soon := match e.resent with | some t => s.ns < t + s.get BLK.LSPCFG.NAKHOLD n | none => false
    if hold && soon then s
    else
      let s := setBlk n { b with win := b.win.map (fun w => if w.seq = seq then { w with resent := some s.ns } else w) } s
      perf (256 + n) 0x11 1 none (sendBead n true seq (fun h => .bead n h e.pkts) (injected 4 n 1 (s.bump BLK.RETXCNT.COUNT 1 n)))

/-- ACK and NAKMAP of a header (R234). -/
def takeAck (n : Nat) (ack nak : Nat) (s : State) : State :=
  let old := s.get BLK.SEQSTAT.TXACKED n
  let d := wrapSub 16 ack old
  if unacked s n < d then blkFlag BLK.ESTAT.STALE_ACK n (s.bump BLK.STALEACK.COUNT 1 n)
  else
    let s := if d = 0 then s
      else
        let s := s.set BLK.SEQSTAT.TXACKED ack n
        modBlk n (fun b => { b with win := b.win.filter (fun w => d ≤ wrapSub 16 w.seq old), expiries := 0, interval := rtoNs s n, timerAt := s.ns }) s
    forL ((List.range 64).filter (fun i => bitOf nak i)) (fun i s => resend n (wrapAdd 16 ack i) true s) s

/-- A cumulative grant of a class (R237). -/
def takeGrant (n c v : Nat) (s : State) : State :=
  if c < 18 && wrapSub 12 v (s.get BLK.CRED.LIMIT n c) < 2048 then s.set BLK.CRED.LIMIT v n c else s

/-- A CTRL bead leaves on link n (R242). -/
def ctrlOut (n cseq : Nat) (m : CtrlMsg) (s : State) : State := sendBead n false (s.get BLK.SEQSTAT.TXNEXT n) (fun h => .ctrl n h cseq m) s

/-- A TIME bead leaves on link n (R252). -/
def timeOut (n kind : Nat) (t : TimeBead) (s : State) : State := sendBead n false (s.get BLK.SEQSTAT.TXNEXT n) (fun h => .timeBead n h kind t) s

/-- A new CTRL message, kept until its answer arrives where it expects one (R242). -/
def sendCtrl (n : Nat) (m : CtrlMsg) (expects : Bool) (s : State) : State :=
  let q := wrapAdd 8 (blkSt s n).cseq 1
  let s := modBlk n (fun b => { b with cseq := q, waits := if expects then b.waits ++ [⟨q, m, s.ns⟩] else b.waits }) s
  ctrlOut n q m s

/-- An answer carries the CSEQ of what it answers (R242). -/
def answerCtrl (n cseq : Nat) (m : CtrlMsg) (s : State) : State := ctrlOut n cseq m s

/-- The answer to the message `cseq` has arrived. -/
def answered (n cseq : Nat) (s : State) : State := modBlk n (fun b => { b with waits := b.waits.filter (·.cseq != cseq) }) s

def awaits (s : State) (n cseq : Nat) : Bool := (blkSt s n).waits.any (·.cseq == cseq)

/-- The state of devices with an ACTIVE direct link, as a bitmap (R242). -/
def directMap (s : State) : Nat := (List.range 8).foldl (fun a d => if (linksTo s d).isEmpty then a else a + 2 ^ d) 0

/-- TOPO goes out on every ACTIVE link. -/
def sendTopo (s : State) : State :=
  forL ((List.range 8).filter (linkUp s)) (fun n s => sendCtrl n (.topo (directMap s)) false s) s

/-- The relay device towards d: the lowest-numbered device to which an ACTIVE link runs and whose TOPO shows an ACTIVE link to d (R249). -/
def relayFor (s : State) (d : Nat) : Option Nat :=
  (List.range 8).find? (fun r => r != d && r != me s && !(linksTo s r).isEmpty && bitOf (lookD s.blkG.topo r 0) d)

/-- The route to another device is shown, and the time at which its last path went is kept (R246, R249, R250). A relay ends at the fence of a direct link. -/
def routeSync (d : Nat) (s : State) : State :=
  let ls := linksTo s d
  let s := s.set BLKC.ROUTE.LINKS ((ls.map (fun l => 2 ^ l)).sum) d
  let gone := fun (s : State) => { s with blkG := { s.blkG with lostAt := del s.blkG.lostAt d } }
  if !ls.isEmpty then
    let s := gone (s.set BLKC.ROUTE.REACH 1 d)
    if s.blkG.fences.contains d then s else (s.set BLKC.ROUTE.RELAY 0 d).set BLKC.ROUTE.VIA 0 d
  else
    match relayFor s d with
    | some r => gone (((s.set BLKC.ROUTE.REACH 1 d).set BLKC.ROUTE.RELAY 1 d).set BLKC.ROUTE.VIA r d)
    | none =>
      let s := (s.set BLKC.ROUTE.RELAY 0 d).set BLKC.ROUTE.VIA 0 d
      if s.on BLKC.ROUTE.REACH d && (look s.blkG.lostAt d).isNone then { s with blkG := { s.blkG with lostAt := put s.blkG.lostAt d s.ns } } else s

def reachable (s : State) (d : Nat) : Bool := d == me s || s.on BLKC.ROUTE.REACH d

/-- The lowest CASCADE_ID that may be master, among the reachable devices and this one (R251). -/
def bestMaster (s : State) : Option Nat :=
  (List.range 8).find? (fun d => reachable s d && (if d = me s then s.on BLKC.CCFG.MCAND else s.blkG.cands.contains d))

/-- The time source of a device that is not the master (R252): 8 its own references, 15 none. -/
def timeSource (s : State) : Nat :=
  if s.on BLKC.CSTAT.IS_MASTER then 8
  else if !s.on BLKC.CSTAT.MVALID then 15
  else
    let m := s.get BLKC.CSTAT.MASTER
    match linksTo s m with
    | l :: _ => l
    | [] =>
      match (List.range 8).find? (fun d => d != me s && bitOf (lookD s.blkG.topo d 0) m && !(linksTo s d).isEmpty) with
      | some d => (linksTo s d).headD 15
      | none => 15

/-- TLOCK clears when the source changes or the offset leaves its limit; a loss is recorded (R252, R320). -/
def setTlock (v : Bool) (n : Nat) (s : State) : State :=
  if s.on BLKC.CSTAT.TLOCK && !v then protoErr n (s.set BLKC.CSTAT.TLOCK 0) else s.setB BLKC.CSTAT.TLOCK v

/-- A device that is not the domain master is in SLAVE; a new master goes on from its own locked time in HOLDOVER (R251, R403; DEDUCED, log entry on masters). -/
def timeRole (s : State) : State :=
  if s.on BLKC.CSTAT.IS_MASTER then (if s.get TIME.STAT.STATE = 4 then setTime 3 s else s)
  else setTime 4 s

/-- The master is shown (R251): a reachable master stays until MASTER_XFER, and otherwise the lowest candidate takes the role. -/
def masterSync (s : State) : State :=
  let cur := s.get BLKC.CSTAT.MASTER
  let keep := s.on BLKC.CSTAT.MVALID && reachable s cur && (cur != me s || s.on BLKC.CCFG.MCAND)
  let s := if keep then s
    else match bestMaster s with
      | some d => (s.set BLKC.CSTAT.MASTER d).set BLKC.CSTAT.MVALID 1
      | none => s.set BLKC.CSTAT.MVALID 0
  let s := s.setB BLKC.CSTAT.IS_MASTER (s.on BLKC.CSTAT.MVALID && s.get BLKC.CSTAT.MASTER == me s)
  let t := timeSource s
  let s := if t = s.get BLKC.CSTAT.TSRC then s else setTlock false (if t < 8 then t else 0) (s.set BLKC.CSTAT.TSRC t)
  timeRole s

/-- Links that carry relay packets of this device (R255). -/
def relaySync (s : State) : State :=
  let vias := ((List.range 8).filter (fun d => s.on BLKC.ROUTE.RELAY d)).map (fun d => s.get BLKC.ROUTE.VIA d)
  forN 8 (fun l s => s.setB BLK.STAT.RELAYING (linkUp s l && vias.contains (peerOf s l)) l) s

/-- Requests that waited for a path to a device go through the pipeline again (R250). -/
def retryHeld (s : State) : State :=
  let go := s.blkG.held.filter (fun q => (linkTo s q.1 q.2.1 0 0).isSome)
  let s := { s with blkG := { s.blkG with held := s.blkG.held.filter (fun q => (linkTo s q.1 q.2.1 0 0).isNone) } }
  readmit (go.map (fun q => q.2)) s

/-- Routes, reachability, master and time source are worked out again after any change of links or TOPO (R246, R249 to R252). TOPO goes out when the set of direct devices changes. -/
def cascadeSync (s : State) : State :=
  let before := s.get BLKC.CSTAT.DIRECT
  let s := forN 8 (fun d s => if d = me s then s else routeSync d s) s
  let s := (s.set BLKC.CSTAT.MYID (me s)).set BLKC.CSTAT.DIRECT (directMap s)
  let s := s.set BLKC.CSTAT.REACH ((List.range 8).foldl (fun a d => if s.on BLKC.ROUTE.REACH d then a + 2 ^ d else a) 0)
  let s := relaySync (masterSync s)
  retryHeld (if s.get BLKC.CSTAT.DIRECT = before then s else sendTopo s)

/-- The class in which a packet crosses a Beamlink: a relay packet, or one whose destination is reached by relay (R249). -/
def viaRelay (s : State) (k : Pkt) : Bool := match k.lp with | some l => l.relay | none => s.on BLKC.ROUTE.RELAY k.ddev

/-- A Frame packet as a link packet (R231). Requests name themselves in XTAG, and responses what they answer. -/
def toLink (s : State) (k : Pkt) : LinkPkt :=
  match k.lp with
  | some l => l
  | none =>
    { ddev := BitVec.toFin (BitVec.ofNat 3 k.ddev), sdev := BitVec.toFin (BitVec.ofNat 3 (me s)), dxp := ⟨k.dxp % 80, Nat.mod_lt _ (by decide)⟩,
      sxp := ⟨k.orig % 80, Nat.mod_lt _ (by decide)⟩, relay := viaRelay s k, op := k.op, mid := BitVec.ofNat 16 k.mid,
      ruleEp := BitVec.ofNat 8 k.ruleEp, bindEp := BitVec.ofNat 8 k.bindEp, tc := BitVec.toFin (BitVec.ofNat 3 k.tc),
      clvl := BitVec.toFin (BitVec.ofNat 2 k.clvl), wbAhead := (match k.home with | some m => m.wbAhead | none => false),
      deriv := k.deriv || k.lst == 3, xtag := if k.lst ≤ 1 then k.rid else k.tag, xld := BitVec.toFin (BitVec.ofNat 12 k.ld),
      addr := if k.toLd || k.lst == 3 || k.shared then k.dpa else k.addr, mv := k.mv, data := k.data, be := BitVec.ofNat 64 k.be, poison := k.poison, len := k.len }

/-- A head may leave on link n after those that the visit has taken: the link is ACTIVE, the window and both credit classes have room, and no fence holds its device (R232, R237, R246). -/
def blkCan (n : Nat) (s : State) (k : Pkt) : Bool :=
  let l := toLink s k
  let (h, d) := lpClass l
  linkUp s n && unacked s n + lpBeads ((blkSt s n).out ++ [l]) ≤ 4096 && 1 ≤ credLeft s n h && l.data.length ≤ credLeft s n d
    && (k.lp.isSome || !s.blkG.fences.contains k.ddev)

/-- A packet handed to the controller of Beamlink n. -/
def blkHand (n : Nat) (k : Pkt) (s : State) : State := takeOut n (toLink s k) (handed (64 + n) k s)

/-- A visit ends: what it took leaves in beads, and with nothing to send an IDLE bead goes (R230, R231). -/
def blkFlush (n : Nat) (s : State) : State :=
  if !(blkSt s n).out.isEmpty then sendBeads n s
  else if lstate s n = lActive ∨ lstate s n = lHello then sendIdle n s else s

/-- Queued packets for a device move to the links of its present route, in their order (R244, R246). -/
def retarget (d : Nat) (s : State) : State :=
  let to_ (p : Pkt) : Pkt :=
    if 64 ≤ p.dest && p.dest < 72 && p.ddev == d && p.lp.isNone then { p with dest := (linkTo s d p.orig p.dxp p.tc).getD p.dest } else p
  let s := { s with frame := { s.frame with voq := s.frame.voq.map (fun q => (q.1, q.2.map (fun v => { v with p := to_ v.p }))) } }
  forN 8 (fun n s =>
    let x := 64 + n
    let move := (egq s x).filter (fun e => (to_ e.p).dest != x && e.p.ddev == d && e.p.lp.isNone)
    let s := setEgq x ((egq s x).filter (fun e => !move.any (fun m => m.p.uid == e.p.uid))) s
    forL move (fun e s =>
      let y := (to_ e.p).dest
      let s := addAlloc y e.p.tc (beats e.p) (addFreed x e.p.tc (beats e.p) s)
      setEgq y (egq s y ++ [{ e with p := to_ e.p }]) s) s) s

/-- A link joins (R246): with beads outstanding to its peer, new packets to it wait for the fence; otherwise the new set takes effect at once. -/
def joinPeer (n : Nat) (s : State) : State :=
  let d := peerOf s n
  let others := (List.range 8).filter (fun l => l != n && linkUp s l && (peerOf s l == d || s.on BLKC.ROUTE.RELAY d && peerOf s l == s.get BLKC.ROUTE.VIA d))
  if others.any (fun l => !(blkSt s l).win.isEmpty) then { s with blkG := { s.blkG with fences := insertNat d s.blkG.fences } } else s

/-- The fence of a device ends: the new link set takes effect. -/
def fenceDone (d : Nat) (s : State) : State :=
  let s := { s with blkG := { s.blkG with fences := without d s.blkG.fences } }
  retarget d (cascadeSync s)

/-- HELLO has passed in both directions: the link is ACTIVE and joins (R240, R246). -/
def becomeActive (n : Nat) (s : State) : State :=
  let d := peerOf s n
  let s := joinPeer n s
  let s := setL n lActive { s with blkG := { s.blkG with cands := without (d + 8) s.blkG.cands } }
  if s.blkG.fences.contains d then cascadeSync s else retarget d (cascadeSync s)

/-- A link leaves for DOWN or OFF (R240). -/
def linkLeave (n v : Nat) (s : State) : State :=
  let was := lstate s n
  let s := setL n v s
  let s := if was = lActive ∨ was = lHandoff ∨ was = lFenced then linkReset n s else modBlk n (fun b => { b with waits := [] }) s
  if was = lActive then
    let d := peerOf s n
    retarget d (cascadeSync (blkFlag BLK.ESTAT.DOWN n s))
  else s

/-- A bring-up attempt fails: DOWN, and ATTEMPTS counts it (R240). -/
def attemptFail (n : Nat) (s : State) : State := linkLeave n lDown (s.bump BLK.STAT.ATTEMPTS 1 n)

/-- TRAIN begins (R240). -/
def trainStart (n : Nat) (s : State) : State :=
  if s.live && !s.safe && s.get TST.LB.CTL.MODE (32 + n) == 0 then setL n lTrain (linkReset n s) else s

/-- The CRC-32 of the 64 HMAP entries, as little-endian words (R241). -/
def hmapCrc (s : State) : Nat :=
  crc32 ((List.range 64).flatMap (fun b =>
    let w := s.get HOME.HMAP.DHN 0 b + s.get HOME.HMAP.VALID 0 b * 512
    [w % 256, w / 256 % 256, w / 65536 % 256, w / 2 ^ 24 % 256]))

/-- HELLO is entered: sequence numbers 0, initial grants, and this side's HELLO (R237, R240, R241). -/
def enterHello (n : Nat) (s : State) : State :=
  let s := linkReset n (setL n lHello s)
  let s := modBlk n (fun b => { b with grants := (List.range 18).map (fun c => (c, firstGrant c)) }) s
  let m := CtrlMsg.hello (me s) n (s.get GCTL.REV.MAJOR) (BitVec.ofNat 32 (s.get BLKC.DOMAIN.TAG)) (s.on BLKC.CCFG.MCAND) s.homeG.coarse (hmapCrc s) (s.freeNat 64)
  sendCtrl n m true s.spend

/-- DEPART for a local host goes to every other reachable device, by its relay where it has no direct link (R248). -/
def sendDepart (dhn : Nat) (s : State) : State :=
  forL ((List.range 8).filter (fun d => d != me s && s.on BLKC.ROUTE.REACH d)) (fun d s =>
    match linksTo s (viaDev s d) with
    | l :: _ => sendCtrl l (.depart dhn) true { s with blkG := { s.blkG with departs := s.blkG.departs ++ [(dhn, d)] } }
    | [] => s) s

/-- Every device that was sent DEPART for a host has answered (R248). -/
def departed (s : State) (dhn : Nat) : Bool := s.blkG.departs.all (·.1 != dhn)

end Sys2Proof.Machine
end

