-- ==== Sys2Proof/Machine/BlkRx.lean ====
section
/-! DEFINITION. What arrives on a Beamlink: extraction of packets, the ingress of packets from other devices, relays (R233, R247 to R249, R253, R278). -/

namespace Sys2Proof.Machine

/-- The class 4 form of a master identity on device d (R278). -/
def remoteMid (d mid : Nat) : Nat :=
  let i := mid % 4096
  let r := match mid / 4096 with
    | 0 => i % 64
    | 1 => 64 + i % 64
    | 2 => 128 + i % 128
    | _ => 256 + i % 256
  0x4000 + d * 512 + r

/-- A packet of this device as a response to a packet that came on a link: it names the packet's tag and crossbar port on its device (R231). -/
def backTo (n : Nat) (k : LinkPkt) (op : Opc) (s : State) : Pkt :=
  { pkt0 with op := op, lst := 2, src := 64 + n, orig := 64 + n, dest := (linkTo s k.sdev.val (64 + n) k.sxp.val k.tc.val).getD (64 + n), tag := k.xtag,
              tc := k.tc.val, mid := k.mid.toNat, ddev := k.sdev.val, dxp := k.sxp.val }

/-- Relay packets whose every direct link to their device has failed (R253): requests among them are completed as for a lost target, the others discarded, and one UC record names the device. -/
def relayLost (n : Nat) (d : Nat) (l : List LinkPkt) (s : State) : State :=
  let one (k : LinkPkt) (s : State) : State :=
    if listOf k.op ≤ 1 then forL (lostOps k.op false) (fun o s => enqueue (lostFill (backTo n k o s)) s) s else s
  let gone := (l.filter (fun k => !(listOf k.op ≤ 1))).length
  if l.isEmpty then s
  else report { rec0 (eBlk + n) kLinkFail 1 d with suppr := min 0xFFFF gone } (forL l one s)

/-- A packet for another device (R249): it crosses to the egress towards that device without checks, translation or marking. -/
def relayOn (n : Nat) (k : LinkPkt) (s : State) : State :=
  let d := k.ddev.val
  let ls := linksTo s d
  if ls.isEmpty then relayLost n d [k] s
  else
    let l := nthD ls ((k.sxp.val + k.dxp.val + k.tc.val) % ls.length) 0
    perf (256 + n) 0x16 1 none
      (enqueue { pkt0 with op := k.op, lst := listOf k.op, src := 64 + n, orig := k.sxp.val, dest := 64 + l, tc := k.tc.val, payload := 64 * k.data.length,
                           ddev := d, dxp := k.dxp.val, lp := some k } s)

/-- A response for a request of this device (R247). The first response of a read says whether its line is shared: data that a home released is followed by its completion. -/
def rspIn (n : Nat) (k : LinkPkt) (s : State) : State :=
  match reqOf s k.xtag with
  | none => s
  | some r =>
    let more := k.deriv || k.op == .cmp || k.op == .cmpS || k.op == .cmpE
    let left := if remoteMark < r.left then (if more then 2 * (r.left - remoteMark) else 1) else r.left
    let s := { s with frame := { s.frame with reqs := put s.frame.reqs k.xtag { r with left := left } } }
    enqueue { rspPkt k.xtag r (64 + n) k.op with data := k.data, poison := k.poison, payload := 64 * k.data.length, clvl := k.clvl.val, mv := k.mv } s

/-- A BIRsp or BIConflict from a host of another device, at the home's device (R154, R248). -/
def homeIn (n : Nat) (k : LinkPkt) (rid : Nat) (s : State) : State :=
  let ld := k.xld.val
  let lk := lineKeyOf ld k.addr
  let m : HomeMsg := ⟨k.op, BitVec.ofNat 54 lk, BitVec.ofNat 16 (remoteMid k.sdev.val k.mid.toNat), ⟨(64 + n) % 80, Nat.mod_lt _ (by decide)⟩, k.xtag, k.mv, k.tc,
    k.data.head?, k.be, k.poison, k.wbAhead, BitVec.ofNat 8 (s.get ACT.COMMIT.EPOCH), BitVec.ofNat 8 (s.get BIND.STAT.EPOCH), rid, none⟩
  enqueue { pkt0 with op := k.op, lst := 2, src := 64 + n, orig := 64 + n, dest := 72 + serving s (fold2 lk), tc := k.tc.val, ld := ld, dpa := k.addr,
                      shared := true, deriv := true, home := some m } s

/-- A back-invalidate snoop of a home on another device, for a local host (R248). -/
def snoopIn (n : Nat) (k : LinkPkt) (s : State) : State :=
  enqueue { pkt0 with op := k.op, lst := 3, src := 64 + n, orig := 64 + n, dest := k.dxp.val, tc := k.tc.val, mid := k.mid.toNat, ld := k.xld.val, dpa := k.addr,
                      deriv := true, mv := k.mv } s

/-- A request from another device as this device's pipeline takes it. -/
def remoteReq (s : State) (n : Nat) (k : LinkPkt) : LinkReq :=
  ⟨k.op, k.xtag, BitVec.ofNat 64 (k.xld.val * 2 ^ 52 + k.addr % 2 ^ 52), k.mv, .mem, k.tc, BitVec.ofNat 16 (remoteMid k.sdev.val k.mid.toNat),
    BitVec.ofNat 8 (s.get FRAME.XP.UNITEP.EPOCH (64 + n)), k.len, k.data, k.be, k.poison, true, false, 0, true, true, k.wbAhead⟩

/-- A request of a host of another device: the host has used the LD, and a further write of a line ends what is known of its earlier one (R157, R171). -/
def seeHost (mid ld lk : Nat) (op : Opc) (s : State) : State :=
  match dhnOf s mid with
  | none => s
  | some d =>
    let g := s.homeG
    let seen := if g.seen.contains (d, ld) then g.seen else (d, ld) :: g.seen
    { s with homeG := { g with seen := seen, applied := if isWrite op then dropOne (mid, lk) g.applied else g.applied } }

/-- Stages 3 to 6 of R247 for a request: the check with the class 4 identity under the local epochs, then routing in this device. -/
def requestIn (n : Nat) (k : LinkPkt) (s : State) : State :=
  let (rid, s) := freshId s
  let r := remoteReq s n k
  let s := seeHost r.mid.toNat k.xld.val (lineKeyOf k.xld.val k.addr) k.op s
  let mid := r.mid.toNat
  let stub : Req := ⟨64 + n, k.xtag, k.op, k.tc.val, mid, 0, 0, 0, 0, 0, false, false, s.ns, 1, k.sdev.val, k.sxp.val, 0, false⟩
  let s := { s with frame := { s.frame with reqs := put s.frame.reqs rid stub } }
  let atom := if k.op = .farAtomic then some (lineAtom (k.data.headD 0) k.addr) else none
  if k.deriv then routeLd (64 + n) rid r mid (s.get ACT.COMMIT.EPOCH) (s.get BIND.STAT.EPOCH) k.xld.val k.addr none atom s
  else if k.op = .biConflict then homeIn n k rid s
  else takeIn (64 + n) rid r atom s

/-- A packet passes into the ingress of crossbar port 64 + n (R247). A class 15 identity is discarded and counted (R278). -/
def blkIngress (n : Nat) (k : LinkPkt) (s : State) : State :=
  if k.mid.toNat / 4096 = 15 then discardStale (64 + n) s
  else if k.ddev.val ≠ me s then relayOn n k s
  else
    match k.op with
    | .biRspI | .biRspS | .biRspE => homeIn n k 0 s
    | _ =>
      match listOf k.op with
      | 2 => rspIn n k s
      | 3 => snoopIn n k s
      | _ => requestIn n k s

/-- The mark of a master in a header (R229, R251): a device that claims the role is a candidate. A device that joins with a lower number first follows the master it finds. -/
def seeMaster (h : BeadHdr) (s : State) : State :=
  let d := h.sdev.val
  if !h.mstr || d = me s then s
  else
    let first := !s.blkG.cands.contains (d + 8)
    let s := { s with blkG := { s.blkG with cands := insertNat (d + 8) (insertNat d s.blkG.cands) } }
    let joining := first && s.on BLKC.CSTAT.IS_MASTER && me s < d && s.blkG.xfer.isNone
    if !s.on BLKC.CSTAT.MVALID || joining then cascadeSync ((s.set BLKC.CSTAT.MASTER d).set BLKC.CSTAT.MVALID 1) else s

/-- The header of a bead whose CRC passes, in HELLO or ACTIVE: ACK before NAKMAP, then the credit it carries (R234, R237, R253). -/
def takeHeader (n : Nat) (h : BeadHdr) (s : State) : State :=
  if lstate s n = lActive ∨ lstate s n = lHello then
    seeMaster h (takeGrant n h.csel h.cval.toNat (takeAck n h.ack.toNat h.nakmap.toNat s))
  else s

/-- In-order beads leave the reorder buffer, and their packets enter the ingress (R233). -/
def extract (n : Nat) : Nat → State → State
  | 0, s => s
  | fuel + 1, s =>
    let e := s.get BLK.RXSTAT.RXEXP n
    let b := blkSt s n
    match look b.slots e with
    | none => s
    | some ps =>
      let s := setBlk n { b with slots := del b.slots e } s
      let s := s.set BLK.RXSTAT.RXEXP (wrapAdd 16 e 1) n
      extract n fuel (forL ps (blkIngress n) s)

/-- HELD shows the beads held out of order. -/
def heldSync (n : Nat) (s : State) : State := s.set BLK.RXSTAT.HELD (blkSt s n).slots.length n

/-- A DATA bead is placed by its number (R233, R236). -/
def placeBead (n seq : Nat) (ps : List LinkPkt) (s : State) : State :=
  let d := wrapSub 16 seq (s.get BLK.RXSTAT.RXEXP n)
  let dup (s : State) : State := perf (256 + n) 0x14 1 none (s.bump BLK.DUPCNT.COUNT 1 n)
  if d < 4096 then
    let b := blkSt s n
    let s := if (look b.slots seq).isSome then dup s else setBlk n { b with slots := put b.slots seq ps } s
    heldSync n (extract n ((blkSt s n).slots.length + 1) s)
  else if 32768 ≤ d then dup s
  else protoErr n (blkFlag BLK.ESTAT.BADSEQ n (s.bump BLK.BADSEQ.COUNT 1 n))

/-- DATA_BEAD (R229, R233, R234, R237): header first, then the body. `pkts` are the link packets that end in it. -/
def execDataBead (n : BlkId) (h : BeadHdr) (pkts : List LinkPkt) (s : State) : Result :=
  .next (if s.safe then s
    else
      let s := takeHeader n h s
      if linkUp s n then placeBead n h.seq.toNat pkts s else s)

/-- BEAD_CRC_FAIL (R230): the bead is dropped whole. -/
def execBeadCrcFail (n : BlkId) (s : State) : Result := .next (s.bump BLK.CRCCNT.COUNT 1 n)

/-- IDLE_BEAD (R230): the header, and the whole credit vector. -/
def execIdleBead (n : BlkId) (h : BeadHdr) (credits : List (BitVec 12)) (s : State) : Result :=
  .next (if s.safe then s
    else
      let s := takeHeader n h s
      if lstate s n = lActive ∨ lstate s n = lHello then
        forL ((List.range 18).zip credits) (fun q s => takeGrant n q.1 q.2.toNat s) s
      else s)

end Sys2Proof.Machine
end

