-- ==== Sys2Proof/Machine/BlkFail.lean ====
section
/-! DEFINITION. Lane sparing, link failure and handoff, and their commands (R227, R235, R240 to R244, R253). -/

namespace Sys2Proof.Machine

/-- Index of a lane among the units of class 2 (R336). -/
def laneUnit (n l : Nat) : Nat := 9 * n + l

/-- A lane's state: 0 ACTIVE, 1 SPARE, 2 FENCED (R255). -/
def laneState (s : State) (n l : Nat) : Nat := s.get BLK.LANE.STATE n l

/-- The spare lane of a link, while one stands by. -/
def spareLane (s : State) (n : Nat) : Option Nat := (List.range 9).find? (fun l => laneState s n l == 1)

/-- NO_SPARE shows whether a spare lane is held. -/
def spareSync (n : Nat) (s : State) : State := s.setB BLK.STAT.NO_SPARE (spareLane s n).isNone n

/-- The position of a lane moves onto the spare (R243): the old lane is FENCED, and the spare takes a new epoch. -/
def laneSwitch (n old new pos : Nat) (s : State) : State :=
  let s := bringIn 2 (laneUnit n old) (laneUnit n new) pos s
  let s := (s.set BLK.LANE.STATE 2 n old).set BLK.LANE.STATE 0 n new
  let s := (s.set BLK.LANE.POS pos n new).set BLK.LANE.EPOCH (s.get FLT.UNIT.EPOCH 2 (laneUnit n new)) n new
  blkFlag BLK.ESTAT.LANE_SUB n (spareSync n (modBlk n (fun b => { b with sub := none }) s))

/-- A substitution begins: the receiver names the position and a switch point 64 codewords ahead (R243). -/
def laneSubStart (n l : Nat) (s : State) : State :=
  let b := blkSt s n
  if b.sub.isSome || (spareLane s n).isNone then s
  else
    let pos := s.get BLK.LANE.POS n l
    let at_ := wrapAdd 12 b.cwcnt 64
    sendCtrl n (.laneSub pos at_) true (setBlk n { b with sub := some ⟨pos, l, at_, false⟩ } s)

/-- The UC record of a link that fails (R244, R320). -/
def linkFailRecord (n : Nat) (s : State) : State := report (rec0 (eBlk + n) kLinkFail 1 n) s

/-- HANDOFF of link n goes to its peer, over the link that takes the stream or towards the relay (R244). Without any path it waits for one. -/
def startHandoff (n : Nat) (s : State) : State :=
  let d := peerOf s n
  let say (l : Nat) (to_ : Option Nat) : State :=
    sendCtrl l (.handoff n (s.get BLK.RXSTAT.RXEXP n)) true (modBlk n (fun b => { b with handoff := some ⟨to_, true, b.handoff.bind (·.peerRx)⟩ }) s)
  match (linksTo s d).filter (· != n) with
  | l :: _ => say l (some l)
  | [] =>
    match (if s.on BLKC.ROUTE.RELAY d then linksTo s (s.get BLKC.ROUTE.VIA d) else []) with
    | l :: _ => say l none
    | [] => modBlk n (fun b => { b with handoff := some ⟨none, false, none⟩ }) s

/-- The link that takes a stream: another link to the peer, or a link towards the relay (R244, R249). -/
def takerOf (s : State) (n : Nat) : Option Nat :=
  match (blkSt s n).handoff with
  | none => none
  | some h =>
    match h.to_ with
    | some l => if linkUp s l then some l else none
    | none => if s.on BLKC.ROUTE.RELAY (peerOf s n) then (linksTo s (s.get BLKC.ROUTE.VIA (peerOf s n))).head? else none

/-- A packet of a failed link's window as the Frame holds it, to be sent again on another link. -/
def again (l : Nat) (relay : Bool) (k : LinkPkt) : Pkt :=
  { pkt0 with op := k.op, lst := listOf k.op, src := 64 + l, orig := k.sxp.val, dest := 64 + l, tc := k.tc.val, payload := 64 * k.data.length,
              ddev := k.ddev.val, dxp := k.dxp.val, lp := some { k with relay := relay } }

/-- Steps 2 and 3 of R244: packets that the peer has not taken whole go to the head of the taker's egress, those queued for the link follow, the taker's crossbar port takes a new unit epoch, and the link is FENCED. -/
def moveStream (n rx : Nat) (s : State) : State :=
  match takerOf s n with
  | none => modBlk n (fun b => { b with handoff := b.handoff.map (fun h => { h with peerRx := some rx }) }) s
  | some l =>
    let relay := peerOf s l != peerOf s n
    let b := blkSt s n
    let old := s.get BLK.SEQSTAT.TXACKED n
    let d := wrapSub 16 rx old
    let ks := b.win.flatMap (fun w => if d ≤ wrapSub 16 w.seq old then w.pkts else [])
    let stay := if relay then ks.filter (fun k => !k.relay) else ks
    let s := if relay then relayLost n (peerOf s n) (ks.filter (·.relay)) s else s
    let back := stay.map (fun k => (⟨{ again l relay k with uid := 0 }, s.ns⟩ : EgEnt))
    let ids := s.frame.nextId
    let back := ((List.range back.length).zip back).map (fun q => { q.2 with p := { q.2.p with uid := ids + q.1 } })
    let s := { s with frame := { s.frame with nextId := ids + back.length } }
    let mine := egq s (64 + n)
    let s := forL back (fun e s => addAlloc (64 + l) e.p.tc (beats e.p) s) s
    let s := forL mine (fun e s => addAlloc (64 + l) e.p.tc (beats e.p) (addFreed (64 + n) e.p.tc (beats e.p) s)) s
    let s := setEgq (64 + n) [] (setEgq (64 + l) (back ++ egq s (64 + l) ++ mine.map (fun e => { e with p := { e.p with dest := 64 + l } })) s)
    let s := modBlk n (fun b => { b with win := [], slots := [], handoff := none }) s
    let s := bringIn 3 n l l s
    let s := s.set FRAME.XP.UNITEP.EPOCH (s.get FLT.UNIT.EPOCH 3 l) (64 + l)
    retarget (peerOf s n) (blkFlag BLK.ESTAT.LINK_SUB n (setL n lFenced s))

/-- An ACTIVE link fails hard (R244, R253): HANDOFF, beads held out of order discarded, a lane substitution abandoned. In HANDOFF and FENCED nothing more happens. Links whose stream was moving onto it start again. -/
def linkDead (n : Nat) (s : State) : State :=
  if lstate s n != lActive then s
  else
    let s := forN 9 (fun l s => closeDec 5 (unitSrc 2 (laneUnit n l)) s) s
    let s := blkFlag BLK.ESTAT.DOWN n (setL n lHandoff s)
    let s := heldSync n (modBlk n (fun b => { b with slots := [], waits := [], sub := none, bad := 0 }) s)
    let s := startHandoff n (cascadeSync s)
    let moving := (List.range 8).filter (fun l => l != n && lstate s l == lHandoff && (match (blkSt s l).handoff with | some h => h.to_ == some n | none => false))
    forL moving startHandoff s

/-- The same with the record of the link's failure; in HELLO the attempt has failed. -/
def linkFail (n : Nat) (s : State) : State :=
  if lstate s n = lHello then attemptFail n s
  else if lstate s n != lActive then s
  else linkDead n (linkFailRecord n s)

/-- Links that wait for a path begin their handoff once there is one. -/
def handoffRetry (s : State) : State :=
  forL ((List.range 8).filter (fun n => lstate s n == lHandoff && (match (blkSt s n).handoff with | some h => !h.sent | none => false))) startHandoff s

/-- A lane that is out of the link's use, or of a link that carries nothing, is not replaced (R253). -/
def laneIdle (s : State) (n l : Nat) : Bool := lstate s n == lHandoff || lstate s n == lFenced || laneState s n l != 0

/-- A lane fails (R243): the spare replaces it, or the link fails. -/
def laneDead (n l : Nat) (s : State) : State :=
  if laneIdle s n l then s
  else
    let u := laneUnit n l
    let s := closeDec 5 (unitSrc 2 u) s
    match spareLane s n with
    | none => linkFail n (fenceUnit 2 u (s.set BLK.LANE.STATE 2 n l))
    | some _ => if (blkSt s n).sub.isSome then linkFail n s else laneSubStart n l s

/-- A hard trigger of a lane (R243), with its record. -/
def laneHard (n l : Nat) (s : State) : State :=
  if laneIdle s n l then s
  else laneDead n l (report { rec0 (unitSrc 2 (laneUnit n l)) kUnitFail 1 l with epoch := s.get FLT.UNIT.EPOCH 2 (laneUnit n l) } s)

/-- The spare lane is bad (R243): FENCED and NO_SPARE. A substitution onto it is abandoned, and the link fails for want of a spare (R334). -/
def spareDead (n : Nat) (s : State) : State :=
  match spareLane s n with
  | none => s
  | some l =>
    let u := laneUnit n l
    let was := (blkSt s n).sub.isSome
    let s := fenceUnit 2 u (s.set BLK.LANE.STATE 2 n l)
    let s := noteSpare (setSpare 2 u 1 (spareSync n s))
    if was then linkFail n (modBlk n (fun b => { b with sub := none }) s) else s

/-- The spare lane fails its pattern (R243), with its CE record. -/
def spareFail (n : Nat) (s : State) : State :=
  match spareLane s n with
  | none => s
  | some l => spareDead n (report { rec0 (unitSrc 2 (laneUnit n l)) kSpareBad 0 l with epoch := s.get FLT.UNIT.EPOCH 2 (laneUnit n l) } s)

/-- CODEWORD_RECEIVED (R226, R227, R243): corrected symbols are counted by lane, eight uncorrectable codewords in succession lose FEC lock, and an agreed switch point moves its position. -/
def execCodewordReceived (n : BlkId) (correctable : Bool) (corrected : List (Fin 9)) (s : State) : Result :=
  .next (let s := modBlk n (fun b => { b with cwcnt := wrapAdd 12 b.cwcnt 1 }) s
    let s := match (blkSt s n).sub with
      | some q =>
        match q.agreed && q.at_ == (blkSt s n).cwcnt, spareLane s n with
        | true, some w => laneSwitch n q.lane w q.pos s
        | _, _ => s
      | none => s
    if correctable then
      let s := modBlk n (fun b => { b with bad := 0 }) s
      if corrected.isEmpty then s
      else
        let one (l : Fin 9) (s : State) : State :=
          modBlk n (fun b => { b with winErr := put b.winErr l (lookD b.winErr l 0 + 1) }) (s.bump BLK.LANEERR.COUNT 1 n l)
        perf (256 + n) 0x12 1 none ((forL corrected one s).bump BLK.CCWCNT.COUNT 1 n)
    else
      let s := perf (256 + n) 0x13 1 none (blkFlag BLK.ESTAT.UCW n (s.bump BLK.UCWCNT.COUNT 1 n))
      let k := (blkSt s n).bad + 1
      if 8 ≤ k then linkFail n (modBlk n (fun b => { b with bad := 0 }) s) else modBlk n (fun b => { b with bad := k }) s)

/-- RETRANSMIT_TIMEOUT (R235): the oldest bead goes again, the interval doubles up to its cap, and FAILN expiries in succession fail the link. -/
def execRetransmitTimeout (n : BlkId) (s : State) : Result :=
  .next (let b := blkSt s n
    if b.win.isEmpty || !linkUp s n then s
    else
      let s := s.reach (b.timerAt + b.interval)
      let s := blkFlag BLK.ESTAT.RTO n (s.bump BLK.RTOCNT.COUNT 1 n)
      let s := resend n (s.get BLK.SEQSTAT.TXACKED n) false s
      let k := b.expiries + 1
      let s := modBlk n (fun b => { b with expiries := k, interval := min (2 * b.interval) (rtoMaxNs s n), timerAt := s.ns }) s
      if max 1 (s.get BLK.RTCFG.FAILN n) ≤ k then linkFail n s else s)

/-- HELLO is refused (R241). -/
def helloFail (n cause : Nat) (s : State) : State :=
  protoErr n (blkFlag BLK.ESTAT.HELLO_FAIL n (setL n lHelloFail (modBlk n (fun b => { b with waits := [] }) (s.set BLK.STAT.FAILCAUSE cause n))))

/-- The first check of R241 that a HELLO fails, by FAILCAUSE. -/
def helloCheck (s : State) (n id stepping domain : Nat) (coarse : Bool) (crc : Nat) : Option Nat :=
  if id = me s then some 3
  else if s.on BLK.CFG.PEER_CHK n && s.get BLK.CFG.PEER_ID n != id then some 6
  else if stepping != s.get GCTL.REV.MAJOR then some 5
  else if domain != s.get BLKC.DOMAIN.TAG then some 2
  else if coarse != s.homeG.coarse || crc != hmapCrc s % 2 ^ 32 then some 4
  else none

/-- HELLO (R241, R242): the peer's HELLO is checked and answered; a repeat is answered again. -/
def execHello (n : BlkId) (cseq : BitVec 8) (id : Fin 8) (link : Fin 8) (stepping : Fin 16) (domain : Word) (mcand coarse : Bool) (hmapCrc : Word)
    (nonce : BitVec 64) (s : State) : Result :=
  .next (if lstate s n = lActive then answerCtrl n cseq.toNat (.helloAck true) s
    else if lstate s n != lHello then s
    else
      match helloCheck s n id stepping domain.toNat coarse hmapCrc.toNat with
      | some c => helloFail n c s
      | none =>
        let s := (s.set BLK.STAT.PEER id n).set BLK.STAT.PEERLINK link n
        let s := if mcand then { s with blkG := { s.blkG with cands := insertNat id s.blkG.cands } } else s
        let s := answerCtrl n cseq.toNat (.helloAck true) (modBlk n (fun b => { b with hello := some nonce.toNat }) s)
        if (blkSt s n).macIn then handoffRetry (becomeActive n s) else s)

/-- HELLO_ACK (R241): the MAC is under the key of the domain blob, so it passes only where that key is held. -/
def execHelloAck (n : BlkId) (cseq : BitVec 8) (macOk : Bool) (s : State) : Result :=
  .next (if lstate s n != lHello || !awaits s n cseq.toNat then s
    else
      let s := answered n cseq.toNat s
      if !macOk || s.sec.domain.isNone then helloFail n 1 s
      else
        let s := modBlk n (fun b => { b with macIn := true }) s
        if (blkSt s n).hello.isSome then handoffRetry (becomeActive n s) else s)

/-- LANE_SUB (R242, R243): the peer's receiver names a position of this transmitter, which moves onto the spare lane at the switch point. -/
def execLaneSub (n : BlkId) (cseq : BitVec 8) (pos : Fin 8) (cwcnt : BitVec 12) (s : State) : Result :=
  .next (if !linkUp s n then s
    else
      answerCtrl n cseq.toNat (.laneSubAck pos cwcnt.toNat) (modBlk n (fun b => { b with txMove := put b.txMove pos cwcnt.toNat }) s))

/-- LANE_SUB_ACK (R243): the switch point stands. -/
def execLaneSubAck (n : BlkId) (cseq : BitVec 8) (pos : Fin 8) (cwcnt : BitVec 12) (s : State) : Result :=
  .next (if !awaits s n cseq.toNat then s
    else
      modBlk n (fun b => { b with sub := b.sub.map (fun q => if q.pos = pos.val then { q with at_ := cwcnt.toNat, agreed := true } else q) }) (answered n cseq.toNat s))

/-- The link of this device that a handoff message on link n names: the peer's number of a link to the same peer, or of one whose stream goes by relay (log entry on handoff). -/
def handoffLink (s : State) (n failed : Nat) : Option Nat :=
  (List.range 8).find? (fun l => l != n && s.get BLK.STAT.PEERLINK l == failed && (lstate s l == lActive || lstate s l == lHandoff || lstate s l == lFenced)
    && (peerOf s l == peerOf s n || s.on BLKC.ROUTE.RELAY (peerOf s l)))

/-- HANDOFF (R244): the peer has failed its end, so this end fails too; the answer gives this side's RXEXP, and the stream moves. -/
def execHandoff (n : BlkId) (cseq : BitVec 8) (failed : Fin 8) (rxexp : BitVec 16) (s : State) : Result :=
  .next (match handoffLink s n failed with
    | none => s
    | some l =>
      let s := linkFail l s
      let s := answerCtrl n cseq.toNat (.handoffAck l (s.get BLK.RXSTAT.RXEXP l)) s
      if lstate s l = lHandoff then moveStream l rxexp.toNat s else s)

/-- HANDOFF_ACK (R244). -/
def execHandoffAck (n : BlkId) (cseq : BitVec 8) (failed : Fin 8) (rxexp : BitVec 16) (s : State) : Result :=
  .next (if !awaits s n cseq.toNat then s
    else
      let s := answered n cseq.toNat s
      match handoffLink s n failed with
      | some l => if lstate s l = lHandoff then moveStream l rxexp.toNat s else s
      | none => s)

/-- TOPO (R242, R249). -/
def execTopo (n : BlkId) (bitmap : BitVec 8) (s : State) : Result :=
  .next (if !linkUp s n then s
    else handoffRetry (cascadeSync { s with blkG := { s.blkG with topo := put s.blkG.topo (peerOf s n) bitmap.toNat } }))

/-- DEPART (R248): the sweep of R174 runs in the four slices, and DEPART_DONE answers it. A repeat is answered again. -/
def execDepart (n : BlkId) (cseq : BitVec 8) (dhn : BitVec 9) (s : State) : Result :=
  .next (if !linkUp s n then s
    else
      let s := if lookD (blkSt s n).seen 8 256 = cseq.toNat then s else departEnd dhn.toNat (departHost dhn.toNat s)
      answerCtrl n cseq.toNat (.departDone dhn.toNat) (modBlk n (fun b => { b with seen := put b.seen 8 cseq.toNat }) s))

/-- MASTER_XFER (R251): the announced change is noted and answered in kind; an answer to this device's own ends its wait. -/
def execMasterXfer (n : BlkId) (cseq : BitVec 8) (id : Fin 8) (time : Nat) (s : State) : Result :=
  .next (if !linkUp s n then s
    else if awaits s n cseq.toNat then answered n cseq.toNat s
    else answerCtrl n cseq.toNat (.masterXfer id time) { s with blkG := { s.blkG with xfer := some (id, time) } })

/-- MASTER_CHANGE (R251): at the announced time the role passes, without a time step. -/
def execMasterChange (s : State) : Result :=
  .next (match s.blkG.xfer with
    | none => s
    | some (d, t) =>
      let s := s.reach t
      cascadeSync (((s.set BLKC.CSTAT.MASTER d).set BLKC.CSTAT.MVALID 1).setB BLKC.CSTAT.IS_MASTER (d == me s) |> fun s => { s with blkG := { s.blkG with xfer := none } }))

/-- The limit of TLOCK: 10 ns, in 2^-16 ns (R254). -/
def lockLimit : Int := 10 * 2 ^ 16

/-- SYNC (R252): the source's time with the measured delay, against the stamp of arrival. A locked device slews its offset away; one that is not locked yet takes the source's time (DESIGN CHOICE, log entry on cascade time). -/
def execSync (n : BlkId) (t : TimeBead) (s : State) : Result :=
  .next (if !linkUp s n || s.get BLKC.CSTAT.TSRC != n.val then s
    else
      match (blkSt s n).delay with
      | none => s
      | some d =>
        let off : Int := Int.ofNat (t.stamp + d) - Int.ofNat t.arrival
        let near := decide (-lockLimit ≤ off ∧ off ≤ lockLimit)
        let s := if near || s.on BLKC.CSTAT.TLOCK then { s with mgmt := { s.mgmt with slew := off } }
          else stepTime (Int.ofNat s.now + off).toNat s
        setTlock near n s)

/-- DREQ (R252): answered with the times of its arrival and of the answer. A master whose lower-numbered peer measures its time hands the role over 100 µs ahead (R251; DESIGN CHOICE, log entry on masters). -/
def execDreq (n : BlkId) (t : TimeBead) (s : State) : Result :=
  .next (if !linkUp s n then s
    else
      let s := timeOut n 2 ⟨t.xid, s.now, t.arrival, 0⟩ s
      let d := peerOf s n
      if s.on BLKC.CSTAT.IS_MASTER && d < me s && s.blkG.cands.contains d && s.blkG.xfer.isNone then
        let at_ := s.ns + 100000
        let s := { s with blkG := { s.blkG with xfer := some (d, at_) } }
        forL ((List.range 8).filter (linkUp s)) (fun l s => sendCtrl l (.masterXfer d at_) true s) s
      else s)

/-- DRSP (R252): the link delay is half of what the round trip took beyond the source's stay. -/
def execDrsp (n : BlkId) (t : TimeBead) (s : State) : Result :=
  .next (if !linkUp s n then s
    else
      let b := blkSt s n
      if b.xid != t.xid then s
      else
        let d : Int := ((Int.ofNat t.arrival - Int.ofNat b.t1) - (Int.ofNat t.stamp - Int.ofNat t.t2)) / 2
        setBlk n { b with delay := some d.toNat } s)

/-- TIME_BEAD_SEND (R252): on the link to its time source the device starts a DREQ exchange; on another ACTIVE link it sends SYNC. -/
def execTimeBeadSend (n : BlkId) (s : State) : Result :=
  .next (if !linkUp s n then s
    else if s.get BLKC.CSTAT.TSRC = n.val then
      let b := blkSt s n
      let x := (b.xid + 1) % 256
      timeOut n 1 ⟨x, s.now, 0, 0⟩ (setBlk n { b with xid := x, t1 := s.now } s)
    else timeOut n 0 ⟨0, s.now, 0, 0⟩ s)

/-- TOPO_SEND (R242). -/
def execTopoSend (s : State) : Result := .next (sendTopo s)

/-- CTRL_RESEND (R242): every message that awaits its answer goes again, 1 µs after it went last. -/
def execCtrlResend (n : BlkId) (s : State) : Result :=
  .next (forL (blkSt s n).waits (fun w s => ctrlOut n w.cseq w.msg s) s)

/-- CTRL_TIMEOUT (R242): 50 µs without an answer end HELLO by a return to DOWN, and fail an ACTIVE link. -/
def execCtrlTimeout (n : BlkId) (s : State) : Result :=
  .next (match (blkSt s n).waits with
    | [] => s
    | w :: _ => linkFail n (s.reach (w.since + 50000)))

/-- BLK_ENABLE (R240, R255): a write of CFG. EN at 1 starts TRAIN from OFF; EN at 0 powers the link off, except while it is FENCED. -/
def execBlkEnable (n : BlkId) (v : Word) (s : State) : Result := atDomain n BLK.CFG.EN (.blkEnable n v) (fun s =>
  .next (let s := putRw 32 [BLK.CFG.EN, BLK.CFG.PEER_CHK, BLK.CFG.PEER_ID, BLK.CFG.RETRY_INT] v.toNat n 0 s
    if s.on BLK.CFG.EN n then (if lstate s n = lOff then trainStart n s else s)
    else if lstate s n = lFenced then s
    else (linkLeave n lOff s).set BLK.STAT.FAILCAUSE 0 n)) s

/-- TRAIN_COMPLETE (R240, R243): lanes that failed to lock are replaced by the spare; with 8 locked lanes the link enters HELLO, otherwise the attempt has failed. -/
def execTrainComplete (n : BlkId) (locked : BitVec 9) (s : State) : Result :=
  .next (if lstate s n != lTrain then s
    else
      let lk (l : Nat) : Bool := bitOf locked.toNat l
      let s := forN 9 (fun l s => s.setB BLK.LANE.LOCK (lk l) n l) s
      let bad := (List.range 9).filter (fun l => laneState s n l == 0 && !lk l)
      match bad, spareLane s n with
      | [], _ => enterHello n s
      | [l], some w =>
        if lk w then
          let u := laneUnit n l
          let s := report { rec0 (unitSrc 2 u) kUnitFail 1 l with epoch := s.get FLT.UNIT.EPOCH 2 u } s
          enterHello n (laneSwitch n l w (s.get BLK.LANE.POS n l) s)
        else attemptFail n s
      | _, _ => attemptFail n s)

/-- BLK_STATE_TIMEOUT (R240): TRAIN, HELLO or HANDOFF exceeds its bound. -/
def execBlkStateTimeout (n : BlkId) (s : State) : Result :=
  .next (if lstate s n = lTrain then attemptFail n (s.set BLK.STAT.FAILCAUSE 7 n)
    else if lstate s n = lHello ∨ lstate s n = lHandoff then attemptFail n s
    else s)

/-- BLK_RETRY_INTERVAL (R240). -/
def execBlkRetryInterval (n : BlkId) (s : State) : Result :=
  .next (if lstate s n = lDown && s.on BLK.CFG.EN n then trainStart n s else s)

/-- LANE_LOCK_LOSS (R243). A lost lock shows in LOCK; only a link past TRAIN acts on it. -/
def execLaneLockLoss (n : BlkId) (l : Fin 9) (s : State) : Result :=
  .next (let s := s.set BLK.LANE.LOCK 0 n l
    if lstate s n = lHello then attemptFail n s
    else if lstate s n != lActive then s
    else if laneState s n l = 1 then spareFail n s
    else laneHard n l s)

/-- LANE_ERROR_WINDOW (R243, R328, R330): a window of 1 ms ends; a lane above its threshold reaches the decision point, or is recorded where no spare is held. -/
def execLaneErrorWindow (n : BlkId) (l : Fin 9) (s : State) : Result :=
  .next (let s := s.reach ((s.ns / 1000000 + 1) * 1000000)
    let k := lookD (blkSt s n).winErr l 0
    let s := modBlk n (fun b => { b with winErr := del b.winErr l }) s
    let thr := s.get BLK.LSPCFG.SUB_THRESH n * 1024
    let obj := unitSrc 2 (laneUnit n l)
    if thr = 0 || k ≤ thr || !linkUp s n || laneState s n l != 0 || (heldDec s 5 obj).isSome || (blkSt s n).sub.isSome then s
    else if (spareLane s n).isNone then report { rec0 eFlt kNoSpare 0 (laneUnit n l) with detail := l.val } s
    else
      let (held, s) := reachPoint 5 obj s
      if held then s else laneSubStart n l s)

/-- A write of LCTL (R243, R244, R255). -/
def lctlWrite (n v : Nat) (s : State) : State :=
  let l := bitsOf v 0 4
  let s := s.set BLK.LCTL.LANE l n
  let s := if !bitOf v 4 then s
    else if linkUp s n && l < 9 && laneState s n l = 0 && (spareLane s n).isSome && (blkSt s n).sub.isNone then laneSubStart n l s
    else blkFlag BLK.ESTAT.SUB_ERR n s
  if bitOf v 5 then linkFail n s else s

/-- LANE_SUB_COMMAND (R243): a write of LCTL with SUB at 1. -/
def execLaneSubCommand (n : BlkId) (v : Word) (s : State) : Result := atDomain n BLK.LCTL.SUB (.laneSubCommand n v) (fun s => .next (lctlWrite n v.toNat s)) s

/-- SPARE_LANE_FAIL (R243). -/
def execSpareLaneFail (n : BlkId) (s : State) : Result := .next (spareFail n s)

/-- LINK_HANDOFF_COMMAND (R244): a write of LCTL with HANDOFF at 1. -/
def execLinkHandoffCommand (n : BlkId) (v : Word) (s : State) : Result := atDomain n BLK.LCTL.HANDOFF (.linkHandoffCommand n v) (fun s => .next (lctlWrite n v.toNat s)) s

/-- LINK_SET_FENCE_DONE (R246): once every bead sent to the device is acknowledged, the new link set takes effect. -/
def execLinkSetFenceDone (d : Fin 8) (s : State) : Result :=
  let via := if s.on BLKC.ROUTE.RELAY d then s.get BLKC.ROUTE.VIA d else d.val
  .next (if s.blkG.fences.contains d.val && (linksTo s d ++ linksTo s via).all (fun l => (blkSt s l).win.isEmpty) then fenceDone d s else s)

/-- Everything bound for a lost device is completed or dropped (R250): requests that wait for a path, queued packets, and requests that are open to its LDs. -/
def completeLost (d : Nat) (s : State) : State :=
  let mine := s.blkG.held.filter (·.1 == d)
  let s := { s with blkG := { s.blkG with held := s.blkG.held.filter (·.1 != d) } }
  let s := forL mine (fun q s => lostIngress q.2.1 q.2.2.1 q.2.2.2 false s) s
  let to_ (p : Pkt) : Bool := 64 ≤ p.dest && p.dest < 72 && p.ddev == d
  let s := { s with frame := { s.frame with voq := (s.frame.voq.map (fun q => (q.1, q.2.filter (fun v => !to_ v.p)))).filter (fun q => !q.2.isEmpty),
                                            stalled := (s.frame.stalled.map (fun q => (q.1, q.2.filter (fun p => !to_ p)))).filter (fun q => !q.2.isEmpty) } }
  let s := forN 8 (fun n s =>
    let x := 64 + n
    let s := forL ((egq s x).filter (fun e => to_ e.p)) (fun e s => addFreed x e.p.tc (beats e.p) s) s
    setEgq x ((egq s x).filter (fun e => !to_ e.p)) s) s
  let open_ := s.frame.reqs.filter (fun r => r.2.toLd && ldDev s r.2.ld == d)
  forL open_ (fun q s =>
    let ops := lostOps q.2.op false
    let s := { s with frame := { s.frame with reqs := put s.frame.reqs q.1 { q.2 with left := max 1 ops.length } } }
    if ops.isEmpty then closeReq q.1 s else forL ops (fun o s => reply q.1 q.2.x o (fun c => { lostFill c with own := true }) s) s) s

/-- UNREACHABLE_TIMEOUT (R250): no path for UNREACH × 100 µs. -/
def execUnreachableTimeout (d : Fin 8) (s : State) : Result :=
  .next (match look s.blkG.lostAt d with
    | none => s
    | some t =>
      let s := s.reach (t + max 1 (s.get BLKC.CCFG.UNREACH) * 100000)
      let s := { s.set BLKC.ROUTE.REACH 0 d with blkG := { s.blkG with lostAt := del s.blkG.lostAt d, departs := s.blkG.departs.filter (·.2 != d.val),
                                                                       fences := without d s.blkG.fences, topo := del s.blkG.topo d } }
      let s := completeLost d s
      let hosts := (List.range 64).map (fun i => d.val * 64 + i)
      let named := hosts.filter (fun h => s.homeG.coarse || (List.range 4).any (fun k => (hmapOf s k h).isSome))
      let s := forL named (fun h s => departEnd h (departHost h s)) s
      cascadeSync (report (rec0 eBlk kUnreach 1 d) s))

end Sys2Proof.Machine
end

