-- ==== Sys2Proof/Machine/Mig.lean ====
section
/-! DEFINITION. Live migration of an LD up to its commit (R137 to R142, R144 to R147). The commit stands in Commit.lean. -/

namespace Sys2Proof.Machine

/-- 64 KiB, a block of the dirty bitmap (R138). -/
def blk64 : Nat := 65536

/-- A pool port is multi-logical: by its LDs, or by what its device reports (R130). -/
def poolMld (s : State) (p : Nat) : Bool :=
  match portLds s p with
  | n :: _ => s.on BIND.LD.MLD n
  | [] => match look s.bind.pools p with | some r => r.mld | none => false

/-- The destination is free under R130: of the other LDs of its port, of the other slot's destination, and within what the device reports. -/
def destOk (s : State) (m ld p : Nat) (mld : Bool) (ldid base : Nat) : Bool :=
  let size := s.get BIND.LD.SIZE ld
  let fits := match look s.bind.pools p with
    | some r => if mld then nthD r.allocs ldid 0 == size else base + size ≤ r.capacity
    | none => true
  let other := match migSt s (1 - m) with
    | some x => x.dport != p || (if mld then x.dldid != ldid else !overlap base size x.dbase (s.get BIND.LD.SIZE x.ld))
    | none => true
  placeFits s ld p mld ldid base size && fits && other

/-- Bytes of a bitmap area: a header and one bit for each block (R138). -/
def bitmapBytes (s : State) (ld : Nat) : Nat := 64 + ceilDiv (s.get BIND.LD.SIZE ld * mib256) (blk64 * 8)

/-- The bitmap area lies on the destination port, off every LD and the destination itself (R137). LDs of a multi-logical pool have no range on the port. -/
def bitmapOk (s : State) (m ld p : Nat) (mld : Bool) (base : Nat) : Bool :=
  let a := s.get BIND.MIG.MBM.BASE m * 4096
  let n := bitmapBytes s ld
  let inside := match look s.bind.pools p with | some r => a + n ≤ r.capacity * mib256 | none => true
  let clear (b size : Nat) : Bool := !overlap a n (b * mib256) (size * mib256)
  inside && (mld || (clear base (s.get BIND.LD.SIZE ld) && (portLds s p).all (fun o => clear (s.get BIND.LD.BASE o) (s.get BIND.LD.SIZE o))))

/-- A rotation of the LD pauses while it migrates, and goes on after an abort (R270). -/
def pauseRot (ld : Nat) (p : Bool) (s : State) : State :=
  match rotOf s ld with
  | some r => setRot r ((rotSt s r).map (fun x => { x with paused := p })) s
  | none => s

def mdirtySync (m : Nat) (s : State) : State :=
  s.set BIND.MIG.MDIRTY.BLOCKS (match migSt s m with | some x => x.dirty.length | none => 0) m

/-- The sequence number that a record requested now will take (R376, R378). -/
def nextRecSeq (s : State) : Nat := s.boot.queue.foldl (fun n q => n + (match q.body with | .reserve .. => 8193 | _ => 1)) s.boot.nextSeq

/-- The header of a slot's bitmap area is written to the destination (R138). -/
def bmInit (m start : Nat) (s : State) : State :=
  match migSt s m with
  | none => s
  | some x =>
    let h := bmHeader x.ld start
    (modMig m (fun y => { y with area := some h }) s).emit
      (.link x.dport ⟨.memWr, 0, s.get BIND.MIG.MBM.BASE m * 4096, 0, .noOp, clear_ [BitVec.ofNat 512 h], 2 ^ 64 - 1, false, 0, .ok, 64⟩)

/-- START (R137): key, bitmap area and record; the LD becomes MIGRATING once the record is written. A start that the journal cannot record is refused too (DESIGN CHOICE, log entry on journal refusals). -/
def migBegin (m : Nat) (s : State) : State :=
  let err (s : State) : State := s.set BIND.MIG.MSTAT.ERR 1 m
  let ld := s.get BIND.MIG.MCTL.LD m
  let p := s.get BIND.MIG.MCTL.DPORT m
  let ldid := s.get BIND.MIG.MCTL.DLDID m
  let mld := poolMld s p
  let base := s.get BIND.MIG.MDEST.DBASE m
  let st := s.get BIND.LD.STATE ld
  if migPhase s m != 0 || (migSt s m).isSome || !s.on BIND.LD.VALID ld || 1 < st || committing s || !destOk s m ld p mld ldid base || !bitmapOk s m ld p mld base then err s
  else
    let (key, s) := newKey s
    let bm := s.get BIND.MIG.MBM.BASE m
    let seq := nextRecSeq s
    match request (.migStart m ld p ldid base bm) [sealKey s (.mig m) key 0] (.mig m) s with
    | (.taken, s) =>
      let s := setMig m (some ⟨ld, st, p, ldid, base, mld, key, [], 0, 0, [], 0, false, false, false, false, 0, none, [], 0, false⟩) s
      bmInit m seq (s.emit (.poolFill p (bm * 4096 + 64) (bitmapBytes s ld - 64)))
    | (.full, s) => err s
    | (.power, s) => err s

/-- MIG_ABORT is requested; where the journal cannot take it yet, the abort waits and asks again (R146; DEDUCED, log entry on migrations). -/
def askAbort (m : Nat) (s : State) : State :=
  match request (.migAbort m) [] (.mig m) s with
  | (.taken, s) => modMig m (fun y => { y with asked := true }) s
  | (_, s) => s

/-- Step 4 of R137: MIG_START is written, so the LD is MIGRATING and the copy begins. -/
def migEnter (m seq : Nat) (s : State) : State :=
  match migSt s m with
  | none => s
  | some x =>
    let s := modMig m (fun y => { y with start := seq, prior := s.get BIND.LD.STATE x.ld }) s
    let s := ((s.set BIND.MIG.MSTAT.PASS 1 m).set BIND.MIG.MSTAT.THROTTLE 0 m).set BIND.MIG.MCURSOR.OFFSET 0 m
    let s := mdirtySync m (pauseRot x.ld true (setPhase m 1 (s.set BIND.LD.STATE 4 x.ld)))
    if x.aborting then askAbort m s else s

/-- Held requests of a slot go through the pipeline again. -/
def releaseMig (m : Nat) (s : State) : State :=
  match migSt s m with
  | none => s
  | some x => readmit x.held (setMig m (some { x with held := [] }) s)

/-- QUIESCE ends without its copy (R142): back to COPY, counted, with the third in a row throttling writes. -/
def quiesceEnd (m lenNs : Nat) (s : State) : State :=
  let s := s.set BIND.MIG.MQSTAT.LAST_NS (min 0xFFFF lenNs) m
  let s := flag BIND.ESTAT.QABORT 9 (s.bump BIND.MIG.MQSTAT.QABORTS 1 m)
  let s := modMig m (fun x => { x with aborts := x.aborts + 1 }) s
  let s := match migSt s m with | some x => if 3 ≤ x.aborts then s.set BIND.MIG.MSTAT.THROTTLE 1 m else s | none => s
  releaseMig m (setPhase m 1 s)

/-- QUIESCE begins, or waits for a binding commit in progress (R142, R147). -/
def quiesceBegin (m : Nat) (s : State) : State :=
  if committing s then modMig m (fun x => { x with wantQ := true }) s
  else setPhase m 3 (modMig m (fun x => { x with wantQ := false, qstart := s.ns }) s)

/-- A further copy pass begins (R139 to R141). -/
def nextPass (m : Nat) (s : State) : State :=
  let s := (s.bump BIND.MIG.MSTAT.PASS 1 m).set BIND.MIG.MCURSOR.OFFSET 0 m
  let s := modMig m (fun x => { x with ckpt := 0, once := false }) s
  setPhase m 1 (request (.migCkpt m 0 (s.get BIND.MIG.MSTAT.PASS m)) [] (.mig m) s).2

/-- The slot returns to IDLE after an abort: the migration key is destroyed and the LD returns to its state before START (R146). -/
def abortDone (m : Nat) (s : State) : State :=
  match migSt s m with
  | none => s
  | some x =>
    let s := if s.get BIND.LD.STATE x.ld = 4 then s.set BIND.LD.STATE x.prior x.ld
      else { s with bind := { s.bind with failedFrom := if (look s.bind.failedFrom x.ld).isSome then put s.bind.failedFrom x.ld x.prior else s.bind.failedFrom } }
    let s := setPhase m 0 (setMig m none s)
    let s := ((s.set BIND.MIG.MSTAT.PASS 0 m).set BIND.MIG.MSTAT.THROTTLE 0 m).set BIND.MIG.MCURSOR.OFFSET 0 m
    readmit x.held (pauseRot x.ld false (restate x.ld (mdirtySync m s)))

/-- Aborts whose record the journal could not take ask again. -/
def retryAborts (s : State) : State :=
  forN 2 (fun m s => match migSt s m with | some x => if x.aborting && !x.asked then askAbort m s else s | none => s) s

/-- An abort (R145, R146): QUIESCE ends, MIRROR writes to the source only, and MIG_ABORT is journalled; a MIG_COMMIT that still waits for the journal is withdrawn. It has no effect once MIG_COMMIT is read back, and one that comes before MIG_START is written follows that record. -/
def migAbort (m : Nat) (s : State) : State :=
  match migSt s m with
  | none => s
  | some x =>
    if x.sealed_ || x.aborting || migPhase s m = 5 then s
    else if migPhase s m = 0 then modMig m (fun y => { y with aborting := true }) s
    else
      let s := voidDec 4 m s
      let s := if migPhase s m = 3 then quiesceEnd m (s.ns - x.qstart) s else setPhase m 1 s
      let s := { s with boot := { s.boot with queue := s.boot.queue.filter (fun q => !(q.who == .mig m && q.body == .migCommit m)) } }
      askAbort m (modMig m (fun y => { y with aborting := true, wantQ := false }) s)

/-- A write of MCTL (R137, R146, R148). With START and ABORT both 1 the start comes first and the abort after it (DESIGN CHOICE, log entry on coincident command bits). -/
def mctlWrite (m v : Nat) (s : State) : State :=
  let s := ((s.set BIND.MIG.MCTL.LD (bitsOf v 0 12) m).set BIND.MIG.MCTL.DPORT (bitsOf v 12 6) m).set BIND.MIG.MCTL.DLDID (bitsOf v 18 4) m
  let s := if bitOf v 22 then migBegin m s else s
  if bitOf v 23 then migAbort m s else s

/-- MIG_START (R137): a write of MCTL with START at 1. -/
def execMigStart (m : Fin 2) (v : Word) (s : State) : Result := atReg BIND.MIG.MCTL.START (fun s => .next (mctlWrite m v.toNat s)) s

/-- MCTL_ABORT (R146): a write of MCTL with ABORT at 1. -/
def execMctlAbort (m : Fin 2) (v : Word) (s : State) : Result := atReg BIND.MIG.MCTL.ABORT (fun s => .next (mctlWrite m v.toNat s)) s

/-- The scan of the pass has reached its end, and every block it read has been written out (R139, R140). -/
def scanDone (s : State) (m : Nat) (x : MigSt) : Bool :=
  let cur := s.get BIND.MIG.MCURSOR.OFFSET m
  x.reads.isEmpty && (if s.get BIND.MIG.MSTAT.PASS m ≤ 1 then decide (s.get BIND.LD.SIZE x.ld * mib256 ≤ cur) else x.dirty.all (fun b => b * blk64 < cur))

/-- COPY_PASS_END (R140, R141): once the scan has reached its end, with at most CONV × 256 KiB dirty the migration has converged and reaches its decision point; otherwise a further pass begins, throttled from pass MAXPASS on. The one pass of MIG_PASS returns to the decision point. -/
def execCopyPassEnd (m : Fin 2) (s : State) : Result :=
  .next (match migSt s m with
    | none => s
    | some x =>
      if migPhase s m != 1 || x.aborting || x.wantQ || !scanDone s m x then s
      else if x.once || x.dirty.length ≤ 4 * s.get BIND.MIG.MCFG.CONV m then
        let (held, s) := reachPoint 4 m (modMig m (fun y => { y with once := false }) s)
        if held then setPhase m 2 s else quiesceBegin m s
      else
        let s := if max 1 (s.get BIND.MIG.MCFG.MAXPASS m) ≤ s.get BIND.MIG.MSTAT.PASS m then s.set BIND.MIG.MSTAT.THROTTLE 1 m else s
        nextPass m s)

/-- MIG_CHECKPOINT (R140): the cursor and the pass go into a record. -/
def execMigCheckpoint (m : Fin 2) (s : State) : Result :=
  .next (if migPhase s m = 1 then (request (.migCkpt m (s.get BIND.MIG.MCURSOR.OFFSET m) (s.get BIND.MIG.MSTAT.PASS m)) [] (.mig m) s).2 else s)

/-- Requests to an LD that were translated and have not completed, the copies of the data mover apart (R142). -/
def ldOpen (s : State) (ld : Nat) : Bool := s.frame.reqs.any (fun r => r.2.toLd && r.2.ld == ld && r.2.x != 78)

/-- Copies of the data mover for an LD that have not completed. -/
def copyOpen (s : State) (ld : Nat) : Bool := s.frame.reqs.any (fun r => r.2.toLd && r.2.ld == ld && r.2.x == 78 && r.2.mid == 0x2000 + 78)

/-- QUIESCE_COPY_DONE (R142, R143): the translated requests have completed and every dirty block is copied within 50 µs, so the LD enters MIRROR, the held requests are released, and MIG_COMMIT is journalled. -/
def execQuiesceCopyDone (m : Fin 2) (lenNs : Nat) (s : State) : Result :=
  .next (match migSt s m with
    | none => s
    | some x =>
      if migPhase s m != 3 || 50000 < lenNs || ldOpen s x.ld || !x.dirty.isEmpty || !x.reads.isEmpty || copyOpen s x.ld then s
      else
        let s := (s.reach (x.qstart + lenNs)).set BIND.MIG.MQSTAT.LAST_NS lenNs m
        let s := mdirtySync m (modMig m (fun y => { y with aborts := 0 }) s)
        let s := releaseMig m (setPhase m 4 s)
        match request (.migCommit m) [] (.mig m) s with
        | (.taken, s) => s
        | (.full, s) => migAbort m s
        | (.power, s) => s)

/-- QUIESCE_TIMEOUT (R142). -/
def execQuiesceTimeout (m : Fin 2) (s : State) : Result :=
  .next (match migSt s m with
    | none => s
    | some x => if migPhase s m = 3 then quiesceEnd m 50000 (s.reach (x.qstart + 50000)) else s)

/-- The block that the scan takes next: every block in pass 1, the next dirty one later; in QUIESCE any dirty one (R139, R142). The cursor stays within 64 MiB of the last checkpoint (R140). -/
def mayCopy (s : State) (m : Nat) (x : MigSt) (b : Nat) : Bool :=
  let cur := s.get BIND.MIG.MCURSOR.OFFSET m / blk64
  let next := if s.get BIND.MIG.MSTAT.PASS m ≤ 1 then some cur else x.dirty.find? (fun d => cur ≤ d)
  if migPhase s m = 3 then x.dirty.contains b
  else migPhase s m == 1 && !x.aborting && next == some b && b * blk64 < s.get BIND.LD.SIZE x.ld * mib256 && (b + 1) * blk64 ≤ x.ckpt + 64 * 2 ^ 20

/-- Lines of a block in packets of eight, the most that one packet carries (R82). -/
def chunks8 : Nat → List Line → List (List Line)
  | 0, _ => []
  | _ + 1, [] => []
  | n + 1, l => l.take 8 :: chunks8 n (l.drop 8)

/-- MIGRATE (R139, R212): a block's bit is cleared, from pass 2 on, and its lines are read from the source under the LD's key, past the home slices, in packets of eight; what comes back goes to the destination. A read of nothing is free of effect while the data mover's domain is off. -/
def execMigrate (m : Fin 2) (block : Nat) (tc : TcId) (s : State) : Result :=
  .next (match migSt s m with
    | none => s
    | some x =>
      if !mayCopy s m x block then s
      else if !pdOn s 9 then pdWake 9 s
      else
        let k : Pkt := { pkt0 with src := 78, orig := 78, tc := tc, mid := 0x2000 + 78, ld := x.ld, dpa := block * blk64, ruleEp := s.get ACT.COMMIT.EPOCH, bindEp := s.get BIND.STAT.EPOCH }
        let first := migPhase s m = 1 && s.get BIND.MIG.MSTAT.PASS m ≤ 1
        let s := if first then s else mdirtySync m (modMig m (fun y => { y with dirty := without block y.dirty }) s)
        let s := if first then s else bmWrite m 78 block 0 { k with home := none } s
        let s := if migPhase s m = 1 then s.set BIND.MIG.MCURSOR.OFFSET ((block + 1) * blk64) m else s
        let s := modMig m (fun y => { y with allow := y.allow + blk64 / 2 }) s
        readmit [] (forN 128 (fun i s =>
          let dpa := block * blk64 + 512 * i
          let (rid, s) := openReq ⟨78, 0, .memRd, tc, k.mid, k.ruleEp, k.bindEp, 0, x.ld, dpa, true, false, s.ns, 1, 0, 0, 0, false⟩ s
          let s := modMig m (fun y => { y with reads := put y.reads rid dpa }) s
          enqueue { k with op := .memRd, lst := 0, dest := poolPort s x.ld, rid := rid, dpa := dpa, toLd := true, len := 512,
                           addr := poolAddr s x.ld (poolHpa s k.mid x.ld dpa) dpa, gen := s.get SEC.LDKEY.GEN x.ld } s) s))

/-- Lines of the source have come back to the data mover, which writes them to the destination under the migration key (R139, R263). -/
def migLines (m : Nat) (p : Pkt) (dpa : Nat) (s : State) : State :=
  match migSt s m with
  | none => s
  | some x =>
    let s := modMig m (fun y => { y with reads := del y.reads p.rid }) s
    let (rid, s) := openReq ⟨78, 0, .memWr, p.tc, 0x2000 + 78, s.get ACT.COMMIT.EPOCH, s.get BIND.STAT.EPOCH, 0, x.ld, dpa, true, false, s.ns, 1, 0, 0, 0, false⟩ s
    perf 274 0x12 p.data.length none (enqueue { pkt0 with op := .memWr, lst := 1, src := 78, orig := 78, tc := p.tc, dest := x.dport, mid := 0x2000 + 78, rid := rid, ld := x.ld, dpa := dpa,
                                                          toLd := true, mirror := true, data := p.data, poison := p.poison, be := 2 ^ 64 - 1, payload := 64 * p.data.length,
                                                          ruleEp := s.get ACT.COMMIT.EPOCH, bindEp := s.get BIND.STAT.EPOCH } s)

/-- A migration record is sealed, or failed to seal: a start that cannot be recorded and a failed commit end the migration, a checkpoint frees the cursor, and an abort is complete, or asks again (R137, R140, R143, R146). -/
def migSealed (m : Nat) (b : JBody) (seq : Nat) (ok : Bool) (s : State) : State :=
  match b with
  | .migStart .. => if ok then migEnter m seq s else abortDone m (s.set BIND.MIG.MSTAT.ERR 1 m)
  | .migCkpt _ cur _ => if ok then modMig m (fun x => { x with ckpt := cur }) s else s
  | .migCommit _ => if ok then modMig m (fun x => if x.aborting then x else { x with sealed_ := true }) s else migAbort m s
  | .migAbort _ => if ok then abortDone m s else retryAborts (modMig m (fun x => { x with asked := false }) s)
  | _ => s

/-- MIG_GO (R141, R392). -/
def execMigGo (d : Decide) (s : State) : Result :=
  .next (answer 4 d (decide (d.obj < 2)) (fun m s => if migPhase s m = 2 then quiesceBegin m s else s) s)

/-- MIG_PASS (R141, R392). -/
def execMigPass (d : Decide) (s : State) : Result :=
  .next (answer 4 d (decide (d.obj < 2)) (fun m s => if migPhase s m = 2 then modMig m (fun x => { x with once := true }) (nextPass m s) else s) s)

/-- MIG_ABORT (R141, R146, R392). -/
def execMigAbort (d : Decide) (s : State) : Result := .next (answer 4 d (decide (d.obj < 2)) migAbort s)

end Sys2Proof.Machine
end

