-- ==== Sys2Proof/Machine/Convert.lean ====
section
/-! DEFINITION. Conversion of a region between PRIVATE and SHARED (R168, R169, R180). -/

namespace Sys2Proof.Machine

/-- A refused conversion: RESULT 1 BUSY, 2 INVALID, 3 JOURNAL, with RF_ERR of slice 0. -/
def rfRefuse (r : Nat) (s : State) : State := flag HOME.ESTAT.RF_ERR 169 (s.set HOME.RFSTAT.RESULT r)

def setConv (c : Option Conv) (s : State) : State := convSync { s with homeG := { s.homeG with conv := c } }

/-- RF_CONVERT (R169): a write of RFCTL with GO at 1. -/
def execRfConvert (v : Word) (s : State) : Result := atReg HOME.RFCTL.GO (fun s =>
  .next (let ld := bitsOf v.toNat 0 12
    let dir := bitOf v.toNat 12
    let s := (s.set HOME.RFCTL.LD ld).setB HOME.RFCTL.TO_SHARED dir
    if !bitOf v.toNat 13 then s
    else
      let rg := s.get HOME.RFREG.REGION
      if s.homeG.conv.isSome || committing s || (migOf s ld).isSome then rfRefuse 1 s
      else if !s.on BIND.LD.VALID ld || s.get HOME.RFMAP.COUNT ld ≤ rg then rfRefuse 2 s
      else
        match request (.bind [] (some (ld, rg, dir)) none) [] .rf s with
        | (.taken, s) => setConv (some ⟨ld, rg, dir, false, false, [], 0, [], []⟩) (s.set HOME.RFSTAT.BUSY 1)
        | (.full, s) => rfRefuse 3 s
        | (.power, s) => rfRefuse 3 s)) s

/-- Requests to the region that are already translated are still open (R169, step 3). -/
def regionOpen (s : State) (c : Conv) : Bool := s.frame.reqs.any (fun r => r.2.toLd && r.2.ld == c.ld && r.2.dpa / 2 ^ 21 == c.region)

/-- A line key lies in the region. -/
def inRegion (c : Conv) (lk : Nat) : Bool := lkLd lk == c.ld && lkDpa lk / 2 ^ 21 == c.region

/-- A message of slice n's own about a line. -/
def ownMsg (n lk : Nat) : HomeMsg :=
  ⟨.memRd, BitVec.ofNat 54 lk, BitVec.ofNat 16 (0x2000 + 72 + n), ⟨(72 + n) % 80, Nat.mod_lt _ (by decide)⟩, 0, .noOp, 0, none, 0, false, false, 0, 0, 0, none⟩

/-- From SHARED to PRIVATE every Tally entry of the region is evicted, and board lines of it go back to the pool (R164, R169, R177). -/
def clearShare (c : Conv) (k : Nat) (s : State) : State :=
  let slots := (homeSt s k).tally.filter (fun q => inRegion c (lkOf (q.1 / 16) q.2.tag) && !q.2.pin)
  let board := (homeSt s k).board.filter (fun b => inRegion c b.lk && boardFree s k b)
  homeAct k (fun s => forL board (boardOut k) (forL slots (fun q s => evict k q.1 none (ownMsg (serving s k) (lkOf (q.1 / 16) q.2.tag)) s) s)) s

/-- The lines of a region. -/
def regionLines : Nat := 32768

/-- From PRIVATE to SHARED each line is snooped at every host bound to the LD with back-invalidate; 256 snoops are outstanding at most (log entry on conversions). -/
def snoopLines : Nat → State → State
  | 0, s => s
  | fuel + 1, s =>
    match s.homeG.conv with
    | none => s
    | some c =>
      if regionLines ≤ c.next || 256 < c.owed.length then s
      else
        let lk := lineKeyOf c.ld (c.region * 2 ^ 21 + c.next * 64)
        let k := fold2 lk
        let s := { s with homeG := { s.homeG with conv := some { c with next := c.next + 1, owed := c.owed ++ c.hosts.map (fun d => (d, lk)) } } }
        snoopLines fuel (forL c.hosts (fun d s => sendSnoop k true d (ownMsg (serving s k) lk) s) s)

/-- The hosts to be snooped: every host bound to the LD with back-invalidate, those of other devices among them (R169). -/
def convHosts (s : State) (ld : Nat) : List Nat :=
  ((((ldBindings s ld).map (fun j => s.get BIND.BT.HOST j)).eraseDups.filter (fun h => s.on PORT.STAT.BI h)).map (localDhn s)
    ++ (s.homeG.seen.filter (·.2 == ld)).map (·.1)).eraseDups

/-- The conversion moves on: once it is journalled and the region's open requests have completed, its lines are cleared (R169). -/
def convStep (s : State) : State :=
  match s.homeG.conv with
  | none => s
  | some c =>
    if !c.sealed_ then s
    else if c.cleared then (if c.toShared then snoopLines 256 s else s)
    else if regionOpen s c then s
    else
      let c' := { c with cleared := true, hosts := convHosts s c.ld }
      let s := setConv (some c') s
      if c.toShared then (if c'.hosts.isEmpty then setConv (some { c' with next := regionLines }) s else snoopLines 256 s)
      else forN 4 (clearShare c') s

/-- The conversion ends without its effect, and the held requests go on under the old class (R169, R382). -/
def dropConv (s : State) : State :=
  match s.homeG.conv with
  | none => s
  | some c => readmit c.held (rfRefuse 3 (setConv none (s.set HOME.RFSTAT.BUSY 0)))

/-- The record of the conversion is sealed, or failed. -/
def rfSealed (ok : Bool) (s : State) : State :=
  match s.homeG.conv with
  | none => s
  | some c => if ok then convStep (setConv (some { c with sealed_ := true }) s) else dropConv s

/-- Nothing of the region is left at the slices. -/
def regionClear (s : State) (c : Conv) : Bool :=
  (List.range 4).all (fun k =>
    let h := homeSt s k
    h.tally.all (fun q => !inRegion c (lkOf (q.1 / 16) q.2.tag)) && h.txs.all (fun t => !inRegion c t.lk) && h.board.all (fun b => !inRegion c b.lk))

/-- RF_CONVERT_DONE (R169, step 5): with every line cleared the bit flips, and the held requests go on under the new class. -/
def execRfConvertDone (s : State) : Result :=
  .next (let s := convStep s
    match s.homeG.conv with
    | none => s
    | some c =>
      if c.cleared && c.owed.isEmpty && (if c.toShared then regionLines ≤ c.next else regionClear s c) then
        let b := s.get HOME.RFMAP.BASE c.ld + c.region
        let w := s.get HOME.RFBITS.BITS (b / 32)
        let s := s.set HOME.RFBITS.BITS (if c.toShared then setBit w (b % 32) else clearBit w (b % 32)) (b / 32)
        let s := markBody (fun b => match b with | .bind [] (some _) _ => true | _ => false) s
        readmit c.held (setConv none ((s.set HOME.RFSTAT.BUSY 0).set HOME.RFSTAT.RESULT 0))
      else s)

end Sys2Proof.Machine
end

