-- ==== Sys2Proof/Machine/Respond.lean ====
section
/-! DEFINITION. Responses that arrive from links and units, and partner credit (R71, R86, R111, R155, R157, R247, R263, R264). -/

namespace Sys2Proof.Machine

/-- A request that a port sent and that waits for the response of a tag. -/
def sentTag (s : State) (p tag : Nat) : Option TagEnt := (portSt s p).tags.find? (fun e => e.sent && e.tag == tag)

/-- A back-invalidate response goes to the line's home, with the mark of a writeback that is still under way (R157). -/
def snoopRsp (p : Nat) (k : Pkt) (r : LinkRsp) (s : State) : State :=
  let lk := lineKeyOf k.ld k.dpa
  let m : HomeMsg := ⟨r.op, BitVec.ofNat 54 lk, BitVec.ofNat 16 p, ⟨p % 80, Nat.mod_lt _ (by decide)⟩, r.tag, r.mv, BitVec.toFin (BitVec.ofNat 3 k.tc), none, 0, false,
    tracked s p lk, BitVec.ofNat 8 k.ruleEp, BitVec.ofNat 8 k.bindEp, 0, none⟩
  let q := { pkt0 with op := r.op, lst := 2, src := p, orig := p, tc := k.tc, mid := p, ld := k.ld, dpa := k.dpa, shared := true, deriv := true, home := some m }
  let d := ldDev s k.ld
  if d = me s then enqueue { q with dest := 72 + serving s (fold2 lk) } s
  else
    match linkTo s d p (72 + fold2 lk) k.tc with
    | some l => enqueue { q with dest := l, ddev := d, dxp := 72 + fold2 lk } s
    | none => s

/-- Bytes named by enables are taken from a new line, the others from the old one (R264). -/
def mergeLine (old new : Line) (be : Nat) : Line :=
  BitVec.ofNat 512 ((List.range 64).foldl (fun a i => a + bitsOf (if bitOf be i then new.toNat else old.toNat) (8 * i) 8 * 2 ^ (8 * i)) 0)

/-- Plaintext of a pool's answer (R263). -/
def openLines (s : State) (k : Pkt) (cs : List Cipher) : List Line :=
  ((List.range cs.length).zip cs).map (fun q => decrypt (poolKey s k (k.dpa + 64 * q.1)) k.ld (k.dpa + 64 * q.1) q.2)

/-- The read half of a partial write is back: the line is merged, encrypted and written under the same tag; a poisoned line stays poisoned (R264). -/
def mergeBack (p : Nat) (e : TagEnt) (k : Pkt) (new : Line) (be : Nat) (r : LinkRsp) (s : State) : State :=
  let old := (openLines s k r.data).headD 0
  let k' := { k with data := [mergeLine old new be], be := 2 ^ 64 - 1, poison := k.poison || r.poison, op := .memWr }
  let e' := { e with merge := none, deadline := s.ns + ctoNs s p, pkt := some k' }
  let s := dirtyWrite p k' (modPort p (fun x => { x with tags := x.tags.map (fun t => if t.sent && t.tag == e.tag then e' else t) }) s)
  perf 277 0x11 1 none (perf 277 0x12 1 none ((injected 6 p 1 s).emit (.link p ⟨.memWr, e.tag, poolAt s k', poolLdid s k', k'.mv, sealLines s k', k'.be, k'.poison, 0, .ok, 64⟩)))

/-- Free the tag of a request that the port sent. -/
def freeSent (p tag : Nat) (s : State) : State := freeTags p (fun e => e.sent && e.tag == tag) s

/-- The port to which a device's completion goes (R62): up to the host where ACS redirects completions between two devices of a virtual switch. Relaxed Ordering of a completion is not carried, so each is redirected (log entry on ACS). -/
def cplDest (s : State) (p : Nat) (q : Req) : Nat :=
  match portSlot s p, portSlot s q.x with
  | some (h, v), some (h', _) => if h = h' && bitOf (vppbOf s h v).acs 3 && isPcie q.op then h else q.x
  | _, _ => q.x

/-- A response to a request that port p sent goes where its request came from (R86, R143, R155). -/
def forward (p : Nat) (e : TagEnt) (k : Pkt) (r : LinkRsp) (s : State) : State :=
  let write := isWrite k.op || k.op == .pcieMemWr
  let plain := if k.toLd then openLines s k r.data else r.data.map (·.plain)
  let s := if k.toLd && !r.data.isEmpty then perf 277 0x12 r.data.length none s else s
  let s := freeSent p e.tag s
  if write && moreWrites s k.rid then answerReq k.rid s
  else
  match k.home, decide (72 ≤ k.orig ∧ k.orig < 76) with
  | some m, true => if write then noticeHome p .poolWrDone k m 0 s else if (reqOf s k.rid).isNone then s else parkFor p k m plain r.poison (r.devLoad.map (·.val)) false s
  | _, _ =>
    match reqOf s k.rid with
    | none => s
    | some q =>
      if k.op == .pcieMemWr then closeReq k.rid s
      else reply k.rid p r.op (fun c => { c with data := plain, poison := r.poison, payload := 64 * plain.length, status := r.status, mv := r.mv, dest := cplDest s p q,
                                                 devLoad := r.devLoad.map (·.val) }) s

/-- A response on the link of fabric port p (R71, R86). A quarantined tag discards it. -/
def portRsp (p : Nat) (r : LinkRsp) (s : State) : State :=
  match sentTag s p r.tag with
  | none => s
  | some e =>
    if e.quar then flag PORT.ESTAT.LATE (64 + p) (s.bump PORT.LATECNT.COUNT 1 p) p
    else
      match e.pkt with
      | none => freeSent p e.tag s
      | some k =>
        match k.op with
        | .biSnpInv | .biSnpData => snoopRsp p k r (freeSent p e.tag s)
        | _ =>
          match e.merge with
          | some (new, be) => mergeBack p e k new be r s
          | none => forward p e k r s

/-- LINK_RESPONSE (R86): a response from a link, or from a unit to the request whose number is its tag. -/
def execLinkResponse (x : XId) (r : LinkRsp) (s : State) : Result :=
  .next (if s.safe then s
    else if x.val < 64 then
      let p := ownerPort s x
      if isUp s p then convStep (portRsp p r (bwRx p (32 + 64 * r.data.length) s)) else s
    else if staleUnit s x r.unitEp.toNat then discardStale x s
    else
      convStep (reply r.tag x r.op (fun c => { c with data := r.data.map (·.plain), poison := r.poison, payload := 64 * r.data.length, status := r.status, mv := r.mv }) s))

/-- LINK_CREDIT_UPDATE (R111): credits that the partner returns for a list are added; the first statement for a list sets it. -/
def execLinkCreditUpdate (p : PortId) (list : Fin 4) (hdr data : Nat) (s : State) : Result :=
  .next (modPort p (fun x =>
    let l := list.val
    { x with credits := if x.credits.any (·.1 == l) then x.credits.map (fun c => if c.1 = l then (l, c.2.1 + hdr, c.2.2 + data) else c)
                        else x.credits ++ [(l, hdr, data)] }) s)

end Sys2Proof.Machine
end

