-- ==== Sys2Proof/Machine/SumMath.lean ====
section
/-! DEFINITION. The exact arithmetic of the Sum engines: operands into lanes, and lanes into results (R188, R190 to R192). -/

namespace Sys2Proof.Machine

/-- Bits of an element by FMT: 0 int32, 1 int64, 2 fp32, 3 fp64, 4 bf16 (R183). -/
def elBits (fmt : Nat) : Nat := nthD [32, 64, 32, 64] fmt 16

/-- Elements of a 64-byte line (R188). -/
def elCount (fmt : Nat) : Nat := 512 / elBits fmt

/-- Fraction bits and exponent bits of a floating-point format. -/
def fracBits (fmt : Nat) : Nat := if fmt = 2 then 23 else if fmt = 3 then 52 else 7

def expBits (fmt : Nat) : Nat := if fmt = 3 then 11 else 8

def isFloat (fmt : Nat) : Bool := 2 ≤ fmt

/-- Quarter rods of one line (R189). -/
def quartersPerLine (fmt : Nat) : Nat := nthD [1, 1, 8, 16] fmt 16

/-- An empty lane. -/
def el0 : SumEl := ⟨0, false, false, false, false, false, false, false⟩

/-- A two's-complement number of `w` bits. -/
def toSigned (w v : Nat) : Int := if v < 2 ^ (w - 1) then Int.ofNat v else Int.ofNat v - Int.ofNat (2 ^ w)

/-- One operand is added to its lane (R188): an integer as it is, a finite floating-point number exactly in units of the lane's weight, which is the format's smallest subnormal. -/
def addOperand (fmt v : Nat) (pois : Bool) (e : SumEl) : SumEl :=
  let e := { e with pois := e.pois || pois }
  if !isFloat fmt then { e with sum := e.sum + toSigned (elBits fmt) v }
  else
    let f := fracBits fmt
    let frac := v % 2 ^ f
    let ex := v / 2 ^ f % 2 ^ expBits fmt
    let neg := bitOf v (elBits fmt - 1)
    if ex = 2 ^ expBits fmt - 1 then
      if frac != 0 then { e with nan := true, snan := e.snan || !bitOf frac (f - 1), nz := true, np := true }
      else if neg then { e with ninf := true, nz := true, np := true } else { e with pinf := true, nz := true, np := true }
    else
      let m : Nat := if ex = 0 then frac else (2 ^ f + frac) * 2 ^ (ex - 1)
      { e with sum := if neg then e.sum - Int.ofNat m else e.sum + Int.ofNat m, nz := e.nz || !(neg && m == 0), np := e.np || !(!neg && m == 0) }

/-- A line of operands is added to a line of lanes. -/
def addLine (fmt : Nat) (d : Line) (pois : Bool) (l : List SumEl) : List SumEl :=
  let w := elBits fmt
  (List.range (elCount fmt)).map (fun i => addOperand fmt (bitsOf d.toNat (w * i) w) pois (nthD l i el0))

/-- Flag bits of a completion write (R194). -/
def fInexact : Nat := 1
def fOverflow : Nat := 2
def fInvalid : Nat := 4
def fNan : Nat := 8
def fPoison : Nat := 16
def fUnderflow : Nat := 32

/-- The rounding decision of R183 for a magnitude cut to an integer `q` with remainder `r` below `2 ^ k`. -/
def roundUp (rmode k q r : Nat) (neg : Bool) : Bool :=
  match rmode with
  | 0 => decide (2 ^ k < 2 * r) || (2 * r == 2 ^ k && q % 2 == 1)
  | 1 => false
  | 2 => r != 0 && !neg
  | _ => r != 0 && neg

/-- A floating-point number from its sign and its magnitude in units of the smallest subnormal, rounded once (R191), with the flags raised. -/
def encodeFloat (fmt rmode : Nat) (neg : Bool) (mag : Nat) : Nat × Nat :=
  let f := fracBits fmt
  let sign := if neg then 2 ^ (elBits fmt - 1) else 0
  let top := 2 ^ expBits fmt - 1
  let k := Nat.log2 mag - f
  let q := mag / 2 ^ k
  let r := mag % 2 ^ k
  let q1 := if roundUp rmode k q r neg then q + 1 else q
  let (q2, k2) := if q1 = 2 ^ (f + 1) then (2 ^ f, k + 1) else (q1, k)
  let flags := if r = 0 then 0 else fInexact + (if mag < 2 ^ f then fUnderflow else 0)
  if q2 < 2 ^ f then (sign + q2, flags)
  else if top ≤ k2 + 1 then
    let inf := rmode = 0 ∨ (rmode = 2 ∧ !neg) ∨ (rmode = 3 ∧ neg)
    (if inf then sign + top * 2 ^ f else sign + (top - 1) * 2 ^ f + (2 ^ f - 1), Nat.lor flags (fOverflow + fInexact))
  else (sign + (k2 + 1) * 2 ^ f + (q2 - 2 ^ f), flags)

/-- A floating-point element from its lane and flags, by the first rule of R191 that applies. -/
def resultFloat (fmt rmode : Nat) (e : SumEl) : Nat × Nat :=
  let f := fracBits fmt
  let inf := (2 ^ expBits fmt - 1) * 2 ^ f
  let sign := 2 ^ (elBits fmt - 1)
  let p := if e.pois then fPoison else 0
  if e.nan || (e.pinf && e.ninf) then
    (inf + 2 ^ (f - 1), p + fNan + (if (e.pinf && e.ninf) || e.snan then fInvalid else 0))
  else if e.pinf then (inf, p)
  else if e.ninf then (sign + inf, p)
  else if e.sum = 0 then
    (if rmode = 3 then (if e.np then sign else 0) else (if e.nz then 0 else sign), p)
  else
    let r := encodeFloat fmt rmode (decide (e.sum < 0)) e.sum.natAbs
    (r.1, p + r.2)

/-- An integer element (R192): clamped with INTSAT, and otherwise modulo its width; beyond the range raises OVERFLOW. -/
def resultInt (fmt : Nat) (sat : Bool) (e : SumEl) : Nat × Nat :=
  let w := elBits fmt
  let hi : Int := Int.ofNat (2 ^ (w - 1)) - 1
  let lo : Int := -Int.ofNat (2 ^ (w - 1))
  let p := if e.pois then fPoison else 0
  let out := decide (e.sum < lo ∨ hi < e.sum)
  let v : Int := if out && sat then (if e.sum < 0 then lo else hi) else e.sum
  ((v % Int.ofNat (2 ^ w)).toNat, p + (if out then fOverflow else 0))

/-- A published line: its data, whether it is poisoned, and the flags of its elements. A poisoned element raises POISON alone (R191). A line that no slot delivered is all +0 (R196). -/
def resultLine (fmt rmode : Nat) (sat : Bool) (l : Option (List SumEl)) : Line × Bool × Nat :=
  match l with
  | none => (0, false, 0)
  | some es =>
    let w := elBits fmt
    let one (e : SumEl) : Nat × Nat := if isFloat fmt then resultFloat fmt rmode e else resultInt fmt sat e
    let vs := es.map one
    let d := ((List.range vs.length).zip vs).foldl (fun a q => a + q.2.1 * 2 ^ (w * q.1)) 0
    (BitVec.ofNat 512 d, es.any (·.pois), (es.zip vs).foldl (fun a q => Nat.lor a (if q.1.pois then fPoison else q.2.2)) 0)

end Sys2Proof.Machine
end

