-- ==== Sys2Proof/Machine/Sum.lean ====
section
/-! DEFINITION. The Sum engines: windows, slots, publication, missing contributions, takeover, and far atomics (R181 to R202). -/

namespace Sys2Proof.Machine

/-- Window states (R204). -/
def wFree : Nat := 0
def wOpen : Nat := 1
def wHeld : Nat := 2
def wPublish : Nat := 3
def wSignal : Nat := 4

/-- The engine that serves a window, or takes an even or odd command (R182, R198). -/
def sumEng (s : State) (w : Nat) : Nat := if s.on SUM.STAT.FAILED (w % 2) || s.sum.away.contains w then 1 - w % 2 else w % 2

/-- The registers of a window pass from one engine to the other (R198). -/
def moveWin (n w : Nat) (s : State) : State :=
  [SUM.WIN.STATE, SUM.WIN.LASTERR, SUM.WIN.ARRIVED, SUM.WIN.GEN, SUM.WIN.REG, SUM.WIN.LOSTCNT, SUM.WIN.QUARTERS].foldl
    (fun s e => (s.set e (s.get e n w) (1 - n) w).set e 0 n w) s

/-- The identity of a function's requests (R278). -/
def fnMid (f : Nat) : Nat := 0x3000 + f

def sumFlag (e : Ent) (n : Nat) (s : State) : State := flag e (173 + n) s n

/-- A stray write is discarded (R181, R204): its event is posted only with STRAY_EVT. -/
def sumStray (n : Nat) (s : State) : State :=
  let s := s.bump SUM.STRAYCNT.COUNT 1 n
  if s.on SUM.CFG.STRAY_EVT n then sumFlag SUM.ESTAT.STRAY n s else s.set SUM.ESTAT.STRAY 1 n

/-- A malformed write is discarded (R184, R187). -/
def sumForm (n : Nat) (s : State) : State := sumFlag SUM.ESTAT.FORM n (s.bump SUM.STRAYCNT.COUNT 1 n)

/-- Function f is granted window w (R182); windows past 511 are not granted. -/
def sumGranted (s : State) (f w : Nat) : Bool :=
  let b := s.get SUM.GRANT.WBASE f
  b ≤ w && w < b + s.get SUM.GRANT.WCNT f

def winState (s : State) (w : Nat) : Nat := s.get SUM.WIN.STATE (sumEng s w) w

/-- A window's state changes; its source is 576 + w (R337). -/
def setWin (w v : Nat) (s : State) : State :=
  let s1 := setState SUM.WIN.STATE v (576 + w) s (sumEng s w) w
  if v = wFree && s1.sum.away.contains w then moveWin (1 - w % 2) w { s1 with sum := { s1.sum with away := without w s1.sum.away } } else s1

def winSet (e : Ent) (w v : Nat) (s : State) : State := s.set e v (sumEng s w) w

def winOf (s : State) (w : Nat) : Option SumWin := look s.sum.wins w

def putWin (w : Nat) (x : SumWin) (s : State) : State := { s with sum := { s.sum with wins := put s.sum.wins w x } }

/-- Every line of a slot has arrived (R187). -/
def slotDone (x : SumWin) (t : SumSlot) : Bool := t.lines == 2 ^ x.lines - 1

def slotComplete (x : SumWin) (i : Nat) : Bool := match look x.slots i with | some t => slotDone x t | none => false

def slotLost (x : SumWin) (i : Nat) : Bool := match look x.slots i with | some t => t.lost | none => false

/-- Slots missing from a publication or abort (R181, R197). -/
def missingMap (x : SumWin) : Nat := (List.range x.expect).foldl (fun a i => if slotComplete x i then a else a + 2 ^ i) 0

def arrivedCount (x : SumWin) : Nat := (x.slots.filter (fun q => slotDone x q.2)).length

/-- A window's status shows its slots (R204). -/
def winSync (w : Nat) (x : SumWin) (s : State) : State :=
  winSet SUM.WIN.LOSTCNT w (x.slots.filter (·.2.lost)).length (winSet SUM.WIN.REG w x.slots.length (winSet SUM.WIN.ARRIVED w (arrivedCount x) s))

/-- Windows of an engine that are not FREE, and the quarter rods they hold. -/
def busyWins (s : State) (n : Nat) : List Nat := (s.sum.wins.map (·.1)).filter (fun w => sumEng s w == n && winState s w != wFree)

def sumSync (n : Nat) (s : State) : State :=
  let l := busyWins s n
  (s.set SUM.STAT.BUSYWIN l.length n).set SUM.STAT.QUSE ((l.map (fun w => s.get SUM.WIN.QUARTERS n w)).sum) n

/-- The deadline of a timer of `us` microseconds: none for 0, and at most one second (R183). -/
def winTimer (s : State) (us : Nat) : Option Nat := if us = 0 then none else some (s.ns + min us 1000000 * 1000)

/-- The result range as one contiguous range of one LD, which the access table lets the opener write (R184, R193). -/
def resultRange (s : State) (f raddr lines : Nat) : Option (Nat × Nat) :=
  match fnBinding s f with
  | none => none
  | some (h, _) =>
    match translate s h raddr with
    | .ld n a _ =>
      let inLd := (List.range lines).all (fun i => match translate s h (raddr + 64 * i) with | .ld m b _ => m == n && b == a + 64 * i | _ => false)
      let allowed := (List.range lines).all (fun i => (actCheck s (fnMid f) 0 0 (raddr + 64 * i) 1).isNone)
      if inLd && allowed then some (n, a) else none
    | _ => none

/-- Reserved bits of a window descriptor are 0 (R183). -/
def descReserved (d : Nat) : Bool :=
  bitsOf d 15 1 == 0 && bitsOf d 29 3 == 0 && bitsOf d 48 16 == 0 && bitsOf d 84 44 == 0 && bitsOf d 192 320 == 0

/-- A window descriptor as a window of function f (R183). -/
def descWin (s : State) (f d : Nat) : SumWin :=
  let to_ := bitsOf d 64 20
  { fmt := bitsOf d 0 3, rmode := bitsOf d 3 2, intsat := bitOf d 5, loss := bitOf d 6, rearm := bitOf d 7, lines := bitsOf d 8 7, expect := bitsOf d 16 10,
    ctc := bitsOf d 26 3, timeout := to_, raddr := bitsOf d 128 64, opener := f, slots := [], rods := [], deadline := winTimer s to_, status := 0, flags := 0, ruleEp := s.get ACT.COMMIT.EPOCH, bindEp := s.get BIND.STAT.EPOCH, bitmap := 0 }

/-- The first check of R184 that a descriptor fails, in the order GRANT, BUSY, FORMAT, RESULT, SPACE; 0 where all pass. -/
def openCheck (s : State) (f w d : Nat) : Nat :=
  let x := descWin s f d
  let n := sumEng s w
  let form := x.fmt ≤ 4 && 1 ≤ x.lines && x.lines ≤ 64 && 1 ≤ x.expect && x.expect ≤ 512 && x.raddr % 64 == 0 && descReserved d
  if !s.on SUM.GRANT.OPEN f then 5
  else if winState s w != wFree then 1
  else if !form then 2
  else if (resultRange s f x.raddr x.lines).isNone then 3
  else if 32768 < s.get SUM.STAT.QUSE n + x.lines * quartersPerLine x.fmt || (s.on SUM.STAT.DEGR n && 256 ≤ (busyWins s n).length) then 4
  else 0

/-- Function f writes a descriptor of window w (R182 to R184). -/
def winDesc (f w : Nat) (aligned : Bool) (d : Nat) (s : State) : State :=
  let n := sumEng s w
  if !sumGranted s f w then sumStray n s
  else if !aligned then sumForm n s
  else
    let e := openCheck s f w d
    let s := winSet SUM.WIN.LASTERR w e s
    if e != 0 then sumFlag SUM.ESTAT.OPEN_ERR n s
    else
      let x := descWin s f d
      let x := { x with bitmap := match winOf s w with | some o => o.bitmap | none => 0 }
      let s := winSet SUM.WIN.QUARTERS w (x.lines * quartersPerLine x.fmt) (winSet SUM.WIN.GEN w (bitsOf d 32 16) (putWin w x s))
      sumSync n (setWin w wOpen (winSync w x (perf (272 + n) 0x12 1 none s)))

/-- WINDOW_DESCRIPTOR (R182 to R184). -/
def execWindowDescriptor (f : FnId) (w : WinId) (aligned : Bool) (d : Line) (s : State) : Result :=
  toUnit (10 + sumEng s w) (.windowDescriptor f w aligned d) (fun s => .next (winDesc f w aligned d.toNat s)) s

/-- A posted write of `len` bytes of a unit at crossbar port x towards a host, under the epochs of what caused it (R87): its bytes stand in the line at the place of their address. -/
def hostWrite (x host tc mid ruleEp bindEp addr v len : Nat) (s : State) : State :=
  enqueue { pkt0 with op := .pcieMemWr, lst := 1, src := x, orig := x, dest := host, tc := tc, mid := mid, ruleEp := ruleEp, bindEp := bindEp, addr := addr, data := [BitVec.ofNat 512 (v * 256 ^ (addr % 64))],
                      be := (2 ^ len - 1) * 2 ^ (addr % 64), payload := max 16 len, len := len } s

/-- A completion write to one slot (R194): 16 bytes to the registrant's host, unless the slot is lost, asked for none, or its function is unbound or its port not UP. -/
def completion (w status gen arrived : Nat) (x : SumWin) (t : SumSlot) (s : State) : State :=
  match fnBinding s t.fn with
  | none => s
  | some (h, _) =>
    if t.lost || t.caddr = 0 || !isUp s h then s
    else
      let n := sumEng s w
      let flags := if status ≤ 1 then x.flags else 0
      let body := t.cval + status * 2 ^ 32 + flags * 2 ^ 40 + gen * 2 ^ 48 + arrived * 2 ^ 64
      hostWrite (76 + n) h x.ctc (fnMid t.fn) x.ruleEp x.bindEp t.caddr body 16 s

/-- SIGNAL (R194, R195): the bitmap first, then a window with REARM reopens, then the completion writes; otherwise the window is FREE after them. -/
def toSignal (w status : Nat) (s : State) : State :=
  match winOf s w with
  | none => s
  | some x =>
    let n := sumEng s w
    let gen := s.get SUM.WIN.GEN n w
    let arrived := arrivedCount x
    let s := if status = 2 then s.bump SUM.ABORTCNT.COUNT 1 n else s
    let s := setWin w wSignal s
    let x := if status ≤ 1 then x else { x with ruleEp := s.get ACT.COMMIT.EPOCH, bindEp := s.get BIND.STAT.EPOCH }
    let y := { x with bitmap := missingMap x, slots := [], rods := [], status := 0, flags := 0 }
    let tell (s : State) : State := forL x.slots (fun q s => completion w status gen arrived x q.2 s) s
    if x.rearm && status ≤ 1 then
      let y := { y with deadline := winTimer s x.timeout }
      tell (setWin w wOpen (winSync w y (winSet SUM.WIN.GEN w (gen + 1) (putWin w y s))))
    else
      let y := { y with deadline := none }
      let s := tell (putWin w y s)
      sumSync n (setWin w wFree (winSync w y (winSet SUM.WIN.QUARTERS w 0 s)))

/-- One result line as a write of the opener, under the epochs of the publication and without a second check (R87, R193); its tag names the window and the line. -/
def resultWrite (w l : Nat) (x : SumWin) (r : Line × Bool × Nat) (s : State) : State :=
  let n := sumEng s w
  let (rid, s) := freshId s
  admitReq (76 + n) rid ⟨.memWr, w * 64 + l, BitVec.ofNat 64 (x.raddr + 64 * l), .noOp, .mem, BitVec.toFin (BitVec.ofNat 3 x.ctc), BitVec.ofNat 16 (fnMid x.opener),
    BitVec.ofNat 8 (s.get FRAME.XP.UNITEP.EPOCH (76 + n)), 64, [r.1], BitVec.allOnes 64, r.2.1, false, false, 0, true, true, false⟩ x.ruleEp x.bindEp none s

/-- PUBLISH with a status (R193): RADDR is translated and checked again, and each line is rounded and written. -/
def publish (w status : Nat) (s : State) : State :=
  match winOf s w with
  | none => s
  | some x =>
    let n := sumEng s w
    let s := setWin w wPublish s
    match resultRange s x.opener x.raddr x.lines with
    | none => toSignal w 4 (sumFlag SUM.ESTAT.NO_RESULT n (putWin w { x with deadline := none } s))
    | some _ =>
      let rs := (List.range x.lines).map (fun l => (l, resultLine x.fmt x.rmode x.intsat (look x.rods l)))
      let x := { x with status := status, deadline := none, ruleEp := s.get ACT.COMMIT.EPOCH, bindEp := s.get BIND.STAT.EPOCH, flags := rs.foldl (fun a r => Nat.lor a r.2.2.2) 0 }
      forL rs (fun r s => resultWrite w r.1 x r.2 s) (putWin w x (perf (272 + n) 0x11 1 none (s.bump SUM.PUBCNT.COUNT 1 n)))

/-- What a window does without a decision (R196): with LOSS 1 it publishes what arrived, otherwise it aborts. -/
def lossAction (loss : Bool) (w : Nat) (s : State) : State := if loss then publish w 1 s else toSignal w 2 s

/-- A window reaches HELD (R196, R197): the decision point of bit 7. -/
def toHeld (w : Nat) (s : State) : State :=
  match winOf s w with
  | none => s
  | some x =>
    let n := sumEng s w
    let s := if x.slots.any (fun q => q.2.lost && !slotDone x q.2) then sumFlag SUM.ESTAT.LOST n s else s
    let s := setWin w wHeld (putWin w { x with deadline := none } s)
    let (held, s) := reachPoint 7 w s
    if held then s else lossAction x.loss w s

/-- A window looks at its slots again (R187, R196, R197): with every slot complete it publishes COMPLETE; an OPEN window whose slots that are not lost are all complete reaches HELD. -/
def winCheck (w : Nat) (s : State) : State :=
  match winOf s w with
  | none => s
  | some x =>
    let st := winState s w
    if st != wOpen && st != wHeld then s
    else if (List.range x.expect).all (slotComplete x) then publish w 0 (closeDec 7 w s)
    else if st = wOpen && (List.range x.expect).all (fun i => slotComplete x i || slotLost x i) then toHeld w s
    else s

/-- Function f writes the close doorbell of window w (R182, R185). -/
def winClose (f w : Nat) (s : State) : State :=
  let n := sumEng s w
  let st := winState s w
  match sumGranted s f w && s.on SUM.GRANT.OPEN f && (st == wOpen || st == wHeld), winOf s w with
  | true, some x => if x.opener = f then toSignal w 2 (voidDec 7 w (putWin w { x with rearm := false } s)) else sumStray n s
  | _, _ => sumStray n s

/-- CLOSE_DOORBELL (R182, R185). -/
def execCloseDoorbell (f : FnId) (w : WinId) (s : State) : Result :=
  toUnit (10 + sumEng s w) (.closeDoorbell f w) (fun s => .next (winClose f w s)) s

/-- Function f registers slot i of window w (R182, R186). A CADDR off its alignment and a write that is not 16 bytes are among the registrations that are not accepted. -/
def slotReg (f w i : Nat) (whole : Bool) (v : Nat) (s : State) : State :=
  let n := sumEng s w
  let st := winState s w
  match sumGranted s f w && whole && (st == wOpen || st == wHeld), winOf s w with
  | true, some x =>
    if bitsOf v 96 16 = s.get SUM.WIN.GEN n w && i < x.expect && (look x.slots i).isNone && bitsOf v 0 4 = 0 then
      let x := { x with slots := put x.slots i ⟨f, bitsOf v 0 64, bitsOf v 64 32, 0, false⟩ }
      winSync w x (putWin w x s)
    else sumStray n s
  | _, _ => sumStray n s

/-- SLOT_REGISTRATION (R182, R186). -/
def execSlotRegistration (f : FnId) (w : WinId) (i : Fin 512) (whole : Bool) (d : BitVec 128) (s : State) : Result :=
  toUnit (10 + sumEng s w) (.slotRegistration f w i whole d) (fun s => .next (slotReg f w i whole d.toNat s)) s

/-- One line of a contribution is taken on its own (R187, R188); a line of a LOST slot that was on its way when the port was lost still counts (R197, R199). Rods written with inverted check bits show in a record, and with two wrong bits as a poisoned element (R322, R448). -/
def takeLine (f w i l : Nat) (poison : Bool) (d : Line) (s : State) : State :=
  let n := sumEng s w
  let st := winState s w
  match (st == wOpen || st == wHeld), winOf s w with
  | true, some x =>
    match look x.slots i with
    | none => sumStray n s
    | some t =>
      if t.fn != f || x.lines ≤ l then sumStray n s
      else if bitOf t.lines l then sumFlag SUM.ESTAT.DUP n (s.bump SUM.DUPCNT.COUNT 1 n)
      else
        let rod := addLine x.fmt d poison (lookD x.rods l [])
        let hurt := injArmed s 3 n
        let bad := hurt && s.get TST.INJCTL.BITS == 2
        let rod := if bad then (match rod with | e :: es => { e with pois := true } :: es | [] => []) else rod
        let s := if hurt then report { rec0 (eSum + n) (if bad then kEccUe else kEccCe) (if bad then 1 else 0) 0 with addr := x.raddr + 64 * l, akind := 2 } s else s
        let x := { x with rods := put x.rods l rod, slots := put x.slots i { t with lines := t.lines + 2 ^ l } }
        let s := perf (272 + n) 0x10 1 none (perf (272 + n) 0x15 8 none (s.bump SUM.LINES.COUNT 1 n))
        injected 3 n (quartersPerLine x.fmt) (winSync w x (putWin w x s))
  | _, _ => sumStray n s

/-- Function f contributes lines of slot i of window w from line `first` on (R182, R187): each is taken on its own; a write that is not made of 1 to 8 whole lines of the slot is discarded. -/
def contribute (f w i first : Nat) (whole poison : Bool) (lines : List Line) (s : State) : State :=
  let n := sumEng s w
  if !sumGranted s f w then sumStray n s
  else if !whole || lines.isEmpty || 8 < lines.length || 64 < first + lines.length then sumForm n s
  else winCheck w (forL ((List.range lines.length).zip lines) (fun q s => takeLine f w i (first + q.1) poison q.2 s) s)

/-- CONTRIBUTION (R182, R187). -/
def execContribution (f : FnId) (w : WinId) (i : Fin 512) (first : Fin 64) (whole : Bool) (poison : Bool) (lines : List Line) (s : State) : Result :=
  toUnit (10 + sumEng s w) (.contribution f w i first whole poison lines) (fun s => .next (contribute f w i first whole poison lines s)) s

/-- BAR2_STRAY_WRITE (R181): SUM0 counts a write to an offset that is not listed. -/
def execBar2StrayWrite (f : FnId) (offset : BitVec 31) (s : State) : Result := toUnit 10 (.bar2StrayWrite f offset) (fun s => .next (sumStray 0 s)) s

/-- A window's result writes that have not completed: open, or held on their way (R193). -/
def resultOwed (s : State) (w : Nat) : Bool :=
  let mine (r : LinkReq) : Bool := r.op == .memWr && r.tag / 64 == w
  let eng (x : Nat) : Bool := x == 76 || x == 77
  s.frame.reqs.any (fun q => eng q.2.x && q.2.op == .memWr && q.2.tag / 64 == w)
    || (List.range 2).any (fun m => match migSt s m with | some g => g.held.any (fun h => eng h.1 && mine h.2.2) | none => false)
    || (match s.homeG.conv with | some c => c.held.any (fun h => eng h.1 && mine h.2.2) | none => false)
    || s.blkG.held.any (fun h => eng h.2.1 && mine h.2.2.2) || s.bind.backlog.any (fun h => eng h.1 && mine h.2.2)

/-- RESULT_WRITES_DONE (R193): the window enters SIGNAL once every result write has been completed by its target. -/
def execResultWritesDone (w : WinId) (s : State) : Result :=
  .next (match winOf s w with
    | none => s
    | some x => if winState s w = wPublish && !resultOwed s w then toSignal w x.status s else s)

/-- WINDOW_TIMER_EXPIRY (R196): the timer of an OPEN window expires. -/
def execWindowTimerExpiry (w : WinId) (s : State) : Result :=
  .next (match winOf s w with
    | none => s
    | some x =>
      match x.deadline with
      | none => s
      | some t =>
        if winState s w != wOpen then s
        else
          let n := sumEng s w
          let s := (s.reach t).bump SUM.TOCNT.COUNT 1 n
          toHeld w (sumFlag SUM.ESTAT.TIMEOUT n (perf (272 + n) 0x14 1 none s)))

/-- SUM_EXTEND (R196, R392): back to OPEN, and the timer restarts with the given time, 1 to 1,000,000 µs. -/
def execSumExtend (d : Decide) (us : Nat) (s : State) : Result :=
  .next (answer 7 d (1 ≤ us && us ≤ 1000000) (fun w s =>
    match winOf s w with
    | none => s
    | some x => if winState s w = wHeld then setWin w wOpen (putWin w { x with deadline := winTimer s us } s) else s) s)

/-- SUM_PUBLISH (R196, R392). -/
def execSumPublish (d : Decide) (s : State) : Result :=
  .next (answer 7 d true (fun w s => if winState s w = wHeld then publish w 1 s else s) s)

/-- SUM_ABORT (R196, R392). -/
def execSumAbort (d : Decide) (s : State) : Result :=
  .next (answer 7 d true (fun w s => if winState s w = wHeld then toSignal w 2 s else s) s)

/-- Slots whose function satisfies `p` become LOST (R197); a complete one keeps its contribution. -/
def sumLost (p : Nat → Bool) (s : State) : State :=
  forL (s.sum.wins.map (·.1)) (fun w s =>
    match winOf s w with
    | none => s
    | some x =>
      let st := winState s w
      if (st = wOpen || st = wHeld || st = wPublish) && x.slots.any (fun q => p q.2.fn && !q.2.lost) then
        let x := { x with slots := x.slots.map (fun q => (q.1, if p q.2.fn then { q.2 with lost := true } else q.2)) }
        winCheck w (winSync w x (putWin w x s))
      else s) s

/-- Slots of the functions bound to a host become LOST (R78, R197). -/
def sumHostLost (h : Nat) (s : State) : State := sumLost (fun f => (fnBinding s f).map (·.1) == some h) s

/-- Engine n fails hard (R198): the other engine takes over its windows, tells their registered slots RESUBMIT and frees them. -/
def engineTakeover (n : Nat) (s : State) : State :=
  let mine := busyWins s n
  let gens := mine.map (fun w => (w, s.get SUM.WIN.GEN n w))
  let s := forL ((s.sum.wins.map (·.1)).filter (fun w => sumEng s w == n)) (moveWin n) s
  let s := (({ s with sum := { s.sum with away := [] } }).set SUM.STAT.FAILED 1 n).set SUM.STAT.DEGR 1 (1 - n)
  let s := forL gens (fun q s =>
    match winOf s q.1 with
    | none => s
    | some x =>
      let s := voidDec 7 q.1 s
      let s := forL x.slots (fun t s => completion q.1 3 q.2 (arrivedCount x) x t.2 s) s
      let y := { x with slots := [], rods := [], deadline := none, status := 0, flags := 0 }
      setWin q.1 wFree (winSync q.1 y (winSet SUM.WIN.QUARTERS q.1 0 (putWin q.1 y s)))) s
  sumSync n (sumSync (1 - n) s)

/-- Status codes of far atomics (R201). -/
def aDone : Nat := 0
def aFormat : Nat := 1
def aAlign : Nat := 2
def aMiss : Nat := 3
def aDenied : Nat := 4
def aPrivate : Nat := 5
def aGrant : Nat := 6
def aPoison : Nat := 7

/-- A data mover function's state beside its registers; the MSI-X vectors start masked, as the standard layout has them. -/
def fnSt (s : State) (f : Nat) : FnSt :=
  lookD s.dmv.fns f ⟨[0, 0, 0, 0], [], 0, 0, 0, none, 0, List.replicate 8 (2 ^ 96), [], false⟩

def setFn (f : Nat) (x : FnSt) (s : State) : State := { s with dmv := { s.dmv with fns := put s.dmv.fns f x } }

def modFn (f : Nat) (g : FnSt → FnSt) (s : State) : State := setFn f (g (fnSt s f)) s

/-- Change the descriptor of a queue and index. -/
def modDesc (f q idx : Nat) (g : DmvDesc → DmvDesc) (s : State) : State :=
  modFn f (fun x => { x with exec := x.exec.map (fun e => if e.q = q && e.idx = idx then g e else e) }) s

/-- The engine's verdict reaches the descriptor that asked for it (R212): RESULT holds the status and CAS_OK. -/
def atomVerdict (a : AtomWait) (status : Nat) (cas : Bool) (s : State) : State :=
  match a.src with
  | none => s
  | some (q, i) => modDesc a.fn q i (fun e => { e with verdict := true, result := status + b2n cas * 256, err := if status = 0 then 0 else 10 }) s

/-- The answer of a far atomic (R202): a posted write of 32 bytes where a result address was given, and the error count and flag where the status is not DONE. -/
def atomAnswer (a : AtomWait) (status old : Nat) (s : State) : State :=
  let n := a.eng
  let s := if status = aDone then s else sumFlag SUM.ESTAT.ATOM_ERR n (s.bump SUM.ATOMERR.COUNT 1 n)
  let old := if status = aDone then old else 0
  let cas := status = aDone && a.opc = 2 && old = a.op0
  let s := atomVerdict a status cas s
  match fnBinding s a.fn with
  | none => s
  | some (h, _) =>
    if a.raddr = 0 then s
    else
      let body := old + a.tag * 2 ^ 128 + status * 2 ^ 160 + b2n cas * 2 ^ 168
      hostWrite (76 + n) h a.rtc (fnMid a.fn) a.ruleEp a.bindEp a.raddr body 32 s

/-- The first check of R201 that a command fails before it goes to a home; 0 where it goes. -/
def atomCheck (s : State) (f n : Nat) (aligned : Bool) (d : Nat) : Nat :=
  let wide := bitOf d 4
  let target := bitsOf d 64 64
  let size := if wide then 16 else 8
  let reserved := bitsOf d 8 24 == 0 && bitsOf d 448 64 == 0 && (wide || (bitsOf d 192 64 == 0 && bitsOf d 320 64 == 0))
  if !(aligned && bitsOf d 0 4 ≤ 5 && reserved && bitsOf d 384 64 % 32 == 0) then aFormat
  else if !(s.on SUM.GRANT.ATOM f && s.on SUM.CFG.ATOM_EN n) then aGrant
  else if target % size != 0 then aAlign
  else
    match (fnBinding s f).map (fun b => translate s b.1 target) with
    | some (.ld ld dpa _) =>
      if (actCheck s (fnMid f) 0 0 target 2).isSome then aDenied
      else if ldDev s ld = me s && !sharedAt s ld dpa then aPrivate
      else 0
    | _ => aMiss

/-- A far-atomic command at engine n (R200, R201). One that the access table refuses is a denied request (R279, R281). -/
def farAtomic (f n : Nat) (aligned : Bool) (line : Line) (src : Option (Nat × Nat)) (s : State) : State :=
  let d := line.toNat
  let wide := bitOf d 4
  let op0 := bitsOf d 128 (if wide then 128 else 64)
  let a : AtomWait := ⟨f, bitsOf d 384 64, bitsOf d 5 3, bitsOf d 32 32, wide, bitsOf d 0 4, op0, n, src, s.get ACT.COMMIT.EPOCH, s.get BIND.STAT.EPOCH⟩
  let st := atomCheck s f n aligned d
  if st != 0 then
    atomAnswer a st 0 (if st = aDenied then
      (match actCheck s (fnMid f) 0 0 (bitsOf d 64 64) 2 with | some why => actDeny (fnMid f) 0 0 (bitsOf d 64 64) 2 why s | none => s) else s)
  else
    let target := bitsOf d 64 64
    let op : AtomOp := ⟨a.opc, wide, target % 64, BitVec.ofNat 128 op0, BitVec.ofNat 128 (bitsOf d 256 (if wide then 128 else 64))⟩
    let s := perf (272 + n) 0x13 1 none (s.bump SUM.ATOMCNT.COUNT 1 n)
    let (rid, s) := freshId s
    let s := { s with sum := { s.sum with atoms := put s.sum.atoms rid a } }
    takeIn (76 + n) rid ⟨.farAtomic, 0, BitVec.ofNat 64 target, .noOp, .mem, BitVec.toFin (BitVec.ofNat 3 a.rtc), BitVec.ofNat 16 (fnMid f),
      BitVec.ofNat 8 (s.get FRAME.XP.UNITEP.EPOCH (76 + n)), 32, [atomLine op], 0, false, false, false, 0, true, true, false⟩ (some op) s

/-- The home's answer to a far atomic arrives at its engine (R201, R202). -/
def atomReply (p : Pkt) (s : State) : State :=
  match look s.sum.atoms p.rid with
  | none => s
  | some a =>
    let s := { s with sum := { s.sum with atoms := del s.sum.atoms p.rid } }
    let st := if p.data.isEmpty then aPrivate else if p.poison then aPoison else aDone
    atomAnswer a st (bitsOf (nthD p.data 0 0).toNat 0 (if a.wide then 128 else 64)) s

/-- A host's write to BAR2 of function f reaches the engine (R181, R182). A read-only area takes no write. -/
def bar2Write (f : Nat) (k : Pkt) (s : State) : State :=
  let off := k.addr % 2 ^ 31
  let d := nthD k.data 0 0
  let all := k.be == 2 ^ 64 - 1
  let one := all && k.data.length == 1
  if off < 0x40000000 then contribute f (off / 0x200000) (off / 0x1000 % 512) (off / 64 % 64) all k.poison k.data s
  else if off < 0x40020000 then
    let w := (off - 0x40000000) / 0x100
    if off % 0x100 < 0x40 then winDesc f w one d.toNat s
    else if 0xC0 ≤ off % 0x100 && bitsOf k.be 0 4 != 0 then winClose f w s
    else sumStray 0 s
  else if 0x40100000 ≤ off && off < 0x40500000 then
    let j := ((List.range 4).find? (fun j => bitsOf k.be (16 * j) 16 != 0)).getD 0
    slotReg f ((off - 0x40100000) / 0x2000) (off % 0x2000 / 64 * 4 + j) (k.be == 0xFFFF * 2 ^ (16 * j)) (bitsOf d.toNat (128 * j) 128) s
  else if 0x60000000 ≤ off && off < 0x60001000 then farAtomic f (sumEng s (off / 64 % 2)) one d none s
  else sumStray 0 s

/-- What a read of BAR2 shows of the line at an offset (R181, R204): the first eight bytes of the window's register, or the missing-slot bitmap; 0 elsewhere. -/
def bar2Line (s : State) (off : Nat) : Nat :=
  let w := (off - 0x40000000) / 0x100
  if 0x40000000 ≤ off && off < 0x40020000 then
    if off % 0x100 / 64 = 1 then
      s.word 64 [SUM.WIN.STATE, SUM.WIN.LASTERR, SUM.WIN.ARRIVED, SUM.WIN.GEN, SUM.WIN.REG, SUM.WIN.LOSTCNT] (sumEng s w) w
    else if off % 0x100 / 64 = 2 then (match winOf s w with | some x => x.bitmap | none => 0)
    else 0
  else 0

/-- A request that reaches an engine: an access to BAR2 of a function, or the home's answer to a far atomic (R181, R201). -/
def sumAccess (x : Nat) (k : Pkt) (s : State) : State :=
  match k.op with
  | .atomicRsp => atomReply k s
  | .pcieMemWr => bar2Write k.ld k s
  | .pcieMemRd => reply k.rid x .pcieCpl (fun c => { c with data := [BitVec.ofNat 512 (bar2Line s (k.addr % 2 ^ 31))], payload := max 16 k.len }) s
  | o => if k.lst ≤ 1 && expects o then reply k.rid x .pcieCpl (fun c => { c with status := .unsupported }) s else s

/-- FAR_ATOMIC_COMMAND (R182, R200 to R202). -/
def execFarAtomicCommand (f : FnId) (engine1 : Bool) (aligned : Bool) (d : Line) (s : State) : Result := toUnit (10 + sumEng s (b2n engine1)) (.farAtomicCommand f engine1 aligned d) (fun s => .next (farAtomic f (sumEng s (b2n engine1)) aligned d none s)) s

end Sys2Proof.Machine
end

