-- ==== Sys2Proof/Machine/Dmv.lean ====
section
/-! DEFINITION. The data mover: queues, descriptors, completion entries, interrupts, freezing, function reset and crypto-erase (R205 to R221). -/

namespace Sys2Proof.Machine

/-- Function states (R223). -/
def fIdle : Nat := 0
def fRun : Nat := 1
def fFreezing : Nat := 2
def fFrozen : Nat := 3

def fnState (s : State) (f : Nat) : Nat := s.get FN.STAT.STATE f

/-- A function's state changes; function f is event source 320 + f (R337). -/
def setFnState (f v : Nat) (s : State) : State := setState FN.STAT.STATE v (320 + f) s f

/-- Submission queues that a function may enable (R224). -/
def maxSq (s : State) (f : Nat) : Nat := min 4 (max 1 (s.get DMV.FN.FCFG.MAXSQ f))

/-- A function with a queue enabled runs, and one with none is IDLE; a freeze stands (R217). -/
def fnSync (f : Nat) (s : State) : State :=
  if 2 ≤ fnState s f then s
  else setFnState f (if s.on FN.CQ.CFG.EN f || (List.range 4).any (fun q => s.on FN.SQ.CFG.EN f q) then fRun else fIdle) s

/-- Sizes of the queues (R208). -/
def sqSize (s : State) (f q : Nat) : Nat := 2 ^ s.get FN.SQ.CFG.LOGSIZE f q

def cqSize (s : State) (f : Nat) : Nat := 2 ^ s.get FN.CQ.CFG.LOGSIZE f

/-- The CQ has an entry that the host does not hold (R210). -/
def cqRoom (s : State) (f : Nat) : Bool := s.on FN.CQ.CFG.EN f && (fnSt s f).used < cqSize s f

def cqSync (f : Nat) (s : State) : State := s.setB FN.CQ.STAT.FULL (s.on FN.CQ.CFG.EN f && cqSize s f ≤ (fnSt s f).used) f

/-- The host of a function, while its port is UP. -/
def fnHost (s : State) (f : Nat) : Option Nat :=
  match fnBinding s f with
  | some (h, _) => if isUp s h then some h else none
  | none => none

/-- A memory write of a function towards its host (R205). -/
def fnWrite (f tc addr v len : Nat) (s : State) : State :=
  match fnHost s f with
  | none => s
  | some h => hostWrite 78 h tc (fnMid f) (s.get ACT.COMMIT.EPOCH) (s.get BIND.STAT.EPOCH) addr v len s

/-- A vector is raised, or its pending bit set while it is masked, the function is FROZEN, or its host cannot be reached (R214). -/
def fnVector (f v : Nat) (s : State) : State :=
  let x := fnSt s f
  let e := nthD x.msix v (2 ^ 96)
  if bitOf e 96 || 2 ≤ fnState s f || (fnHost s f).isNone then setFn f { x with pba := Nat.lor x.pba (2 ^ v) } s
  else fnWrite f 0 (e % 2 ^ 64) (bitsOf e 64 32) 4 s

/-- Pending vectors that are no longer masked are raised. -/
def pendingVectors (f : Nat) (s : State) : State :=
  let l := (List.range 8).filter (fun v => bitOf (fnSt s f).pba v && !bitOf (nthD (fnSt s f).msix v (2 ^ 96)) 96)
  if 2 ≤ fnState s f then s else forL l (fun v s => fnVector f v (modFn f (fun x => { x with pba := clearBit x.pba v }) s)) s

/-- Function events raise the function event vector (R214). -/
def fnEvent (e : Ent) (f : Nat) (s : State) : State := fnVector f (s.get FN.CTL.EVEC f) (s.set e 1 f)

/-- Descriptors of a queue that are still in execution (R209). -/
def running_ (x : FnSt) (q : Nat) : List DmvDesc := x.exec.filter (fun e => e.q == q && e.fin.isNone)

/-- A queue above MAXSQ stops once its descriptors have ended and their entries are written (R216). -/
def stopSync (f : Nat) (s : State) : State :=
  if 2 ≤ fnState s f then s
  else forN 4 (fun q s =>
    if s.get FN.SQ.STAT.STATE f q = 1 && maxSq s f ≤ q && (fnSt s f).exec.all (fun e => e.q != q) then s.set FN.SQ.STAT.STATE 3 f q else s) s

/-- Internal quiesce copying pauses every other transfer (R142, R215). -/
def dmvPaused (s : State) : Bool := migPhase s 0 == 3 || migPhase s 1 == 3

/-- The tag of a descriptor's requests at crossbar port 78. -/
def descTag (f q idx : Nat) : Nat := (f * 4 + q) * 4096 + idx + 1

/-- A descriptor's requests that have not completed: open, or held on their way (R88, R210). -/
def descOpen (s : State) (tag : Nat) : Bool :=
  let mine (h : Nat × Nat × LinkReq) : Bool := h.1 == 78 && h.2.2.tag == tag
  s.frame.reqs.any (fun r => r.2.x == 78 && r.2.tag == tag)
    || (List.range 2).any (fun m => match migSt s m with | some g => g.held.any mine | none => false)
    || (match s.homeG.conv with | some c => c.held.any mine | none => false)
    || s.blkG.held.any (fun h => h.2.1 == 78 && h.2.2.2.tag == tag) || s.bind.backlog.any mine

/-- A request of function f at an address of its HOST space, and the status that its check or translation fixes: 0, MISS or DENIED (R206, R213). -/
def dmvReq (f tag tc : Nat) (op : Opc) (addr len be : Nat) (data : List Line) (bad : Bool) (s : State) : Nat × State :=
  let need := if op = .pcieMemRd then 0 else 1
  let err := if (actCheck s (fnMid f) 0 0 addr need).isSome then 4
    else
      match fnBinding s f with
      | none => 3
      | some (h, _) => if (upClaim s h addr).isSome && (translate s h addr == .miss) then 3 else 0
  let (rid, s) := freshId s
  (err, takeIn 78 rid ⟨op, tag, BitVec.ofNat 64 addr, .noOp, .mem, BitVec.toFin (BitVec.ofNat 3 tc), BitVec.ofNat 16 (fnMid f),
    BitVec.ofNat 8 (s.get FRAME.XP.UNITEP.EPOCH 78), len, data, BitVec.ofNat 64 be, bad, false, false, 0, true, true, false⟩ none s)

/-- The parts of a range line by line: start of the part, and its length. -/
def parts : Nat → Nat → Nat → List (Nat × Nat)
  | 0, _, _ => []
  | fuel + 1, a, n =>
    if n = 0 then []
    else
      let k := min n (64 - a % 64)
      (a, k) :: parts fuel (a + k) (n - k)

def rangeParts (a n : Nat) : List (Nat × Nat) := parts (n / 64 + 2) a n

/-- Reads of a range, line by line, until one is refused. -/
def dmvRead (f tag tc : Nat) (l : List (Nat × Nat)) (s : State) : Nat × State :=
  l.foldl (fun (a : Nat × State) p =>
    if a.1 != 0 then a else dmvReq f tag tc .pcieMemRd (p.1 / 64 * 64) 64 0 [] false a.2) (0, s)

/-- A number from bytes, the first lowest (R8). -/
def leBytes : List Nat → Nat
  | [] => 0
  | b :: t => b % 256 + 256 * leBytes t

/-- Writes of bytes to a range, line by line, until one is refused; a line that takes a poisoned byte is written with Poison (R213). -/
def dmvStore (f tag tc base : Nat) (l : List (Nat × Nat)) (byte : Nat → Nat) (bad : Nat → Bool) (s : State) : Nat × State :=
  l.foldl (fun (a : Nat × State) p =>
    if a.1 != 0 then a
    else
      let lo := p.1 % 64
      let offs := (List.range p.2).map (fun i => p.1 - base + i)
      let d := leBytes (offs.map byte) * 256 ^ lo
      dmvReq f tag tc .pcieMemWr (p.1 / 64 * 64) 64 ((2 ^ p.2 - 1) * 2 ^ lo) [BitVec.ofNat 512 d] (offs.any bad) a.2) (0, s)

/-- Fields of a descriptor (R211). -/
def dOpc (d : Nat) : Nat := bitsOf d 0 4
def dSrc (d : Nat) : Nat := bitsOf d 64 64
def dDst (d : Nat) : Nat := bitsOf d 128 64
def dLen (d : Nat) : Nat := bitsOf d 192 32
def dSsp (d : Nat) : Nat := bitsOf d 224 3
def dDsp (d : Nat) : Nat := bitsOf d 227 3
def dTc (d : Nat) : Nat := bitsOf d 10 3

/-- Bits that no field of an operation covers are 0 (R211, R212). -/
def dReserved (d : Nat) : Bool :=
  let z (lo w : Nat) : Bool := bitsOf d lo w == 0
  z 13 3 &&
    (match dOpc d with
     | 0 | 4 => z 32 32 && z 230 26 && z 256 256
     | 1 => z 32 32 && z 64 64 && z 224 3 && z 230 26 && z 384 128
     | 2 => z 32 32 && z 64 64 && z 224 3 && z 230 26 && z 256 256
     | 3 => z 32 32 && z 128 64 && z 227 29 && z 264 24 && z 320 192 && bitsOf d 256 8 ≤ 1
     | _ => z 40 24 && z 448 64)

/-- An address of a descriptor as a function and an address of its HOST space; none where the aperture refuses it (R206, R207). -/
def spaceOf (s : State) (f sp addr len : Nat) (write : Bool) : Option (Nat × Nat) :=
  if sp = 0 then some (f, addr)
  else
    let a := sp - 1
    let t := s.get DMV.PAP.TFN f a
    let dir := if write then s.on DMV.PAP.WR f a else s.on DMV.PAP.RD f a
    if s.on DMV.PAP.VALID f a && dir && addr + len ≤ s.get DMV.PAP.SIZE f a * 4096 && (fnHost s t).isSome then some (t, s.get DMV.PAP.BASE f a * 4096 + addr) else none

/-- Ranges that an operation reads and writes. -/
def usesSrc (opc : Nat) : Bool := opc == 0 || opc == 3 || opc == 4
def usesDst (opc : Nat) : Bool := opc == 0 || opc == 1 || opc == 2 || opc == 4

/-- The apertures that an operation needs allow it (R207). -/
def peersOk (s : State) (f d : Nat) : Bool :=
  let o := dOpc d
  (!usesSrc o || (spaceOf s f (dSsp d) (dSrc d) (dLen d) false).isSome) && (!usesDst o || (spaceOf s f (dDsp d) (dDst d) (dLen d) (o != 4)).isSome)

/-- The status that is decided before any request: FORMAT, OPCODE, PEER or OVERLAP; 0 where none applies (R213). -/
def preStatus (s : State) (f d : Nat) : Nat :=
  let o := dOpc d
  if 7 < o then 1
  else if 6 ≤ o then 2
  else if !dReserved d || (o ≤ 4 && dLen d = 0) || (usesSrc o && 5 ≤ dSsp d) || (usesDst o && 5 ≤ dDsp d) then 1
  else if o = 5 then 0
  else if !peersOk s f d then 5
  else if o = 0 && dSsp d = dDsp d && overlap (dSrc d) (dLen d) (dDst d) (dLen d) then 9
  else 0

/-- A queue's descriptor may run: it is in execution, no check has ended it, and with FENCE every earlier one of its queue has completed (R209). -/
def findDesc (s : State) (f q idx : Nat) : Option DmvDesc := (fnSt s f).exec.find? (fun e => e.q == q && e.idx == idx)

def fenceOk (s : State) (f : Nat) (e : DmvDesc) : Bool :=
  !bitOf e.d 6 || (((fnSt s f).exec.takeWhile (fun o => !(o.q == e.q && o.idx == e.idx))).all (fun o => o.q != e.q || o.fin.isSome))

def mayRun (s : State) (f : Nat) (e : DmvDesc) (opc : Nat) : Bool :=
  e.fin.isNone && e.err == 0 && dOpc e.d == opc && fenceOk s f e && (fnState s f == fRun || fnState s f == fFreezing) && !dmvPaused s

/-- Bytes that an operation may take now: the rest of its range, up to the point where a freeze stops it (R217). -/
def quota (e : DmvDesc) : Nat :=
  let rest := dLen e.d - e.bytes
  match e.limit with
  | some l => min rest (l - e.bytes)
  | none => rest

/-- SQ_DOORBELL (R208): a tail at or beyond the SQ size puts the SQ in ERROR; a STOPPED SQ ignores its doorbell. -/
def sqDoorbell (f q v : Nat) (s : State) : State :=
  let i := v % 2 ^ 14
  if s.get FN.SQ.STAT.STATE f q != 1 then s
  else if sqSize s f q ≤ i then fnEvent FN.STAT.SQ_ERR f (s.set FN.SQ.STAT.STATE 2 f q)
  else modFn f (fun x => { x with tails := setNth x.tails q i }) s

def execSqDoorbell (f : FnId) (q : Fin 4) (v : Word) (s : State) : Result := toUnit 9 (.sqDoorbell f q v) (fun s => .next (sqDoorbell f q v.toNat s)) s

/-- CQ_DOORBELL (R208): entries up to the new head return to the device; a head out of range is ignored. -/
def cqDoorbell (f v : Nat) (s : State) : State :=
  let i := v % 2 ^ 14
  let n := cqSize s f
  let x := fnSt s f
  let k := (i + n - x.cqHead % n) % n
  if !s.on FN.CQ.CFG.EN f then s
  else if n ≤ i || x.used < k then fnEvent FN.STAT.CQ_ERR f s
  else cqSync f (setFn f { x with cqHead := i, used := x.used - k } s)

def execCqDoorbell (f : FnId) (v : Word) (s : State) : Result := toUnit 9 (.cqDoorbell f v) (fun s => .next (cqDoorbell f v.toNat s)) s

/-- A queue fetches now (R208, R209, R210, R216). -/
def mayFetch (s : State) (f q : Nat) : Bool :=
  fnState s f == fRun && s.get FN.SQ.STAT.STATE f q == 1 && q < maxSq s f && (fnHost s f).isSome && !dmvPaused s
    && (!s.on FN.CQ.CFG.EN f || cqRoom s f)

/-- DESCRIPTOR_FETCH (R209): up to 8 descriptors from the head, no more than are available nor than leaves 16 in execution. `ds` is what the read returned. -/
def execDescriptorFetch (f : FnId) (q : Fin 4) (ds : List Line) (s : State) : Result :=
  .next (let x := fnSt s f
    let n := sqSize s f q
    let h := s.get FN.SQ.STAT.HEAD f q
    let avail := (nthD x.tails q 0 + n - h % n) % n
    let k := min (min 8 ds.length) (min (min avail (n - h)) (16 - (running_ x q).length))
    if !mayFetch s f q || k = 0 then s
    else
      let s := (dmvReq f (descTag f q 0 + 2 ^ 22) 0 .pcieMemRd (s.get FN.SQ.BASE.BASE f q * 4096 + 64 * h) (64 * k) 0 [] false s).2
      let new := ((List.range k).zip ds).map (fun p =>
        let d := p.2.toNat
        let seed := if dOpc d = 3 then Nat.xor (bitsOf d 288 32) 0xFFFFFFFF else 0
        (⟨q, h + p.1, d, 0, seed, preStatus s f d, none, 0, false, none, false⟩ : DmvDesc))
      (modFn f (fun x => { x with exec := x.exec ++ new }) s).set FN.SQ.STAT.HEAD ((h + k) % n) f q)

/-- A status that a request has fixed ends a descriptor's work. -/
def noteErr (f : Nat) (e : DmvDesc) (err bytes : Nat) (s : State) : State :=
  modDesc f e.q e.idx (fun g => { g with err := if g.err = 0 then err else g.err, bytes := bytes }) s

/-- The next bytes of a COPY, FILL or ZERO go to the destination. -/
def dmvPut (f : Nat) (e : DmvDesc) (n : Nat) (byte : Nat → Nat) (bad : Nat → Bool) (s : State) : State :=
  let tag := descTag f e.q e.idx
  match spaceOf s f (dDsp e.d) (dDst e.d) (dLen e.d) true with
  | none => noteErr f e 5 e.bytes s
  | some (t, a) =>
    let base := a + e.bytes
    let (err, s) := dmvStore t tag (dTc e.d) base (rangeParts base n) byte bad s
    let s := if err = 0 then perf 274 0x11 (ceilDiv n 64) none s else s
    noteErr f e err (if err = 0 then e.bytes + n else e.bytes) s

/-- COPY (R211): the next bytes of the source, which its reads returned, go to the destination. `bad` names the offsets that came poisoned. -/
def execCopy (f : FnId) (q : Fin 4) (idx : Fin 4096) (src : List Byte) (bad : List Nat) (s : State) : Result :=
  .next (match findDesc s f q idx with
    | none => s
    | some e =>
      let n := min (quota e) src.length
      if !mayRun s f e 0 || n = 0 then s
      else
        match spaceOf s f (dSsp e.d) (dSrc e.d) (dLen e.d) false with
        | none => noteErr f e 5 e.bytes s
        | some (t, a) =>
          let (err, s) := dmvRead t (descTag f q idx) (dTc e.d) (rangeParts (a + e.bytes) n) s
          if err != 0 then noteErr f e err e.bytes s
          else
            let s := dmvPut f e n (fun i => (nthD src i 0).toNat) (fun i => bad.contains i) s
            if bad.any (· < n) then modDesc f q idx (fun g => { g with err := if g.err = 0 then 7 else g.err }) s else s)

/-- FILL (R211): byte i of PATTERN goes to every address a with (a − DST) mod 16 = i. -/
def execFill (f : FnId) (q : Fin 4) (idx : Fin 4096) (s : State) : Result :=
  .next (match findDesc s f q idx with
    | none => s
    | some e =>
      if !mayRun s f e 1 || quota e = 0 then s
      else dmvPut f e (quota e) (fun i => bitsOf e.d (256 + 8 * ((e.bytes + i) % 16)) 8) (fun _ => false) s)

/-- ZERO (R211). -/
def execZero (f : FnId) (q : Fin 4) (idx : Fin 4096) (s : State) : Result :=
  .next (match findDesc s f q idx with
    | none => s
    | some e => if !mayRun s f e 2 || quota e = 0 then s else dmvPut f e (quota e) (fun _ => 0) (fun _ => false) s)

/-- One byte into a reflected CRC register (R211). -/
def crcByte (poly c b : Nat) : Nat :=
  let bit (c : Nat) : Nat := if c % 2 = 1 then Nat.xor (c / 2) poly else c / 2
  bit (bit (bit (bit (bit (bit (bit (bit (Nat.xor c b))))))))

/-- CRC (R211): the next bytes of the source enter the register, and RESULT is the register xor 0xFFFFFFFF. -/
def execCrc (f : FnId) (q : Fin 4) (idx : Fin 4096) (src : List Byte) (s : State) : Result :=
  .next (match findDesc s f q idx with
    | none => s
    | some e =>
      let n := min (quota e) src.length
      if !mayRun s f e 3 || n = 0 then s
      else
        match spaceOf s f (dSsp e.d) (dSrc e.d) (dLen e.d) false with
        | none => noteErr f e 5 e.bytes s
        | some (t, a) =>
          let (err, s) := dmvRead t (descTag f q idx) (dTc e.d) (rangeParts (a + e.bytes) n) s
          if err != 0 then noteErr f e err e.bytes s
          else
            let poly := if bitsOf e.d 256 8 = 0 then 0x82F63B78 else 0xEDB88320
            let c := (src.take n).foldl (fun c b => crcByte poly c b.toNat) e.crc
            perf 274 0x11 (ceilDiv n 64) none
              (modDesc f q idx (fun g => { g with bytes := e.bytes + n, crc := c, result := Nat.xor c 0xFFFFFFFF }) s))

/-- COMPARE (R211): RESULT is the offset of the first differing byte, with MISMATCH. -/
def execCompare (f : FnId) (q : Fin 4) (idx : Fin 4096) (src dst : List Byte) (s : State) : Result :=
  .next (match findDesc s f q idx with
    | none => s
    | some e =>
      let n := min (quota e) (min src.length dst.length)
      if !mayRun s f e 4 || n = 0 || e.mism then s
      else
        match spaceOf s f (dSsp e.d) (dSrc e.d) (dLen e.d) false, spaceOf s f (dDsp e.d) (dDst e.d) (dLen e.d) false with
        | some (t, a), some (u, b) =>
          let (err, s) := dmvRead t (descTag f q idx) (dTc e.d) (rangeParts (a + e.bytes) n) s
          let (err, s) := if err != 0 then (err, s) else dmvRead u (descTag f q idx) (dTc e.d) (rangeParts (b + e.bytes) n) s
          if err != 0 then noteErr f e err e.bytes s
          else
            let s := perf 274 0x11 (ceilDiv n 64) none s
            match (List.range n).find? (fun i => nthD src i 0 != nthD dst i 0) with
            | some i => modDesc f q idx (fun g => { g with bytes := e.bytes + n, mism := true, result := e.bytes + i }) s
            | none => modDesc f q idx (fun g => { g with bytes := e.bytes + n }) s
        | _, _ => noteErr f e 5 e.bytes s)

/-- The command line that an ATOMIC descriptor stands for, with TAG equal to ID (R212). -/
def atomCommand (d : Nat) : Line :=
  BitVec.ofNat 512 (bitsOf d 32 8 + bitsOf d 16 16 * 2 ^ 32 + bitsOf d 64 64 * 2 ^ 64 + bitsOf d 128 128 * 2 ^ 128 + bitsOf d 256 128 * 2 ^ 256 + bitsOf d 384 64 * 2 ^ 384)

/-- ATOMIC (R212): the far-atomic command goes to SUM((TARGET / 64) mod 2), once. -/
def execAtomic (f : FnId) (q : Fin 4) (idx : Fin 4096) (s : State) : Result :=
  .next (match findDesc s f q idx with
    | none => s
    | some e =>
      if !mayRun s f e 5 || e.bytes != 0 || e.limit.isSome then s
      else farAtomic f (sumEng s (dSrc e.d / 64 % 2)) true (atomCommand e.d) (some (q, idx)) (modDesc f q idx (fun g => { g with bytes := 1 }) s))

/-- A descriptor's operation has run to its end. -/
def workDone (e : DmvDesc) : Bool := if dOpc e.d = 5 then e.verdict else dLen e.d ≤ e.bytes || e.mism

/-- A finished descriptor that writes an entry (R210). -/
def wantsEntry (e : DmvDesc) : Bool := match e.fin with | some st => st != 0 || bitOf e.d 4 | none => false

/-- Finished descriptors that write no entry leave the list. -/
def pruneExec (l : List DmvDesc) : List DmvDesc := l.filter (fun e => e.fin.isNone || wantsEntry e)

/-- DESCRIPTOR_DONE (R210, R213): every request has completed, so the descriptor ends with one status: the one that its checks or completions fixed, or the given one. A given status that contradicts what the model holds has no effect. -/
def execDescriptorDone (f : FnId) (q : Fin 4) (idx : Fin 4096) (status : Fin 11) (bytes : Nat) (s : State) : Result :=
  .next (match findDesc s f q idx with
    | none => s
    | some e =>
      let st := if e.err != 0 then e.err else status.val
      let ok := e.err != 0 || (st == 0 && workDone e) || ((st == 3 || st == 4 || st == 6 || st == 7) && e.bytes != 0)
      if e.fin.isSome || !ok || !fenceOk s f e || descOpen s (descTag f q idx) || (dOpc e.d = 5 && e.bytes = 1 && !e.verdict) then s
      else
        let done := if e.err != 0 then e.bytes else min bytes e.bytes
        let res := if st = 0 ∨ st = 10 then e.result else if st = 1 ∨ st = 2 ∨ st = 5 ∨ st = 9 then 0 else done
        let s := perf 274 0x10 1 none (if st = 0 then s else s.bump DMV.ERRCNT.COUNT)
        let s := modDesc f q idx (fun g => { g with fin := some st, result := res }) s
        stopSync f (modFn f (fun x => { x with exec := pruneExec x.exec }) s))

/-- The next descriptor of a function whose entry may be written: no earlier one of its queue stands before it (R210). -/
def nextEntry (x : FnSt) : Option DmvDesc :=
  let rec go (seen : List Nat) : List DmvDesc → Option DmvDesc
    | [] => none
    | e :: t => if wantsEntry e && !seen.contains e.q then some e else go (e.q :: seen) t
  go [] x.exec

/-- A CQ entry without its phase (R210). -/
def cqWord (s : State) (f : Nat) (e : DmvDesc) : Nat :=
  bitsOf e.d 16 16 + (e.fin.getD 0) * 2 ^ 16 + e.q * 2 ^ 24 + b2n e.mism * 2 ^ 26 + (e.idx + 1) % sqSize s f e.q * 2 ^ 32 + e.result % 2 ^ 64 * 2 ^ 64

/-- Write one entry at the tail (R210), raise IVEC if the descriptor asks for it, and coalesce (R214). -/
def putEntry (f word : Nat) (irq : Option Nat) (s : State) : State :=
  let n := cqSize s f
  let t := s.get FN.CQ.STAT.TAIL f
  let ph := s.get FN.CQ.STAT.PHASE f
  let s := (dmvReq f (2 ^ 23 + f) 0 .pcieMemWr ((s.get FN.CQ.BASE.BASE f * 4096 + 16 * t) / 64 * 64) 16 (0xFFFF * 2 ^ (16 * (t % 4)))
    [BitVec.ofNat 512 ((word + ph * 2 ^ 31) * 2 ^ (128 * (t % 4)))] false s).2
  let s := s.set FN.CQ.STAT.TAIL ((t + 1) % n) f
  let s := if t + 1 = n then s.set FN.CQ.STAT.PHASE (1 - ph) f else s
  let s := modFn f (fun x => { x with used := x.used + 1, coal := x.coal + 1, coalAt := some (x.coalAt.getD s.ns) }) s
  let s := match irq with | some v => fnVector f v s | none => s
  let x := fnSt s f
  let c := s.get FN.CQ.CFG.COUNT f
  cqSync f (if c ≤ x.coal then fnVector f (s.get FN.CQ.CFG.VEC f) (setFn f { x with coal := 0, coalAt := none } s) else s)

/-- Write the next entry, if the CQ has room: restored entries first, in their order. -/
def writeEntry (f : Nat) (s : State) : State :=
  let x := fnSt s f
  if !cqRoom s f then s
  else
    match x.heldQ with
    | w :: rest => putEntry f w none (setFn f { x with heldQ := rest } s)
    | [] =>
      match nextEntry x with
      | none => s
      | some e =>
        let s := setFn f { x with exec := x.exec.filter (fun o => !(o.q == e.q && o.idx == e.idx)) } s
        stopSync f (putEntry f (cqWord s f e) (if bitOf e.d 5 then some (bitsOf e.d 7 3) else none) s)

/-- CQ_ENTRY_WRITE (R210, R214). A FROZEN function writes nothing. -/
def execCqEntryWrite (f : FnId) (s : State) : Result := .next (if fnState s f = fFrozen ∨ fnState s f = fIdle then s else writeEntry f s)

/-- CQ_COALESCE_TIMEOUT (R214). -/
def execCqCoalesceTimeout (f : FnId) (s : State) : Result :=
  .next (match (fnSt s f).coalAt with
    | none => s
    | some t =>
      let us := s.get FN.CQ.CFG.TIME f
      if us = 0 then s
      else
        let s := s.reach (t + us * 1000)
        fnVector f (s.get FN.CQ.CFG.VEC f) (modFn f (fun x => { x with coal := 0, coalAt := none }) s))

/-- A write of an SQ's CFG (R216, R223): 0 to 1 of EN clears ERROR and resets head and tail, and is refused outside the range of LOGSIZE or of MAXSQ. -/
def sqCfg (f q v : Nat) (s : State) : State :=
  let lg := bitsOf v 1 4
  let was := s.on FN.SQ.CFG.EN f q
  let s := s.set FN.SQ.CFG.LOGSIZE lg f q
  if !bitOf v 0 then fnSync f ((s.set FN.SQ.CFG.EN 0 f q).set FN.SQ.STAT.STATE 0 f q)
  else if was then s
  else if lg < 4 || 12 < lg || maxSq s f ≤ q then s
  else
    let s := ((s.set FN.SQ.CFG.EN 1 f q).set FN.SQ.STAT.STATE 1 f q).set FN.SQ.STAT.HEAD 0 f q
    fnSync f (modFn f (fun x => { x with tails := setNth x.tails q 0 }) s)

/-- A write of the CQ's CFG (R214, R223). -/
def cqCfg (f v : Nat) (s : State) : State :=
  let lg := bitsOf v 1 4
  let was := s.on FN.CQ.CFG.EN f
  let s := (((s.set FN.CQ.CFG.LOGSIZE lg f).set FN.CQ.CFG.VEC (bitsOf v 5 3) f).set FN.CQ.CFG.COUNT (bitsOf v 8 8) f).set FN.CQ.CFG.TIME (bitsOf v 16 10) f
  if !bitOf v 0 then cqSync f (fnSync f (s.set FN.CQ.CFG.EN 0 f))
  else if was then cqSync f s
  else if lg < 4 || 14 < lg then s
  else
    let s := ((s.set FN.CQ.CFG.EN 1 f).set FN.CQ.STAT.TAIL 0 f).set FN.CQ.STAT.PHASE 1 f
    cqSync f (fnSync f (modFn f (fun x => { x with cqHead := 0, used := 0, coal := 0, coalAt := none }) s))

/-- QUEUE_ENABLE (R223): a host's write of a queue's CFG. A function that freezes or is FROZEN takes none (DEDUCED, log entry on frozen functions). -/
def execQueueEnable (f : FnId) (q : QueueSel) (v : Word) (s : State) : Result := toUnit 9 (.queueEnable f q v) (fun s =>
  .next (if 2 ≤ fnState s f then s
    else match q with
      | .sq q => sqCfg f q v.toNat s
      | .cq => cqCfg f v.toNat s)) s

/-- FCFG_WRITE (R216, R220): a lowered MAXSQ stops the queues above it, at UNFREEZE where the function is FROZEN. -/
def execFcfgWrite (f : FnId) (v : Word) (s : State) : Result := atDomain 9 DMV.FN.FCFG.MAXSQ (.fcfgWrite f v) (fun s =>
  .next (let was := maxSq s f
    let s := ((s.set DMV.FN.FCFG.MAXSQ (bitsOf v.toNat 0 3) f).set DMV.FN.FCFG.SHARE (bitsOf v.toNat 3 8) f).set DMV.FN.FCFG.RATE (bitsOf v.toNat 11 8) f
    if 2 ≤ fnState s f then s
    else
      let cut := (List.range 4).any (fun q => maxSq s f ≤ q && q < was && s.get FN.SQ.STAT.STATE f q == 1)
      stopSync f (if cut then fnEvent FN.STAT.RES_CHG f s else s))) s

/-- The result of a freeze operation; BUSY is what source 14 shows of it (log entry on source 14). -/
def frzResult (r : Nat) (s : State) : State := s.set DMV.FRZSTAT.RESULT r

def frzBusy (b : Nat) (s : State) : State := setState DMV.FRZSTAT.BUSY b 14 s

/-- FREEZE of a running VF (R217): fetching stops, and each unfinished descriptor may go on to its next 4 KiB of progress. -/
def freezeFn (f : Nat) (s : State) : State :=
  if f = 0 || fnState s f != fRun then frzResult 1 s
  else
    let lim (e : DmvDesc) : DmvDesc := if e.fin.isNone then { e with limit := some ((e.bytes / 4096 + 1) * 4096) } else e
    let s := modFn f (fun x => { x with exec := x.exec.map lim }) s
    setFnState f fFreezing (frzBusy 1 { s with dmv := { s.dmv with frz := some f } })

/-- The blob of a FROZEN VF (R218). -/
def blobOf (s : State) (f : Nat) : VfBlob :=
  let x := fnSt s f
  let un := x.exec.filter (fun e => e.fin.isNone)
  let held := x.heldQ ++ (x.exec.filter wantsEntry).map (cqWord s f)
  { keyId := s.sec.domain.getD 0, intact := true, version := 1,
    sqmask := BitVec.ofNat 4 ((List.range 4).foldl (fun a q => a + s.get FN.SQ.CFG.EN f q * 2 ^ q) 0),
    ctl := BitVec.ofNat 32 (s.get FN.CTL.EVEC f),
    cqCfg := BitVec.ofNat 32 (s.word 32 [FN.CQ.CFG.EN, FN.CQ.CFG.LOGSIZE, FN.CQ.CFG.VEC, FN.CQ.CFG.COUNT, FN.CQ.CFG.TIME] f),
    cqBase := s.get FN.CQ.BASE.BASE f, cqTail := s.get FN.CQ.STAT.TAIL f, cqPhase := s.on FN.CQ.STAT.PHASE f, cqHead := x.cqHead,
    coalCount := x.coal, coalAge := (match x.coalAt with | some t => s.ns - t | none => 0), pba := BitVec.ofNat 8 x.pba, msix := x.msix,
    sqs := (List.range 4).map (fun q => (s.get FN.SQ.BASE.BASE f q, s.get FN.SQ.CFG.LOGSIZE f q, s.get FN.SQ.STAT.STATE f q, s.get FN.SQ.STAT.HEAD f q, nthD x.tails q 0)),
    unfinished := un.map (fun e => (e.d, e.q, e.idx, e.bytes, e.crc)), held := held }

/-- SAVE (R217, R218). Without a domain key no blob can be formed, which reads as AUTH (DEDUCED, log entry on blobs). -/
def saveFn (f : Nat) (s : State) : State :=
  if f = 0 || fnState s f != fFrozen then frzResult 1 s
  else if s.sec.domain.isNone then frzResult 2 s
  else frzResult 0 (s.emit (.blob (s.get DMV.FRZADDR.ADDR * 4096) (blobOf s f)))

/-- RESTORE into an IDLE VF (R217, R218, R220). -/
def restoreFn (f : Nat) (b : Option VfBlob) (s : State) : State :=
  if f = 0 || fnState s f != fIdle || (fnSt s f).restored then frzResult 1 s
  else
    match b with
    | none => frzResult 2 s
    | some b =>
      if !b.intact || b.version != 1 || s.sec.domain != some b.keyId then frzResult 2 s
      else if (List.range 4).any (fun q => bitOf b.sqmask.toNat q && maxSq s f ≤ q) then frzResult 3 s
      else
        let s := forN 4 (fun q s =>
          let (base, lg, st, hd, _) := nthD b.sqs q (0, 4, 0, 0, 0)
          ((((s.set FN.SQ.BASE.BASE base f q).set FN.SQ.CFG.LOGSIZE lg f q).setB FN.SQ.CFG.EN (bitOf b.sqmask.toNat q) f q).set FN.SQ.STAT.STATE st f q).set FN.SQ.STAT.HEAD hd f q) s
        let s := (s.set FN.CTL.EVEC (bitsOf b.ctl.toNat 0 3) f).set FN.CQ.BASE.BASE b.cqBase f
        let s := putWord 32 [FN.CQ.CFG.EN, FN.CQ.CFG.LOGSIZE, FN.CQ.CFG.VEC, FN.CQ.CFG.COUNT, FN.CQ.CFG.TIME] b.cqCfg.toNat f 0 s
        let s := (s.set FN.CQ.STAT.TAIL b.cqTail f).setB FN.CQ.STAT.PHASE b.cqPhase f
        let n := cqSize s f
        let x : FnSt :=
          { tails := b.sqs.map (fun q => q.2.2.2.2), cqHead := b.cqHead, used := (b.cqTail + n - b.cqHead % n) % n, coal := b.coalCount,
            coalAt := if b.coalCount = 0 then none else some (s.ns - b.coalAge), pba := b.pba.toNat, msix := b.msix, heldQ := b.held, restored := true,
            exec := b.unfinished.map (fun u => ⟨u.2.1, u.2.2.1, u.1, u.2.2.2.1, u.2.2.2.2, 0, none, 0, false, none, false⟩) }
        frzResult 0 (setFnState f fFrozen (cqSync f (setFn f x s)))

/-- UNFREEZE (R217): held entries are written while the CQ has room, pending vectors are raised, and the function goes on. An ATOMIC that had not been answered runs again. -/
def unfreezeFn (f : Nat) (s : State) : State :=
  if f = 0 || fnState s f != fFrozen then frzResult 1 s
  else
    let go (e : DmvDesc) : DmvDesc := { e with limit := none, bytes := if dOpc e.d = 5 && !e.verdict then 0 else e.bytes }
    let s := modFn f (fun x => { x with exec := x.exec.map go }) s
    let s := frzResult 0 (setFnState f fRun s)
    let k := (fnSt s f).heldQ.length + ((fnSt s f).exec.filter wantsEntry).length
    stopSync f (pendingVectors f (forN k (fun _ s => writeEntry f s) s))

/-- BAR0 and the queues of a function return to reset (R219, R223). -/
def clearFn (f : Nat) (s : State) : State :=
  let s := setFnState f fIdle s
  let lo := FN.CAP.FNUM.base + f * FN.CAP.FNUM.si
  let s := { s with regs := s.regs.filter (fun r => !(lo ≤ r.1 && r.1 < lo + FN.CAP.FNUM.si)) }
  { s with dmv := { s.dmv with fns := del s.dmv.fns f } }

/-- DISCARD (R217). -/
def discardFn (f : Nat) (s : State) : State :=
  if f = 0 || fnState s f != fFrozen then frzResult 1 s else frzResult 0 (clearFn f s)

/-- A write of FRZCTL (R217, R224): with GO at 1 the operation starts; one at a time. -/
def frzWrite (v : Nat) (b : Option VfBlob) (s : State) : State :=
  let f := bitsOf v 0 8
  let s := (s.set DMV.FRZCTL.FN f).set DMV.FRZCTL.OP (bitsOf v 8 3)
  if !bitOf v 11 then s
  else if s.on DMV.FRZSTAT.BUSY then frzResult 1 s
  else
    match bitsOf v 8 3 with
    | 0 => freezeFn f s
    | 1 => saveFn f s
    | 2 => restoreFn f b s
    | 3 => unfreezeFn f s
    | 4 => discardFn f s
    | _ => frzResult 1 s

/-- FREEZE (R217): a write of FRZCTL with OP FREEZE. -/
def execFreeze (v : Word) (s : State) : Result := atDomain 9 DMV.FRZCTL.GO (.freeze v) (fun s => .next (frzWrite v.toNat none s)) s

/-- SAVE (R217): a write of FRZCTL with OP SAVE. -/
def execSave (v : Word) (s : State) : Result := atDomain 9 DMV.FRZCTL.GO (.save v) (fun s => .next (frzWrite v.toNat none s)) s

/-- RESTORE (R217): a write of FRZCTL with OP RESTORE; the blob is what the read of FRZADDR returns. -/
def execRestore (v : Word) (b : VfBlob) (s : State) : Result := atDomain 9 DMV.FRZCTL.GO (.restore v b) (fun s => .next (frzWrite v.toNat (some b) s)) s

/-- UNFREEZE (R217): a write of FRZCTL with OP UNFREEZE. -/
def execUnfreeze (v : Word) (s : State) : Result := atDomain 9 DMV.FRZCTL.GO (.unfreeze v) (fun s => .next (frzWrite v.toNat none s)) s

/-- FREEZE_DISCARD (R217): a write of FRZCTL with OP DISCARD. -/
def execFreezeDiscard (v : Word) (s : State) : Result := atDomain 9 DMV.FRZCTL.GO (.freezeDiscard v) (fun s => .next (frzWrite v.toNat none s)) s

/-- FREEZE_COMPLETE (R217): every request issued has completed; entries of finished descriptors are written while the CQ has room, and the rest is held. -/
def execFreezeComplete (s : State) : Result :=
  .next (match s.dmv.frz with
    | none => s
    | some f =>
      if fnState s f != fFreezing || (fnSt s f).exec.any (fun e => descOpen s (descTag f e.q e.idx)) then s
      else
        let k := ((fnSt s f).exec.filter wantsEntry).length
        let s := forN k (fun _ s => writeEntry f s) s
        setFnState f fFrozen (frzBusy 0 (frzResult 0 { s with dmv := { s.dmv with frz := none } })))

/-- A function reset (R219, R220): unfinished descriptors count as ABORTED, no entry is written, every queue is disabled and BAR0 takes its reset values. -/
def resetFn (f : Nat) (s : State) : State :=
  let n := ((fnSt s f).exec.filter (fun e => e.fin.isNone)).length
  let s := if n = 0 then s else s.bump DMV.ERRCNT.COUNT n
  let s := if s.dmv.frz = some f then frzBusy 0 (frzResult 4 { s with dmv := { s.dmv with frz := none } }) else s
  clearFn f s

/-- FUNCTION_RESET (R219, R223): FLR, Bus Master Enable cleared, or a write of FN.CTL, which resets only with RESET at 1. -/
def execFunctionReset (f : FnId) (c : FnResetCause) (s : State) : Result := toUnit 9 (.functionReset f c) (fun s =>
  .next (match c with
    | .flr => resetFn f s
    | .busMasterOff => resetFn f s
    | .ctl v => if bitOf v.toNat 3 then resetFn f s else s.set FN.CTL.EVEC (bitsOf v.toNat 0 3) f)) s

/-- A host's port leaves UP (R219, R220): its running functions reset, and those that freeze record their descriptors as ended HOSTERR. -/
def dmvHostLost (h : Nat) (s : State) : State :=
  forN 256 (fun f s =>
    if (fnBinding s f).map (·.1) != some h then s
    else if fnState s f = fRun then resetFn f s
    else if fnState s f = fFreezing then
      let un := ((fnSt s f).exec.filter (fun e => e.fin.isNone)).length
      modFn f (fun x => { x with exec := x.exec.map (fun e => if e.fin.isNone then { e with fin := some 6, result := e.bytes } else e) }) (s.bump DMV.ERRCNT.COUNT un)
    else s) s

/-- ERASESTAT; BUSY is what source 14 shows of an erase. -/
def eraseBusy (b : Nat) (s : State) : State := setState DMV.ERASESTAT.BUSY b 14 s

/-- A write of ERASECTL (R221): with GO at 1 the LD's key is to be replaced. -/
def eraseWrite (v : Nat) (s : State) : State :=
  let ld := bitsOf v 0 12
  let s := (s.set DMV.ERASECTL.LD ld).set DMV.ERASECTL.ZERO (bitsOf v 12 1)
  if !bitOf v 13 then s
  else if !s.on BIND.LD.VALID ld || s.get BIND.LD.STATE ld != 0 then s.set DMV.ERASESTAT.RESULT 1
  else if committing s || s.dmv.erase.isSome then s.set DMV.ERASESTAT.RESULT 2
  else
    let (k, s) := newKey s
    match request (.key []) [sealKey s (.ld ld) k (wrapAdd 16 (s.get SEC.LDKEY.GEN ld) 1)] (.erase ld) s with
    | (.taken, s) => eraseBusy 1 { (s.set DMV.ERASESTAT.RESULT 0) with dmv := { s.dmv with erase := some ⟨ld, k, bitOf v 12, 0⟩ } }
    | (.full, s) => s.set DMV.ERASESTAT.RESULT 3
    | (.power, s) => s.set DMV.ERASESTAT.RESULT 3

/-- CRYPTO_ERASE (R221): a write of ERASECTL. -/
def execCryptoErase (v : Word) (s : State) : Result := atDomain 9 DMV.ERASECTL.GO (.cryptoErase v) (fun s => .next (eraseWrite v.toNat s)) s

/-- ERASE_ZERO_DONE (R221): the zero fill ends. -/
def execEraseZeroDone (s : State) : Result :=
  .next (match s.dmv.erase with
    | some e => if e.stage = 3 then eraseBusy 0 { s with dmv := { s.dmv with erase := none } } else s
    | none => s)

/-- A response that arrives at the data mover (R206, R213): an unsuccessful completion is HOSTERR and poisoned data POISON, unless a status stands already. -/
def dmvRsp (p : Pkt) (s : State) : State :=
  let t := p.tag - 1
  match (List.range 2).findSome? (fun m => (migSt s m).bind (fun x => (look x.reads p.rid).map (fun a => (m, a)))) with
  | some (m, dpa) => if p.op == .memData then migLines m p dpa s else s
  | none =>
  if p.tag = 0 || 2 ^ 22 ≤ t then s
  else
    let f := t / 16384
    let q := t / 4096 % 4
    let st := if p.status != .ok then 6 else if p.poison then 7 else 0
    if st = 0 then s else modDesc f q (t % 4096) (fun e => if e.err = 0 then { e with err := st } else e) s

end Sys2Proof.Machine
end

