-- ==== Sys2Proof/Machine/Commit.lean ====
section
/-! DEFINITION. Commit points of the binding engine: a staged change, a migration, a crypto-erase; and the end of their drains (R131, R133, R135, R143, R170, R197, R221, R261). -/

namespace Sys2Proof.Machine

/-- A binding that a change removes: the entry's old value, if it is invalidated or comes to name another vPPB or target. -/
def removes (s : State) (e : StgEntry) : Bool :=
  !e.isLd && s.on BIND.BT.VALID e.index &&
    !(stgValid e && bitsOf e.value 1 6 == s.get BIND.BT.HOST e.index && bitsOf e.value 7 8 == s.get BIND.BT.VPPB e.index
      && bitsOf e.value 15 2 == s.get BIND.BT.KIND e.index && bitsOf e.value 17 12 == s.get BIND.BT.TARGET e.index)

/-- A vPPB loses its binding: Presence Detect State and Data Link Layer Link Active clear with their changed bits set, and the decoders of the LD function behind it go with it (R135). -/
def vppbGone (host vppb : Nat) (s : State) : State :=
  let k := host * 256 + vppb
  let b := s.bind
  let b := { b with present := without k b.present, powerOff := without k b.powerOff, attention := without k b.attention,
                    fnDec := b.fnDec.filter (fun q => q.1 / 16 != k), hdmErr := b.hdmErr.filter (fun e => e < 2 ^ 16 || (e - 2 ^ 16) / 16 != k) }
  slotEvent host vppb 0x108 (({ s with bind := b }).emit (.presence host vppb false))

/-- A vPPB gains a binding: hot-add, with Presence Detect State, Data Link Layer Link Active and their changed bits (R135). -/
def vppbHere (host vppb : Nat) (s : State) : State :=
  let k := host * 256 + vppb
  slotEvent host vppb 0x108 (({ s with bind := { s.bind with present := insertNat k s.bind.present, powerOff := without k s.bind.powerOff } }).emit (.presence host vppb true))

/-- What else ends with a removed binding: the slots of a function become LOST (R197), and the home slices sweep a shared LD for the host (R170). -/
def bindingGone (j host kind target : Nat) (share : Bool) (s : State) : State :=
  match kind with
  | 0 => if share then departLd host target j s else s
  | 2 => sumLost (· == target) s
  | _ => s

/-- The binding epoch advances, and DONE is 0 until the older epoch has drained; step 4 of R133 follows at once. -/
def nextBindEpoch (s : State) : State :=
  let old := s.get BIND.STAT.EPOCH
  let new := (old + 1) % 256
  perf 275 0x12 1 none (raise 9 0 (new + old * 256) ((s.set BIND.STAT.EPOCH new).set BIND.STAT.DONE 0))

/-- Bindings of a host that are suspended are recorded once each (R68). -/
def noteSuspended (p : Nat) (s : State) : State :=
  let l := (validBt s).filter (fun j => s.get BIND.BT.HOST j == p && suspended s j && !(portSt s p).suspended.contains j)
  forL l (fun j s => reportEach (rec0 p kBiSuspend 1 j) (flag PORT.ESTAT.BI_MISSING (64 + p)
    (modPort p (fun x => { x with suspended := insertNat j x.suspended }) s) p)) s

/-- Migrations that waited for the commit begin their quiesce (R147). -/
def wakeQuiesce (s : State) : State :=
  forN 2 (fun m s => match migSt s m with | some x => if x.wantQ then quiesceBegin m s else s | none => s) s

/-- A rotation whose ROT_START is sealed enters REKEY (R267); it waits for the end of a binding commit (R291). -/
def rotEnter (r : Nat) (s : State) : State :=
  match rotSt s r with
  | none => s
  | some x =>
    if x.start = 0 || rotPhase s r != 2 || committing s then s
    else setRotPhase r 3 ((s.set SEC.LDKEY.ROT 1 x.ld).set SEC.ROT.RCURSOR.OFFSET 0 r)

/-- Once no commit is in steps 1 to 4, what waited for it goes on (R147, R291). -/
def commitEnd (s : State) : State := if committing s then s else rotEnter 1 (rotEnter 0 (wakeQuiesce s))

/-- A host leaves step 1 of a change (R135, R147). -/
def hostReady (p : Nat → Nat → Bool) (s : State) : State := commitEnd (handshakeDone p s)

/-- HOST_SLOT_POWER_OFF (R135). -/
def execHostSlotPowerOff (p : PortId) (vppb : Fin 256) (s : State) : Result :=
  let s := { s with bind := { s.bind with powerOff := insertNat (p.val * 256 + vppb.val) s.bind.powerOff } }
  .next (hostReady (fun h v => h == p.val && v == vppb.val) s)

/-- A change is given up before its commit point (R132, R382). -/
def dropChange (result : Nat) (s : State) : State :=
  commitEnd (refuse result 0 { (s.set BIND.STAT.BUSY 0) with bind := { s.bind with change := none } })

/-- UNBIND_TIMEOUT (R132): step 1 has waited for UNB_TO seconds, where 0 acts as 1, so the change is refused; the staging area stays. -/
def execUnbindTimeout (s : State) : Result :=
  .next (match s.bind.change with
    | some c => if c.waits = [] then s else dropChange 4 (s.reach (c.since + max 1 (s.get BIND.CTL.UNB_TO) * 1000000000))
    | none => s)

/-- LDs that a change stages with a corrected entry: FAILED because their placement does not match what the pool device reports (R130). -/
def mended (c : Change) (s : State) : List Nat :=
  (c.entries.filter (fun e => e.isLd && stgValid e && s.get BIND.LD.STATE e.index == 2 && !placedOk s e.index)).map (·.index)

/-- An LD whose corrected entry passes the check leaves FAILED (R130). -/
def mendLd (n : Nat) (s : State) : State :=
  if (look s.bind.pools (s.get BIND.LD.POOL n)).isSome && placedOk s n && s.on SEC.LDKEY.VALID n then
    ({ s with bind := { s.bind with failedFrom := del s.bind.failedFrom n } }).set BIND.LD.STATE 0 n
  else s

/-- Step 3 and 4 of R133 for a staged change. -/
def changePoint (c : Change) (s : State) : State :=
  let gone := (c.entries.filter (removes s)).map (fun e =>
    (e.index, s.get BIND.BT.HOST e.index, s.get BIND.BT.VPPB e.index, s.get BIND.BT.KIND e.index, s.get BIND.BT.TARGET e.index,
      s.on BIND.LD.SHARE (s.get BIND.BT.TARGET e.index)))
  let fresh := c.entries.filter (fun e => !e.isLd && stgValid e && (!s.on BIND.BT.VALID e.index || removes s e))
  let dead := (c.entries.filter (fun e => e.isLd && !stgValid e && s.on BIND.LD.VALID e.index)).map (·.index)
  let mend := mended c s
  let s := nextBindEpoch (forL c.entries stgWrite s)
  let s := forL (c.entries.filter (fun e => !e.isLd && stgValid e)) (fun e s => s.set BIND.BT.EPOCH (s.get BIND.STAT.EPOCH) e.index) s
  let s := forL c.keys (fun q s => takeLdKey q.1 q.2 s) s
  let s := { s with bind := { s.bind with
    change := none, dropKeys := s.bind.dropKeys ++ dead,
    failedFrom := dead.foldl del s.bind.failedFrom, lost := dead.foldl del s.bind.lost } }
  let s := (s.set BIND.STAT.RESULT 0).set BIND.STAT.BUSY 0
  let s := forL dead (fun n s => s.set BIND.LD.STATE 0 n) (forL mend mendLd s)
  let s := restateAll s
  let s := forL gone (fun g s => vppbGone g.2.1 g.2.2.1 s) s
  let s := forL fresh (fun e s => vppbHere (bitsOf e.value 1 6) (bitsOf e.value 7 8) s) s
  let s := forL gone (fun g s => bindingGone g.1 g.2.1 g.2.2.2.1 g.2.2.2.2.1 g.2.2.2.2.2 s) s
  let s := forL (fresh.map (fun e => bitsOf e.value 1 6)).eraseDups (fun h s => cacheTrim h (noteSuspended h s)) s
  commitEnd s

/-- What an LD was placed under until now stands for the packets of the older epoch (R143, R221). -/
def keepFormer (ld : Nat) (s : State) : State :=
  { s with bind := { s.bind with former := put s.bind.former ld (lookD s.sec.ldKeys ld 0, s.get BIND.LD.LDID ld) } }

/-- A rotation of an LD ends without its ROT_DONE (R270): its slot shows a result, and its key goes. -/
def endRot (r result : Nat) (s : State) : State :=
  match rotSt s r with
  | none => s
  | some x => ((setRotPhase r 0 (setRot r none s)).set SEC.ROT.RSTAT.RESULT result r).set SEC.LDKEY.ROT 0 x.ld

/-- The commit point of a crypto-erase (R221, R270): the new key is installed and the epoch advances. -/
def erasePoint (e : Erase) (s : State) : State :=
  let s := match rotOf s e.ld with
    | some r => if 3 ≤ rotPhase s r then endRot r 4 s else s
    | none => s
  let s := takeLdKey e.ld e.key (keepFormer e.ld s)
  let s := note (.bind [] none (some e.ld)) [] s
  nextBindEpoch { s with dmv := { s.dmv with erase := some { e with stage := 2 } } }

/-- COMMIT_POINT (R133): the change whose record is sealed takes effect, or a crypto-erase's key (R221); at most one older epoch drains at a time. -/
def execCommitPoint (s : State) : Result :=
  .next (if !s.on BIND.STAT.DONE || sealedOff s then s
    else
      match s.bind.change, s.dmv.erase with
      | some c, _ => if c.sealed_ then changePoint c (markApplied c.seq s) else s
      | none, some e => if e.stage = 1 then erasePoint e (markBody (fun b => match b with | .key [] => true | _ => false) s) else s
      | none, none => s)

/-- MIG_COMMIT (R143): once its record is sealed, the LD takes the destination placement and the migration key, the epoch advances, RESULT becomes OK, and the source drains. A rotation of the LD ends with RESULT OK (R270). -/
def execMigCommit (m : Fin 2) (s : State) : Result :=
  .next (match migSt s m with
    | none => s
    | some x =>
      if !x.sealed_ || migPhase s m != 4 || !s.on BIND.STAT.DONE || sealedOff s then s
      else
        let s := keepFormer x.ld (markBody (fun b => b == .migCommit m.val) s)
        let s := ((s.set BIND.LD.POOL x.dport x.ld).setB BIND.LD.MLD x.dmld x.ld).set BIND.LD.LDID (if x.dmld then x.dldid else 0) x.ld
        let s := s.set BIND.LD.BASE (if x.dmld then 0 else x.dbase) x.ld
        let s := (takeLdKey x.ld x.key s).set BIND.STAT.RESULT 0
        let s := match rotOf s x.ld with
          | some r => if 3 ≤ rotPhase s r then
              (setRotPhase r 4 (setRot r ((rotSt s r).map (fun y => { y with migDone := true, copying := none })) s)).set SEC.ROT.RSTAT.RESULT 0 r
            else s
          | none => s
        setPhase m 5 (nextBindEpoch s))

/-- Whether every request translated under an older binding epoch has completed (R88). -/
def bindDrained (s : State) : Bool := s.frame.reqs.all (fun r => r.2.done || r.2.bindEp == s.get BIND.STAT.EPOCH)

/-- A migration whose drain is over (R143): the source key is gone, the slot is IDLE, and the LD returns to its state before START. -/
def migDrained (m : Nat) (s : State) : State :=
  match migSt s m with
  | none => s
  | some x =>
    if migPhase s m != 5 then s
    else
      let s := forN 2 (fun r s => match rotSt s r with | some y => if y.migDone && y.ld == x.ld then endRot r 0 s else s | none => s) s
      let s := if s.get BIND.LD.STATE x.ld = 4 then s.set BIND.LD.STATE x.prior x.ld
        else { s with bind := { s.bind with failedFrom := if (look s.bind.failedFrom x.ld).isSome then put s.bind.failedFrom x.ld x.prior else s.bind.failedFrom } }
      let s := setPhase m 0 (setMig m none s)
      let s := ((s.set BIND.MIG.MSTAT.PASS 0 m).set BIND.MIG.MSTAT.THROTTLE 0 m).set BIND.MIG.MCURSOR.OFFSET 0 m
      restate x.ld (mdirtySync m s)

/-- The drain of the older binding epoch ends (R131, R133, R143, R221): keys of removed LDs are destroyed, a migration and an erase go on; with ZERO the fill of the LD begins. -/
def bindDone (s : State) : State :=
  let s := s.set BIND.STAT.DONE 1
  let dead := s.bind.dropKeys
  let s := { s with bind := { s.bind with dropKeys := [], former := [] } }
  let s := forL dead (fun n s => if s.on BIND.LD.VALID n then s else dropLdKey n s) s
  let s := if dead.isEmpty then s else note (.key dead) [] s
  let s := migDrained 1 (migDrained 0 s)
  match s.dmv.erase with
  | some e =>
    if e.stage != 2 then s
    else if e.zero then { s with dmv := { s.dmv with erase := some { e with stage := 3 } } }.emit (.ldZero e.ld (s.get SEC.LDKEY.GEN e.ld))
    else eraseBusy 0 { s with dmv := { s.dmv with erase := none } }
  | none => s

/-- BIND_DRAIN_DONE (R133): DONE sets once no request of an older epoch remains. -/
def execBindDrainDone (s : State) : Result :=
  .next (if !s.on BIND.STAT.DONE && bindDrained s then bindDone s else s)

/-- The record of a change, an erase's key or a migration is sealed or failed to seal (R132, R133, R221). -/
def bindSealed (seq : Nat) (ok : Bool) (s : State) : State :=
  match s.bind.change with
  | none => s
  | some c =>
    if ok then { s with bind := { s.bind with change := some { c with sealed_ := true, seq := seq } } }
    else dropChange 5 s

def eraseSealed (ok : Bool) (s : State) : State :=
  match s.dmv.erase with
  | none => s
  | some e =>
    if e.stage != 0 then s
    else if ok then { s with dmv := { s.dmv with erase := some { e with stage := 1 } } }
    else eraseBusy 0 ({ s with dmv := { s.dmv with erase := none } }.set DMV.ERASESTAT.RESULT 3)

/-- LINK_REQUEST (R86): the whole ingress pipeline for a request from a link or a unit. While a port is FLUSHING what its dead link brought is discarded (R75); in the safe state the ingress takes nothing (R326). A host that turns the power of a slot off may end what a change of bindings waits for (R135). -/
def execLinkRequest (x : XId) (r : LinkReq) (s : State) : Result :=
  let after (t : State) : State := if r.op = .pcieCfg then commitEnd t else t
  .next (if s.safe then s
    else if x.val < 64 then
      let p := ownerPort s x
      if isUp s p then
        let c := 32 + 16 * ceilDiv (if r.data.isEmpty then 0 else r.len) 16
        let s := perfView p 0x10 1 (some r.tc.val) (perfView p 0x11 (c / 16) (some r.tc.val) (bwRx p c s))
        if ideWaits s p && r.op != .pcieCfg then
          let (rid, s) := freshId s
          lostIngress p rid r false s
        else after (receive p r s)
      else if pstate s p = 4 then s.bump PORT.FLUSH_REQ.COUNT 1 p
      else s
    else if staleUnit s x r.unitEp.toNat then discardStale x s
    else
      let (rid, s) := freshId s
      takeIn x rid r none s)

/-- TAG_AVAILABLE (R70): requests that wait in the link receive buffer draw tags and proceed. A request that waits at the port's egress is offered again on its next visit (R111). -/
def execTagAvailable (p : PortId) (s : State) : Result :=
  .next (if isUp s p && !s.safe then commitEnd (takeWaiting p (portSt s p).waiting.length s) else s)

end Sys2Proof.Machine
end

