-- ==== Sys2Proof/Machine/Reg.lean ====
section
/-! DEFINITION. Register words: the 32-bit words of the management space and of the function BAR0s, read and written field by field (R10, R11, R431, R432). -/

namespace Sys2Proof.Machine

/-- The instance of a field that starts last at or below a bit address. -/
def Ent.inst (e : Ent) (b : Nat) : Option (Nat × Nat) :=
  if b < e.base then none
  else
    let r := b - e.base
    let i := if e.si = 0 then 0 else min (e.ni - 1) (r / e.si)
    let r := r - i * e.si
    some (i, if e.sj = 0 then 0 else min (e.nj - 1) (r / e.sj))

/-- The instance of a field that has bits in the word at bit address `lo`. -/
def Ent.inWord (e : Ent) (lo : Nat) : Option (Nat × Nat) :=
  match e.inst (lo + 31) with
  | none => none
  | some (i, j) => if lo < e.key i j + e.w then some (i, j) else none

/-- A field's bits in a word. -/
def wordPart (s : State) (lo : Nat) (e : Ent) : Nat :=
  match e.inWord lo with
  | none => 0
  | some (i, j) =>
    let k := e.key i j
    if lo ≤ k then s.get e i j * 2 ^ (k - lo) % 2 ^ 32 else s.get e i j / 2 ^ (lo - k) % 2 ^ 32

/-- The 32-bit word at byte address `a`. A register or offset that is not listed reads 0. -/
def State.rd (s : State) (a : Nat) : Nat := ((tabAt a).map (wordPart s (8 * a))).sum

/-- A field's value with the bits of a word replaced. -/
def putPart (e : Ent) (k lo old v : Nat) : Nat :=
  if lo ≤ k then
    let n := min e.w (lo + 32 - k)
    old / 2 ^ n * 2 ^ n + bitsOf v (k - lo) n
  else
    let n := min (e.w - (lo - k)) 32
    old % 2 ^ (lo - k) + bitsOf v 0 n * 2 ^ (lo - k) + old / 2 ^ (lo - k + n) * 2 ^ (lo - k + n)

/-- Software writes a word: RW and WO fields take their bits, and W1C fields clear where a 1 is written (R11). RO and RC fields keep theirs. WO fields hold nothing afterwards: what a write of one does belongs to its register. -/
def State.wr (s : State) (a v : Nat) : State :=
  forL (tabAt a) (fun e s =>
    match e.inWord (8 * a) with
    | none => s
    | some (i, j) =>
      let k := e.key i j
      let old := s.get e i j
      match e.acc with
      | .rw => s.set e (putPart e k (8 * a) old v) i j
      | .w1c => s.set e (old - Nat.land old (putPart e k (8 * a) 0 v)) i j
      | .ro | .rc | .wo => s) s

/-- The RC fields of a word go back to 0 once it is read (R12). -/
def State.clearRc (s : State) (a : Nat) : State :=
  forL ((tabAt a).filter (·.acc == .rc)) (fun e s =>
    match e.inWord (8 * a) with
    | none => s
    | some (i, j) => s.set e 0 i j) s

/-- A field has bits in the word at byte address `a`: its instance. -/
def hits (e : Ent) (a : Nat) : Option (Nat × Nat) := e.inWord (8 * a)

/-- The word at byte address `a` starts a 64-bit register (R10). -/
def wideLow (a : Nat) : Bool :=
  wideRegs.any (fun r =>
    let (b, si, ni, sj, nj) := r
    b ≤ a &&
      (let o := a - b
       let i := if si = 0 then 0 else min (ni - 1) (o / si)
       let o := o - i * si
       let j := if sj = 0 then 0 else min (nj - 1) (o / sj)
       o == j * sj))

end Sys2Proof.Machine
end

