-- ==== Sys2Proof/Machine/Perf.lean ====
section
/-! DEFINITION. Performance monitoring commands: select codes, freezes, snapshots, bandwidth windows, transaction samples, and the reads of a function (R354, R357 to R363). -/

namespace Sys2Proof.Machine

/-- The last select code above 0x0F of an instance's kind (R354). -/
def lastCode (i : Nat) : Nat :=
  if i < 64 then 0x1B else if i < 96 then 0x14 else if i < 176 then 0x18 else if i < 256 then 0x17 else if i < 264 then 0x16
  else if i < 268 then 0x19 else if i < 272 then 0x12 else if i < 274 then 0x15 else if i = 274 then 0x13 else if i = 275 then 0x13
  else if i = 276 then 0x11 else if i = 277 then 0x13 else if i < 314 then 0x12 else if i < 319 then 0x12 else if i = 319 then 0x12 else 0x17

/-- A code that the table gives for the instance's kind. -/
def codeOk (i c : Nat) : Bool := c ≤ 2 || (0x10 ≤ c && c ≤ lastCode i)

/-- PERF_SEL_WRITE (R354, R365): a code that the table does not give stores 0; CHAIN of an odd counter is reserved, and OVF is W1C. -/
def perfSel (i k v : Nat) (s : State) : State :=
  let c := bitsOf v 0 8
  let s := if codeOk i c then s.set PERF.CNT.SEL.EVENT c i k else flag PERF.ESTAT.SEL_ERR 20 (s.set PERF.CNT.SEL.EVENT 0 i k)
  let s := (s.set PERF.CNT.SEL.EN (bitsOf v 8 1) i k).set PERF.CNT.SEL.CHAIN (if k % 2 = 0 then bitsOf v 9 1 else 0) i k
  let s := if bitOf v 10 then (s.set PERF.CNT.SEL.OVF 0 i k).set PERF.CNT.VALUE.OVF 0 i k else s
  ((s.set PERF.CNT.SEL.OVF_EVT (bitsOf v 11 1) i k).set PERF.CNT.SEL.TCF_EN (bitsOf v 12 1) i k).set PERF.CNT.SEL.TC (bitsOf v 13 3) i k

def execPerfSelWrite (i : Fin 384) (k : Fin 8) (v : Word) (s : State) : Result := atReg PERF.CNT.SEL.EVENT (fun s => .next (perfSel i k v.toNat s)) s

/-- PERF_FREEZE (R358): a write of CTL asks for a freeze or a resumption at the next integer microsecond. -/
def perfCtl (v : Nat) (s : State) : State :=
  let s := (s.set PERF.CTL.FREEZE (bitsOf v 0 1)).set PERF.CTL.FRZOVF (bitsOf v 1 1)
  { s with perf := { s.perf with want := some (bitOf v 0) } }

def execPerfFreeze (v : Word) (s : State) : Result := atReg PERF.CTL.FREEZE (fun s => .next (perfCtl v.toNat s)) s

/-- The boundary of a waiting freeze or resumption, in ns. -/
def frzBoundary (s : State) : Option Nat := if s.perf.want.isSome then some ((s.ns / 1000 + 1) * 1000) else none

/-- The time of FRZAT, if armed. -/
def frzAt (s : State) : Option Nat := if s.on PERF.FRZAT.ARM then some (s.get PERF.FRZAT.TIME * 1024) else none

/-- The earlier of two times that may be absent. -/
def earlier (a b : Option Nat) : Option Nat :=
  match a, b with
  | some x, some y => some (min x y)
  | some x, none => some x
  | none, y => y

/-- FREEZE_BOUNDARY (R358): the next boundary arrives; a freeze asked for, or FRZAT, takes effect there. -/
def execFreezeBoundary (s : State) : Result :=
  .next (let b := frzBoundary s
    let a := frzAt s
    match earlier b a with
    | none => s
    | some t =>
      let s := s.reach t
      let s := if b = some t then { s.setB PERF.STAT.FROZEN (s.perf.want.getD false) with perf := { s.perf with want := none } } else s
      if a = some t then (s.set PERF.STAT.FROZEN 1).set PERF.FRZAT.ARM 0 else s)

/-- The period of snapshots in ns (R365). -/
def snapPeriod (s : State) : Nat := 2 ^ max 10 (min 34 (s.get PERF.SNAPCFG.EXP))

/-- SNAPSHOT (R358): at the next boundary every counter copies VALUE and OVF into SNAP, frozen or not. -/
def execSnapshot (s : State) : Result :=
  .next (let per := if s.on PERF.SNAPCFG.PER then some ((s.ns / snapPeriod s + 1) * snapPeriod s) else none
    let one := if s.on PERF.SNAPAT.ARM then some (s.get PERF.SNAPAT.TIME * 1024) else none
    match earlier per one with
    | none => s
    | some t =>
      let s := s.reach t
      let s := forN 384 (fun i s => forN 8 (fun k s =>
        (s.set PERF.CNT.SNAP.COUNT (s.get PERF.CNT.VALUE.COUNT i k) i k).set PERF.CNT.SNAP.OVF (s.get PERF.CNT.VALUE.OVF i k) i k) s) s
      let s := (s.set PERF.SNAPTIME.TIME t).count PERF.SNAPCFG.SNAPSEQ
      if one = some t then s.set PERF.SNAPAT.ARM 0 else s)

/-- BW_WINDOW_END (R359): all ports latch RX and TX in units of 64 B, and BWSEQ increments. -/
def execBwWindowEnd (s : State) : Result :=
  .next (let w := 2 ^ max 10 (min 30 (s.get PERF.BWCFG.EXP))
    let s := s.reach ((s.ns / w + 1) * w)
    let put_ (p : Nat) (s : State) : State :=
      (s.set PERF.BW.RX.UNITS (min (2 ^ 32 - 1) (lookD s.perf.rx p 0 / 64)) p).set PERF.BW.TX.UNITS (min (2 ^ 32 - 1) (lookD s.perf.tx p 0 / 64)) p
    let s := (forN 64 put_ s).count PERF.BWSEQ.SEQ
    { s with perf := { s.perf with rx := [], tx := [] } })

/-- A sample as its record (R361). -/
def sampleWord (x : Sample) (lat home pool : Nat) : Nat :=
  x.sxp % 128 + x.dxp % 128 * 2 ^ 7 + x.tc % 8 * 2 ^ 14 + x.opc % 64 * 2 ^ 17 + b2n x.shared * 2 ^ 23 + b2n x.snooped * 2 ^ 24 + b2n x.fwd * 2 ^ 25
    + b2n x.poison * 2 ^ 26 + x.clvl % 4 * 2 ^ 27 + b2n x.flush * 2 ^ 29 + x.mid % 2 ^ 16 * 2 ^ 32 + x.ld % 2 ^ 12 * 2 ^ 48
    + x.addr % 2 ^ 52 * 2 ^ 64 + b2n x.ak * 2 ^ 116 + x.time % 2 ^ 48 * 2 ^ 128 + min 0xFFFFFF lat * 2 ^ 192
    + min 0xFFFF home * 2 ^ 224 + min 0xFFFF pool * 2 ^ 240

/-- SAMPLE_RECORD (R361): a sample whose request has completed is written at NEXT; it waits for the sample buffer's domain (R400). -/
def execSampleRecord (req : Nat) (latNs homeLat poolLat : Nat) (s : State) : Result :=
  .next (match look s.perf.open_ req with
    | none => s
    | some x =>
      if (look s.frame.reqs req).isSome then s
      else if !pdOn s 12 then pdWake 12 s
      else
        let s := { s with perf := { s.perf with open_ := del s.perf.open_ req } }
        if s.on PERF.STAT.TSFULL then s
        else
          let n := s.get PERF.STAT.NEXT
          let s := (s.set PERF.TSB.REC (sampleWord x latNs homeLat poolLat) n).set PERF.STAT.NEXT (n + 1)
          let s := s.set PERF.STAT.COUNT (min 4096 (s.get PERF.STAT.COUNT + 1))
          if n = 4095 && !s.on PERF.TSCFG.WRAP then flag PERF.ESTAT.TSB_FULL 20 (s.set PERF.STAT.TSFULL 1) else s)

/-- TS_ENABLE (R360, R361): a write of TSCFG; EN from 0 to 1 sets NEXT and COUNT to 0 and draws the first interval, and the sample buffer's domain is needed again (R399). -/
def tsWrite (v : Nat) (s : State) : State :=
  let was := s.on PERF.TSCFG.EN
  let s := putWord 32 [PERF.TSCFG.EN, PERF.TSCFG.WRAP, PERF.TSCFG.RAND, PERF.TSCFG.NLOG, PERF.TSCFG.XP, PERF.TSCFG.ALLXP, PERF.TSCFG.OPCMASK] v 0 0 s
  if bitOf v 0 && !was then
    let (g, s) := nextGap (((s.set PERF.STAT.NEXT 0).set PERF.STAT.COUNT 0).set PERF.STAT.TSFULL 0)
    pdWake 12 { s with perf := { s.perf with left := g, open_ := [] } }
  else s

def execTsEnable (v : Word) (s : State) : Result := atReg PERF.TSCFG.EN (fun s => .next (tsWrite v.toNat s)) s

/-- The view that function f may read (R362). -/
def viewOf (s : State) (f : Nat) : Option Nat :=
  let v := s.get PERF.GRANT.VIEW f
  match fnBinding s f with
  | some (h, _) => if s.on PERF.GRANT.EN f && s.on PERF.VIEW.EN v && s.get PERF.VIEW.PORT v == h then some v else none
  | none => none

/-- A word of the window of R362, by its offset above 0x8000. A read of a low word latches the high word, and for a chained even counter both words of its neighbour (R357); the latch of a view is keyed by its register. -/
def viewRead (f off : Nat) (s : State) : Nat × State :=
  match viewOf s f with
  | none => (0, s)
  | some v =>
    let i := 320 + v
    let at_ (e : Ent) (k hi : Nat) : Nat := e.key i k / 8 / 4 * 4 + 4 * hi
    let val (e : Ent) (o : Ent) (k : Nat) : Nat := s.get e i k + s.get o i k * 2 ^ 48
    if off < 0x80 then
      let k := off / 16
      let snap := 8 ≤ off % 16
      let hi := off / 4 % 2
      let e := if snap then PERF.CNT.SNAP.COUNT else PERF.CNT.VALUE.COUNT
      let n := val e (if snap then PERF.CNT.SNAP.OVF else PERF.CNT.VALUE.OVF) k
      let key := at_ e k hi
      match look s.latch key with
      | some w => (w, { s with latch := del s.latch key })
      | none =>
        if hi = 1 then (n / 2 ^ 32 % 2 ^ 32, s)
        else
          let l := put s.latch (at_ e k 1) (n / 2 ^ 32 % 2 ^ 32)
          let l := if !snap && k % 2 = 0 && s.on PERF.CNT.SEL.CHAIN i k then
              let m := val PERF.CNT.VALUE.COUNT PERF.CNT.VALUE.OVF (k + 1)
              put (put l (at_ e (k + 1) 0) (m % 2 ^ 32)) (at_ e (k + 1) 1) (m / 2 ^ 32 % 2 ^ 32)
            else l
          (n % 2 ^ 32, { s with latch := l })
    else if off = 0x80 then
      (s.get PERF.SNAPTIME.TIME % 2 ^ 32, { s with latch := put s.latch (PERF.SNAPTIME.TIME.key 0 0 / 8 + 4) (s.get PERF.SNAPTIME.TIME / 2 ^ 32) })
    else if off = 0x84 then
      (match look s.latch (PERF.SNAPTIME.TIME.key 0 0 / 8 + 4) with
       | some w => (w, { s with latch := del s.latch (PERF.SNAPTIME.TIME.key 0 0 / 8 + 4) })
       | none => (s.get PERF.SNAPTIME.TIME / 2 ^ 32, s))
    else if off = 0x88 then (s.get PERF.SNAPCFG.SNAPSEQ, s)
    else if 0x8C ≤ off && off < 0xAC then (s.get PERF.CNT.SEL.EVENT i ((off - 0x8C) / 4), s)
    else if s.on PERF.GRANT.BW f then
      let p := s.get PERF.VIEW.PORT v
      (if off = 0xC0 then s.get PERF.BW.RX.UNITS p else if off = 0xC4 then s.get PERF.BW.TX.UNITS p else if off = 0xC8 then s.get PERF.BWSEQ.SEQ else 0, s)
    else (0, s)

end Sys2Proof.Machine
end

