-- ==== Sys2Proof/Machine/Port.lean ====
section
/-! DEFINITION. Ports: entry to UP, loss and flush, timeouts of tags, power states and recovery of the link, and writes of the port's registers (R13, R47, R50, R52, R53, R58 to R80, R145, R147, R323). -/

namespace Sys2Proof.Machine

/-- Local instances `0 … n - 1` of a field of port-indexed registers go back to reset. -/
def clearAll (es : List Ent) (i j : Nat) (s : State) : State := forL es (fun e s => s.clear e i j) s

/-- A LINK reset of a port (R13, R14): its LINK-class registers take their reset values, its link keys and sessions are destroyed (R259), and the rate cap goes (R50). The decoders of the LD functions behind an upstream port and what its host wrote into its vPPBs go with its own (DEDUCED, log entry on LD decoders). -/
def portLinkReset (p : Nat) (s : State) : State :=
  let s := laneLinkReset p s
  let s := forN 32 (fun d s => clearAll [BIND.DEC.COMMITTED, BIND.DEC.LOCKED, BIND.DEC.IW, BIND.DEC.IG, BIND.DEC.BASE, BIND.DEC.SIZE, BIND.DEC.TARGET] p d s) s
  let s := clearAll [PORT.TAGSTAT.IN_USE, PORT.TAGSTAT.PEAK, FRAME.EG.SCHSTAT.UNIT_PS, FRAME.EG.SCHSTAT.U, SEC.IDE.IO_STATE, SEC.IDE.CM_STATE, SEC.IDE.KSET,
    SEC.IDE.ERRCNT] p 0 s
  let mine (k : Nat) : Bool := k / 4096 == p
  let err (k : Nat) : Bool := if k < 2 ^ 16 then k / 32 == p else (k - 2 ^ 16) / 4096 == p
  let s := { s with bind := { s.bind with fnDec := s.bind.fnDec.filter (fun q => !mine q.1), hdmErr := s.bind.hdmErr.filter (fun k => !err k),
                                          vppbs := s.bind.vppbs.filter (fun q => q.1 / 256 != p) } }
  let s := { s with sec := { s.sec with linkKeys := s.sec.linkKeys.filter (fun q => q.1 / 16 != p),
                                        sessions := s.sec.sessions.filter (fun q => q.2 != p && !(2 ^ 16 ≤ q.2 && (q.2 - 2 ^ 16) / 256 == p)) } }
  modPort p (fun x => { x with credits := [] }) s

/-- The loss recovery of LDs (R323): each FAILED LD of the port that the pool still matches returns to its state before the loss. -/
def recoverLd (n : Nat) (s : State) : State :=
  match look s.bind.failedFrom n with
  | some st =>
    if s.get BIND.LD.STATE n == 2 && placedOk s n && s.on SEC.LDKEY.VALID n then
      let s := { s with bind := { s.bind with failedFrom := del s.bind.failedFrom n } }
      let s := s.set BIND.LD.STATE (if st = 4 && (migOf s n).isNone then 1 else st) n
      restate n s
    else s
  | none => s

def recoverLds (p : Nat) (s : State) : State := forL (portLds s p) recoverLd s

/-- The pool device that returned is the one that was lost: serial number and capacity agree (R323). -/
def samePool (s : State) (p : Nat) : Bool :=
  match look s.bind.pools p, look s.bind.poolWas p with
  | some a, some b => a.serial == b.serial && a.capacity == b.capacity
  | _, _ => false

/-- A port that has rested in DISABLED and may train now enters Detect; one that waits in DOWN goes on waiting (R49, R50). -/
def settleTrain (p : Nat) (s : State) : State :=
  let was := pstate s p
  let s := settle p s
  if was = 0 then detect p (modPort p (fun x => { x with waitRetry := false }) s) else s

/-- UC_KEEP of a forced loss (R323): DISABLE is set. -/
def keepPort (p : Nat) (s : State) : State := settle p (s.set PORT.CTL.DISABLE 1 p)

/-- UC_RECOVER and the hardware-mode action of function 3 for OBJ p: LDs of a port that is UP return; a port that is down goes on to retrain. -/
def ucAct (p : Nat) (s : State) : State := if isUp s p then recoverLds p s else s

/-- UC_KEEP for OBJ p: LDs stay FAILED, a port stays down. -/
def ucHold (p : Nat) (s : State) : State := if isUp s p then s else keepPort p s

/-- The flush is over: LINK reset on entry to DOWN, all tags free, and what still waited is discarded (R74, R76); each LD of a pool port has its record, with the writes lost (R77); a forced loss reaches its decision point (R323). -/
def enterDown (p : Nat) (s : State) : State :=
  let x := portSt s p
  let s := tagSync p (modPort p (fun x => { x with tags := [], sweepOwed := false, flushed := false, retrain := false, recoverable := false, waitRetry := !x.retrain }) s)
  let s := portLinkReset p s
  let s := setPstate p (restState s p) s
  let s := if s.get PORT.CFG.ROLE p != 1 && s.on PORT.CFG.POOL p then forL (portLds s p) (fun n s => ldRecord p n s) s else s
  if x.recoverable then
    let (_, s) := reachPoint 3 p s
    s
  else if x.retrain then detect p s else s

/-- An egress queue of a lost port is emptied: every packet is treated as R75 says. -/
def drainEgress (p : Nat) (s : State) : State :=
  forL (egq s p) (fun e s => deadEgress p e.p (leaveQueue p e s)) s

/-- Requests on the dead link are completed (R75, item 2); quarantined tags only go. -/
def drainTags (p : Nat) (s : State) : State :=
  let sent := (portSt s p).tags.filter (·.sent)
  let s := freeTags p (·.sent) s
  forL sent (fun e s =>
    match e.pkt with
    | none => s
    | some k => if e.quar then s else deadEgress p k (mark k.rid (fun m => { m with flush := true }) s)) s

/-- A request of the dead link that has not crossed is gone: it is counted, its payload and its tracker entry go, and it counts as completed (R75, R79). -/
def discardReq (p rid : Nat) (s : State) : State :=
  let s := perf p 0x17 1 none (s.bump PORT.FLUSH_REQ.COUNT 1 p)
  let s := mark rid (fun m => { m with flush := true }) s
  freeTags p (fun t => !t.sent && t.rid == rid) (closeReq rid { s with frame := { s.frame with parked := s.frame.parked.filter (fun q => !(q.2.p.lst == 1 && q.2.p.rid == rid)) } })

/-- Requests from the dead link in the ingress buffers and at the holds of the pipeline are discarded (R75, item 1). What a home released from here, and what follows from a request that has crossed, goes on. -/
def drainIngress (p : Nat) (s : State) : State :=
  let halves := if isX16 s p then [p, p + 1] else [p]
  let s := forL halves (fun i s =>
    let (gone, kept) := (voq s i).partition (fun v => v.p.lst != 2 && v.p.orig < 64 && !v.p.deriv)
    let s := setVoq i kept s
    bufSync i (forL gone (fun v s => discardReq p v.p.rid s) s)) s
  let w := (portSt s p).waiting
  let s := modPort p (fun x => { x with waiting := [] }) s
  let s := forL w (fun _ s => s.bump PORT.FLUSH_REQ.COUNT 1 p) s
  let mine (q : Nat × Nat × LinkReq) : Bool := halves.contains q.1
  let s := forN 2 (fun m s =>
    match migSt s m with
    | some x => forL (x.held.filter mine) (fun q s => discardReq p q.2.1 s) (setMig m (some { x with held := x.held.filter (fun q => !mine q) }) s)
    | none => s) s
  let s := match s.homeG.conv with
    | some c => forL (c.held.filter mine) (fun q s => discardReq p q.2.1 s) { s with homeG := { s.homeG with conv := some { c with held := c.held.filter (fun q => !mine q) } } }
    | none => s
  let far := s.blkG.held.filter (fun q => mine q.2)
  forL far (fun q s => discardReq p q.2.2.1 s) { s with blkG := { s.blkG with held := s.blkG.held.filter (fun q => !mine q.2) } }

/-- The LDs of a lost pool port fail; their records follow when the flush has ended and every lost write is known (log entry on lost writes). What the device reported is kept for its return, and migrations that touch the port abort (R77, R145, R323). -/
def poolLost (p : Nat) (s : State) : State :=
  let s := match look s.bind.pools p with
    | some r => { s with bind := { s.bind with pools := del s.bind.pools p, poolWas := put s.bind.poolWas p r } }
    | none => s
  let s := closeDec 3 p s
  let s := forN 2 (fun m s =>
    match migSt s m with
    | none => s
    | some x =>
      if migPhase s m = 5 || migPhase s m = 0 then s
      else
        let s := if x.dport = p then report (rec0 eBind kMigFail 1 p) s else s
        if x.dport = p || s.get BIND.LD.POOL x.ld = p then migAbort m (flag BIND.ESTAT.MIGFAIL 9 s) else s) s
  forL (portLds s p) failLd s

/-- What a lost upstream port hands on (R78, R147, R197, R219, R248). -/
def hostLost (p : Nat) (s : State) : State :=
  let d := localDhn s p
  let s := modPort p (fun x => { x with sweepOwed := true }) (s.set PORT.STAT.SWEEP 1 p)
  let s := sendDepart d (departHost d s)
  let s := dmvHostLost p (sumHostLost p s)
  restateAll (hostReady (fun h _ => h == p) s)

/-- A port leaves UP for FLUSHING (R74 to R79). `detail` is the reason of a DPC trigger, `recover` says whether the end of a forced loss is a decision point. LINK-class registers keep their values until DOWN. -/
def lose (p : Nat) (why : Loss) (detail : Nat) (recover : Bool) (s : State) : State :=
  if !isUp s p then s
  else
    let s := match why with
      | .surprise => report { rec0 p kLinkDown 1 p with detail := detail } (flag PORT.ESTAT.DOWN_SURPRISE (64 + p) s p)
      | .orderly => flag PORT.ESTAT.DOWN_ORDERLY (64 + p) s p
      | .forced => report { rec0 p kLinkDown 1 p with detail := detail } (flag PORT.ESTAT.DOWN_FORCED (64 + p) s p)
    let s := voidDec 2 p (quickEnd p (scanLost p (setPstate p 4 s)))
    let s := modPort p (fun x => { x with loss := some why, recoverable := recover }) s
    let s := drainIngress p (drainEgress p (drainTags p s))
    if s.get PORT.CFG.ROLE p = 1 then hostLost p s
    else if s.on PORT.CFG.POOL p then poolLost p s
    else s

/-- An orderly loss in an LTSSM state that shows why (R58, R74): 0x0C Hot Reset, 0x0D Disabled. -/
def loseIn (v p : Nat) (s : State) : State := if isUp s p then setLtssm p v (lose p .orderly 0 false s) else s

/-- A hot reset is sent on the link of port p, and takes it down (R74). -/
def resetOut (p : Nat) (s : State) : State := loseIn 0x0C p (s.emit (.hotReset p))

/-- A hot reset on an upstream port goes on, as hot reset, to the device ports of its virtual switch (R74). -/
def hotResetPort (p : Nat) (s : State) : State :=
  let s1 := loseIn 0x0C p s
  if s.get PORT.CFG.ROLE p = 1 then forL (vcsPorts s p) resetOut s1 else s1

/-- DL_DOWN (R74): a surprise loss. -/
def execDlDown (p : PortId) (s : State) : Result := .next (lose p .surprise 0 false s)

/-- HOT_RESET (R74): a hot reset received or sent, or the partner's link disable, which goes no further. -/
def execHotReset (r : PortReset) (s : State) : Result :=
  .next (match r.how with
    | .received => hotResetPort r.port s
    | .sent => resetOut r.port s
    | .partnerDisable => loseIn 0x0D r.port s)

/-- DPC_TRIGGER (R62, R74): on a downstream port, a surprise loss with the trigger reason. -/
def execDpcTrigger (p : PortId) (reason : Nat) (s : State) : Result :=
  .next (if s.get PORT.CFG.ROLE p = 2 then lose p .surprise reason false s else s)

/-- A write of PORTn.CTL (R74, R79, R80). -/
def portCtl (p v : Nat) (s : State) : State :=
  if behindX16 s p then s
  else
    let s := s.set PORT.CTL.DISABLE (bitsOf v 0 1) p
    let s := if bitOf v 0 then loseIn 0x0D p s else s
    let s := if bitOf v 1 then lose p .forced 0 false s else s
    settleTrain p s

/-- PORT_DISABLE (R74): a write of CTL with DISABLE. -/
def execPortDisable (p : PortId) (v : Word) (s : State) : Result := atReg PORT.CTL.DISABLE (fun s => .next (portCtl p v.toNat s)) s

/-- FORCE_DOWN (R74): a write of CTL with FORCE_DOWN at 1. -/
def execForceDown (p : PortId) (v : Word) (s : State) : Result := atReg PORT.CTL.FORCE_DOWN (fun s => .next (portCtl p v.toNat s)) s

/-- Both the flush and the sweeps of a port are over (R76, R78). -/
def flushOver (s : State) (p : Nat) : Bool :=
  pstate s p == 4 && (portSt s p).flushed && !(portSt s p).sweepOwed && departed s (localDhn s p)

/-- A port whose flush and sweeps have both ended enters DOWN. -/
def leaveFlush (p : Nat) (s : State) : State :=
  let s := if (portSt s p).sweepOwed || !departed s (localDhn s p) then s else s.set PORT.STAT.SWEEP 0 p
  if flushOver s p then enterDown p s else s

/-- FLUSH_COMPLETE (R76): what has reached the dead egress since is completed too. -/
def execFlushComplete (p : PortId) (s : State) : Result :=
  .next (if pstate s p = 4 && s.frame.subst.isNone then leaveFlush p (modPort p (fun x => { x with flushed := true }) (drainEgress p (drainTags p s))) else s)

/-- DEPARTURE_SWEEP_DONE (R78, R174): the local sweeps of port p's host have ended. -/
def execDepartureSweepDone (p : PortId) (s : State) : Result :=
  .next (if (portSt s p).sweepOwed then
      leaveFlush p (modPort p (fun x => { x with sweepOwed := false }) (departEnd (localDhn s p) s))
    else s)

/-- DEPART_DONE (R248): a device has swept a departed host; when it was the last, the host's port may leave FLUSHING. -/
def execDepartDone (n : BlkId) (cseq : BitVec 8) (dhn : BitVec 9) (s : State) : Result :=
  .next (if !awaits s n cseq.toNat then s
    else
      let d := (blkSt s n).waits.find? (fun w => w.cseq == cseq.toNat && w.msg == .depart dhn.toNat)
      let s := answered n cseq.toNat s
      match d with
      | none => s
      | some _ =>
        let s := match takeFirst (fun q => q.1 == dhn.toNat && viaDev s q.2 == peerOf s n) s.blkG.departs with
          | some (_, rest) => { s with blkG := { s.blkG with departs := rest } }
          | none => s
        if dhn.toNat / 64 = me s then leaveFlush (dhn.toNat % 64) s else s)

/-- The record of an expired request names the binding of its host, or else the port (R71). -/
def ctoObj (s : State) (p : Nat) (k : Pkt) : Nat :=
  if k.toLd then ((ldBindings s k.ld).find? (fun j => some (s.get BIND.BT.HOST j) == masterHost s k.mid)).getD p else p

/-- CTO_EXPIRY (R71): the request is completed as for a lost target and its tag quarantined for twice the timeout; a back-invalidate snoop that times out takes its host's port down. -/
def execCtoExpiry (p : PortId) (tag : Fin 1024) (s : State) : Result :=
  .next (match (portSt s p).tags.find? (fun e => e.sent && e.tag == tag.val && !e.quar) with
    | none => s
    | some e =>
      if !isUp s p then s
      else
        let s := s.reach e.deadline
        match e.pkt with
        | none => s
        | some k =>
          if k.op == .biSnpInv || k.op == .biSnpData then lose p .forced 0 false s
          else
            let q := { e with quar := true, deadline := s.ns + 2 * ctoNs s p, merge := none }
            let s := modPort p (fun x => { x with tags := x.tags.map (fun t => if t.sent && t.tag == tag.val then q else t) }) s
            let s := report (rec0 p kCto 1 (ctoObj s p k)) (flag PORT.ESTAT.CTO (64 + p) (s.bump PORT.CTOCNT.COUNT 1 p) p)
            let n := s.get PORT.ERRCPL.COUNT p
            (lostReply p k s).set PORT.ERRCPL.COUNT n p)

/-- TAG_QUARANTINE_EXPIRY (R71): the tag is freed. -/
def execTagQuarantineExpiry (p : PortId) (tag : Fin 1024) (s : State) : Result :=
  .next (match (portSt s p).tags.find? (fun e => e.sent && e.tag == tag.val && e.quar) with
    | none => s
    | some e => freeTags p (fun t => t.sent && t.tag == tag.val) (s.reach e.deadline))

/-- The flit format that a port settles on (R65, R66): 0 non-flit, 1 68-byte, 2 256-byte, 3 latency-optimized. -/
def flitOf (s : State) (p proto : Nat) (n : LinkNeg) : Nat :=
  if proto = 1 then 1
  else if n.both64 && maxRate s ((slotOf s p).map (·.1) |>.getD (p / 2)) = 5 then (if n.lopt && s.on PORT.CFG.LOPT_EN p && proto != 0 then 3 else 2)
  else if proto = 0 then 0 else 1

/-- The protocol that a port settles on (R59, R65): PCIe alone unless CXL is enabled; an upstream port offers no CXL 1.1. -/
def protoSettled (s : State) (p : Nat) (n : LinkNeg) : Nat :=
  if !s.on PORT.CFG.CXL_EN p || (n.cxl.val = 1 && s.get PORT.CFG.ROLE p = 1) then 0 else n.cxl

/-- CXL.cache on a device port: at most 16 per virtual switch, in the order of reaching UP; a port that has not reached DOWN again keeps its place (R67). -/
def cacheFull (s : State) (p : Nat) : Bool :=
  match portHost s p with
  | some h => 16 ≤ (cachePorts s h p).length
  | none => false

/-- What a port has negotiated shows in STAT (R63, R65 to R68). A pool port, and a port on CXL 1.1, take no CXL.cache. -/
def showNeg (p : Nat) (n : LinkNeg) (s : State) : State :=
  let up := s.get PORT.CFG.ROLE p = 1
  let proto := protoSettled s p n
  let flit := flitOf s p proto n
  let wants := n.cache && s.on PORT.CFG.CACHE_EN p && 2 ≤ proto && (up || !s.on PORT.CFG.POOL p)
  let denied := wants && !up && cacheFull s p
  let s := ((s.set PORT.STAT.PROTO proto p).set PORT.STAT.FLIT flit p).setB PORT.STAT.IO (proto != 0) p
  let s := (s.setB PORT.STAT.MEM (proto != 0 && n.mem && s.on PORT.CFG.MEM_EN p) p).setB PORT.STAT.CACHE (wants && !denied) p
  let s := s.setB PORT.STAT.BI (up && n.bi && s.on PORT.CFG.BI_EN p && 2 ≤ flit && proto = 3) p
  let s := s.setB PORT.STAT.CACHE_DENIED denied p
  if denied then cacheDenied p s else s

/-- A pool port is UP: placements are checked against what the device reports (R130), writes lost while it was DOWN are reported (R77), and LDs lost before reach their recovery (R323). -/
def poolUp (p : Nat) (r : PoolReport) (s : State) : State :=
  let s := forL ((portLds s p).filter (fun n => (look s.bind.lost n).isSome)) (fun n s => ldRecord p n s) s
  let s := placementCheck p { s with bind := { s.bind with pools := put s.bind.pools p r } }
  let s := if r.mld then s else s.emit (.hdmPass p 0 ⟨0, BitVec.ofNat 64 (r.capacity * mib256), 1, 256, [], false, true⟩)
  let failed := (portLds s p).any (fun n => s.get BIND.LD.STATE n == 2 && (look s.bind.failedFrom n).isSome)
  if failed && samePool s p then
    let (held, s) := reachPoint 3 p s
    if held then s else recoverLds p s
  else s

/-- The lanes with which a port trains (R49): the largest width of 16, 8, 4, 2 and 1 that the slot, the partner and the lanes with a receiver allow, from the lowest lane up or, where those lack a receiver, from the highest down (DEDUCED, log entry on widths). -/
def trainLanes (ls : List (Nat × Nat)) (n : LinkNeg) : List (Nat × Nat) :=
  let len := ls.length
  let low (w : Nat) : Bool := (List.range w).all (fun i => !n.dark.contains i)
  let high (w : Nat) : Bool := (List.range w).all (fun i => !n.dark.contains (len - 1 - i))
  match [16, 8, 4, 2, 1].find? (fun w => w ≤ len && w ≤ n.width && (low w || high w)) with
  | none => []
  | some w => if low w then ls.take w else ls.drop (len - w)

/-- A setting that is automatic (0 or 1), or forces a value (R58). -/
def forced (set : Nat) (auto : Bool) : Bool := if set = 2 then false else if set = 3 then true else auto

/-- What Polling and Configuration settle shows in TRNSTAT and LSTAT (R49, R58). -/
def showTrained (p : Nat) (n : LinkNeg) (us : List (Nat × Nat)) (s : State) : State :=
  let lo := match slotOf s p with | some (_, _, l, _) => l | none => 0
  let s := setTrn COL.TRN.TRNSTAT.WIDTH p us.length (setTrn COL.TRN.TRNSTAT.RATE p 0 s)
  let s := setTrn COL.TRN.TRNSTAT.REVERSED p (b2n (forced (getTrn s COL.TRN.TRNCTL.REV_FORCE p) n.reversed)) s
  forL us (fun q s => s.setB COL.LANE.LSTAT.POL_INV (forced (s.get COL.LANE.LCTL.POL_FORCE q.1 q.2) (n.inverted.contains (q.2 - lo))) q.1 q.2) s

/-- The credits that a port advertises for each crossbar port, by role and by the protocols negotiated (R72). -/
def creditTable (s : State) (p : Nat) : List (Channel × Nat × Nat) :=
  let up := s.get PORT.CFG.ROLE p == 1
  let pool := !up && s.on PORT.CFG.POOL p
  let mem := s.on PORT.STAT.MEM p
  let cache := s.on PORT.STAT.CACHE p && !pool
  [(.posted, 64, 1024), (.nonPosted, 64, 64), (.completion, 128, 2048)]
    ++ (if mem && up then [(.m2sReq, 256, 0), (.m2sRwD, 128, 128), (.biRsp, 128, 0)] else [])
    ++ (if mem && !up then [(.s2mNdr, 256, 0), (.s2mDrs, 256, 256)] else [])
    ++ (if mem && !up && !pool then [(.biSnp, 64, 0)] else [])
    ++ (if cache && up then [(.h2dReq, 64, 0), (.h2dRsp, 128, 0), (.h2dData, 0, 64)] else [])
    ++ (if cache && !up then [(.d2hReq, 64, 0), (.d2hRsp, 128, 0), (.d2hData, 0, 64)] else [])

/-- Credits go out when the data link layer comes up (R72): a x16 port advertises them for both of its crossbar ports. -/
def advertise (p : Nat) (s : State) : State :=
  let k := if isX16 s p then 2 else 1
  forL (creditTable s p) (fun q s => s.emit (.advertise p q.1 (k * q.2.1) (k * q.2.2))) s

/-- T_POWER_ON of a port (R54, R55): 300 µs while its column may sleep. -/
def powerOnUs (s : State) (p : Nat) : Nat :=
  match slotOf s p with
  | some (c, _) => if bitOf (colSt s c).cfg 2 then 300 else 70
  | none => 70

/-- A trained port is UP (R49, R67, R68, R72, R74): active at 2.5 GT/s, with its credits advertised. Where no higher rate is negotiated its quick eye scan begins. -/
def portUp (p : Nat) (n : LinkNeg) (us : List (Nat × Nat)) (s : State) : State :=
  let s := showNeg p n (showTrained p n us s)
  let no := 1 + (s.ports.map (fun q => q.2.upNo)).foldl max 0
  let bi := s.on PORT.STAT.BI p
  let s := modPort p (fun x => { x with neg := some n, used := us, loss := none, waitRetry := false, retrain := false, credits := [], upNo := no,
                                        biLost := (s.get PORT.CFG.ROLE p == 1) && !bi }) s
  let s := egressUp p (setPstate p 3 (toL0 p s))
  let s := advertise p (s.emit (.tPowerOn p (powerOnUs s p)))
  let s := if topRate s p = 0 then quickStart p s else s
  if s.get PORT.CFG.ROLE p = 1 then
    let s := if bi then modPort p (fun x => { x with suspended := [] }) s else s
    noteSuspended p (restateAll s)
  else if s.on PORT.CFG.POOL p then poolUp p n.pool s
  else s

/-- PORT_UP (R49, R74): the data link layer of a port that trains reaches DL_Up, on the lanes that work. With no working lane a port does not train. -/
def execPortUp (p : PortId) (n : LinkNeg) (s : State) : Result :=
  .next (if pstate s p != 2 || s.safe || !s.live then s
    else match trainLanes (lanesOf s p) n with
      | [] => s
      | u :: us => portUp p n (u :: us) s)

/-- The power states that a port's partner takes (R53): L0p in 256-byte flit mode alone. -/
def powerAllowed (s : State) (p : Nat) (pw : LinkPower) : Bool :=
  match (portSt s p).neg with
  | none => false
  | some n =>
    match pw with
    | .l0 | .l1 => true
    | .l0p w => 2 ≤ s.get PORT.STAT.FLIT p && n.l0p && w ≤ (portSt s p).used.length
    | .l11 => n.l11
    | .l12 => n.l12

/-- Lanes from place w on hold electrical idle or sleep: their adaptation is frozen, and a scan of one of them ends with ABORT_IDLE (R47, R53). -/
def idleLanes (p w : Nat) (s : State) : State :=
  let ls := (portSt s p).used.drop w
  let s := freeze ls s
  match scansPort s p with
  | some c =>
    (match (colSt s c).scan with
     | some sc => if w = 0 || ls.contains (c, sc.lane) then endScan c 4 s else s
     | none => s)
  | none => s

/-- LINK_POWER_STATE_CHANGE (R47, R53): a port enters or leaves L0p, L1 or its substates, as its partner and its flit mode allow. L1.1 and L1.2 release CLKREQ#, and leaving them asserts it. -/
def execLinkPowerStateChange (p : PortId) (pw : LinkPower) (s : State) : Result :=
  .next (if !isUp s p || !([6, 7, 8, 9, 10].contains (ltssm s p)) || !powerAllowed s p pw then s
    else
      let low := ltssm s p == 9 || ltssm s p == 10
      let wake (s : State) : State := if low then s.emit (.clkreq p true) else s
      let rest (s : State) : State := if low then s else s.emit (.clkreq p false)
      match pw with
      | .l0 => toL0 p (wake s)
      | .l0p w => idleLanes p w (setLtssm p 7 (wake s))
      | .l1 => idleLanes p 0 (setLtssm p 8 (wake s))
      | .l11 => idleLanes p 0 (setLtssm p 9 (rest s))
      | .l12 => idleLanes p 0 (setLtssm p 10 (rest s)))

/-- LINK_RECOVERY (R43, R47, R49, R119): Recovery, or Recovery.Equalization for a rate that is still to be equalized, pauses a scan; back in L0 it resumes, waiting overrides apply and U and T_unit are computed again. -/
def execLinkRecovery (p : PortId) (move : RecoveryMove) (s : State) : Result :=
  .next (if !isUp s p then s
    else
      match move with
      | .enter => if [6, 7, 8].contains (ltssm s p) then toRecovery p 4 s else s
      | .equalize => if [4, 6, 7, 8].contains (ltssm s p) then toRecovery p 5 s else s
      | .leave => if ltssm s p = 4 then toL0 p s else s)

/-- A write of TRNCTL (R50, R58): RETRAIN takes the port to DOWN, clears the rate cap and starts Detect. -/
def trnWrite (c k v : Nat) (s : State) : State :=
  let p := portOfSlot c k
  let s := (s.set COL.TRN.TRNCTL.EN (bitsOf v 0 1) c k).set COL.TRN.TRNCTL.REV_FORCE (bitsOf v 2 2) c k
  let s := (s.set COL.TRN.TRNCTL.SRIS (bitsOf v 4 1) c k).set COL.TRN.TRNCTL.RETRY_INT (bitsOf v 5 8) c k
  match slotOf s p with
  | none => s
  | some (c', k', _) =>
    if c' != c || k' != k then s
    else
      let s := settleTrain p s
      if !bitOf v 1 then s
      else if isUp s p then modPort p (fun x => { x with retrain := true }) (lose p .orderly 0 false s)
      else if pstate s p = 4 then modPort p (fun x => { x with retrain := true }) s
      else
        let s := modPort p (fun x => { x with rateCap := none, waitRetry := false }) s
        if pstate s p = 2 then setLtssm p 1 s else detect p s

/-- RETRAIN (R50): a write of TRNCTL with RETRAIN at 1. -/
def execRetrain (c : ColId) (k : Fin 4) (v : Word) (s : State) : Result := atReg COL.TRN.TRNCTL.RETRAIN (fun s => .next (trnWrite c k v.toNat s)) s

/-- A valid binding entry or LD entry names the port (R61). -/
def portNamed (s : State) (p : Nat) : Bool :=
  !(portLds s p).isEmpty || (validBt s).any (fun j => s.get BIND.BT.HOST j == p || (s.get BIND.BT.KIND j == 1 && s.get BIND.BT.TARGET j == p))

/-- A write of PORTn.CFG is rejected (R60, R61, R80). -/
def cfgBad (s : State) (p v : Nat) : Bool :=
  let role := bitsOf v 0 2
  1 < pstate s p || role == 3
    || (role == 1 && 63 ≤ ((List.range 64).filter (fun q => q != p && s.get PORT.CFG.ROLE q == 1)).length)
    || (portNamed s p && (role != s.get PORT.CFG.ROLE p || bitsOf v 8 1 != s.get PORT.CFG.POOL p))

/-- A write of PORTn.CFG (R61). -/
def portCfg (p v : Nat) (s : State) : State :=
  if behindX16 s p then s
  else if cfgBad s p v then s.set PORT.STAT.CFG_ERR 1 p
  else
    settleTrain p (putWord 32 [PORT.CFG.ROLE, PORT.CFG.CXL_EN, PORT.CFG.MEM_EN, PORT.CFG.CACHE_EN, PORT.CFG.BI_EN, PORT.CFG.LOPT_EN, PORT.CFG.PTM_EN, PORT.CFG.POOL] v p 0 s)

/-- PORT_CFG_WRITE (R61). -/
def execPortCfgWrite (p : PortId) (v : Word) (s : State) : Result := atReg PORT.CFG.ROLE (fun s => .next (portCfg p v.toNat s)) s

/-- A write of TAGCFG (R61, R70). -/
def tagCfg (p v : Nat) (s : State) : State :=
  if behindX16 s p then s
  else if 992 < bitsOf v 0 10 + bitsOf v 10 10 + bitsOf v 20 10 then s.set PORT.STAT.CFG_ERR 1 p
  else ((s.set PORT.TAGCFG.RSV_IO (bitsOf v 0 10) p).set PORT.TAGCFG.RSV_MEM (bitsOf v 10 10) p).set PORT.TAGCFG.RSV_CACHE (bitsOf v 20 10) p

/-- TAGCFG_WRITE (R70). -/
def execTagcfgWrite (p : PortId) (v : Word) (s : State) : Result := atReg PORT.TAGCFG.RSV_IO (fun s => .next (tagCfg p v.toNat s)) s

/-- UC_RECOVER (R323, R392): the answer to a decision of function 3. -/
def execUcRecover (d : Decide) (s : State) : Result := .next (answer 3 d (decide (d.obj < 64)) ucAct s)

/-- UC_KEEP (R323, R392). -/
def execUcKeep (d : Decide) (s : State) : Result := .next (answer 3 d (decide (d.obj < 64)) ucHold s)

/-- UC_RECOVER with NODEC (R323, R391): one FAILED LD, while its pool port is UP, its device matches, and no decision is held for the port; otherwise UNKNOWN. -/
def execUcRecoverNodec (via : Via) (ld : Nat) (s : State) : Result :=
  let p := s.get BIND.LD.POOL ld
  let ok := decide (ld < 4096) && s.on BIND.LD.VALID ld && s.get BIND.LD.STATE ld == 2 && isUp s p && samePool s p && (heldDec s 3 p).isNone
    && (look s.bind.failedFrom ld).isSome && placedOk s ld
  .next (if ok then recoverLd ld (mailbox via stAccepted s) else mailbox via stUnknown s)

end Sys2Proof.Machine
end

