-- ==== Sys2Proof/Machine/Sec.lean ====
section
/-! DEFINITION. Security: noise sources, the domain key, key rotation, IDE, the SPDM responder and the life cycle (R256 to R277, R285 to R288, R291, R394). -/

namespace Sys2Proof.Machine

/-- The master identity of the journal mirror's writes: the internal unit at crossbar port 79 (R82, R378). -/
def mirrorMid : BitVec 16 := 0x204F

/-- NOISE_SOURCE_FAIL (R258): the source restarts; after three failures in a row it is out of use, with a CE record, or a FATAL one when the other is out of use too. -/
def execNoiseSourceFail (src1 : Bool) (s : State) : Result :=
  let n := if src1 then s.sec.noise1 else s.sec.noise0
  let other := if src1 then s.sec.noise0 else s.sec.noise1
  let s1 := if src1 then { s with sec := { s.sec with noise1 := n + 1 } } else { s with sec := { s.sec with noise0 := n + 1 } }
  .next (if 3 ≤ n then s
    else if n < 2 then s1
    else if other < 3 then report (rec0 eSec kDrbg 0 (b2n src1)) s1
    else report (rec0 eSec kDrbg 2 (b2n src1)) (s1.set SEC.KSTAT.DRBG_OK 0))

/-- The DOE instance of a session (R275): 0 to 63 an upstream port, 64 the FM port, 2^16 + 256 · host + vPPB a vPPB bound to a device port. -/
def fmDoe : Nat := 64

def vppbDoe (host vppb : Nat) : Nat := 2 ^ 16 + 256 * host + vppb

/-- A DOE instance that the responder serves; after W3 and in END it answers nothing (R275, R287). -/
def doeServed (s : State) (doe : Nat) : Bool :=
  s.fuses.lc != 4 && !s.fuses.idBlown &&
    (doe == fmDoe || (doe < 64 && s.get PORT.CFG.ROLE doe == 1 && isUp s doe)
      || (2 ^ 16 ≤ doe && (let h := (doe - 2 ^ 16) / 256
                           isUp s h && (match btOf s h (doe % 256) with | some j => s.get BIND.BT.KIND j == 1 | none => false))))

/-- SPDM response codes: a request's code less 0x80, and ERROR with its code as data (PRESUMED, log entry on SPDM codes). -/
def spdmErr (doe code : Nat) (s : State) : State := s.emit (.spdm doe 0x7F [code])

def spdmBusy : Nat := 3
def spdmInvalid : Nat := 1
def spdmUnsupported : Nat := 7

/-- KEY_EXCHANGE (R277): a fifth session of a DOE instance is answered Busy. -/
def execKeyExchange (doe : Nat) (s : State) : Result :=
  .next (if !doeServed s doe then s
    else if 4 ≤ (s.sec.sessions.filter (fun q => q.2 == doe)).length then spdmErr doe spdmBusy s
    else
      let n := s.sec.nextSession
      { s with sec := { s.sec with nextSession := n + 1, sessions := put s.sec.sessions n doe } }.emit (.spdm doe 0x64 [n]))

/-- A session's keys are destroyed (R259). -/
def endSession (n : Nat) (s : State) : State := { s with sec := { s.sec with sessions := del s.sec.sessions n } }

/-- END_SESSION (R259). -/
def execEndSession (session : Nat) (s : State) : Result :=
  .next (match look s.sec.sessions session with
    | some doe => (endSession session s).emit (.spdm doe 0x6C [])
    | none => s)

/-- HEARTBEAT_TIMEOUT (R259). -/
def execHeartbeatTimeout (session : Nat) (s : State) : Result := .next (endSession session s)

/-- The VCS of a host as measurement block 6 takes it: its binding entries, the LD entries they name and each LD's GEN (R276). -/
def vcsWords (s : State) (host : Nat) : List Nat :=
  ((validBt s).filter (fun j => s.get BIND.BT.HOST j == host)).flatMap (fun j =>
    let n := s.get BIND.BT.TARGET j
    [j, s.word 128 (btFields ++ [BIND.BT.EPOCH]) j] ++
      (if s.get BIND.BT.KIND j = 0 then [n, s.word 128 (BIND.LD.STATE :: ldFields) n, s.get SEC.LDKEY.GEN n] else []))

def imageWords (i : Option Image) : List Nat :=
  match i with
  | some x => [x.keyHash.toNat, x.serial, x.secver, x.len] ++ x.regs.flatMap (fun q => [q.1, q.2.toNat])
  | none => []

/-- The firmware that runs: the slot that boot chose (R372). -/
def fwImage (s : State) : Option Image := if s.on BOOT.STAT.FWSLOT then s.boot.flash.fwB else s.boot.flash.fwA

/-- A measurement block (R276); none where the responder has no such block. -/
def measure (s : State) (doe index : Nat) : Option (List Nat) :=
  let hash (l : List Nat) : List Nat := [(Config.digest (index :: l)).toNat]
  match index with
  | 1 => some (hash [])
  | 2 => some (hash (imageWords (fwImage s)))
  | 3 => some (hash (imageWords s.boot.img))
  | 4 => some [s.get SEC.LCSTAT.STATE, s.fuses.sealGen, (match s.fuses.owner with | some h => h.toNat | none => 0)]
  | 5 => some [s.boot.nextSeq - 1]
  | 6 => if doe < 64 && s.on SEC.SPDMCFG.MEAS_VCS then some (hash (vcsWords s doe)) else none
  | 7 => some (hash ((List.range 1024).map (fun i => s.word 256 entFields i) ++ [s.get ACT.CFG.DEFAULT]) ++ [s.get ACT.COMMIT.EPOCH])
  | _ => none

/-- GET_MEASUREMENTS (R276): index 0 asks for the number of blocks and 255 for all of them (PRESUMED, log entry on SPDM codes). -/
def execGetMeasurements (doe : Nat) (index : Nat) (s : State) : Result :=
  let all := (List.range 8).filterMap (measure s doe)
  .next (if !doeServed s doe then s
    else if index = 0 then s.emit (.spdm doe 0x60 [all.length])
    else if index = 255 then s.emit (.spdm doe 0x60 all.flatten)
    else
      match measure s doe index with
      | some l => s.emit (.spdm doe 0x60 l)
      | none => spdmErr doe spdmInvalid s)

/-- Requests outside the capabilities of R275: PSK, CSR, SET_CERTIFICATE, and whatever the responder does not know. -/
def spdmKnown (code : Nat) : Bool := [0x81, 0x82, 0x83, 0x84, 0xE1, 0xE3, 0xE5, 0xE8, 0xE9].contains code

/-- Certificate slots that hold a chain, as a mask: slot 0 while the identity chain passes R257, slot 1 where the image holds an owner chain (R257, R275). -/
def certSlots (s : State) : Nat :=
  b2n s.boot.flash.chainOk + 2 * b2n (match s.boot.img with | some i => i.chain | none => false)

/-- SPDM_REQUEST (R275): any other request. GET_DIGESTS answers with the filled certificate slots. -/
def execSpdmRequest (doe : Nat) (code : Nat) (s : State) : Result :=
  .next (if !doeServed s doe then s
    else if code = 0x81 then s.emit (.spdm doe 0x01 [certSlots s])
    else if spdmKnown code then s.emit (.spdm doe (code - 0x80) [])
    else spdmErr doe spdmUnsupported s)

/-- DOMAIN_KEY_SET (R262): accepted only inside a secured session on the FM port, and journalled sealed. A key that the journal refuses is not installed (DESIGN CHOICE, log entry on journal refusals). -/
def execDomainKeySet (session : Nat) (key : BitVec 256) (s : State) : Result :=
  .next (if look s.sec.sessions session != some fmDoe then s
    else
      match request (.key []) [sealKey s .domain key.toNat 0] .none s with
      | (.taken, s) => (keySync { s with sec := { s.sec with domain := some key.toNat } }).emit (.spdm fmDoe 0x7E [])
      | (.full, s) => spdmErr fmDoe spdmInvalid s
      | (.power, s) => spdmErr fmDoe spdmInvalid s)

/-- The DOE instance whose session may program port p's link keys (R272). -/
def ideDoe (s : State) (p : Nat) : Nat :=
  if s.get PORT.CFG.ROLE p = 1 then p
  else if s.on PORT.CFG.POOL p then fmDoe
  else
    match (validBt s).find? (fun j => s.get BIND.BT.KIND j == 1 && s.get BIND.BT.TARGET j == p) with
    | some j => vppbDoe (s.get BIND.BT.HOST j) (s.get BIND.BT.VPPB j)
    | none => fmDoe

def ideEnt (cm : Bool) : Ent := if cm then SEC.IDE.CM_STATE else SEC.IDE.IO_STATE

/-- IDE_KM (R272): a key set of a port's stream is programmed in a session of the right requester; a stream that was OFF or INSECURE becomes KEYED. -/
def execIdeKm (p : PortId) (session : Nat) (cachemem : Bool) (kset : Bool) (key : Nat) (s : State) : Result :=
  .next (if look s.sec.sessions session != some (ideDoe s p) || !isUp s p then s
    else
      let s := { s with sec := { s.sec with linkKeys := put s.sec.linkKeys (p.val * 16 + 2 * b2n cachemem + b2n kset) key } }
      let st := s.get (ideEnt cachemem) p
      if st = 2 then s else s.set (ideEnt cachemem) 1 p)

/-- K_SET_GO (R271): the stream switches to a key set that is programmed, and is SECURE. -/
def execKSetGo (p : PortId) (cachemem : Bool) (kset : Bool) (s : State) : Result :=
  .next (if (look s.sec.linkKeys (p.val * 16 + 2 * b2n cachemem + b2n kset)).isSome && isUp s p then
      (s.set (ideEnt cachemem) 2 p).setB SEC.IDE.KSET kset p
    else s)

/-- IDE_CHECK_FAIL (R273, R323): the stream becomes INSECURE and the port takes the forced loss path, whose recovery is a decision. -/
def execIdeCheckFail (p : PortId) (cachemem : Bool) (s : State) : Result :=
  .next (if !isUp s p || s.get (ideEnt cachemem) p = 0 then s
    else
      let s := (s.set (ideEnt cachemem) 3 p).bump SEC.IDE.ERRCNT 1 p
      lose p .forced 0 true (report (rec0 eSec kIdeFail 1 p) (flag SEC.ESTAT.IDE_FAIL 13 s)))

/-- The size of an LD in bytes. -/
def ldBytes (s : State) (n : Nat) : Nat := s.get BIND.LD.SIZE n * mib256

/-- Where a slot's rescue area stands: LD and offset (R269). -/
def rescueAt (s : State) (r : Nat) : Nat × Nat := (s.get SEC.ROT.RRESCUE.RLD r, s.get SEC.ROT.RRESCUE.OFFSET r * 4096)

def rotResult (r v : Nat) (s : State) : State := s.set SEC.ROT.RSTAT.RESULT v r

/-- The causes of R266 that refuse ARM with RESULT STATE. -/
def armState (s : State) (r ld : Nat) : Bool :=
  let (rl, off) := rescueAt s r
  rotPhase s r != 0 || !s.on BIND.LD.VALID ld || s.get BIND.LD.STATE ld == 4 || (rotOf s ld).isSome
    || !s.on BIND.LD.VALID rl || s.get BIND.LD.STATE rl != 0 || rl == ld || ldBytes s rl < off + 68 * 1024

/-- A slot returns to IDLE before its rotation has begun; a decision held for it closes. -/
def rotIdle (r : Nat) (s : State) : State := setRotPhase r 0 (setRot r none (voidDec 6 r s))

/-- A write of RCTL (R266, R292): CANCEL acts on a slot that is ARMED, or HELD and not yet told to start. -/
def rctlWrite (r v : Nat) (s : State) : State :=
  let ld := bitsOf v 0 12
  let s := (s.set SEC.ROT.RCTL.LD ld r).set SEC.ROT.RCTL.RATE (bitsOf v 12 4) r
  let s := if bitOf v 17 && (match rotSt s r with | some x => x.key == 0 | none => false) then rotIdle r s else s
  if !bitOf v 16 then s
  else if armState s r ld then rotResult r 1 s
  else if (match s.dmv.erase with | some e => e.ld == ld | none => false) then rotResult r 2 s
  else setRotPhase r 1 (rotResult r 0 (setRot r (some ⟨ld, 0, 0, false, 0, none, false, false⟩) s))

/-- ROT_ARM (R266): a write of RCTL with ARM at 1. -/
def execRotArm (r : Fin 2) (v : Word) (s : State) : Result := atReg SEC.ROT.RCTL.ARM (fun s => .next (rctlWrite r v.toNat s)) s

/-- RCTL_CANCEL (R292): a write of RCTL with CANCEL at 1. -/
def execRctlCancel (r : Fin 2) (v : Word) (s : State) : Result := atReg SEC.ROT.RCTL.CANCEL (fun s => .next (rctlWrite r v.toNat s)) s

/-- ROT_GO (R267): the incoming key is generated and ROT_START journalled; REKEY begins when it is sealed. -/
def rotGo (r : Nat) (s : State) : State :=
  match rotSt s r with
  | none => s
  | some x =>
    if rotPhase s r != 2 || x.key != 0 then s
    else
      let (k, s) := newKey s
      let cells := [(0, s.get SEC.ROT.RCTL.RATE r), (1, s.get SEC.ROT.RRESCUE.RLD r), (2, s.get SEC.ROT.RRESCUE.OFFSET r)]
      match request (.rotStart r x.ld cells) [sealKey s (.rot r) k 0] (.rot r) s with
      | (.taken, s) => setRot r (some { x with key := k, paused := (migOf s x.ld).isSome }) s
      | (.full, s) => rotResult r 3 (rotIdle r s)
      | (.power, s) => rotResult r 3 (rotIdle r s)

/-- ROT_TIME_REACHED (R267): an ARMED slot reaches its decision point at RTIME. -/
def execRotTimeReached (r : Fin 2) (s : State) : Result :=
  .next (if rotPhase s r != 1 then s
    else
      let s := setRotPhase r 2 (s.reach (s.get SEC.ROT.RTIME.TIME r))
      let (held, s) := reachPoint 6 r s
      if held then s else rotGo r s)

/-- ROT_GO (R267, R392). -/
def execRotGo (d : Decide) (s : State) : Result := .next (answer 6 d (decide (d.obj < 2)) rotGo s)

/-- ROT_DEFER (R267, R392): back to ARMED with a new time. -/
def execRotDefer (d : Decide) (time : BitVec 64) (s : State) : Result :=
  .next (answer 6 d (decide (d.obj < 2)) (fun r s => setRotPhase r 1 (s.set SEC.ROT.RTIME.TIME time.toNat r)) s)

/-- ROT_CANCEL (R267, R392): IDLE with RESULT CANCELLED. -/
def execRotCancel (d : Decide) (s : State) : Result :=
  .next (answer 6 d (decide (d.obj < 2)) (fun r s => rotResult r 4 (rotIdle r s)) s)

/-- A request to a block of an LD is on its pool's link (R268, step 1). -/
def blockOpen (s : State) (ld b : Nat) : Bool :=
  (portSt s (poolPort s ld)).tags.any (fun e => match e.pkt with
    | some k => e.sent && k.toLd && k.ld == ld && b ≤ k.dpa && k.dpa < b + 65536
    | none => false)

/-- Pieces of at most eight lines that the device itself writes to an LD (R268): offset from `dpa`, lines and poison. -/
def copyOut (ld tc dpa gen : Nat) (ps : List (Nat × List Line × Bool)) (s : State) : State :=
  forL ps (fun q s =>
    let a := dpa + q.1
    let mid := 0x2000 + 78
    let rep := s.get ACT.COMMIT.EPOCH
    let bep := s.get BIND.STAT.EPOCH
    let (rid, s) := openReq ⟨78, 0, .memWr, tc, mid, rep, bep, 0, ld, a, true, false, s.ns, 1, 0, 0, 0, false⟩ s
    perf 274 0x12 q.2.1.length none (enqueue { pkt0 with op := .memWr, lst := 1, src := 78, orig := 78, tc := tc, dest := poolPort s ld, mid := mid, rid := rid, ld := ld, dpa := a, toLd := true,
                                                         addr := poolAddr s ld (poolHpa s mid ld a) a, gen := gen, data := q.2.1, poison := q.2.2, be := 2 ^ 64 - 1, payload := 64 * q.2.1.length,
                                                         ruleEp := rep, bindEp := bep } s)) s

/-- The rescue header (R269): the rotated LD, the sequence number of ROT_START, the block and its state in 32 bytes, and their CRC-32. The places of the fields are the model's (DESIGN CHOICE, log entry on rescue areas). -/
def rescueHeader (ld start b : Nat) (copied : Bool) : Line :=
  let v := ld + start * 2 ^ 64 + b * 2 ^ 128 + b2n copied * 2 ^ 192
  BitVec.ofNat 512 (v + crc32 ((List.range 32).map (fun i => bitsOf v (8 * i) 8)) * 2 ^ 256)

/-- RE_KEY (R212, R268, steps 1 and 2): the block at the cursor is read under the outgoing key, in pieces of eight lines. A block that the rescue header shows COPIED after a restart is read from the rescue data (R269). -/
def execReKey (r : Fin 2) (tc : TcId) (s : State) : Result :=
  .next (match rotSt s r with
    | none => s
    | some x =>
      let b := s.get SEC.ROT.RCURSOR.OFFSET r
      let (rl, off) := rescueAt s r
      if rotPhase s r != 3 || x.paused || x.copying.isSome || ldBytes s x.ld ≤ b || s.get BIND.LD.STATE x.ld = 2 || x.ckpt + 64 * 2 ^ 20 < b + 65536
          || blockOpen s x.ld b || dmvPaused s then s
      else if !pdOn s 9 then pdWake 9 s
      else
        let saved := look s.sec.rescue r == some (b, true, x.start)
        let ld := if saved then rl else x.ld
        let lo := if saved then off + 4096 else b
        let gen := if saved then s.get SEC.LDKEY.GEN rl else rotGen + 8
        let mid := 0x2000 + 78
        let rep := s.get ACT.COMMIT.EPOCH
        let bep := s.get BIND.STAT.EPOCH
        let s := setRot r (some { x with copying := some ⟨b, 1, saved, tc, [], []⟩ }) s
        forN 128 (fun i s =>
          let dpa := lo + 512 * i
          let (rid, s) := openReq ⟨78, 0, .memRd, tc, mid, rep, bep, 0, ld, dpa, true, false, s.ns, 1, 0, 0, 0, false⟩ s
          let s := setRot r ((rotSt s r).map (fun y => { y with copying := y.copying.map (fun c => { c with reads := put c.reads rid (512 * i) }) })) s
          enqueue { pkt0 with op := .memRd, lst := 0, src := 78, orig := 78, tc := tc, mid := mid, dest := poolPort s ld, rid := rid, ld := ld, dpa := dpa, toLd := true, len := 512,
                              addr := poolAddr s ld (poolHpa s mid ld dpa) dpa, gen := gen, ruleEp := rep, bindEp := bep } s) s)

/-- The device's own accesses to an LD have all completed. -/
def copiesDone (s : State) (ld : Nat) : Bool := s.frame.reqs.all (fun q => !(q.2.x == 78 && q.2.ld == ld && q.2.mid == 0x2000 + 78))

/-- The next step for the block of slot r begins once the step before it has completed (R268, steps 3 and 4): the rescue data, then the rescue header, then the block under the incoming key. -/
def rotAdvance (r : Nat) (s : State) : State :=
  match rotSt s r with
  | none => s
  | some x =>
    match x.copying with
    | none => s
    | some c =>
      let (rl, off) := rescueAt s r
      let g := s.get SEC.LDKEY.GEN rl
      let at_ (n : Nat) (s : State) : State := setRot r (some { x with copying := some { c with stage := n } }) s
      let block (s : State) : State := copyOut x.ld c.tc c.b (rotGen + r) c.got (at_ 4 s)
      if c.stage = 1 then
        if !c.reads.isEmpty then s else if c.rescued then block s else copyOut rl c.tc (off + 4096) g c.got (at_ 2 s)
      else if !copiesDone s rl then s
      else if c.stage = 2 then copyOut rl c.tc off g [(0, [rescueHeader x.ld x.start c.b true], false)] (at_ 3 s)
      else if c.stage = 3 then block { s with sec := { s.sec with rescue := put s.sec.rescue r (c.b, true, x.start) } }
      else s

/-- What the device asked for itself comes back (R268): lines of a block under rotation are kept, and the rotations go on. Lines that a lost pool answers end the block, which is taken again. -/
def rotRsp (p : Pkt) (s : State) : State :=
  let s := forN 2 (fun r s =>
    match rotSt s r with
    | none => s
    | some x =>
      match x.copying with
      | none => s
      | some c =>
        match look c.reads p.rid with
        | none => s
        | some o =>
          if p.op != .memData then s
          else if p.poison && (s.get BIND.LD.STATE x.ld == 2 || s.get BIND.LD.STATE (rescueAt s r).1 == 2) then setRot r (some { x with copying := none }) s
          else setRot r (some { x with copying := some { c with reads := del c.reads p.rid, got := c.got ++ [(o, p.data, p.poison)] } }) s) s
  rotAdvance 1 (rotAdvance 0 s)

/-- REKEY_BLOCK_DONE (R268, step 5): the cursor advances and the header is DONE; each 64 MiB is journalled, and at SIZE the ROT_DONE record is requested. -/
def execRekeyBlockDone (r : Fin 2) (s : State) : Result :=
  .next (match rotSt s r with
    | none => s
    | some x =>
      let finish (s : State) : State :=
        match request (.rotDone r) [] (.rot r) s with
        | (.taken, s) => setRot r ((rotSt s r).map (fun y => { y with finishing := true })) s
        | (.full, s) => rotResult r 3 s
        | (.power, s) => rotResult r 3 s
      match x.copying with
      | none => if rotPhase s r = 3 && !x.finishing && ldBytes s x.ld ≤ s.get SEC.ROT.RCURSOR.OFFSET r then finish s else s
      | some k =>
        let b := k.b
        if rotPhase s r != 3 || k.stage != 4 || !copiesDone s x.ld || !copiesDone s (rescueAt s r).1 then s
        else
          let c := b + 65536
          let s := (setRot r (some { x with copying := none }) s).set SEC.ROT.RCURSOR.OFFSET c r
          let s := { s with sec := { s.sec with rescue := put s.sec.rescue r (b, false, x.start) } }
          let (rl, off) := rescueAt s r
          let s := copyOut rl k.tc off (s.get SEC.LDKEY.GEN rl) [(0, [rescueHeader x.ld x.start b false], false)] s
          let s := if c % (64 * 2 ^ 20) = 0 && c < ldBytes s x.ld then (request (.rotCkpt r c) [] (.rot r) s).2 else s
          if ldBytes s x.ld ≤ c then finish s else s)

/-- A rotation record is sealed, or failed to seal (R267, R268). -/
def rotSealed (r : Nat) (b : JBody) (seq : Nat) (ok : Bool) (s : State) : State :=
  match rotSt s r with
  | none => s
  | some x =>
    match b with
    | .rotStart .. => if ok then rotEnter r (setRot r (some { x with start := seq }) s) else rotResult r 3 (rotIdle r s)
    | .rotCkpt _ c => if ok then setRot r (some { x with ckpt := c }) s else s
    | .rotDone _ =>
      if !x.finishing then s
      else if ok then setRotPhase r 4 (takeLdKey x.ld x.key (setRot r (some { x with finishing := false }) s))
      else rotResult r 3 (setRot r (some { x with finishing := false }) s)
    | _ => s

/-- Requests that may have been issued under the outgoing key are still on a pool link. -/
def oldKeyOpen (s : State) (ld : Nat) : Bool :=
  s.ports.any (fun q => q.2.tags.any (fun e => match e.pkt with
    | some k => e.sent && k.toLd && !k.mirror && k.ld == ld && k.gen < rotGen && k.gen != s.get SEC.LDKEY.GEN ld
    | none => false))

/-- ROT_DRAIN_DONE (R268): the outgoing key is destroyed and the slot is IDLE. -/
def execRotDrainDone (r : Fin 2) (s : State) : Result :=
  .next (match rotSt s r with
    | some x => if rotPhase s r = 4 && !x.migDone && !oldKeyOpen s x.ld then endRot r 0 s else s
    | none => s)

/-- LCSTAT and FUSESH show the fuses (R292); the governing state is what boot read. -/
def fuseWord (s : State) (w : Nat) : Nat :=
  let f := s.fuses
  if w < 12 then bitsOf ((f.owner.map (·.toNat)).getD 0) (32 * w) 32
  else if w < 24 then bitsOf f.fwHash.toNat (32 * (w - 12)) 32
  else if w = 24 ∨ w = 25 then bitsOf f.serial (32 * (w - 24)) 32
  else if w = 26 then f.lc + f.sealGen * 8
  else 0

def fuseSync (s : State) : State :=
  let s := (s.set SEC.LCSTAT.SEALGEN s.fuses.sealGen).setB SEC.LCSTAT.OWNER s.fuses.owner.isSome
  forN 27 (fun w s => s.set SEC.FUSESH.WORD (fuseWord s w) w) s

/-- A fuse programming failure raises a fatal record (R288, R394). -/
def fuseFail (s : State) : State := report (rec0 eSec kFuse 2 0) s

/-- W1 (R287): the key store is zeroised and SEALGEN increments, up to 15; the Tally, the ingress buffers, the rod stores and frozen functions are zeroised. -/
def wipe1 (s : State) : State :=
  let lds := s.sec.ldKeys.map (·.1)
  let s := forL lds dropLdKey s
  let s := { s with sec := { s.sec with domain := none, linkKeys := [], sessions := [], rot0 := none, rot1 := none },
                    fuses := { s.fuses with sealGen := min 15 (s.fuses.sealGen + 1), wipeOwed := none } }
  let s := forN 2 (fun r s => setRotPhase r 0 s) s
  let s := forN 2 (fun m s => match migSt s m with
    | some x => let s := if s.get BIND.LD.STATE x.ld = 4 then s.set BIND.LD.STATE x.prior x.ld else s
                setPhase m 0 (setMig m none s)
    | none => s) s
  let s := { s with homes := s.homes.map (fun h => (h.1, { h.2 with tally := [] })),
                    frame := { s.frame with voq := [], cross := [], parked := [], stalled := [] },
                    sum := { s.sum with wins := s.sum.wins.map (fun w => (w.1, { w.2 with rods := [] })) } }
  let s := forN 80 bufSync s
  let frozen := (s.dmv.fns.map (·.1)).filter (fun f => fnState s f == fFrozen)
  fuseSync (keySync (forL frozen clearFn s))

/-- W2 (R287): both journal halves are erased, and the descriptor is rewritten with JINIT at 0. -/
def wipe2 (s : State) : State :=
  let s := wipe1 s
  let f := s.boot.flash
  fillSync { s with boot := { s.boot with
    flash := { f with desc := f.desc.map (fun d => { d with jinit := false, dseq := d.dseq + 1 }), halfA := ⟨none, []⟩, halfB := ⟨none, []⟩ },
    queue := [], cur := none, unapplied := [] } }

/-- The wipe of a target state (R286, R287). W3 blows the remaining bits of the identity key and root secret. -/
def wipeFor (target : Nat) (s : State) : State :=
  match target with
  | 2 => wipe1 s
  | 3 => wipe2 s
  | 4 => { wipe2 s with fuses := { (wipe2 s).fuses with idBlown := true } }
  | _ => { s with fuses := { s.fuses with wipeOwed := none } }

/-- A transition that R286 allows; the answer is RESULT. -/
def lcCheck (s : State) (target : Nat) (token : Bool) : Nat :=
  match s.get SEC.LCSTAT.STATE, target with
  | 0, 1 => if token then 0 else 2
  | 1, 2 => if s.fuses.owner.isSome then 0 else 5
  | 2, 3 => if token then 0 else 2
  | 4, _ => 1
  | _, 4 => 0
  | _, _ => 1

/-- Every test feature ends (R450). -/
def tstOff (s : State) : State := { s with regs := s.regs.filter (fun r => !(8 * 0xA00000 ≤ r.1 && r.1 < 8 * 0xB00000)) }

/-- GO (R286, R288): every link is lost, the fuses are programmed, the wipe runs and the device is held until a COLD reset. -/
def lcGo (token fuseOk : Bool) (s : State) : State :=
  let target := s.get SEC.LCCTL.TARGET
  match s.sec.armed with
  | none => s.set SEC.LCCTL.RESULT 3
  | some t =>
    if t < s.ns then ({ s with sec := { s.sec with armed := none } }).set SEC.LCCTL.RESULT 3
    else
      let s := { s with sec := { s.sec with armed := none } }
      let r := if s.on SEC.LCSTAT.HELD then 1 else lcCheck s target token
      if r != 0 then s.set SEC.LCCTL.RESULT r
      else
        let s := tstOff (forN 64 (fun p s => lose p .forced 0 false s) s)
        let s := forN 8 (fun n s => linkFail n s) s
        if !fuseOk then fuseFail (s.set SEC.LCCTL.RESULT 4)
        else
          let s := { s with fuses := { s.fuses with lc := target, wipeOwed := some target } }
          (wipeFor target (s.set SEC.LCCTL.RESULT 0)).set SEC.LCSTAT.HELD 1

/-- A write of LCCTL (R286, R292): the debug access port's is discarded. ARM takes effect before GO (DEDUCED, log entry on LCCTL). -/
def lcWrite (m : Master) (v : Nat) (token fuseOk : Bool) (s : State) : State :=
  if m = .dap then s
  else
    let s := s.set SEC.LCCTL.TARGET (bitsOf v 0 3)
    let s := if bitOf v 3 then
        ({ s with sec := { s.sec with armed := some (s.ns + 1000000) } }.set SEC.LCNONCE.NONCE (s.freeNat 64)).spend
      else s
    if bitOf v 4 then lcGo token fuseOk s else s

/-- LC_ARM (R286): a write of LCCTL with ARM at 1. -/
def execLcArm (m : Master) (v : Word) (s : State) : Result := atReg SEC.LCCTL.ARM (fun s => .next (lcWrite m v.toNat false true s)) s

/-- LC_ARM_EXPIRY (R286): 1 ms passes without a GO. -/
def execLcArmExpiry (s : State) : Result :=
  .next (match s.sec.armed with
    | some t => { s.reach t with sec := { s.sec with armed := none } }
    | none => s)

/-- LC_GO (R288): a write of LCCTL with GO at 1; `token` says whether a valid token stands at LCADDR. -/
def execLcGo (m : Master) (v : Word) (token : Bool) (fuseOk : Bool) (s : State) : Result := atReg SEC.LCCTL.GO (fun s => .next (lcWrite m v.toNat token fuseOk s)) s

/-- OWNER_KEY_SET (R286, R394): once, in DEVELOP, through the FM port only. -/
def execOwnerKeySet (via : Via) (hash : BitVec 384) (fuseOk : Bool) (s : State) : Result :=
  .next (if via = .mctp ∨ s.get SEC.LCSTAT.STATE ≠ 1 ∨ s.fuses.owner.isSome then mailbox via 4 s
    else if !fuseOk then mailbox via 5 (fuseFail s)
    else mailbox via 0 (fuseSync { s with fuses := { s.fuses with owner := some hash } }))

end Sys2Proof.Machine
end

