-- ==== Sys2Proof/Machine/Write.lean ====
section
/-! DEFINITION. The journal engine: records written page by page and sealed, VOID records, compaction, and sealing on power failure (R375 to R382, R385, R454). -/

namespace Sys2Proof.Machine

/-- A record whose pages have all been programmed, with its checks passing (R379). -/
def complete (r : JRec) : Bool := r.programmed == r.pages && r.intact

/-- The valid records of a half by SEQ: of several with one SEQ the last counts (R379). -/
def validRecs (h : JHalf) : List (Nat × JRec) := h.recs.foldl (fun m r => if complete r then put m r.seq r else m) []

/-- The SEQs that VOID records name. -/
def voidSeqs (l : List (Nat × JRec)) : List Nat := l.filterMap (fun q => match q.2.body with | .void n => some n | _ => none)

/-- A policy submission ends (R383). -/
def policyEnd (result : Nat) (s : State) : State :=
  { (s.set BOOT.POLSTAT.BUSY 0).set BOOT.POLSTAT.RESULT result with boot := { s.boot with policies := [] } }

/-- The POLICY record is sealed: its values are written at once by the register writes that follow (R383). -/
def policySealed (ok : Bool) (s : State) : State :=
  if !s.on BOOT.POLSTAT.BUSY then s
  else if ok then (s.set BOOT.POLSTAT.BUSY 0).set BOOT.POLSTAT.RESULT 0
  else policyEnd 2 s

/-- A list in pieces of at most `n`. -/
def piecesOf {α : Type} (n : Nat) : Nat → List α → List (List α)
  | 0, _ => []
  | _ + 1, [] => []
  | k + 1, l => l.take n :: piecesOf n k (l.drop n)

/-- Indexes of one table that the journal of the active half names. -/
def namedIdx (s : State) (ld : Bool) : List Nat :=
  (activeHalf s).recs.flatMap (fun r => match r.body with
    | .bind es _ _ => (es.filter (fun e => e.isLd == ld)).map (·.index)
    | _ => [])

/-- The entries of the binding and LD tables, as staged entries: those that are valid, and those that a record has changed. -/
def tableEntries (s : State) : List StgEntry :=
  let bts := (namedIdx s false ++ validBt s).foldl (fun l n => insertNat n l) []
  let lds := (namedIdx s true ++ validLd s).foldl (fun l n => insertNat n l) []
  lds.map (fun n => ⟨true, n, s.word 128 ldFields n⟩) ++ bts.map (fun j => ⟨false, j, s.word 128 (btFields ++ [BIND.BT.EPOCH]) j⟩)

/-- The state as of the cut, as bodies and sealed keys (R380, step 3). Conversions and policies stand as the half's records hold them, and a sealed change that is not in force yet goes along. -/
def snapBodies (s : State) : List (JBody × List SealedKey) :=
  let old := (validRecs (activeHalf s)).map (·.2)
  let es := tableEntries s
  let keys := s.sec.ldKeys.map (fun q => sealKey s (.ld q.1) q.2 (s.get SEC.LDKEY.GEN q.1))
    ++ (match s.sec.domain with | some k => [sealKey s .domain k 0] | none => [])
  let regions := old.filterMap (fun r => match r.body with | .bind [] (some f) _ => if s.boot.unapplied.contains r.seq then none else some (JBody.bind [] (some f) none) | _ => none)
  let pols := old.foldl (fun m r => match r.body with | .policy ps => ps.foldl (fun m q => put m q.1 q.2) m | _ => m) []
  let migs := (List.range 2).flatMap (fun m => match migSt s m with
    | some x => [(JBody.migStart m x.ld x.dport x.dldid x.dbase (s.get BIND.MIG.MBM.BASE m), [sealKey s (.mig m) x.key 0]), (JBody.migCkpt m x.ckpt (s.get BIND.MIG.MSTAT.PASS m), [])]
    | none => [])
  let rots := (List.range 2).flatMap (fun r => match rotSt s r with
    | some x => if x.key = 0 then [] else
        [(JBody.rotStart r x.ld [(0, s.get SEC.ROT.RCTL.RATE r), (1, s.get SEC.ROT.RRESCUE.RLD r), (2, s.get SEC.ROT.RRESCUE.OFFSET r)], [sealKey s (.rot r) x.key 0]),
         (JBody.rotCkpt r x.ckpt, [])]
    | none => [])
  (piecesOf 2048 4 es).map (fun l => (JBody.bind l none none, []))
    ++ regions.map (fun b => (b, []))
    ++ (piecesOf 64 65 keys).map (fun l => (JBody.key [], l))
    ++ [(JBody.act (s.get ACT.CFG.DEFAULT) ((List.range 1024).map (fun i => (i, s.word 256 entFields i))), []),
        (JBody.spare (spareCells s), []), (JBody.policy pols, []), (JBody.ver (s.get BOOT.SECVER.SECVER), []),
        (JBody.wear (s.get BOOT.WEAR.ERASEA) (s.get BOOT.WEAR.ERASEB), [])]
    ++ migs ++ rots
    ++ (old.filter (fun r => s.boot.unapplied.contains r.seq)).map (fun r => (r.body, r.keys))

/-- A record of the new half. -/
def snapRec (seq : Nat) (b : JBody) (keys : List SealedKey) : JRec := ⟨seq, b, keys, recPages b keys, recPages b keys, true, true⟩

/-- BASE and the SNAP records that follow the cut C (R380). BASE declares the range up to C + 8,192. -/
def snapshotRecs (s : State) (c : Nat) : List JRec :=
  let bs := (JBody.base (c + 8192), []) :: snapBodies s
  ((List.range bs.length).zip bs).map (fun q => snapRec (c + 1 + q.1) q.2.1 q.2.2)

/-- Compaction goes on once its RESERVE record is sealed (R380, steps 2 and 3). -/
def cutDone (b : JBody) (seq : Nat) (ok : Bool) (s : State) : State :=
  match b with
  | .reserve _ _ =>
    if ok then { s.set BOOT.JSTAT.COMPACT 2 with boot := { s.boot with comp := some ⟨seq, snapshotRecs s seq⟩ } }
    else s.set BOOT.JSTAT.COMPACT 0
  | _ => s

/-- The block that waits on a record learns that it is sealed, or that it failed. -/
def jnlDone (who : JWait) (b : JBody) (seq : Nat) (ok : Bool) (s : State) : State :=
  match who with
  | .bind => bindSealed seq ok s
  | .act n => actSealed n ok s
  | .mig m => migSealed m b seq ok s
  | .rot r => rotSealed r b seq ok s
  | .rf => rfSealed ok s
  | .erase _ => eraseSealed ok s
  | .policy => policySealed ok s
  | .jnl => cutDone b seq ok s
  | .update => s
  | .none => s

/-- A sealed record whose change takes effect only later, or, while the journal is being sealed, was cancelled (R133, R143, R221, R382). -/
def changeWaits (s : State) (who : JWait) (b : JBody) : Bool :=
  match who with
  | .bind => true
  | .rf => true
  | .erase _ => true
  | .mig _ => match b with | .migCommit _ => true | _ => false
  | .rot _ => sealedOff s && (match b with | .rotCkpt .. => false | _ => true)
  | .policy => sealedOff s
  | .act _ => false
  | .jnl => false
  | .update => false
  | .none => false

/-- Line i of a record as it is stored, in 64 B: its header begins the first line, and what the spec gives no layout for is a free value (R376). -/
def recLine (gen : Nat) (r : JRec) (i : Nat) (s : State) : Line :=
  let w := s.freeNat 512
  if i = 0 then BitVec.ofNat 512 (w / 2 ^ 256 * 2 ^ 256 + leBytes (recHeader gen s.ns r)) else BitVec.ofNat 512 w

/-- One line of the mirror area is written through crossbar port 79 (R378). -/
def mirrorLine (ld dpa : Nat) (v : Line) (s : State) : State :=
  let (rid, s) := freshId s
  takeIn 79 rid ⟨.memWr, 0, BitVec.ofNat 64 (ld * 2 ^ 52 + dpa), .noOp, .mem, 0, mirrorMid, BitVec.ofNat 8 (s.get FRAME.XP.UNITEP.EPOCH 79), 64, [v], BitVec.ofNat 64 (2 ^ 64 - 1),
    false, false, false, 0, true, true, false⟩ none s

/-- A sealed record goes to the mirror area, page after page as a ring (R378). -/
def mirrorOut (ld base mib : Nat) (r : JRec) (s : State) : State :=
  let at_ := s.boot.mirrorAt
  let room := max 1 (mib * 4096)
  let gen := s.get BOOT.JSTAT.GEN
  let s := { s with boot := { s.boot with mirrorAt := (at_ + r.pages) % room } }
  forN (4 * r.pages) (fun i s => mirrorLine ld (base + (at_ + i / 4) % room * 256 + i % 4 * 64) (recLine gen r i s) s.spend) s

/-- The mirror takes a copy of the record, unless its LD is FAILED (R378). -/
def mirrorTake (r : JRec) (s : State) : State :=
  match s.boot.mirror with
  | none => s
  | some (ld, base, mib) =>
    if s.get BIND.LD.STATE ld = 2 then flag BOOT.ESTAT.MIRROR 17 s
    else
      let s := mirrorOut ld base mib r s
      let ring := s.boot.mirrorRing ++ [r]
      let rec fit : Nat → List JRec → List JRec
        | 0, l => l
        | k + 1, l => if mib * 4096 < (l.map (·.pages)).sum then fit k (l.drop 1) else l
      { s with boot := { s.boot with mirrorRing := fit ring.length ring } }

/-- A VOID record is written: ESTAT.VOID sets, and an event names the SEQ (R382). -/
def voidNote (b : JBody) (s : State) : State :=
  match b with
  | .void q => raise 17 3 q (s.set BOOT.ESTAT.VOID 1)
  | _ => s

/-- The record in work is sealed (R378, R382). -/
def sealRec (c : JCur) (s : State) : State :=
  let q := c.recd.seq
  let s := ({ s with boot := { s.boot with cur := none } }).set BOOT.JSEQ.SEQ q
  let s := if changeWaits s c.who c.recd.body then { s with boot := { s.boot with unapplied := insertNat q s.boot.unapplied } } else markApplied q s
  startNext (jnlDone c.who c.recd.body q true (voidNote c.recd.body (mirrorTake c.recd s)))

/-- The half with the record in work as far as it has been programmed. -/
def putRec (first : Bool) (r : JRec) (s : State) : State :=
  let h := activeHalf s
  fillSync (setActive { h with recs := if first then h.recs ++ [r] else h.recs.dropLast ++ [r] } s)

/-- The journal writes nothing further (R382, step 4): a record that is incomplete consumes no SEQ, and its change ends. -/
def stopJournal (s : State) : State :=
  let s := flag BOOT.ESTAT.SEAL 17 (s.set BOOT.STAT.SEALED 1)
  match s.boot.cur with
  | none => s
  | some c =>
    let s := { s with boot := { s.boot with cur := none } }
    let s := if c.second then { s with boot := { s.boot with unapplied := insertNat c.recd.seq s.boot.unapplied } }
      else { s with boot := { s.boot with nextSeq := c.recd.seq } }
    jnlDone c.who c.recd.body c.recd.seq false s

/-- The page in work is programmed (R378, R382, R454); the last one is followed by the read-back, or, while the journal is being sealed, seals the record. -/
def pageDone (s : State) : State :=
  match s.boot.cur with
    | none => s
    | some c =>
      if c.reading || s.on BOOT.STAT.SEALED then s
      else
        let r := { c.recd with programmed := c.recd.programmed + 1 }
        let c' := { c with recd := r, reading := r.programmed == r.pages }
        let s := putRec (c.recd.programmed == 0) r { s with boot := { s.boot with cur := some c' } }
        if !s.boot.pwrfail then s
        else if c'.reading then stopJournal (sealRec c' s)
        else if r.programmed + 1 = r.pages then s
        else stopJournal s

/-- A record's read-back has failed twice (R378): its change ends, and a VOID record names its SEQ. -/
def jnlFail (c : JCur) (s : State) : State :=
  let s := { s with boot := { s.boot with cur := none } }
  let s := report (rec0 eBoot kJournal 1 0) (flag BOOT.ESTAT.JWRITE 17 s)
  let s := note (.void c.recd.seq) [] s
  startNext (jnlDone c.who c.recd.body c.recd.seq false s)

/-- The read-back of the record in work (R378): it is sealed, or written again at the next erased page with the same SEQ, or void. What a page that reads back wrong holds is a free value. -/
def readBack (ok : Bool) (s : State) : State :=
  match s.boot.cur with
    | none => s
    | some c =>
      if !c.reading then s
      else if ok then sealRec c s
      else
        let s := (putRec false { c.recd with intact := s.freeNat 1 == 1 } s).spend
        if c.second then jnlFail c s
        else { s with boot := { s.boot with cur := some { c with recd := { c.recd with programmed := 0 }, second := true, reading := false } } }

/-- The threshold of a compaction in percent (R386). -/
def hiwat (s : State) : Nat := if 50 ≤ s.get BOOT.JCFG.HIWAT ∧ s.get BOOT.JCFG.HIWAT ≤ 94 then s.get BOOT.JCFG.HIWAT else 75

/-- An erase of half B (`b`) or A begins: 64 KiB blocks are erased one by one, and its count goes up (R380, R381). -/
def eraseBegin (b : Bool) (s : State) : State :=
  let s := { s with boot := { s.boot with halfBlank := false, eraseLeft := max 1 (s.boot.flash.halfPages / 256) } }
  let s := if b then s.bump BOOT.WEAR.ERASEB else s.bump BOOT.WEAR.ERASEA
  let n := s.get (if b then BOOT.WEAR.ERASEB else BOOT.WEAR.ERASEA)
  let endur := if s.get BOOT.JCFG2.ENDUR = 0 then 100000 else s.get BOOT.JCFG2.ENDUR
  if endur * 9 ≤ n * 10 then flag BOOT.ESTAT.WEAR 17 s else s

/-- The half that is not active. -/
def otherIsB (s : State) : Bool := s.get BOOT.STAT.JHALF == 0

/-- Step 2 of R380: the cut. -/
def cutAsk (s : State) : State :=
  match request (.reserve 0 0) [] .jnl s with
  | (.taken, s) => s.set BOOT.JSTAT.COMPACT 2
  | (.full, s) => s.set BOOT.JSTAT.COMPACT 0
  | (.power, s) => s

/-- Step 1 of R380: the other half is erased, if it is not. -/
def compactBegin (s : State) : State :=
  if s.get BOOT.JSTAT.COMPACT != 0 || sealedOff s || (activeHalf s).header.isNone then s
  else if s.boot.halfBlank then cutAsk s
  else eraseBegin (otherIsB s) (s.set BOOT.JSTAT.COMPACT 1)

/-- COMPACTION_START (R380): the active half has reached HIWAT at a compaction slot, or 95 % at any time. -/
def execCompactionStart (s : State) : Result :=
  .next (if hiwat s ≤ s.get BOOT.JSTAT.FILL then compactBegin s else s)

/-- COMPACT (R380): a write of BOOT.CTL with COMPACT at 1; ignored while a compaction runs (R385). -/
def compactWrite (v : Nat) (s : State) : State := if bitOf v 2 then compactBegin s else s

/-- BLOCK_ERASE_DONE (R380): a block of the half that is not active is erased; an erase is suspended while the journal is sealed (R382). -/
def execBlockEraseDone (s : State) : Result :=
  .next (if s.boot.eraseLeft = 0 ∨ sealedOff s then s
    else
      let n := s.boot.eraseLeft - 1
      let s := { s with boot := { s.boot with eraseLeft := n } }
      if n != 0 then s
      else
        let f := s.boot.flash
        let f := if otherIsB s then { f with halfB := ⟨none, []⟩ } else { f with halfA := ⟨none, []⟩ }
        let s := { s with boot := { s.boot with flash := f, halfBlank := true } }
        if s.get BOOT.JSTAT.COMPACT = 1 then cutAsk s else s.set BOOT.JSTAT.COMPACT 0)

/-- The number of the MIG_START or ROT_START of an open migration or rotation is now that of its SNAP record (DEDUCED, log entry on compaction). -/
def renumber (l : List JRec) (s : State) : State :=
  forL l (fun q s =>
    match q.body with
    | .migStart m .. => bmInit m q.seq (modMig m (fun x => { x with start := q.seq }) s)
    | .rotStart r .. =>
      let s := setRot r ((rotSt s r).map (fun x => { x with start := q.seq })) s
      { s with sec := { s.sec with rescue := match look s.sec.rescue r with | some (b, c, _) => put s.sec.rescue r (b, c, q.seq) | none => s.sec.rescue } }
    | _ => s) s

/-- COMPACTION_SWITCH (R380, steps 4 and 5): records sealed after the cut are copied, the new half's header is sealed, and the old half is erased in the background. It waits for the record in work and for changes whose record the snapshot carries (DEDUCED, log entry on compaction). -/
def execCompactionSwitch (s : State) : Result :=
  .next (match s.boot.comp with
    | none => s
    | some c =>
      if s.boot.cur.isSome || sealedOff s || s.get BOOT.JSTAT.COMPACT != 2 || s.boot.unapplied.any (fun q => q ≤ c.cut) then s
      else
        let old := activeHalf s
        let later := (validRecs old).filterMap (fun q => if c.cut < q.1 then some q.2 else none)
        let gen := match old.header with | some h => h.1 | none => 0
        let new : JHalf := ⟨some (gen + 1, c.cut + 1, s.fuses.serial), c.snap ++ later⟩
        let s := s.set BOOT.STAT.JHALF (1 - s.get BOOT.STAT.JHALF)
        let s := (setActive new { s with boot := { s.boot with comp := none } }).set BOOT.JSTAT.GEN (gen + 1)
        let s := eraseBegin (otherIsB s) (s.set BOOT.JSTAT.COMPACT 4)
        retryAborts (startNext (fillSync (renumber c.snap s))))

/-- Changes whose record is not sealed, or whose commit point is not reached, end when power fails: with RESULT POWER where the block defines it and JOURNAL elsewhere (R382). -/
def refuseAll (s : State) : State :=
  let q := s.boot.queue
  let s := if s.act.unsealed != 0 then { s with act := { s.act with unsealed := 0, failed := true } }.set ACT.COMMIT.RESULT 3 else s
  let s := { s with boot := { s.boot with queue := [] } }
  let s := if s.bind.change.isSome then dropChange 6 s else s
  let s := forN 2 (fun m s => match migSt s m with
    | some x => if migPhase s m = 4 then migAbort m (setMig m (some { x with sealed_ := false }) s) else s
    | none => s) s
  let s := forN 2 (fun r s => match rotSt s r with
    | some x =>
      if rotPhase s r = 2 && x.key != 0 then rotResult r 3 (rotIdle r s)
      else if x.finishing then rotResult r 3 (setRot r (some { x with finishing := false }) s)
      else s
    | none => s) s
  let s := match s.dmv.erase with
    | some e => if e.stage ≤ 1 then eraseBusy 0 ({ s with dmv := { s.dmv with erase := none } }.set DMV.ERASESTAT.RESULT 3) else s
    | none => s
  let s := dropConv s
  let s := if s.on BOOT.POLSTAT.BUSY then policyEnd 3 s else s
  forL (q.filter (fun x => match x.who with | .mig _ => true | .jnl => true | _ => false)) (fun x s => jnlDone x.who x.body 0 false s) s

/-- PWRFAIL_N, or the early warning in its place, is recognised (R342, R382): new requests are refused; a page in work completes, and a read-back is abandoned with its record sealed. -/
def pwrfail (early : Bool) (s : State) : State :=
  if s.boot.pwrfail then s
  else
    let s := raise 1154 0 (b2n early) s
    let s := refuseAll { s with boot := { s.boot with pwrfail := true } }
    match s.boot.cur with
    | some c => if c.reading then stopJournal (sealRec c s) else s
    | none => stopJournal s

/-- PWRFAIL (R382). -/
def execPwrfail (s : State) : Result := .next (pwrfail false s)

/-- What a released seal leaves to do (R382): VOID records for cancelled changes, aborts of migrations that could not be recorded, an interrupted compaction from its first step, an interrupted update. -/
def sealFree (s : State) : State :=
  let s := ({ s with boot := { s.boot with pwrfail := false } }).set BOOT.STAT.SEALED 0
  let dead := s.boot.unapplied
  let s := { s with boot := { s.boot with unapplied := [] } }
  let s := forL dead (fun q s => note (.void q) [] s) s
  let s := retryAborts s
  let s := if s.boot.update.isSome then ({ s with boot := { s.boot with update := none } }.set BOOT.UPDSTAT.BUSY 0).set BOOT.UPDSTAT.RESULT 6 else s
  if s.get BOOT.JSTAT.COMPACT = 1 || s.get BOOT.JSTAT.COMPACT = 2 then
    compactBegin ({ s with boot := { s.boot with comp := none, halfBlank := false } }.set BOOT.JSTAT.COMPACT 0)
  else s

end Sys2Proof.Machine
end

