-- ==== Sys2Proof/Machine/Slot.lean ====
section
/-! DEFINITION. Slot power: the controllers of the slot die and the 12 V input monitor (R294 to R314). -/

namespace Sys2Proof.Machine

/-- States of a slot (R296). -/
def slEmpty : Nat := 0
def slQualify : Nat := 1
def slInsert : Nat := 2
def slHeld : Nat := 3
def slReady : Nat := 4
def slInrush : Nat := 5
def slOn : Nat := 6
def slDischarge : Nat := 7
def slRetry : Nat := 8
def slLatched : Nat := 9
def slFetFail : Nat := 10

/-- The configuration that the SLOT registers hold. -/
def slotRegs (s : State) (n : Nat) : SlotCfg :=
  { mode := s.get SLOT.CFG.MODE n, portEn := s.on SLOT.CFG.PORT_EN n, port := s.get SLOT.CFG.PORT n, retryMax := s.get SLOT.CFG.RETRY_MAX n,
    rclr := s.get SLOT.CFG.RCLR n, fastx := s.get SLOT.CFG.FASTX n, ilim := s.get SLOT.ILIM.ILIM n, ilimIr := s.get SLOT.ILIM.ILIM_IR n,
    rsense := s.get SLOT.ILIM.RSENSE n, tflt := s.get SLOT.TFLT.TFLT n, tinrush := s.get SLOT.TFLT.TINRUSH n, tdeb := s.get SLOT.TSEQ.TDEB n,
    tinsert := s.get SLOT.TSEQ.TINSERT n, tremove := s.get SLOT.TSEQ.TREMOVE n, tretry := s.get SLOT.TRETRY.TRETRY n,
    tpgdly := s.get SLOT.TRETRY.TPGDLY n, vdspg := s.get SLOT.FETCHK.VDSPG n, vdsmax := s.get SLOT.FETCHK.VDSMAX n, emax := s.get SLOT.FETCHK.EMAX n }

/-- The reset values of the same fields. -/
def slotCfg0 : SlotCfg :=
  { mode := 0, portEn := false, port := 0, retryMax := 0, rclr := 0, fastx := 0, ilim := 0, ilimIr := 0, rsense := 0, tflt := 0, tinrush := 0,
    tdeb := 10, tinsert := 100, tremove := 200, tretry := 1000, tpgdly := 10, vdspg := 100, vdsmax := 100, emax := 0 }

/-- A slot after the power-on of the slot die (R310). -/
def slotNew (t seen : Nat) : SlotSt :=
  { t := t, seen := seen, cfg := slotCfg0, state := 0, entered := t, pg := false, pgAt := 0, warn := false, seated := false, timer := none, calm := none,
    retry := none, retries := 0, lastTrip := 0, qual := none, highs := 0, lossAt := 0, lost := false, insert := none, energy := none, degr := none,
    leakI := none, leakV := none, offAt := none, pass := none, next := 0, disch := false, wantOn := false, wantAt := false, wantOff := false, lockout := false }

def slotSt (s : State) (n : Nat) : SlotSt := lookD s.die.slots n (slotNew 0 0)

/-- A slot's working values, shown in STAT but for STATE. -/
def slotShow (n : Nat) (x : SlotSt) (s : State) : State :=
  let s := { s with die := { s.die with slots := put s.die.slots n x } }
  let s := (((s.setB SLOT.STAT.PG x.pg n).setB SLOT.STAT.WARN x.warn n).setB SLOT.STAT.SEATED x.seated n).setB SLOT.STAT.TIMER x.timer.isSome n
  ((s.setB SLOT.STAT.RETRY_RUN x.retry.isSome n).set SLOT.STAT.RETRIES x.retries n).set SLOT.STAT.LASTTRIP x.lastTrip n

/-- A slot takes new working values; a change of STATE is an event of source 192 + n. -/
def putSlot (n : Nat) (x : SlotSt) (s : State) : State := setState SLOT.STAT.STATE x.state (192 + n) (slotShow n x s) n

def modSlot (n : Nat) (f : SlotSt → SlotSt) (s : State) : State := putSlot n (f (slotSt s n)) s

/-- A flag of SLOTn.ESTAT. -/
def slotFlag (e : Ent) (n : Nat) (s : State) : State := flag e (192 + n) s n

/-- The gate of a slot is on, or ramping. -/
def gateOn (x : SlotSt) : Bool := x.state == slInrush || x.state == slOn

/-- The limit that applies, in 0.01 mV of V_SNS: ILIM_IR in INRUSH and ILIM in ON (R300). -/
def slotLimit (x : SlotSt) : Nat := 25 * (if x.state = slInrush then x.cfg.ilimIr else x.cfg.ilim)

/-- The bit of an error line in FLT.LINES: slots 0 to 31, then VIN, TEMP, RAIL and CLK. -/
def lineBits (s : State) : Nat :=
  s.get FLT.LINES.SLOT + s.get FLT.LINES.VIN * 2 ^ 32 + s.get FLT.LINES.TEMP * 2 ^ 33 + s.get FLT.LINES.RAIL * 2 ^ 34 + s.get FLT.LINES.CLK * 2 ^ 35

def lineEnBits (s : State) : Nat :=
  s.get FLT.LINEEN.SLOT + s.get FLT.LINEEN.VIN * 2 ^ 32 + s.get FLT.LINEEN.TEMP * 2 ^ 33 + s.get FLT.LINEEN.RAIL * 2 ^ 34 + s.get FLT.LINEEN.CLK * 2 ^ 35

/-- An asserting edge on an error line (R316, R325): it is latched, and with LINEEN.FLTN asserts FAULT_N. The answer says whether the collector builds a record. -/
def lineEdge (line : Nat) (s : State) : Bool × State :=
  if bitOf (lineBits s) line then (false, s)
  else
    let s := if line < 32 then s.set FLT.LINES.SLOT (s.get FLT.LINES.SLOT + 2 ^ line)
      else if line = 32 then s.set FLT.LINES.VIN 1 else if line = 33 then s.set FLT.LINES.TEMP 1
      else if line = 34 then s.set FLT.LINES.RAIL 1 else s.set FLT.LINES.CLK 1
    let s := if s.on FLT.LINEEN.FLTN then assertFaultN s else s
    (bitOf (lineEnBits s) line, s)

/-- The status word of a slot that the collector copies into a record's DETAIL (R316). -/
def slotWord (s : State) (n : Nat) : Nat :=
  s.word 32 [SLOT.ESTAT.TRIP_TIMER, SLOT.ESTAT.TRIP_FAST, SLOT.ESTAT.TRIP_ENERGY, SLOT.ESTAT.TRIP_INRUSH, SLOT.ESTAT.TRIP_FETDEG, SLOT.ESTAT.FET_SHORT,
    SLOT.ESTAT.DISCH_FAIL, SLOT.ESTAT.GLITCH, SLOT.ESTAT.LATCH, SLOT.ESTAT.INPUT, SLOT.ESTAT.CFG_ERR] n

/-- An error line asserts and, where its edge builds a record, the collector takes that record (R316). -/
def lineReport (line : Nat) (r : State → ErrRec) (s : State) : State :=
  let edge := lineEdge line s
  if edge.1 then collect (r edge.2) edge.2.ns edge.2 else edge.2

/-- The record of a slot's error line, read from its ESTAT (R316): FET_SHORT, else SLOT_LATCH while it is LATCHED, else SLOT_TRIP. -/
def slotRecord (n : Nat) (s : State) : ErrRec :=
  let st := (slotSt s n).state
  let r := if st = slFetFail then rec0 (eSlot + n) kFetShort 1 n else if st = slLatched then rec0 (eSlot + n) kSlotLatch 1 n else rec0 (eSlot + n) kSlotTrip 0 n
  { r with detail := slotWord s n }

/-- A slot's error line asserts (R316). -/
def slotLine (n : Nat) (s : State) : State :=
  lineReport n (slotRecord n) s

/-- The board's power is gone: the port that the slot feeds sees a surprise loss (R309). -/
def boardLost (x : SlotSt) (s : State) : State := if x.cfg.portEn then lose x.cfg.port .surprise 0 false s else s

/-- The gate is switched off (R302, R304, R308): power good, the warning and the fault timer go, and the slot discharges before `next`. -/
def gateOff (x : SlotSt) (next : Nat) : SlotSt :=
  { x with state := slDischarge, entered := x.t, pg := false, warn := false, timer := none, calm := none, energy := none, degr := none, leakI := none,
           leakV := none, offAt := some x.t, next := next, disch := true, wantOn := false, wantAt := false, wantOff := false }

/-- The flag of a trip and its code in LASTTRIP (R314). -/
def tripFlag (kind : Nat) : Ent :=
  match kind with
  | 1 => SLOT.ESTAT.TRIP_TIMER
  | 2 => SLOT.ESTAT.TRIP_FAST
  | 3 => SLOT.ESTAT.TRIP_ENERGY
  | 4 => SLOT.ESTAT.TRIP_INRUSH
  | 5 => SLOT.ESTAT.TRIP_FETDEG
  | _ => SLOT.ESTAT.INPUT

/-- A trip of a slot whose gate is on (R302): it is counted, discharge and the retry timer start, and a retry is counted or the slot will latch. -/
def slotTrip (n kind : Nat) (s : State) : State :=
  let x := slotSt s n
  if !gateOn x then s
  else
    let s := slotFlag (tripFlag kind) n (s.bump SLOT.COUNTS.TRIPCNT 1 n)
    let latch := x.retries = x.cfg.retryMax && x.cfg.retryMax != 15
    let x := { gateOff x (if latch then slLatched else slRetry) with
      lastTrip := kind, retry := some (x.t + x.cfg.tretry * 1000), retries := if latch then x.retries else min 15 (x.retries + 1) }
    slotLine n (boardLost x (putSlot n x s))

/-- A trip of kind INPUT is handled as a command off (R310). -/
def inputTrip (n : Nat) (s : State) : State :=
  let x := slotSt s n
  if !gateOn x then s
  else
    let s := slotFlag SLOT.ESTAT.INPUT n (s.bump SLOT.COUNTS.TRIPCNT 1 n)
    let x := { gateOff x slReady with lastTrip := 6, lockout := true }
    slotLine n (boardLost x (putSlot n x s))

/-- INRUSH begins (R300, R306). -/
def enterInrush (n : Nat) (s : State) : State :=
  modSlot n (fun x => { x with state := slInrush, entered := x.t, energy := some 0, disch := false, offAt := none, insert := none, wantOn := false, wantAt := false }) s

/-- The hardware-mode action of function 1 and SLOT_GO: a slot in HELD enters INRUSH. -/
def slotGo (n : Nat) (s : State) : State := if (slotSt s n).state = slHeld then enterInrush n s else s

/-- The decision point of R298 for a slot in MODE AUTO; until boot has completed it waits in HELD. -/
def slotDecide (n : Nat) (s : State) : State :=
  let hold (s : State) : State := modSlot n (fun x => { x with state := slHeld, entered := x.t, insert := none }) s
  if !s.running then hold s
  else
    let (held, s) := reachPoint 1 n s
    if held then hold s else enterInrush n s

/-- The insertion delay has run (R298). -/
def insertDone (n : Nat) (s : State) : State :=
  let x := slotSt s n
  if x.state != slInsert then s
  else if x.cfg.mode = 2 then slotDecide n s
  else putSlot n { x with state := slReady, entered := x.t, insert := none } s

/-- A retry falls due (R298, R302): it waits in RETRY_WAIT until boot has completed. -/
def retryGo (n : Nat) (s : State) : State :=
  let x := slotSt s n
  if x.state != slRetry || x.retry.isSome || !s.running then s
  else if x.cfg.mode = 2 then slotDecide n s
  else enterInrush n s

/-- The retry timer ends (R302, R305): a slot in RETRY_WAIT retries, and an insertion delay that waited for it begins. -/
def retryEnd (n : Nat) (s : State) : State :=
  let x := slotSt s n
  let x := { x with retry := none, insert := if x.state = slInsert && x.insert.isNone then some x.t else x.insert }
  retryGo n (putSlot n x s)

/-- DISCHARGE is over, and the slot takes its next state (R308). -/
def dischargeEnd (n : Nat) (s : State) : State :=
  let x := slotSt s n
  if x.state != slDischarge then s
  else
    let s := putSlot n { x with state := x.next, entered := x.t, disch := false } s
    if x.next = slLatched then slotLine n (slotFlag SLOT.ESTAT.LATCH n s) else retryGo n s

/-- The fault timer has run for TFLT (R301). -/
def timerOver (x : SlotSt) : Bool :=
  match x.timer with
  | some a => decide (a + x.cfg.tflt ≤ x.t)
  | none => false

/-- The gate is switched off by a command or a seating loss: a fault timer that has expired in the same tick is recorded and counted as a trip, and the off governs (R313). -/
def offNow (n next : Nat) (x : SlotSt) (s : State) : State :=
  if timerOver x then slotLine n (putSlot n { gateOff x next with lastTrip := 1 } (slotFlag SLOT.ESTAT.TRIP_TIMER n (s.bump SLOT.COUNTS.TRIPCNT 1 n)))
  else putSlot n (gateOff x next) s

/-- Seating is lost (R296, R299, R313): the gate is switched off, and otherwise the slot is EMPTY; FET_FAIL stays. -/
def seatLoss (n : Nat) (s : State) : State :=
  let x := { slotSt s n with lost := true, qual := none, insert := none, seated := false }
  let s := voidDec 1 n s
  if x.state = slFetFail then putSlot n x s
  else if gateOn x then boardLost x (offNow n slEmpty x s)
  else putSlot n { x with state := slEmpty, entered := x.t, wantOn := false, wantAt := false, disch := false } s

/-- Both seating pins read seated (R296, R299): a loss is judged by its length, and an EMPTY slot qualifies. -/
def seatOn (n : Nat) (s : State) : State :=
  let x := slotSt s n
  let len := x.t - x.lossAt
  let y := { x with seated := true, highs := 0, lost := false }
  let s := if !x.lost then putSlot n y s
    else if x.cfg.tremove * 1000 ≤ len then raise (192 + n) 0 0 (putSlot n { y with retries := 0 } s)
    else slotFlag SLOT.ESTAT.GLITCH n ((putSlot n y s).bump SLOT.COUNTS.GLITCHCNT 1 n)
  modSlot n (fun x => if x.state = slEmpty then { x with state := slQualify, entered := x.t, qual := none } else x) s

/-- Qualification ends (R297, R298): the insertion delay begins, or waits for the retry timer. While MODE is DISABLED the slot goes no further (R296). -/
def qualified (n : Nat) (s : State) : State :=
  let x := slotSt s n
  if x.state != slQualify || x.cfg.mode = 0 || x.cfg.mode = 3 then s
  else putSlot n { x with state := slInsert, entered := x.t, qual := none, insert := if x.retry.isSome then none else some x.t } s

/-- A command off takes effect (R309, R313). -/
def slotOff (n : Nat) (s : State) : State :=
  let x := { slotSt s n with wantOff := false, wantOn := false, wantAt := false }
  if x.state = slFetFail then putSlot n x s
  else
    let s := voidDec 1 n s
    if gateOn x then offNow n slReady x s
    else if x.state = slDischarge then putSlot n { x with next := slReady } s
    else putSlot n { x with state := slReady, entered := x.t, qual := none, insert := none } s

/-- The slot's port has left UP, with its flush over (R309). -/
def portClear (s : State) (x : SlotSt) : Bool := !x.cfg.portEn || (pstate s x.cfg.port != 3 && pstate s x.cfg.port != 4)

/-- CTL.OFF: a slot that feeds a port switches its gate off only after the port's orderly loss (R309). -/
def slotOffCmd (n : Nat) (s : State) : State :=
  let x := slotSt s n
  if gateOn x && !portClear s x then
    let s := putSlot n { x with wantOff := true } s
    lose x.cfg.port .orderly 0 false s
  else slotOff n s

/-- A code of SLOTV.THR0 and THR1 in units of 5 mV (R314). -/
def thrOf (code : Nat) : Nat := 1600 + 5 * code

/-- VIN is in the qualification window (R297). -/
def inWindow (s : State) (vin : Nat) : Bool := thrOf (s.get SLOTV.THR0.QLO) ≤ vin && vin ≤ thrOf (s.get SLOTV.THR0.QHI)

/-- The input monitor shows VIN, and keeps the readings that the fall rate needs. -/
def vinTake (vin : Nat) (s : State) : State :=
  let s := (s.set SLOTV.STAT.VIN vin).setB SLOTV.STAT.INWIN (inWindow s vin)
  let u := s.ns / 1000
  { s with die := { s.die with vins := ((u, vin) :: s.die.vins.filter (fun q => q.1 != u)).take 5 } }

/-- VIN falls faster than FALLRATE over 4 consecutive ticks (R310). -/
def fallsFast (s : State) (vin : Nat) : Bool :=
  let f := s.get SLOTV.CFG.FALLRATE
  let u := s.ns / 1000
  f != 0 && (match s.die.vins.find? (fun q => q.1 + 4 == u) with
    | some q => f * 4 < (q.2 - vin) * 50
    | none => false)

/-- The early warning asserts (R310): an event, the monitor's error line, and with PF_EN the sealing of the journal. -/
def vinWarn (s : State) : State :=
  if s.on SLOTV.STAT.WARN then s
  else
    let s := flag SLOTV.ESTAT.WARN_EV 21 (s.set SLOTV.STAT.WARN 1)
    let s := lineReport 32 (fun _ => rec0 eMon kVinWarn 0 0) s
    if s.on SLOTV.CFG.PF_EN then pwrfail true s else s

/-- A lockout (R310): every gate goes off, and each slot that is on records a trip of kind INPUT. While it lasts no gate stays on. -/
def vinLock (ov : Bool) (s : State) : State :=
  if s.on (if ov then SLOTV.STAT.OV else SLOTV.STAT.UVLO) then forN 32 inputTrip s
  else
    let s := if ov then flag SLOTV.ESTAT.OV_EV 21 (s.set SLOTV.STAT.OV 1) else flag SLOTV.ESTAT.UVLO_EV 21 (s.set SLOTV.STAT.UVLO 1)
    let s := lineReport 32 (fun _ => rec0 eMon kVinLockout 1 0) s
    forN 32 inputTrip s

/-- What one reading of VIN shows: warning and lockouts assert and clear (R310). -/
def vinSample (vin : Nat) (s : State) : State :=
  let s := vinTake vin s
  let warn := vin < thrOf (s.get SLOTV.THR0.WARN) || fallsFast s vin
  let s := if warn then vinWarn s else s.set SLOTV.STAT.WARN 0
  let s := if vin < thrOf (s.get SLOTV.THR1.UVLO) then vinLock false s else s.set SLOTV.STAT.UVLO 0
  if thrOf (s.get SLOTV.THR0.OV) < vin then vinLock true s else s.set SLOTV.STAT.OV 0

/-- Step 1 of a tick: the seating pins (R295, R299). A slot that has never been seated has nothing to lose. -/
def tickSeat (n : Nat) (m : SlotSample) (s : State) : State :=
  let x := slotSt s n
  if m.seatAHigh || m.seatBHigh then
    let x := { x with seated := false, qual := none, highs := x.highs + 1, lossAt := if x.highs = 0 && !x.lost then x.t else x.lossAt }
    let s := putSlot n x s
    if x.highs = 3 && !x.lost && x.state != slEmpty then seatLoss n s else s
  else seatOn n s

/-- Step 2: commands that wait. OFF waits for its port, ON and ON_AT for their tick (R298, R309). ON in a lockout is ignored (R313). -/
def tickCmd (n : Nat) (s : State) : State :=
  let x := slotSt s n
  if x.wantOff then (if portClear s x then slotOff n s else s)
  else if s.on SLOTV.STAT.UVLO || s.on SLOTV.STAT.OV then (if x.wantOn then putSlot n { x with wantOn := false } s else s)
  else if x.state = slReady && (x.wantOn || (x.wantAt && s.get SLOT.ONAT.TIME n ≤ s.ns)) then enterInrush n s
  else if x.wantOn then putSlot n { x with wantOn := false } s
  else s

/-- The fault timer starts, stops or goes on (R301, R304); an episode of energy begins with it in ON (R306). -/
def tickTimer (n : Nat) (m : SlotSample) (s : State) : State :=
  let x := slotSt s n
  if !gateOn x then s
  else if x.timer.isNone && slotLimit x ≤ m.vsns then
    putSlot n { x with timer := some x.t, calm := none, warn := x.pg, energy := if x.state = slOn && x.energy.isNone then some 0 else x.energy } s
  else if x.timer.isSome && m.vsns * 10 < slotLimit x * 9 then putSlot n { x with timer := none, calm := some x.t } s
  else if x.timer.isNone && slotLimit x * 9 ≤ m.vsns * 10 && x.calm.isSome then putSlot n { x with calm := some (x.t + 1) } s
  else s

/-- The energy of an episode in mJ (R306). -/
def energyMj (x : SlotSt) (e : Nat) : Nat := e / (max 1 x.cfg.rsense * 10000000)

/-- Step 4: energy and the FET checks (R306, R307). -/
def tickEnergy (n : Nat) (m : SlotSample) (s : State) : State :=
  let x := slotSt s n
  let e := x.energy.map (· + m.vds * m.vsns)
  let since (c : Bool) (o : Option Nat) : Option Nat := if c then some (o.getD x.t) else none
  let off := !gateOn x
  let i := off && 100 < m.vsns
  let v := off && x.state != slDischarge && 400 < m.vout
  let x := { x with energy := e, degr := since (x.state = slOn && x.timer.isNone && x.cfg.vdsmax * 2 < m.vds) x.degr,
                    leakI := since i x.leakI, leakV := since v x.leakV, pass := since (off && !i && !v) x.pass,
                    offAt := if m.vsns * 10 < 25 * x.cfg.ilim then none else x.offAt }
  let s := putSlot n x s
  match e with
  | none => s
  | some k =>
    let mj := min 0xFFFF (energyMj x k)
    (s.set SLOT.EACC.ELAST mj n).set SLOT.EACC.EMAXSEEN (max mj (s.get SLOT.EACC.EMAXSEEN n)) n

/-- A shorted FET (R307). -/
def fetFail (n : Nat) (s : State) : State :=
  let x := slotSt s n
  if gateOn x || x.state = slFetFail then s
  else
    let s := voidDec 1 n s
    let s := putSlot n { x with state := slFetFail, entered := x.t, disch := false, offAt := none, pass := none, insert := none, qual := none } s
    slotLine n (slotFlag SLOT.ESTAT.FET_SHORT n s)

/-- How long a condition has held, in ticks, this one included. -/
def heldFor (x : SlotSt) (o : Option Nat) : Nat := match o with | some a => x.t - a + 1 | none => 0

/-- The energy of the running episode exceeds EMAX (R306). -/
def energyOver (x : SlotSt) : Bool :=
  match x.energy with
  | some e => decide (x.cfg.emax * max 1 x.cfg.rsense * 10000000 < e)
  | none => false

/-- The trip that a tick finds, if any (R295, step 5; R313). -/
def tripKind (x : SlotSt) (m : SlotSample) : Nat :=
  let fx := nthD [3, 4, 6, 8] x.cfg.fastx 3
  if !gateOn x then 0
  else if slotLimit x * fx < m.vsns * 2 then 2
  else if timerOver x then 1
  else if energyOver x then 3
  else if x.state = slInrush && x.entered + x.cfg.tinrush * 1000 ≤ x.t && !(m.vds ≤ x.cfg.vdspg && m.gateUp) then 4
  else if 100 ≤ heldFor x x.degr then 5
  else 0

/-- Step 5: trips first, then the other transitions. -/
def tickMove (n : Nat) (m : SlotSample) (s : State) : State :=
  let x := slotSt s n
  let k := tripKind x m
  if k != 0 then
    slotTrip n k (if k = 1 && energyOver x then slotFlag SLOT.ESTAT.TRIP_ENERGY n s else s)
  else if 1000 ≤ heldFor x x.leakI || 1000 ≤ heldFor x x.leakV || 20 < heldFor x x.offAt then fetFail n s
  else if x.state = slQualify then
    if x.seated && s.on SLOTV.STAT.INWIN then
      let a := x.qual.getD x.t
      let s := putSlot n { x with qual := some a, lockout := false } s
      if a + x.cfg.tdeb * 1000 ≤ x.t then qualified n s else s
    else putSlot n { x with qual := none } s
  else if x.state = slInsert then
    match x.insert with
    | some a => if a + x.cfg.tinsert * 1000 ≤ x.t then insertDone n s else s
    | none => s
  else if x.state = slInrush then
    if m.vds ≤ x.cfg.vdspg && m.gateUp then putSlot n { x with state := slOn, entered := x.t, energy := if x.timer.isSome then x.energy else none } s else s
  else if x.state = slDischarge then
    if m.vout < 200 then dischargeEnd n s
    else if x.entered + 500000 ≤ x.t then dischargeEnd n (slotFlag SLOT.ESTAT.DISCH_FAIL n s)
    else s
  else if x.state = slReady && x.lockout && s.on SLOTV.STAT.INWIN then
    putSlot n { x with state := if x.seated then slQualify else slEmpty, entered := x.t, qual := none, lockout := false } s
  else retryGo n s

/-- The retry timer runs to its end whatever happens to seating (R305). -/
def tickRetry (n : Nat) (s : State) : State :=
  let x := slotSt s n
  match x.retry with
  | some e => if e ≤ x.t then retryEnd n s else s
  | none => s

/-- SLOT_PG_n asserts once the slot has been ON for the delay and no fault timer runs (R304). -/
def pgOn (n : Nat) (s : State) : State :=
  modSlot n (fun x => if x.state = slOn && !x.pg && x.timer.isNone then { x with pg := true, pgAt := x.t } else x) s

/-- SLOT_WARN_n clears after 100 ticks of normal current (R304), and the episode of energy ends (R306). -/
def warnOff (n : Nat) (s : State) : State :=
  modSlot n (fun x => if x.timer.isNone && x.state = slOn then { x with warn := false, calm := none, energy := none } else x) s

/-- RETRIES clears after RCLR s of power good (R302). -/
def retriesZero (n : Nat) (s : State) : State :=
  modSlot n (fun x => if x.pg && x.cfg.rclr != 0 then { x with retries := 0 } else x) s

/-- Step 6: the outputs. -/
def tickOut (n : Nat) (s : State) : State :=
  let x := slotSt s n
  let s := if x.state = slOn && x.entered + x.cfg.tpgdly * 100 ≤ x.t then pgOn n s else s
  let s := match x.calm with | some a => if a + 100 ≤ x.t then warnOff n s else s | none => s
  let x := slotSt s n
  if x.pg && x.pgAt + x.cfg.rclr * 1000000 ≤ x.t then retriesZero n s else s

/-- The next tick of a slot: one microsecond after its last, or as many later as fabric time has moved (R295). -/
def nextTick (n : Nat) (s : State) : State :=
  let x := slotSt s n
  let u := s.ns / 1000
  let d := max 1 (u - x.seen)
  (putSlot n { x with t := x.t + d, seen := x.seen + d } s).reach ((x.seen + d) * 1000)

/-- SLOT_TICK (R295). -/
def execSlotTick (n : SlotId) (m : SlotSample) (s : State) : Result :=
  .next (let s := vinSample m.vin (nextTick n s)
    let s := (s.set SLOT.MEAS.VOUT m.vout n).set SLOT.MEAS.VSNS m.vsns n
    let s := tickCmd n (tickSeat n m s)
    let s := tickEnergy n m (tickTimer n m s)
    tickOut n (tickRetry n (tickMove n m s)))

/-- A moment that a command asserts has come at a slot: its tick count is at least `t`. -/
def atTick (n t : Nat) (s : State) : State := modSlot n (fun x => { x with t := max x.t t }) s

/-- SEATING_DETECTED (R296). -/
def execSeatingDetected (n : SlotId) (s : State) : Result := .next (seatOn n s)

/-- QUALIFY_COMPLETE (R297): the conditions have held for TDEB ms. -/
def execQualifyComplete (n : SlotId) (s : State) : Result :=
  .next (let x := slotSt s n
    if x.state = slQualify && x.seated then qualified n (atTick n (x.qual.getD x.entered + x.cfg.tdeb * 1000) s) else s)

/-- INSERTION_DELAY_END (R298). -/
def execInsertionDelayEnd (n : SlotId) (s : State) : Result :=
  .next (let x := slotSt s n
    match x.insert with
    | some a => if x.state = slInsert then insertDone n (atTick n (a + x.cfg.tinsert * 1000) s) else s
    | none => s)

/-- SEATING_LOST (R299): the third high tick in a row. -/
def execSeatingLost (n : SlotId) (s : State) : Result :=
  .next (let x := slotSt s n
    if x.lost || x.state = slEmpty then s
    else
      let first := if x.highs = 0 then x.t + 1 else x.lossAt
      seatLoss n (modSlot n (fun x => { x with highs := 3, lossAt := first, t := max x.t (first + 2) }) s))

/-- INRUSH_TIMEOUT (R300). -/
def execInrushTimeout (n : SlotId) (s : State) : Result :=
  .next (let x := slotSt s n
    if x.state = slInrush then slotTrip n 4 (atTick n (x.entered + x.cfg.tinrush * 1000) s) else s)

/-- FAULT_TIMER_EXPIRY (R301). -/
def execFaultTimerExpiry (n : SlotId) (s : State) : Result :=
  .next (let x := slotSt s n
    match x.timer with
    | some a => slotTrip n 1 (atTick n (a + x.cfg.tflt) s)
    | none => s)

/-- FAST_TRIP (R303). -/
def execFastTrip (n : SlotId) (s : State) : Result := .next (slotTrip n 2 s)

/-- RETRY_TIMER_END (R302). -/
def execRetryTimerEnd (n : SlotId) (s : State) : Result :=
  .next (match (slotSt s n).retry with
    | some e => retryEnd n (atTick n e s)
    | none => s)

/-- PG_DELAY_END (R304). -/
def execPgDelayEnd (n : SlotId) (s : State) : Result :=
  .next (let x := slotSt s n
    if x.state = slOn then pgOn n (atTick n (x.entered + x.cfg.tpgdly * 100) s) else s)

/-- WARN_CLEAR (R304). -/
def execWarnClear (n : SlotId) (s : State) : Result :=
  .next (match (slotSt s n).calm with
    | some a => warnOff n (atTick n (a + 100) s)
    | none => s)

/-- RETRIES_CLEAR (R302). -/
def execRetriesClear (n : SlotId) (s : State) : Result :=
  .next (let x := slotSt s n
    if x.pg && x.cfg.rclr != 0 then retriesZero n (atTick n (x.pgAt + x.cfg.rclr * 1000000) s) else s)

/-- ENERGY_LIMIT (R306). -/
def execEnergyLimit (n : SlotId) (s : State) : Result :=
  .next (if (slotSt s n).energy.isSome then slotTrip n 3 s else s)

/-- FET_DEGRADED (R307). -/
def execFetDegraded (n : SlotId) (s : State) : Result :=
  .next (let x := slotSt s n
    if x.state = slOn && x.timer.isNone then slotTrip n 5 s else s)

/-- FET_SHORT (R307). -/
def execFetShort (n : SlotId) (s : State) : Result := .next (fetFail n s)

/-- DISCHARGE_TIMEOUT (R308). -/
def execDischargeTimeout (n : SlotId) (s : State) : Result :=
  .next (let x := slotSt s n
    if x.state = slDischarge then dischargeEnd n (slotFlag SLOT.ESTAT.DISCH_FAIL n (atTick n (x.entered + 500000) s)) else s)

/-- The values of SLOTn.CFG to FETCHK fail a check of R306. -/
def applyBad (s : State) (c : SlotCfg) (slew : Nat) : Bool :=
  let vov := 8000 + 25 * s.get SLOTV.THR0.OV
  c.rsense < 5 || c.ilim < 20 || 240 < c.ilim || c.ilimIr < 20 || c.ilim < c.ilimIr
    || c.tflt < 10 || c.tinrush == 0 || slew == 0 || c.tpgdly == 0 || c.tdeb == 0 || c.emax == 0
    || c.tretry * 10 < c.tflt || c.emax * c.rsense * 10000000 < vov * c.ilim * c.tflt * 25

/-- CTL.APPLY (R306, R313, R314). -/
def slotApply (n : Nat) (s : State) : State :=
  let c := slotRegs s n
  if applyBad s c (s.get SLOT.TRETRY.SLEW n) then slotFlag SLOT.ESTAT.CFG_ERR n s else modSlot n (fun x => { x with cfg := c }) s

/-- CTL.CLEAR (R302, R307): from LATCHED, and from FET_FAIL once the short check has passed on 1,000 ticks, to READY; RETRIES clears. -/
def slotClear (n : Nat) (s : State) : State :=
  let x := slotSt s n
  if x.state = slFetFail && heldFor x x.pass < 1000 then s
  else if x.state = slFetFail || x.state = slLatched then putSlot n { x with state := slReady, entered := x.t, retries := 0, leakI := none, leakV := none } s
  else putSlot n { x with retries := 0 } s

/-- A write of SLOTn.CTL (R314). New values of APPLY govern the commands beside it (DEDUCED, log entry on SLOT.CTL). -/
def slotCtl (n v : Nat) (s : State) : State :=
  let s := if bitOf v 4 then slotApply n s else s
  let s := if bitOf v 3 then slotClear n s else s
  let s := if bitOf v 0 then modSlot n (fun x => if x.state = slReady then { x with wantOn := true } else x) s else s
  let s := if bitOf v 1 then modSlot n (fun x => if x.state = slReady then { x with wantAt := true } else x) s else s
  if bitOf v 2 then slotOffCmd n s else s

/-- SLOT_ON (R298): a write of CTL with ON at 1; INRUSH begins with the next tick. -/
def execSlotOn (n : SlotId) (v : Word) (s : State) : Result := atReg SLOT.CTL.ON (fun s => .next (slotCtl n v.toNat s)) s

/-- SLOT_ON_AT (R298): a write of CTL with ON_AT at 1. -/
def execSlotOnAt (n : SlotId) (v : Word) (s : State) : Result := atReg SLOT.CTL.ON_AT (fun s => .next (slotCtl n v.toNat s)) s

/-- SLOT_OFF (R309): a write of CTL with OFF at 1. -/
def execSlotOff (n : SlotId) (v : Word) (s : State) : Result := atReg SLOT.CTL.OFF (fun s => .next (slotCtl n v.toNat s)) s

/-- SLOT_CLEAR (R307): a write of CTL with CLEAR at 1. -/
def execSlotClear (n : SlotId) (v : Word) (s : State) : Result := atReg SLOT.CTL.CLEAR (fun s => .next (slotCtl n v.toNat s)) s

/-- SLOT_APPLY (R306): a write of CTL with APPLY at 1. -/
def execSlotApply (n : SlotId) (v : Word) (s : State) : Result := atReg SLOT.CTL.APPLY (fun s => .next (slotCtl n v.toNat s)) s

/-- ONAT_REACHED (R298): an armed slot in READY enters INRUSH. -/
def execOnatReached (n : SlotId) (s : State) : Result :=
  .next (let x := slotSt s n
    if x.wantAt && x.state = slReady then enterInrush n (s.reach (s.get SLOT.ONAT.TIME n)) else s)

/-- VIN_EARLY_WARNING (R310). -/
def execVinEarlyWarning (vin : Fin 4096) (s : State) : Result := .next (vinWarn (vinTake vin s))

/-- VIN_LOCKOUT (R310): below UVLO, or above OV. -/
def execVinLockout (vin : Fin 4096) (s : State) : Result :=
  .next (let s := vinTake vin s
    if vin.val < thrOf (s.get SLOTV.THR1.UVLO) then vinLock false s
    else if thrOf (s.get SLOTV.THR0.OV) < vin.val then vinLock true s
    else s)

/-- SLOT_DIE_POWER_ON (R310): VIN rises through UVLO. A slot that is seated starts in QUALIFY. -/
def execSlotDiePowerOn (vin : Fin 4096) (s : State) : Result :=
  .next (let s := (vinTake vin s).set SLOTV.STAT.UVLO 0
    forN 32 (fun n s =>
      let x := slotSt s n
      let y := slotNew x.t x.seen
      putSlot n { y with seated := x.seated, state := if x.seated then slQualify else slEmpty } (voidDec 1 n s)) s)

/-- A write of SLOTV.THR0 or THR1 (R310, R314). -/
def thrWrite (thr1 : Bool) (v : Nat) (s : State) : State :=
  let ov := if thr1 then s.get SLOTV.THR0.OV else bitsOf v 0 8
  let qhi := if thr1 then s.get SLOTV.THR0.QHI else bitsOf v 8 8
  let qlo := if thr1 then s.get SLOTV.THR0.QLO else bitsOf v 16 8
  let warn := if thr1 then s.get SLOTV.THR0.WARN else bitsOf v 24 8
  let uvlo := if thr1 then bitsOf v 0 8 else s.get SLOTV.THR1.UVLO
  if uvlo < warn ∧ warn < qlo ∧ qlo < qhi ∧ qhi < ov then
    ((((s.set SLOTV.THR0.OV ov).set SLOTV.THR0.QHI qhi).set SLOTV.THR0.QLO qlo).set SLOTV.THR0.WARN warn).set SLOTV.THR1.UVLO uvlo
  else flag SLOTV.ESTAT.CFG_ERR 21 s

/-- THRESHOLD_WRITE (R314). -/
def execThresholdWrite (thr1 : Bool) (v : Word) (s : State) : Result := atReg SLOTV.THR0.OV (fun s => .next (thrWrite thr1 v.toNat s)) s

/-- SLOT_GO (R298, R392). -/
def execSlotGo (d : Decide) (s : State) : Result := .next (answer 1 d (decide (d.obj < 32)) slotGo s)

/-- SLOT_DENY (R298, R392): a slot in HELD enters READY. -/
def execSlotDeny (d : Decide) (s : State) : Result :=
  .next (answer 1 d (decide (d.obj < 32)) (fun n s => modSlot n (fun x => if x.state = slHeld then { x with state := slReady, entered := x.t } else x) s) s)

/-- Boot has completed (R298, R312): slots in HELD reach their decision point and retries that are due go on. -/
def slotsRun (s : State) : State :=
  forN 32 (fun n s =>
    let x := slotSt s n
    if x.state = slHeld && (heldDec s 1 n).isNone then slotDecide n s else retryGo n s) s

end Sys2Proof.Machine
end

