-- ==== Sys2Proof/Machine/Visit.lean ====
section
/-! DEFINITION. EGRESS_VISIT: what leaves each egress, and what the units at crossbar ports 76 to 79 do with it; a function's BAR0 as its host reaches it (R110, R113, R205, R208, R223, R239, R362). -/

namespace Sys2Proof.Machine

/-- The byte address at which this model places the BAR0 of function f above the management space. -/
def fnBase (f : Nat) : Nat := (FN.CAP.FNUM.base + f * FN.CAP.FNUM.si) / 8

/-- A host's write of one word of a function's BAR0 (R205, R208, R214, R219, R223). -/
def fnRegWrite (f off v : Nat) (s : State) : State :=
  let frozen := 2 ≤ fnState s f
  if off = 0x8 then (if bitOf v 3 then resetFn f s else s.set FN.CTL.EVEC (bitsOf v 0 3) f)
  else if 0x100 ≤ off && off < 0x140 && off % 16 = 8 then (if frozen then s else sqCfg f ((off - 0x100) / 16) v s)
  else if off = 0x208 then (if frozen then s else cqCfg f v s)
  else if 0x1000 ≤ off && off < 0x1010 then sqDoorbell f ((off - 0x1000) / 4) v s
  else if off = 0x1010 then cqDoorbell f v s
  else if 0x2000 ≤ off && off < 0x2080 then
    let i := (off - 0x2000) / 16
    let lo := 32 * (off / 4 % 4)
    let s := modFn f (fun x =>
      let e := nthD x.msix i 0
      { x with msix := setNth x.msix i (e - bitsOf e lo 32 * 2 ^ lo + v % 2 ^ 32 * 2 ^ lo) }) s
    pendingVectors f s
  else if off < 0x2000 then s.wr (fnBase f + off) v
  else s

/-- A host's read of one word of a function's BAR0; a 64-bit register latches its high word (R10). -/
def fnRegRead (f off : Nat) (s : State) : Nat × State :=
  if off = 0 then (f + (if f = 0 then 0 else 2 ^ 8) + maxSq s f * 2 ^ 9, s)
  else if 0x2000 ≤ off && off < 0x2080 then (bitsOf (nthD (fnSt s f).msix ((off - 0x2000) / 16) 0) (32 * (off / 4 % 4)) 32, s)
  else if off = 0x3000 then ((fnSt s f).pba, s)
  else if 0x8000 ≤ off && off < 0x8100 then viewRead f (off - 0x8000) s
  else if off < 0x2000 then
    let a := fnBase f + off
    match look s.latch a with
    | some w => (w, { s with latch := del s.latch a })
    | none => (s.rd a, if wideLow a then { s with latch := put s.latch (a + 4) (s.rd (a + 4)) } else s)
  else (0, s)

/-- A configuration read of a function: the identity of R205 and the revision of R435; the spec states nothing of the rest, which is a free value. -/
def fnConfig (off : Nat) (s : State) : Nat × State :=
  if off = 0 then (0x85121D8F, s)
  else if off = 8 then (0x08800000 + (s.get GCTL.REV.MINOR + s.get GCTL.REV.MAJOR * 16) % 256, s)
  else (s.freeNat 32, s.spend)

/-- Words that a read of `n` bytes from `a` returns, at their places in the line. -/
def readWords (f a n : Nat) (s : State) : Nat × State :=
  (List.range (max 1 (ceilDiv n 4))).foldl (fun (r : Nat × State) i =>
    let (v, t) := fnRegRead f ((a / 4 + i) * 4 % 65536) r.2
    (r.1 + v * 2 ^ (32 * ((a / 4 + i) % 16)), t)) (0, s)

/-- A request that reaches the data mover: an access to the BAR0 or the configuration space of a function (log entry on BAR0). -/
def fnAccess (k : Pkt) (s : State) : State :=
  let f := k.ld
  let done (v : Nat) (s : State) : State := reply k.rid 78 .pcieCpl (fun c => { c with data := [BitVec.ofNat 512 v], payload := max 16 k.len }) s
  match k.op with
  | .pcieMemWr =>
    forN 16 (fun i s =>
      if bitsOf k.be (4 * i) 4 = 15 then fnRegWrite f ((k.addr / 64 * 64 + 4 * i) % 65536) (bitsOf (nthD k.data 0 0).toNat (32 * i) 32) s else s) s
  | .pcieMemRd =>
    let (v, s) := readWords f k.addr k.len s
    done v s
  | .pcieCfg =>
    let (v, s) := fnConfig (k.addr % 4096 / 4 * 4) s
    done (v * 2 ^ (32 * (k.addr / 4 % 16))) s
  | o => if expects o then reply k.rid 78 .pcieCpl (fun c => { c with status := .unsupported }) s else s

/-- What the unit at a crossbar port does with a packet handed to it. The home slices take theirs by HOME_REQUEST_ACCEPT. A completion that the device made itself for a write of the journal mirror says that the write failed (R378). -/
def unitTake (x : Nat) (k : Pkt) (s : State) : State :=
  let s := if x = 79 && k.mid == mirrorMid.toNat && (k.own || k.status != .ok) then flag BOOT.ESTAT.MIRROR 17 s else s
  if x < 76 then setInbox x (inbox s x ++ [k]) s
  else if x < 78 then sumAccess x k s
  else if x = 78 then (if k.lst ≤ 1 then fnAccess k s else rotRsp k (dmvRsp k s))
  else s.emit (.link x ⟨k.op, k.tag, k.addr, 0, k.mv, clear_ k.data, k.be, k.poison, k.devLoad.getD 0, k.status, k.len⟩)

/-- Round robin over the classes, one packet per turn (R110). -/
def unitVisit (x : Nat) (s : State) : State :=
  let g := egSt s x
  match ((List.range 8).map (fun i => (g.ptr + i) % 8)).findSome? (fun t => offerHead s x t (fun _ => true)) with
  | none => s
  | some e =>
    let s := setEg x { g with ptr := (e.p.tc + 1) % 8 } s
    unitTake x e.p (handed x e.p (leaveQueue x e s))

/-- One visit of a Beamlink's egress (R239): relay packets first, then the class at the pointer under R113 with QUANTUM 16 and BURST 64. The packets that the visit takes lie back to back in their beads (log entry on beads). -/
def blkVisit (n : Nat) (s : State) : State :=
  let x := 64 + n
  let relays := (egq s x).filter (fun e => e.p.lp.isSome && viaRelay s e.p)
  let rec send : List EgEnt → State → State
    | [], s => s
    | e :: r, s => if blkCan n s e.p then send r (blkHand n e.p (leaveQueue x e s)) else s
  let s := send relays s
  let g := egSt s x
  let t := g.ptr
  let d := min (nthD g.d t 0 + 64 * 16) (64 * 64)
  let s := setEg x { g with d := setNth g.d t d, ptr := (t + 1) % 8 } s
  let can (s : State) (p : Pkt) : Bool := blkCan n s p
  let rec go : Nat → State → State
    | 0, s => s
    | fuel + 1, s =>
      match offerHead s x t (fun p => can s p) with
      | none => s
      | some e =>
        let g := egSt s x
        if nthD g.d t 0 < cost e.p then s
        else go fuel (blkHand n e.p (leaveQueue x e (setEg x { g with d := setNth g.d t (nthD g.d t 0 - cost e.p) } s)))
  blkFlush n (go (egq s x).length s)

/-- The power domain of the unit at a crossbar port (R399). -/
def unitDomain (x : Nat) : Option Nat := if x = 76 then some 10 else if x = 77 then some 11 else if x = 78 then some 9 else none

/-- EGRESS_VISIT (R110, R111, R113, R239, R399): one visit of an egress. A head of a fabric port that waits for a tag shows TAG_STALL (R70). -/
def execEgressVisit (x : XId) (s : State) : Result :=
  .next (if s.safe then s
    else if x.val < 64 then
      if behindX16 s x then s
      else
        let t := (egSt s x).ptr
        let s := if isUp s x && (egq s x).any (fun e => e.p.tc == t && wantsTag s x e.p) then flag PORT.ESTAT.TAG_STALL (64 + x) s x else s
        visit x t (fun s p => portCan x s p) (fun k s => portHand x k (if isUp s x && !failedLd s k then takeCredit x k s else s)) (gain x t (refill x s))
    else if x.val < 72 then convStep (blkVisit (x - 64) s)
    else
      match unitDomain x with
      | none => convStep (unitVisit x s)
      | some d =>
        if (egq s x).isEmpty then s
        else
          let s := pdWake d s
          if pdOn s d then convStep (unitVisit x s) else s)

end Sys2Proof.Machine
end

