-- ==== Sys2Proof/Machine/React.lean ====
section
/-! DEFINITION. Reactions to error records, replacement and release of units, the safe state (R316, R320 to R323, R326, R328 to R334, R453). -/

namespace Sys2Proof.Machine

/-- A port or column fails under the collector's hand: the forced loss path, with recovery under R323 (R322). -/
def forcePort (p : Nat) (s : State) : State := lose p .forced 0 true s

/-- A notice of pool data for a slice: it names the parked payload. -/
def dataNotice (x : Nat) (p : Pkt) : Option Nat := if p.dest == x && p.op == .parked then p.home.map (·.req) else none

/-- Pool data on their way to a failed slice are dropped, since their reads are issued again (R175). -/
def dropNotices (k : Nat) (s : State) : State :=
  let x := 72 + k
  let is (p : Pkt) : Bool := (dataNotice x p).isSome
  let fr := s.frame
  let ids := fr.voq.flatMap (fun q => q.2.filterMap (fun v => dataNotice x v.p)) ++ fr.cross.flatMap (fun q => q.2.flatMap (fun c => c.ents.filterMap (fun v => dataNotice x v.p)))
    ++ fr.stalled.flatMap (fun q => q.2.filterMap (dataNotice x)) ++ (egq s x).filterMap (fun e => dataNotice x e.p) ++ (inbox s x).filterMap (dataNotice x)
  let s := forN 80 (fun i s => bufSync i (setStalled i ((stalled s i).filter (fun p => !is p)) (setVoq i ((voq s i).filter (fun v => !is v.p)) s))) s
  let s := forN 80 (fun i s => setCross i ((crossing s i).map (fun c => { c with ents := c.ents.filter (fun v => !is v.p) })) s) s
  let s := forL ((egq s x).filter (fun e => is e.p)) (fun e s => addFreed x e.p.tc (beats e.p) s) s
  let s := setEgq x ((egq s x).filter (fun e => !is e.p)) s
  forL ids unpark (setInbox x ((inbox s x).filter (fun p => !is p)) s)

/-- The pool reads that a failed slice had issued are gone with it, and what is on its way to its crossbar port goes to its partner (R175). -/
def sliceMove (k : Nat) (s : State) : State :=
  let j := Nat.xor k 1
  let x := 72 + k
  let y := 72 + j
  let s := forL ((s.frame.reqs.filter (fun q => q.2.x == x && !isWrite q.2.op)).map (·.1)) closeReq s
  let s := dropNotices k s
  let to_ (p : Pkt) : Pkt := if p.dest == x then { p with dest := y } else p
  let ent (v : VoqEnt) : VoqEnt := { v with p := to_ v.p }
  let s := forN 80 (fun i s =>
    forL ((crossing s i).filter (fun c => c.e == x)) (fun c s => forL c.ents (fun v s => addAlloc y c.tc (beats v.p) (addFreed x c.tc (beats v.p) s)) s) s) s
  let mine := egq s x
  let s := forL mine (fun e s => addAlloc y e.p.tc (beats e.p) (addFreed x e.p.tc (beats e.p) s)) s
  let s := setEgq x [] (setEgq y (egq s y ++ mine.map (fun e => { e with p := to_ e.p })) s)
  let s := setInbox x [] (setInbox y (inbox s y ++ (inbox s x).map to_) s)
  let fr := s.frame
  { s with frame := { fr with
    voq := fr.voq.map (fun q => (q.1, q.2.map ent)), stalled := fr.stalled.map (fun q => (q.1, q.2.map to_)),
    cross := fr.cross.map (fun q => (q.1, q.2.map (fun c => if c.e == x then { c with e := y, ents := c.ents.map ent } else c))),
    replay := fr.replay.map (fun q => if q.2 / 8 == x then (q.1, y * 8 + q.2 % 8) else q),
    reqs := fr.reqs.map (fun q => (q.1, if q.2.x == x then { q.2 with x := y } else q.2)) } }

/-- A home slice fails hard: its partner serves both shares (R175, R328), or two failures meet (R330). -/
def sliceFail (k : Nat) (s : State) : State :=
  let j := Nat.xor k 1
  if s.on HOME.STAT.FAILED k then s
  else if s.on HOME.STAT.FAILED j then report (rec0 (eHome + k) kDoubleFail 2 k) (fenceUnit 4 k s)
  else
    let s := bringIn 4 k j (72 + j) s
    let s := s.set FRAME.XP.UNITEP.EPOCH (s.get FLT.UNIT.EPOCH 4 j) (72 + j)
    takeover k (sliceMove k s)

/-- A Sum engine fails hard: the other serves every window (R198, R328), or the last engine is gone (R330). -/
def engineFail (n : Nat) (s : State) : State :=
  let m := 1 - n
  if s.on SUM.STAT.FAILED n then s
  else if s.on SUM.STAT.FAILED m then report (rec0 (eSum + n) kDoubleFail 2 n) (fenceUnit 5 n s)
  else
    let s := bringIn 5 n m (76 + m) s
    let s := s.set FRAME.XP.UNITEP.EPOCH (s.get FLT.UNIT.EPOCH 5 m) (76 + m)
    engineTakeover n s

/-- The spare core, while one stands by. -/
def spareCore (s : State) : Option Nat := (List.range 5).find? (fun c => s.get FLT.UNIT.STATE 1 c == 1)

/-- A core is replaced by the spare (R328, R388); with none, management goes on on the other cores (R330). A spare that fails is FENCED. -/
def coreFail (c : Nat) (s : State) : State :=
  let s := closeDec 5 (unitSrc 1 c) s
  let role := s.get FLT.UNIT.ROLE 1 c
  match s.get FLT.UNIT.STATE 1 c with
  | 0 =>
    (match s.flt.bringIns.find? (fun b => b.cls == 1 && b.new == c) with
     | some b => startNext (fenceUnit 1 c { s with flt := { s.flt with bringIns := s.flt.bringIns.filter (· != b) } })
     | none =>
       match spareCore s with
       | some n => bringIn 1 c n role s
       | none => startNext (noteSpare (fenceUnit 1 c s)))
  | 1 => noteSpare (setSpare 1 c 1 (fenceUnit 1 c s))
  | _ => s

/-- A plane fails hard: under R101 to R103, except that the incoming plane of a substitution ends the bring-in (R334), and a standby spare is only FENCED. -/
def planeDead (pl : Nat) (s : State) : State :=
  match s.frame.subst with
  | some b =>
    if b.new = pl then
      let s := { s with flt := { s.flt with bringIns := s.flt.bringIns.filter (fun x => !(x.cls == 0 && x.new == pl)) }, frame := { s.frame with subst := none } }
      halfRate pl (fenceUnit 0 pl ((s.set FRAME.PLANESTAT.SUBST 0).set FRAME.PLANESTAT.NO_SPARE 1))
    else planeFail pl s
  | none => if planeState s pl = 1 then fenceSpare pl s else planeFail pl s

/-- A lane fails hard: an ACTIVE one under R243, and a standby spare is FENCED. The record of a lane whose replacement runs brings in nothing more (R334). -/
def laneGone (u : Nat) (s : State) : State :=
  let n := u / 9
  let l := u % 9
  if laneState s n l = 1 then spareDead n s
  else if (match (blkSt s n).sub with | some b => b.lane == l | none => false) then s
  else laneDead n l s

/-- A unit has failed hard (R328 to R330, R334). A unit that is FENCED already, or is being replaced, is not replaced again. -/
def unitFail (cls i : Nat) (s : State) : State :=
  match cls with
  | 0 => planeDead i s
  | 1 => coreFail i s
  | 2 => laneGone i s
  | 3 => linkDead i s
  | 4 => sliceFail i s
  | _ => engineFail i s

/-- An uncorrectable error, by where it falls (R322): data names its address and travels on poisoned, a replaceable unit fails hard, a port or a column's ports are lost, and any other control state is fatal by its record's class. -/
def uncorr (src akind : Nat) (s : State) : State :=
  if akind = 1 ∨ akind = 2 then s
  else
    match srcUnit src with
    | some (c, i) => unitFail c i s
    | none =>
      if src < 64 then forcePort src s
      else if eCol ≤ src && src < eBlk then forL (colPorts s (src - eCol)) forcePort s
      else s

/-- A corrected error of a core counts towards its predictive trigger (R329, R330). -/
def coreCorrected (c n : Nat) (s : State) : State :=
  let thr := s.get FLT.SUBTHR.CORE
  let old := nthD s.flt.coreCe c 0
  let s := { s with flt := { s.flt with coreCe := setNth s.flt.coreCe c (old + n) } }
  if thr = 0 || old + n < thr || thr ≤ old || s.get FLT.UNIT.STATE 1 c != 0 then s
  else
    match spareCore s with
    | none => collect { rec0 eFlt kNoSpare 0 c with detail := c } s.ns s
    | some _ =>
      let (held, s) := reachPoint 5 (eCore + c) s
      if held then s else coreFail c s

/-- The safe state (R326): the Frame stops, every fabric port and Beamlink goes to electrical idle without a flush, and with SAFE_SLOT_OFF slots that are on are commanded off. Bring-ins are abandoned (R334). -/
def safeState (s : State) : State :=
  if s.safe then s
  else
    let s := assertFaultN (({ s with flt := { s.flt with bringIns := [], fatal := true } }).set FLT.STAT.SAFE 1)
    let s := forN 64 (fun p s => if 2 ≤ pstate s p then setPstate p 1 (setLtssm p 0 (portLinkReset p (scanLost p s))) else s) s
    let s := forN 8 (fun n s => if lTrain ≤ lstate s n && lstate s n ≤ lHandoff then setL n lDown s else s) s
    if s.on FLT.CFG.SAFE_SLOT_OFF then forN 32 (fun n s => if gateOn (slotSt s n) then slotOffCmd n s else s) s else s

/-- The fields of the collector's configuration registers (R336). -/
def fltConfig : List Ent :=
  [FLT.CFG.QUIET, FLT.CFG.STORM, FLT.CFG.SAFE_SLOT_OFF, FLT.LINEEN.SLOT, FLT.LINEEN.VIN, FLT.LINEEN.TEMP, FLT.LINEEN.RAIL, FLT.LINEEN.CLK, FLT.LINEEN.FLTN,
   FLT.SUBTHR.ROW, FLT.SUBTHR.CORE, FLT.SRC.EVT_CE, FLT.SRC.EVT_UC, FLT.SRC.FLTN_CE, FLT.SRC.FLTN_UC, FLT.SRC.MUTE]

/-- The instance of a field that lies in the register at offset `a`; LINEEN has two words. -/
def fltAt (e : Ent) (a : Nat) : Option (Nat × Nat) :=
  if (FLT.LINEEN.SLOT.inWord (8 * (a / 8 * 8))).isSome then (match e.inWord (8 * (a / 8 * 8)) with | some q => some q | none => e.inWord (8 * (a / 8 * 8 + 4)))
  else e.inWord (8 * (a / 4 * 4))

/-- A parity error of a configuration register of the collector, which its SELF record names by its management offset: the register returns to its reset value (R327). -/
def selfReset (r : ErrRec) (s : State) : State :=
  if r.akind != 3 then s
  else forL fltConfig (fun e s => match fltAt e r.addr with | some (i, j) => s.clear e i j | none => s) s

/-- The fixed reaction of a record (R320, R322, R329). What the reporting block does itself is not repeated here. -/
def react (r : ErrRec) (s : State) : State :=
  let s := match r.kind with
    | 0x26 => selfReset r s
    | 0x0A => if eDie ≤ r.src && r.src < eSum then countRow (r.src - eDie) (bitsOf r.addr 0 18 / 4) (1 + r.suppr) s else s
    | 0x0B => if eDie ≤ r.src && r.src < eSum then substRow (r.src - eDie) (bitsOf r.addr 0 18 / 4) s else s
    | 0x0D =>
      (match srcUnit r.src with
       | some (0, p) => if planeState s p = 1 then fenceSpare p s else s
       | some (2, u) => if laneState s (u / 9) (u % 9) = 1 then spareDead (u / 9) s else s
       | _ => s)
    | 0x0E => (match srcUnit r.src with | some (c, i) => unitFail c i s | none => s)
    | 0x0F => (match srcUnit r.src with | some (3, n) => linkDead n s | _ => s)
    | 0x1B => if s.on SLOTV.CFG.PF_EN then pwrfail true s else s
    | 0x20 => uncorr (r.detail % 4096) r.akind s
    | 0x21 => (match srcUnit r.src with | some (1, c) => coreCorrected c (1 + r.suppr) s | _ => s)
    | 0x22 => uncorr r.src r.akind s
    | _ => s
  if r.cls = 2 then safeState s else s

/-- What a block does with an error that no command of its own finds, before its record reaches the collector: a lookup that meets an error in a Tally entry (R172, R173). -/
def detected (r : ErrRec) (s : State) : State :=
  let slot := bitsOf r.addr 0 18 * 16 + bitsOf r.addr 18 4
  if eDie ≤ r.src && r.src < eSum && r.akind = 4 && (r.kind = kTallyCe || r.kind = kTallyUe) then tallyHit (r.src - eDie) slot (decide (r.kind = kTallyUe)) s else s

/-- A record reaches the collector from its reporter (R315, R317). A record that no reporter holds is detected now. -/
def deliver (r : ErrRec) (s : State) : State :=
  match takeFirst (fun h => h.1 == r) s.flt.held with
  | some (h, rest) => nextOwed r.src (react r (collect r h.2 { s with flt := { s.flt with held := rest } }))
  | none => react r (collect r s.ns (detected r s))

/-- ERROR_RECORD (R317). -/
def execErrorRecord (r : ErrRec) (s : State) : Result := .next (deliver r s)

/-- The record of a latched line (R316, R320). R320 names no kind for the rail monitor: its kind and class are free values. -/
def lineRecord (line : Nat) (why : LineCause) (s : State) : ErrRec × State :=
  let crit := decide (why = .critical)
  if line < 32 then (slotRecord line s, s)
  else if line = 32 then (if crit then rec0 eMon kVinLockout 1 0 else rec0 eMon kVinWarn 0 0, s)
  else if line = 33 then (if crit then rec0 (eMon + 1) kTempCrit 2 1 else rec0 (eMon + 1) kTempWarn 0 1, s)
  else if line = 34 then
    let k := s.freeNat 8
    let t := s.spend
    (rec0 (eMon + 2) k (Fin.ofNat 3 (t.freeNat 8)) 2, t.spend)
  else (rec0 (eMon + 3) kClkLoss 1 3, s)

/-- HEARTBEAT_LOSS (R329): the collector declares an active core failed. -/
def execHeartbeatLoss (c : Fin 5) (s : State) : Result :=
  .next (if s.get FLT.UNIT.STATE 1 c != 0 then s
    else
      let s := s.reach (nthD s.flt.beat c 0 + 1000000)
      let r := { rec0 (eCore + c) kUnitFail 1 c with epoch := s.get FLT.UNIT.EPOCH 1 c }
      coreFail c (collect r s.ns s))

/-- BRING_IN_COMPLETE (R328, step 5): `i` names the old unit or the incoming one. A plane's waits for the crossbar's stall to end, and core 4's for its power domain (R399). -/
def execBringInComplete (cls : Fin 6) (i : Nat) (s : State) : Result :=
  .next (match s.flt.bringIns.find? (fun b => b.cls == cls.val && (b.old == i || b.new == i)) with
    | none => s
    | some b =>
      if cls.val = 0 && s.frame.subst.isSome then s
      else if cls.val = 1 && b.new == 4 && !pdOn s 8 then pdWake 8 s
      else bringInDone b s)

/-- A bring-in of a class runs, from its declaration or its held predictive decision (R334). -/
def classBusy (s : State) (cls : Nat) : Bool :=
  bringingIn s cls || (heldOf s (· == 5)).any (fun d => match srcUnit d.2.obj with | some (c, _) => c == cls | none => false)
    || (cls == 0 && s.frame.subst.isSome) || (cls == 2 && s.blks.any (fun b => b.2.sub.isSome))

/-- A write of FLT.FENCE (R333, R453). The self-test of a link is its TRAIN and HELLO. -/
def fenceWrite (v : Nat) (s : State) : State :=
  let cls := bitsOf v 0 3
  let i := bitsOf v 3 7
  let s := (s.set FLT.FENCE.CLASS cls).set FLT.FENCE.INDEX i
  if !bitOf v 10 then s
  else if s.on FLT.FENCE.BUSY || classBusy s cls then s.set FLT.FENCE.RESULT 2
  else if unitCount cls ≤ i || s.get FLT.UNIT.STATE cls i != 2 then s.set FLT.FENCE.RESULT 1
  else
    let s := ({ s with flt := { s.flt with release := some (cls, i) } }).set FLT.FENCE.BUSY 1
    if cls = 3 then trainStart i s else s

/-- FENCE_RELEASE (R333): a write of FLT.FENCE with RELEASE at 1. -/
def execFenceRelease (v : Word) (s : State) : Result := atReg FLT.FENCE.RELEASE (fun s => .next (fenceWrite v.toNat s)) s

/-- A unit whose self-test has passed (R103, R333): it takes a new epoch and becomes the spare, or returns to service. At half rate a released plane is substituted in. -/
def released (cls i : Nat) (s : State) : State :=
  let (e, s) := nextEpoch cls s
  let s := s.set FLT.UNIT.EPOCH e cls i
  match cls with
  | 0 =>
    let s := (setPlane i 1 (setSpare 0 i 0 ((s.set FLT.UNIT.STATE 1 0 i).set FRAME.PLANEERR.EPOCH e i))).set FRAME.PLANESTAT.NO_SPARE 0
    (match (List.range 4).find? (fun q => planeAt s q == 7) with
     | some q => startSubst none q i s
     | none => noteSpare s)
  | 1 => noteSpare (setSpare 1 i 0 (s.set FLT.UNIT.STATE 1 1 i))
  | 2 =>
    let s := ((s.set FLT.UNIT.STATE 1 2 i).set BLK.LANE.STATE 1 (i / 9) (i % 9)).set BLK.LANE.EPOCH e (i / 9) (i % 9)
    noteSpare (spareSync (i / 9) (setSpare 2 i 0 s))
  | 3 => noteSpare ((s.set FLT.UNIT.STATE 0 3 i).set FRAME.XP.UNITEP.EPOCH e (64 + i))
  | 4 =>
    let s := ((s.set FLT.UNIT.STATE 0 4 i).set HOME.STAT.FAILED 0 i).set HOME.STAT.DEGR 0 (Nat.xor i 1)
    noteSpare (setSpare 4 i 0 (s.set FRAME.XP.UNITEP.EPOCH e (72 + i)))
  | _ =>
    let mine := (s.sum.wins.map (·.1)).filter (fun w => w % 2 == i)
    let busy := mine.filter (fun w => winState s w != wFree)
    let s := ((s.set FLT.UNIT.STATE 0 5 i).set SUM.STAT.FAILED 0 i).set SUM.STAT.DEGR 0 (1 - i)
    let s := forL (mine.filter (fun w => !busy.contains w)) (moveWin (1 - i)) s
    let s := { s with sum := { s.sum with away := busy } }
    noteSpare (setSpare 5 i 0 (s.set FRAME.XP.UNITEP.EPOCH e (76 + i)))

/-- A release ends (R333): RESULT 0 OK or 3 TEST; a unit that failed its test stays FENCED. -/
def releaseEnd (pass : Bool) (s : State) : State :=
  match s.flt.release with
  | none => s
  | some (c, i) =>
    let s := (({ s with flt := { s.flt with release := none } }).set FLT.FENCE.BUSY 0).set FLT.FENCE.RESULT (if pass then 0 else 3)
    if pass then released c i s
    else if c = 3 && lstate s i != lActive then setL i lFenced s
    else s

/-- RELEASE_TEST_DONE (R333). -/
def execReleaseTestDone (pass : Bool) (s : State) : Result := .next (releaseEnd pass s)

/-- RELEASE_TIMEOUT (R453). -/
def execReleaseTimeout (s : State) : Result := .next (releaseEnd false s)

/-- SPARE_GO and the hardware-mode action of function 5: the unit that OBJ names, as an error source, is substituted. -/
def spareGo (obj : Nat) (s : State) : State :=
  if eDie ≤ obj && obj < eSum then forL (rowsDue s (obj - eDie)) (substRow (obj - eDie)) s
  else
    match srcUnit obj with
    | some (0, p) => planeFail p s
    | some (1, c) => coreFail c s
    | some (2, u) => laneSubStart (u / 9) (u % 9) s
    | _ => s

/-- SPARE_HOLD: the unit's count clears, and it stays in service (R101, R328). -/
def spareHold (obj : Nat) (s : State) : State :=
  if eDie ≤ obj && obj < eSum then
    let due := rowsDue s (obj - eDie)
    modHome (obj - eDie) (fun h => { h with rowCe := h.rowCe.filter (fun q => !due.contains q.1) }) s
  else
    match srcUnit obj with
    | some (0, p) => s.set FRAME.PLANEERR.COUNT 0 p
    | some (1, c) => { s with flt := { s.flt with coreCe := setNth s.flt.coreCe c 0 } }
    | some (2, u) => modBlk (u / 9) (fun b => { b with winErr := del b.winErr (u % 9) }) s
    | _ => s

/-- SPARE_GO (R101, R328, R392). -/
def execSpareGo (d : Decide) (s : State) : Result := .next (answer 5 d true spareGo s)

/-- SPARE_HOLD (R101, R328, R392). -/
def execSpareHold (d : Decide) (s : State) : Result := .next (answer 5 d true spareHold s)

end Sys2Proof.Machine
end

