-- ==== Sys2Proof/Machine/Image.lean ====
section
/-! DEFINITION. Images: which registers an image or a policy sets, loading one, and the checks of R370 (R136, R368 to R370, R383). -/

namespace Sys2Proof.Machine

/-- The registers whose fields have the reset value "image" (R14): byte address, strides and counts of the two indexes, length in bytes. -/
def imageRegs : List (Nat × Nat × Nat × Nat × Nat × Nat) :=
  [(0x2000000, 0x20000, 32, 0, 1, 4), (0x2000100, 0x20000, 32, 16, 4, 4), (0x1000000, 0x40000, 64, 0, 1, 4),
   (0x4000000, 0x400000, 4, 0, 1, 4), (0x8010000, 4, 256, 0, 1, 4), (0x8401000, 16, 256, 0, 1, 4), (0x2400000, 0x20000, 8, 0, 1, 4),
   (0x2410000, 0, 1, 0, 1, 4), (0x2410008, 0, 1, 0, 1, 4), (0x600024, 0, 1, 0, 1, 4), (0x600100, 4, 64, 0, 1, 4),
   (0x700000, 0, 1, 0, 1, 4), (0x700004, 0, 1, 0, 1, 4), (0x800000, 0x1000, 32, 0, 1, 4), (0x800010, 0x1000, 32, 0, 1, 4),
   (0x800014, 0x1000, 32, 0, 1, 4), (0x800020, 0x1000, 32, 0, 1, 4), (0x820000, 0, 1, 0, 1, 4), (0x310000, 4, 1536, 0, 1, 4),
   (0x430000, 4, 64, 0, 1, 4), (0x431000, 4, 256, 0, 1, 4), (0x10000C, 0, 1, 0, 1, 4), (0x100014, 0, 1, 0, 1, 4),
   (0x500000, 0, 1, 0, 1, 4), (0x900200, 8, 13, 0, 1, 4), (0x10, 0, 1, 0, 1, 4)]

/-- Those among them that are tables of BIND, ACT and HOME: they change at run time only through their own commits (R383). -/
def imageTables : List (Nat × Nat × Nat × Nat × Nat × Nat) :=
  [(0x3010000, 16, 4096, 0, 1, 16), (0x3020000, 16, 4096, 0, 1, 16), (0x4000100, 0x400000, 4, 4, 64, 4), (0x4020000, 8, 4096, 0, 1, 8),
   (0x4100000, 4, 131072, 0, 1, 4), (0x710000, 32, 1024, 0, 1, 32), (0x720000, 32, 1024, 0, 1, 32)]

/-- A byte address lies in one of the registers of a list. -/
def inRegs (l : List (Nat × Nat × Nat × Nat × Nat × Nat)) (a : Nat) : Bool :=
  l.any (fun r =>
    let (b, si, ni, sj, nj, len) := r
    b ≤ a &&
      (let o := a - b
       let i := if si = 0 then 0 else min (ni - 1) (o / si)
       let o := o - i * si
       let j := if sj = 0 then 0 else min (nj - 1) (o / sj)
       o - j * sj < len))

/-- An offset that REGS accepts, and one that a policy accepts (R369, R383). -/
def imageOffset (a : Nat) : Bool := a % 4 == 0 && (inRegs imageRegs a || inRegs imageTables a)

def policyOffset (a : Nat) : Bool := a % 4 == 0 && inRegs imageRegs a

/-- Read-only fields that an image sets. -/
def imageRo : List Ent :=
  btFields ++ ldFields ++ entFields ++ [HOME.RFMAP.BASE, HOME.RFMAP.COUNT, HOME.RFMAP.DEFAULT, HOME.RFBITS.BITS, BLKC.DOMAIN.TAG, ACT.CFG.DEFAULT]

/-- Bit 15 of the default decides for the debug access port, and is 0 in PRODUCTION and END (R280). -/
def defaultSync (s : State) : State :=
  if s.fuses.lc = 2 ∨ s.fuses.lc = 4 then
    (s.set ACT.CFG.DEFAULT (s.get ACT.CFG.DEFAULT % 2 ^ 15)).set ACT.STGCFG.DEFAULT (s.get ACT.STGCFG.DEFAULT % 2 ^ 15)
  else s

/-- A pair of REGS, or a policy's, sets a word (R369, R383): its RW fields and the read-only ones that an image loads. -/
def imageWrite (a v : Nat) (s : State) : State :=
  forL ((tabAt a).filter (fun e => imageRo.contains e)) (fun e s =>
    match e.inWord (8 * a) with
    | none => s
    | some (i, j) => s.set e (putPart e (e.key i j) (8 * a) (s.get e i j) v) i j) (s.wr a v)

/-- Registers that an image sets go back to 0. -/
def imageClear (s : State) : State := { s with regs := s.regs.filter (fun r => !imageOffset (r.1 / 32 * 4)) }

/-- The configuration that COL.CFG holds. -/
def colHeld (s : State) (c : Nat) : Nat := s.word 32 [COL.CFG.BIFUR, COL.CFG.CSLEEP_EN, COL.CFG.MAXRATE, COL.CFG.PRECODE] c

/-- REGS in image order. -/
def imageLoad (i : Image) (s : State) : State :=
  let s := defaultSync (forL i.regs (fun q s => imageWrite q.1 q.2.toNat s) s)
  forN 32 (fun c s => setCol c { colSt s c with cfg := colHeld s c } s) s

/-- The DHNs of the valid HMAP entries of a slice. -/
def hmapDhns (s : State) (n : Nat) : List Nat :=
  ((List.range 64).filter (fun b => s.on HOME.HMAP.VALID n b)).map (fun b => s.get HOME.HMAP.DHN n b)

def hmapWords (s : State) (n : Nat) : List Nat := (List.range 64).map (fun b => s.get HOME.HMAP.DHN n b + 512 * s.get HOME.HMAP.VALID n b)

/-- Both columns of a pair take their configurations together (R35). -/
def colPairOk (s : State) (c : Nat) : Bool :=
  let a := s.get COL.CFG.BIFUR c
  let b := s.get COL.CFG.BIFUR (partner c)
  a != 3 || b == 0

/-- Step 6 of R370 over the values that REGS has set: R35, R60, R126, R130, R153, R168, and the mirror's LD. -/
def valuesOk (i : Image) (s : State) : Bool :=
  (List.range 32).all (colPairOk s)
    && ((List.range 64).filter (fun p => s.get PORT.CFG.ROLE p == 1)).length ≤ 63
    && (validBt s).all (btOk s) && (validLd s).all (ldOk s)
    && (List.range 4).all (fun n => (hmapDhns s n).eraseDups.length == (hmapDhns s n).length && hmapWords s n == hmapWords s 0)
    && (List.range 4096).all (fun n => s.get HOME.RFMAP.BASE n + s.get HOME.RFMAP.COUNT n ≤ 4194304)
    && (match i.mirror with | some (ld, _, _) => s.on BIND.LD.VALID ld && !s.on BIND.LD.SHARE ld | none => true)

/-- The key hash that step 2 asks for; none admits any key (DEVELOP with no owner). -/
def keyHashOf (s : State) (fw : Bool) : Option (BitVec 384) :=
  if fw then some s.fuses.fwHash
  else match s.fuses.owner with
    | some h => some h
    | none => if s.fuses.lc = 1 then none else some 0

/-- The first check of R370 that an image fails: 0 none, 1 to 6 the step. -/
def imageCheck (fw : Bool) (secver : Nat) (i : Image) (s : State) : Nat :=
  if !i.wellFormed || i.regs.any (fun q => !imageOffset q.1) || (fw && !i.regs.isEmpty) then 1
  else if (match keyHashOf s fw with | some h => i.keyHash != h | none => false) || (!fw && s.fuses.owner.isNone && s.fuses.lc != 1) then 2
  else if !i.sigOk then 3
  else if i.serial != 0 && i.serial != s.fuses.serial then 4
  else if i.secver < secver then 5
  else if !fw && !valuesOk i (imageLoad i (imageClear s)) then 6
  else 0

/-- The slot of a kind that passes, the preferred one first, with whether it is slot B; a configuration slot that fails step 6 sets CFG_REJ (R370). -/
def pickImage (fw : Bool) (secver : Nat) (d : FlashDesc) (s : State) : Option (Bool × Image) × State :=
  let f := s.boot.flash
  let slot (b : Bool) : Option Image := if fw then (if b then f.fwB else f.fwA) else (if b then f.cfgB else f.cfgA)
  let pref := if fw then d.prefFwB else d.prefCfgB
  let try_ (b : Bool) (s : State) : Option (Bool × Image) × State :=
    match slot b with
    | none => (none, s)
    | some i =>
      match imageCheck fw secver i s with
      | 0 => (some (b, i), s)
      | 6 => (none, flag BOOT.ESTAT.CFG_REJ 17 s)
      | _ => (none, s)
  match try_ pref s with
  | (some r, s) => (some r, s)
  | (none, s) => try_ (!pref) s

end Sys2Proof.Machine
end

