-- ==== Sys2Proof/Machine/Replay.lean ====
section
/-! DEFINITION. The journal as boot reads it: valid records, gaps, what each record applies, and how migrations, rotations and units come back (R105, R134, R144, R260, R261, R269, R331, R374, R379). -/

namespace Sys2Proof.Machine

/-- Ranges of SEQ that RESERVE and BASE records declare (R379, R380). -/
def declared (l : List (Nat × JRec)) : List (Nat × Nat) :=
  l.filterMap (fun q => match q.2.body with | .reserve lo hi => some (lo, hi) | .base hi => some (q.1, hi) | _ => none)

/-- Where a SEQ is more than the preceding valid one plus 1: first missing SEQ and the next valid one. -/
def breaksFrom (e : Nat) : List (Nat × JRec) → List (Nat × Nat)
  | [] => []
  | (q, _) :: t => if e < q then (e, q) :: breaksFrom (q + 1) t else breaksFrom (q + 1) t

/-- A missing SEQ that is neither declared nor named by a VOID record (R379). -/
def missing (l : List (Nat × JRec)) (q : Nat) : Bool :=
  (look l q).isNone && !(voidSeqs l).contains q && !(declared l).any (fun r => r.1 ≤ q && q ≤ r.2)

/-- The first SEQ of a break that is missing. -/
def gapIn (l : List (Nat × JRec)) (b : Nat × Nat) : Option Nat :=
  ((List.range (b.2 - b.1)).map (· + b.1)).find? (missing l)

/-- The records of a half with gaps filled from the mirror, while its LD is not FAILED (R379, R385). -/
def withMirror (s : State) (first : Nat) (l : List (Nat × JRec)) : List (Nat × JRec) :=
  match s.boot.mirror with
  | none => l
  | some (ld, _, _) =>
    if s.get BIND.LD.STATE ld = 2 then l
    else
      let bs := breaksFrom first l
      (s.boot.mirrorRing.filter (fun r => complete r && bs.any (fun b => b.1 ≤ r.seq && r.seq < b.2) && missing l r.seq)).foldl (fun m r => put m r.seq r) l

def halfFirst (h : JHalf) : Nat := match h.header with | some (_, f, _) => f | none => 1

/-- MIG_COMMIT records that a MIG_ABORT of their slot follows: the abort is the last valid migration record (R144, R146). -/
def abortedCommits : List (Nat × JRec) → List Nat
  | [] => []
  | (q, r) :: t =>
    let next (m : Nat) : Bool := match t.find? (fun x => match x.2.body with | .migStart n .. | .migCommit n | .migAbort n => n == m | _ => false) with
      | some (_, x) => x.body == .migAbort m
      | none => false
    let here : List Nat := match r.body with | .migCommit m => cond (next m) [q] [] | _ => []
    here ++ abortedCommits t

/-- The records that replay applies, in SEQ order, and the first missing SEQ of each gap that stands (R379). -/
def replayList (s : State) : List (Nat × JRec) × List Nat :=
  let h := activeHalf s
  let l := withMirror s (halfFirst h) (validRecs h)
  let dead := voidSeqs l
  let dead := dead ++ abortedCommits (l.filter (fun q => !dead.contains q.1))
  (l.filter (fun q => !dead.contains q.1), (breaksFrom (halfFirst h) l).filterMap (gapIn l))

/-- The number of the next record: after the last valid one, and after every range that is declared (R376, R380). -/
def nextAfter (l : List (Nat × JRec)) : Nat :=
  max ((l.map (·.1)).foldl max 0) (((declared l).map (·.2)).foldl max 0) + 1

/-- The key of LD n stands as a record gives it. -/
def installKey (n key gen : Nat) (s : State) : State :=
  let s := { s with sec := { s.sec with ldKeys := put s.sec.ldKeys n key }, bind := { s.bind with failedFrom := del s.bind.failedFrom n } }
  keySync ((s.set SEC.LDKEY.VALID 1 n).set SEC.LDKEY.GEN gen n)

/-- A key that cannot be unsealed (R260): UNSEAL_FAIL sets, and an LD is noted for FAILED. -/
def unsealFail (k : SealedKey) (s : State) : State :=
  let s := flag SEC.ESTAT.UNSEAL_FAIL 13 s
  match k.slot with
  | .ld n =>
    let s := { s with bind := { s.bind with failedFrom := put s.bind.failedFrom n 0 } }
    (dropLdKey n s).set SEC.LDKEY.GEN k.gen n
  | _ => s

/-- A sealed key of a record is unsealed (R260): keys sealed under another SEALGEN never are. -/
def applyKey (k : SealedKey) (s : State) : State :=
  if k.sealGen != s.fuses.sealGen then unsealFail k s
  else match k.slot with
    | .ld n => installKey n k.key k.gen s
    | .domain => keySync { s with sec := { s.sec with domain := some k.key } }
    | .mig _ => s
    | .rot _ => s

/-- The key that a MIG_START or ROT_START record holds, or 0 where it does not unseal. -/
def onlyKey (s : State) (r : JRec) : Nat :=
  match r.keys with
  | k :: _ => if k.sealGen = s.fuses.sealGen then k.key else 0
  | [] => 0

/-- The unit table, the class counters and the substituted rows of a spare record (R105, R331). -/
def applyCells (cells : List (Nat × Nat)) (s : State) : State :=
  let s := forN 6 (fun c s => forN (unitCount c) (fun i s =>
    let v := lookD cells (c * 128 + i) (FLT.UNIT.EPOCH.reset c i + FLT.UNIT.STATE.reset c i * 2 ^ 8 + FLT.UNIT.ROLE.reset c i * 2 ^ 10)
    ((s.set FLT.UNIT.EPOCH v c i).set FLT.UNIT.STATE (bitsOf v 8 2) c i).set FLT.UNIT.ROLE (bitsOf v 10 3) c i) s) s
  let s := { s with flt := { s.flt with ctr := (List.range 6).map (fun c => lookD cells (0x1000 + c) 0) } }
  forN 4 (fun k s =>
    let rows := (cells.filter (fun q => 0x10000 * (k + 1) ≤ q.1 && q.1 < 0x10000 * (k + 2))).map (fun q => q.1 - 0x10000 * (k + 1))
    if rows.isEmpty && (homeSt s k).rows.isEmpty then s
    else ((setHome k { homeSt s k with rows := rows } s).set HOME.SPARESTAT.USED rows.length k).setB HOME.SPARESTAT.NONE (rows.length == 64) k) s

/-- A region's bit takes its new class (R168, R169). -/
def applyRegion (ld region : Nat) (shared : Bool) (s : State) : State :=
  let b := s.get HOME.RFMAP.BASE ld + region
  let w := s.get HOME.RFBITS.BITS (b / 32)
  s.set HOME.RFBITS.BITS (if shared then setBit w (b % 32) else clearBit w (b % 32)) (b / 32)

/-- The binding and LD entries of a record (R136). -/
def applyEntries (es : List StgEntry) (s : State) : State :=
  forL es (fun e s => if e.isLd && !stgValid e then (stgWrite e s).set BIND.LD.STATE 0 e.index else stgWrite e s) s

/-- The slot of a migration is IDLE again, without a record. -/
def slotIdle (m : Nat) (s : State) : State :=
  match migSt s m with
  | none => s
  | some x => setMig m none (if s.get BIND.LD.STATE x.ld = 4 then s.set BIND.LD.STATE x.prior x.ld else s)

/-- What a record applies, as the chapter of its requester states (R374, R379). A migration whose START is known already keeps its dirty blocks: its bitmap lies in pool memory (R144). -/
def applyRec (r : JRec) (s : State) : State :=
  let s := forL r.keys applyKey s
  match r.body with
  | .jmark => s
  | .bind es rf _ =>
    let s := applyEntries es s
    (match rf with | some (ld, rg, sh) => applyRegion ld rg sh s | none => s)
  | .key ds => forL ds (fun n s => if s.on BIND.LD.VALID n then s else dropLdKey n s) s
  | .migStart m ld p ldid base bm =>
    let area := (migSt s m).bind (·.area)
    let dirty := match migSt s m with | some x => if x.area = some (bmHeader ld r.seq) then x.dirty else [] | none => []
    let s := setMig m (some ⟨ld, 0, p, ldid, base, poolMld s p, onlyKey s r, dirty, 0, 0, [], 0, false, false, false, false, r.seq, area, [], 0, false⟩) s
    let s := (((s.set BIND.MIG.MBM.BASE bm m).set BIND.MIG.MCTL.LD ld m).set BIND.MIG.MCTL.DPORT p m).set BIND.MIG.MCTL.DLDID ldid m
    (((s.set BIND.MIG.MDEST.DBASE base m).set BIND.MIG.MSTAT.PASS 1 m).set BIND.MIG.MCURSOR.OFFSET 0 m).set BIND.LD.STATE 4 ld
  | .migCkpt m cur pass => ((modMig m (fun x => { x with ckpt := cur }) s).set BIND.MIG.MSTAT.PASS pass m).set BIND.MIG.MCURSOR.OFFSET cur m
  | .migCommit m =>
    (match migSt s m with
     | none => s
     | some x =>
       let s := ((s.set BIND.LD.POOL x.dport x.ld).setB BIND.LD.MLD x.dmld x.ld).set BIND.LD.LDID (if x.dmld then x.dldid else 0) x.ld
       let s := s.set BIND.LD.BASE (if x.dmld then 0 else x.dbase) x.ld
       let s := if x.key = 0 then s else installKey x.ld x.key ((s.get SEC.LDKEY.GEN x.ld + 1) % 2 ^ 16) s
       let s := forN 2 (fun i s => match rotSt s i with | some y => if y.ld = x.ld then (setRot i none s).set SEC.LDKEY.ROT 0 x.ld else s | none => s) s
       slotIdle m s)
  | .migAbort m => slotIdle m s
  | .rotStart i ld cells =>
    let s := setRot i (some ⟨ld, onlyKey s r, r.seq, false, 0, none, false, false⟩) s
    let s := ((s.set SEC.ROT.RCTL.LD ld i).set SEC.ROT.RCTL.RATE (lookD cells 0 0) i).set SEC.ROT.RRESCUE.RLD (lookD cells 1 0) i
    (s.set SEC.ROT.RRESCUE.OFFSET (lookD cells 2 0) i).set SEC.ROT.RCURSOR.OFFSET 0 i
  | .rotCkpt i c => (setRot i ((rotSt s i).map (fun x => { x with ckpt := c })) s).set SEC.ROT.RCURSOR.OFFSET c i
  | .rotDone i =>
    (match rotSt s i with
     | none => s
     | some x => (if x.key = 0 then id else installKey x.ld x.key ((s.get SEC.LDKEY.GEN x.ld + 1) % 2 ^ 16)) ((setRot i none s).set SEC.LDKEY.ROT 0 x.ld))
  | .act cfg es =>
    let s := (forL es (fun e s => putWord 256 entFields e.2 e.1 0 s) s).set ACT.CFG.DEFAULT cfg
    defaultSync ((copyDown entLo entLen (entLo - stgLo) s).set ACT.STGCFG.DEFAULT cfg)
  | .spare cells => applyCells cells s
  | .wear a b => (s.set BOOT.WEAR.ERASEA a).set BOOT.WEAR.ERASEB b
  | .policy ps => forL ps (fun q s => imageWrite q.1 q.2 s) s
  | .ver n => s.set BOOT.SECVER.SECVER (max n (s.get BOOT.SECVER.SECVER))
  | .reserve .. => s
  | .base _ => s
  | .void _ => s

/-- An LD is placed in FAILED because its key did not unseal (R260). -/
def failUnsealed (n : Nat) (s : State) : State :=
  if s.on BIND.LD.VALID n && s.get BIND.LD.STATE n == 2 then s
  else if s.on BIND.LD.VALID n then
    let s := { s with bind := { s.bind with failedFrom := put s.bind.failedFrom n (ldRest s n) } }
    reportEach (rec0 eSec kUnseal 1 n) (s.set BIND.LD.STATE 2 n)
  else { s with bind := { s.bind with failedFrom := del s.bind.failedFrom n } }

/-- Fresh keys for the LDs that have had no key record (R261), journalled in records of at most 64 keys. -/
def freshKeys (s : State) : State :=
  let ns := (validLd s).filter (fun n => !s.on SEC.LDKEY.VALID n && (look s.bind.failedFrom n).isNone)
  let s := forL ns (fun n s => let (k, s) := newKey s; takeLdKey n k s) s
  forL (piecesOf 64 65 (ns.map (fun n => sealKey s (.ld n) (lookD s.sec.ldKeys n 0) (s.get SEC.LDKEY.GEN n)))) (fun l s => note (.key []) l s) s

/-- An open migration after a restart (R144): the header of the bitmap area is read back and must be the one that MIG_START's LD, sequence number and CRC-32 give. Whether the destination's memory survived is the board's own matter: the header reads as it was written, or as a free value. A migration whose key or LD is lost ends. -/
def migResume (m : Nat) (s : State) : State :=
  match migSt s m with
  | none => s
  | some x =>
    let s := modMig m (fun y => { y with prior := ldRest s x.ld, aborts := 0, held := [], wantQ := false, sealed_ := false, aborting := false, asked := false, reads := [], allow := 0, once := false }) s
    if x.start = 0 then slotIdle m s
    else if x.key = 0 || s.get BIND.LD.STATE x.ld = 2 then note (.migAbort m) [] (slotIdle m s)
    else
      let read : Nat := if s.freeNat 1 == 1 then x.area.getD 0 else (s.spend).freeNat 512
      let s := s.spend.spend
      let kept := read == bmHeader x.ld x.start
      let s := (s.set BIND.LD.STATE 4 x.ld).set BIND.MIG.MSTAT.PHASE 1 m
      let s := if kept then
          let top := ceilDiv (s.get BIND.LD.SIZE x.ld * mib256) blk64
          let redo := ((List.range 1024).map (· + x.ckpt / blk64)).filter (fun b => b < top)
          (modMig m (fun y => { y with dirty := redo.foldl (fun l b => insertNat b l) y.dirty }) s).set BIND.MIG.MCURSOR.OFFSET x.ckpt m
        else bmInit m x.start <| ((modMig m (fun y => { y with dirty := [], ckpt := 0 }) s).set BIND.MIG.MSTAT.PASS 1 m).set BIND.MIG.MCURSOR.OFFSET 0 m
      mdirtySync m s

/-- An open rotation after a restart (R269). Whether the rescue area survived is a free value. A block found COPIED is written again by the step of its offset, from the rescue data (DEDUCED, log entry on rescue areas). -/
def rotResume (r : Nat) (s : State) : State :=
  match rotSt s r with
  | none => s
  | some x =>
    if x.start = 0 || x.key = 0 || s.get BIND.LD.STATE x.ld = 2 then (setRot r none s).set SEC.LDKEY.ROT 0 x.ld
    else
      let kept := s.freeNat 1 == 1
      let s := s.spend
      let s := setRot r (some { x with copying := none, finishing := false, paused := (migOf s x.ld).isSome }) s
      let s := (s.set SEC.ROT.RSTAT.PHASE 3 r).set SEC.LDKEY.ROT 1 x.ld
      match look s.sec.rescue r with
      | some (b, copied, st) =>
        if kept && st == x.start then s.set SEC.ROT.RCURSOR.OFFSET (if copied then b else b + 65536) r
        else reportEach (rec0 eSec kUnseal 1 x.ld) (s.set SEC.ROT.RCURSOR.OFFSET x.ckpt r)
      | none => reportEach (rec0 eSec kUnseal 1 x.ld) (s.set SEC.ROT.RCURSOR.OFFSET x.ckpt r)

/-- After the records: keys of LDs that are gone, LDs that failed to unseal, fresh keys, open migrations and rotations. -/
def replayEnd (s : State) : State :=
  let s := forL (s.sec.ldKeys.map (·.1)) (fun n s => if s.on BIND.LD.VALID n then s else dropLdKey n s) s
  let s := forL (s.bind.failedFrom.map (·.1)) (fun n s => if s.on SEC.LDKEY.VALID n then s else failUnsealed n s) s
  let s := freshKeys (restateAll s)
  rotResume 1 (rotResume 0 (migResume 1 (migResume 0 s)))

/-- Planes as the unit table gives them (R105): states, the map, half rate and the spare. -/
def restorePlanes (s : State) : State :=
  let s := forN 5 (fun p s => (setPlane p (s.get FLT.UNIT.STATE 0 p) s).set FRAME.PLANEERR.EPOCH (s.get FLT.UNIT.EPOCH 0 p) p) s
  let at_ (s : State) (q : Nat) : Nat := ((List.range 5).find? (fun p => planeState s p == 0 && s.get FLT.UNIT.ROLE 0 p == q)).getD 7
  let s := forN 4 (fun q s => setMap q (at_ s q) s) s
  (s.setB FRAME.PLANESTAT.NO_SPARE (sparePlane s).isNone).setB FRAME.PLANESTAT.HALF_RATE ((List.range 4).any (fun q => planeAt s q == 7))

/-- Lanes of a Beamlink as the unit table gives them (R225, R331). -/
def restoreLanes (n : Nat) (s : State) : State :=
  spareSync n (forN 9 (fun l s =>
    let u := laneUnit n l
    let st := s.get FLT.UNIT.STATE 2 u
    let s := (s.set BLK.LANE.STATE st n l).set BLK.LANE.EPOCH (s.get FLT.UNIT.EPOCH 2 u) n l
    if st = 0 && (l = 8 || s.get FLT.UNIT.EPOCH 2 u != 0) then s.set BLK.LANE.POS (s.get FLT.UNIT.ROLE 2 u) n l else s) s)

/-- Plane, lane and unit states at APPLY (R372): what other blocks show of the unit table. -/
def restoreUnits (s : State) : State :=
  let s := forN 8 restoreLanes (restorePlanes s)
  let s := forN 8 (fun n s => s.set FRAME.XP.UNITEP.EPOCH (s.get FLT.UNIT.EPOCH 3 n) (64 + n)) s
  let s := forN 4 (fun k s =>
    let dead := s.get FLT.UNIT.STATE 4 k == 2
    let s := s.set FRAME.XP.UNITEP.EPOCH (s.get FLT.UNIT.EPOCH 4 k) (72 + k)
    (s.setB HOME.STAT.FAILED dead k).setB HOME.STAT.DEGR dead (Nat.xor k 1)) s
  let s := forN 2 (fun n s =>
    let dead := s.get FLT.UNIT.STATE 5 n == 2
    let s := s.set FRAME.XP.UNITEP.EPOCH (s.get FLT.UNIT.EPOCH 5 n) (76 + n)
    (s.setB SUM.STAT.FAILED dead n).setB SUM.STAT.DEGR dead (1 - n)) s
  let s := forN 6 (fun c s => forN (unitCount c) (fun i s => if s.get FLT.UNIT.STATE c i = 2 then setSpare c i 1 s else s) s) s
  let ep (r : Nat) : Nat := match (List.range 5).find? (fun c => s.get FLT.UNIT.STATE 1 c == 0 && s.get FLT.UNIT.ROLE 1 c == r) with
    | some c => s.get FLT.UNIT.EPOCH 1 c
    | none => 0
  let full := (List.range 4).foldl (fun a k => if (homeSt s k).rows.length = 64 then a + 2 ^ k else a) 0
  { s with flt := { s.flt with roleEp := (List.range 4).map ep } }.set FLT.SPARE.ROW full

end Sys2Proof.Machine
end

