-- ==== Sys2Proof/Machine/Boot.lean ====
section
/-! DEFINITION. Boot, the resets and the journal's reset, updates (R13, R52, R136, R177, R179, R257, R284, R288, R312, R366 to R375, R382 to R385). -/

namespace Sys2Proof.Machine

/-- The page in work is completed by the flash when a reset comes (R385). -/
def settlePage (s : State) : State :=
  match s.boot.cur with
  | none => s
  | some c =>
    if c.reading || s.on BOOT.STAT.SEALED then s
    else
      let r := { c.recd with programmed := c.recd.programmed + 1 }
      putRec (c.recd.programmed == 0) r { s with boot := { s.boot with cur := some { c with recd := r, reading := r.programmed == r.pages } } }

/-- DBGCTL.EN resets to 1 in BLANK, DEVELOP and RETURN, where test features are live (R285, R291). It and LCSTAT.STATE are of class COLD: a WARM reset leaves them. -/
def debugOpen (s : State) : Bool := s.fuses.lc == 0 || s.fuses.lc == 1 || s.fuses.lc == 3

/-- Registers that fuses and straps load at every reset (R14, R256, R285, R371). -/
def fuseLoad (s : State) : State :=
  let s := fuseSync s
  ((s.setB TST.STAT.LIVE (debugOpen s)).set BOOT.STAT.MODE s.straps.bootMode).set BLKC.CSTAT.MYID s.straps.cascadeId

/-- What a COLD reset leaves: the fuses, the flash, the slot die and the wake latches' domain keep what they hold, pool memory keeps the mirror ring, the rescue areas and the bitmaps of migrations, and every register takes its reset value (R13, R14, R144, R269, R312, R349). FAULT_N is released. -/
def coldBase (st : Straps) (fl : Option Flash) (s : State) : State :=
  let s := settlePage s
  let r := State.reset
  let was := s.on FLT.STAT.FAULTN
  let t : State := { r with fuses := s.fuses, straps := st, out := s.out, free := s.free, pending := s.pending,
                            die := { slots := s.die.slots.map (fun q => (q.1, { q.2 with seen := 0 })), vins := [] },
                            evt := { r.evt with edges := s.evt.edges.map (fun q => (q.1, q.2.1, 0)) },
                            bind := { r.bind with mig0 := s.bind.mig0, mig1 := s.bind.mig1 },
                            sec := { r.sec with rescue := s.sec.rescue, draws := s.sec.draws, nextSession := s.sec.nextSession },
                            boot := { r.boot with flash := fl.getD s.boot.flash, mirrorRing := s.boot.mirrorRing, mirrorAt := s.boot.mirrorAt } }
  let t := { t with mgmt := { t.mgmt with jtag := s.mgmt.jtag, bdrive := s.mgmt.bdrive, bseen := s.mgmt.bseen } }
  let t := (t.set EVT.WAKELAT.LINE (s.get EVT.WAKELAT.LINE)).set SEC.KSTAT.DRBG_OK 1
  let t := forL t.die.slots (fun q t => (slotShow q.1 q.2 t).set SLOT.STAT.STATE q.2.state q.1) t
  let t := (t.set SEC.LCSTAT.STATE t.fuses.lc).setB SEC.DBGCTL.EN (debugOpen t)
  fuseLoad (if was then t.emit (.faultN false) else t)

/-- A boot that cannot complete ends in FAIL (R373): FAULT_N is asserted, and a record is stored where the table has one. -/
def bootFail (result : Nat) (cls : Option (Fin 3)) (s : State) : State :=
  let s := s.set BOOT.STAT.RESULT result
  let s := match cls with | some c => collect (rec0 eBoot kJournal c 0) s.ns s | none => s
  assertFaultN (setState BOOT.STAT.PHASE 9 17 s)

/-- A plane whose error count still stands at the threshold once boot reaches RUN is at its decision point again (R101, R437). -/
def planesDue (s : State) : State :=
  let thr := s.get FRAME.PLANECFG.SUB_THRESH
  forN 5 (fun p s => if thr != 0 && thr ≤ s.get FRAME.PLANEERR.COUNT p && (posOf s p).isSome && (sparePlane s).isSome then planePredict p s else s) s

/-- Step 9 (R372): ports and Beamlinks are enabled, slots leave HELD, and the timeouts of decisions and heartbeats begin. -/
def runEnter (s : State) : State :=
  let s := setState BOOT.STAT.PHASE 8 17 s
  let s := planesDue { s with flt := { s.flt with beat := s.flt.beat.map (fun _ => s.ns) } }
  let s := forN 64 (fun p s => detect p (settle p s)) s
  let s := forN 8 (fun n s => if s.get FLT.UNIT.STATE 3 n = 2 then setL n lFenced s else if s.on BLK.CFG.EN n then trainStart n s else s) s
  slotsRun (cascadeSync s)

/-- The held configuration of a column could be accepted: its rate exists, and it does not clash with its partner's (R35, R58). -/
def colFits (s : State) (c : Nat) : Bool :=
  let b := s.get COL.CFG.BIFUR c
  let o := s.get COL.CFG.BIFUR (partner c)
  s.get COL.CFG.MAXRATE c < 6 && !(b == 3 && o != 0) && !(o == 3 && b != 0)

/-- Every column takes the values of the image and of the policies after it; where a policy left a configuration that R35 rejects, CFG_ERR sets and the image's stays (R36, R372, R383). -/
def colsTake (s : State) : State :=
  forN 32 (fun c t => if colHeld s c = (colSt s c).cfg || colFits s c then colTake c (colHeld s c) t else colTake c (colSt s c).cfg (t.set COL.STAT.CFG_ERR 1 c)) s

/-- vPPBs bound by the tables show presence, with no hot-add event (R136). -/
def presenceInit (s : State) : State :=
  { s with bind := { s.bind with present := (validBt s).foldl (fun l j => insertNat (s.get BIND.BT.HOST j * 256 + s.get BIND.BT.VPPB j) l) [] } }

/-- Under BOOT_MODE 1 boot waits in HOLD; otherwise the device runs (R371, R372). -/
def bootEnd (s : State) : State := if s.get BOOT.STAT.MODE = 1 then setState BOOT.STAT.PHASE 7 17 s else runEnter s

/-- Steps 7 to 9 (R372): columns and slot values are applied and states of units are restored. Coarse mode follows HOME0.CFG (R171). -/
def bootApply (s : State) : State :=
  let s := presenceInit (restoreUnits (forN 32 slotApply (colsTake s)))
  bootEnd { s with homeG := { s.homeG with coarse := s.on HOME.CFG.COARSE } }

/-- Erased blocks of a half. -/
def halfBlocks (s : State) : Nat := max 1 (s.boot.flash.halfPages / 256)

/-- The active half of the journal governs: its registers, and the erase of the other half goes on where it is not blank (R375, R385). -/
def openHalf (b : Bool) (gen : Nat) (s : State) : State :=
  let s := (s.setB BOOT.STAT.JHALF b).set BOOT.JSTAT.GEN gen
  let other := if b then s.boot.flash.halfA else s.boot.flash.halfB
  let blank := other.header.isNone && other.recs.isEmpty
  { s with boot := { s.boot with halfBlank := blank, eraseLeft := if blank then 0 else halfBlocks s } }.set BOOT.JSTAT.COMPACT (if blank then 0 else 4)

/-- The valid half of greater GEN (R375): whether it is half B, and its GEN. -/
def governing (s : State) : Option (Bool × Nat) :=
  let ok (h : JHalf) : Option Nat := match h.header with | some (g, _, ser) => if ser = s.fuses.serial then some g else none | none => none
  match ok s.boot.flash.halfA, ok s.boot.flash.halfB with
  | some a, some b => if a < b then some (true, b) else some (false, a)
  | some a, none => some (false, a)
  | none, some b => some (true, b)
  | none, none => none

/-- A new journal in half A: GEN 1, a JMARK record and JINIT (R375). -/
def newJournal (s : State) : State :=
  let f := s.boot.flash
  let mark : JRec := ⟨1, .jmark, [], 1, 1, true, false⟩
  let f := { f with desc := f.desc.map (fun d => { d with jinit := true, dseq := d.dseq + 1 }), halfA := ⟨some (1, 1, s.fuses.serial), [mark]⟩ }
  let s := { s with boot := { s.boot with flash := f, nextSeq := 2, applied := 1 } }
  fillSync ((openHalf false 1 s).set BOOT.JSEQ.SEQ 1)

/-- A gap that stands (R379). -/
def noteGap (q : Nat) (s : State) : State :=
  collect { rec0 eBoot kJournal 1 0 with addr := q } s.ns (flag BOOT.ESTAT.GAP 17 (s.set BOOT.STAT.JGAP 1))

/-- Steps 6 to 9 once the half is chosen. SECVER takes the greater of the accepted images' (R370). -/
def bootReplay (s : State) : State :=
  let l := validRecs (activeHalf s)
  let (rs, gaps) := replayList s
  let s := forL gaps noteGap s
  let s := forL rs (fun q s => applyRec q.2 s) s
  let last := (l.map (·.1)).foldl max 0
  let s := { s with boot := { s.boot with nextSeq := nextAfter l, applied := last } }.set BOOT.JSEQ.SEQ last
  let s := replayEnd (fillSync s)
  let n := max (match fwImage s with | some i => i.secver | none => 0) (match s.boot.img with | some i => i.secver | none => 0)
  let s := if s.get BOOT.SECVER.SECVER < n then note (.ver n) [] (s.set BOOT.SECVER.SECVER n) else s
  bootApply s

/-- Step 6 (R372, R373, R375). -/
def bootJournal (s : State) : State :=
  match s.boot.flash.desc with
  | none => bootFail 1 (some 2) s
  | some d =>
    if !d.jinit then bootReplay (newJournal s)
    else match governing s with
      | some (b, g) => bootReplay (openHalf b g s)
      | none => bootFail 4 (some 1) s

/-- The highest SECVER that the journal holds: read before the images are checked against it (DEDUCED, log entry on SECVER). -/
def secverHeld (s : State) : Nat :=
  match governing s with
  | none => 0
  | some (b, _) =>
    let h := if b then s.boot.flash.halfB else s.boot.flash.halfA
    let l := validRecs h
    (l.map (fun q => match q.2.body with | .ver n => if (voidSeqs l).contains q.1 then 0 else n | _ => 0)).foldl max 0

/-- Steps 4 and 5 (R370, R371, R372): firmware, then, outside recovery, configuration and the identity chain. -/
def bootImages (d : FlashDesc) (s : State) : State :=
  let v := secverHeld s
  match pickImage true v d s with
  | (none, s) => bootFail 2 (some 2) s
  | (some (b, _), s) =>
    let s := s.setB BOOT.STAT.FWSLOT b
    if s.get BOOT.STAT.MODE = 2 then setState BOOT.STAT.PHASE 10 17 s
    else
      match pickImage false v d s with
      | (none, s) => bootFail 3 (some 1) s
      | (some (b, i), s) =>
        let s := (s.setB BOOT.STAT.CFGSLOT b).setB BOOT.STAT.UNOWNED s.fuses.owner.isNone
        let s := imageLoad i { s with boot := { s.boot with img := some i, mirror := i.mirror } }
        bootJournal (if s.boot.flash.chainOk then s else flag SEC.ESTAT.CERT 13 s)

/-- Steps 2 and 3 (R285, R288, R372): an interrupted transition's wipe, END, the flash and its descriptor. -/
def bootFuses (s : State) : State :=
  let s := match s.fuses.wipeOwed with | some t => flag SEC.ESTAT.LC_ABORT 13 (wipeFor t s) | none => s
  if s.fuses.lc = 4 then bootFail 5 none s
  else
    match s.boot.flash.answers, s.boot.flash.desc with
    | true, some d => bootImages d (s.set BOOT.STAT.WIDTH s.boot.flash.width)
    | _, _ => bootFail 1 (some 2) s

/-- COLD_RESET (R13, R371, R372): under BOOT_MODE 3 the boot ROM waits for JTAG in BLANK, DEVELOP and RETURN; otherwise boot runs to its end in this step (log entry on boot). -/
def execColdReset (st : Straps) (fl : Option Flash) (s : State) : Result :=
  let s := coldBase st fl s
  .next (if st.bootMode = 3 && debugOpen s then s else bootFuses s)

/-- The register field at a key of the register file. -/
def keyEnt (k : Nat) : Option Ent :=
  (tabAt (k / 8)).find? (fun e => match e.inst k with | some (i, j) => e.key i j == k | none => false)

/-- Every field of a reset class other than COLD takes its reset value (R13, R14). Held read latches of R10 are empty after it, though R10 names only reads that end one (DESIGN CHOICE, log entry on latches). -/
def warmRegs (s : State) : State :=
  { s with regs := s.regs.filter (fun r => match keyEnt r.1 with | some e => e.cls == .cold | none => false), latch := [] }

/-- Fields of an instance keep the values that they had in another state. -/
def keepRegs (es : List Ent) (i : Nat) (old s : State) : State := forL es (fun e s => s.set e (old.get e i) i) s

/-- Every line on an atomic board goes to its pool before a WARM reset takes effect (R177). -/
def boardFlush (s : State) : State :=
  forN 4 (fun k s => forL (homeSt s k).board (fun b s =>
    let ld := lkLd b.lk
    let dpa := lkDpa b.lk
    let p := poolPort s ld
    let s := markDirty ld dpa s
    if isUp s p then
      s.emit (.link p ⟨.memWr, 0, poolAddr s ld (poolHpa s 0xF000 ld dpa) dpa, s.get BIND.LD.LDID ld, .noOp, [encrypt (lineKey s ld dpa (s.get SEC.LDKEY.GEN ld)) ld dpa b.data],
        2 ^ 64 - 1, b.poison, 0, .ok, 64⟩)
    else loseWrite ld dpa s) s) s

/-- A request that outlives a WARM reset: one whose change is already in force. -/
def outlives (w : JWait) (b : JBody) : Bool :=
  match w with
  | .act _ => true
  | .none => (match b with | .void _ => false | _ => true)
  | _ => false

def isAct (r : JReq) : Bool := match r.who with | .act _ => true | _ => false

/-- The journal engine across a WARM reset (R374, R376, R385): a record that is incomplete consumes no SEQ, one whose pages are all programmed counts, and a compaction ends. -/
def warmJournal (s : State) : State :=
  let s := settlePage s
  let l := validRecs (activeHalf s)
  let again := match s.boot.cur with
    | some c => if (look l c.recd.seq).isSome || !outlives c.who c.recd.body then [] else [JReq.mk c.recd.body c.recd.keys c.who]
    | none => []
  let un := match s.boot.cur with
    | some c => if (look l c.recd.seq).isSome then insertNat c.recd.seq s.boot.unapplied else s.boot.unapplied
    | none => s.boot.unapplied
  let shut := s.on BOOT.STAT.SEALED || s.boot.pwrfail
  let q : List JReq := if shut then [] else again ++ s.boot.queue.filter (fun r => outlives r.who r.body)
  let blank := s.boot.halfBlank && s.boot.comp.isNone
  let s := { s with boot := { s.boot with cur := none, queue := q, nextSeq := if (activeHalf s).header.isSome then nextAfter l else s.boot.nextSeq, unapplied := un,
                                          comp := none, halfBlank := blank, update := none, policies := [] },
                    act := { s.act with unsealed := (q.filter isAct).length } }
  if s.boot.pwrfail then s.set BOOT.STAT.SEALED 1 else s

/-- Open migrations and rotations as a WARM reset finds them (R144, R268, R269): what no record holds ends, a drain is over, and the rest goes on from the journal. -/
def warmMoves (s : State) : State :=
  let s := migDrained 1 (migDrained 0 s)
  let s := forN 2 (fun m s => match migSt s m with | some x => if x.start = 0 then slotIdle m s else s | none => s) s
  forN 2 (fun r s => match rotSt s r with
    | some x => if x.start = 0 || rotPhase s r = 4 then (setRot r none s).set SEC.LDKEY.ROT 0 x.ld else s
    | none => s) s

def migRegs : List Ent := [BIND.MIG.MCTL.LD, BIND.MIG.MCTL.DPORT, BIND.MIG.MCTL.DLDID, BIND.MIG.MDEST.DBASE, BIND.MIG.MBM.BASE, BIND.MIG.MSTAT.PASS]
def rotRegs : List Ent := [SEC.ROT.RCTL.LD, SEC.ROT.RCTL.RATE, SEC.ROT.RRESCUE.RLD, SEC.ROT.RRESCUE.OFFSET]

/-- Reads that waited for a power domain are answered with all ones, as for a lost target (R75, R408). -/
def lostReads (s : State) : List Out :=
  s.mgmt.pds.flatMap (fun p => p.2.held.filterMap (fun c => match c with
    | .lowWordRead m a => some (.rdata m a.toNat (2 ^ 32 - 1))
    | .highWordRead m a => some (.rdata m a.toNat (2 ^ 32 - 1))
    | .readClear m a => some (.rdata m a.toNat (2 ^ 32 - 1))
    | _ => none))

/-- The units' state beside their registers after a WARM reset. Substituted rows, coarse mode, the class counters, the storms, keys of LDs, migrations and rotations, the domain key, fabric time and the slot die stay. -/
def warmUnits (s : State) : State :=
  let r := State.reset
  let cols := s.cols.map (fun q => (q.1, { q.2 with scan := none, wakeHeld := false, margined := [], ovrWait := [] }))
  let decs := s.decs.map (fun q => (q.1, if q.2.stat = .held then { q.2 with stat := .closed } else q.2))
  let was := s.bind.pools.foldl (fun l q => put l q.1 q.2) s.bind.poolWas
  { s with evt := { r.evt with edges := s.evt.edges, rot := s.evt.rot },
           flt := { r.flt with storms := s.flt.storms, ctr := s.flt.ctr, roleEp := s.flt.roleEp, beat := s.flt.beat.map (fun _ => s.ns) },
           decs := decs, cols := cols, ports := [], frame := { r.frame with nextId := s.frame.nextId }, egs := [],
           bind := { r.bind with failedFrom := s.bind.failedFrom, mig0 := s.bind.mig0, mig1 := s.bind.mig1, poolWas := was },
           homes := (List.range 4).map (fun k => (k, { homeSt r k with rows := (homeSt s k).rows, scrubAt := s.ns })), homeG := { r.homeG with coarse := s.homeG.coarse },
           sec := { s.sec with linkKeys := [], sessions := [], armed := none },
           out := s.out ++ lostReads s, mgmt := { s.mgmt with pds := [], tokens := [], noc := [], nocRoom := [], nocSent := [] }, sum := r.sum, dmv := r.dmv, perf := r.perf, blks := [], blkG := r.blkG, throttle := [] }

/-- Every bring-in that ran has taken its unit: FLT.SPARE shows it, and the spare record is requested. A plane substitution completes first; how long it stalled is a free value (R104). -/
def endBringIns (s : State) : State :=
  let s := match s.frame.subst with | some b => substDone b (s.freeNat 12) s.spend | none => s
  if s.flt.bringIns.isEmpty then s
  else noteSpare (forL s.flt.bringIns (fun b s => setSpare b.cls b.old 1 s) { (s.set FRAME.PLANESTAT.SUBST 0) with flt := { s.flt with bringIns := [] } })

/-- One UC record for each binding of a shared LD, at WARM reset (R179). -/
def sharedLost (s : State) : State :=
  forL ((validBt s).filter (fun j => s.get BIND.BT.KIND j == 0 && s.on BIND.LD.SHARE (s.get BIND.BT.TARGET j)))
    (fun j s => reportEach (rec0 eHome kSharedReset 1 j) s) s

/-- The columns whose CFG a policy writes with APPLY at 1. -/
def polCols (r : JRec) : List Nat :=
  match r.body with
  | .policy ps => ps.filterMap (fun q => match hits COL.CFG.APPLY q.1 with | some (c, _) => if bitOf q.2 7 then some c else none | none => none)
  | _ => []

/-- A policy that a WARM reset catches up with takes its accepted APPLY (R36, R374); held values alone govern nothing. -/
def warmCols (cols : List Nat) (s : State) : State :=
  forL cols (fun c s =>
    if colHeld s c = (colSt s c).cfg then s
    else if bifurClash s c (colHeld s c % 4) || 6 ≤ s.get COL.CFG.MAXRATE c then s.set COL.STAT.CFG_ERR 1 c
    else colTake c (colHeld s c) s) s

/-- SEQs that a VOID record names, sealed or about to be written. -/
def voidNow (s : State) : List Nat :=
  let own (b : JBody) : List Nat := match b with | .void q => [q] | _ => []
  voidSeqs (validRecs (activeHalf s)) ++ s.boot.queue.flatMap (fun r => own r.body) ++ (match s.boot.cur with | some c => own c.recd.body | none => [])

/-- A record as a WARM reset applies it (R374): the access table, the units and the domain key hold newer values than a record could. -/
def catchUp (r : JRec) (s : State) : State :=
  match r.body with
  | .act .. => s
  | .spare _ => s
  | _ => applyRec { r with keys := r.keys.filter (fun k => k.slot != .domain) } s

/-- The rest of a WARM boot (R374): records whose change is not in force yet are applied, migrations and rotations resolve, and steps 7 to 9 follow. -/
def warmBoot (s : State) : State :=
  let h := activeHalf s
  let l := validRecs h
  let dead := voidNow s
  let dead := dead ++ abortedCommits (l.filter (fun q => !dead.contains q.1))
  let due := l.filter (fun q => (s.boot.applied < q.1 || s.boot.unapplied.contains q.1) && !dead.contains q.1)
  let s := forL due (fun q s => catchUp q.2 s) s
  let last := (l.map (·.1)).foldl max 0
  let s := { s with boot := { s.boot with applied := last, unapplied := [] } }.set BOOT.JSEQ.SEQ last
  let s := replayEnd (fillSync s)
  let s := warmCols (due.flatMap (fun q => polCols q.2)) (restoreUnits s)
  bootEnd (startNext (presenceInit (forN 32 slotApply s)))

/-- A WARM reset (R13, R134, R147, R177, R179, R284, R374, R385). It does not reload firmware or image; while the journal is sealed, boot waits in JOURNAL. -/
def warmReset (cause : Nat) (s : State) : State :=
  let old := endBringIns (boardFlush s)
  let old := warmMoves (warmJournal old)
  let fault := old.on FLT.STAT.FAULTN
  let stg := old.on ACT.COMMIT.STG_BUSY
  let dead := old.bind.dropKeys
  let s := warmUnits (warmRegs old)
  let s := forN 2 (fun m s => if (migSt s m).isSome then keepRegs migRegs m old s else s) s
  let s := forN 2 (fun r s => if (rotSt s r).isSome then keepRegs rotRegs r old s else s) s
  let s := fuseLoad s
  let s := if stg then (copyDown entLo entLen (entLo - stgLo) s).set ACT.STGCFG.DEFAULT (s.get ACT.CFG.DEFAULT) else s
  let s := s.setB ACT.COMMIT.SEALED (s.act.unsealed == 0)
  let s := (s.set BOOT.JSTAT.GEN (match (activeHalf s).header with | some h => h.1 | none => 0)).set BOOT.JSTAT.COMPACT (if s.boot.eraseLeft = 0 then 0 else 4)
  let s := forL dead (fun n s => if s.on BIND.LD.VALID n then s else dropLdKey n s) s
  let s := if dead.isEmpty then s else note (.key dead) [] s
  let s := (s.set GCTL.RSTSTAT.CAUSE cause).set GCTL.RSTSTAT.WARMCNT (s.get GCTL.RSTSTAT.WARMCNT + 1)
  let s := sharedLost s
  let s := if faultnHeld s then (if fault then s.set FLT.STAT.FAULTN 1 else assertFaultN s) else if fault then s.emit (.faultN false) else s
  if s.boot.img.isNone || s.get BOOT.STAT.PHASE = 9 then s
  else if sealedOff s then setState BOOT.STAT.PHASE 5 17 s
  else warmBoot s

/-- WARM_RESET (R13): WARM_RST_N. -/
def execWarmReset (s : State) : Result := .next (warmReset 1 s)

/-- BOOT_RELEASE (R371): a write of BOOT.CTL with RELEASE at 1 leaves HOLD. -/
def bootRelease (v : Nat) (s : State) : State := if bitOf v 0 && s.get BOOT.STAT.PHASE = 7 then runEnter s else s

/-- JRESET (R373): a write of BOOT.CTL with JRESET at 1, in RESULT JOURNAL, creates a new journal and resumes boot at step 6. -/
def jreset (v : Nat) (s : State) : State :=
  if bitOf v 1 && s.get BOOT.STAT.PHASE = 9 && s.get BOOT.STAT.RESULT = 4 then bootReplay (newJournal (s.set BOOT.STAT.RESULT 0)) else s

/-- A write of BOOT.CTL (R371, R373, R380). -/
def bootCtl (v : Nat) (s : State) : State := compactWrite v (jreset v (bootRelease v s))

/-- BOOT_RELEASE (R371). -/
def execBootRelease (v : Word) (s : State) : Result := atReg BOOT.CTL.RELEASE (fun s => .next (bootCtl v.toNat s)) s

/-- JRESET (R373). -/
def execJreset (v : Word) (s : State) : Result := atReg BOOT.CTL.JRESET (fun s => .next (bootCtl v.toNat s)) s

/-- COMPACT (R380). -/
def execCompact (v : Word) (s : State) : Result := atReg BOOT.CTL.COMPACT (fun s => .next (bootCtl v.toNat s)) s

/-- SEAL_RELEASE (R374, R382): the seal is released once PWRFAIL_N has been deasserted for PFREL; a WARM boot that waited for it goes on. -/
def execSealRelease (s : State) : Result :=
  .next (if !sealedOff s then s
    else
      let s := sealFree s
      if s.get BOOT.STAT.PHASE = 5 then warmBoot s else s)

/-- The result of an update (R384, R386). -/
def updResult (v : Nat) (s : State) : State := (s.set BOOT.UPDSTAT.BUSY 0).set BOOT.UPDSTAT.RESULT v

/-- Bytes of a slot in the default layout (R367). -/
def slotBytes (cfg : Bool) : Nat := if cfg then 4 * 2 ^ 20 else 8 * 2 ^ 20

/-- The non-preferred slot of a kind takes an image, or is erased. -/
def putSlotImage (cfg : Bool) (i : Option Image) (f : Flash) : Flash :=
  match f.desc with
  | none => f
  | some d =>
    if cfg then (if d.prefCfgB then { f with cfgA := i } else { f with cfgB := i })
    else (if d.prefFwB then { f with fwA := i } else { f with fwB := i })

/-- UPDATE (R384): a write of UPDCTL with GO at 1. The image is checked, and its slot erased and programmed; RESULT tells a refusal. -/
def execUpdate (v : Word) (i : Image) (s : State) : Result := atReg BOOT.UPDCTL.GO (fun s =>
  .next (let cfg := bitOf v.toNat 0
    let s := s.setB BOOT.UPDCTL.TARGET cfg
    if !bitOf v.toNat 1 then s
    else if s.on BOOT.UPDSTAT.BUSY || s.get BOOT.JSTAT.COMPACT = 3 then s.set BOOT.UPDSTAT.RESULT 5
    else if sealedOff s then updResult 6 s
    else if slotBytes cfg < s.get BOOT.UPDLEN.LEN || slotBytes cfg < i.len then updResult 7 s
    else if !s.boot.flash.answers || s.boot.flash.desc.isNone then updResult 4 s
    else
      match imageCheck (!cfg) (s.get BOOT.SECVER.SECVER) i s with
      | 0 => { (s.set BOOT.UPDSTAT.BUSY 1).set BOOT.UPDSTAT.RESULT 0 with
               boot := { s.boot with update := some (cfg, i), flash := putSlotImage cfg none s.boot.flash } }
      | 1 => updResult 2 s
      | 5 => updResult 3 s
      | 6 => updResult 2 s
      | _ => updResult 1 s)) s

/-- UPDATE_DONE (R384): the image reads back and the descriptor prefers its slot, or programming has failed. -/
def execUpdateDone (ok : Bool) (s : State) : Result :=
  .next (match s.boot.update with
    | none => s
    | some (cfg, i) =>
      if sealedOff s then s
      else
        let s := { s with boot := { s.boot with update := none } }
        if !ok then updResult 4 s
        else
          let f := putSlotImage cfg (some i) s.boot.flash
          let f := { f with desc := f.desc.map (fun d => if cfg then { d with prefCfgB := !d.prefCfgB, dseq := d.dseq + 1 } else { d with prefFwB := !d.prefFwB, dseq := d.dseq + 1 }) }
          updResult 0 { s with boot := { s.boot with flash := f } })

end Sys2Proof.Machine
end

