-- ==== Sys2Proof/Machine/Mgmt.lean ====
section
/-! DEFINITION. The management complex: ASSIST, timeouts and loss of the fabric manager, decision commands of functions 0 and 2, the FM port's mailbox and MCTP, NoC injection, clock-domain crossings and power domains (R26 to R29, R167, R389 to R402, R410, R417). -/

namespace Sys2Proof.Machine

/-- A directory set overflow is no longer held at its decision point (R167, R180). -/
def dirUnheld (n : Nat) (s : State) : State := s.set HOME.STAT.CQ_HELD 0 n

/-- The hardware-mode action of a decision (R27). -/
def hardware (f obj : Nat) (s : State) : State :=
  match f with
  | 0 => dirUnheld obj s
  | 1 => slotGo obj s
  | 2 => eqHardware obj s
  | 3 => ucAct obj s
  | 4 => if migPhase s obj = 2 then quiesceBegin obj s else s
  | 5 => spareGo obj s
  | 6 => rotGo obj s
  | _ =>
    match winOf s obj with
    | some x => if winState s obj = wHeld then lossAction x.loss obj s else s
    | none => s

/-- A held decision ends without a command: its closing event, then the hardware-mode action (R28, R338). -/
def lapse (flags id : Nat) (s : State) : State :=
  match look s.decs id with
  | some d => if d.stat != .held then s
    else
      let s := decEnd id .lapsed 26 flags s
      if d.void then s else hardware d.func d.obj s
  | none => s

/-- DECISION_TIMEOUT (R27). -/
def execDecisionTimeout (decid : BitVec 16) (s : State) : Result :=
  .next (match look s.decs decid.toNat with
    | some d => if d.stat = .held then lapse 0 decid.toNat (s.reach d.deadline) else s
    | none => s)

/-- A write of GCTL.ASSIST (R28): a held decision of a function whose bit clears ends at once. -/
def assistWrite (v : Nat) (s : State) : State :=
  let ids := (heldOf s (fun f => bitOf (s.get GCTL.ASSIST.MODE) f && !bitOf v f)).map (·.1)
  forL ids (lapse (2 ^ 28)) (s.set GCTL.ASSIST.MODE v)

/-- ASSIST_WRITE (R28). -/
def execAssistWrite (v : Word) (s : State) : Result := atReg GCTL.ASSIST.MODE (fun s => .next (assistWrite v.toNat s)) s

/-- Without a fabric manager every held decision ends (R29). -/
def orphan (s : State) : State :=
  if withoutFm s then forL ((heldOf s (fun _ => true)).map (·.1)) (lapse (2 ^ 29)) s else s

/-- FM_PORT_LINK_DOWN (R29). -/
def execFmPortLinkDown (s : State) : Result := .next (orphan { s with fmUp := false })

/-- FM_PERST (R417): the FM port's link and PF0 reset; sessions of its DOE instance end. -/
def execFmPerst (s : State) : Result :=
  .next (orphan { s with fmUp := false, sec := { s.sec with sessions := s.sec.sessions.filter (fun q => q.2 != fmDoe) } })

/-- FM_PORT_LINK_UP (R29, R345, R444, R445). -/
def execFmPortLinkUp (s : State) : Result :=
  .next (if s.scan || s.get TST.LB.CTL.MODE 40 != 0 then s else { s with fmUp := true })

/-- A column whose PLL has lost its reference (R320, R421; DEDUCED, log entry on lost clocks): it starts again, its ports see a surprise loss, and those that train fall back. A column that is OFF, or sleeps with its PLL off, uses no reference. -/
def columnUnclocked (c : Nat) (s : State) : State :=
  if s.get COL.STAT.CSTATE c = 0 || s.get COL.STAT.CSTATE c = 4 then s
  else
    forL (colPorts s c) (fun p s =>
      if pstate s p = 2 then setPstate p (restState s p) (setLtssm p 0 (scanLost p s)) else lose p .surprise 0 false s) ((setCstate c 1 s).set COL.STAT.PLL_LOCK 0 c)

/-- What fails with a reference clock (R320, R389, R421): every column, every Beamlink, or the FM port's link. -/
def clockLost (why : LineCause) (s : State) : State :=
  match why with
  | .refclk => forN 32 columnUnclocked s
  | .beamRefclk => forN 8 linkFail s
  | .fmRefclk => orphan { s with fmUp := false }
  | .warning => s
  | .critical => s

/-- ERROR_LINE_EDGE (R316, R320). -/
def execErrorLineEdge (line : Fin 36) (why : LineCause) (s : State) : Result :=
  let edge := lineEdge line s
  let s1 := if edge.1 then
      let p := lineRecord line why edge.2
      react p.1 (collect p.1 p.2.ns p.2)
    else edge.2
  .next (if line = 35 then clockLost why s1 else s1)

/-- MCTP_MESSAGE (R395): a request of the FM API opens the session and keeps it open. -/
def execMctpMessage (fmApi : Bool) (s : State) : Result :=
  .next (if fmApi then { s with mctpOpen := true, mgmt := { s.mgmt with mctpLast := s.ns } } else s)

/-- MCTP_SESSION_EXPIRY (R395): 10 s have passed without a request. -/
def execMctpSessionExpiry (s : State) : Result :=
  .next (if s.mctpOpen then orphan { s.reach (s.mgmt.mctpLast + 10000000000) with mctpOpen := false } else s)

/-- FM_API_COMMAND (R390): a query and a vendor opcode that no rule names change nothing in the device; a tunnelled command goes to the pool device. The completion raises vector 1 (R389). -/
def execFmApiCommand (c : FmApi) (s : State) : Result :=
  .next (match c with
    | .query _ => fmDone s
    | .vendor _ => fmDone s
    | .tunnel p o =>
      let s := if isUp s p && s.on PORT.CFG.POOL p then s.emit (.link p ⟨.pcieMsg, 0, o, 0, .noOp, [], 0, false, 0, .ok, 0⟩) else s
      fmDone s)

/-- DIR_QUEUE (R167, R392): as in hardware mode. -/
def execDirQueue (d : Decide) (s : State) : Result := .next (answer 0 d (decide (d.obj < 4)) dirUnheld s)

/-- DIR_THROTTLE (R167, R392): requests of the named ports wait until the carry queue falls to 64; a queue that has fallen so far already stops nothing. -/
def execDirThrottle (d : Decide) (mask : BitVec 64) (s : State) : Result :=
  .next (answer 0 d (decide (d.obj < 4)) (fun n s => dirUnheld n (if carryLen s n ≤ 64 then s else { s with throttle := put s.throttle n mask.toNat })) s)

/-- EQ_ACCEPT (R51, R392). -/
def execEqAccept (d : Decide) (s : State) : Result := .next (answer 2 d (decide (d.obj < 64)) recordFinal s)

/-- EQ_REDO (R51, R392): from a named preset, or 15 for the next-best one. -/
def execEqRedo (d : Decide) (preset : Fin 256) (s : State) : Result :=
  .next (answer 2 d (preset.val ≤ 10 || preset.val == 15) (fun p s => redoEq p (if preset.val ≤ 10 then some preset.val else none) s) s)

/-- Each lane of a port with the coefficients that EQ_OVERRIDE gives it. -/
def ovrLanes (s : State) (p : Nat) (taps : List (Nat × Nat)) : List ((Nat × Nat) × Nat × Nat) :=
  let ls := lanesOf s p
  (List.range ls.length).zip ls |>.map (fun q => (q.2, nthD taps q.1 (0, 0)))

/-- EQ_OVERRIDE (R42, R43, R51, R392): every lane's pair is checked; then each applies as if written through LCTL, and the coefficients are final. -/
def execEqOverride (d : Decide) (taps : List (Nat × Nat)) (s : State) : Result :=
  .next (answer 2 d ((ovrLanes s d.obj taps).all (fun q => coeffOk q.2.1 q.2.2)) (fun p s =>
    recordFinal p (forL (ovrLanes s p taps) (fun q s =>
      let (c, l) := q.1
      applyOvr c l q.2.1 q.2.2 (((s.set COL.LANE.LCTL.OVR_EN 1 c l).set COL.LANE.LCTL.OVR_PRE q.2.1 c l).set COL.LANE.LCTL.OVR_POST q.2.2 c l)) s)) s)

/-- Tokens of a router's regulator now, in thousandths of a flit: one flit per µs adds one for each ns (R398). A bucket not drawn on yet is full. -/
def nocTokens (s : State) (r : Nat) : Nat :=
  let top := 1000 * s.get NOC.RATE.BURST r
  match look s.mgmt.tokens r with
  | none => top
  | some (n, t) => min top (n + (s.ns - t) * s.get NOC.RATE.RATE r)

/-- Flits of the longest response: a header flit and 256 B of data (R396). -/
def rspFlits : Nat := 17

/-- A request that enters the mesh; a regulated one takes its tokens. -/
def nocEnter (r flits : Nat) (s : State) : State :=
  let s := perf (278 + r) 0x10 flits none (s.emit (.noc r flits))
  let s := { s with mgmt := { s.mgmt with nocSent := s.mgmt.nocSent ++ [r] } }
  if s.get NOC.RATE.RATE r = 0 then s
  else { s with mgmt := { s.mgmt with tokens := put s.mgmt.tokens r (nocTokens s r - 1000 * flits, s.ns) } }

def nocFits (s : State) (r flits : Nat) : Bool := s.get NOC.RATE.RATE r == 0 || 1000 * flits ≤ nocTokens s r

/-- Waiting requests enter in order, each once its router has the tokens. -/
def nocDrain (s : State) : State :=
  (s.mgmt.noc).foldl (fun s q =>
    if !(s.mgmt.noc.any (fun w => w.1 == q.1)) && nocFits s q.1 q.2 then nocEnter q.1 q.2 s
    else { s with mgmt := { s.mgmt with noc := s.mgmt.noc ++ [q] } }) { s with mgmt := { s.mgmt with noc := [] } }

/-- The epoch that a packet carries is not the one of its sender's position, or the sender is FENCED (R332). -/
def nocStale (s : State) (sender : Option (Fin 6 × Nat × BitVec 8)) : Bool :=
  match sender with
  | none => false
  | some (c, i, ep) => s.get FLT.UNIT.STATE c i == 2 || s.get FLT.UNIT.EPOCH c i != ep.toNat

/-- NOC_REQUEST_INJECT (R332, R397, R398): the endpoint has reserved room for the whole response, and the request waits for its tokens. A stale one is discarded. -/
def execNocRequestInject (r : Fin 36) (q : NocRequest) (s : State) : Result :=
  .next (if nocStale s q.sender then nocDiscard s
    else nocDrain { s with mgmt := { s.mgmt with noc := s.mgmt.noc ++ [(r.val, q.flits)], nocRoom := s.mgmt.nocRoom ++ [(r.val, rspFlits)] } })

/-- The responses of the requests in the mesh: each is taken as it arrives, whatever waits at injection or is powered down, and its room is free again (R397). When a response comes is timing, so it comes while no command waits. -/
def nocSink (s : State) : State :=
  forL s.mgmt.nocSent (fun r s =>
    let room := match takeFirst (fun q => q.1 == r) s.mgmt.nocRoom with | some (_, rest) => rest | none => s.mgmt.nocRoom
    ({ s with mgmt := { s.mgmt with nocRoom := room } }).emit (.nocRsp r)) { s with mgmt := { s.mgmt with nocSent := [] } }

/-- What passes while no command waits: a core clock, the training of ports, responses of the NoC, and requests for which tokens have come. -/
def idle (s : State) : State :=
  let s := nocSink (trainTick (tick s))
  if s.mgmt.noc.isEmpty then s else nocDrain s

/-- CDC_OVERRUN (R402): the access is dropped, the first crossing is held until COUNT is read, and a record names the crossing in OBJ and the block that holds it in DETAIL (log entry on crossings). -/
def execCdcOverrun (crossing : Fin 256) (unit : ErrRec) (s : State) : Result :=
  let s := if s.get NOC.CDCSTAT.COUNT = 0 then s.set NOC.CDCSTAT.FIRST crossing else s
  let s := flag NOC.ESTAT.CDC_OVR 19 (s.bump NOC.CDCSTAT.COUNT)
  .next (report { rec0 eCdc kCdcOverrun 1 crossing with addr := unit.addr, akind := unit.akind, detail := unit.src % 4096 } s)

/-- A domain may power down (R399). The internal queue of the data mover holds the work of migrations, rotations and erases. -/
def pdAllowed (s : State) (d : Nat) : Bool :=
  if d < 8 then !s.on BLK.CFG.EN d
  else if d = 8 then s.get FLT.UNIT.STATE 1 4 == 1
  else if d = 9 then
    (List.range 256).all (fun f => fnState s f != fRun && fnState s f != fFreezing)
      && s.dmv.erase.isNone && s.bind.mig0.isNone && s.bind.mig1.isNone && s.sec.rot0.isNone && s.sec.rot1.isNone
  else if d < 12 then
    (List.range 512).all (fun w => sumEng s w + 10 != d || winState s w == 0) && s.sum.atoms.all (fun a => a.2.eng + 10 != d)
  else !s.on PERF.TSCFG.EN

/-- POWER_DOWN_START (R399): a permitted domain that has been idle enters DRAINING. -/
def execPowerDownStart (d : Fin 13) (s : State) : Result :=
  .next (if pdOn s d && s.on NOC.PD.CTL.AUTO d && pdAllowed s d then setPdState d 1 s else s)

/-- POWER_DOWN_ABORT (R400): a packet arrives in DRAINING. -/
def execPowerDownAbort (d : Fin 13) (s : State) : Result :=
  .next (if pdState s d = 1 then pdWake d s else s)

/-- POINT_OF_NO_RETURN (R400): the clamps engage, and the domain completes its power-off; from DRAINING to OFF is one step (log entry on power domains). -/
def execPointOfNoReturn (d : Fin 13) (s : State) : Result :=
  .next (if pdState s d = 1 && pdAllowed s d then setPdState d 2 (setPd d { pdSt s d with wake := false, offAt := s.ns } s) else s)

/-- MIN_OFF_EXPIRY (R400): with a wake pending, the domain enters WAKING after 20 µs OFF. -/
def execMinOffExpiry (d : Fin 13) (s : State) : Result :=
  .next (if pdState s d = 2 && (pdSt s d).wake then setPdState d 3 (s.reach ((pdSt s d).offAt + 20000)) else s)

/-- A write of NOC.PD[d].CTL (R410). -/
def pdCtl (d v : Nat) (s : State) : State :=
  let s := putRw 32 [NOC.PD.CTL.AUTO, NOC.PD.CTL.IDLE] v d 0 s
  if bitOf v 16 then pdWake d s else s

/-- DOMAIN_WAKE (R400, R408, R410). -/
def execDomainWake (d : Fin 13) (v : Word) (s : State) : Result := atReg NOC.PD.CTL.WAKE (fun s => .next (pdCtl d v.toNat s)) s

end Sys2Proof.Machine
end

