-- ==== Sys2Proof/Machine/Tst.lean ====
section
/-! DEFINITION. Test: boundary scan, loopbacks and patterns, and arming of fault injection (R441 to R450). -/

namespace Sys2Proof.Machine

/-- The test features act, as the life-cycle fuses decode (R441). -/
def tstLive (s : State) : Bool := s.fuses.lc == 0 || s.fuses.lc == 1 || s.fuses.lc == 3

/-- A feature is armed or running (R441). -/
def tstActive (s : State) : Bool :=
  s.on TST.INJSTAT.BUSY
    || (List.range 41).any (fun u => s.get TST.LB.CTL.MODE u != 0 || s.on TST.LB.CTL.GEN u || s.on TST.LB.CTL.CHK u)
    || (List.range 80).any (fun x => s.get TST.PERT.DELAY.DLY x != 0 || s.get TST.PERT.DELAY.JIT x != 0
        || (s.get TST.PERT.BP.PERIOD x != 0 && s.get TST.PERT.BP.ON x != 0))
    || (List.range 4).any (fun n => s.get TST.HOMEPERT.SNPDLY n != 0)

/-- The boot ROM waits for JTAG under BOOT_MODE 3 (R371). -/
def romWaits (s : State) : Bool := s.get BOOT.STAT.PHASE == 0 && s.get BOOT.STAT.MODE == 3 && debugOpen s

/-- DAPACC is selected or deselected: the DEBUG event and DBGCTL.ACTIVE (R291, R342). -/
def dapSelect (on_ : Bool) (s : State) : State := raise 1156 0 (b2n on_) (s.setB SEC.DBGCTL.ACTIVE on_)

/-- What the links do when the boundary cells take the pins (R444). -/
def pinsTaken (s : State) : State :=
  let s := forN 64 (fun p s => lose p .surprise 0 false s) s
  let s := forN 8 (fun n s => linkFail n s) s
  orphan { s with fmUp := false }

/-- An instruction is selected at the test port (R442 to R444): the one before it is deselected, with a WARM reset where its boundary cells drove the pins. The cause that RSTSTAT shows for that reset is a free value. A boot ROM that waits for JTAG goes on. -/
def jtagSelect (op : Nat) (s : State) : State :=
  let old := s.mgmt.jtag
  let drove := s.scan
  let s := { s with mgmt := { s.mgmt with jtag := op } }
  let s := if romWaits s then bootFuses s else s
  let s := if drove && old != op then warmReset (1 + s.freeNat 1) s.spend else s
  let s := if old = 0x10 && op != 0x10 then dapSelect false s else if op = 0x10 && old != 0x10 then dapSelect true s else s
  if s.scan && !(drove && old == op) then pinsTaken s else s

/-- A pin has a cell that drives it, or one that observes it (R443). -/
def pinDrives (p : Pin) : Bool := match p.cell with | .acTransmit | .controlObserve | .openDrain => true | .acReceive | .observe => false

def pinObserves (p : Pin) : Bool := p.cell != .acTransmit

/-- Every pin of the boundary register (R443). -/
def pinList : List Pin :=
  (List.finRange 32).flatMap (fun c => (List.finRange 16).flatMap (fun l => [.fabTx c l, .fabRx c l]))
    ++ (List.finRange 16).flatMap (fun l => [.fmTx l, .fmRx l])
    ++ (List.finRange 64).map .clkreqN ++ [.fmClkreqN, .fmPerstN, .resetN, .warmRstN, .pwrfailN, .faultN]
    ++ (List.finRange 3).map .cascadeId ++ (List.finRange 2).map .bootMode ++ [.spiClk, .spiCsN] ++ (List.finRange 4).map .spiIo
    ++ [.i3cScl, .i3cSda, .trefIn, .ppsIn, .ppsOut]
    ++ (List.finRange 32).flatMap (fun n => [.slotPg n, .slotWarn n, .slotSeatA n, .slotSeatB n]) ++ [.vin12Sns]

/-- The pins of one kind whose cells hold 1 where each cell holds a free value. -/
def pinsFree (f : Pin → Bool) (s : State) : List Pin :=
  ((pinList.filter f).zipIdx.filter (fun q => bitOf (Config.free (s.free + q.2)).toNat 0)).map (·.1)

/-- A scan of the boundary register: the observe cells capture their pins and shift out, and the driving cells take what was shifted in (R442, R443). What the pins show and what the tester shifts in are free values. -/
def boundaryScan (s : State) : State :=
  let n := pinList.length
  let seen := pinsFree pinObserves s
  let load := pinsFree pinDrives { s with free := s.free + n }
  ({ s with free := s.free + 2 * n, mgmt := { s.mgmt with bdrive := load, bseen := seen } }).emit (.captured seen)

/-- The driving cells hold the pins (R444). -/
def drivePins (s : State) : State := s.emit (.pins s.mgmt.bdrive)

/-- An instruction that drives the pins from the boundary register is selected, and the register is scanned under it. -/
def extestWith (op : Nat) (s : State) : State := drivePins (boundaryScan (drivePins (jtagSelect op s)))

/-- EXTEST (R442, R444). -/
def execExtest (s : State) : Result := .next (extestWith 0 s)

/-- CLAMP (R442, R444): the pins follow the boundary register, and the bypass register is scanned. -/
def execClamp (s : State) : Result := .next (drivePins (jtagSelect 3 s))

/-- HIGHZ (R442, R444). -/
def execHighz (s : State) : Result := .next ((jtagSelect 4 s).emit .pinsReleased)

/-- EXTEST_PULSE (R442, R444). -/
def execExtestPulse (s : State) : Result := .next (extestWith 5 s)

/-- EXTEST_TRAIN (R442, R444). -/
def execExtestTrain (s : State) : Result := .next (extestWith 6 s)

/-- IDCODE (R442): the device identification register. -/
def execIdcode (s : State) : Result :=
  .next ((jtagSelect 1 s).emit (.tdo (s.get GCTL.REV.MINOR * 2 ^ 28 + 0x8512 * 2 ^ 12 + 0x4F3 * 2 + 1)))

/-- SAMPLE/PRELOAD (R442): the boundary register is scanned while the core logic keeps the pins. -/
def execSamplePreload (s : State) : Result := .next (boundaryScan (jtagSelect 2 s))

/-- DAPACC (R289, R442). -/
def execDapacc (s : State) : Result := .next (jtagSelect 0x10 s)

/-- BYPASS (R442). -/
def execBypass (s : State) : Result := .next (jtagSelect 0xFF s)

/-- JTAG_DESELECT (R444): Test-Logic-Reset, in which IDCODE is selected (PRESUMED, IEEE 1149.1). -/
def execJtagDeselect (s : State) : Result := .next (jtagSelect 1 s)

/-- The ports whose lanes lie in a column, borrowed ones included. -/
def portsIn (s : State) (c : Nat) : List Nat := (List.range 64).filter (fun p => (lanesOf s p).any (fun q => q.1 == c))

/-- The port of the lowest lane of a mask. -/
def leadPort (s : State) (c lanes : Nat) : Option Nat :=
  match (List.range 16).find? (fun l => bitOf lanes l) with
  | some l => portOfLane s c l
  | none => none

/-- The condition of a mode for a lane group (R445). -/
def lbMode (s : State) (u mode lanes : Nat) : Bool :=
  if mode = 0 then true
  else if mode = 3 then u < 32 && (match leadPort s u lanes with | some p => isUp s p | none => false)
  else if u < 32 then (portsIn s u).all (fun p => pstate s p ≤ 1)
  else if u < 40 then lstate s (u - 32) == lOff || lstate s (u - 32) == lDown
  else !s.fmUp

/-- A pattern that a lane group cannot send (R446): columns run at MAXRATE, Beamlinks with PAM4 and the FM port at 32 GT/s. -/
def patBad (s : State) (u pat : Nat) (used : Bool) : Bool :=
  let pam := if u < 32 then s.get COL.CFG.MAXRATE u == 5 else decide (u < 40)
  8 ≤ pat || (used && (pat == 5 || pat == 6) && !pam) || (used && 32 ≤ u && u < 40 && pat < 5)

/-- A write of TST.LB[u].CTL (R445, R446). A mode that stays as it is needs no condition. -/
def lbWrite (u v : Nat) (s : State) : State :=
  let mode := bitsOf v 0 2
  let old := s.get TST.LB.CTL.MODE u
  let lead := leadPort s u (s.get TST.LB.CTL.LANES u)
  if !tstLive s then s
  else if (mode != old && !lbMode s u mode (bitsOf v 8 16)) || patBad s u (bitsOf v 2 4) (bitOf v 6 || bitOf v 7) then s.set TST.ESTAT.REFUSED 1
  else
    let s := putRw 32 [TST.LB.CTL.MODE, TST.LB.CTL.PAT, TST.LB.CTL.GEN, TST.LB.CTL.CHK, TST.LB.CTL.LANES] v u 0 s
    let s := forN 16 (fun l s => if bitOf v 7 && bitOf v (8 + l) then s else s.set TST.LB.ERR.LOCK 0 u l) s
    let s := if old = 3 && mode != 3 then (match lead with | some p => lose p .orderly 0 false s | none => s) else s
    if mode = old then s
    else if mode = 3 then (match leadPort s u (bitsOf v 8 16) with | some p => setLtssm p 0x0E (scanLost p s) | none => s)
    else if mode = 0 && u < 32 then forL (portsIn s u) detect s
    else if mode = 0 && u < 40 && s.on BLK.CFG.EN (u - 32) && lstate s (u - 32) == lOff then trainStart (u - 32) s
    else s

/-- LOOPBACK_NEAR (R445). -/
def execLoopbackNear (u : Fin 41) (v : Word) (s : State) : Result := atReg TST.LB.CTL.MODE (fun s => .next (lbWrite u v.toNat s)) s

/-- LOOPBACK_FAR (R445). -/
def execLoopbackFar (u : Fin 41) (v : Word) (s : State) : Result := atReg TST.LB.CTL.MODE (fun s => .next (lbWrite u v.toNat s)) s

/-- LOOPBACK_LEAD (R445). -/
def execLoopbackLead (u : Fin 41) (v : Word) (s : State) : Result := atReg TST.LB.CTL.MODE (fun s => .next (lbWrite u v.toNat s)) s

/-- PATTERN_CONTROL (R446). -/
def execPatternControl (u : Fin 41) (v : Word) (s : State) : Result := atReg TST.LB.CTL.GEN (fun s => .next (lbWrite u v.toNat s)) s

/-- PATTERN_CHECK_LOCK (R446): a checked lane's checker locks, or loses its lock. -/
def execPatternCheckLock (u : Fin 41) (l : Fin 16) (lock : Bool) (s : State) : Result :=
  .next (if tstLive s && s.on TST.LB.CTL.CHK u && bitOf (s.get TST.LB.CTL.LANES u) l then s.setB TST.LB.ERR.LOCK lock u l else s)

/-- Instances of an injection domain (R448). -/
def injCount (dom : Nat) : Nat := nthD [4, 5, 80, 2, 8, 8, 64, 1, 5] dom 0

/-- An ARM write that R449 refuses. -/
def injRefused (s : State) (dom inst bits count : Nat) : Bool :=
  s.on TST.INJSTAT.BUSY || 8 < dom || injCount dom ≤ inst || (bits == 3 && dom != 0) || count == 0
    || (match injClass dom with | some c => s.get FLT.UNIT.STATE c inst == 2 | none => false)

/-- The fields of TST.INJCTL that a write stores (R448). -/
def injFields : List Ent := [TST.INJCTL.DOMAIN, TST.INJCTL.INST, TST.INJCTL.BITS, TST.INJCTL.COUNT, TST.INJCTL.GAP]

/-- A write of TST.INJCTL (R448, R449). -/
def injWrite (v : Nat) (s : State) : State :=
  if !tstLive s then s
  else if !bitOf v 30 then putRw 32 injFields v 0 0 s
  else if injRefused s (bitsOf v 0 4) (bitsOf v 4 7) (bitsOf v 11 2) (bitsOf v 13 8) then s.set TST.ESTAT.REFUSED 1
  else
    let s := ((putRw 32 injFields v 0 0 s).set TST.INJSTAT.BUSY 1).set TST.INJSTAT.FIRED 0
    { s with mgmt := { s.mgmt with injAt := none } }

/-- INJECT_ARM (R448, R449). -/
def execInjectArm (v : Word) (s : State) : Result := atReg TST.INJCTL.ARM (fun s => .next (injWrite v.toNat s)) s

end Sys2Proof.Machine
end

