-- ==== Sys2Proof/Machine/Space.lean ====
section
/-! DEFINITION. The management space as a master reads and writes it: mirrors, latches, restricted states, registers whose writes act, BLOCK resets and policies (R10 to R14, R343, R344, R357, R372, R383, R431 to R440). -/

namespace Sys2Proof.Machine

/-- The state that a meaning leaves. -/
def run (r : Result) (s : State) : State :=
  match r with
  | .next t => t
  | _ => s

/-- A field and the value that a read shows for it in place of what is stored. -/
abbrev Shown := Ent × Nat × Nat × Nat

/-- GCTL.STAT mirrors the registers named in R440. -/
def gctlMirror (s : State) : List Shown :=
  let low := s.on FLT.SPARE.PLANE || s.on FLT.SPARE.CORE || s.on FLT.SPARE.ROW || s.on FLT.SPARE.LANE || s.on FLT.SPARE.HOME || s.on FLT.SPARE.SUM
  [(GCTL.STAT.RUN, 0, 0, b2n s.running), (GCTL.STAT.SAFE, 0, 0, b2n s.safe), (GCTL.STAT.FAULTN, 0, 0, s.get FLT.STAT.FAULTN),
   (GCTL.STAT.SPARE_LOW, 0, 0, b2n low), (GCTL.STAT.HALF_RATE, 0, 0, s.get FRAME.PLANESTAT.HALF_RATE),
   (GCTL.STAT.SEALED, 0, 0, s.get BOOT.STAT.SEALED), (GCTL.STAT.HELD, 0, 0, b2n (s.on GCTL.ASTAT.HELD)),
   (GCTL.STAT.LC, 0, 0, s.get SEC.LCSTAT.STATE), (GCTL.STAT.CASCADE, 0, 0, s.straps.cascadeId.val),
   (GCTL.STAT.MASTER, 0, 0, s.get BLKC.CSTAT.IS_MASTER), (GCTL.STAT.TSTATE, 0, 0, s.get TIME.STAT.STATE)]

/-- TIME.NOW, ERR and SLEWING (R403, R404, R409). -/
def timeMirror (s : State) : List Shown :=
  [(TIME.STAT.SLEWING, 0, 0, b2n (s.mgmt.slew != 0)), (TIME.NOW.NS, 0, 0, s.ns % 2 ^ 64), (TIME.ERR.EST_ERR, 0, 0, estErr s)]

/-- CORE[c].CSTAT: the interrupt input, the sources ACTIVE, and the role (R343, R351). -/
def coreMirror (s : State) (c : Nat) : List Shown :=
  let act := (s.evt.claimed.filter (fun q => s.get EVT.SRC.CORE q.1 == c)).length
  let role := (List.range 4).find? (fun r => roleCore s r == some c)
  [(EVT.CORE.CSTAT.IRQ, c, 0, b2n (!(evClaimable s c).isEmpty)), (EVT.CORE.CSTAT.ACTIVE, c, 0, act),
   (EVT.CORE.CSTAT.ROLEVALID, c, 0, b2n role.isSome), (EVT.CORE.CSTAT.ROLE, c, 0, role.getD 0)]

/-- The µs left on a window's timer, rounded up (R196). -/
def winLeft (s : State) (n w : Nat) : Nat :=
  if sumEng s w = n then
    (match winOf s w with
     | some x => (match x.deadline with | some t => ceilDiv (t - s.ns) 1000 | none => 0)
     | none => 0)
  else 0

/-- GCLSTAT and the depth of an egress queue as they stand now (R117, R118, R124). -/
def egressMirror (s : State) (a : Nat) : List Shown :=
  match hits FRAME.EG.GCLSTAT.RUN a, hits FRAME.EG.Q.DEPTH.LIVE a with
  | some (x, _), _ =>
    let pend := match (egSt s x).pend with | some (_, st) => decide (s.ns < st) | none => false
    (FRAME.EG.GCLSTAT.PENDING, x, 0, b2n pend) ::
      (match runNow s x with
       | some (l, b) => [(FRAME.EG.GCLSTAT.RUN, x, 0, 1), (FRAME.EG.GCLSTAT.LIST, x, 0, l), (FRAME.EG.GCLSTAT.ENTRY, x, 0, (gclAt s x l b s.ns).1),
                         (FRAME.EG.GCLSTAT.CLOSED_TC, x, 0, closedTcs s x l)]
       | none => [])
  | none, some (x, t) => [(FRAME.EG.Q.DEPTH.LIVE, x, t, min 2047 (qdepth s x t))]
  | none, none => []

/-- The reserved bits of a staged entry read 0, in the layout that its TYPE selects; a binding entry's EPOCH is ignored (R11, R148). -/
def stgMirror (s : State) (i : Nat) : List Shown :=
  let mask := if s.on BIND.STG.TYPE i then 0xFFFF + 0xFFFFF * 2 ^ 32 + 0xFFFFF * 2 ^ 64 else 0x7FFFFFFF
  [(BIND.STG.VALUE, i, 0, Nat.land (s.get BIND.STG.VALUE i) mask)]

/-- What a read at byte address `a` shows in place of stored fields. -/
def mirrors (s : State) (a : Nat) : List Shown :=
  if a < 0x100000 then gctlMirror s
  else if 0x500000 ≤ a && a < 0x600000 then timeMirror s
  else if 0x300000 ≤ a && a < 0x400000 then
    (match hits EVT.CORE.CSTAT.IRQ a with | some (c, _) => coreMirror s c | none => [])
  else if 0x8000000 ≤ a && a < 0x8400000 then
    (match hits SUM.WIN.TREM a with | some (n, w) => [(SUM.WIN.TREM, n, w, winLeft s n w)] | none => [])
  else if 0x8400000 ≤ a && a < 0x8500000 then
    (match hits DMV.FN.FSTAT.STATE a with
     | some (f, _) => [(DMV.FN.FSTAT.STATE, f, 0, fnState s f), (DMV.FN.FSTAT.BOUND, f, 0, b2n (fnBinding s f).isSome),
                       (DMV.FN.FSTAT.HOST, f, 0, match fnBinding s f with | some (h, _) => h | none => 0)]
     | none => [])
  else if 0xa00000 ≤ a && a < 0xb00000 then [(TST.STAT.LIVE, 0, 0, b2n (tstLive s)), (TST.STAT.ACTIVE, 0, 0, b2n (tstActive s)), (TST.STAT.JTAG, 0, 0, b2n s.scan)]
  else if 0x2900000 ≤ a && a < 0x2980000 then egressMirror s a
  else if 0x3001000 ≤ a && a < 0x3001400 then stgMirror s ((a - 0x3001000) / 16)
  else if a = 0x2800004 then [(FRAME.PLANESTAT.SPARE, 0, 0, (sparePlane s).getD 7)]
  else []

/-- The word that a read at byte address `a` shows. -/
def liveWord (s : State) (a : Nat) : Nat := (forL (mirrors s a) (fun q s => s.set q.1 q.2.2.2 q.2.1 q.2.2.1) s).rd a

/-- The odd port of a pair that runs as x16: its registers stand at their reset values (R17). -/
def idleHalf (s : State) (a : Nat) : Bool :=
  if 0x1000000 ≤ a && a < 0x2000000 then behindX16 s ((a - 0x1000000) / 0x40000)
  else if 0x2900000 ≤ a && a < 0x2980000 then behindX16 s ((a - 0x2900000) / 0x2000)
  else false

/-- Restricted states: what a read returns where the register is not served live (R285, R326, R372, R433, R441). -/
def closedWord (s : State) (a : Nat) : Option Nat :=
  let lc := a == 0x600000
  if ended s then (if a = 0 || lc then none else some 0)
  else if s.safe then (if a < 0x100000 || (0x200000 ≤ a && a < 0x300000) || lc then none else some 0)
  else if 0xa00000 ≤ a && a < 0xb00000 && !tstLive s then some 0
  else if !s.running && !(a < 0x300000 || lc) then some (State.reset.rd a)
  else if idleHalf s a then some (State.reset.rd a)
  else none

/-- The odd counter that a chained even counter latches (R357): byte address of its VALUE. -/
def chainedOdd (s : State) (a : Nat) : Option Nat :=
  match hits PERF.CNT.VALUE.COUNT a with
  | some (i, k) => if k % 2 = 0 && s.on PERF.CNT.SEL.CHAIN i k then some (PERF.CNT.VALUE.COUNT.key i (k + 1) / 8) else none
  | none => none

/-- The upper half of a 64-bit register is latched, and the RC fields of both words clear (R10, R12); TIME.FRAC is latched with NOW (R409), and a chained counter with its even one (R357). -/
def latchHigh (a : Nat) (s : State) : State :=
  let s := { s with latch := put s.latch (a + 4) (liveWord s (a + 4)) }
  let s := match chainedOdd s a with
    | some b => { s with latch := put (put s.latch b (s.rd b)) (b + 4) (s.rd (b + 4)) }
    | none => s
  let s := if a = 0x500008 then s.set TIME.FRAC.FRAC (s.now % 2 ^ 16) else s
  (s.clearRc a).clearRc (a + 4)

/-- PEAK is the largest IN_USE since the last read, so it begins again at what is in use (R80). -/
def tagPeak (a : Nat) (s : State) : State := match hits PORT.TAGSTAT.PEAK a with | some (p, _) => tagSync p s | none => s

/-- A read of CORE[c].CLAIM by core c (R343), which counts when it claims a record (R354). -/
def coreClaim (c : Nat) (s : State) : Nat × State :=
  let r := evClaim c s
  (r.1, if r.1 = 0 then r.2 else perf (314 + c) 0x11 1 none r.2)

/-- CLAIM (R343): only core c claims, and any other master reads 0; a fenced core's read is discarded at NoC ingress (R332). -/
def execClaim (m : Master) (c : Fin 5) (s : State) : Result :=
  let a := EVT.CORE.CLAIM.SRC.key c 0 / 8
  .next (if m = .core c then
      if coreFenced s c then nocDiscard s
      else
        let r := coreClaim c s
        r.2.emit (.rdata m a r.1)
    else s.emit (.rdata m a 0))

/-- A read of an aligned word: the value, and what the read does (R10, R12, R343, R357). -/
def readWord (m : Master) (a : Nat) (s : State) : Nat × State :=
  match closedWord s a with
  | some v => (v, s)
  | none =>
    match hits EVT.CORE.CLAIM.SRC a with
    | some (c, _) => (match m with | .core d => if d.val = c then coreClaim c s else (0, s) | _ => (0, s))
    | none =>
      match look s.latch a with
      | some v => (v, { s with latch := del s.latch a })
      | none =>
        let s := match hits FLT.REC.RECORD a with | some (i, _) => ringCheck i s | none => s
        (liveWord s a, tagPeak a (if wideLow a then latchHigh a s else s.clearRc a))

/-- The power domain that holds a register (R399). -/
def regDomain (a : Nat) : Option Nat :=
  if 0x2400000 ≤ a && a < 0x2500000 then (if (a - 0x2400000) % 0x20000 < 0x10000 then some ((a - 0x2400000) / 0x20000) else none)
  else if 0x8000000 ≤ a && a < 0x8400000 then some (10 + (a - 0x8000000) / 0x200000)
  else if 0x8400000 ≤ a && a < 0x8500000 then some 9
  else if 0x440000 ≤ a && a < 0x460000 then some 12
  else none

/-- An access to the register at byte address `a`: it waits where the register's domain is not ON (R400, R433). -/
def atAddr (a : Nat) (c : Instr) (f : State → Result) (s : State) : Result :=
  match regDomain a with
  | some d => if s.running && !s.safe && !ended s then toDomain d c f s else f s
  | none => f s

/-- A fenced core's accesses are discarded at NoC ingress (R332). -/
def fencedMaster (m : Master) (s : State) : Bool :=
  match m with
  | .core c => coreFenced s c
  | _ => false

/-- An access in a form that the space does not serve: a read returns 0, a write is discarded, and GCTL.ESTAT.ACCESS sets (R432). -/
def badForm (m : Master) (write : Bool) (a : Nat) (s : State) : State :=
  let s := s.set GCTL.ESTAT.ACCESS 1
  if write then s else s.emit (.rdata m a 0)

/-- A read of the management space (R10, R432, R433). -/
def busRead (m : Master) (a : Nat) (c : Instr) (s : State) : Result :=
  if fencedMaster m s then .next (nocDiscard s)
  else if a % 4 != 0 then .next (badForm m false a s)
  else atAddr a c (fun s => .next ((readWord m a s).2.emit (.rdata m a (readWord m a s).1))) s

/-- The registers that a BLOCK reset names: first byte and length (R438). -/
def blockRange (u i : Nat) : Option (Nat × Nat) :=
  let one (lo n : Nat) : Option (Nat × Nat) := if i = 0 then some (lo, n) else none
  let many (k lo n len : Nat) : Option (Nat × Nat) := if i < k then some (lo + i * n, len) else none
  match u with
  | 0x01 => many 64 0x1000000 0x40000 0x40000
  | 0x02 => many 32 0x2000000 0x20000 0x20000
  | 0x03 => many 8 0x2400000 0x20000 0x10000
  | 0x04 => many 80 0x2810000 0x1000 0x1000
  | 0x05 => many 64 0x2900000 0x2000 0x2000
  | 0x06 => many 4 0x4000000 0x400000 0x400000
  | 0x07 => many 2 0x8000000 0x200000 0x200000
  | 0x08 => one 0x8400000 0x100000
  | 0x09 => one 0x3000000 0x1000000
  | 0x0A => one 0x700000 0x100000
  | 0x0B => one 0x600000 0x100000
  | 0x0C => many 32 0x800000 0x1000 0x1000
  | 0x0D => one 0x820000 0xe0000
  | 0x0E => one 0x200000 0x100000
  | 0x0F => one 0x300000 0x100000
  | 0x10 => one 0x400000 0x100000
  | 0x11 => one 0x100000 0x100000
  | 0x12 => one 0x900000 0x100000
  | 0x13 => one 0x500000 0x100000
  | _ => none

/-- The BLOCK class of a range, and with `link` the LINK class too, take their reset values (R13, R14). -/
def blockRegs (lo n : Nat) (link : Bool) (s : State) : State :=
  { s with regs := s.regs.filter (fun r =>
      !(8 * lo ≤ r.1 && r.1 < 8 * (lo + n) && (match keyEnt r.1 with | some e => e.cls == .block || (link && e.cls == .link) | none => false))) }

/-- A write of GCTL.BRST (R438). A port may be reset only in DISABLED or DOWN. The reset has taken effect when the write ends, so BUSY reads 0. -/
def brstWrite (v : Nat) (s : State) : State :=
  let u := bitsOf v 0 5
  let i := bitsOf v 5 7
  let s := (s.set GCTL.BRST.UNIT u).set GCTL.BRST.INST i
  if !bitOf v 12 then s
  else
    match blockRange u i with
    | none => s.set GCTL.ESTAT.BRST_ERR 1
    | some (lo, n) =>
      if u = 1 && 2 ≤ pstate s i then s.set GCTL.ESTAT.BRST_ERR 1
      else if u = 1 then portLinkReset i (blockRegs lo n true s)
      else blockRegs lo n false s

/-- A write of GCTL.RST (R436). -/
def rstWrite (v : Nat) (s : State) : State :=
  if bitOf v 0 && bitsOf v 16 16 == 0x5752 then warmReset 2 s else s.set GCTL.ESTAT.RST_KEY 1

/-- A POLICY submission (R383): the offsets are checked, and the record is requested; the values are written once it is sealed. A GO while a submission runs is ignored; CNT is set all the same. -/
def polWrite (v : Nat) (s : State) : State :=
  let n := bitsOf v 0 7
  let s := s.set BOOT.POLCTL.CNT n
  if !bitOf v 7 || s.on BOOT.POLSTAT.BUSY then s
  else
    if n = 0 || 64 < n then (s.set BOOT.POLSTAT.RESULT 1).set BOOT.POLSTAT.BADIDX 0
    else
      match (List.range n).find? (fun i => !policyOffset (s.get BOOT.POL.OFFSET i)) with
      | some i => (s.set BOOT.POLSTAT.RESULT 1).set BOOT.POLSTAT.BADIDX i
      | none =>
        let l := (List.range n).map (fun i => (s.get BOOT.POL.OFFSET i, s.get BOOT.POL.VALUE i))
        match request (.policy l) [] .policy s with
        | (.taken, s) => { s.set BOOT.POLSTAT.BUSY 1 with boot := { s.boot with policies := l } }
        | (.full, s) => s.set BOOT.POLSTAT.RESULT 2
        | (.power, s) => s.set BOOT.POLSTAT.RESULT 3

/-- LINES and LINEEN (R316, R325): a latched line with LINEEN.FLTN asserts FAULT_N, and the last condition's end is noted. -/
def linesWrite (a v : Nat) (s : State) : State :=
  let before := faultnHeld s
  let t := s.wr a v
  if !before && faultnHeld t then assertFaultN t else condNote before t

/-- The staging bank is closed while it is reloaded (R283). -/
def bankWrite (a v : Nat) (s : State) : State := if s.on ACT.COMMIT.STG_BUSY then s else defaultSync (s.wr a v)

/-- A word of COL.EYECTL: ABORT acts before START (DESIGN CHOICE, log entry on coincident command bits). -/
def eyeWrite (c v : Nat) (s : State) : State :=
  let w := BitVec.ofNat 32 v
  let s := run (execEyeScanAbort (Fin.ofNat 32 c) w s) s
  run (execEyeScanStart (Fin.ofNat 32 c) w s) s

/-- A word of GCLCTL: COMMIT acts before CANCEL (DESIGN CHOICE, log entry on coincident command bits). -/
def gclWrite (p v : Nat) (s : State) : State :=
  let w := BitVec.ofNat 32 v
  let s := run (execGclCommit (Fin.ofNat 64 p) w s) s
  run (execGclCancel (Fin.ofNat 64 p) w s) s

/-- LCCTL as a plain register write: the token that it points to and the outcome of the fuses are free values (R286 to R288). -/
def lcFree (m : Master) (v : Nat) (s : State) : State :=
  if bitOf v 4 then lcWrite m v (s.freeNat 1 == 1) (s.spend.freeNat 1 == 1) s.spend.spend else lcWrite m v false true s

/-- What a write of a word does, where the word's register has a behaviour of its own: the master, the two indexes, the address, the word. -/
abbrev Handler := Ent × (Master → Nat → Nat → Nat → Nat → State → State)

def w32 (v : Nat) : Word := BitVec.ofNat 32 v

/-- Registers of global control, boot and faults. -/
def handlersGlobal : List Handler :=
  [(GCTL.ASSIST.MODE, fun _ _ _ _ v s => assistWrite v s),
   (GCTL.RST.WARM, fun _ _ _ _ v s => rstWrite v s),
   (GCTL.BRST.UNIT, fun _ _ _ _ v s => brstWrite v s),
   (BOOT.CTL.RELEASE, fun _ _ _ _ v s => bootCtl v s),
   (BOOT.UPDCTL.TARGET, fun _ _ _ _ v s => run (execUpdate (w32 v) (Config.freeImage s.free) s.spend) s),
   (BOOT.POLCTL.CNT, fun _ _ _ _ v s => polWrite v s),
   (FLT.RHEAD.INDEX, fun _ _ _ _ v s => run (execFltRheadWrite (w32 v) s) s),
   (FLT.FENCE.CLASS, fun _ _ _ _ v s => fenceWrite v s),
   (FLT.CTL.FAULTN_CLR, fun _ _ _ _ v s => run (execFaultnClr (w32 v) s) s),
   (FLT.LINES.SLOT, fun _ _ _ a v s => linesWrite a v s),
   (FLT.LINES.VIN, fun _ _ _ a v s => linesWrite a v s),
   (FLT.LINEEN.SLOT, fun _ _ _ a v s => linesWrite a v s),
   (FLT.LINEEN.VIN, fun _ _ _ a v s => linesWrite a v s)]

/-- Registers of events, counters, time and power domains. -/
def handlersMgmt : List Handler :=
  [(EVT.RING.CTL.EN, fun _ _ _ _ v s => evCtlWrite v s),
   (EVT.RING.HEAD.INDEX, fun _ _ _ _ v s => evHeadWrite (v % 2 ^ 16) s),
   (EVT.CORE.COMPLETE.SRC, fun m c _ _ v s => match m with | .core d => if d.val = c then evComplete c (v % 2 ^ 11) s else s | _ => s),
   (EVT.CORE.THRESH.THRESH, fun _ _ _ a v s => evRouteAll (s.wr a v)),
   (EVT.SRC.PRIO, fun _ i _ a v s => if evReserved i then s else evRouteAll (s.wr a v)),
   (PERF.CNT.SEL.EVENT, fun _ i k _ v s => perfSel i k v s),
   (PERF.CTL.FREEZE, fun _ _ _ _ v s => perfCtl v s),
   (PERF.TSCFG.EN, fun _ _ _ _ v s => tsWrite v s),
   (TIME.CTL.TREF_EN, fun _ _ _ _ v s => timeCtl v s),
   (NOC.PD.CTL.AUTO, fun _ d _ _ v s => pdCtl d v s)]

/-- Registers of security, the access table, slots and test. -/
def handlersSec : List Handler :=
  [(SEC.ROT.RCTL.LD, fun _ r _ _ v s => rctlWrite r v s),
   (SEC.LCCTL.TARGET, fun m _ _ _ v s => lcFree m v s),
   (SEC.DBGCTL.EN, fun m _ _ a v s => if m = .dap then s else s.wr a v),
   (ACT.COMMIT.DONE, fun _ _ _ _ v s => run (execActCommit (w32 v) s) s),
   (ACT.FVSTAT.VALID, fun _ _ _ _ v s => run (execFvClear (w32 v) s) s),
   (ACT.STGCFG.DEFAULT, fun _ _ _ a v s => bankWrite a v s),
   (SLOT.CTL.ON, fun _ n _ _ v s => slotCtl n v s),
   (SLOTV.THR0.OV, fun _ _ _ _ v s => thrWrite false v s),
   (SLOTV.THR1.UVLO, fun _ _ _ _ v s => thrWrite true v s)]

/-- Registers of columns, ports and Beamlinks. -/
def handlersLink : List Handler :=
  [(COL.CFG.BIFUR, fun _ c _ _ v s => run (execColApply (Fin.ofNat 32 c) (w32 v) s) s),
   (COL.EYECTL.LANE, fun _ c _ _ v s => eyeWrite c v s),
   (COL.LANE.LCTL.POL_FORCE, fun _ c l _ v s => run (execOvrApply (Fin.ofNat 32 c) (Fin.ofNat 16 l) (w32 v) s) s),
   (COL.TRN.TRNCTL.EN, fun _ c k _ v s => trnWrite c k v s),
   (PORT.CFG.ROLE, fun _ p _ _ v s => portCfg p v s),
   (PORT.CTL.DISABLE, fun _ p _ _ v s => portCtl p v s),
   (PORT.TAGCFG.RSV_IO, fun _ p _ _ v s => tagCfg p v s),
   (BLK.CFG.EN, fun _ n _ _ v s => run (execBlkEnable (Fin.ofNat 8 n) (w32 v) s) s),
   (BLK.LCTL.LANE, fun _ n _ _ v s => lctlWrite n v s),
   (BLKC.CCFG.MCAND, fun _ _ _ a v s => cascadeSync (s.wr a v))]

/-- Registers of the Frame and its egress sets. -/
def handlersFrame : List Handler :=
  [(FRAME.PLANECTL.PLANE, fun _ _ _ _ v s => run (execPlaneSubCommand (w32 v) s) s),
   (FRAME.XP.TCSHARE.MIN, fun _ x t _ v s => run (execTcshareWrite (Fin.ofNat 80 x) (Fin.ofNat 8 t) (w32 v) s) s),
   (FRAME.XP.EGQ.EQMIN, fun _ x t _ v s => run (execEgqWrite (Fin.ofNat 80 x) (Fin.ofNat 8 t) (w32 v) s) s),
   (FRAME.XP.CMARK.T1, fun _ x _ _ v s => run (execCmarkWrite (Fin.ofNat 80 x) (w32 v) s) s),
   (FRAME.EG.SCHCFG.GATE_EN, fun _ p _ _ v s => run (execGateDisable (Fin.ofNat 64 p) (w32 v) s) s),
   (FRAME.EG.GCLCTL.SEL, fun _ p _ _ v s => gclWrite p v s),
   (FRAME.EG.GCLBASE.BASE, fun _ x l a v s => gclField x l (fun s => s.wr a v) s),
   (FRAME.EG.GCLCYCLE.CYCLE, fun _ x l a v s => gclField x l (fun s => s.wr a v) s),
   (FRAME.EG.GCLLEN.LEN, fun _ x l a v s => gclField x l (fun s => s.wr a v) s),
   (FRAME.EG.GCL.GATES, fun _ x j a v s => gclField x (j / 256) (fun s => s.wr a v) s),
   (FRAME.EG.Q.QCFG.QUANTUM, fun _ p t _ v s => run (execQcfgWrite (Fin.ofNat 64 p) (Fin.ofNat 8 t) (w32 v) s) s),
   (FRAME.EG.Q.SHAPE.RATE, fun _ p t _ v s => run (execShapeWrite (Fin.ofNat 64 p) (Fin.ofNat 8 t) (w32 v) s) s),
   (FRAME.EG.Q.POLICE.RATE, fun _ p _ a v s => (refill p s).wr a v)]

/-- Registers of binding, the homes, the data mover and test. -/
def handlersUnit : List Handler :=
  [(BIND.CTL.STGCNT, fun _ _ _ _ v s => run (execBindCommit (w32 v) s) s),
   (BIND.MIG.MCTL.LD, fun _ m _ _ v s => mctlWrite m v s),
   (HOME.HMAP.DHN, fun _ n b _ v s => run (execHmapWrite (Fin.ofNat 4 n) (Fin.ofNat 64 b) (w32 v) s) s),
   (HOME.SCRUBCFG.PERIOD, fun _ n _ a v s => scrubCfg n (s.wr a v)),
   (HOME.RFCTL.LD, fun _ _ _ _ v s => run (execRfConvert (w32 v) s) s),
   (HOME.PROBECTL.GO, fun _ n _ _ v s => run (execTallyProbe (Fin.ofNat 4 n) (w32 v) s) s),
   (DMV.FRZCTL.FN, fun _ _ _ _ v s => frzWrite v (some (Config.freeBlob s.free)) s.spend),
   (DMV.ERASECTL.LD, fun _ _ _ _ v s => eraseWrite v s),
   (DMV.FN.FCFG.MAXSQ, fun _ f _ _ v s => run (execFcfgWrite (Fin.ofNat 256 f) (w32 v) s) s),
   (TST.LB.CTL.MODE, fun _ u _ _ v s => lbWrite u v s),
   (TST.INJCTL.DOMAIN, fun _ _ _ _ v s => injWrite v s)]

/-- The handlers of the block in which an address lies. -/
def handlersAt (a : Nat) : List Handler :=
  if a < 0x300000 then handlersGlobal
  else if a < 0x600000 then handlersMgmt
  else if a < 0x900000 then handlersSec
  else if a < 0xa00000 then handlersMgmt
  else if a < 0x1000000 then handlersUnit
  else if a < 0x2500000 then handlersLink
  else if a < 0x3000000 then handlersFrame
  else handlersUnit

/-- The handler of the register that has bits in the word. -/
def handlerOf (a : Nat) : Option (Master → State → Nat → State) :=
  (handlersAt a).findSome? (fun h =>
    match hits h.1 a with
    | some (i, j) => some (fun m s v => h.2 m i j a v s)
    | none => none)

/-- A write of an aligned word that the space serves (R11, R12, R431): a register's own behaviour, or its access codes. Registers of the idle half of a x16 port and, where the test features are inert, of TST ignore writes (R17, R441). -/
def regWrite (m : Master) (a v : Nat) (s : State) : State :=
  if idleHalf s a || (0xa00000 ≤ a && a < 0xb00000 && !tstLive s) then s
  else if 8 * a < stgLo + entLen && stgLo ≤ 8 * a then bankWrite a v s
  else
    match handlerOf a with
    | some f => f m s v
    | none => s.wr a v

/-- A write of the management space (R11, R432, R433). -/
def busWrite (m : Master) (a v : Nat) (c : Instr) (s : State) : Result :=
  if fencedMaster m s then .next (nocDiscard s)
  else if a % 4 != 0 then .next (badForm m true a s)
  else if served s a then atAddr a c (fun s => .next (regWrite m a v s)) s
  else .next s

/-- The values of a sealed POLICY record are written, each as a register write of the fabric manager (R383); not while the journal is being sealed (R382). -/
def policyRun (s : State) : State :=
  if s.boot.policies.isEmpty || s.on BOOT.POLSTAT.BUSY then s
  else
    let l := s.boot.policies
    let s := { s with boot := { s.boot with policies := [] } }
    if sealedOff s then s else forL l (fun q s => regWrite .fm q.1 q.2 s) s

/-- PAGE_PROGRAM_DONE (R378, R382, R454). -/
def execPageProgramDone (s : State) : Result := .next (policyRun (pageDone s))

/-- RECORD_READBACK (R378, R383). -/
def execRecordReadback (ok : Bool) (s : State) : Result := .next (policyRun (readBack ok s))

end Sys2Proof.Machine
end

