-- ==== Sys2Proof/Machine/Gctl.lean ====
section
/-! DEFINITION. Global control: accesses to the management space, resets by register, the debug access port, policies, and a power domain that comes ON (R10 to R13, R281, R289, R290, R383, R400, R432, R433, R436, R438). -/

namespace Sys2Proof.Machine

/-- GCTL_RST (R436): in the safe state too. -/
def execGctlRst (v : Word) (s : State) : Result := atReg GCTL.RST.WARM (fun s => .next (rstWrite v.toNat s)) s

/-- GCTL_BRST (R438). -/
def execGctlBrst (v : Word) (s : State) : Result := atReg GCTL.BRST.UNIT (fun s => .next (brstWrite v.toNat s)) s

/-- REGISTER_WRITE (R11, R431). -/
def execRegisterWrite (m : Master) (addr : BitVec 28) (v : Word) (s : State) : Result := busWrite m addr.toNat v.toNat (.registerWrite m addr v) s

/-- READ_CLEAR (R11, R12): a read of a word; its RC fields clear. -/
def execReadClear (m : Master) (addr : BitVec 28) (s : State) : Result := busRead m addr.toNat (.readClear m addr) s

/-- LOW_WORD_READ (R10). -/
def execLowWordRead (m : Master) (addr : BitVec 28) (s : State) : Result := busRead m addr.toNat (.lowWordRead m addr) s

/-- HIGH_WORD_READ (R10). -/
def execHighWordRead (m : Master) (addr : BitVec 28) (s : State) : Result := busRead m addr.toNat (.highWordRead m addr) s

/-- BAD_FORM_ACCESS (R432). -/
def execBadFormAccess (m : Master) (write : Bool) (addr : BitVec 28) (s : State) : Result :=
  .next (if fencedMaster m s then nocDiscard s else badForm m write addr.toNat s)

/-- POLICY_SUBMIT (R383). -/
def execPolicySubmit (v : Word) (s : State) : Result := atReg BOOT.POLCTL.CNT (fun s => .next (polWrite v.toNat s)) s

/-- The check of a debug access to the management space, as kind 2 (R279, R280, R285, R290): none allows. A locked region denies as the default does (DEDUCED, log entry on locked regions). -/
def dapCheck (s : State) (a op : Nat) : Option (Bool × Nat) :=
  let lc := s.get SEC.LCSTAT.STATE
  if lc = 0 then none
  else if (lc = 2 ∨ lc = 4) ∧ 0x600000 ≤ a ∧ a < 0x800000 then some (true, 0)
  else actCheck s 0xF000 2 0 a op

/-- A debug access to the management space (R281, R289). -/
def dapMgmt (write : Bool) (a v : Nat) (s : State) : Result :=
  let op := b2n write
  let s := perf 276 0x10 1 none s
  match dapCheck s a op with
  | some why =>
    let s := perf 276 0x11 1 none (actDeny 0xF000 2 0 a op why s)
    .next (if write then s else s.emit (.rdata .dap a (2 ^ 32 - 1)))
  | none =>
    if write then busWrite .dap a v (.registerWrite .dap (BitVec.ofNat 28 a) (w32 v)) s
    else busRead .dap a (.readClear .dap (BitVec.ofNat 28 a)) s

/-- A debug access to pool memory through crossbar port 79, as kind 1 (R279, R289). -/
def dapPool (write : Bool) (ld addr : Nat) (v : Line) (s : State) : State :=
  if s.safe then s
  else
    let (rid, s) := freshId s
    let r : LinkReq := ⟨if write then .memWr else .memRd, 0, BitVec.ofNat 64 (ld * 2 ^ 52 + addr / 64 * 64), .noOp, .mem, 0, 0xF000,
      BitVec.ofNat 8 (s.get FRAME.XP.UNITEP.EPOCH 79), 64, if write then [v] else [], BitVec.ofNat 64 (2 ^ 64 - 1), false, false, false, 0, true, true, false⟩
    takeIn 79 rid r none s

/-- DAP_ACCESS (R285, R289): accepted only while DAPACC is selected and DBGCTL.EN is 1, and not in END. -/
def execDapAccess (write : Bool) (pool : Bool) (ld : Fin 4096) (addr : BitVec 52) (v : Line) (s : State) : Result :=
  if s.mgmt.jtag != 0x10 || !s.on SEC.DBGCTL.EN || ended s then .next s
  else if pool then .next (dapPool write ld addr.toNat v s)
  else dapMgmt write (addr.toNat % 2 ^ 28) (v.toNat % 2 ^ 32) s

/-- A command that waited for a register or a unit of a domain (R400, R433). -/
def wakeDeliver (c : Instr) (s : State) : State :=
  match c with
  | .registerWrite m a v => run (execRegisterWrite m a v s) s
  | .readClear m a => run (execReadClear m a s) s
  | .lowWordRead m a => run (execLowWordRead m a s) s
  | .highWordRead m a => run (execHighWordRead m a s) s
  | .blkEnable n v => run (execBlkEnable n v s) s
  | .laneSubCommand n v => run (execLaneSubCommand n v s) s
  | .linkHandoffCommand n v => run (execLinkHandoffCommand n v s) s
  | .freeze v => run (execFreeze v s) s
  | .save v => run (execSave v s) s
  | .restore v b => run (execRestore v b s) s
  | .unfreeze v => run (execUnfreeze v s) s
  | .freezeDiscard v => run (execFreezeDiscard v s) s
  | .cryptoErase v => run (execCryptoErase v s) s
  | .fcfgWrite f v => run (execFcfgWrite f v s) s
  | .sqDoorbell f q v => run (execSqDoorbell f q v s) s
  | .cqDoorbell f v => run (execCqDoorbell f v s) s
  | .queueEnable f q v => run (execQueueEnable f q v s) s
  | .functionReset f k => run (execFunctionReset f k s) s
  | .windowDescriptor f w al d => run (execWindowDescriptor f w al d s) s
  | .closeDoorbell f w => run (execCloseDoorbell f w s) s
  | .slotRegistration f w i whole d => run (execSlotRegistration f w i whole d s) s
  | .contribution f w i first whole poison lines => run (execContribution f w i first whole poison lines s) s
  | .bar2StrayWrite f off => run (execBar2StrayWrite f off s) s
  | .farAtomicCommand f e al d => run (execFarAtomicCommand f e al d s) s
  | _ => s

/-- DOMAIN_ON (R400): a WAKING domain reaches ON and takes what waited for it, in order. -/
def execDomainOn (d : Fin 13) (s : State) : Result :=
  .next (if pdState s d = 3 then
      let p := pdSt s d
      forL (p.held ++ p.late) wakeDeliver (setPd d { p with held := [], late := [], wake := false } (setPdState d 0 s))
    else s)

end Sys2Proof.Machine
end

