-- ==== Sys2Proof/Machine/Dispatch.lean ====
section
/-! DEFINITION. One arm for each command: the dispatch to the meanings. -/

namespace Sys2Proof.Machine

def exec (i : Instr) (s : State) : Host.Outcome State Fault Refusal :=
  match i with
  | .coldReset straps flash => Sys2Proof.Machine.execColdReset straps flash s
  | .warmReset => Sys2Proof.Machine.execWarmReset s
  | .gctlRst v => Sys2Proof.Machine.execGctlRst v s
  | .gctlBrst v => Sys2Proof.Machine.execGctlBrst v s
  | .registerWrite m addr v => Sys2Proof.Machine.execRegisterWrite m addr v s
  | .readClear m addr => Sys2Proof.Machine.execReadClear m addr s
  | .lowWordRead m addr => Sys2Proof.Machine.execLowWordRead m addr s
  | .highWordRead m addr => Sys2Proof.Machine.execHighWordRead m addr s
  | .badFormAccess m write addr => Sys2Proof.Machine.execBadFormAccess m write addr s
  | .assistWrite v => Sys2Proof.Machine.execAssistWrite v s
  | .decisionTimeout decid => Sys2Proof.Machine.execDecisionTimeout decid s
  | .fmPortLinkDown => Sys2Proof.Machine.execFmPortLinkDown s
  | .mctpSessionExpiry => Sys2Proof.Machine.execMctpSessionExpiry s
  | .colApply c v => Sys2Proof.Machine.execColApply c v s
  | .receiveSymbolError c l => Sys2Proof.Machine.execReceiveSymbolError c l s
  | .elasticBufferOverrun c l => Sys2Proof.Machine.execElasticBufferOverrun c l s
  | .coeffRequest c l r => Sys2Proof.Machine.execCoeffRequest c l r s
  | .ovrApply c l v => Sys2Proof.Machine.execOvrApply c l v s
  | .eyeScanStart c v => Sys2Proof.Machine.execEyeScanStart c v s
  | .eyeScanAbort c v => Sys2Proof.Machine.execEyeScanAbort c v s
  | .eyePointDone c mismatches => Sys2Proof.Machine.execEyePointDone c mismatches s
  | .marginCommand c l m => Sys2Proof.Machine.execMarginCommand c l m s
  | .eqComplete p e => Sys2Proof.Machine.execEqComplete p e s
  | .eqFail p rate => Sys2Proof.Machine.execEqFail p rate s
  | .quickEyeDone p eyes => Sys2Proof.Machine.execQuickEyeDone p eyes s
  | .trainingAttemptFail p => Sys2Proof.Machine.execTrainingAttemptFail p s
  | .retryIntervalExpiry p => Sys2Proof.Machine.execRetryIntervalExpiry p s
  | .retrain c k v => Sys2Proof.Machine.execRetrain c k v s
  | .linkPowerStateChange p pw => Sys2Proof.Machine.execLinkPowerStateChange p pw s
  | .columnSleepEntry c => Sys2Proof.Machine.execColumnSleepEntry c s
  | .columnWake c p => Sys2Proof.Machine.execColumnWake c p s
  | .portCfgWrite p v => Sys2Proof.Machine.execPortCfgWrite p v s
  | .tagcfgWrite p v => Sys2Proof.Machine.execTagcfgWrite p v s
  | .portUp p n => Sys2Proof.Machine.execPortUp p n s
  | .dlDown p => Sys2Proof.Machine.execDlDown p s
  | .hotReset r => Sys2Proof.Machine.execHotReset r s
  | .dpcTrigger p reason => Sys2Proof.Machine.execDpcTrigger p reason s
  | .portDisable p v => Sys2Proof.Machine.execPortDisable p v s
  | .forceDown p v => Sys2Proof.Machine.execForceDown p v s
  | .flushComplete p => Sys2Proof.Machine.execFlushComplete p s
  | .ctoExpiry p tag => Sys2Proof.Machine.execCtoExpiry p tag s
  | .tagQuarantineExpiry p tag => Sys2Proof.Machine.execTagQuarantineExpiry p tag s
  | .tagAvailable p => Sys2Proof.Machine.execTagAvailable p s
  | .linkRequest x r => Sys2Proof.Machine.execLinkRequest x r s
  | .linkResponse x r => Sys2Proof.Machine.execLinkResponse x r s
  | .flitCheckFail p => Sys2Proof.Machine.execFlitCheckFail p s
  | .sharedPoolMove x t => Sys2Proof.Machine.execSharedPoolMove x t s
  | .schedulerSlot => Sys2Proof.Machine.execSchedulerSlot s
  | .crossingComplete i0 => Sys2Proof.Machine.execCrossingComplete i0 s
  | .crossingError i0 plane stale => Sys2Proof.Machine.execCrossingError i0 plane stale s
  | .replayRequest i0 e t => Sys2Proof.Machine.execReplayRequest i0 e t s
  | .sparePlaneCheck ok => Sys2Proof.Machine.execSparePlaneCheck ok s
  | .planeSubCommand v => Sys2Proof.Machine.execPlaneSubCommand v s
  | .substitutionComplete stallNs => Sys2Proof.Machine.execSubstitutionComplete stallNs s
  | .tcshareWrite x t v => Sys2Proof.Machine.execTcshareWrite x t v s
  | .egqWrite x t v => Sys2Proof.Machine.execEgqWrite x t v s
  | .cmarkWrite x v => Sys2Proof.Machine.execCmarkWrite x v s
  | .egressVisit x => Sys2Proof.Machine.execEgressVisit x s
  | .gateSpill p => Sys2Proof.Machine.execGateSpill p s
  | .qcfgWrite p t v => Sys2Proof.Machine.execQcfgWrite p t v s
  | .shapeWrite p t v => Sys2Proof.Machine.execShapeWrite p t v s
  | .gateBoundary p => Sys2Proof.Machine.execGateBoundary p s
  | .gclCommit p v => Sys2Proof.Machine.execGclCommit p v s
  | .gclCancel p v => Sys2Proof.Machine.execGclCancel p v s
  | .pendingListStart p => Sys2Proof.Machine.execPendingListStart p s
  | .gateDisable p v => Sys2Proof.Machine.execGateDisable p v s
  | .egressSampleWindowEnd p => Sys2Proof.Machine.execEgressSampleWindowEnd p s
  | .hdmCommit p t g => Sys2Proof.Machine.execHdmCommit p t g s
  | .bindCommit v => Sys2Proof.Machine.execBindCommit v s
  | .bindDiscard v => Sys2Proof.Machine.execBindDiscard v s
  | .hostSlotPowerOff p vppb => Sys2Proof.Machine.execHostSlotPowerOff p vppb s
  | .unbindTimeout => Sys2Proof.Machine.execUnbindTimeout s
  | .commitPoint => Sys2Proof.Machine.execCommitPoint s
  | .bindDrainDone => Sys2Proof.Machine.execBindDrainDone s
  | .bindVppb index host vppb kind target => Sys2Proof.Machine.execBindVppb index host vppb kind target s
  | .unbindVppb host vppb mode => Sys2Proof.Machine.execUnbindVppb host vppb mode s
  | .setLdAllocations p allocs => Sys2Proof.Machine.execSetLdAllocations p allocs s
  | .fmApiCommand c => Sys2Proof.Machine.execFmApiCommand c s
  | .migStart m v => Sys2Proof.Machine.execMigStart m v s
  | .mctlAbort m v => Sys2Proof.Machine.execMctlAbort m v s
  | .copyPassEnd m => Sys2Proof.Machine.execCopyPassEnd m s
  | .migCheckpoint m => Sys2Proof.Machine.execMigCheckpoint m s
  | .quiesceCopyDone m lenNs => Sys2Proof.Machine.execQuiesceCopyDone m lenNs s
  | .quiesceTimeout m => Sys2Proof.Machine.execQuiesceTimeout m s
  | .migCommit m => Sys2Proof.Machine.execMigCommit m s
  | .homeRequestAccept n => Sys2Proof.Machine.execHomeRequestAccept n s
  | .rdS n m => Sys2Proof.Machine.execRdS n m s
  | .rdA n m => Sys2Proof.Machine.execRdA n m s
  | .rdI n m => Sys2Proof.Machine.execRdI n m s
  | .invA n m => Sys2Proof.Machine.execInvA n m s
  | .wb n m => Sys2Proof.Machine.execWb n m s
  | .wr n m => Sys2Proof.Machine.execWr n m s
  | .cln n m => Sys2Proof.Machine.execCln n m s
  | .nop n m => Sys2Proof.Machine.execNop n m s
  | .atom n m => Sys2Proof.Machine.execAtom n m s
  | .conf n m => Sys2Proof.Machine.execConf n m s
  | .rsp n m => Sys2Proof.Machine.execRsp n m s
  | .pd n m => Sys2Proof.Machine.execPd n m s
  | .pc n m => Sys2Proof.Machine.execPc n m s
  | .requestOrdered n lk => Sys2Proof.Machine.execRequestOrdered n lk s
  | .carryQueueAllocate n set => Sys2Proof.Machine.execCarryQueueAllocate n set s
  | .hmapWrite n b v => Sys2Proof.Machine.execHmapWrite n b v s
  | .rfConvert v => Sys2Proof.Machine.execRfConvert v s
  | .rfConvertDone => Sys2Proof.Machine.execRfConvertDone s
  | .scrubPass n errs => Sys2Proof.Machine.execScrubPass n errs s
  | .departureSweepDone p => Sys2Proof.Machine.execDepartureSweepDone p s
  | .atomicDone n lk => Sys2Proof.Machine.execAtomicDone n lk s
  | .atomBoardIdle n lk => Sys2Proof.Machine.execAtomBoardIdle n lk s
  | .tallyProbe n v => Sys2Proof.Machine.execTallyProbe n v s
  | .windowDescriptor f w aligned d => Sys2Proof.Machine.execWindowDescriptor f w aligned d s
  | .closeDoorbell f w => Sys2Proof.Machine.execCloseDoorbell f w s
  | .slotRegistration f w s0 whole d => Sys2Proof.Machine.execSlotRegistration f w s0 whole d s
  | .contribution f w s0 first whole poison lines => Sys2Proof.Machine.execContribution f w s0 first whole poison lines s
  | .bar2StrayWrite f offset => Sys2Proof.Machine.execBar2StrayWrite f offset s
  | .resultWritesDone w => Sys2Proof.Machine.execResultWritesDone w s
  | .windowTimerExpiry w => Sys2Proof.Machine.execWindowTimerExpiry w s
  | .farAtomicCommand f engine1 aligned d => Sys2Proof.Machine.execFarAtomicCommand f engine1 aligned d s
  | .sqDoorbell f q v => Sys2Proof.Machine.execSqDoorbell f q v s
  | .cqDoorbell f v => Sys2Proof.Machine.execCqDoorbell f v s
  | .descriptorFetch f q ds => Sys2Proof.Machine.execDescriptorFetch f q ds s
  | .copy f q idx src bad => Sys2Proof.Machine.execCopy f q idx src bad s
  | .fill f q idx => Sys2Proof.Machine.execFill f q idx s
  | .zero f q idx => Sys2Proof.Machine.execZero f q idx s
  | .crc f q idx src => Sys2Proof.Machine.execCrc f q idx src s
  | .compare f q idx src dst => Sys2Proof.Machine.execCompare f q idx src dst s
  | .atomic f q idx => Sys2Proof.Machine.execAtomic f q idx s
  | .reKey r tc => Sys2Proof.Machine.execReKey r tc s
  | .migrate m block tc => Sys2Proof.Machine.execMigrate m block tc s
  | .descriptorDone f q idx status bytes => Sys2Proof.Machine.execDescriptorDone f q idx status bytes s
  | .cqEntryWrite f => Sys2Proof.Machine.execCqEntryWrite f s
  | .cqCoalesceTimeout f => Sys2Proof.Machine.execCqCoalesceTimeout f s
  | .queueEnable f q v => Sys2Proof.Machine.execQueueEnable f q v s
  | .fcfgWrite f v => Sys2Proof.Machine.execFcfgWrite f v s
  | .freeze v => Sys2Proof.Machine.execFreeze v s
  | .freezeComplete => Sys2Proof.Machine.execFreezeComplete s
  | .save v => Sys2Proof.Machine.execSave v s
  | .restore v b => Sys2Proof.Machine.execRestore v b s
  | .unfreeze v => Sys2Proof.Machine.execUnfreeze v s
  | .freezeDiscard v => Sys2Proof.Machine.execFreezeDiscard v s
  | .functionReset f c => Sys2Proof.Machine.execFunctionReset f c s
  | .cryptoErase v => Sys2Proof.Machine.execCryptoErase v s
  | .eraseZeroDone => Sys2Proof.Machine.execEraseZeroDone s
  | .codewordReceived n correctable corrected => Sys2Proof.Machine.execCodewordReceived n correctable corrected s
  | .dataBead n h pkts => Sys2Proof.Machine.execDataBead n h pkts s
  | .beadCrcFail n => Sys2Proof.Machine.execBeadCrcFail n s
  | .idleBead n h credits => Sys2Proof.Machine.execIdleBead n h credits s
  | .retransmitTimeout n => Sys2Proof.Machine.execRetransmitTimeout n s
  | .hello n cseq id link stepping domain mcand coarse hmapCrc nonce => Sys2Proof.Machine.execHello n cseq id link stepping domain mcand coarse hmapCrc nonce s
  | .helloAck n cseq macOk => Sys2Proof.Machine.execHelloAck n cseq macOk s
  | .laneSub n cseq pos cwcnt => Sys2Proof.Machine.execLaneSub n cseq pos cwcnt s
  | .laneSubAck n cseq pos cwcnt => Sys2Proof.Machine.execLaneSubAck n cseq pos cwcnt s
  | .handoff n cseq failed rxexp => Sys2Proof.Machine.execHandoff n cseq failed rxexp s
  | .handoffAck n cseq failed rxexp => Sys2Proof.Machine.execHandoffAck n cseq failed rxexp s
  | .topo n bitmap => Sys2Proof.Machine.execTopo n bitmap s
  | .depart n cseq dhn => Sys2Proof.Machine.execDepart n cseq dhn s
  | .departDone n cseq dhn => Sys2Proof.Machine.execDepartDone n cseq dhn s
  | .masterXfer n cseq id time => Sys2Proof.Machine.execMasterXfer n cseq id time s
  | .masterChange => Sys2Proof.Machine.execMasterChange s
  | .sync n t => Sys2Proof.Machine.execSync n t s
  | .dreq n t => Sys2Proof.Machine.execDreq n t s
  | .drsp n t => Sys2Proof.Machine.execDrsp n t s
  | .timeBeadSend n => Sys2Proof.Machine.execTimeBeadSend n s
  | .topoSend => Sys2Proof.Machine.execTopoSend s
  | .ctrlResend n => Sys2Proof.Machine.execCtrlResend n s
  | .ctrlTimeout n => Sys2Proof.Machine.execCtrlTimeout n s
  | .blkEnable n v => Sys2Proof.Machine.execBlkEnable n v s
  | .trainComplete n locked => Sys2Proof.Machine.execTrainComplete n locked s
  | .blkStateTimeout n => Sys2Proof.Machine.execBlkStateTimeout n s
  | .blkRetryInterval n => Sys2Proof.Machine.execBlkRetryInterval n s
  | .laneLockLoss n l => Sys2Proof.Machine.execLaneLockLoss n l s
  | .laneErrorWindow n l => Sys2Proof.Machine.execLaneErrorWindow n l s
  | .laneSubCommand n v => Sys2Proof.Machine.execLaneSubCommand n v s
  | .spareLaneFail n => Sys2Proof.Machine.execSpareLaneFail n s
  | .linkHandoffCommand n v => Sys2Proof.Machine.execLinkHandoffCommand n v s
  | .linkSetFenceDone d => Sys2Proof.Machine.execLinkSetFenceDone d s
  | .unreachableTimeout d => Sys2Proof.Machine.execUnreachableTimeout d s
  | .noiseSourceFail src1 => Sys2Proof.Machine.execNoiseSourceFail src1 s
  | .domainKeySet session key => Sys2Proof.Machine.execDomainKeySet session key s
  | .rotArm r v => Sys2Proof.Machine.execRotArm r v s
  | .rctlCancel r v => Sys2Proof.Machine.execRctlCancel r v s
  | .rotTimeReached r => Sys2Proof.Machine.execRotTimeReached r s
  | .rekeyBlockDone r => Sys2Proof.Machine.execRekeyBlockDone r s
  | .rotDrainDone r => Sys2Proof.Machine.execRotDrainDone r s
  | .ideKm p session cachemem kset key => Sys2Proof.Machine.execIdeKm p session cachemem kset key s
  | .kSetGo p cachemem kset => Sys2Proof.Machine.execKSetGo p cachemem kset s
  | .ideCheckFail p cachemem => Sys2Proof.Machine.execIdeCheckFail p cachemem s
  | .keyExchange doe => Sys2Proof.Machine.execKeyExchange doe s
  | .getMeasurements doe index => Sys2Proof.Machine.execGetMeasurements doe index s
  | .spdmRequest doe code => Sys2Proof.Machine.execSpdmRequest doe code s
  | .endSession session => Sys2Proof.Machine.execEndSession session s
  | .heartbeatTimeout session => Sys2Proof.Machine.execHeartbeatTimeout session s
  | .fvClear v => Sys2Proof.Machine.execFvClear v s
  | .actCommit v => Sys2Proof.Machine.execActCommit v s
  | .stagingReloadDone => Sys2Proof.Machine.execStagingReloadDone s
  | .actDrainDone => Sys2Proof.Machine.execActDrainDone s
  | .lcArm m v => Sys2Proof.Machine.execLcArm m v s
  | .lcArmExpiry => Sys2Proof.Machine.execLcArmExpiry s
  | .lcGo m v token fuseOk => Sys2Proof.Machine.execLcGo m v token fuseOk s
  | .dapAccess write pool ld addr v => Sys2Proof.Machine.execDapAccess write pool ld addr v s
  | .slotTick n s0 => Sys2Proof.Machine.execSlotTick n s0 s
  | .seatingDetected n => Sys2Proof.Machine.execSeatingDetected n s
  | .qualifyComplete n => Sys2Proof.Machine.execQualifyComplete n s
  | .insertionDelayEnd n => Sys2Proof.Machine.execInsertionDelayEnd n s
  | .seatingLost n => Sys2Proof.Machine.execSeatingLost n s
  | .inrushTimeout n => Sys2Proof.Machine.execInrushTimeout n s
  | .faultTimerExpiry n => Sys2Proof.Machine.execFaultTimerExpiry n s
  | .fastTrip n => Sys2Proof.Machine.execFastTrip n s
  | .retryTimerEnd n => Sys2Proof.Machine.execRetryTimerEnd n s
  | .pgDelayEnd n => Sys2Proof.Machine.execPgDelayEnd n s
  | .warnClear n => Sys2Proof.Machine.execWarnClear n s
  | .retriesClear n => Sys2Proof.Machine.execRetriesClear n s
  | .energyLimit n => Sys2Proof.Machine.execEnergyLimit n s
  | .fetDegraded n => Sys2Proof.Machine.execFetDegraded n s
  | .fetShort n => Sys2Proof.Machine.execFetShort n s
  | .dischargeTimeout n => Sys2Proof.Machine.execDischargeTimeout n s
  | .slotOn n v => Sys2Proof.Machine.execSlotOn n v s
  | .slotOnAt n v => Sys2Proof.Machine.execSlotOnAt n v s
  | .onatReached n => Sys2Proof.Machine.execOnatReached n s
  | .slotOff n v => Sys2Proof.Machine.execSlotOff n v s
  | .slotClear n v => Sys2Proof.Machine.execSlotClear n v s
  | .slotApply n v => Sys2Proof.Machine.execSlotApply n v s
  | .vinEarlyWarning vin => Sys2Proof.Machine.execVinEarlyWarning vin s
  | .vinLockout vin => Sys2Proof.Machine.execVinLockout vin s
  | .slotDiePowerOn vin => Sys2Proof.Machine.execSlotDiePowerOn vin s
  | .thresholdWrite thr1 v => Sys2Proof.Machine.execThresholdWrite thr1 v s
  | .errorRecord r => Sys2Proof.Machine.execErrorRecord r s
  | .recordMerge r => Sys2Proof.Machine.execRecordMerge r s
  | .errorLineEdge line why => Sys2Proof.Machine.execErrorLineEdge line why s
  | .stormEnd src => Sys2Proof.Machine.execStormEnd src s
  | .faultnQuietRelease => Sys2Proof.Machine.execFaultnQuietRelease s
  | .faultnClr v => Sys2Proof.Machine.execFaultnClr v s
  | .fltRheadWrite v => Sys2Proof.Machine.execFltRheadWrite v s
  | .coreHeartbeat c => Sys2Proof.Machine.execCoreHeartbeat c s
  | .heartbeatLoss c => Sys2Proof.Machine.execHeartbeatLoss c s
  | .bringInComplete cls i0 => Sys2Proof.Machine.execBringInComplete cls i0 s
  | .fenceRelease v => Sys2Proof.Machine.execFenceRelease v s
  | .releaseTestDone pass => Sys2Proof.Machine.execReleaseTestDone pass s
  | .releaseTimeout => Sys2Proof.Machine.execReleaseTimeout s
  | .eventRaised src cause payload => Sys2Proof.Machine.execEventRaised src cause payload s
  | .claim m c => Sys2Proof.Machine.execClaim m c s
  | .complete m c v => Sys2Proof.Machine.execComplete m c v s
  | .ringRecordWrite => Sys2Proof.Machine.execRingRecordWrite s
  | .ringHeadWrite v => Sys2Proof.Machine.execRingHeadWrite v s
  | .ringCtlWrite v => Sys2Proof.Machine.execRingCtlWrite v s
  | .holdoffEnd g ring => Sys2Proof.Machine.execHoldoffEnd g ring s
  | .wakeEdge line stopped => Sys2Proof.Machine.execWakeEdge line stopped s
  | .wakeEvent line => Sys2Proof.Machine.execWakeEvent line s
  | .perfSelWrite i0 k v => Sys2Proof.Machine.execPerfSelWrite i0 k v s
  | .counterOverflow i0 k => Sys2Proof.Machine.execCounterOverflow i0 k s
  | .perfFreeze v => Sys2Proof.Machine.execPerfFreeze v s
  | .freezeBoundary => Sys2Proof.Machine.execFreezeBoundary s
  | .snapshot => Sys2Proof.Machine.execSnapshot s
  | .bwWindowEnd => Sys2Proof.Machine.execBwWindowEnd s
  | .sampleRecord req latNs homeLat poolLat => Sys2Proof.Machine.execSampleRecord req latNs homeLat poolLat s
  | .tsEnable v => Sys2Proof.Machine.execTsEnable v s
  | .bootRelease v => Sys2Proof.Machine.execBootRelease v s
  | .jreset v => Sys2Proof.Machine.execJreset v s
  | .pageProgramDone => Sys2Proof.Machine.execPageProgramDone s
  | .recordReadback matches_ => Sys2Proof.Machine.execRecordReadback matches_ s
  | .compactionStart => Sys2Proof.Machine.execCompactionStart s
  | .compact v => Sys2Proof.Machine.execCompact v s
  | .compactionSwitch => Sys2Proof.Machine.execCompactionSwitch s
  | .pwrfail => Sys2Proof.Machine.execPwrfail s
  | .sealRelease => Sys2Proof.Machine.execSealRelease s
  | .policySubmit v => Sys2Proof.Machine.execPolicySubmit v s
  | .update v img => Sys2Proof.Machine.execUpdate v img s
  | .updateDone ok => Sys2Proof.Machine.execUpdateDone ok s
  | .dirQueue d => Sys2Proof.Machine.execDirQueue d s
  | .dirThrottle d mask => Sys2Proof.Machine.execDirThrottle d mask s
  | .slotGo d => Sys2Proof.Machine.execSlotGo d s
  | .slotDeny d => Sys2Proof.Machine.execSlotDeny d s
  | .eqAccept d => Sys2Proof.Machine.execEqAccept d s
  | .eqRedo d preset => Sys2Proof.Machine.execEqRedo d preset s
  | .eqOverride d taps => Sys2Proof.Machine.execEqOverride d taps s
  | .ucRecover d => Sys2Proof.Machine.execUcRecover d s
  | .ucRecoverNodec via ld => Sys2Proof.Machine.execUcRecoverNodec via ld s
  | .ucKeep d => Sys2Proof.Machine.execUcKeep d s
  | .migGo d => Sys2Proof.Machine.execMigGo d s
  | .migPass d => Sys2Proof.Machine.execMigPass d s
  | .migAbort d => Sys2Proof.Machine.execMigAbort d s
  | .spareGo d => Sys2Proof.Machine.execSpareGo d s
  | .spareHold d => Sys2Proof.Machine.execSpareHold d s
  | .rotGo d => Sys2Proof.Machine.execRotGo d s
  | .rotDefer d time => Sys2Proof.Machine.execRotDefer d time s
  | .rotCancel d => Sys2Proof.Machine.execRotCancel d s
  | .sumExtend d us => Sys2Proof.Machine.execSumExtend d us s
  | .sumPublish d => Sys2Proof.Machine.execSumPublish d s
  | .sumAbort d => Sys2Proof.Machine.execSumAbort d s
  | .ownerKeySet via hash fuseOk => Sys2Proof.Machine.execOwnerKeySet via hash fuseOk s
  | .mctpMessage fmApi => Sys2Proof.Machine.execMctpMessage fmApi s
  | .nocRequestInject r q => Sys2Proof.Machine.execNocRequestInject r q s
  | .cdcOverrun crossing unit => Sys2Proof.Machine.execCdcOverrun crossing unit s
  | .powerDownStart d => Sys2Proof.Machine.execPowerDownStart d s
  | .powerDownAbort d => Sys2Proof.Machine.execPowerDownAbort d s
  | .pointOfNoReturn d => Sys2Proof.Machine.execPointOfNoReturn d s
  | .minOffExpiry d => Sys2Proof.Machine.execMinOffExpiry d s
  | .domainOn d => Sys2Proof.Machine.execDomainOn d s
  | .domainWake d v => Sys2Proof.Machine.execDomainWake d v s
  | .trefLoss pps => Sys2Proof.Machine.execTrefLoss pps s
  | .trefLock => Sys2Proof.Machine.execTrefLock s
  | .ppsEdge second => Sys2Proof.Machine.execPpsEdge second s
  | .timeStep v => Sys2Proof.Machine.execTimeStep v s
  | .timeSlew v => Sys2Proof.Machine.execTimeSlew v s
  | .ppsOutSecond => Sys2Proof.Machine.execPpsOutSecond s
  | .ptmRequest p => Sys2Proof.Machine.execPtmRequest p s
  | .fmPerst => Sys2Proof.Machine.execFmPerst s
  | .extest => Sys2Proof.Machine.execExtest s
  | .idcode => Sys2Proof.Machine.execIdcode s
  | .samplePreload => Sys2Proof.Machine.execSamplePreload s
  | .clamp => Sys2Proof.Machine.execClamp s
  | .highz => Sys2Proof.Machine.execHighz s
  | .extestPulse => Sys2Proof.Machine.execExtestPulse s
  | .extestTrain => Sys2Proof.Machine.execExtestTrain s
  | .dapacc => Sys2Proof.Machine.execDapacc s
  | .bypass => Sys2Proof.Machine.execBypass s
  | .jtagDeselect => Sys2Proof.Machine.execJtagDeselect s
  | .loopbackNear u v => Sys2Proof.Machine.execLoopbackNear u v s
  | .loopbackFar u v => Sys2Proof.Machine.execLoopbackFar u v s
  | .loopbackLead u v => Sys2Proof.Machine.execLoopbackLead u v s
  | .patternControl u v => Sys2Proof.Machine.execPatternControl u v s
  | .injectArm v => Sys2Proof.Machine.execInjectArm v s
  | .linkRecovery p move => Sys2Proof.Machine.execLinkRecovery p move s
  | .columnPllLock c => Sys2Proof.Machine.execColumnPllLock c s
  | .fmPortLinkUp => Sys2Proof.Machine.execFmPortLinkUp s
  | .blockEraseDone => Sys2Proof.Machine.execBlockEraseDone s
  | .linkCreditUpdate p list hdr data => Sys2Proof.Machine.execLinkCreditUpdate p list hdr data s
  | .patternCheckLock u l lock => Sys2Proof.Machine.execPatternCheckLock u l lock s

end Sys2Proof.Machine
end

