-- ==== Sys2Proof/Machine/Package.lean ====
section
/-! DEFINITION. The package: which signal or rail every ball of the 88 by 88 grid carries (R411 to R416). No command moves a ball, so the map stands beside the machine. -/

namespace Sys2Proof.Machine

/-- The single signals of the sideband rows other than CLKREQ_N, in the order of R414. -/
inductive Sideband where
  | resetN | warmRstN | pwrfailN | faultN | cascadeId0 | cascadeId1 | cascadeId2
  | bootMode0 | bootMode1 | spiClk | spiCsN | spiIo0 | spiIo1 | spiIo2 | spiIo3 | i3cScl | i3cSda | tck | tms | tdi | tdo | trstN
  | sysXtalIn | sysXtalOut | trefIn | ppsIn | ppsOut | fmPerstN | fmClkreqN
  | refclkP | refclkN | beamRefclkP | beamRefclkN | fmRefclkP | fmRefclkN | thermDp | thermDn
  deriving DecidableEq, Repr

/-- The pins of one slot, from row 72 down (R416). -/
inductive SlotPin where
  | gate | snsP | snsN | vout | seatA | seatB | pg | warn | disch
  deriving DecidableEq, Repr

/-- The supply rails. -/
inductive Rail where
  | vddCore | vddDir | vddLane | vddaLane | vddBeam | vddaBeam | vddIo | vddAon | vdd12
  deriving DecidableEq, Repr

/-- What a ball carries. `neg` marks the N ball of a differential pair. -/
inductive Ball where
  | vss
  | rail (r : Rail)
  | fab (tx : Bool) (c l : Nat) (neg : Bool)
  | blk (tx : Bool) (n l : Nat) (neg : Bool)
  | fm (tx : Bool) (l : Nat) (neg : Bool)
  | clkreqN (p : Nat)
  | side (x : Sideband)
  | slot (p : SlotPin) (n : Nat)
  | vin12Sns
  deriving DecidableEq, Repr

/-- A ball that carries a signal. -/
def Ball.signal : Ball → Bool
  | .vss => false
  | .rail _ => false
  | .fab .. => true
  | .blk .. => true
  | .fm .. => true
  | .clkreqN _ => true
  | .side _ => true
  | .slot .. => true
  | .vin12Sns => true

/-- The ball of column c's tile at place `a` along the edge and depth `d` (R412). -/
def tileBall (c a d : Nat) : Ball :=
  if a = 0 ∨ a = 9 then .vss else .fab (decide (4 ≤ d)) c (d % 4 * 4 + (a - 1) / 2) (decide ((a - 1) % 2 = 1))

/-- The tile, the place along the edge and the depth of a ball of the perimeter band (R411, R412): side 0 is row 1, 1 column 88, 2 row 88 and 3 column 1. The corners belong to the sides of rows. -/
def tileOf (r c : Nat) : Option (Nat × Nat × Nat) :=
  if r ≤ 8 ∧ c ≤ 80 then some ((c - 1) / 10, (c - 1) % 10, r - 1)
  else if 81 ≤ c ∧ r ≤ 80 then some (8 + (r - 1) / 10, (r - 1) % 10, 88 - c)
  else if 81 ≤ r ∧ 9 ≤ c then some (16 + (88 - c) / 10, (88 - c) % 10, 88 - r)
  else if c ≤ 8 ∧ 9 ≤ r then some (24 + (88 - r) / 10, (88 - r) % 10, c - 1)
  else none

/-- The single signals of row 13 from column 73, and of row 14 from column 9 and 31 (R414); none is VSS. -/
def sideRow13 : List (Option Sideband) :=
  [some .resetN, some .warmRstN, some .pwrfailN, some .faultN, some .cascadeId0, some .cascadeId1, some .cascadeId2, none]

def sideRow14 : List (Option Sideband) :=
  [some .bootMode0, some .bootMode1, some .spiClk, some .spiCsN, some .spiIo0, some .spiIo1, some .spiIo2, some .spiIo3, some .i3cScl, some .i3cSda,
   some .tck, some .tms, some .tdi, some .tdo, some .trstN, some .sysXtalIn, some .sysXtalOut, some .trefIn, some .ppsIn, some .ppsOut, some .fmPerstN, some .fmClkreqN] ++
  [none, some .refclkP, some .refclkN, none, some .beamRefclkP, some .beamRefclkN, none, some .fmRefclkP, some .fmRefclkN, none, some .thermDp, some .thermDn]

/-- Entry `i` of a sideband row. -/
def sideAt (l : List (Option Sideband)) (i : Nat) : Ball := match nthD l i none with | some x => .side x | none => .vss

/-- A sideband row (R414). -/
def sideBall (r c : Nat) : Ball :=
  if r = 13 then (if c ≤ 72 then .clkreqN (c - 9) else sideAt sideRow13 (c - 73))
  else if r = 14 then (if c ≤ 42 then sideAt sideRow14 (c - 9) else if c % 2 = 1 then .rail .vddIo else .vss)
  else if c ≤ 40 then .fm (decide (r = 15)) ((c - 9) / 2) (decide (c % 2 = 0))
  else if r = 15 ∧ c % 2 = 1 then .rail .vddAon
  else .vss

/-- A ball of the supply core (R415). -/
def coreBall (r c : Nat) : Ball :=
  if (r + c) % 2 = 1 then .vss
  else if r = 20 ∨ r = 68 ∨ (21 ≤ r ∧ r ≤ 67 ∧ (c = 12 ∨ c = 77)) then .rail .vddaLane
  else if r < 20 ∨ 68 < r ∨ c < 12 ∨ 77 < c then .rail .vddLane
  else if r ≤ 22 then .rail .vddBeam
  else if r ≤ 24 then .rail .vddaBeam
  else if r ≤ 30 then .rail .vddDir
  else .rail .vddCore

/-- The pin of a slot in a row of the slot band (R416). -/
def slotPin (r : Nat) : SlotPin := nthD [.gate, .snsP, .snsN, .vout, .seatA, .seatB, .pg, .warn] (r - 72) .disch

/-- A ball of the slot band (R416). -/
def slotBall (r c : Nat) : Ball :=
  if c ≤ 72 then (if c % 2 = 1 then .slot (slotPin r) ((c - 9) / 2) else .vss)
  else if c = 73 ∧ r = 72 then .vin12Sns
  else if c = 74 ∨ c = 75 then .rail .vdd12
  else .vss

/-- The ball at a row and column, both from 1 to 88 (R411). -/
def ballAt (r c : Nat) : Option Ball :=
  if r = 0 ∨ c = 0 ∨ 88 < r ∨ 88 < c then none
  else
    match tileOf r c with
    | some (t, a, d) => some (tileBall t a d)
    | none =>
      if r ≤ 12 then some (.blk (decide (r ≤ 10)) ((c - 9) / 9) ((c - 9) % 9) (decide (r % 2 = 0)))
      else if r ≤ 16 then some (sideBall r c)
      else if r ≤ 71 then some (coreBall r c)
      else some (slotBall r c)

/-- The place of the sideband signal in a row. -/
def sidePlace (x : Sideband) : Nat × Nat :=
  match (sideRow13.findIdx? (· == some x)) with
  | some i => (13, 73 + i)
  | none => (14, 9 + ((sideRow14.findIdx? (· == some x)).getD 0))

/-- The row and column of a place in a tile (R412). -/
def tilePlace (c a d : Nat) : Nat × Nat :=
  let k := c % 8
  match c / 8 with
  | 0 => (1 + d, 1 + 10 * k + a)
  | 1 => (1 + 10 * k + a, 88 - d)
  | 2 => (88 - d, 88 - 10 * k - a)
  | _ => (88 - 10 * k - a, 1 + d)

/-- Where a signal lies, as R412 to R416 place each by name. -/
def ballPlace : Ball → Option (Nat × Nat)
  | .vss => none
  | .rail _ => none
  | .fab tx c l neg => some (tilePlace c (1 + 2 * (l % 4) + b2n neg) (l / 4 + if tx then 4 else 0))
  | .blk tx n l neg => some (9 + (if tx then 0 else 2) + b2n neg, 9 + 9 * n + l)
  | .fm tx l neg => some (if tx then 15 else 16, 9 + 2 * l + b2n neg)
  | .clkreqN p => some (13, 9 + p)
  | .side x => some (sidePlace x)
  | .slot p n => some (72 + ([SlotPin.gate, .snsP, .snsN, .vout, .seatA, .seatB, .pg, .warn].findIdx? (· == p)).getD 8, 9 + 2 * n)
  | .vin12Sns => some (72, 73)

/-- The balls of the grid that satisfy a test. -/
def ballCount (f : Ball → Bool) : Nat :=
  ((List.range 7744).filter (fun i => match ballAt (1 + i / 88) (1 + i % 88) with | some b => f b | none => false)).length

end Sys2Proof.Machine
end

