-- ==== Sys2Proof/Safety.lean ====
section
/-! DEFINITION. The terms in which claims about runs are stated: the canonical register file, the parts of a state, and what a command leaves as it was. -/

namespace Sys2Proof.Machine

/-- The register file is canonical: keys strictly rising and no field listed at its reset value, so that equal register files are equal lists. -/
def State.canonical (s : State) : Bool := rising s.regs && noZero s.regs

/-- The fields of State beside the register file and the queue. -/
inductive Part where
  | latch | now | out | free | fuses | straps | evt | flt | decs | nextDec | fmUp | mctpOpen | cols | ports | frame | egs | bind
  | homes | homeG | act | sec | mgmt | boot | sum | dmv | perf | die | blks | blkG | throttle
  deriving DecidableEq, Repr

/-- A part is the same in two states. -/
def Part.same (s t : State) : Part → Prop
  | .latch => t.latch = s.latch
  | .now => t.now = s.now
  | .out => t.out = s.out
  | .free => t.free = s.free
  | .fuses => t.fuses = s.fuses
  | .straps => t.straps = s.straps
  | .evt => t.evt = s.evt
  | .flt => t.flt = s.flt
  | .decs => t.decs = s.decs
  | .nextDec => t.nextDec = s.nextDec
  | .fmUp => t.fmUp = s.fmUp
  | .mctpOpen => t.mctpOpen = s.mctpOpen
  | .cols => t.cols = s.cols
  | .ports => t.ports = s.ports
  | .frame => t.frame = s.frame
  | .egs => t.egs = s.egs
  | .bind => t.bind = s.bind
  | .homes => t.homes = s.homes
  | .homeG => t.homeG = s.homeG
  | .act => t.act = s.act
  | .sec => t.sec = s.sec
  | .mgmt => t.mgmt = s.mgmt
  | .boot => t.boot = s.boot
  | .sum => t.sum = s.sum
  | .dmv => t.dmv = s.dmv
  | .perf => t.perf = s.perf
  | .die => t.die = s.die
  | .blks => t.blks = s.blks
  | .blkG => t.blkG = s.blkG
  | .throttle => t.throttle = s.throttle

/-- The frame of a command: every register field of the map outside `ws`, in every instance, reads in `t` as in `s`; every part outside `ps` is the same; and so is the queue. -/
def onlyWrites (ws : List Ent) (ps : List Part) (s t : State) : Prop :=
  (∀ e ∈ tabAll, e ∉ ws → ∀ i j, t.get e i j = s.get e i j) ∧ (∀ p, p ∉ ps → p.same s t) ∧ t.pending = s.pending

/-- What raising an event may change in the registers of the event unit (R340 to R346): the source's word, its core's hold, and the counts of what was buffered or dropped. -/
def eventFields : List Ent :=
  [EVT.SRC.STATE, EVT.SRC.HELD, EVT.SRC.CORE, EVT.SRC.ASSIGNED, EVT.GRP.HOLD_CORE, EVT.RING.STAT.BUF, EVT.RING.DROPS.COUNT, EVT.ERRCNT.SRCDROP]

/-- What taking an error record may change in the registers of the collector (R315 to R325), the event that it raises included; a record ends an injection that waited for it (R449). -/
def collectFields : List Ent :=
  eventFields ++ [FLT.STAT.FAULTN, FLT.STAT.DROPS, FLT.ESTAT.OVF, FLT.ESTAT.SELF, FLT.RTAIL.INDEX, FLT.FATALREC.RECORD, FLT.REC.RECORD, FLT.SRC.STORM,
    FLT.CNT.CE, FLT.CNT.UC, TST.INJSTAT.BUSY, TST.INJSTAT.FIRED]

/-- The parts that taking an error record may change. -/
def collectParts : List Part := [.out, .evt, .flt, .mgmt]

end Sys2Proof.Machine
end

