-- ==== Sys2Proof/Certificates/Slice0/Obligations.lean ====
section
/-! DEFINITION. The statements for the provers: the general laws of a step, the frame of every family of commands, and for every command a case in which it has its own effect. -/

open Sys2Proof Sys2Proof.Machine

/-- A step runs the command at the front of the queue on the state with the queue's rest. The queue is the model's (log entry 1). -/
def Obligations.StepRunsFront : Prop :=
  ∀ (c : Instr) (q : List Instr) (s : State), s.pending = c :: q → step s = exec c { s with pending := q }

/-- On an empty queue one clock of 0.5 ns passes, moved by a slew of at most 3 units of 2^-16 ns: the model's choice (log entry 2). -/
def Obligations.StepIdle : Prop :=
  ∀ s : State, s.pending = [] → ∃ t, step s = .next t ∧ t.pending = [] ∧ s.now + 0x8000 ≤ t.now + 3 ∧ t.now ≤ s.now + 0x8003

/-- The register file is canonical at reset. -/
def Obligations.ResetCanonical : Prop :=
  State.reset.canonical = true

/-- Every field but the shadow of the life-cycle fuses holds the value of its Reset column at reset; a few of these values written out. Fields that the image, a fuse or a strap loads hold 0 before boot, which is the model's choice (log entries 5 and 6). -/
def Obligations.ResetRegisters : Prop :=
  (∀ e ∈ tabAll, e ≠ SEC.FUSESH.WORD → ∀ i j, State.reset.get e i j = e.reset i j) ∧
  (∀ c, State.reset.get COL.EQPOL.MINW_NRZ c = 20 ∧ State.reset.get COL.EQPOL.MINH_NRZ c = 16) ∧
  State.reset.get GCTL.ID.DEVICE = 0x8512 ∧ State.reset.get GCTL.ID.VENDOR = 0x1D8F ∧ State.reset.get BOOT.STAT.PHASE = 0 ∧ State.reset.now = 0 ∧ State.reset.get TIME.STAT.STATE = 0

/-- Every step, whatever command stands at the front, keeps the register file canonical. -/
def Obligations.CanonicalKept : Prop :=
  ∀ s t : State, s.canonical = true → step s = .next t → t.canonical = true

/-- No command takes back what the device has sent: a step only adds to the end of the output. -/
def Obligations.OutputGrows : Prop :=
  ∀ s t : State, step s = .next t → ∃ l, t.out = s.out ++ l

/-- No command changes the queue: a step takes the front command and leaves the rest in its order. The queue is the model's (log entry 1). -/
def Obligations.QueueTaken : Prop :=
  ∀ s t : State, step s = .next t → t.pending = s.pending.tail

/-- The device answers misuse with states, statuses and records: no command ends in a fault or a refusal. -/
def Obligations.NeverStops : Prop :=
  (∀ (c : Instr) (s : State), ∃ t, exec c s = .next t) ∧ (∀ s : State, ∃ t, step s = .next t)

/-- The fields of the register map share no storage: a field reads back what was written, cut to its width, and every other field reads as before. -/
def Obligations.FieldsApart : Prop :=
  ∀ e ∈ tabAll, ∀ e' ∈ tabAll, ∀ (v i j i' j' : Nat) (s : State),
    (s.set e v i j).get e i j = v % 2 ^ e.w ∧ (e' ≠ e → (s.set e v i j).get e' i' j' = s.get e' i' j')

/-- R39, and the 8b/10b case of R38 beside it: what a symbol error of a lane counts and reports, by the coding of the lane's rate. -/
def Obligations.SymbolErrorCounted : Prop :=
  ∀ (c : ColId) (l : Fin 16) (s : State), ∃ t, exec (.receiveSymbolError c ⟨l, false⟩) s = .next t ∧
    t.get COL.LANE.LERR.CODE_ERR c l = min 0xFFFF (s.get COL.LANE.LERR.CODE_ERR c l + 1) ∧
    (∀ p, portOfLane s c l = some p → codingOf (laneRate s c l) = .c128b130b → t.out = s.out ++ [.rxError p]) ∧
    (codingOf (laneRate s c l) = .pam4 → t.out = s.out) ∧
    (∀ p, portOfLane s c l = some p → codingOf (laneRate s c l) = .c8b10b → t.out = s.out ++ [.rxError p, .linkReplay p])

/-- R344. A written number is 11 bits wide. -/
def Obligations.CompleteSource : Prop :=
  (∀ (c : Fin 5) (v : Word) (s : State), coreFenced s c = false → 2 ≤ s.get EVT.SRC.STATE (v.toNat % 2 ^ 11) →
    s.get EVT.SRC.CORE (v.toNat % 2 ^ 11) = c.val → evReserved (v.toNat % 2 ^ 11) = false →
    ∃ t u, exec (.complete (.core c) c v) s = .next t ∧ t = evRoute (v.toNat % 2 ^ 11) u ∧
      u.get EVT.SRC.STATE (v.toNat % 2 ^ 11) = (if (lookD s.evt.held (v.toNat % 2 ^ 11) []).length = 0 then 0 else 1) ∧
      t.get EVT.SRC.STATE (v.toNat % 2 ^ 11) = u.get EVT.SRC.STATE (v.toNat % 2 ^ 11) ∧ u.get EVT.SRC.ASSIGNED (v.toNat % 2 ^ 11) = 0) ∧
  (∀ (c : Fin 5) (v : Word) (s : State), coreFenced s c = false →
    (s.get EVT.SRC.STATE (v.toNat % 2 ^ 11) < 2 ∨ s.get EVT.SRC.CORE (v.toNat % 2 ^ 11) ≠ c.val ∨ evReserved (v.toNat % 2 ^ 11) = true) →
    exec (.complete (.core c) c v) s = .next (s.bump EVT.ERRCNT.BADCPL)) ∧
  (∀ (m : Master) (c : Fin 5) (v : Word) (s : State), m ≠ .core c → exec (.complete m c v) s = .next s) ∧
  (∀ (c : Fin 5) (v : Word) (s : State), coreFenced s c = true →
    exec (.complete (.core c) c v) s = .next (nocDiscard s) ∧ (nocDiscard s).get EVT.ERRCNT.BADCPL = s.get EVT.ERRCNT.BADCPL)

/-- The ball map (R411 to R416), read in both directions: by place, and by the name of the signal. -/
def Obligations.BallMap : Prop :=
  (∀ r c, 1 ≤ r → r ≤ 88 → 1 ≤ c → c ≤ 88 → ∃ b, ballAt r c = some b) ∧
  (∀ r c b, ballAt r c = some b → b.signal = true → ballPlace b = some (r, c)) ∧
  (∀ tx c l neg, c < 32 → l < 16 → ballAt (tilePlace c (1 + 2 * (l % 4) + b2n neg) (l / 4 + if tx then 4 else 0)).1 (tilePlace c (1 + 2 * (l % 4) + b2n neg) (l / 4 + if tx then 4 else 0)).2 = some (.fab tx c l neg)) ∧
  (∀ tx n l neg, n < 8 → l < 9 → ballAt (9 + (if tx then 0 else 2) + b2n neg) (9 + 9 * n + l) = some (.blk tx n l neg)) ∧
  (∀ tx l neg, l < 16 → ballAt (if tx then 15 else 16) (9 + 2 * l + b2n neg) = some (.fm tx l neg)) ∧
  (∀ p, p < 64 → ballAt 13 (9 + p) = some (.clkreqN p)) ∧
  (∀ n k, n < 32 → k < 9 → ballAt (72 + k) (9 + 2 * n) = some (.slot (slotPin (72 + k)) n))

/-- How the balls divide (R416): a sanity statement on the map. -/
def Obligations.BallCounts : Prop :=
  ballCount (fun b => match b with | .fab .. => true | _ => false) = 2048 ∧ ballCount (fun b => match b with | .blk .. => true | _ => false) = 288 ∧
  ballCount (fun b => match b with | .fm .. => true | _ => false) = 64 ∧ ballCount (fun b => match b with | .clkreqN _ => true | _ => false) = 64 ∧
  ballCount (fun b => match b with | .side _ => true | _ => false) = 37 ∧ ballCount (fun b => match b with | .slot _ _ | .vin12Sns => true | _ => false) = 289 ∧
  [Rail.vddCore, .vddDir, .vddLane, .vddaLane, .vddBeam, .vddaBeam, .vddIo, .vddAon, .vdd12].map (fun r => ballCount (· == .rail r)) = [1184, 192, 357, 119, 64, 64, 19, 20, 18] ∧
  ballCount (· == .vss) = 2917 ∧ ballCount (fun _ => true) = 7744

/-- What the commands of a column do (R36, R40, R42, R43, R44, R45, R46, R47, R54, R55, R56). Each clause gives one command a case in which it has its own effect, and what the next state then holds. -/
def Obligations.ColumnEffects : Prop :=
  -- COL_APPLY (R36): the fields of the written word are held in CFG
  (∀ (c : ColId) (v : Word) (s : State), served s (COL.CFG.APPLY.base / 8) = true → ∃ t, exec (.colApply c v) s = .next t ∧ t.get COL.CFG.BIFUR c = bitsOf v.toNat 0 2 ∧ t.get COL.CFG.CSLEEP_EN c = bitsOf v.toNat 2 1 ∧ t.get COL.CFG.MAXRATE c = bitsOf v.toNat 3 3 ∧ t.get COL.CFG.PRECODE c = bitsOf v.toNat 6 1) ∧
  -- ELASTIC_BUFFER_OVERRUN (R40): CODE_ERR of the lane counts up to 0xFFFF
  (∀ (c : ColId) (l : Fin 16) (s : State), ∃ t, exec (.elasticBufferOverrun c l) s = .next t ∧ t.get COL.LANE.LERR.CODE_ERR c l = satAdd 0xFFFF (s.get COL.LANE.LERR.CODE_ERR c l) 1) ∧
  -- COEFF_REQUEST (R42): in equalization, taps that meet R42 are taken and acknowledged
  (∀ (c : ColId) (l : Fin 16) (pre main post p : Nat) (s : State), portOfLane s c l = some p → ltssm s p = 5 → s.on COL.LANE.LCTL.OVR_EN c l = false → coeffOk pre post = true → main + pre + post = 64 → ∃ t, exec (.coeffRequest c l (.taps pre main post)) s = .next t ∧ t.get COL.LANE.LSTAT.PRE c l = pre ∧ t.get COL.LANE.LSTAT.MAIN c l = main ∧ t.get COL.LANE.LSTAT.POST c l = post ∧ t.out = s.out ++ [.coeff c l true]) ∧
  -- OVR_APPLY (R43): the override fields take the written bits, and bad ones set OVR_ERR
  (∀ (c : ColId) (l : Fin 16) (v : Word) (s : State), served s (COL.LANE.LCTL.OVR_APPLY.base / 8) = true → ∃ t, exec (.ovrApply c l v) s = .next t ∧ t.get COL.LANE.LCTL.OVR_EN c l = bitsOf v.toNat 2 1 ∧ t.get COL.LANE.LCTL.OVR_PRE c l = bitsOf v.toNat 3 6 ∧ t.get COL.LANE.LCTL.OVR_POST c l = bitsOf v.toNat 9 6 ∧ (bitOf v.toNat 15 = true → bitOf v.toNat 2 = true → coeffOk (bitsOf v.toNat 3 6) (bitsOf v.toNat 9 6) = false → t.get COL.LANE.LCTL.OVR_ERR c l = 1)) ∧
  -- EYE_SCAN_START (R45): a scan of a lane whose port is in L0 starts at its first point
  (∀ (c : ColId) (v : Word) (p : Nat) (s : State), served s (COL.EYECTL.START.base / 8) = true → bitOf v.toNat 15 = true → (colSt s c).scan = none → portOfLane s c (bitsOf v.toNat 0 4) = some p → ltssm s p = 6 → bitsOf v.toNat 4 2 = 0 → ∃ t, exec (.eyeScanStart c v) s = .next t ∧ t.get COL.EYESTAT.STATE c = 1 ∧ t.get COL.EYESTAT.POINTS c = 0 ∧ t.get COL.EYECTL.LANE c = bitsOf v.toNat 0 4 ∧ (colSt t c).scan = some ⟨bitsOf v.toNat 0 4, 2 ^ bitsOf v.toNat 11 2, 2 ^ bitsOf v.toNat 13 2, 0, 0, []⟩) ∧
  -- EYE_SCAN_ABORT (R47): a running scan ends in ABORT
  (∀ (c : ColId) (v : Word) (s : State), served s (COL.EYECTL.ABORT.base / 8) = true → bitOf v.toNat 16 = true → (colSt s c).scan.isSome = true → ∃ t, exec (.eyeScanAbort c v) s = .next t ∧ t.get COL.EYESTAT.STATE c = 6 ∧ (colSt t c).scan = none) ∧
  -- EYE_POINT_DONE (R46): the point in progress is written and POINTS counts
  (∀ (c : ColId) (m : Nat) (x : Scan) (s : State), (colSt s c).scan = some x → x.paused = [] → ∃ t, exec (.eyePointDone c m) s = .next t ∧ t.get COL.EYEDATA.COUNT c (x.t * 128 + x.v) = min m 0xFFFFFF ∧ t.get COL.EYEDATA.VALID c (x.t * 128 + x.v) = 1 ∧ t.get COL.EYESTAT.POINTS c = (s.get COL.EYESTAT.POINTS c + 1) % 2 ^ 14) ∧
  -- MARGIN_COMMAND (R44): a timing offset within range is answered, and the lane counts as margined
  (∀ (c : ColId) (l : Fin 16) (right : Bool) (n : Nat) (s : State), n ≤ 32 → ∃ t, exec (.marginCommand c l (.timing right n)) s = .next t ∧ t.out = s.out ++ [.margin c l true] ∧ l.val ∈ (colSt t c).margined) ∧
  -- COLUMN_SLEEP_ENTRY (R54): at the point of no return the PLL is disabled
  (∀ (c : ColId) (s : State), s.get COL.STAT.CSTATE c = 3 → s.on COL.STAT.PLL_LOCK c = true → sleepReady s c = true → ∃ t, exec (.columnSleepEntry c) s = .next t ∧ t.get COL.STAT.PLL_LOCK c = 0 ∧ t.get COL.STAT.CSTATE c = 3) ∧
  -- COLUMN_WAKE (R56): a column in sleep starts to wake for the port
  (∀ (c : ColId) (p : PortId) (s : State), s.get COL.STAT.CSTATE c = 4 → ∃ t, exec (.columnWake c p) s = .next t ∧ t.get COL.STAT.CSTATE c = 5 ∧ (portSt t p).wantTrain = true) ∧
  -- COLUMN_PLL_LOCK (R55): a column that starts or wakes becomes ACTIVE
  (∀ (c : ColId) (s : State), (s.get COL.STAT.CSTATE c = 1 ∨ s.get COL.STAT.CSTATE c = 5) → ∃ t, exec (.columnPllLock c) s = .next t ∧ t.get COL.STAT.CSTATE c = 2 ∧ t.get COL.STAT.PLL_LOCK c = 1)

/-- What training commands do (R38, R47, R48, R49, R50, R53). Each clause gives one command a case in which it has its own effect, and what the next state then holds. -/
def Obligations.TrainingEffects : Prop :=
  -- RECEIVE_SYMBOL_ERROR (R38): CODE_ERR of the lane counts up to 0xFFFF
  (∀ (c : ColId) (l : LaneSymbol) (s : State), (l.fts = false ∨ codingOf (laneRate s c l.lane) ≠ .c8b10b) → ∃ t, exec (.receiveSymbolError c l) s = .next t ∧ t.get COL.LANE.LERR.CODE_ERR c l.lane = satAdd 0xFFFF (s.get COL.LANE.LERR.CODE_ERR c l.lane) 1) ∧
  -- EQ_COMPLETE (R49): the port is in L0 at the rate, and at its highest rate, without final coefficients, the quick eye scan begins
  (∀ (p : PortId) (e : EqDone) (s : State), pstate s p = 3 → ltssm s p = 5 → e.rate.val ≤ topRate s p → ∃ t, exec (.eqComplete p e) s = .next t ∧ getTrn t COL.TRN.TRNSTAT.RATE p = e.rate ∧ ltssm t p = 6 ∧ e.rate.val ∉ (portSt t p).eqFails ∧ (e.rate.val = topRate s p → finalKept s p = false → (portSt t p).quickEye = true)) ∧
  -- EQ_FAIL (R50): a failure is noted at its rate, and the second at the same rate caps the rate
  (∀ (p : PortId) (rate : Fin 6) (s : State), pstate s p = 3 → ∃ t, exec (.eqFail p rate) s = .next t ∧ ((portSt s p).eqFails.contains rate.val = false → (portSt t p).eqFails = rate.val :: (portSt s p).eqFails) ∧ ((portSt s p).eqFails.contains rate.val = true → (portSt t p).rateCap = some (rate.val - 1))) ∧
  -- QUICK_EYE_DONE (R48): the quick eye scan is over
  (∀ (p : PortId) (eyes : List EyeResult) (s : State), (portSt s p).quickEye = true → (lanesOf s p).any (fun q => (colSt s q.1).margined.contains q.2) = false → heldDec s 2 p = none → ∃ t, exec (.quickEyeDone p eyes) s = .next t ∧ (portSt t p).quickEye = false) ∧
  -- TRAINING_ATTEMPT_FAIL (R50): the port waits in DOWN
  (∀ (p : PortId) (s : State), pstate s p = 2 → ∃ t, exec (.trainingAttemptFail p) s = .next t ∧ pstate t p = 1 ∧ (portSt t p).waitRetry = true) ∧
  -- RETRY_INTERVAL_EXPIRY (R50): the wait ends
  (∀ (p : PortId) (s : State), pstate s p = 1 → (portSt s p).waitRetry = true → heldDec s 3 p = none → getTrn s COL.TRN.TRNCTL.RETRY_INT p ≠ 0 → ∃ t, exec (.retryIntervalExpiry p) s = .next t ∧ (portSt t p).waitRetry = false) ∧
  -- RETRAIN (R50): TRNCTL takes the written bits, and RETRAIN takes a port that is UP to FLUSHING
  (∀ (c : ColId) (k : Fin 4) (v : Word) (s : State), served s (COL.TRN.TRNCTL.RETRAIN.base / 8) = true → ∃ t, exec (.retrain c k v) s = .next t ∧ t.get COL.TRN.TRNCTL.EN c k = bitsOf v.toNat 0 1 ∧ t.get COL.TRN.TRNCTL.REV_FORCE c k = bitsOf v.toNat 2 2 ∧ t.get COL.TRN.TRNCTL.SRIS c k = bitsOf v.toNat 4 1 ∧ t.get COL.TRN.TRNCTL.RETRY_INT c k = bitsOf v.toNat 5 8 ∧ (isUp s (portOfSlot c k) = true → slotOf s (portOfSlot c k) = some (c.val, k.val, 4 * k.val, 4) → bitOf v.toNat 1 = true → (portSt t (portOfSlot c k)).retrain = true ∧ pstate t (portOfSlot c k) = 4)) ∧
  -- LINK_RECOVERY (R47): a port in L0 enters Recovery
  (∀ (p : PortId) (s : State), isUp s p = true → ltssm s p = 6 → ∃ t, exec (.linkRecovery p .enter) s = .next t ∧ ltssm t p = 4) ∧
  -- LINK_RECOVERY (R47): equalization follows from Recovery
  (∀ (p : PortId) (s : State), isUp s p = true → ltssm s p = 4 → ∃ t, exec (.linkRecovery p .equalize) s = .next t ∧ ltssm t p = 5) ∧
  -- LINK_POWER_STATE_CHANGE (R53): a port in L0 enters L1
  (∀ (p : PortId) (g : LinkNeg) (s : State), isUp s p = true → ltssm s p = 6 → (portSt s p).neg = some g → ∃ t, exec (.linkPowerStateChange p .l1) s = .next t ∧ ltssm t p = 8)

/-- What port commands do (R61, R70, R71, R74, R76, R86). Each clause gives one command a case in which it has its own effect, and what the next state then holds. -/
def Obligations.PortEffects : Prop :=
  -- PORT_CFG_WRITE (R61): CFG takes the written fields, or CFG_ERR sets
  (∀ (p : PortId) (v : Word) (s : State), served s (PORT.CFG.ROLE.base / 8) = true → behindX16 s p = false → ∃ t, exec (.portCfgWrite p v) s = .next t ∧ (cfgBad s p v.toNat = true → t.get PORT.STAT.CFG_ERR p = 1 ∧ t.get PORT.CFG.ROLE p = s.get PORT.CFG.ROLE p) ∧ (cfgBad s p v.toNat = false → t.get PORT.CFG.ROLE p = bitsOf v.toNat 0 2 ∧ t.get PORT.CFG.CXL_EN p = bitsOf v.toNat 2 1 ∧ t.get PORT.CFG.POOL p = bitsOf v.toNat 8 1)) ∧
  -- TAGCFG_WRITE (R70): TAGCFG takes the written reserves, or CFG_ERR sets when they exceed 992
  (∀ (p : PortId) (v : Word) (s : State), served s (PORT.TAGCFG.RSV_IO.base / 8) = true → behindX16 s p = false → ∃ t, exec (.tagcfgWrite p v) s = .next t ∧ (992 < bitsOf v.toNat 0 10 + bitsOf v.toNat 10 10 + bitsOf v.toNat 20 10 → t.get PORT.STAT.CFG_ERR p = 1 ∧ t.get PORT.TAGCFG.RSV_IO p = s.get PORT.TAGCFG.RSV_IO p) ∧ (bitsOf v.toNat 0 10 + bitsOf v.toNat 10 10 + bitsOf v.toNat 20 10 ≤ 992 → t.get PORT.TAGCFG.RSV_IO p = bitsOf v.toNat 0 10 ∧ t.get PORT.TAGCFG.RSV_MEM p = bitsOf v.toNat 10 10 ∧ t.get PORT.TAGCFG.RSV_CACHE p = bitsOf v.toNat 20 10)) ∧
  -- PORT_UP (R74): a port that trains on some of its lanes becomes UP
  (∀ (p : PortId) (n : LinkNeg) (s : State), pstate s p = 2 → s.safe = false → s.live = true → trainLanes (lanesOf s p) n ≠ [] → ∃ t, exec (.portUp p n) s = .next t ∧ pstate t p = 3) ∧
  -- DL_DOWN (R74): a port that is UP starts to flush
  (∀ (p : PortId) (s : State), isUp s p = true → ∃ t, exec (.dlDown p) s = .next t ∧ pstate t p = 4) ∧
  -- HOT_RESET (R74): a port that is UP starts to flush
  (∀ (r : PortReset) (s : State), isUp s r.port = true → ∃ t, exec (.hotReset r) s = .next t ∧ pstate t r.port = 4) ∧
  -- DPC_TRIGGER (R74): a downstream port that is UP starts to flush
  (∀ (p : PortId) (n : Nat) (s : State), isUp s p = true → s.get PORT.CFG.ROLE p = 2 → ∃ t, exec (.dpcTrigger p n) s = .next t ∧ pstate t p = 4) ∧
  -- PORT_DISABLE (R74): a port that is UP starts to flush
  (∀ (p : PortId) (v : Word) (s : State), served s (PORT.CTL.DISABLE.base / 8) = true → behindX16 s p = false → isUp s p = true → bitOf v.toNat 0 = true → ∃ t, exec (.portDisable p v) s = .next t ∧ pstate t p = 4) ∧
  -- FORCE_DOWN (R74): a port that is UP starts to flush
  (∀ (p : PortId) (v : Word) (s : State), served s (PORT.CTL.FORCE_DOWN.base / 8) = true → behindX16 s p = false → isUp s p = true → bitOf v.toNat 1 = true → ∃ t, exec (.forceDown p v) s = .next t ∧ pstate t p = 4) ∧
  -- FLUSH_COMPLETE (R76): the end of the flush is noted, and the port waits for its sweeps or is in DOWN or beyond
  (∀ (p : PortId) (s : State), pstate s p = 4 → s.frame.subst = none → ∃ t, exec (.flushComplete p) s = .next t ∧ (((portSt t p).flushed = true ∧ pstate t p = 4) ∨ pstate t p ≤ 2)) ∧
  -- CTO_EXPIRY (R71): the timeout of a memory request is counted
  (∀ (p : PortId) (tag : Fin 1024) (e : TagEnt) (k : Pkt) (s : State), isUp s p = true → (portSt s p).tags.find? (fun e => e.sent && e.tag == tag.val && !e.quar) = some e → e.pkt = some k → (k.op = .memRd ∨ k.op = .memWr) → ∃ t, exec (.ctoExpiry p tag) s = .next t ∧ t.get PORT.CTOCNT.COUNT p = satAdd 0xFFFFFFFF (s.get PORT.CTOCNT.COUNT p) 1) ∧
  -- TAG_QUARANTINE_EXPIRY (R71): the tag is freed
  (∀ (p : PortId) (tag : Fin 1024) (e : TagEnt) (s : State), (portSt s p).tags.find? (fun e => e.sent && e.tag == tag.val && e.quar) = some e → ∃ t, exec (.tagQuarantineExpiry p tag) s = .next t ∧ (portSt t p).tags = (portSt s p).tags.filter (fun t => !(t.sent && t.tag == tag.val))) ∧
  -- TAG_AVAILABLE (R70): a PCIe message that waits at the link goes on into the pipeline
  (∀ (p : PortId) (r : LinkReq) (q : PortId) (s : State), isUp s p = true → s.safe = false → (portSt s p).waiting = [r] → holdFull s p r = false → trackerFull s p r = false → s.bind.backlog = [] → r.op = .pcieMsg → resolve s (midAt s p r) r = .port q → ∃ t, exec (.tagAvailable p) s = .next t ∧ (portSt t p).waiting = [] ∧ (look t.frame.reqs s.frame.nextId).map (fun e => (e.op, e.tag)) = some (.pcieMsg, r.tag)) ∧
  -- LINK_REQUEST (R86): a PCIe message of a unit to a port of its virtual switch is taken in and recorded
  (∀ (x : XId) (r : LinkReq) (q : PortId) (s : State), s.safe = false → 64 ≤ x.val → staleUnit s x r.unitEp.toNat = false → s.bind.backlog = [] → r.op = .pcieMsg → resolve s r.mid.toNat r = .port q → ∃ t, exec (.linkRequest x r) s = .next t ∧ (look t.frame.reqs s.frame.nextId).map (fun e => (e.op, e.x, e.tag)) = some (.pcieMsg, x.val, r.tag))

/-- What resets, accesses of the register space and decision commands do (R10, R11, R12, R13, R27, R28, R29, R417, R432, R436, R438). Each clause gives one command a case in which it has its own effect, and what the next state then holds. -/
def Obligations.DeviceEffects : Prop :=
  -- COLD_RESET (R13): the device starts anew and waits for the port of its pins
  (∀ (straps : Straps) (flash : Option Flash) (s : State), straps.bootMode = 3 → debugOpen (coldBase straps flash s) = true → ∃ t, exec (.coldReset straps flash) s = .next t ∧ t = coldBase straps flash s ∧ t.straps = straps ∧ t.get BOOT.STAT.PHASE = 0) ∧
  -- WARM_RESET (R13): the device is reset, but for what a warm reset keeps
  (∀ (s : State), ∃ t, exec (.warmReset) s = .next t ∧ t.get GCTL.RSTSTAT.CAUSE = 1) ∧
  -- REGISTER_WRITE (R11): the register takes the write as its fields say
  (∀ (m : Master) (addr : BitVec 28) (v : Word) (s : State), fencedMaster m s = false ∧ addr.toNat % 4 = 0 → served s addr.toNat = true → (regDomain addr.toNat = none ∨ s.safe = true) → ∃ t, exec (.registerWrite m addr v) s = .next t ∧ t = regWrite m addr.toNat v.toNat s) ∧
  -- READ_CLEAR (R12): the word is read and what its read clears is cleared
  (∀ (m : Master) (addr : BitVec 28) (s : State), fencedMaster m s = false ∧ addr.toNat % 4 = 0 → (regDomain addr.toNat = none ∨ s.safe = true) → ∃ t, exec (.readClear m addr) s = .next t ∧ t = (readWord m addr.toNat s).2.emit (.rdata m addr.toNat (readWord m addr.toNat s).1)) ∧
  -- LOW_WORD_READ (R10): the low word is read and the high word latched
  (∀ (m : Master) (addr : BitVec 28) (s : State), fencedMaster m s = false ∧ addr.toNat % 4 = 0 → (regDomain addr.toNat = none ∨ s.safe = true) → closedWord s addr.toNat = none ∧ hits EVT.CORE.CLAIM.SRC addr.toNat = none → look s.latch addr.toNat = none ∧ wideLow addr.toNat = true → ∃ t, exec (.lowWordRead m addr) s = .next t ∧ t.out = s.out ++ [.rdata m addr.toNat (liveWord s addr.toNat)] ∧ look t.latch (addr.toNat + 4) = some (liveWord s (addr.toNat + 4))) ∧
  -- HIGH_WORD_READ (R10): the latched word is read and its latch ends
  (∀ (m : Master) (addr : BitVec 28) (v : Nat) (s : State), fencedMaster m s = false ∧ addr.toNat % 4 = 0 → (regDomain addr.toNat = none ∨ s.safe = true) → closedWord s addr.toNat = none ∧ hits EVT.CORE.CLAIM.SRC addr.toNat = none → look s.latch addr.toNat = some v → ∃ t, exec (.highWordRead m addr) s = .next t ∧ t = ({ s with latch := del s.latch addr.toNat }).emit (.rdata m addr.toNat v)) ∧
  -- GCTL_RST (R436): a write that asks for the reset with its key resets the device
  (∀ (v : Word) (s : State), served s (GCTL.RST.WARM.base / 8) = true → bitOf v.toNat 0 = true ∧ bitsOf v.toNat 16 16 = 0x5752 → ∃ t, exec (.gctlRst v) s = .next t ∧ t.get GCTL.RSTSTAT.CAUSE = 2) ∧
  -- GCTL_BRST (R438): the block is reset
  (∀ (v : Word) (lo n : Nat) (s : State), served s (GCTL.BRST.UNIT.base / 8) = true → bitOf v.toNat 12 = true → blockRange (bitsOf v.toNat 0 5) (bitsOf v.toNat 5 7) = some (lo, n) → bitsOf v.toNat 0 5 ≠ 1 → ∃ t, exec (.gctlBrst v) s = .next t ∧ t = blockRegs lo n false ((s.set GCTL.BRST.UNIT (bitsOf v.toNat 0 5)).set GCTL.BRST.INST (bitsOf v.toNat 5 7))) ∧
  -- BAD_FORM_ACCESS (R432): a bad read is flagged and answers 0
  (∀ (m : Master) (write : Bool) (addr : BitVec 28) (s : State), fencedMaster m s = false → write = false → ∃ t, exec (.badFormAccess m write addr) s = .next t ∧ t = (s.set GCTL.ESTAT.ACCESS 1).emit (.rdata m addr.toNat 0)) ∧
  -- ASSIST_WRITE (R28): the modes are taken
  (∀ (v : Word) (s : State), served s (GCTL.ASSIST.MODE.base / 8) = true → s.decs = [] → ∃ t, exec (.assistWrite v) s = .next t ∧ t = s.set GCTL.ASSIST.MODE v.toNat) ∧
  -- DECISION_TIMEOUT (R27): the decision lapses at its deadline
  (∀ (decid : BitVec 16) (x : Dec) (s : State), look s.decs decid.toNat = some x → x.stat = .held → ∃ t, exec (.decisionTimeout decid) s = .next t ∧ t = lapse 0 decid.toNat (s.reach x.deadline) ∧ (look t.decs decid.toNat).map (·.stat) = some .lapsed) ∧
  -- FM_PORT_LINK_DOWN (R29): the link to the fabric manager is down
  (∀ (s : State), s.decs = [] → ∃ t, exec (.fmPortLinkDown) s = .next t ∧ t = { s with fmUp := false }) ∧
  -- FM_PERST (R417): the fabric manager's link is lost
  (∀ (s : State), s.decs = [] → ∃ t, exec (.fmPerst) s = .next t ∧ t.fmUp = false ∧ t.sec.sessions = s.sec.sessions.filter (fun q => q.2 != fmDoe))

/-- What the commands of 17_management_time_and_domains.md do, part 1 of 3 (R390, R391, R392, R395). Each clause gives one command a case in which it has its own effect, and what the next state then holds. -/
def Obligations.ManagementEffectsA : Prop :=
  -- MCTP_SESSION_EXPIRY (R395): the session of the bus ends
  (∀ (s : State), s.mctpOpen = true → s.decs = [] → ∃ t, exec (.mctpSessionExpiry) s = .next t ∧ t.mctpOpen = false ∧ t.ns = max s.ns (s.mgmt.mctpLast + 10000000000)) ∧
  -- FM_API_COMMAND (R390): the tunnelled message leaves the pool port and the command is answered
  (∀ (p : PortId) (o : Nat) (s : State), isUp s p = true → s.on PORT.CFG.POOL p = true → ∃ t, exec (.fmApiCommand (.tunnel p o)) s = .next t ∧ t = fmDone (s.emit (.link p ⟨.pcieMsg, 0, o, 0, .noOp, [], 0, false, 0, .ok, 0⟩))) ∧
  -- DIR_QUEUE (R392): the queue decision is answered
  (∀ (d : Decide) (x : Dec) (s : State), look s.decs d.decid.toNat = some x → judge 0 d (decide (d.obj < 4)) s = stAccepted → ∃ t, exec (.dirQueue d) s = .next t ∧ t.get HOME.STAT.CQ_HELD x.obj = 0 ∧ (look t.decs d.decid.toNat).map (·.stat) = some .answered) ∧
  -- DIR_THROTTLE (R392): the mask throttles the ports
  (∀ (d : Decide) (mask : BitVec 64) (x : Dec) (s : State), look s.decs d.decid.toNat = some x → judge 0 d (decide (d.obj < 4)) s = stAccepted → 64 < carryLen s x.obj → ∃ t, exec (.dirThrottle d mask) s = .next t ∧ look t.throttle x.obj = some mask.toNat ∧ t.get HOME.STAT.CQ_HELD x.obj = 0) ∧
  -- SLOT_GO (R392): a held slot switches on
  (∀ (d : Decide) (x : Dec) (s : State), look s.decs d.decid.toNat = some x → judge 1 d (decide (d.obj < 32)) s = stAccepted → (slotSt s x.obj).state = slHeld → ∃ t, exec (.slotGo d) s = .next t ∧ (slotSt t x.obj).state = slInrush ∧ (look t.decs d.decid.toNat).map (·.stat) = some .answered) ∧
  -- SLOT_DENY (R392): a held slot stays off
  (∀ (d : Decide) (x : Dec) (s : State), look s.decs d.decid.toNat = some x → judge 1 d (decide (d.obj < 32)) s = stAccepted → (slotSt s x.obj).state = slHeld → ∃ t, exec (.slotDeny d) s = .next t ∧ (slotSt t x.obj).state = slReady ∧ (look t.decs d.decid.toNat).map (·.stat) = some .answered) ∧
  -- EQ_ACCEPT (R392): the sets in use are final
  (∀ (d : Decide) (x : Dec) (s : State), look s.decs d.decid.toNat = some x → judge 2 d (decide (d.obj < 64)) s = stAccepted → ∃ t, exec (.eqAccept d) s = .next t ∧ (portSt t x.obj).redos = 0 ∧ (look t.decs d.decid.toNat).map (·.stat) = some .answered) ∧
  -- EQ_REDO (R392): equalization is repeated
  (∀ (d : Decide) (preset : Fin 256) (x : Dec) (s : State), look s.decs d.decid.toNat = some x → judge 2 d (decide (preset.val ≤ 10) || preset.val == 15) s = stAccepted → ∃ t, exec (.eqRedo d preset) s = .next t ∧ (portSt t x.obj).redos = (portSt s x.obj).redos + 1 ∧ (look t.decs d.decid.toNat).map (·.stat) = some .answered) ∧
  -- EQ_OVERRIDE (R392): the taps are overridden and final
  (∀ (d : Decide) (taps : List (Nat × Nat)) (x : Dec) (s : State), look s.decs d.decid.toNat = some x → judge 2 d ((ovrLanes s d.obj taps).all (fun q => coeffOk q.2.1 q.2.2)) s = stAccepted → ∃ t, exec (.eqOverride d taps) s = .next t ∧ (portSt t x.obj).redos = 0 ∧ (look t.decs d.decid.toNat).map (·.stat) = some .answered) ∧
  -- UC_RECOVER_NODEC (R391): the failed logical device serves again
  (∀ (via : Via) (ld : Nat) (s : State), ld < 4096 ∧ s.on BIND.LD.VALID ld = true ∧ s.get BIND.LD.STATE ld = 2 → isUp s (s.get BIND.LD.POOL ld) = true ∧ samePool s (s.get BIND.LD.POOL ld) = true → heldDec s 3 (s.get BIND.LD.POOL ld) = none → look s.bind.failedFrom ld = some 0 ∧ placedOk s ld = true → s.on SEC.LDKEY.VALID ld = true → ∃ t, exec (.ucRecoverNodec via ld) s = .next t ∧ look t.bind.failedFrom ld = none ∧ t.out.any (fun o => o == .status via stAccepted) = true) ∧
  -- UC_KEEP (R392): the decision is answered
  (∀ (d : Decide) (x : Dec) (s : State), look s.decs d.decid.toNat = some x → judge 3 d (decide (d.obj < 64)) s = stAccepted → isUp s x.obj = true → ∃ t, exec (.ucKeep d) s = .next t ∧ (look t.decs d.decid.toNat).map (·.stat) = some .answered ∧ t.out.any (fun o => o == .status d.via stAccepted) = true) ∧
  -- MIG_GO (R392): the migration quiesces
  (∀ (d : Decide) (x : Dec) (s : State), look s.decs d.decid.toNat = some x → judge 4 d (decide (d.obj < 2)) s = stAccepted → migPhase s x.obj = 2 → committing s = false → (migSt s x.obj).isSome = true → ∃ t, exec (.migGo d) s = .next t ∧ migPhase t x.obj = 3 ∧ (migSt t x.obj).map (·.qstart) = some s.ns) ∧
  -- MIG_PASS (R392): a further pass starts
  (∀ (d : Decide) (x : Dec) (s : State), look s.decs d.decid.toNat = some x → judge 4 d (decide (d.obj < 2)) s = stAccepted → migPhase s x.obj = 2 → ∃ t, exec (.migPass d) s = .next t ∧ migPhase t x.obj = 1 ∧ t.get BIND.MIG.MSTAT.PASS x.obj = satAdd 0xFF (s.get BIND.MIG.MSTAT.PASS x.obj) 1 ∧ t.get BIND.MIG.MCURSOR.OFFSET x.obj = 0)

/-- What the commands of 17_management_time_and_domains.md do, part 2 of 3 (R392, R394, R395, R398, R402). Each clause gives one command a case in which it has its own effect, and what the next state then holds. -/
def Obligations.ManagementEffectsB : Prop :=
  -- MIG_ABORT (R392): the migration is aborted
  (∀ (d : Decide) (x : Dec) (s : State), look s.decs d.decid.toNat = some x → judge 4 d (decide (d.obj < 2)) s = stAccepted → (migSt s x.obj).any (fun y => !y.sealed_ && !y.aborting) = true → migPhase s x.obj = 2 → sealedOff s = false → ∃ t, exec (.migAbort d) s = .next t ∧ (look t.decs d.decid.toNat).map (·.stat) = some .answered ∧ t.out.any (fun o => o == .status d.via stAccepted) = true) ∧
  -- SPARE_GO (R392): the suspect core is fenced
  (∀ (d : Decide) (x : Dec) (s : State), look s.decs d.decid.toNat = some x → judge 5 d true s = stAccepted → srcUnit x.obj = some (1, 2) ∧ eSum ≤ x.obj → s.get FLT.UNIT.STATE 1 2 = 0 ∧ s.flt.bringIns = [] ∧ spareCore s = none → ∃ t, exec (.spareGo d) s = .next t ∧ t.get FLT.UNIT.STATE 1 2 = 2 ∧ (look t.decs d.decid.toNat).map (·.stat) = some .answered) ∧
  -- SPARE_HOLD (R392): the count of the suspect core starts anew
  (∀ (d : Decide) (x : Dec) (s : State), look s.decs d.decid.toNat = some x → judge 5 d true s = stAccepted → srcUnit x.obj = some (1, 2) ∧ eSum ≤ x.obj → ∃ t, exec (.spareHold d) s = .next t ∧ t.flt.coreCe = setNth s.flt.coreCe 2 0 ∧ (look t.decs d.decid.toNat).map (·.stat) = some .answered) ∧
  -- ROT_GO (R392): the key of the rotation is drawn and its start journalled
  (∀ (d : Decide) (x : Dec) (y : RotSt) (s : State), look s.decs d.decid.toNat = some x → judge 6 d (decide (d.obj < 2)) s = stAccepted → rotSt s x.obj = some y ∧ y.key = 0 ∧ rotPhase s x.obj = 2 → sealedOff s = false ∧ (activeHalf s).header.isSome = true → halfUsed (activeHalf s) + pagesOwed s + recPages (.rotStart x.obj y.ld [(0, s.get SEC.ROT.RCTL.RATE x.obj), (1, s.get SEC.ROT.RRESCUE.RLD x.obj), (2, s.get SEC.ROT.RRESCUE.OFFSET x.obj)]) [sealKey s (.rot x.obj) (s.sec.draws + 1) 0] ≤ s.boot.flash.halfPages → x.obj < 2 → ∃ t, exec (.rotGo d) s = .next t ∧ (rotSt t x.obj).map (·.key) = some (s.sec.draws + 1) ∧ t.sec.draws = s.sec.draws + 1 ∧ (look t.decs d.decid.toNat).map (·.stat) = some .answered) ∧
  -- ROT_DEFER (R392): the rotation waits for its new time
  (∀ (d : Decide) (time : BitVec 64) (x : Dec) (s : State), look s.decs d.decid.toNat = some x → judge 6 d (decide (d.obj < 2)) s = stAccepted → ∃ t, exec (.rotDefer d time) s = .next t ∧ rotPhase t x.obj = 1 ∧ t.get SEC.ROT.RTIME.TIME x.obj = time.toNat) ∧
  -- ROT_CANCEL (R392): the rotation is cancelled
  (∀ (d : Decide) (x : Dec) (s : State), look s.decs d.decid.toNat = some x → judge 6 d (decide (d.obj < 2)) s = stAccepted → ∃ t, exec (.rotCancel d) s = .next t ∧ rotPhase t x.obj = 0 ∧ t.get SEC.ROT.RSTAT.RESULT x.obj = 4) ∧
  -- SUM_EXTEND (R392): the window opens again until its new deadline
  (∀ (d : Decide) (us : Nat) (x : Dec) (s : State), look s.decs d.decid.toNat = some x → judge 7 d (decide (1 ≤ us) && decide (us ≤ 1000000)) s = stAccepted → (winOf s x.obj).isSome = true → winState s x.obj = wHeld → s.sum.away.contains x.obj = false → ∃ t, exec (.sumExtend d us) s = .next t ∧ winState t x.obj = wOpen ∧ (winOf t x.obj).map (·.deadline) = some (winTimer s us)) ∧
  -- SUM_PUBLISH (R392): the window publishes what it has
  (∀ (d : Decide) (x : Dec) (s : State), look s.decs d.decid.toNat = some x → judge 7 d true s = stAccepted → (winOf s x.obj).isSome = true → winState s x.obj = wHeld → ∃ t, exec (.sumPublish d) s = .next t ∧ (look t.decs d.decid.toNat).map (·.stat) = some .answered ∧ t.out.any (fun o => o == .status d.via stAccepted) = true) ∧
  -- SUM_ABORT (R392): the window is aborted
  (∀ (d : Decide) (x : Dec) (s : State), look s.decs d.decid.toNat = some x → judge 7 d true s = stAccepted → (winOf s x.obj).any (fun y => !y.rearm && y.slots.isEmpty) = true → winState s x.obj = wHeld → s.sum.away.contains x.obj = false → ∃ t, exec (.sumAbort d) s = .next t ∧ winState t x.obj = wFree ∧ (look t.decs d.decid.toNat).map (·.stat) = some .answered) ∧
  -- OWNER_KEY_SET (R394): the owner's key is fused
  (∀ (via : Via) (hash : BitVec 384) (fuseOk : Bool) (s : State), via = .fm → s.get SEC.LCSTAT.STATE = 1 ∧ s.fuses.owner = none → fuseOk = true → ∃ t, exec (.ownerKeySet via hash fuseOk) s = .next t ∧ t.fuses.owner = some hash ∧ t.on SEC.LCSTAT.OWNER = true ∧ t.out.any (fun o => o == .status .fm 0) = true) ∧
  -- MCTP_MESSAGE (R395): the session of the bus is open
  (∀ (fmApi : Bool) (s : State), fmApi = true → ∃ t, exec (.mctpMessage fmApi) s = .next t ∧ t = { s with mctpOpen := true, mgmt := { s.mgmt with mctpLast := s.ns } }) ∧
  -- NOC_REQUEST_INJECT (R398): a request of a master without a limit enters the ring
  (∀ (r : Fin 36) (q : NocRequest) (s : State), nocStale s q.sender = false → s.mgmt.noc = [] → nocFits { s with mgmt := { s.mgmt with noc := [] } } r q.flits = true → s.get NOC.RATE.RATE r = 0 → ∃ t, exec (.nocRequestInject r q) s = .next t ∧ t.out = s.out ++ [.noc r q.flits] ∧ t.mgmt.noc = [] ∧ t.mgmt.nocRoom = s.mgmt.nocRoom ++ [(r.val, rspFlits)] ∧ t.mgmt.nocSent = s.mgmt.nocSent ++ [r.val]) ∧
  -- CDC_OVERRUN (R402): the first overrun is counted and named
  (∀ (crossing : Fin 256) (unit : ErrRec) (s : State), s.get NOC.CDCSTAT.COUNT = 0 → ∃ t, exec (.cdcOverrun crossing unit) s = .next t ∧ t.get NOC.CDCSTAT.FIRST = crossing.val ∧ t.get NOC.CDCSTAT.COUNT = 1 ∧ t.on NOC.ESTAT.CDC_OVR = true)

/-- What the commands of 17_management_time_and_domains.md do, part 3 of 3 (R399, R400, R403, R404, R405, R406, R410). Each clause gives one command a case in which it has its own effect, and what the next state then holds. -/
def Obligations.ManagementEffectsC : Prop :=
  -- POWER_DOWN_START (R399): an idle domain starts to power down
  (∀ (d : Fin 13) (s : State), pdOn s d = true ∧ s.on NOC.PD.CTL.AUTO d = true → pdAllowed s d = true → ∃ t, exec (.powerDownStart d) s = .next t ∧ pdState t d = 1) ∧
  -- POWER_DOWN_ABORT (R400): the power-down is given up
  (∀ (d : Fin 13) (s : State), pdState s d = 1 → ∃ t, exec (.powerDownAbort d) s = .next t ∧ pdState t d = 0 ∧ t.get NOC.PD.STAT.ABORTS d = satAdd 0xFFFF (s.get NOC.PD.STAT.ABORTS d) 1) ∧
  -- POINT_OF_NO_RETURN (R400): the domain is off
  (∀ (d : Fin 13) (s : State), pdState s d = 1 → pdAllowed s d = true → ∃ t, exec (.pointOfNoReturn d) s = .next t ∧ pdState t d = 2 ∧ (pdSt t d).offAt = s.ns ∧ (pdSt t d).wake = false) ∧
  -- MIN_OFF_EXPIRY (R400): the domain powers up
  (∀ (d : Fin 13) (s : State), pdState s d = 2 ∧ (pdSt s d).wake = true → ∃ t, exec (.minOffExpiry d) s = .next t ∧ pdState t d = 3 ∧ t.ns = max s.ns ((pdSt s d).offAt + 20000)) ∧
  -- DOMAIN_ON (R400): the domain is on
  (∀ (d : Fin 13) (s : State), pdState s d = 3 → (pdSt s d).held = [] ∧ (pdSt s d).late = [] → ∃ t, exec (.domainOn d) s = .next t ∧ pdState t d = 0 ∧ (pdSt t d).wake = false) ∧
  -- DOMAIN_WAKE (R410): the domain wakes
  (∀ (d : Fin 13) (v : Word) (s : State), served s (NOC.PD.CTL.WAKE.base / 8) = true → bitOf v.toNat 16 = true → pdState s d = 1 → ∃ t, exec (.domainWake d v) s = .next t ∧ pdState t d = 0 ∧ t.get NOC.PD.CTL.AUTO d = bitsOf v.toNat 0 1) ∧
  -- TREF_LOSS (R403): the loss of the reference shows
  (∀ (pps : Bool) (s : State), pps = false → s.on TIME.STAT.TREF_OK = true → s.get TIME.STAT.STATE = 0 → ∃ t, exec (.trefLoss pps) s = .next t ∧ t.get TIME.STAT.TREF_OK = 0 ∧ t.get TIME.STAT.STATE = 0) ∧
  -- TREF_LOCK (R403): the time is locked to the reference
  (∀ (s : State), s.on TIME.CTL.TREF_EN = true → (s.get TIME.STAT.STATE = 0 ∨ s.get TIME.STAT.STATE = 3) → ∃ t, exec (.trefLock) s = .next t ∧ t.get TIME.STAT.TREF_OK = 1 ∧ t.get TIME.STAT.STATE = 1) ∧
  -- PPS_EDGE (R404): the pulse is present
  (∀ (second : Nat) (s : State), s.on TIME.CTL.PPS_EN = false → ∃ t, exec (.ppsEdge second) s = .next t ∧ t = s.set TIME.STAT.PPS_OK 1) ∧
  -- TIME_STEP (R404): the time is stepped
  (∀ (v : Word) (s : State), served s (TIME.CTL.STEP.base / 8) = true → s.get TIME.STAT.STATE = 0 → bitOf v.toNat 3 = true ∧ bitOf v.toNat 4 = false → ∃ t, exec (.timeStep v) s = .next t ∧ t.now = s.get TIME.SET.NS * 2 ^ 16 ∧ t.get TIME.STAT.STEPPED = 1) ∧
  -- TIME_SLEW (R404): the time is slewed
  (∀ (v : Word) (s : State), served s (TIME.CTL.SLEW.base / 8) = true → s.get TIME.STAT.STATE = 0 → bitOf v.toNat 3 = false ∧ bitOf v.toNat 4 = true → ∃ t, exec (.timeSlew v) s = .next t ∧ t.mgmt.slew = (slewTime (adjOf s) s).mgmt.slew ∧ t.now = s.now) ∧
  -- PPS_OUT_SECOND (R405): the pulse is put out on the second
  (∀ (s : State), s.on TIME.CTL.PPSOUT_EN = true → ∃ t, exec (.ppsOutSecond) s = .next t ∧ t.ns = (s.ns / 1000000000 + 1) * 1000000000 ∧ t.out = s.out ++ [.ppsOut ((s.ns / 1000000000 + 1) * 1000000000 + s.get TIME.PPSCFG.PWIDTH * 1000000)]) ∧
  -- PTM_REQUEST (R406): the time is answered
  (∀ (p : PortId) (s : State), isUp s p = true → s.on PORT.CFG.PTM_EN p = true → ∃ t, exec (.ptmRequest p) s = .next t ∧ t = s.emit (.ptm p s.ns))

/-- What the commands of 04_the_frame.md do (R82, R83, R86, R91, R92, R94, R95, R100, R101, R102, R107). Each clause gives one command a case in which it has its own effect, and what the next state then holds. -/
def Obligations.FrameEffects : Prop :=
  -- LINK_RESPONSE (R86): a response frees the tag of its request
  (∀ (x : XId) (r : LinkRsp) (e : TagEnt) (s : State), s.safe = false ∧ x.val < 64 → isUp s (ownerPort s x) = true → sentTag s (ownerPort s x) r.tag = some e → e.quar = false ∧ e.pkt = none → ∃ t, exec (.linkResponse x r) s = .next t ∧ t = convStep (freeSent (ownerPort s x) e.tag (bwRx (ownerPort s x) (32 + 64 * r.data.length) s))) ∧
  -- LINK_RESPONSE (R86): a response to a tag in quarantine is counted as late
  (∀ (x : XId) (r : LinkRsp) (e : TagEnt) (s : State), s.safe = false ∧ x.val < 64 → isUp s (ownerPort s x) = true → sentTag s (ownerPort s x) r.tag = some e → e.quar = true → ∃ t, exec (.linkResponse x r) s = .next t ∧ t.get PORT.LATECNT.COUNT (ownerPort s x) = satAdd 0xFFFFFFFF (s.get PORT.LATECNT.COUNT (ownerPort s x)) 1) ∧
  -- FLIT_CHECK_FAIL (R83): the link replays and no packet enters the Frame
  (∀ (p : PortId) (s : State), ∃ t, exec (.flitCheckFail p) s = .next t ∧ t.out = s.out ++ [.linkReplay p] ∧ t.frame = s.frame) ∧
  -- SHARED_POOL_MOVE (R91): the first packet of the class that has room in the shared pool moves there
  (∀ (x : XId) (tc : TcId) (v : VoqEnt) (l : List VoqEnt) (s : State), (s.on FRAME.XP.BUFCFG.EXT_EN x = true ∨ 64 ≤ x.val) → x.val < 72 → stalled s x = [] → takeFirst (fun v => (!v.ext && v.p.tc == tc.val && (beadClass v.p).1 != 16 && poolRoom s x v.p) && !v.p.own) (voq s x) = some (v, l) → ∃ t, exec (.sharedPoolMove x tc) s = .next t ∧ voq t x = (voq s x).map (fun w => if w.p.uid = v.p.uid then { w with ext := true, paid := true } else w)) ∧
  -- SCHEDULER_SLOT (R95): a lone packet that its egress has room for is put on a crossing
  (∀ (i e : Nat) (v : VoqEnt) (s : State), s.frame.subst = none → s.safe = false → s.frame.voq = [(i, [v])] → s.frame.cross = [] → v.p.dest = e → s.frame.first = [] → e < 80 → v.p.tc < 8 → egressRoom s (egressOf s e) v.p.tc v.p.lp.isSome = true → heldBack s v = false → s.frame.replay = [] → perturbed s i = false → i < 80 → ∃ t, exec (.schedulerSlot) s = .next t ∧ voq t i = [] ∧ (crossing t i).map (fun c => (c.e, c.tc, c.ents, c.dead)) = [(e, v.p.tc, [{ v with paid := true }], false)]) ∧
  -- CROSSING_COMPLETE (R100): a crossing that arrives is over, unless its stream awaits a replay
  (∀ (i : XId) (c : Cross) (l : List Cross) (s : State), takeFirst (fun c => !c.dead) (crossing s i) = some (c, l) → s.frame.replay.contains (i.val, streamKey c.e c.tc) = false → ∃ t, exec (.crossingComplete i) s = .next t ∧ crossing t i = l) ∧
  -- CROSSING_ERROR (R100): the error is counted against the plane, and the stream awaits a replay
  (∀ (i : XId) (plane : Fin 5) (stale : Bool) (c : Cross) (l : List Cross) (s : State), takeFirst (fun c => !c.dead) (crossing s i) = some (c, l) → ∃ t, exec (.crossingError i plane stale) s = .next t ∧ t.get FRAME.PLANEERR.COUNT plane = satAdd 0xFFFF (s.get FRAME.PLANEERR.COUNT plane) 1 ∧ (i.val, streamKey c.e c.tc) ∈ t.frame.replay) ∧
  -- REPLAY_REQUEST (R100): the stream's packets return to the front of the ingress buffer, and the replay is counted
  (∀ (i : XId) (e : XId) (tc : TcId) (s : State), s.frame.replay.contains (i.val, streamKey e tc) = true → ∃ t, exec (.replayRequest i e tc) s = .next t ∧ t.get FRAME.XP.REPLAYCNT.COUNT e = satAdd 0xFFFFFFFF (s.get FRAME.XP.REPLAYCNT.COUNT e) 1 ∧ voq t i = ((crossing s i).filter (fun c => c.dead && c.e == e.val && c.tc == tc.val)).flatMap (·.ents) ++ voq s i) ∧
  -- SPARE_PLANE_CHECK (R82): a spare that fails its check is fenced
  (∀ (n : Nat) (s : State), sparePlane s = some n → ∃ t, exec (.sparePlaneCheck false) s = .next t ∧ t.get FRAME.PLANESTAT.NO_SPARE = 1 ∧ planeState t n = 2) ∧
  -- PLANE_SUB_COMMAND (R101): the substitution of an active plane by the spare starts
  (∀ (v : Word) (n pos : Nat) (s : State), served s (FRAME.PLANECTL.SUB.base / 8) = true → bitOf v.toNat 3 = true → sparePlane s = some n → posOf s (bitsOf v.toNat 0 3) = some pos → s.frame.subst = none → s.on FRAME.PLANESTAT.NO_SPARE = false → bitsOf v.toNat 0 3 < 5 → planeState s (bitsOf v.toNat 0 3) = 0 → ∃ t, exec (.planeSubCommand v) s = .next t ∧ t.frame.subst.map (fun b => (b.old, b.new, b.pos, b.waiting)) = some (bitsOf v.toNat 0 3, n, pos, []) ∧ t.get FRAME.PLANESTAT.SUBST = 1) ∧
  -- SUBSTITUTION_COMPLETE (R102): the substitution ends, and its stall is measured
  (∀ (stallNs : Nat) (b : Subst) (s : State), s.frame.subst = some b → b.waiting = [] → ∃ t, exec (.substitutionComplete stallNs) s = .next t ∧ t.frame.subst = none ∧ t.get FRAME.PLANESTAT.SUBST = 0 ∧ t.get FRAME.SUBSTAT.LAST_NS = min 4095 stallNs ∧ t.get FRAME.SUBSTAT.COUNT = satAdd 0xFF (s.get FRAME.SUBSTAT.COUNT) 1) ∧
  -- TCSHARE_WRITE (R92): shares that fit are taken
  (∀ (x : XId) (tc : TcId) (v : Word) (s : State), served s (FRAME.XP.TCSHARE.MIN.base / 8) = true → ((List.range 8).map (fun u => if u = tc.val then bitsOf v.toNat 0 11 else s.get FRAME.XP.TCSHARE.MIN x u)).sum * 16 + rspReserve ≤ (regionUnits s x).2 → ∃ t, exec (.tcshareWrite x tc v) s = .next t ∧ t.get FRAME.XP.TCSHARE.MIN x tc = bitsOf v.toNat 0 11 ∧ t.get FRAME.XP.TCSHARE.MAX x tc = bitsOf v.toNat 11 11) ∧
  -- EGQ_WRITE (R94): limits that fit are taken
  (∀ (x : XId) (tc : TcId) (v : Word) (s : State), served s (FRAME.XP.EGQ.EQMIN.base / 8) = true → (x.val < 64 → behindX16 s x = false) → ((List.range 8).map (fun u => if u = tc.val then bitsOf v.toNat 0 11 else s.get FRAME.XP.EGQ.EQMIN x u)).sum ≤ capacity s x → bitsOf v.toNat 0 11 ≤ bitsOf v.toNat 11 11 → ∃ t, exec (.egqWrite x tc v) s = .next t ∧ t.get FRAME.XP.EGQ.EQMIN x tc = bitsOf v.toNat 0 11 ∧ t.get FRAME.XP.EGQ.EQMAX x tc = bitsOf v.toNat 11 11) ∧
  -- CMARK_WRITE (R107): rising thresholds are taken
  (∀ (x : XId) (v : Word) (s : State), served s (FRAME.XP.CMARK.T1.base / 8) = true → bitsOf v.toNat 0 10 ≤ bitsOf v.toNat 10 10 ∧ bitsOf v.toNat 10 10 ≤ bitsOf v.toNat 20 10 → ∃ t, exec (.cmarkWrite x v) s = .next t ∧ t.get FRAME.XP.CMARK.T1 x = bitsOf v.toNat 0 10 ∧ t.get FRAME.XP.CMARK.T2 x = bitsOf v.toNat 10 10 ∧ t.get FRAME.XP.CMARK.T3 x = bitsOf v.toNat 20 10)

/-- What the commands of 05_egress_scheduling_and_time_gates.md do (R111, R113, R114, R115, R117, R118, R120, R123). Each clause gives one command a case in which it has its own effect, and what the next state then holds. -/
def Obligations.EgressEffects : Prop :=
  -- EGRESS_VISIT (R113): a packet at the head of the queue of a home slice's port passes to the slice
  (∀ (x : XId) (e : EgEnt) (s : State), s.safe = false → 72 ≤ x.val ∧ x.val < 76 → egq s x = [e] → e.p.tc < 8 → s.homeG.conv = none → ∃ t, exec (.egressVisit x) s = .next t ∧ inbox t x = inbox s x ++ [e.p]) ∧
  -- GATE_SPILL (R120): the overrun is counted and flagged
  (∀ (p : PortId) (s : State), ∃ t, exec (.gateSpill p) s = .next t ∧ t.get FRAME.EG.OVRCNT.COUNT p = satAdd 0xFFFFFFFF (s.get FRAME.EG.OVRCNT.COUNT p) 1 ∧ t.on FRAME.EG.ESTAT.SPILL p = true) ∧
  -- QCFG_WRITE (R114): a quantum of at least 9 units and no more than the burst is taken
  (∀ (p : PortId) (tc : TcId) (v : Word) (s : State), served s (FRAME.EG.Q.QCFG.QUANTUM.base / 8) = true → behindX16 s p = false → 9 ≤ bitsOf v.toNat 0 12 → bitsOf v.toNat 0 12 ≤ bitsOf v.toNat 12 12 → ∃ t, exec (.qcfgWrite p tc v) s = .next t ∧ t.get FRAME.EG.Q.QCFG.QUANTUM p tc = bitsOf v.toNat 0 12 ∧ t.get FRAME.EG.Q.QCFG.BURST p tc = bitsOf v.toNat 12 12) ∧
  -- SHAPE_WRITE (R115): a rate with a bucket of at least 9 units is taken
  (∀ (p : PortId) (tc : TcId) (v : Word) (s : State), served s (FRAME.EG.Q.SHAPE.RATE.base / 8) = true → behindX16 s p = false → 9 ≤ bitsOf v.toNat 12 12 → ∃ t, exec (.shapeWrite p tc v) s = .next t ∧ t.get FRAME.EG.Q.SHAPE.RATE p tc = bitsOf v.toNat 0 12 ∧ t.get FRAME.EG.Q.SHAPE.DEPTH p tc = bitsOf v.toNat 12 12) ∧
  -- GATE_BOUNDARY (R117): the list that runs stands at the entry of the time reached
  (∀ (p : PortId) (l b : Nat) (s : State), (egSt s p).run = some (l, b) → ∃ t, exec (.gateBoundary p) s = .next t ∧ t.get FRAME.EG.GCLSTAT.RUN p = 1 ∧ t.get FRAME.EG.GCLSTAT.LIST p = l % 2 ∧ s.ns ≤ t.ns) ∧
  -- GCL_COMMIT (R118): an empty list is refused with GCL_ERR
  (∀ (p : PortId) (v : Word) (s : State), served s (FRAME.EG.GCLCTL.COMMIT.base / 8) = true → behindX16 s p = false → bitOf v.toNat 1 = true → s.get FRAME.EG.GCLLEN.LEN p (bitsOf v.toNat 0 1) = 0 → ∃ t, exec (.gclCommit p v) s = .next t ∧ t.on FRAME.EG.ESTAT.GCL_ERR p = true ∧ (egSt t p).pend = (egSt s p).pend) ∧
  -- GCL_COMMIT (R118): a list of one entry that meets R118 waits for its start
  (∀ (p : PortId) (v : Word) (s : State), served s (FRAME.EG.GCLCTL.COMMIT.base / 8) = true → behindX16 s p = false → bitOf v.toNat 1 = true → (egSt s p).run = none → (egSt s p).pend = none → s.get FRAME.EG.GCLLEN.LEN p (bitsOf v.toNat 0 1) = 1 → 8 ≤ (gclEntry s p (bitsOf v.toNat 0 1) 0).2 → 64 ≤ s.get FRAME.EG.GCLCYCLE.CYCLE p (bitsOf v.toNat 0 1) → ∃ t, exec (.gclCommit p v) s = .next t ∧ (egSt t p).pend = some (bitsOf v.toNat 0 1, (gclStart s p (bitsOf v.toNat 0 1)).1) ∧ t.get FRAME.EG.GCLSTAT.PENDING p = 1) ∧
  -- GCL_CANCEL (R118): the pending list is dropped
  (∀ (p : PortId) (v : Word) (s : State), served s (FRAME.EG.GCLCTL.CANCEL.base / 8) = true → behindX16 s p = false → bitOf v.toNat 2 = true → ∃ t, exec (.gclCancel p v) s = .next t ∧ (egSt t p).pend = none ∧ t.get FRAME.EG.GCLSTAT.PENDING p = 0) ∧
  -- PENDING_LIST_START (R118): the pending list starts to run
  (∀ (p : PortId) (l st : Nat) (s : State), (egSt s p).pend = some (l, st) → ∃ t, exec (.pendingListStart p) s = .next t ∧ (egSt t p).run = some (l, st) ∧ (egSt t p).pend = none ∧ t.get FRAME.EG.GCLSTAT.RUN p = 1 ∧ t.get FRAME.EG.GCLSTAT.PENDING p = 0) ∧
  -- GATE_DISABLE (R118): no list runs or waits, and SCHCFG takes the written bits
  (∀ (p : PortId) (v : Word) (s : State), served s (FRAME.EG.SCHCFG.GATE_EN.base / 8) = true → behindX16 s p = false → bitOf v.toNat 0 = false → ∃ t, exec (.gateDisable p v) s = .next t ∧ (egSt t p).run = none ∧ (egSt t p).pend = none ∧ t.get FRAME.EG.GCLSTAT.RUN p = 0 ∧ t.get FRAME.EG.SCHCFG.GUARD p = bitsOf v.toNat 3 8) ∧
  -- EGRESS_SAMPLE_WINDOW_END (R123): the window's sequence number counts and a new window starts
  (∀ (p : PortId) (s : State), ∃ t, exec (.egressSampleWindowEnd p) s = .next t ∧ t.get FRAME.EG.SAMPSTAT.WINSEQ p = (s.get FRAME.EG.SAMPSTAT.WINSEQ p + 1) % 2 ^ 16 ∧ (egSt t p).cnt = 0 ∧ (egSt t p).dcnt = List.replicate 8 0) ∧
  -- LINK_CREDIT_UPDATE (R111): the credits that the partner returns are added to their list
  (∀ (p : PortId) (list : Fin 4) (hdr data : Nat) (s : State), (portSt s p).credits = [] → ∃ t, exec (.linkCreditUpdate p list hdr data) s = .next t ∧ (portSt t p).credits = [(list.val, hdr, data)])

/-- What the commands of 06_binding_and_logical_devices.md do (R127, R130, R132, R133, R135, R137, R140, R142, R143, R146, R148). Each clause gives one command a case in which it has its own effect, and what the next state then holds. -/
def Obligations.BindingEffects : Prop :=
  -- HDM_COMMIT (R127): a decoder whose fields are legal and that overlaps no other is committed
  (∀ (p : PortId) (g : HdmProg) (d : Fin 32) (s : State), s.get PORT.CFG.ROLE p = 1 → s.on BIND.DEC.LOCKED p d = false → g.commit = true → hdmFieldsOk g = true → hdmOverlap s p d g = false → g.targets.all (fun q => q.1 == p) = true → ∃ t, exec (.hdmCommit p (.upstream d) g) s = .next t ∧ t.get BIND.DEC.COMMITTED p d = 1 ∧ t.get BIND.DEC.LOCKED p d = b2n g.lock ∧ t.get BIND.DEC.SIZE p d = g.size.toNat / mib256 % 2 ^ BIND.DEC.SIZE.w ∧ t.get BIND.DEC.BASE p d = g.base.toNat / mib256 % 2 ^ BIND.DEC.BASE.w) ∧
  -- BIND_COMMIT (R132): an orderly change of one entry waits for the host to turn the slot off
  (∀ (v : Word) (hst vp : Nat) (s : State), served s (BIND.CTL.COMMIT.base / 8) = true → bitOf v.toNat 7 = true → bitOf v.toNat 8 = false → bitsOf v.toNat 0 7 = 1 → s.on BIND.STAT.DONE = true → s.on BIND.STAT.BUSY = false → migPhase s 0 = 0 ∧ migPhase s 1 = 0 → badEntry s [stgEntry s 0] = none → managed s (stgEntry s 0) = some (hst, vp) → ∃ t, exec (.bindCommit v) s = .next t ∧ t.get BIND.STAT.BUSY = 1 ∧ t.bind.change = some ⟨[stgEntry s 0], [(hst, vp)], false, false, [], 0, s.ns⟩) ∧
  -- BIND_DISCARD (R148): the staged entries are cleared
  (∀ (v : Word) (s : State), served s (BIND.CTL.DISCARD.base / 8) = true → bitOf v.toNat 7 = false → bitOf v.toNat 8 = true → ∃ t, exec (.bindDiscard v) s = .next t ∧ (∀ i, i < 64 → t.get BIND.STG.VALUE i = 0) ∧ t.get BIND.CTL.UNB_TO = bitsOf v.toNat 9 8) ∧
  -- HOST_SLOT_POWER_OFF (R135): the slot is recorded as off
  (∀ (p : PortId) (vppb : Fin 256) (s : State), s.bind.change = none → s.bind.mig0 = none ∧ s.bind.mig1 = none → s.sec.rot0 = none ∧ s.sec.rot1 = none → ∃ t, exec (.hostSlotPowerOff p vppb) s = .next t ∧ t.bind.powerOff = insertNat (p.val * 256 + vppb.val) s.bind.powerOff) ∧
  -- UNBIND_TIMEOUT (R132): the change is given up with result 4
  (∀ (c : Change) (s : State), s.bind.change = some c → c.waits ≠ [] → ∃ t, exec (.unbindTimeout) s = .next t ∧ t.bind.change = none ∧ t.get BIND.STAT.RESULT = 4 ∧ t.on BIND.ESTAT.REJECT = true) ∧
  -- COMMIT_POINT (R133): the sealed change takes effect in a new epoch
  (∀ (c : Change) (s : State), s.on BIND.STAT.DONE = true → sealedOff s = false → s.bind.change = some c → c.sealed_ = true → ∃ t, exec (.commitPoint) s = .next t ∧ t.get BIND.STAT.EPOCH = (s.get BIND.STAT.EPOCH + 1) % 256 ∧ t.get BIND.STAT.DONE = 0 ∧ t.get BIND.STAT.BUSY = 0 ∧ t.get BIND.STAT.RESULT = 0 ∧ t.bind.change = none) ∧
  -- BIND_DRAIN_DONE (R133): the former epoch is drained
  (∀ (s : State), s.on BIND.STAT.DONE = false → bindDrained s = true → ∃ t, exec (.bindDrainDone) s = .next t ∧ t.get BIND.STAT.DONE = 1 ∧ t.bind.former = []) ∧
  -- BIND_VPPB (R135): a change of one binding entry is staged, submitted and recorded
  (∀ (index : Fin 4096) (host : PortId) (vppb : Fin 256) (kind : Fin 4) (target : Fin 4096) (s : State), served s (BIND.CTL.COMMIT.base / 8) = true → s.on BIND.STAT.DONE = true → s.on BIND.STAT.BUSY = false → migPhase s 0 = 0 ∧ migPhase s 1 = 0 → badEntry s [⟨false, index, 1 + host.val * 2 + vppb.val * 2 ^ 7 + kind.val * 2 ^ 15 + target.val * 2 ^ 17⟩] = none → (request (.bind [⟨false, index, 1 + host.val * 2 + vppb.val * 2 ^ 7 + kind.val * 2 ^ 15 + target.val * 2 ^ 17⟩] none none) [] .bind s).1 = .taken → ∃ t, exec (.bindVppb index host vppb kind target) s = .next t ∧ t.bind.change = some ⟨[⟨false, index, 1 + host.val * 2 + vppb.val * 2 ^ 7 + kind.val * 2 ^ 15 + target.val * 2 ^ 17⟩], [], true, false, [], 0, s.ns⟩ ∧ t.get BIND.STAT.BUSY = 1 ∧ t.out = s.out ++ [.fmVector 1]) ∧
  -- UNBIND_VPPB (R135): a surprise unbinding is staged, submitted and recorded
  (∀ (host : PortId) (vppb : Fin 256) (mode : Fin 4) (j : Nat) (s : State), served s (BIND.CTL.COMMIT.base / 8) = true → btOf s host vppb = some j → s.on BIND.STAT.DONE = true → s.on BIND.STAT.BUSY = false → migPhase s 0 = 0 ∧ migPhase s 1 = 0 → mode.val = 2 → j < 4096 → badEntry s [⟨false, j, 2 ^ 30⟩] = none → (request (.bind [⟨false, j, 2 ^ 30⟩] none none) [] .bind s).1 = .taken → ∃ t, exec (.unbindVppb host vppb mode) s = .next t ∧ t.bind.change = some ⟨[⟨false, j, 2 ^ 30⟩], [], true, false, [], 0, s.ns⟩ ∧ t.get BIND.STAT.BUSY = 1 ∧ t.out = s.out ++ [.fmVector 1]) ∧
  -- SET_LD_ALLOCATIONS (R130): the device's allocations are taken
  (∀ (p : PortId) (allocs : List Nat) (r : PoolReport) (s : State), isUp s p = true → look s.bind.pools p = some r → r.mld = true → ∃ t, exec (.setLdAllocations p allocs) s = .next t ∧ look t.bind.pools p = some { r with allocs := allocs } ∧ t.out = s.out ++ [.ldAlloc p allocs, .fmVector 1]) ∧
  -- MIG_START (R137): a migration that R137 admits is recorded, and its phase stays 0 until the MIG_START record is sealed
  (∀ (m : Fin 2) (v : Word) (s : State), served s (BIND.MIG.MCTL.START.base / 8) = true → bitOf v.toNat 22 = true → bitOf v.toNat 23 = false → migPhase s m = 0 → s.on BIND.LD.VALID (bitsOf v.toNat 0 12) = true → s.get BIND.LD.STATE (bitsOf v.toNat 0 12) ≤ 1 → s.on BIND.STAT.BUSY = false → destOk s m (bitsOf v.toNat 0 12) (bitsOf v.toNat 12 6) (poolMld s (bitsOf v.toNat 12 6)) (bitsOf v.toNat 18 4) (s.get BIND.MIG.MDEST.DBASE m) = true → bitmapOk s m (bitsOf v.toNat 0 12) (bitsOf v.toNat 12 6) (poolMld s (bitsOf v.toNat 12 6)) (s.get BIND.MIG.MDEST.DBASE m) = true → (request (.migStart m (bitsOf v.toNat 0 12) (bitsOf v.toNat 12 6) (bitsOf v.toNat 18 4) (s.get BIND.MIG.MDEST.DBASE m) (s.get BIND.MIG.MBM.BASE m)) [sealKey s (.mig m) (s.sec.draws + 1) 0] (.mig m) s).1 = .taken → migSt s m = none → ∃ t, exec (.migStart m v) s = .next t ∧ t.get BIND.MIG.MSTAT.PHASE m = 0 ∧ t.get BIND.LD.STATE (bitsOf v.toNat 0 12) = s.get BIND.LD.STATE (bitsOf v.toNat 0 12) ∧ (migSt t m).map (fun x => (x.ld, x.dport, x.dirty)) = some (bitsOf v.toNat 0 12, bitsOf v.toNat 12 6, [])) ∧
  -- MCTL_ABORT (R146): a migration starts to abort
  (∀ (m : Fin 2) (v : Word) (x : MigSt) (s : State), served s (BIND.MIG.MCTL.ABORT.base / 8) = true → bitOf v.toNat 22 = false → bitOf v.toNat 23 = true → migSt s m = some x → x.sealed_ = false ∧ x.aborting = false → migPhase s m = 1 → heldDec s 4 m = none → (request (.migAbort m) [] (.mig m) s).1 = .taken → ∃ t, exec (.mctlAbort m v) s = .next t ∧ (migSt t m).map (·.aborting) = some true ∧ t.get BIND.MIG.MSTAT.PHASE m = 1) ∧
  -- COPY_PASS_END (R140): with too many dirty blocks the next pass begins
  (∀ (m : Fin 2) (x : MigSt) (s : State), migSt s m = some x → migPhase s m = 1 → x.aborting = false ∧ x.wantQ = false → x.once = false → scanDone s m x = true → 4 * s.get BIND.MIG.MCFG.CONV m < x.dirty.length → ∃ t, exec (.copyPassEnd m) s = .next t ∧ t.get BIND.MIG.MSTAT.PASS m = satAdd 0xFF (s.get BIND.MIG.MSTAT.PASS m) 1 ∧ t.get BIND.MIG.MCURSOR.OFFSET m = 0) ∧
  -- MIG_CHECKPOINT (R140): behind the record that is being written a checkpoint is queued
  (∀ (m : Fin 2) (s : State), migPhase s m = 1 → (request (.migCkpt m (s.get BIND.MIG.MCURSOR.OFFSET m) (s.get BIND.MIG.MSTAT.PASS m)) [] (.mig m) s).1 = .taken → s.boot.cur.isSome = true → ∃ t, exec (.migCheckpoint m) s = .next t ∧ t.boot.queue = s.boot.queue ++ [⟨.migCkpt m (s.get BIND.MIG.MCURSOR.OFFSET m) (s.get BIND.MIG.MSTAT.PASS m), [], .mig m⟩]) ∧
  -- QUIESCE_COPY_DONE (R142): the quiesce has copied every dirty block, and the commit is requested
  (∀ (m : Fin 2) (lenNs : Nat) (x : MigSt) (s : State), migSt s m = some x → migPhase s m = 3 → lenNs ≤ 50000 → ldOpen s x.ld = false → copyOpen s x.ld = false → x.dirty = [] ∧ x.reads = [] → x.held = [] → (request (.migCommit m) [] (.mig m) s).1 = .taken → ∃ t, exec (.quiesceCopyDone m lenNs) s = .next t ∧ t.get BIND.MIG.MQSTAT.LAST_NS m = lenNs ∧ t.get BIND.MIG.MSTAT.PHASE m = 4 ∧ (migSt t m).map (fun y => (y.dirty, y.aborts)) = some ([], 0)) ∧
  -- QUIESCE_TIMEOUT (R142): the quiesce is given up and counted
  (∀ (m : Fin 2) (x : MigSt) (s : State), migSt s m = some x → x.held = [] → migPhase s m = 3 → ∃ t, exec (.quiesceTimeout m) s = .next t ∧ t.get BIND.MIG.MSTAT.PHASE m = 1 ∧ t.get BIND.MIG.MQSTAT.QABORTS m = satAdd 0xFF (s.get BIND.MIG.MQSTAT.QABORTS m) 1 ∧ t.get BIND.MIG.MQSTAT.LAST_NS m = 50000 ∧ t.on BIND.ESTAT.QABORT = true) ∧
  -- MIG_COMMIT (R143): the LD moves to its destination in a new epoch
  (∀ (m : Fin 2) (x : MigSt) (s : State), migSt s m = some x → x.sealed_ = true → migPhase s m = 4 → s.on BIND.STAT.DONE = true → sealedOff s = false → ∃ t, exec (.migCommit m) s = .next t ∧ t.get BIND.MIG.MSTAT.PHASE m = 5 ∧ t.get BIND.LD.POOL x.ld = x.dport % 2 ^ 6 ∧ t.get BIND.STAT.EPOCH = (s.get BIND.STAT.EPOCH + 1) % 256 ∧ t.get BIND.STAT.DONE = 0 ∧ t.get BIND.STAT.RESULT = 0)

/-- What the commands of 07_coherence_home_and_tally.md do, part 1 of 2 (R154, R156, R159, R160, R163, R177). Each clause gives one command a case in which it has its own effect, and what the next state then holds. -/
def Obligations.HomeEffectsA : Prop :=
  -- HOME_REQUEST_ACCEPT (R156): the slice takes the message at the head of its port, and answers a request that needs nothing
  (∀ (n : SliceId) (p : Pkt) (m : HomeMsg) (s : State), inbox s (72 + n.val) = [p] → p.lst = 1 → p.home = some m → m.op = .memInv ∧ m.mv = .noOp → homeSt s (shareAt s n (msgLk m)) = ⟨[], [], [], [], [], [], [], [], [], [], [], 0, true, []⟩ ∧ waitsAhead s m = false → ∃ t, exec (.homeRequestAccept n) s = .next t ∧ inbox t (72 + n.val) = [] ∧ ((voq t (72 + serving s (shareAt s n (msgLk m)))).map (·.p) ++ stalled t (72 + serving s (shareAt s n (msgLk m)))).any (fun p => p.op == .cmp && p.tag == m.tag && p.rid == m.req) = true) ∧
  -- RD_S (R159): a read for a Shared copy of a line that no host holds takes a way and reads the pool
  (∀ (n : SliceId) (m : HomeMsg) (s : State), homeSt s (shareAt s n (msgLk m)) = ⟨[], [], [], [], [], [], [], [], [], [], [], 0, true, []⟩ ∧ waitsAhead s m = false → m.op = .memRd → ∃ t, exec (.rdS n m) s = .next t ∧ ((voq t (72 + serving s (shareAt s n (msgLk m)))).map (·.p) ++ stalled t (72 + serving s (shareAt s n (msgLk m)))).any (fun p => p.op == .memRd && p.toLd && p.ld == lkLd (msgLk m) && p.dpa == lkDpa (msgLk m)) = true ∧ (txOf t (shareAt s n (msgLk m)) (msgLk m)).map (fun x => (x.cls, x.rdOut, x.from_)) = some (.rdS, true, 0) ∧ (tallyFind t (shareAt s n (msgLk m)) (msgLk m)).map (·.2.state) = some 8) ∧
  -- RD_A (R159): a read for ownership of a line that no host holds takes a way and reads the pool
  (∀ (n : SliceId) (m : HomeMsg) (s : State), homeSt s (shareAt s n (msgLk m)) = ⟨[], [], [], [], [], [], [], [], [], [], [], 0, true, []⟩ ∧ waitsAhead s m = false → m.op = .memRd → ∃ t, exec (.rdA n m) s = .next t ∧ ((voq t (72 + serving s (shareAt s n (msgLk m)))).map (·.p) ++ stalled t (72 + serving s (shareAt s n (msgLk m)))).any (fun p => p.op == .memRd && p.toLd && p.ld == lkLd (msgLk m) && p.dpa == lkDpa (msgLk m)) = true ∧ (txOf t (shareAt s n (msgLk m)) (msgLk m)).map (fun x => (x.cls, x.rdOut, x.from_)) = some (.rdA, true, 0) ∧ (tallyFind t (shareAt s n (msgLk m)) (msgLk m)).map (·.2.state) = some 8) ∧
  -- RD_I (R159): a read without a copy of a line that no host holds reads the pool
  (∀ (n : SliceId) (m : HomeMsg) (s : State), homeSt s (shareAt s n (msgLk m)) = ⟨[], [], [], [], [], [], [], [], [], [], [], 0, true, []⟩ ∧ waitsAhead s m = false → m.op = .memRd → ∃ t, exec (.rdI n m) s = .next t ∧ ((voq t (72 + serving s (shareAt s n (msgLk m)))).map (·.p) ++ stalled t (72 + serving s (shareAt s n (msgLk m)))).any (fun p => p.op == .memRd && p.toLd && p.ld == lkLd (msgLk m) && p.dpa == lkDpa (msgLk m)) = true ∧ (txOf t (shareAt s n (msgLk m)) (msgLk m)).map (fun x => (x.cls, x.rdOut, x.from_)) = some (.rdI, true, 0)) ∧
  -- INV_A (R159): ownership without data of a line that no host holds is granted at once
  (∀ (n : SliceId) (m : HomeMsg) (d : Nat) (s : State), homeSt s (shareAt s n (msgLk m)) = ⟨[], [], [], [], [], [], [], [], [], [], [], 0, true, []⟩ ∧ waitsAhead s m = false → m.op = .memInv → dhnOf s m.mid.toNat = some d → s.homeG.departing = [] → ∃ t, exec (.invA n m) s = .next t ∧ ((voq t (72 + serving s (shareAt s n (msgLk m)))).map (·.p) ++ stalled t (72 + serving s (shareAt s n (msgLk m)))).any (fun p => p.op == .cmpE && p.tag == m.tag && p.rid == m.req) = true ∧ (tallyFind t (shareAt s n (msgLk m)) (msgLk m)).map (fun q => (q.2.state, q.2.sharers)) = some (2, d)) ∧
  -- WB (R156): the owner's writeback goes to the pool, and its completion waits for the pool's
  (∀ (n : SliceId) (m : HomeMsg) (d x : Nat) (e : TallyEnt) (l : Line) (s : State), homeSt s (shareAt s n (msgLk m)) = ⟨[(x, e)], [], [], [], [], [], [], [], [], [], [], 0, true, []⟩ → waitsAhead s m = false → dhnOf s m.mid.toNat = some d → tallyFind s (shareAt s n (msgLk m)) (msgLk m) = some (x, e) → e.state = 2 ∧ e.sharers = d → m.data = some l → migOf s (lkLd (msgLk m)) = none → isX16 s m.port = false → ∃ t, exec (.wb n m) s = .next t ∧ ((voq t m.port).map (·.p) ++ stalled t m.port).any (fun p => p.op == m.op && p.toLd && p.data == [l]) = true ∧ (txOf t (shareAt s n (msgLk m)) (msgLk m)).map (fun y => (y.cls, y.pcs)) = some (.wb, 1)) ∧
  -- WR (R159): a write of a line that no host holds goes to the pool, and its completion waits for the pool's
  (∀ (n : SliceId) (m : HomeMsg) (l : Line) (s : State), homeSt s (shareAt s n (msgLk m)) = ⟨[], [], [], [], [], [], [], [], [], [], [], 0, true, []⟩ ∧ waitsAhead s m = false → m.data = some l → parkedOf s m.req = none → migOf s (lkLd (msgLk m)) = none → isX16 s m.port = false → ∃ t, exec (.wr n m) s = .next t ∧ ((voq t m.port).map (·.p) ++ stalled t m.port).any (fun p => p.op == m.op && p.toLd && p.data == [l]) = true ∧ (txOf t (shareAt s n (msgLk m)) (msgLk m)).map (fun y => (y.cls, y.pcs)) = some (.wr, 1)) ∧
  -- CLN (R159): the eviction notice of a line that is not tracked is answered
  (∀ (n : SliceId) (m : HomeMsg) (s : State), homeSt s (shareAt s n (msgLk m)) = ⟨[], [], [], [], [], [], [], [], [], [], [], 0, true, []⟩ ∧ waitsAhead s m = false → ∃ t, exec (.cln n m) s = .next t ∧ ((voq t (72 + serving s (shareAt s n (msgLk m)))).map (·.p) ++ stalled t (72 + serving s (shareAt s n (msgLk m)))).any (fun p => p.op == .cmp && p.tag == m.tag && p.rid == m.req) = true) ∧
  -- NOP (R154): a request that asks for nothing is answered
  (∀ (n : SliceId) (m : HomeMsg) (s : State), homeSt s (shareAt s n (msgLk m)) = ⟨[], [], [], [], [], [], [], [], [], [], [], 0, true, []⟩ ∧ waitsAhead s m = false → ∃ t, exec (.nop n m) s = .next t ∧ ((voq t (72 + serving s (shareAt s n (msgLk m)))).map (·.p) ++ stalled t (72 + serving s (shareAt s n (msgLk m)))).any (fun p => p.op == .cmp && p.tag == m.tag && p.rid == m.req) = true) ∧
  -- ATOM (R177): an atomic on a line that is neither held nor on the board reads the pool
  (∀ (n : SliceId) (m : HomeMsg) (s : State), homeSt s (shareAt s n (msgLk m)) = ⟨[], [], [], [], [], [], [], [], [], [], [], 0, true, []⟩ ∧ waitsAhead s m = false → s.homeG.departing = [] → ∃ t, exec (.atom n m) s = .next t ∧ ((voq t (72 + serving s (shareAt s n (msgLk m)))).map (·.p) ++ stalled t (72 + serving s (shareAt s n (msgLk m)))).any (fun p => p.op == .memRd && p.toLd && p.ld == lkLd (msgLk m) && p.dpa == lkDpa (msgLk m)) = true ∧ (txOf t (shareAt s n (msgLk m)) (msgLk m)).map (fun x => (x.cls, x.rdOut)) = some (.atom, true)) ∧
  -- CONF (R163): a conflict with no open request of its host is acknowledged at once
  (∀ (n : SliceId) (m : HomeMsg) (s : State), homeSt s (shareAt s n (msgLk m)) = ⟨[], [], [], [], [], [], [], [], [], [], [], 0, true, []⟩ ∧ waitsAhead s m = false → s.frame.reqs = [] → ∃ t, exec (.conf n m) s = .next t ∧ ((voq t (72 + serving s (shareAt s n (msgLk m)))).map (·.p) ++ stalled t (72 + serving s (shareAt s n (msgLk m)))).any (fun p => p.op == .biConflictAck && p.tag == m.tag && p.rid == m.req) = true) ∧
  -- RSP (R160): a snoop response settles its host's part of the transaction
  (∀ (n : SliceId) (m : HomeMsg) (d : Nat) (x : HomeTx) (s : State), homeSt s (shareAt s n (msgLk m)) = ⟨[], [x], [], [], [], [], [], [], [], [], [], 0, true, []⟩ ∧ waitsAhead s m = false ∧ x.lk = msgLk m ∧ x.runs = true → dhnOf s m.mid.toNat = some d → x.owed.contains d = true → without d x.owed ≠ [] → ∃ t, exec (.rsp n m) s = .next t ∧ (txOf t (shareAt s n (msgLk m)) (msgLk m)).map (fun y => (y.owed, y.kept)) = some (without d x.owed, if m.op = .biRspS then x.kept ++ [d] else x.kept))

/-- What the commands of 07_coherence_home_and_tally.md do, part 2 of 2 (R153, R156, R160, R165, R169, R172, R174, R177, R180). Each clause gives one command a case in which it has its own effect, and what the next state then holds. -/
def Obligations.HomeEffectsB : Prop :=
  -- PD (R160): the pool's data is taken in hand while snoops are outstanding
  (∀ (n : SliceId) (m : HomeMsg) (x : HomeTx) (l : Line) (s : State), homeSt s (shareAt s n (msgLk m)) = ⟨[], [x], [], [], [], [], [], [], [], [], [], 0, true, []⟩ ∧ waitsAhead s m = false ∧ x.lk = msgLk m ∧ x.runs = true → x.drop = false ∧ x.rdOut = true → x.owed ≠ [] → m.data = some l → parkedOf s m.req = none → ∃ t, exec (.pd n m) s = .next t ∧ (txOf t (shareAt s n (msgLk m)) (msgLk m)).map (fun y => (y.rdOut, y.payWb, y.pay.isSome, y.owed)) = some (false, false, true, x.owed)) ∧
  -- PC (R160): the pool's completion of a write is counted
  (∀ (n : SliceId) (m : HomeMsg) (x : HomeTx) (s : State), homeSt s (shareAt s n (msgLk m)) = ⟨[], [x], [], [], [], [], [], [], [], [], [], 0, true, []⟩ ∧ waitsAhead s m = false ∧ x.lk = msgLk m ∧ x.runs = true → x.owed ≠ [] → ∃ t, exec (.pc n m) s = .next t ∧ (txOf t (shareAt s n (msgLk m)) (msgLk m)).map (fun y => (y.pcs, y.owed)) = some (x.pcs - 1, x.owed)) ∧
  -- REQUEST_ORDERED (R156): the oldest request that waits for the line goes on
  (∀ (n : SliceId) (lk : BitVec 54) (m : HomeMsg) (s : State), homeSt s (shareAt s n lk.toNat) = ⟨[], [], [(.nop, m)], [], [], [], [], [], [], [], [], 0, true, []⟩ → m.lk = lk → ∃ t, exec (.requestOrdered n lk) s = .next t ∧ ((voq t (72 + serving s (shareAt s n lk.toNat))).map (·.p) ++ stalled t (72 + serving s (shareAt s n lk.toNat))).any (fun p => p.op == .cmp && p.tag == m.tag && p.rid == m.req) = true ∧ (homeSt t (shareAt s n lk.toNat)).waiting = []) ∧
  -- CARRY_QUEUE_ALLOCATE (R165): the oldest request of the set that waits for a way takes one
  (∀ (n : SliceId) (set : Fin 262144) (x : HomeTx) (s : State), homeSt s n = ⟨[], [x], [], [x.lk], [], [], [], [], [], [], [], 0, true, []⟩ → setOf x.lk = set.val → x.cls = .rdI ∧ x.from_ = 0 ∧ x.owed = [] → s.on HOME.STAT.DEGR n = false → ∃ t, exec (.carryQueueAllocate n set) s = .next t ∧ (homeSt t n).carry = [] ∧ (tallyFind t n x.lk).isSome = true) ∧
  -- HMAP_WRITE (R153): an entry that is not valid cannot clash and is taken
  (∀ (n : SliceId) (b : Fin 64) (v : Word) (s : State), served s (HOME.HMAP.DHN.base / 8) = true → bitOf v.toNat 9 = false → ∃ t, exec (.hmapWrite n b v) s = .next t ∧ t.get HOME.HMAP.DHN n b = bitsOf v.toNat 0 9 ∧ t.get HOME.HMAP.VALID n b = bitsOf v.toNat 9 1) ∧
  -- RF_CONVERT (R169): a conversion of a region of the LD starts when its record is taken
  (∀ (v : Word) (s : State), served s (HOME.RFCTL.GO.base / 8) = true → bitOf v.toNat 13 = true → s.homeG.conv = none → s.on BIND.STAT.BUSY = false → migOf s (bitsOf v.toNat 0 12) = none → s.on BIND.LD.VALID (bitsOf v.toNat 0 12) = true → s.get HOME.RFREG.REGION < s.get HOME.RFMAP.COUNT (bitsOf v.toNat 0 12) → (request (.bind [] (some (bitsOf v.toNat 0 12, s.get HOME.RFREG.REGION, bitOf v.toNat 12)) none) [] .rf s).1 = .taken → ∃ t, exec (.rfConvert v) s = .next t ∧ t.homeG.conv = some ⟨bitsOf v.toNat 0 12, s.get HOME.RFREG.REGION, bitOf v.toNat 12, false, false, [], 0, [], []⟩ ∧ t.get HOME.RFSTAT.BUSY = 1) ∧
  -- RF_CONVERT_DONE (R169): when every line is invalid everywhere the region is marked and the conversion ends
  (∀ (c : Conv) (s : State), s.homeG.conv = some c → c.sealed_ = true ∧ c.cleared = true ∧ c.toShared = true → c.owed = [] ∧ c.held = [] → regionLines ≤ c.next → ∃ t, exec (.rfConvertDone) s = .next t ∧ t.homeG.conv = none ∧ t.get HOME.RFSTAT.BUSY = 0 ∧ t.get HOME.RFSTAT.RESULT = 0 ∧ bitOf (t.get HOME.RFBITS.BITS ((s.get HOME.RFMAP.BASE c.ld + c.region) / 32)) ((s.get HOME.RFMAP.BASE c.ld + c.region) % 32) = true) ∧
  -- SCRUB_PASS (R172): the pass is counted
  (∀ (n : SliceId) (errs : List TallyErr) (s : State), s.get HOME.SCRUBCFG.PERIOD n ≠ 0 → ∃ t, exec (.scrubPass n errs) s = .next t ∧ t.get HOME.SCRUBSTAT.PASSES n = (s.get HOME.SCRUBSTAT.PASSES n + 1) % 2 ^ 16) ∧
  -- DEPARTURE_SWEEP_DONE (R174): the host counts as departed
  (∀ (p : PortId) (s : State), (portSt s p).sweepOwed = true → ∃ t, exec (.departureSweepDone p) s = .next t ∧ t.homeG.departing = s.homeG.departing.filter (· != (localDhn s p, none))) ∧
  -- ATOMIC_DONE (R177): the former value is returned, and the new one stays on the board
  (∀ (n : SliceId) (lk : BitVec 54) (x : HomeTx) (b : BoardLine) (s : State), txOf s (shareAt s n lk.toNat) lk.toNat = some x → x.lk = lk.toNat ∧ msgLk x.msg = lk.toNat → (homeSt s (shareAt s n lk.toNat)).txs = [x] ∧ (homeSt s (shareAt s n lk.toNat)).waiting = [] ∧ (homeSt s (shareAt s n lk.toNat)).todo = [] → x.cls = .atom ∧ x.owed = [] ∧ x.runs = true ∧ x.pay = none ∧ x.wb = none ∧ x.slot = none → (homeSt s (shareAt s n lk.toNat)).board = [b] → b.lk = lk.toNat → s.on HOME.CFG.BOARD_EN (serving s (shareAt s n lk.toNat)) = true → ∃ t, exec (.atomicDone n lk) s = .next t ∧ ((voq t (72 + serving s (shareAt s n lk.toNat))).map (·.p) ++ stalled t (72 + serving s (shareAt s n lk.toNat))).any (fun p => p.op == .atomicRsp && p.tag == x.msg.tag && p.rid == x.msg.req) = true ∧ (homeSt t (shareAt s n lk.toNat)).board.map (fun y => (y.lk, y.data)) = [(lk.toNat, if b.poison then b.data else (atomCompute (x.msg.atom.getD ⟨1, false, 0, 0, 0⟩) b.data).1)] ∧ (homeSt t (shareAt s n lk.toNat)).txs = []) ∧
  -- ATOM_BOARD_IDLE (R177): an idle line leaves the board for the pool
  (∀ (n : SliceId) (lk : BitVec 54) (b : BoardLine) (s : State), homeSt s (shareAt s n lk.toNat) = ⟨[], [], [], [], [], [], [], [b], [], [], [], 0, true, []⟩ → b.lk = lk.toNat → migOf s (lkLd lk.toNat) = none → ∃ t, exec (.atomBoardIdle n lk) s = .next t ∧ (homeSt t (shareAt s n lk.toNat)).board = [] ∧ ((voq t (72 + serving s (shareAt s n lk.toNat))).map (·.p) ++ stalled t (72 + serving s (shareAt s n lk.toNat))).any (fun p => p.op == .memWr && p.toLd && p.data == [b.data]) = true) ∧
  -- TALLY_PROBE (R180): a probe of a line key that the slice serves and that misses
  (∀ (n : SliceId) (v : Word) (s : State), served s (HOME.PROBECTL.GO.base / 8) = true → bitOf v.toNat 0 = true → serving s (fold2 (s.get HOME.PROBELK.LK n)) = n.val → tallyFind s (fold2 (s.get HOME.PROBELK.LK n)) (s.get HOME.PROBELK.LK n) = none → ∃ t, exec (.tallyProbe n v) s = .next t ∧ t.get HOME.PROBECTL.DONE n = 1 ∧ t.get HOME.PROBECTL.NOT_HOME n = 0 ∧ t.get HOME.PROBECTL.HIT n = 0 ∧ t.get HOME.PROBEDATA.ENTRY n = 0 ∧ t.get HOME.PROBECTL.SET n = setOf (s.get HOME.PROBELK.LK n) % 2 ^ HOME.PROBECTL.SET.w)

/-- What the commands of 08_sum_engines.md do (R181, R184, R185, R186, R187, R194, R196, R201). Each clause gives one command a case in which it has its own effect, and what the next state then holds. -/
def Obligations.SumEffects : Prop :=
  -- WINDOW_DESCRIPTOR (R184): a descriptor that passes R184's checks opens the window
  (∀ (f : FnId) (w : WinId) (aligned : Bool) (d : Line) (s : State), s.safe = false ∧ pdOn s (10 + sumEng s w) = true → sumGranted s f w = true → aligned = true → openCheck s f w d.toNat = 0 → ∃ t, exec (.windowDescriptor f w aligned d) s = .next t ∧ t.get SUM.WIN.STATE (sumEng s w) w = 1 ∧ t.get SUM.WIN.LASTERR (sumEng s w) w = 0 ∧ t.get SUM.WIN.GEN (sumEng s w) w = bitsOf d.toNat 32 16 ∧ (winOf t w).map (fun x => (x.fmt, x.lines, x.expect)) = some (bitsOf d.toNat 0 3, bitsOf d.toNat 8 7, bitsOf d.toNat 16 10) ∧ (winOf t w).map (fun x => (x.raddr, x.opener)) = some (bitsOf d.toNat 128 64, f.val)) ∧
  -- CLOSE_DOORBELL (R185): the opener's window is aborted and freed
  (∀ (f : FnId) (w : WinId) (x : SumWin) (s : State), s.safe = false ∧ pdOn s (10 + sumEng s w) = true → sumGranted s f w = true → s.on SUM.GRANT.OPEN f = true → winState s w = 1 → winOf s w = some x → x.opener = f.val → s.sum.away = [] → ∃ t, exec (.closeDoorbell f w) s = .next t ∧ t.get SUM.WIN.STATE (sumEng s w) w = 0 ∧ t.get SUM.ABORTCNT.COUNT (sumEng s w) = satAdd 0xFFFFFFFF (s.get SUM.ABORTCNT.COUNT (sumEng s w)) 1 ∧ (winOf t w).map (fun y => (y.slots, y.rods)) = some ([], [])) ∧
  -- SLOT_REGISTRATION (R186): a registration of the present generation is taken
  (∀ (f : FnId) (w : WinId) (whole : Bool) (d : BitVec 128) (i : Fin 512) (x : SumWin) (s : State), s.safe = false ∧ pdOn s (10 + sumEng s w) = true → sumGranted s f w = true → whole = true → winState s w = 1 → winOf s w = some x → bitsOf d.toNat 96 16 = s.get SUM.WIN.GEN (sumEng s w) w → i.val < x.expect → look x.slots i = none → bitsOf d.toNat 0 4 = 0 → ∃ t, exec (.slotRegistration f w i whole d) s = .next t ∧ (winOf t w).map (fun y => look y.slots i) = some (some ⟨f, bitsOf d.toNat 0 64, bitsOf d.toNat 64 32, 0, false⟩)) ∧
  -- CONTRIBUTION (R187): a line of a registered slot is added to the rod while other slots are outstanding
  (∀ (f : FnId) (w : WinId) (first : Fin 64) (poison : Bool) (i : Fin 512) (l : Line) (x : SumWin) (z : SumSlot) (s : State), s.safe = false ∧ pdOn s (10 + sumEng s w) = true → sumGranted s f w = true → winState s w = 1 → winOf s w = some x → look x.slots i = some z → z.fn = f.val ∧ z.lost = false → first.val < x.lines → bitOf z.lines first.val = false → (List.range x.expect).all (fun j => slotComplete x j || slotLost x j || j == i.val) = false → ∃ t, exec (.contribution f w i first true poison [l]) s = .next t ∧ t.get SUM.LINES.COUNT (sumEng s w) = satAdd 0xFFFFFFFF (s.get SUM.LINES.COUNT (sumEng s w)) 1 ∧ (winOf t w).map (fun y => look y.slots i) = some (some { z with lines := z.lines + 2 ^ first.val }) ∧ (winOf t w).map (fun y => look y.rods first.val) = some (some (addLine x.fmt l poison (lookD x.rods first.val [])))) ∧
  -- BAR2_STRAY_WRITE (R181): the stray write is counted and flagged
  (∀ (f : FnId) (offset : BitVec 31) (s : State), s.safe = false ∧ pdOn s (10) = true → ∃ t, exec (.bar2StrayWrite f offset) s = .next t ∧ t.get SUM.STRAYCNT.COUNT 0 = satAdd 0xFFFFFFFF (s.get SUM.STRAYCNT.COUNT 0) 1 ∧ t.on SUM.ESTAT.STRAY 0 = true) ∧
  -- RESULT_WRITES_DONE (R194): the publication ends, and a window that does not rearm is free
  (∀ (w : WinId) (x : SumWin) (s : State), winOf s w = some x → winState s w = 3 → resultOwed s w = false → x.rearm = false → s.sum.away = [] → ∃ t, exec (.resultWritesDone w) s = .next t ∧ t.get SUM.WIN.STATE (sumEng s w) w = 0 ∧ t.get SUM.WIN.QUARTERS (sumEng s w) w = 0 ∧ (winOf t w).map (fun y => (y.slots, y.rods, y.deadline)) = some ([], [], none)) ∧
  -- WINDOW_TIMER_EXPIRY (R196): the timeout is counted, and with a fabric manager that decides the window is held
  (∀ (w : WinId) (x : SumWin) (d : Nat) (s : State), winOf s w = some x → x.deadline = some d → winState s w = 1 → bitOf (s.get GCTL.ASSIST.MODE) 7 = true → withoutFm s = false → ∃ t, exec (.windowTimerExpiry w) s = .next t ∧ t.get SUM.TOCNT.COUNT (sumEng s w) = satAdd 0xFFFFFFFF (s.get SUM.TOCNT.COUNT (sumEng s w)) 1 ∧ t.get SUM.WIN.STATE (sumEng s w) w = 2 ∧ t.on SUM.ESTAT.TIMEOUT (sumEng s w) = true) ∧
  -- FAR_ATOMIC_COMMAND (R201): an atomic that passes R201's checks is counted and sent to its home
  (∀ (f : FnId) (engine1 : Bool) (aligned : Bool) (d : Line) (s : State), s.safe = false ∧ pdOn s (10 + sumEng s (b2n engine1)) = true → atomCheck s f (sumEng s (b2n engine1)) aligned d.toNat = 0 → ∃ t, exec (.farAtomicCommand f engine1 aligned d) s = .next t ∧ t.get SUM.ATOMCNT.COUNT (sumEng s (b2n engine1)) = satAdd 0xFFFFFFFF (s.get SUM.ATOMCNT.COUNT (sumEng s (b2n engine1))) 1)

/-- What the commands of 09_data_mover_and_functions.md do, part 1 of 2 (R208, R209, R210, R211, R212, R213). Each clause gives one command a case in which it has its own effect, and what the next state then holds. -/
def Obligations.DataMoverEffectsA : Prop :=
  -- SQ_DOORBELL (R208): a tail within the queue is taken
  (∀ (f : FnId) (q : Fin 4) (v : Word) (s : State), s.safe = false ∧ pdOn s (9) = true → s.get FN.SQ.STAT.STATE f q = 1 → v.toNat % 2 ^ 14 < sqSize s f q → (fnSt s f).tails.length = 4 → ∃ t, exec (.sqDoorbell f q v) s = .next t ∧ (fnSt t f).tails = setNth (fnSt s f).tails q (v.toNat % 2 ^ 14) ∧ t.get FN.SQ.STAT.STATE f q = 1) ∧
  -- CQ_DOORBELL (R208): the host's head moves over entries that it holds
  (∀ (f : FnId) (v : Word) (s : State), s.safe = false ∧ pdOn s (9) = true → s.on FN.CQ.CFG.EN f = true → v.toNat % 2 ^ 14 < cqSize s f → (v.toNat % 2 ^ 14 + cqSize s f - (fnSt s f).cqHead % cqSize s f) % cqSize s f ≤ (fnSt s f).used → ∃ t, exec (.cqDoorbell f v) s = .next t ∧ (fnSt t f).cqHead = v.toNat % 2 ^ 14 ∧ (fnSt t f).used = (fnSt s f).used - (v.toNat % 2 ^ 14 + cqSize s f - (fnSt s f).cqHead % cqSize s f) % cqSize s f) ∧
  -- DESCRIPTOR_FETCH (R209): a descriptor between head and tail is fetched
  (∀ (f : FnId) (q : Fin 4) (d : Line) (s : State), mayFetch s f q = true → s.get FN.SQ.CFG.LOGSIZE f q ≤ 12 → s.get FN.SQ.STAT.HEAD f q < sqSize s f q → (nthD (fnSt s f).tails q 0 + sqSize s f q - s.get FN.SQ.STAT.HEAD f q) % sqSize s f q ≠ 0 → (running_ (fnSt s f) q).length < 16 → ∃ t, exec (.descriptorFetch f q [d]) s = .next t ∧ t.get FN.SQ.STAT.HEAD f q = (s.get FN.SQ.STAT.HEAD f q + 1) % sqSize s f q ∧ ((fnSt t f).exec.getLast?).map (fun e => (e.q, e.idx, e.d)) = some (q.val, s.get FN.SQ.STAT.HEAD f q, d.toNat)) ∧
  -- COPY (R211): bytes that can be read and stored count as done
  (∀ (f : FnId) (q : Fin 4) (idx : Fin 4096) (src : List Byte) (bad : List Nat) (e : DmvDesc) (a u b z : Nat) (s : State), findDesc s f q idx = some e → e.q = q.val ∧ e.idx = idx.val → mayRun s f e 0 = true → min (quota e) src.length ≠ 0 → spaceOf s f (dSsp e.d) (dSrc e.d) (dLen e.d) false = some (z, a) → spaceOf s f (dDsp e.d) (dDst e.d) (dLen e.d) true = some (u, b) → (dmvRead z (descTag f q idx) (dTc e.d) (rangeParts (a + e.bytes) (min (quota e) src.length)) s).1 = 0 → (dmvStore u (descTag f q idx) (dTc e.d) (b + e.bytes) (rangeParts (b + e.bytes) (min (quota e) src.length)) (fun i => (nthD src i 0).toNat) (fun i => bad.contains i) (dmvRead z (descTag f q idx) (dTc e.d) (rangeParts (a + e.bytes) (min (quota e) src.length)) s).2).1 = 0 → ∃ t, exec (.copy f q idx src bad) s = .next t ∧ (findDesc t f q idx).map (·.bytes) = some (e.bytes + min (quota e) src.length)) ∧
  -- FILL (R211): the bytes that can be stored count as done
  (∀ (f : FnId) (q : Fin 4) (idx : Fin 4096) (e : DmvDesc) (u b : Nat) (s : State), findDesc s f q idx = some e → e.q = q.val ∧ e.idx = idx.val → mayRun s f e 1 = true → quota e ≠ 0 → spaceOf s f (dDsp e.d) (dDst e.d) (dLen e.d) true = some (u, b) → (dmvStore u (descTag f q idx) (dTc e.d) (b + e.bytes) (rangeParts (b + e.bytes) (quota e)) (fun i => bitsOf e.d (256 + 8 * ((e.bytes + i) % 16)) 8) (fun _ => false) s).1 = 0 → ∃ t, exec (.fill f q idx) s = .next t ∧ (findDesc t f q idx).map (·.bytes) = some (e.bytes + quota e)) ∧
  -- ZERO (R211): the bytes that can be zeroed count as done
  (∀ (f : FnId) (q : Fin 4) (idx : Fin 4096) (e : DmvDesc) (u b : Nat) (s : State), findDesc s f q idx = some e → e.q = q.val ∧ e.idx = idx.val → mayRun s f e 2 = true → quota e ≠ 0 → spaceOf s f (dDsp e.d) (dDst e.d) (dLen e.d) true = some (u, b) → (dmvStore u (descTag f q idx) (dTc e.d) (b + e.bytes) (rangeParts (b + e.bytes) (quota e)) (fun _ => 0) (fun _ => false) s).1 = 0 → ∃ t, exec (.zero f q idx) s = .next t ∧ (findDesc t f q idx).map (·.bytes) = some (e.bytes + quota e)) ∧
  -- CRC (R211): the bytes that can be read go into the CRC with the polynomial that the descriptor names
  (∀ (f : FnId) (q : Fin 4) (idx : Fin 4096) (src : List Byte) (e : DmvDesc) (a z : Nat) (s : State), findDesc s f q idx = some e → e.q = q.val ∧ e.idx = idx.val → mayRun s f e 3 = true → min (quota e) src.length ≠ 0 → spaceOf s f (dSsp e.d) (dSrc e.d) (dLen e.d) false = some (z, a) → (dmvRead z (descTag f q idx) (dTc e.d) (rangeParts (a + e.bytes) (min (quota e) src.length)) s).1 = 0 → ∃ t, exec (.crc f q idx src) s = .next t ∧ (findDesc t f q idx).map (fun g => (g.bytes, g.crc)) = some (e.bytes + min (quota e) src.length, (src.take (min (quota e) src.length)).foldl (fun c b => crcByte (if bitsOf e.d 256 8 = 0 then 0x82F63B78 else 0xEDB88320) c b.toNat) e.crc)) ∧
  -- COMPARE (R211): equal bytes that can be read count as done
  (∀ (f : FnId) (q : Fin 4) (idx : Fin 4096) (src : List Byte) (e : DmvDesc) (a u b z : Nat) (s : State), findDesc s f q idx = some e → e.q = q.val ∧ e.idx = idx.val → mayRun s f e 4 = true → e.mism = false → min (quota e) src.length ≠ 0 → spaceOf s f (dSsp e.d) (dSrc e.d) (dLen e.d) false = some (z, a) → spaceOf s f (dDsp e.d) (dDst e.d) (dLen e.d) false = some (u, b) → (dmvRead z (descTag f q idx) (dTc e.d) (rangeParts (a + e.bytes) (min (quota e) src.length)) s).1 = 0 → (dmvRead u (descTag f q idx) (dTc e.d) (rangeParts (b + e.bytes) (min (quota e) src.length)) (dmvRead z (descTag f q idx) (dTc e.d) (rangeParts (a + e.bytes) (min (quota e) src.length)) s).2).1 = 0 → ∃ t, exec (.compare f q idx src src) s = .next t ∧ (findDesc t f q idx).map (·.bytes) = some (e.bytes + min (quota e) src.length)) ∧
  -- ATOMIC (R212): the atomic goes to its engine and is counted
  (∀ (f : FnId) (q : Fin 4) (idx : Fin 4096) (e : DmvDesc) (s : State), findDesc s f q idx = some e → mayRun s f e 5 = true → e.bytes = 0 ∧ e.limit = none → atomCheck s f (sumEng s (dSrc e.d / 64 % 2)) true (atomCommand e.d).toNat = 0 → ∃ t, exec (.atomic f q idx) s = .next t ∧ t.get SUM.ATOMCNT.COUNT (sumEng s (dSrc e.d / 64 % 2)) = satAdd 0xFFFFFFFF (s.get SUM.ATOMCNT.COUNT (sumEng s (dSrc e.d / 64 % 2))) 1) ∧
  -- RE_KEY (R212): the block at the cursor is read, to be written to the rescue area and then under the new key
  (∀ (r : Fin 2) (tc : TcId) (x : RotSt) (s : State), rotSt s r = some x → rotPhase s r = 3 → x.paused = false ∧ x.copying = none → s.get SEC.ROT.RCURSOR.OFFSET r < ldBytes s x.ld → s.get BIND.LD.STATE x.ld ≠ 2 → s.get SEC.ROT.RCURSOR.OFFSET r + 65536 ≤ x.ckpt + 64 * 2 ^ 20 → blockOpen s x.ld (s.get SEC.ROT.RCURSOR.OFFSET r) = false → dmvPaused s = false → pdOn s 9 = true → ∃ t, exec (.reKey r tc) s = .next t ∧ (rotSt t r).bind (fun (y : RotSt) => y.copying.map (fun (k : RotBlk) => (k.b, k.stage, k.tc))) = some (s.get SEC.ROT.RCURSOR.OFFSET r, 1, tc.val)) ∧
  -- MIGRATE (R212): a block of the pass is copied, and the cursor passes it
  (∀ (m : Fin 2) (block : Nat) (tc : TcId) (x : MigSt) (s : State), migSt s m = some x → mayCopy s m x block = true → migPhase s m = 1 → pdOn s 9 = true → ∃ t, exec (.migrate m block tc) s = .next t ∧ t.get BIND.MIG.MCURSOR.OFFSET m = (block + 1) * blk64 % 2 ^ 64) ∧
  -- DESCRIPTOR_DONE (R213): a descriptor whose work is done completes with status 0, and waits for its entry
  (∀ (f : FnId) (q : Fin 4) (idx : Fin 4096) (bytes : Nat) (e : DmvDesc) (s : State), findDesc s f q idx = some e → e.err = 0 ∧ e.fin = none → workDone e = true → dOpc e.d ≠ 5 → fenceOk s f e = true → descOpen s (descTag f q idx) = false → bitOf e.d 4 = true → ∃ t, exec (.descriptorDone f q idx 0 bytes) s = .next t ∧ (findDesc t f q idx).map (·.fin) = some (some 0) ∧ t.get DMV.ERRCNT.COUNT = s.get DMV.ERRCNT.COUNT) ∧
  -- CQ_ENTRY_WRITE (R210): the entry of a finished descriptor is written at the tail
  (∀ (f : FnId) (e : DmvDesc) (s : State), fnState s f = 1 → cqRoom s f = true → (fnSt s f).heldQ = [] ∧ (fnSt s f).exec = [e] → wantsEntry e = true → s.get FN.CQ.CFG.LOGSIZE f ≤ 14 → s.get FN.CQ.STAT.TAIL f < cqSize s f → ∃ t, exec (.cqEntryWrite f) s = .next t ∧ t.get FN.CQ.STAT.TAIL f = (s.get FN.CQ.STAT.TAIL f + 1) % cqSize s f ∧ (fnSt t f).exec = [] ∧ (fnSt t f).used = (fnSt s f).used + 1)

/-- What the commands of 09_data_mover_and_functions.md do, part 2 of 2 (R214, R216, R217, R218, R219, R221, R223). Each clause gives one command a case in which it has its own effect, and what the next state then holds. -/
def Obligations.DataMoverEffectsB : Prop :=
  -- CQ_COALESCE_TIMEOUT (R214): the vector is raised, and coalescing starts anew
  (∀ (f : FnId) (a : Nat) (s : State), (fnSt s f).coalAt = some a → s.get FN.CQ.CFG.TIME f ≠ 0 → ∃ t, exec (.cqCoalesceTimeout f) s = .next t ∧ (fnSt t f).coal = 0 ∧ (fnSt t f).coalAt = none) ∧
  -- QUEUE_ENABLE (R223): a queue of a legal size is enabled at its first entry, and the function runs
  (∀ (f : FnId) (v : Word) (q : Fin 4) (s : State), s.safe = false ∧ pdOn s (9) = true → fnState s f < 2 → bitOf v.toNat 0 = true → s.on FN.SQ.CFG.EN f q = false → 4 ≤ bitsOf v.toNat 1 4 ∧ bitsOf v.toNat 1 4 ≤ 12 → q.val < maxSq s f → ∃ t, exec (.queueEnable f (.sq q) v) s = .next t ∧ t.get FN.SQ.CFG.EN f q = 1 ∧ t.get FN.SQ.STAT.STATE f q = 1 ∧ t.get FN.SQ.STAT.HEAD f q = 0 ∧ t.get FN.STAT.STATE f = 1) ∧
  -- FCFG_WRITE (R216): FCFG takes the written bits
  (∀ (f : FnId) (v : Word) (s : State), served s (DMV.FN.FCFG.MAXSQ.base / 8) = true → pdOn s 9 = true → ∃ t, exec (.fcfgWrite f v) s = .next t ∧ t.get DMV.FN.FCFG.MAXSQ f = bitsOf v.toNat 0 3 ∧ t.get DMV.FN.FCFG.SHARE f = bitsOf v.toNat 3 8 ∧ t.get DMV.FN.FCFG.RATE f = bitsOf v.toNat 11 8) ∧
  -- FREEZE (R217): a function that runs starts to freeze
  (∀ (v : Word) (s : State), served s (DMV.FRZCTL.GO.base / 8) = true → pdOn s 9 = true → bitOf v.toNat 11 = true → bitsOf v.toNat 8 3 = 0 → bitsOf v.toNat 0 8 ≠ 0 → s.on DMV.FRZSTAT.BUSY = false → fnState s (bitsOf v.toNat 0 8) = 1 → ∃ t, exec (.freeze v) s = .next t ∧ t.get FN.STAT.STATE (bitsOf v.toNat 0 8) = 2 ∧ t.get DMV.FRZSTAT.BUSY = 1 ∧ t.dmv.frz = some (bitsOf v.toNat 0 8)) ∧
  -- FREEZE_COMPLETE (R217): a function with nothing in progress is frozen
  (∀ (f : Nat) (s : State), s.dmv.frz = some f → fnState s f = 2 → f < 256 → (fnSt s f).exec = [] → ∃ t, exec (.freezeComplete) s = .next t ∧ t.get FN.STAT.STATE f = 3 ∧ t.dmv.frz = none ∧ t.get DMV.FRZSTAT.BUSY = 0 ∧ t.get DMV.FRZSTAT.RESULT = 0) ∧
  -- SAVE (R218): a frozen function's state goes out as a blob
  (∀ (v : Word) (k : Nat) (s : State), served s (DMV.FRZCTL.GO.base / 8) = true → pdOn s 9 = true → bitOf v.toNat 11 = true → bitsOf v.toNat 8 3 = 1 → bitsOf v.toNat 0 8 ≠ 0 → s.on DMV.FRZSTAT.BUSY = false → fnState s (bitsOf v.toNat 0 8) = 3 → s.sec.domain = some k → ∃ t, exec (.save v) s = .next t ∧ t.get DMV.FRZSTAT.RESULT = 0 ∧ t.out.length = s.out.length + 1 ∧ (match t.out.getLast? with | some (.blob a _) => a == s.get DMV.FRZADDR.ADDR * 4096 | _ => false) = true) ∧
  -- RESTORE (R218): a blob that passes its checks is restored into an idle function, which is then frozen
  (∀ (v : Word) (b : VfBlob) (s : State), served s (DMV.FRZCTL.GO.base / 8) = true → pdOn s 9 = true → bitOf v.toNat 11 = true → bitsOf v.toNat 8 3 = 2 → bitsOf v.toNat 0 8 ≠ 0 → s.on DMV.FRZSTAT.BUSY = false → fnState s (bitsOf v.toNat 0 8) = 0 → (fnSt s (bitsOf v.toNat 0 8)).restored = false → b.intact = true ∧ b.version = 1 ∧ s.sec.domain = some b.keyId → (List.range 4).any (fun q => bitOf b.sqmask.toNat q && maxSq s (bitsOf v.toNat 0 8) ≤ q) = false → ∃ t, exec (.restore v b) s = .next t ∧ t.get FN.STAT.STATE (bitsOf v.toNat 0 8) = 3 ∧ (fnSt t (bitsOf v.toNat 0 8)).restored = true ∧ (fnSt t (bitsOf v.toNat 0 8)).msix = b.msix ∧ (fnSt t (bitsOf v.toNat 0 8)).exec.length = b.unfinished.length ∧ t.get DMV.FRZSTAT.RESULT = 0) ∧
  -- UNFREEZE (R217): a frozen function runs again
  (∀ (v : Word) (s : State), served s (DMV.FRZCTL.GO.base / 8) = true → pdOn s 9 = true → bitOf v.toNat 11 = true → bitsOf v.toNat 8 3 = 3 → bitsOf v.toNat 0 8 ≠ 0 → s.on DMV.FRZSTAT.BUSY = false → fnState s (bitsOf v.toNat 0 8) = 3 → ∃ t, exec (.unfreeze v) s = .next t ∧ t.get FN.STAT.STATE (bitsOf v.toNat 0 8) = 1 ∧ t.get DMV.FRZSTAT.RESULT = 0) ∧
  -- FREEZE_DISCARD (R217): a frozen function is cleared
  (∀ (v : Word) (s : State), served s (DMV.FRZCTL.GO.base / 8) = true → pdOn s 9 = true → bitOf v.toNat 11 = true → bitsOf v.toNat 8 3 = 4 → bitsOf v.toNat 0 8 ≠ 0 → s.on DMV.FRZSTAT.BUSY = false → fnState s (bitsOf v.toNat 0 8) = 3 → ∃ t, exec (.freezeDiscard v) s = .next t ∧ t.get FN.STAT.STATE (bitsOf v.toNat 0 8) = 0 ∧ (fnSt t (bitsOf v.toNat 0 8)).exec = [] ∧ t.get DMV.FRZSTAT.RESULT = 0) ∧
  -- FUNCTION_RESET (R219): the function is idle, and its unfinished descriptors count as failed
  (∀ (f : FnId) (s : State), s.safe = false ∧ pdOn s (9) = true → s.dmv.frz ≠ some f.val → ∃ t, exec (.functionReset f .flr) s = .next t ∧ t.get FN.STAT.STATE f = 0 ∧ (fnSt t f).exec = [] ∧ t.get DMV.ERRCNT.COUNT = satAdd 0xFFFFFFFF (s.get DMV.ERRCNT.COUNT) ((fnSt s f).exec.filter (fun e => e.fin.isNone)).length) ∧
  -- CRYPTO_ERASE (R221): the erase of an unbound LD starts when its record is taken
  (∀ (v : Word) (s : State), served s (DMV.ERASECTL.GO.base / 8) = true → pdOn s 9 = true → bitOf v.toNat 13 = true → s.on BIND.LD.VALID (bitsOf v.toNat 0 12) = true → s.get BIND.LD.STATE (bitsOf v.toNat 0 12) = 0 → s.on BIND.STAT.BUSY = false → s.dmv.erase = none → (request (.key []) [sealKey s (.ld (bitsOf v.toNat 0 12)) (s.sec.draws + 1) (wrapAdd 16 (s.get SEC.LDKEY.GEN (bitsOf v.toNat 0 12)) 1)] (.erase (bitsOf v.toNat 0 12)) s).1 = .taken → ∃ t, exec (.cryptoErase v) s = .next t ∧ t.dmv.erase.map (fun e => (e.ld, e.zero, e.stage)) = some (bitsOf v.toNat 0 12, bitOf v.toNat 12, 0) ∧ t.get DMV.ERASESTAT.BUSY = 1 ∧ t.get DMV.ERASESTAT.RESULT = 0) ∧
  -- ERASE_ZERO_DONE (R221): the erase ends with its zero fill
  (∀ (e : Erase) (s : State), s.dmv.erase = some e → e.stage = 3 → ∃ t, exec (.eraseZeroDone) s = .next t ∧ t.dmv.erase = none ∧ t.get DMV.ERASESTAT.BUSY = 0)

/-- What the commands of 10_beamlinks_and_cascade.md do, part 1 of 3 (R227, R230, R233, R235, R241, R243, R244). Each clause gives one command a case in which it has its own effect, and what the next state then holds. -/
def Obligations.BeamlinkEffectsA : Prop :=
  -- CODEWORD_RECEIVED (R227): an uncorrectable codeword is counted and flagged
  (∀ (n : BlkId) (s : State), (blkSt s n).sub = none → (blkSt s n).bad < 7 → ∃ t, exec (.codewordReceived n false []) s = .next t ∧ t.get BLK.UCWCNT.COUNT n = satAdd 0xFFFFFFFF (s.get BLK.UCWCNT.COUNT n) 1 ∧ t.on BLK.ESTAT.UCW n = true ∧ (blkSt t n).bad = (blkSt s n).bad + 1 ∧ (blkSt t n).cwcnt = wrapAdd 12 (blkSt s n).cwcnt 1) ∧
  -- CODEWORD_RECEIVED (R227): a good codeword ends a row of uncorrectable ones
  (∀ (n : BlkId) (s : State), (blkSt s n).sub = none → ∃ t, exec (.codewordReceived n true []) s = .next t ∧ (blkSt t n).bad = 0 ∧ (blkSt t n).cwcnt = wrapAdd 12 (blkSt s n).cwcnt 1) ∧
  -- DATA_BEAD (R233): a bead of no packets in its turn moves RXEXP on
  (∀ (n : BlkId) (h : BeadHdr) (s : State), s.safe = false → linkUp (takeHeader n h s) n = true → (takeHeader n h s).get BLK.RXSTAT.RXEXP n = h.seq.toNat → (blkSt (takeHeader n h s) n).slots = [] → ∃ t, exec (.dataBead n h []) s = .next t ∧ t.get BLK.RXSTAT.RXEXP n = wrapAdd 16 h.seq.toNat 1 ∧ (blkSt t n).slots = [] ∧ t.get BLK.RXSTAT.HELD n = 0) ∧
  -- BEAD_CRC_FAIL (R230): the failure is counted
  (∀ (n : BlkId) (s : State), ∃ t, exec (.beadCrcFail n) s = .next t ∧ t.get BLK.CRCCNT.COUNT n = satAdd 0xFFFFFFFF (s.get BLK.CRCCNT.COUNT n) 1) ∧
  -- IDLE_BEAD (R230): the first credit limit of an idle bead is taken
  (∀ (n : BlkId) (h : BeadHdr) (c : BitVec 12) (s : State), s.safe = false → linkUp (takeHeader n h s) n = true → wrapSub 12 c.toNat ((takeHeader n h s).get BLK.CRED.LIMIT n 0) < 2048 → ∃ t, exec (.idleBead n h [c]) s = .next t ∧ t.get BLK.CRED.LIMIT n 0 = c.toNat) ∧
  -- RETRANSMIT_TIMEOUT (R235): the expiry is counted and the interval doubles up to its maximum
  (∀ (n : BlkId) (e : TxBead) (s : State), (blkSt s n).win = [e] → linkUp s n = true → (blkSt s n).expiries + 1 < s.get BLK.RTCFG.FAILN n → ∃ t, exec (.retransmitTimeout n) s = .next t ∧ t.get BLK.RTOCNT.COUNT n = satAdd 0xFFFFFFFF (s.get BLK.RTOCNT.COUNT n) 1 ∧ t.on BLK.ESTAT.RTO n = true ∧ (blkSt t n).expiries = (blkSt s n).expiries + 1 ∧ (blkSt t n).interval = min (2 * (blkSt s n).interval) (rtoMaxNs s n)) ∧
  -- HELLO (R241): a HELLO that passes its checks names the peer and is acknowledged
  (∀ (n : BlkId) (cseq : BitVec 8) (id : Fin 8) (link : Fin 8) (stepping : Fin 16) (domain : Word) (mcand coarse : Bool) (hmapCrc : Word) (nonce : BitVec 64) (s : State), lstate s n = 3 → helloCheck s n id stepping domain.toNat coarse hmapCrc.toNat = none → (blkSt s n).macIn = false → ∃ t, exec (.hello n cseq id link stepping domain mcand coarse hmapCrc nonce) s = .next t ∧ t.get BLK.STAT.PEER n = id ∧ t.get BLK.STAT.PEERLINK n = link ∧ (blkSt t n).hello = some nonce.toNat ∧ t.out = s.out ++ [.ctrl n (txHdr s n false (s.get BLK.SEQSTAT.TXNEXT n)) cseq.toNat (.helloAck true)]) ∧
  -- HELLO_ACK (R241): an acknowledged HELLO is held until the peer's own arrives
  (∀ (n : BlkId) (cseq : BitVec 8) (k : Nat) (s : State), lstate s n = 3 → awaits s n cseq.toNat = true → s.sec.domain = some k → (blkSt s n).hello = none → ∃ t, exec (.helloAck n cseq true) s = .next t ∧ (blkSt t n).macIn = true ∧ awaits t n cseq.toNat = false) ∧
  -- LANE_SUB (R243): the sender agrees to move the position at the codeword named
  (∀ (n : BlkId) (cseq : BitVec 8) (pos : Fin 8) (cwcnt : BitVec 12) (s : State), linkUp s n = true → ∃ t, exec (.laneSub n cseq pos cwcnt) s = .next t ∧ look (blkSt t n).txMove pos = some cwcnt.toNat ∧ t.out = s.out ++ [.ctrl n (txHdr s n false (s.get BLK.SEQSTAT.TXNEXT n)) cseq.toNat (.laneSubAck pos cwcnt.toNat)]) ∧
  -- LANE_SUB_ACK (R243): the switch point is agreed
  (∀ (n : BlkId) (cseq : BitVec 8) (pos : Fin 8) (cwcnt : BitVec 12) (q : LaneSub) (s : State), awaits s n cseq.toNat = true → (blkSt s n).sub = some q → q.pos = pos.val → ∃ t, exec (.laneSubAck n cseq pos cwcnt) s = .next t ∧ (blkSt t n).sub = some { q with at_ := cwcnt.toNat, agreed := true } ∧ awaits t n cseq.toNat = false) ∧
  -- HANDOFF (R244): a HANDOFF for a link that is already fenced is answered with its RXEXP
  (∀ (n : BlkId) (cseq : BitVec 8) (failed : Fin 8) (rxexp : BitVec 16) (l : Nat) (s : State), handoffLink s n failed = some l → l < 8 → lstate s l = 6 → ∃ t, exec (.handoff n cseq failed rxexp) s = .next t ∧ t.out = s.out ++ [.ctrl n (txHdr s n false (s.get BLK.SEQSTAT.TXNEXT n)) cseq.toNat (.handoffAck l (s.get BLK.RXSTAT.RXEXP l))]) ∧
  -- HANDOFF_ACK (R244): the HANDOFF is answered
  (∀ (n : BlkId) (cseq : BitVec 8) (failed : Fin 8) (rxexp : BitVec 16) (s : State), awaits s n cseq.toNat = true → handoffLink s n failed = none → ∃ t, exec (.handoffAck n cseq failed rxexp) s = .next t ∧ awaits t n cseq.toNat = false)

/-- What the commands of 10_beamlinks_and_cascade.md do, part 2 of 3 (R242, R248, R251, R252). Each clause gives one command a case in which it has its own effect, and what the next state then holds. -/
def Obligations.BeamlinkEffectsB : Prop :=
  -- TOPO (R242): the peer's bitmap is kept
  (∀ (n : BlkId) (bitmap : BitVec 8) (s : State), linkUp s n = true → ∃ t, exec (.topo n bitmap) s = .next t ∧ look t.blkG.topo (peerOf s n) = some bitmap.toNat) ∧
  -- DEPART (R248): the departure is swept and answered
  (∀ (n : BlkId) (cseq : BitVec 8) (dhn : BitVec 9) (s : State), linkUp s n = true → lookD (blkSt s n).seen 8 256 ≠ cseq.toNat → ∃ t, exec (.depart n cseq dhn) s = .next t ∧ look (blkSt t n).seen 8 = some cseq.toNat ∧ t.out.getLast? = some (.ctrl n (txHdr s n false (s.get BLK.SEQSTAT.TXNEXT n)) cseq.toNat (.departDone dhn.toNat))) ∧
  -- DEPART_DONE (R248): the departure is answered
  (∀ (n : BlkId) (cseq : BitVec 8) (dhn : BitVec 9) (v : CtrlWait) (s : State), (blkSt s n).waits = [v] → v.cseq = cseq.toNat ∧ v.msg = .depart dhn.toNat → dhn.toNat / 64 ≠ me s → ∃ t, exec (.departDone n cseq dhn) s = .next t ∧ (blkSt t n).waits = [] ∧ t.blkG.departs.length = s.blkG.departs.length - (if s.blkG.departs.any (fun q => q.1 == dhn.toNat && viaDev s q.2 == peerOf s n) then 1 else 0)) ∧
  -- MASTER_XFER (R251): a change of the master is noted and answered
  (∀ (n : BlkId) (cseq : BitVec 8) (id : Fin 8) (time : Nat) (s : State), linkUp s n = true → awaits s n cseq.toNat = false → ∃ t, exec (.masterXfer n cseq id time) s = .next t ∧ t.blkG.xfer = some (id.val, time) ∧ t.out = s.out ++ [.ctrl n (txHdr s n false (s.get BLK.SEQSTAT.TXNEXT n)) cseq.toNat (.masterXfer id time)]) ∧
  -- MASTER_CHANGE (R251): the change that was due is made
  (∀ (d x : Nat) (s : State), s.blkG.xfer = some (d, x) → ∃ t, exec (.masterChange) s = .next t ∧ t.blkG.xfer = none ∧ s.ns ≤ t.ns) ∧
  -- SYNC (R252): a SYNC without an offset locks
  (∀ (n : BlkId) (b : TimeBead) (d : Nat) (s : State), linkUp s n = true → s.get BLKC.CSTAT.TSRC = n.val → (blkSt s n).delay = some d → b.stamp + d = b.arrival → ∃ t, exec (.sync n b) s = .next t ∧ t.get BLKC.CSTAT.TLOCK = 1 ∧ t.mgmt.slew = 0) ∧
  -- DREQ (R252): a DREQ is answered with this device's time
  (∀ (n : BlkId) (b : TimeBead) (s : State), linkUp s n = true → s.on BLKC.CSTAT.IS_MASTER = false → ∃ t, exec (.dreq n b) s = .next t ∧ t.out = s.out ++ [.timeBead n (txHdr s n false (s.get BLK.SEQSTAT.TXNEXT n)) 2 ⟨b.xid, s.now, b.arrival, 0⟩]) ∧
  -- DRSP (R252): the delay of the link is computed from the exchange
  (∀ (n : BlkId) (b : TimeBead) (s : State), linkUp s n = true → (blkSt s n).xid = b.xid → ∃ t, exec (.drsp n b) s = .next t ∧ (blkSt t n).delay = some (((Int.ofNat b.arrival - Int.ofNat (blkSt s n).t1) - (Int.ofNat b.stamp - Int.ofNat b.t2)) / 2).toNat) ∧
  -- TIME_BEAD_SEND (R252): a link that is not the time source sends SYNC
  (∀ (n : BlkId) (s : State), linkUp s n = true → s.get BLKC.CSTAT.TSRC ≠ n.val → ∃ t, exec (.timeBeadSend n) s = .next t ∧ t.out = s.out ++ [.timeBead n (txHdr s n false (s.get BLK.SEQSTAT.TXNEXT n)) 0 ⟨0, s.now, 0, 0⟩]) ∧
  -- TIME_BEAD_SEND (R252): the link to the time source sends DREQ
  (∀ (n : BlkId) (s : State), linkUp s n = true → s.get BLKC.CSTAT.TSRC = n.val → ∃ t, exec (.timeBeadSend n) s = .next t ∧ t.out = s.out ++ [.timeBead n (txHdr s n false (s.get BLK.SEQSTAT.TXNEXT n)) 1 ⟨((blkSt s n).xid + 1) % 256, s.now, 0, 0⟩] ∧ (blkSt t n).xid = ((blkSt s n).xid + 1) % 256) ∧
  -- TOPO_SEND (R242): the bitmap goes out on the active link
  (∀ (n : Nat) (s : State), (List.range 8).filter (linkUp s) = [n] → ∃ t, exec (.topoSend) s = .next t ∧ t.out = s.out ++ [.ctrl n (txHdr s n false (s.get BLK.SEQSTAT.TXNEXT n)) (wrapAdd 8 (blkSt s n).cseq 1) (.topo (directMap s))]) ∧
  -- CTRL_RESEND (R242): a message that awaits its answer is sent again
  (∀ (n : BlkId) (v : CtrlWait) (s : State), (blkSt s n).waits = [v] → ∃ t, exec (.ctrlResend n) s = .next t ∧ t.out = s.out ++ [.ctrl n (txHdr s n false (s.get BLK.SEQSTAT.TXNEXT n)) v.cseq v.msg])

/-- What the commands of 10_beamlinks_and_cascade.md do, part 3 of 3 (R240, R242, R243, R244, R246, R250). Each clause gives one command a case in which it has its own effect, and what the next state then holds. -/
def Obligations.BeamlinkEffectsC : Prop :=
  -- CTRL_TIMEOUT (R242): a link in HELLO goes DOWN, and the attempt is counted
  (∀ (n : BlkId) (v : CtrlWait) (s : State), (blkSt s n).waits = [v] → lstate s n = 3 → ∃ t, exec (.ctrlTimeout n) s = .next t ∧ t.get BLK.STAT.LSTATE n = 1 ∧ t.get BLK.STAT.ATTEMPTS n = satAdd 0xFFFF (s.get BLK.STAT.ATTEMPTS n) 1 ∧ (blkSt t n).waits = []) ∧
  -- BLK_ENABLE (R240): an enabled link that was OFF starts to train
  (∀ (n : BlkId) (v : Word) (s : State), served s (BLK.CFG.EN.base / 8) = true → pdOn s n = true → bitOf v.toNat 0 = true → lstate s n = 0 → s.live = true ∧ s.safe = false → s.get TST.LB.CTL.MODE (32 + n) = 0 → ∃ t, exec (.blkEnable n v) s = .next t ∧ t.get BLK.STAT.LSTATE n = 2 ∧ t.get BLK.CFG.RETRY_INT n = bitsOf v.toNat 5 8) ∧
  -- TRAIN_COMPLETE (R240): with all lanes locked the link enters HELLO and sends it
  (∀ (n : BlkId) (s : State), lstate s n = 2 → ∃ t, exec (.trainComplete n 0x1FF) s = .next t ∧ t.get BLK.STAT.LSTATE n = 3 ∧ t.get BLK.LANE.LOCK n 8 = 1 ∧ t.out.length = s.out.length + 1) ∧
  -- BLK_STATE_TIMEOUT (R240): a link that does not train goes DOWN, and the attempt is counted
  (∀ (n : BlkId) (s : State), lstate s n = 2 → ∃ t, exec (.blkStateTimeout n) s = .next t ∧ t.get BLK.STAT.LSTATE n = 1 ∧ t.get BLK.STAT.FAILCAUSE n = 7 ∧ t.get BLK.STAT.ATTEMPTS n = satAdd 0xFFFF (s.get BLK.STAT.ATTEMPTS n) 1) ∧
  -- BLK_RETRY_INTERVAL (R240): an enabled link that is DOWN trains again
  (∀ (n : BlkId) (s : State), lstate s n = 1 → s.on BLK.CFG.EN n = true → s.live = true ∧ s.safe = false → s.get TST.LB.CTL.MODE (32 + n) = 0 → ∃ t, exec (.blkRetryInterval n) s = .next t ∧ t.get BLK.STAT.LSTATE n = 2) ∧
  -- LANE_LOCK_LOSS (R243): a link in HELLO that loses a lane goes DOWN
  (∀ (n : BlkId) (l : Fin 9) (s : State), lstate s n = 3 → ∃ t, exec (.laneLockLoss n l) s = .next t ∧ t.get BLK.LANE.LOCK n l = 0 ∧ t.get BLK.STAT.LSTATE n = 1 ∧ t.get BLK.STAT.ATTEMPTS n = satAdd 0xFFFF (s.get BLK.STAT.ATTEMPTS n) 1) ∧
  -- LANE_ERROR_WINDOW (R243): a new window starts
  (∀ (n : BlkId) (l : Fin 9) (s : State), s.get BLK.LSPCFG.SUB_THRESH n = 0 → ∃ t, exec (.laneErrorWindow n l) s = .next t ∧ lookD (blkSt t n).winErr l 0 = 0 ∧ s.ns < t.ns) ∧
  -- LANE_SUB_COMMAND (R243): the substitution of an active lane starts
  (∀ (n : BlkId) (v : Word) (w : Nat) (s : State), served s (BLK.LCTL.SUB.base / 8) = true → pdOn s n = true → bitOf v.toNat 4 = true ∧ bitOf v.toNat 5 = false → linkUp s n = true → bitsOf v.toNat 0 4 < 9 → laneState s n (bitsOf v.toNat 0 4) = 0 → spareLane s n = some w → (blkSt s n).sub = none → ∃ t, exec (.laneSubCommand n v) s = .next t ∧ (blkSt t n).sub = some ⟨s.get BLK.LANE.POS n (bitsOf v.toNat 0 4), bitsOf v.toNat 0 4, wrapAdd 12 (blkSt s n).cwcnt 64, false⟩ ∧ t.get BLK.LCTL.LANE n = bitsOf v.toNat 0 4) ∧
  -- SPARE_LANE_FAIL (R243): the spare lane is fenced
  (∀ (n : BlkId) (l : Nat) (s : State), spareLane s n = some l → (blkSt s n).sub = none → ∃ t, exec (.spareLaneFail n) s = .next t ∧ t.get BLK.LANE.STATE n l = 2 ∧ t.get BLK.STAT.NO_SPARE n = b2n (spareLane t n).isNone) ∧
  -- LINK_HANDOFF_COMMAND (R244): an active link hands its stream off
  (∀ (n : BlkId) (v : Word) (s : State), served s (BLK.LCTL.HANDOFF.base / 8) = true → pdOn s n = true → bitOf v.toNat 4 = false ∧ bitOf v.toNat 5 = true → lstate s n = 4 → ∃ t, exec (.linkHandoffCommand n v) s = .next t ∧ t.get BLK.STAT.LSTATE n = 5 ∧ t.on BLK.ESTAT.DOWN n = true) ∧
  -- LINK_SET_FENCE_DONE (R246): the set of links is open to the peer
  (∀ (d : Fin 8) (s : State), s.blkG.fences.contains d.val = true → (linksTo s d ++ linksTo s (if s.on BLKC.ROUTE.RELAY d then s.get BLKC.ROUTE.VIA d else d.val)).all (fun l => (blkSt s l).win.isEmpty) = true → ∃ t, exec (.linkSetFenceDone d) s = .next t ∧ t.blkG.fences = without d.val s.blkG.fences) ∧
  -- UNREACHABLE_TIMEOUT (R250): the device counts as unreachable
  (∀ (d : Fin 8) (x : Nat) (s : State), look s.blkG.lostAt d = some x → d.val ≠ me s → linksTo s d = [] → relayFor s d = none → ∃ t, exec (.unreachableTimeout d) s = .next t ∧ t.get BLKC.ROUTE.REACH d = 0 ∧ look t.blkG.lostAt d = none)

/-- What the commands of 11_security_and_trust.md do, part 1 of 2 (R258, R262, R266, R267, R268, R271, R272, R273, R276, R277, R292). Each clause gives one command a case in which it has its own effect, and what the next state then holds. -/
def Obligations.SecurityEffectsA : Prop :=
  -- NOISE_SOURCE_FAIL (R258): a first or second failure in succession is counted
  (∀ (src1 : Bool) (s : State), (if src1 then s.sec.noise1 else s.sec.noise0) < 2 → ∃ t, exec (.noiseSourceFail src1) s = .next t ∧ (if src1 then t.sec.noise1 else t.sec.noise0) = (if src1 then s.sec.noise1 else s.sec.noise0) + 1 ∧ t.get SEC.KSTAT.DRBG_OK = s.get SEC.KSTAT.DRBG_OK) ∧
  -- DOMAIN_KEY_SET (R262): the fabric manager's session sets the domain key
  (∀ (session : Nat) (key : BitVec 256) (s : State), look s.sec.sessions session = some fmDoe → (request (.key []) [sealKey s .domain key.toNat 0] .none s).1 = .taken → ∃ t, exec (.domainKeySet session key) s = .next t ∧ t.sec.domain = some key.toNat ∧ t.on SEC.KSTAT.DOMAIN = true ∧ t.out = s.out ++ [.spdm fmDoe 0x7E []]) ∧
  -- ROT_ARM (R266): the rotation is armed
  (∀ (r : Fin 2) (v : Word) (s : State), served s (SEC.ROT.RCTL.ARM.base / 8) = true → bitOf v.toNat 16 = true ∧ bitOf v.toNat 17 = false → armState ((s.set SEC.ROT.RCTL.LD (bitsOf v.toNat 0 12) r).set SEC.ROT.RCTL.RATE (bitsOf v.toNat 12 4) r) r (bitsOf v.toNat 0 12) = false → s.dmv.erase = none → ∃ t, exec (.rotArm r v) s = .next t ∧ rotPhase t r = 1 ∧ t.get SEC.ROT.RSTAT.RESULT r = 0 ∧ rotSt t r = some ⟨bitsOf v.toNat 0 12, 0, 0, false, 0, none, false, false⟩) ∧
  -- RCTL_CANCEL (R292): a rotation that has no key yet is cancelled
  (∀ (r : Fin 2) (v : Word) (x : RotSt) (s : State), served s (SEC.ROT.RCTL.CANCEL.base / 8) = true → bitOf v.toNat 16 = false ∧ bitOf v.toNat 17 = true → rotSt s r = some x ∧ x.key = 0 → ∃ t, exec (.rctlCancel r v) s = .next t ∧ rotPhase t r = 0 ∧ rotSt t r = none) ∧
  -- ROT_TIME_REACHED (R267): the decision point holds the rotation
  (∀ (r : Fin 2) (s : State), rotPhase s r = 1 ∧ bitOf (s.get GCTL.ASSIST.MODE) 6 = true → withoutFm s = false → ∃ t, exec (.rotTimeReached r) s = .next t ∧ rotPhase t r = 2 ∧ t.decs.any (fun d => d.2.func == 6 && d.2.obj == r.val) = true) ∧
  -- REKEY_BLOCK_DONE (R268): the cursor passes the block
  (∀ (r : Fin 2) (x : RotSt) (k : RotBlk) (s : State), rotSt s r = some x ∧ x.copying = some k → rotPhase s r = 3 ∧ k.stage = 4 → copiesDone s x.ld = true ∧ copiesDone s (rescueAt s r).1 = true → (k.b + 65536) % (64 * 2 ^ 20) ≠ 0 → k.b + 65536 < ldBytes s x.ld ∧ k.b + 65536 < 2 ^ 64 → ∃ t, exec (.rekeyBlockDone r) s = .next t ∧ t.get SEC.ROT.RCURSOR.OFFSET r = k.b + 65536 ∧ (rotSt t r).map (·.copying) = some none ∧ look t.sec.rescue r = some (k.b, false, x.start)) ∧
  -- ROT_DRAIN_DONE (R268): the rotation ends when the old key is used no more
  (∀ (r : Fin 2) (x : RotSt) (s : State), rotSt s r = some x ∧ x.migDone = false → rotPhase s r = 4 → oldKeyOpen s x.ld = false → ∃ t, exec (.rotDrainDone r) s = .next t ∧ rotPhase t r = 0 ∧ rotSt t r = none ∧ t.get SEC.ROT.RSTAT.RESULT r = 0 ∧ t.get SEC.LDKEY.ROT x.ld = 0) ∧
  -- IDE_KM (R272): the key set is stored and the stream is set up
  (∀ (p : PortId) (session : Nat) (cachemem : Bool) (kset : Bool) (key : Nat) (s : State), look s.sec.sessions session = some (ideDoe s p) → isUp s p = true → s.get (ideEnt cachemem) p ≠ 2 → ∃ t, exec (.ideKm p session cachemem kset key) s = .next t ∧ look t.sec.linkKeys (p.val * 16 + 2 * b2n cachemem + b2n kset) = some key ∧ t.get (ideEnt cachemem) p = 1) ∧
  -- K_SET_GO (R271): the stream is secure under the key set
  (∀ (p : PortId) (cachemem : Bool) (kset : Bool) (s : State), (look s.sec.linkKeys (p.val * 16 + 2 * b2n cachemem + b2n kset)).isSome = true → isUp s p = true → ∃ t, exec (.kSetGo p cachemem kset) s = .next t ∧ t.get (ideEnt cachemem) p = 2 ∧ t.on SEC.IDE.KSET p = kset) ∧
  -- IDE_CHECK_FAIL (R273): the failure is counted and the port leaves UP
  (∀ (p : PortId) (cachemem : Bool) (s : State), isUp s p = true → s.get (ideEnt cachemem) p ≠ 0 → ∃ t, exec (.ideCheckFail p cachemem) s = .next t ∧ t.get SEC.IDE.ERRCNT p = satAdd 0xFF (s.get SEC.IDE.ERRCNT p) 1 ∧ t.on SEC.ESTAT.IDE_FAIL = true ∧ isUp t p = false) ∧
  -- KEY_EXCHANGE (R277): a session opens
  (∀ (doe : Nat) (s : State), doeServed s doe = true → (s.sec.sessions.filter (fun q => q.2 == doe)).length < 4 → ∃ t, exec (.keyExchange doe) s = .next t ∧ look t.sec.sessions s.sec.nextSession = some doe ∧ t.sec.nextSession = s.sec.nextSession + 1 ∧ t.out = s.out ++ [.spdm doe 0x64 [s.sec.nextSession]]) ∧
  -- GET_MEASUREMENTS (R276): the measurement of the index is answered
  (∀ (doe : Nat) (index : Nat) (l : List Nat) (s : State), doeServed s doe = true → index ≠ 0 ∧ index ≠ 255 → measure s doe index = some l → ∃ t, exec (.getMeasurements doe index) s = .next t ∧ t.out = s.out ++ [.spdm doe 0x60 l])

/-- What the commands of 11_security_and_trust.md do, part 2 of 2 (R259, R275, R282, R283, R284, R286, R288, R289). Each clause gives one command a case in which it has its own effect, and what the next state then holds. -/
def Obligations.SecurityEffectsB : Prop :=
  -- SPDM_REQUEST (R275): a known request is answered
  (∀ (doe : Nat) (code : Nat) (s : State), doeServed s doe = true → code ≠ 0x81 → spdmKnown code = true → ∃ t, exec (.spdmRequest doe code) s = .next t ∧ t.out = s.out ++ [.spdm doe (code - 0x80) []]) ∧
  -- END_SESSION (R259): the session ends
  (∀ (session : Nat) (doe : Nat) (s : State), look s.sec.sessions session = some doe → ∃ t, exec (.endSession session) s = .next t ∧ t.out = s.out ++ [.spdm doe 0x6C []] ∧ look t.sec.sessions session = none) ∧
  -- HEARTBEAT_TIMEOUT (R259): the session ends
  (∀ (session : Nat) (s : State), ∃ t, exec (.heartbeatTimeout session) s = .next t ∧ t = { s with sec := { s.sec with sessions := del s.sec.sessions session } }) ∧
  -- FV_CLEAR (R282): the first violation and its overflow flag are cleared
  (∀ (v : Word) (s : State), served s (ACT.FVSTAT.VALID.base / 8) = true → bitOf v.toNat 0 = true ∧ bitOf v.toNat 1 = true → ∃ t, exec (.fvClear v) s = .next t ∧ t.get ACT.FVSTAT.VALID = 0 ∧ t.get ACT.FVSTAT.OVF = 0 ∧ t.get ACT.FVMID.MID = 0 ∧ t.get ACT.FVMID.LD = 0 ∧ t.get ACT.FVADDR.VALUE = 0 ∧ t.get ACT.FVTIME.VALUE = 0) ∧
  -- ACT_COMMIT (R283): the staged table takes effect
  (∀ (v : Word) (s : State), served s (ACT.COMMIT.DONE.base / 8) = true → bitOf v.toNat 8 = true → s.on ACT.COMMIT.DONE = true ∧ s.on ACT.COMMIT.STG_BUSY = false → s.act.failed = false → (activeHalf s).header.isSome = true → sealedOff s = false → s.boot.flash.halfPages ≥ halfUsed (activeHalf s) + pagesOwed s + recPages (.act (s.get ACT.STGCFG.DEFAULT) (actChanged s)) [] → ∃ t, exec (.actCommit v) s = .next t ∧ t.get ACT.CFG.DEFAULT = s.get ACT.STGCFG.DEFAULT ∧ t.get ACT.COMMIT.EPOCH = (s.get ACT.COMMIT.EPOCH + 1) % 2 ^ 8 ∧ t.get ACT.COMMIT.DONE = 0 ∧ t.get ACT.COMMIT.SEALED = 0 ∧ t.get ACT.COMMIT.STG_BUSY = 1 ∧ t.get ACT.COMMIT.RESULT = 0) ∧
  -- STAGING_RELOAD_DONE (R283): the staging copy holds the table in force
  (∀ (s : State), s.on ACT.COMMIT.STG_BUSY = true → ∃ t, exec (.stagingReloadDone) s = .next t ∧ t.get ACT.COMMIT.STG_BUSY = 0 ∧ t.get ACT.STGCFG.DEFAULT = s.get ACT.CFG.DEFAULT) ∧
  -- ACT_DRAIN_DONE (R284): the commit is done when no request of an earlier table is open
  (∀ (s : State), actDrained s = true → ∃ t, exec (.actDrainDone) s = .next t ∧ t = s.set ACT.COMMIT.DONE 1) ∧
  -- LC_ARM (R286): the transition is armed and a nonce drawn
  (∀ (m : Master) (v : Word) (s : State), served s (SEC.LCCTL.ARM.base / 8) = true → m ≠ .dap → bitOf v.toNat 3 = true ∧ bitOf v.toNat 4 = false → ∃ t, exec (.lcArm m v) s = .next t ∧ t.sec.armed = some (s.ns + 1000000) ∧ t.get SEC.LCCTL.TARGET = bitsOf v.toNat 0 3 ∧ t.get SEC.LCNONCE.NONCE = (s.set SEC.LCCTL.TARGET (bitsOf v.toNat 0 3)).freeNat 64) ∧
  -- LC_ARM_EXPIRY (R286): the armed transition lapses
  (∀ (x : Nat) (s : State), s.sec.armed = some x → ∃ t, exec (.lcArmExpiry) s = .next t ∧ t = { s.reach x with sec := { s.sec with armed := none } }) ∧
  -- LC_GO (R288): an allowed transition is fused and the device held
  (∀ (m : Master) (v : Word) (token : Bool) (fuseOk : Bool) (x : Nat) (s : State), served s (SEC.LCCTL.GO.base / 8) = true → m ≠ .dap → bitOf v.toNat 3 = false ∧ bitOf v.toNat 4 = true → s.sec.armed = some x ∧ s.ns ≤ x → s.on SEC.LCSTAT.HELD = false → lcCheck ({ s with sec := { s.sec with armed := none } }.set SEC.LCCTL.TARGET (bitsOf v.toNat 0 3)) (bitsOf v.toNat 0 3) token = 0 → fuseOk = true → ∃ t, exec (.lcGo m v token fuseOk) s = .next t ∧ t.fuses.lc = bitsOf v.toNat 0 3 ∧ t.on SEC.LCSTAT.HELD = true ∧ t.get SEC.LCCTL.RESULT = 0) ∧
  -- DAP_ACCESS (R289): an allowed read of the debug port answers the word
  (∀ (write : Bool) (pool : Bool) (ld : Fin 4096) (addr : BitVec 52) (v : Line) (a : Nat) (s1 : State) (s : State), s.mgmt.jtag = 0x10 → s.on SEC.DBGCTL.EN = true → ended s = false → write = false ∧ pool = false → a = addr.toNat % 2 ^ 28 ∧ s1 = perf 276 0x10 1 none s ∧ a % 4 = 0 → dapCheck s1 a 0 = none → (regDomain a = none ∨ s1.safe = true) → ∃ t, exec (.dapAccess write pool ld addr v) s = .next t ∧ t = (readWord .dap a s1).2.emit (.rdata .dap a (readWord .dap a s1).1)) ∧
  -- DAPACC (R289): the debug port is selected
  (∀ (s : State), s.mgmt.jtag ≠ 0x10 → s.scan = false ∧ romWaits s = false → ∃ t, exec (.dapacc) s = .next t ∧ t.mgmt.jtag = 0x10 ∧ t.on SEC.DBGCTL.ACTIVE = true)

/-- What the commands of 12_slot_power.md do, part 1 of 2 (R295, R296, R297, R298, R299, R300, R301, R302, R303, R304, R306). Each clause gives one command a case in which it has its own effect, and what the next state then holds. -/
def Obligations.SlotEffectsA : Prop :=
  -- SLOT_TICK (R295): the slot samples its sensors
  (∀ (n : SlotId) (s' : SlotSample) (s : State), ∃ t, exec (.slotTick n s') s = .next t ∧ (slotSt t n).t ≥ (slotSt s n).t) ∧
  -- SEATING_DETECTED (R296): a seated module is to be qualified
  (∀ (n : SlotId) (s : State), (slotSt s n).lost = false → (slotSt s n).state = slEmpty → ∃ t, exec (.seatingDetected n) s = .next t ∧ (slotSt t n).state = slQualify ∧ (slotSt t n).seated = true ∧ (slotSt t n).highs = 0) ∧
  -- QUALIFY_COMPLETE (R297): the slot is qualified
  (∀ (n : SlotId) (s : State), (slotSt s n).state = slQualify ∧ (slotSt s n).seated = true → ((slotSt s n).cfg.mode = 1 ∨ (slotSt s n).cfg.mode = 2) → ∃ t, exec (.qualifyComplete n) s = .next t ∧ (slotSt t n).state = slInsert ∧ (slotSt t n).qual = none) ∧
  -- INSERTION_DELAY_END (R298): the slot is ready after the insertion delay
  (∀ (n : SlotId) (a : Nat) (s : State), (slotSt s n).insert = some a → (slotSt s n).state = slInsert → (slotSt s n).cfg.mode = 1 → ∃ t, exec (.insertionDelayEnd n) s = .next t ∧ (slotSt t n).state = slReady ∧ (slotSt t n).insert = none) ∧
  -- SEATING_LOST (R299): the slot is empty
  (∀ (n : SlotId) (s : State), (slotSt s n).lost = false ∧ (slotSt s n).state ≠ slEmpty → (slotSt s n).state ≠ slFetFail ∧ gateOn (slotSt s n) = false ∧ (slotSt s n).state ≠ slDischarge → ∃ t, exec (.seatingLost n) s = .next t ∧ (slotSt t n).state = slEmpty ∧ (slotSt t n).lost = true ∧ (slotSt t n).seated = false) ∧
  -- INRUSH_TIMEOUT (R300): the slot trips
  (∀ (n : SlotId) (s : State), (slotSt s n).state = slInrush → (slotSt s n).cfg.portEn = false → ∃ t, exec (.inrushTimeout n) s = .next t ∧ t.get SLOT.COUNTS.TRIPCNT n = satAdd 0xFFFF (s.get SLOT.COUNTS.TRIPCNT n) 1 ∧ (slotSt t n).state = slDischarge ∧ (slotSt t n).lastTrip = 4) ∧
  -- FAULT_TIMER_EXPIRY (R301): the slot trips
  (∀ (n : SlotId) (a : Nat) (s : State), (slotSt s n).timer = some a → gateOn (slotSt s n) = true → (slotSt s n).cfg.portEn = false → ∃ t, exec (.faultTimerExpiry n) s = .next t ∧ t.get SLOT.COUNTS.TRIPCNT n = satAdd 0xFFFF (s.get SLOT.COUNTS.TRIPCNT n) 1 ∧ (slotSt t n).state = slDischarge ∧ (slotSt t n).lastTrip = 1) ∧
  -- FAST_TRIP (R303): the slot trips
  (∀ (n : SlotId) (s : State), gateOn (slotSt s n) = true → (slotSt s n).cfg.portEn = false → ∃ t, exec (.fastTrip n) s = .next t ∧ t.get SLOT.COUNTS.TRIPCNT n = satAdd 0xFFFF (s.get SLOT.COUNTS.TRIPCNT n) 1 ∧ (slotSt t n).state = slDischarge ∧ (slotSt t n).lastTrip = 2) ∧
  -- RETRY_TIMER_END (R302): the slot tries again
  (∀ (n : SlotId) (e : Nat) (s : State), (slotSt s n).retry = some e → (slotSt s n).state = slRetry ∧ (slotSt s n).cfg.mode ≠ 2 → s.running = true → ∃ t, exec (.retryTimerEnd n) s = .next t ∧ (slotSt t n).state = slInrush ∧ (slotSt t n).retry = none) ∧
  -- PG_DELAY_END (R304): power is good
  (∀ (n : SlotId) (s : State), (slotSt s n).state = slOn → (slotSt s n).timer = none → ∃ t, exec (.pgDelayEnd n) s = .next t ∧ (slotSt t n).pg = true ∧ t.on SLOT.STAT.PG n = true) ∧
  -- WARN_CLEAR (R304): the warning clears
  (∀ (n : SlotId) (a : Nat) (s : State), (slotSt s n).calm = some a → (slotSt s n).timer = none ∧ (slotSt s n).state = slOn → ∃ t, exec (.warnClear n) s = .next t ∧ (slotSt t n).warn = false ∧ (slotSt t n).calm = none ∧ t.on SLOT.STAT.WARN n = false) ∧
  -- RETRIES_CLEAR (R302): the retries are cleared
  (∀ (n : SlotId) (s : State), (slotSt s n).pg = true ∧ (slotSt s n).cfg.rclr ≠ 0 → ∃ t, exec (.retriesClear n) s = .next t ∧ (slotSt t n).retries = 0 ∧ t.get SLOT.STAT.RETRIES n = 0) ∧
  -- ENERGY_LIMIT (R306): the slot trips
  (∀ (n : SlotId) (s : State), (slotSt s n).energy.isSome = true → gateOn (slotSt s n) = true → (slotSt s n).cfg.portEn = false → ∃ t, exec (.energyLimit n) s = .next t ∧ t.get SLOT.COUNTS.TRIPCNT n = satAdd 0xFFFF (s.get SLOT.COUNTS.TRIPCNT n) 1 ∧ (slotSt t n).state = slDischarge ∧ (slotSt t n).lastTrip = 3)

/-- What the commands of 12_slot_power.md do, part 2 of 2 (R298, R306, R307, R308, R309, R310, R314). Each clause gives one command a case in which it has its own effect, and what the next state then holds. -/
def Obligations.SlotEffectsB : Prop :=
  -- FET_DEGRADED (R307): the slot trips
  (∀ (n : SlotId) (s : State), (slotSt s n).state = slOn ∧ (slotSt s n).timer = none → (slotSt s n).cfg.portEn = false → ∃ t, exec (.fetDegraded n) s = .next t ∧ t.get SLOT.COUNTS.TRIPCNT n = satAdd 0xFFFF (s.get SLOT.COUNTS.TRIPCNT n) 1 ∧ (slotSt t n).state = slDischarge ∧ (slotSt t n).lastTrip = 5) ∧
  -- FET_SHORT (R307): the switch has failed
  (∀ (n : SlotId) (s : State), gateOn (slotSt s n) = false ∧ (slotSt s n).state ≠ slFetFail → ∃ t, exec (.fetShort n) s = .next t ∧ (slotSt t n).state = slFetFail ∧ t.on SLOT.ESTAT.FET_SHORT n = true) ∧
  -- DISCHARGE_TIMEOUT (R308): the discharge ends, flagged as failed
  (∀ (n : SlotId) (s : State), (slotSt s n).state = slDischarge ∧ (slotSt s n).next = slReady → ∃ t, exec (.dischargeTimeout n) s = .next t ∧ (slotSt t n).state = slReady ∧ t.on SLOT.ESTAT.DISCH_FAIL n = true) ∧
  -- SLOT_ON (R298): a ready slot is to be switched on
  (∀ (n : SlotId) (v : Word) (s : State), served s (SLOT.CTL.ON.base / 8) = true → bitsOf v.toNat 0 5 = 1 → (slotSt s n).state = slReady → ∃ t, exec (.slotOn n v) s = .next t ∧ (slotSt t n).wantOn = true) ∧
  -- SLOT_ON_AT (R298): a ready slot is to be switched on at its time
  (∀ (n : SlotId) (v : Word) (s : State), served s (SLOT.CTL.ON_AT.base / 8) = true → bitsOf v.toNat 0 5 = 2 → (slotSt s n).state = slReady → ∃ t, exec (.slotOnAt n v) s = .next t ∧ (slotSt t n).wantAt = true) ∧
  -- ONAT_REACHED (R298): the slot switches on
  (∀ (n : SlotId) (s : State), (slotSt s n).wantAt = true ∧ (slotSt s n).state = slReady → ∃ t, exec (.onatReached n) s = .next t ∧ (slotSt t n).state = slInrush ∧ (slotSt t n).wantAt = false) ∧
  -- SLOT_OFF (R309): the slot switches off
  (∀ (n : SlotId) (v : Word) (s : State), served s (SLOT.CTL.OFF.base / 8) = true → bitsOf v.toNat 0 5 = 4 → gateOn (slotSt s n) = true → portClear s (slotSt s n) = true → ∃ t, exec (.slotOff n v) s = .next t ∧ (slotSt t n).state = slDischarge ∧ (slotSt t n).next = slReady) ∧
  -- SLOT_CLEAR (R307): a latched slot is ready again
  (∀ (n : SlotId) (v : Word) (s : State), served s (SLOT.CTL.CLEAR.base / 8) = true → bitsOf v.toNat 0 5 = 8 → (slotSt s n).state = slLatched → ∃ t, exec (.slotClear n v) s = .next t ∧ (slotSt t n).state = slReady ∧ (slotSt t n).retries = 0) ∧
  -- SLOT_APPLY (R306): the configuration takes effect
  (∀ (n : SlotId) (v : Word) (s : State), served s (SLOT.CTL.APPLY.base / 8) = true → bitsOf v.toNat 0 5 = 16 → applyBad s (slotRegs s n) (s.get SLOT.TRETRY.SLEW n) = false → ∃ t, exec (.slotApply n v) s = .next t ∧ (slotSt t n).cfg = slotRegs s n) ∧
  -- VIN_EARLY_WARNING (R310): the warning is raised
  (∀ (vin : Fin 4096) (s : State), s.on SLOTV.STAT.WARN = false → ∃ t, exec (.vinEarlyWarning vin) s = .next t ∧ t.on SLOTV.STAT.WARN = true ∧ t.on SLOTV.ESTAT.WARN_EV = true ∧ t.get SLOTV.STAT.VIN = vin.val) ∧
  -- VIN_LOCKOUT (R310): every slot loses its gate
  (∀ (vin : Fin 4096) (s : State), vin.val < thrOf (s.get SLOTV.THR1.UVLO) → s.on SLOTV.STAT.UVLO = false → ∃ t, exec (.vinLockout vin) s = .next t ∧ t.on SLOTV.STAT.UVLO = true ∧ t.on SLOTV.ESTAT.UVLO_EV = true ∧ ∀ k : Fin 32, gateOn (slotSt t k) = false) ∧
  -- SLOT_DIE_POWER_ON (R310): the die starts anew
  (∀ (vin : Fin 4096) (s : State), ∃ t, exec (.slotDiePowerOn vin) s = .next t ∧ t.get SLOTV.STAT.UVLO = 0 ∧ ∀ k : Fin 32, (slotSt t k).state = (if (slotSt s k).seated then slQualify else slEmpty)) ∧
  -- THRESHOLD_WRITE (R314): rising thresholds are taken
  (∀ (thr1 : Bool) (v : Word) (s : State), served s (SLOTV.THR0.OV.base / 8) = true → thr1 = true ∧ bitsOf v.toNat 0 8 < s.get SLOTV.THR0.WARN → s.get SLOTV.THR0.WARN < s.get SLOTV.THR0.QLO ∧ s.get SLOTV.THR0.QLO < s.get SLOTV.THR0.QHI → s.get SLOTV.THR0.QHI < s.get SLOTV.THR0.OV → ∃ t, exec (.thresholdWrite thr1 v) s = .next t ∧ t.get SLOTV.THR1.UVLO = bitsOf v.toNat 0 8)

/-- What the commands of 13_faults_and_spares.md do (R315, R316, R317, R319, R323, R324, R325, R328, R329, R333, R453). Each clause gives one command a case in which it has its own effect, and what the next state then holds. -/
def Obligations.FaultEffects : Prop :=
  -- ERROR_RECORD (R317): the uncorrected error is counted at its source
  (∀ (r : ErrRec) (s : State), r.cls = 1 → r.src < 512 → ∃ t, exec (.errorRecord r) s = .next t ∧ t.get FLT.CNT.UC r.src = satAdd 0xFFFF (s.get FLT.CNT.UC r.src) (1 + r.suppr)) ∧
  -- RECORD_MERGE (R315): the record is held at its reporter
  (∀ (r : ErrRec) (s : State), (heldBy s r.src).length < 2 → ∃ t, exec (.recordMerge r) s = .next t ∧ t.flt.held = s.flt.held ++ [(r, s.ns)]) ∧
  -- ERROR_LINE_EDGE (R316): the edge is latched and a critical temperature is fatal
  (∀ (line : Fin 36) (why : LineCause) (s : State), line = 33 ∧ why = .critical → bitOf (lineBits s) 33 = false ∧ s.get FLT.LINES.TEMP = 0 → s.on FLT.LINEEN.TEMP = true → s.on FLT.LINEEN.FLTN = false → ∃ t, exec (.errorLineEdge line why) s = .next t ∧ t.get FLT.LINES.TEMP = 1 ∧ t.flt.fatal = true) ∧
  -- ERROR_LINE_EDGE (R316): the loss of the FM port's reference clock takes its link down
  (∀ (line : Fin 36) (why : LineCause) (s : State), line = 35 ∧ why = .fmRefclk → ∃ t, exec (.errorLineEdge line why) s = .next t ∧ t.fmUp = false) ∧
  -- STORM_END (R324): the storm ends with its summary
  (∀ (src : Fin 512) (st : Storm) (s : State), look s.flt.storms src = some st → ∃ t, exec (.stormEnd src) s = .next t ∧ look t.flt.storms src = none ∧ t.get FLT.SRC.STORM src = 0 ∧ t.get FLT.RECOV.COUNT = satAdd 0xFFFF (s.get FLT.RECOV.COUNT) 1) ∧
  -- FAULTN_QUIET_RELEASE (R325): FAULT_N is released
  (∀ (s : State), s.on FLT.STAT.FAULTN = true → faultnHeld s = false → ∃ t, exec (.faultnQuietRelease) s = .next t ∧ t.get FLT.STAT.FAULTN = 0 ∧ t.get FLT.RECOV.COUNT = satAdd 0xFFFF (s.get FLT.RECOV.COUNT) 1 ∧ t.out = s.out ++ [.faultN false] ∧ t.ns = max s.ns (max s.flt.lastAssert s.flt.condEnd + quietNs s)) ∧
  -- FAULTN_CLR (R325): FAULT_N is released
  (∀ (v : Word) (s : State), served s (FLT.CTL.FAULTN_CLR.base / 8) = true → bitOf v.toNat 0 = true → s.on FLT.STAT.FAULTN = true ∧ s.flt.fatal = false → ∃ t, exec (.faultnClr v) s = .next t ∧ t = (s.set FLT.STAT.FAULTN 0).emit (.faultN false)) ∧
  -- FLT_RHEAD_WRITE (R319): the head index is taken
  (∀ (v : Word) (s : State), served s (FLT.RHEAD.INDEX.base / 8) = true → s.get FLT.STAT.DROPS = 0 → ∃ t, exec (.fltRheadWrite v) s = .next t ∧ t = s.set FLT.RHEAD.INDEX v.toNat) ∧
  -- CORE_HEARTBEAT (R329): the heartbeat is noted
  (∀ (c : Fin 5) (s : State), coreFenced s c = false → s.flt.beat.length = 5 → ∃ t, exec (.coreHeartbeat c) s = .next t ∧ t = { s with flt := { s.flt with beat := setNth s.flt.beat c s.ns } }) ∧
  -- HEARTBEAT_LOSS (R329): the core is fenced
  (∀ (c : Fin 5) (s : State), s.get FLT.UNIT.STATE 1 c = 0 → s.flt.bringIns = [] ∧ spareCore s = none → ∃ t, exec (.heartbeatLoss c) s = .next t ∧ t.get FLT.UNIT.STATE 1 c = 2 ∧ t.get FLT.CNT.UC (eCore + c) = satAdd 0xFFFFFFFF (s.get FLT.CNT.UC (eCore + c)) 1) ∧
  -- BRING_IN_COMPLETE (R328): the bring-in is over
  (∀ (cls : Fin 6) (i : Nat) (b : BringIn) (s : State), s.flt.bringIns.find? (fun b => b.cls == cls.val && (b.old == i || b.new == i)) = some b → cls.val = 1 ∧ b.new ≠ 4 → ∃ t, exec (.bringInComplete cls i) s = .next t ∧ t.flt.bringIns = s.flt.bringIns.filter (· != b)) ∧
  -- FENCE_RELEASE (R333): the test of the fenced unit starts
  (∀ (v : Word) (s : State), served s (FLT.FENCE.RELEASE.base / 8) = true → bitOf v.toNat 10 = true → s.on FLT.FENCE.BUSY = false ∧ classBusy s (bitsOf v.toNat 0 3) = false → bitsOf v.toNat 0 3 ≠ 3 → bitsOf v.toNat 3 7 < unitCount (bitsOf v.toNat 0 3) ∧ s.get FLT.UNIT.STATE (bitsOf v.toNat 0 3) (bitsOf v.toNat 3 7) = 2 → ∃ t, exec (.fenceRelease v) s = .next t ∧ t.flt.release = some (bitsOf v.toNat 0 3, bitsOf v.toNat 3 7) ∧ t.get FLT.FENCE.BUSY = 1) ∧
  -- RELEASE_TEST_DONE (R333): the release is done
  (∀ (pass : Bool) (c i : Nat) (s : State), s.flt.release = some (c, i) → pass = true → ∃ t, exec (.releaseTestDone pass) s = .next t ∧ t.flt.release = none ∧ t.get FLT.FENCE.BUSY = 0 ∧ t.get FLT.FENCE.RESULT = 0) ∧
  -- RELEASE_TIMEOUT (R453): the release fails
  (∀ (c i : Nat) (s : State), s.flt.release = some (c, i) → ∃ t, exec (.releaseTimeout) s = .next t ∧ t.flt.release = none ∧ t.get FLT.FENCE.BUSY = 0 ∧ t.get FLT.FENCE.RESULT = 3) ∧
  -- UC_RECOVER (R323): the decision is answered
  (∀ (d : Decide) (x : Dec) (s : State), look s.decs d.decid.toNat = some x → judge 3 d (decide (d.obj < 64)) s = stAccepted → x.obj < 64 ∧ isUp s x.obj = true ∧ portLds s x.obj = [] → ∃ t, exec (.ucRecover d) s = .next t ∧ (look t.decs d.decid.toNat).map (·.stat) = some .answered ∧ t.out.any (fun o => o == .status d.via stAccepted) = true)

/-- What the commands of 14_events_and_interrupts.md do (R340, R343, R344, R345, R346, R348, R349). Each clause gives one command a case in which it has its own effect, and what the next state then holds. -/
def Obligations.EventEffects : Prop :=
  -- EVENT_RAISED (R340): the event is held at its source
  (∀ (src : Fin 1536) (cause : Fin 32) (payload : Word) (s : State), cause ≠ 29 ∧ cause ≠ 30 → evReserved src = false ∧ s.get EVT.SRC.PRIO src ≠ 0 → s.evt.held = [] ∧ s.evt.claimed = [] → ∃ t, exec (.eventRaised src cause payload) s = .next t ∧ (lookD t.evt.held src []).map (fun r => (r.src, r.cause, r.payload)) = [(src.val, cause.val, payload.toNat)]) ∧
  -- CLAIM (R343): the best event is claimed
  (∀ (m : Master) (c : Fin 5) (src : Nat) (r : EvRec) (rest : List EvRec) (s : State), m = .core c ∧ coreFenced s c = false → evBest s c = some src → lookD s.evt.held src [] = r :: rest → ∃ t, exec (.claim m c) s = .next t ∧ t.get EVT.CORE.CPAY.PAYLOAD c = r.payload % 2 ^ 32 ∧ (lookD t.evt.claimed src []).getLast? = some r ∧ lookD t.evt.held src [] = rest) ∧
  -- COMPLETE (R344): the source is completed
  (∀ (m : Master) (c : Fin 5) (v : Word) (s : State), m = .core c ∧ coreFenced s c = false → 2 ≤ s.get EVT.SRC.STATE (v.toNat % 2 ^ 11) ∧ s.get EVT.SRC.CORE (v.toNat % 2 ^ 11) = c.val → evReserved (v.toNat % 2 ^ 11) = false → ∃ t, exec (.complete m c v) s = .next t ∧ lookD t.evt.claimed (v.toNat % 2 ^ 11) [] = []) ∧
  -- RING_RECORD_WRITE (R346): the record is written to the ring
  (∀ (r : EvRec) (rest : List EvRec) (s : State), s.evt.buf = r :: rest ∧ s.evt.lost = 0 → s.on EVT.RING.CTL.EN = true ∧ s.fmUp = true → ringFull s = false → ∃ t, exec (.ringRecordWrite) s = .next t ∧ t.get EVT.RING.TAIL.INDEX = (s.get EVT.RING.TAIL.INDEX + 1) % 2 ^ s.get EVT.RING.CTL.LOG % 2 ^ 16 ∧ t.out.any (fun o => o == .fmWrite (s.get EVT.RING.BASE.BASE * 4096 + s.get EVT.RING.TAIL.INDEX * 16) (evWord r (s.get EVT.RING.STAT.PHASE))) = true ∧ t.evt.buf = rest) ∧
  -- RING_HEAD_WRITE (R346): the head moves over written entries
  (∀ (v : Word) (s : State), served s (EVT.RING.HEAD.INDEX.base / 8) = true → v.toNat % 2 ^ 16 < 2 ^ s.get EVT.RING.CTL.LOG → (v.toNat % 2 ^ 16 + 2 ^ s.get EVT.RING.CTL.LOG - s.get EVT.RING.HEAD.INDEX % 2 ^ s.get EVT.RING.CTL.LOG) % 2 ^ s.get EVT.RING.CTL.LOG ≤ s.evt.ring.length → ∃ t, exec (.ringHeadWrite v) s = .next t ∧ t.get EVT.RING.HEAD.INDEX = v.toNat % 2 ^ 16 ∧ t.evt.ring = s.evt.ring.drop ((v.toNat % 2 ^ 16 + 2 ^ s.get EVT.RING.CTL.LOG - s.get EVT.RING.HEAD.INDEX % 2 ^ s.get EVT.RING.CTL.LOG) % 2 ^ s.get EVT.RING.CTL.LOG)) ∧
  -- RING_CTL_WRITE (R346): the ring is enabled, empty
  (∀ (v : Word) (s : State), served s (EVT.RING.CTL.EN.base / 8) = true → s.on EVT.RING.CTL.EN = false ∧ bitsOf v.toNat 0 1 = 1 → 6 ≤ bitsOf v.toNat 1 5 ∧ bitsOf v.toNat 1 5 ≤ 16 → ∃ t, exec (.ringCtlWrite v) s = .next t ∧ t.get EVT.RING.CTL.EN = 1 ∧ t.get EVT.RING.CTL.LOG = bitsOf v.toNat 1 5 ∧ t.get EVT.RING.HEAD.INDEX = 0 ∧ t.get EVT.RING.TAIL.INDEX = 0 ∧ t.get EVT.RING.STAT.PHASE = 1 ∧ t.get EVT.RING.STAT.ARMED = 1 ∧ t.evt.ring = []) ∧
  -- HOLDOFF_END (R348): the hold-off of the ring ends
  (∀ (g : Fin 24) (ring : Bool) (s : State), ring = true → s.evt.ring = [] → ∃ t, exec (.holdoffEnd g ring) s = .next t ∧ t = s.set EVT.GRP.HOLD_RING 0 g) ∧
  -- WAKE_EDGE (R349): the edge is latched
  (∀ (line : Fin 37) (stopped : Bool) (s : State), stopped = true → bitOf (s.get EVT.WAKEEN.LINE) line = true → ∃ t, exec (.wakeEdge line stopped) s = .next t ∧ t.get EVT.WAKELAT.LINE = Nat.lor (s.get EVT.WAKELAT.LINE) (2 ^ line.val) ∧ look t.evt.edges line = some (min 255 ((lookD s.evt.edges line (0, s.ns)).1 + 1), (lookD s.evt.edges line (0, s.ns)).2)) ∧
  -- WAKE_EVENT (R349): the latched edge becomes an event
  (∀ (line : Fin 37) (s : State), bitOf (s.get EVT.WAKELAT.LINE) line = true → ∃ t, exec (.wakeEvent line) s = .next t ∧ look t.evt.edges line = none ∧ bitOf (t.get EVT.WAKELAT.LINE) line = false) ∧
  -- FM_PORT_LINK_UP (R345): the link to the fabric manager is up
  (∀ (s : State), s.scan = false → s.get TST.LB.CTL.MODE 40 = 0 → ∃ t, exec (.fmPortLinkUp) s = .next t ∧ t = { s with fmUp := true })

/-- What the commands of 15_performance_monitoring.md do (R354, R355, R358, R359, R361). Each clause gives one command a case in which it has its own effect, and what the next state then holds. -/
def Obligations.PerformanceEffects : Prop :=
  -- PERF_SEL_WRITE (R354): the counter is set
  (∀ (i : Fin 384) (k : Fin 8) (v : Word) (s : State), served s (PERF.CNT.SEL.EVENT.base / 8) = true → codeOk i (bitsOf v.toNat 0 8) = true → ∃ t, exec (.perfSelWrite i k v) s = .next t ∧ t.get PERF.CNT.SEL.EVENT i k = bitsOf v.toNat 0 8 ∧ t.get PERF.CNT.SEL.EN i k = bitsOf v.toNat 8 1 ∧ t.get PERF.CNT.SEL.TC i k = bitsOf v.toNat 13 3) ∧
  -- COUNTER_OVERFLOW (R355): the counter stays at its largest value
  (∀ (i : Fin 384) (k : Fin 8) (s : State), s.on PERF.CNT.SEL.EN i k = true ∧ s.on PERF.STAT.FROZEN = false → s.on PERF.CNT.SEL.CHAIN i k = false → k.val % 2 = 0 → ∃ t, exec (.counterOverflow i k) s = .next t ∧ t.get PERF.CNT.VALUE.COUNT i k = perfTop) ∧
  -- PERF_FREEZE (R358): the freeze is asked for at the next boundary
  (∀ (v : Word) (s : State), served s (PERF.CTL.FREEZE.base / 8) = true → ∃ t, exec (.perfFreeze v) s = .next t ∧ t.get PERF.CTL.FREEZE = bitsOf v.toNat 0 1 ∧ t.get PERF.CTL.FRZOVF = bitsOf v.toNat 1 1 ∧ t.perf.want = some (bitOf v.toNat 0)) ∧
  -- FREEZE_BOUNDARY (R358): the freeze takes effect at the boundary
  (∀ (w : Bool) (s : State), s.perf.want = some w → s.on PERF.FRZAT.ARM = false → ∃ t, exec (.freezeBoundary) s = .next t ∧ t.on PERF.STAT.FROZEN = w ∧ t.perf.want = none ∧ t.ns = max s.ns ((s.ns / 1000 + 1) * 1000)) ∧
  -- SNAPSHOT (R358): every counter is copied at the period's end
  (∀ (s : State), s.on PERF.SNAPCFG.PER = true → s.on PERF.SNAPAT.ARM = false → ∃ t, exec (.snapshot) s = .next t ∧ t.get PERF.SNAPTIME.TIME = (s.ns / snapPeriod s + 1) * snapPeriod s % 2 ^ 64 ∧ t.get PERF.SNAPCFG.SNAPSEQ = (s.get PERF.SNAPCFG.SNAPSEQ + 1) % 2 ^ 16 ∧ ∀ i : Fin 384, ∀ k : Fin 8, t.get PERF.CNT.SNAP.COUNT i k = s.get PERF.CNT.VALUE.COUNT i k) ∧
  -- BW_WINDOW_END (R359): every port's bandwidth of the window is latched
  (∀ (s : State), ∃ t, exec (.bwWindowEnd) s = .next t ∧ t.get PERF.BWSEQ.SEQ = (s.get PERF.BWSEQ.SEQ + 1) % 2 ^ 16 ∧ t.perf.rx = [] ∧ t.perf.tx = [] ∧ ∀ p : Fin 64, t.get PERF.BW.RX.UNITS p = min (2 ^ 32 - 1) (lookD s.perf.rx p 0 / 64)) ∧
  -- SAMPLE_RECORD (R361): the sample is stored
  (∀ (req : Nat) (latNs homeLat poolLat : Nat) (x : Sample) (s : State), look s.perf.open_ req = some x → look s.frame.reqs req = none → pdOn s 12 = true → s.on PERF.STAT.TSFULL = false → ∃ t, exec (.sampleRecord req latNs homeLat poolLat) s = .next t ∧ t.get PERF.STAT.NEXT = (s.get PERF.STAT.NEXT + 1) % 2 ^ 12 ∧ t.get PERF.STAT.COUNT = min 4096 (s.get PERF.STAT.COUNT + 1) ∧ look t.perf.open_ req = none) ∧
  -- TS_ENABLE (R361): sampling starts with an empty buffer
  (∀ (v : Word) (s : State), served s (PERF.TSCFG.EN.base / 8) = true → bitOf v.toNat 0 = true → s.on PERF.TSCFG.EN = false → ∃ t, exec (.tsEnable v) s = .next t ∧ t.get PERF.STAT.NEXT = 0 ∧ t.get PERF.STAT.COUNT = 0 ∧ t.get PERF.STAT.TSFULL = 0 ∧ t.perf.open_ = [])

/-- What the commands of 16_boot_image_and_journal.md do (R371, R373, R378, R380, R382, R383, R384, R454). Each clause gives one command a case in which it has its own effect, and what the next state then holds. -/
def Obligations.BootEffects : Prop :=
  -- BOOT_RELEASE (R371): a held boot is released
  (∀ (v : Word) (s : State), served s (BOOT.CTL.RELEASE.base / 8) = true → bitsOf v.toNat 0 3 = 1 → s.get BOOT.STAT.PHASE = 7 → ∃ t, exec (.bootRelease v) s = .next t ∧ t.get BOOT.STAT.PHASE = 8) ∧
  -- JRESET (R373): the journal is made anew and the boot goes on
  (∀ (v : Word) (s : State), served s (BOOT.CTL.JRESET.base / 8) = true → bitsOf v.toNat 0 3 = 2 → s.get BOOT.STAT.PHASE = 9 ∧ s.get BOOT.STAT.RESULT = 4 → ∃ t, exec (.jreset v) s = .next t ∧ t.get BOOT.STAT.RESULT = 0) ∧
  -- PAGE_PROGRAM_DONE (R454): the page is in the journal
  (∀ (c : JCur) (s : State), s.boot.cur = some c ∧ c.reading = false → s.on BOOT.STAT.SEALED = false ∧ s.boot.pwrfail = false → s.boot.policies = [] → ∃ t, exec (.pageProgramDone) s = .next t ∧ t.boot.cur = some { c with recd := { c.recd with programmed := c.recd.programmed + 1 }, reading := c.recd.programmed + 1 == c.recd.pages } ∧ ((activeHalf t).recs.getLast?).map (·.programmed) = some (c.recd.programmed + 1)) ∧
  -- RECORD_READBACK (R378): the record is sealed
  (∀ (matches_ : Bool) (c : JCur) (s : State), s.boot.cur = some c ∧ c.reading = true ∧ c.who = .none → matches_ = true → s.boot.policies = [] ∧ s.boot.queue = [] → ∃ t, exec (.recordReadback matches_) s = .next t ∧ t.boot.cur = none ∧ t.get BOOT.JSEQ.SEQ = c.recd.seq % 2 ^ 64) ∧
  -- COMPACTION_START (R380): the other half is to be erased
  (∀ (s : State), hiwat s ≤ s.get BOOT.JSTAT.FILL → s.get BOOT.JSTAT.COMPACT = 0 ∧ sealedOff s = false ∧ (activeHalf s).header.isSome = true → s.boot.halfBlank = false → ∃ t, exec (.compactionStart) s = .next t ∧ t.get BOOT.JSTAT.COMPACT = 1 ∧ t.boot.eraseLeft = max 1 (s.boot.flash.halfPages / 256)) ∧
  -- COMPACT (R380): the other half is to be erased
  (∀ (v : Word) (s : State), served s (BOOT.CTL.COMPACT.base / 8) = true → bitsOf v.toNat 0 3 = 4 → s.get BOOT.JSTAT.COMPACT = 0 ∧ sealedOff s = false ∧ (activeHalf s).header.isSome = true → s.boot.halfBlank = false → ∃ t, exec (.compact v) s = .next t ∧ t.get BOOT.JSTAT.COMPACT = 1 ∧ t.boot.eraseLeft = max 1 (s.boot.flash.halfPages / 256)) ∧
  -- COMPACTION_SWITCH (R380): the other half is the journal
  (∀ (c : Compaction) (s : State), s.boot.comp = some c → s.boot.cur = none ∧ sealedOff s = false → s.get BOOT.JSTAT.COMPACT = 2 → s.boot.unapplied.any (fun q => decide (q ≤ c.cut)) = false → ∃ t, exec (.compactionSwitch) s = .next t ∧ t.boot.comp = none ∧ t.get BOOT.JSTAT.COMPACT = 4) ∧
  -- PWRFAIL (R382): nothing more is taken into the journal
  (∀ (s : State), s.boot.pwrfail = false → ∃ t, exec (.pwrfail) s = .next t ∧ t.boot.pwrfail = true ∧ t.boot.queue = []) ∧
  -- SEAL_RELEASE (R382): the journal is open again
  (∀ (s : State), s.on BOOT.STAT.SEALED = true ∧ s.get BOOT.STAT.PHASE = 8 → s.boot.unapplied = [] ∧ s.bind.mig0 = none ∧ s.bind.mig1 = none ∧ s.boot.update = none → s.get BOOT.JSTAT.COMPACT = 0 → ∃ t, exec (.sealRelease) s = .next t ∧ t = ({ s with boot := { s.boot with pwrfail := false } }).set BOOT.STAT.SEALED 0) ∧
  -- POLICY_SUBMIT (R383): a policy of one word is submitted
  (∀ (v : Word) (s : State), served s (BOOT.POLCTL.CNT.base / 8) = true → s.on BOOT.POLSTAT.BUSY = false → bitOf v.toNat 7 = true ∧ bitsOf v.toNat 0 7 = 1 → policyOffset (s.get BOOT.POL.OFFSET 0) = true → (request (.policy [(s.get BOOT.POL.OFFSET 0, s.get BOOT.POL.VALUE 0)]) [] .policy (s.set BOOT.POLCTL.CNT 1)).1 = .taken → ∃ t, exec (.policySubmit v) s = .next t ∧ t.get BOOT.POLCTL.CNT = 1 ∧ t.get BOOT.POLSTAT.BUSY = 1 ∧ t.boot.policies = [(s.get BOOT.POL.OFFSET 0, s.get BOOT.POL.VALUE 0)]) ∧
  -- UPDATE (R384): a valid image is being programmed
  (∀ (v : Word) (img : Image) (s : State), served s (BOOT.UPDCTL.GO.base / 8) = true → bitOf v.toNat 1 = true → s.on BOOT.UPDSTAT.BUSY = false ∧ s.get BOOT.JSTAT.COMPACT ≠ 3 ∧ sealedOff s = false → s.get BOOT.UPDLEN.LEN ≤ slotBytes (bitOf v.toNat 0) ∧ img.len ≤ slotBytes (bitOf v.toNat 0) → s.boot.flash.answers = true ∧ s.boot.flash.desc.isSome = true → imageCheck (!bitOf v.toNat 0) (s.get BOOT.SECVER.SECVER) img (s.setB BOOT.UPDCTL.TARGET (bitOf v.toNat 0)) = 0 → ∃ t, exec (.update v img) s = .next t ∧ t.get BOOT.UPDSTAT.BUSY = 1 ∧ t.get BOOT.UPDSTAT.RESULT = 0 ∧ t.boot.update = some (bitOf v.toNat 0, img)) ∧
  -- UPDATE_DONE (R384): the update is done
  (∀ (ok : Bool) (cfg : Bool) (i : Image) (s : State), s.boot.update = some (cfg, i) → sealedOff s = false → ok = true → ∃ t, exec (.updateDone ok) s = .next t ∧ t.boot.update = none ∧ t.get BOOT.UPDSTAT.BUSY = 0 ∧ t.get BOOT.UPDSTAT.RESULT = 0) ∧
  -- BLOCK_ERASE_DONE (R380): the block is erased
  (∀ (s : State), s.boot.eraseLeft ≠ 0 → sealedOff s = false → ∃ t, exec (.blockEraseDone) s = .next t ∧ t.boot.eraseLeft = s.boot.eraseLeft - 1)

/-- What the commands of 20_test_and_perturbation.md do (R442, R444, R445, R446, R449). Each clause gives one command a case in which it has its own effect, and what the next state then holds. -/
def Obligations.TestEffects : Prop :=
  -- EXTEST (R442): the instruction is selected
  (∀ (s : State), ∃ t, exec (.extest) s = .next t ∧ t.mgmt.jtag = 0) ∧
  -- IDCODE (R442): the instruction is selected and the identity shifted out
  (∀ (s : State), ∃ t, exec (.idcode) s = .next t ∧ t.mgmt.jtag = 1 ∧ t.out.getLast?.isSome = true) ∧
  -- SAMPLE_PRELOAD (R442): the instruction is selected
  (∀ (s : State), ∃ t, exec (.samplePreload) s = .next t ∧ t.mgmt.jtag = 2) ∧
  -- CLAMP (R442): the instruction is selected
  (∀ (s : State), ∃ t, exec (.clamp) s = .next t ∧ t.mgmt.jtag = 3) ∧
  -- HIGHZ (R442): the instruction is selected
  (∀ (s : State), ∃ t, exec (.highz) s = .next t ∧ t.mgmt.jtag = 4) ∧
  -- EXTEST_PULSE (R442): the instruction is selected
  (∀ (s : State), ∃ t, exec (.extestPulse) s = .next t ∧ t.mgmt.jtag = 5) ∧
  -- EXTEST_TRAIN (R442): the instruction is selected
  (∀ (s : State), ∃ t, exec (.extestTrain) s = .next t ∧ t.mgmt.jtag = 6) ∧
  -- BYPASS (R442): the instruction is selected
  (∀ (s : State), ∃ t, exec (.bypass) s = .next t ∧ t.mgmt.jtag = 255) ∧
  -- JTAG_DESELECT (R444): the instruction is selected
  (∀ (s : State), ∃ t, exec (.jtagDeselect) s = .next t ∧ t.mgmt.jtag = 1) ∧
  -- LOOPBACK_NEAR (R445): the loopback is on
  (∀ (u : Fin 41) (v : Word) (s : State), served s (TST.LB.CTL.MODE.base / 8) = true → tstLive s = true → bitsOf v.toNat 0 2 = 1 ∧ s.get TST.LB.CTL.MODE u = 0 → lbMode s u 1 (bitsOf v.toNat 8 16) = true → patBad s u (bitsOf v.toNat 2 4) (bitOf v.toNat 6 || bitOf v.toNat 7) = false → ∃ t, exec (.loopbackNear u v) s = .next t ∧ t.get TST.LB.CTL.MODE u = 1 ∧ t.get TST.LB.CTL.LANES u = bitsOf v.toNat 8 16) ∧
  -- LOOPBACK_FAR (R445): the loopback is on
  (∀ (u : Fin 41) (v : Word) (s : State), served s (TST.LB.CTL.MODE.base / 8) = true → tstLive s = true → bitsOf v.toNat 0 2 = 2 ∧ s.get TST.LB.CTL.MODE u = 0 → lbMode s u 2 (bitsOf v.toNat 8 16) = true → patBad s u (bitsOf v.toNat 2 4) (bitOf v.toNat 6 || bitOf v.toNat 7) = false → ∃ t, exec (.loopbackFar u v) s = .next t ∧ t.get TST.LB.CTL.MODE u = 2 ∧ t.get TST.LB.CTL.LANES u = bitsOf v.toNat 8 16) ∧
  -- LOOPBACK_LEAD (R445): the loopback is on
  (∀ (u : Fin 41) (v : Word) (s : State), served s (TST.LB.CTL.MODE.base / 8) = true → tstLive s = true → bitsOf v.toNat 0 2 = 3 ∧ s.get TST.LB.CTL.MODE u = 0 → lbMode s u 3 (bitsOf v.toNat 8 16) = true → patBad s u (bitsOf v.toNat 2 4) (bitOf v.toNat 6 || bitOf v.toNat 7) = false → ∃ t, exec (.loopbackLead u v) s = .next t ∧ t.get TST.LB.CTL.MODE u = 3 ∧ t.get TST.LB.CTL.LANES u = bitsOf v.toNat 8 16) ∧
  -- PATTERN_CONTROL (R446): the pattern is set
  (∀ (u : Fin 41) (v : Word) (s : State), served s (TST.LB.CTL.GEN.base / 8) = true → tstLive s = true → bitsOf v.toNat 0 2 = s.get TST.LB.CTL.MODE u ∧ s.get TST.LB.CTL.MODE u ≠ 3 → patBad s u (bitsOf v.toNat 2 4) (bitOf v.toNat 6 || bitOf v.toNat 7) = false → ∃ t, exec (.patternControl u v) s = .next t ∧ t.get TST.LB.CTL.PAT u = bitsOf v.toNat 2 4 ∧ t.get TST.LB.CTL.GEN u = bitsOf v.toNat 6 1 ∧ t.get TST.LB.CTL.CHK u = bitsOf v.toNat 7 1) ∧
  -- INJECT_ARM (R449): the injection is armed
  (∀ (v : Word) (s : State), served s (TST.INJCTL.ARM.base / 8) = true → tstLive s = true ∧ bitOf v.toNat 30 = true → injRefused s (bitsOf v.toNat 0 4) (bitsOf v.toNat 4 7) (bitsOf v.toNat 11 2) (bitsOf v.toNat 13 8) = false → ∃ t, exec (.injectArm v) s = .next t ∧ t.get TST.INJSTAT.BUSY = 1 ∧ t.get TST.INJSTAT.FIRED = 0 ∧ t.mgmt.injAt = none) ∧
  -- PATTERN_CHECK_LOCK (R446): the checker's lock shows
  (∀ (u : Fin 41) (l : Fin 16) (lock : Bool) (s : State), tstLive s = true → s.on TST.LB.CTL.CHK u = true → bitOf (s.get TST.LB.CTL.LANES u) l = true → ∃ t, exec (.patternCheckLock u l lock) s = .next t ∧ t.on TST.LB.ERR.LOCK u l = lock)

/-- The frame of the commands of 19_register_map.md: what each leaves as it was. Every register field outside the list reads as before in every instance, every other part of the state outside the list is the same, and so is the queue. GCTL_RST, GCTL_BRST may write every register and have no frame here. -/
def Obligations.RegisterMapFrame : Prop :=
  (∀ (m : Master) (write : Bool) (addr : BitVec 28) (s₀ s₁ : State), exec (.badFormAccess m write addr) s₀ = .next s₁ → onlyWrites (eventFields ++ [FLT.STALENOC.COUNT, GCTL.ESTAT.ACCESS, NOC.ESTAT.STALE]) [.out, .evt] s₀ s₁)

/-- The frame of the commands of 01_architecture.md: what each leaves as it was. Every register field outside the list reads as before in every instance, every other part of the state outside the list is the same, and so is the queue. -/
def Obligations.ArchitectureFrame : Prop :=
  (∀ (v : Word) (s₀ s₁ : State), exec (.assistWrite v) s₀ = .next s₁ → onlyWrites (eventFields ++ tabFLT ++ tabSLOT ++ tabCOL ++ tabBIND ++ tabFRAME ++ tabSUM ++ [GCTL.ASSIST.MODE, GCTL.ASTAT.HELD, NOC.PD.STAT.STATE, NOC.PD.STAT.HELD, NOC.PD.STAT.ABORTS, SEC.ROT.RSTAT.PHASE, SEC.ROT.RSTAT.RESULT, PERF.ESTAT.OVF, PERF.TSMISS.COUNT, PERF.CNT.SEL.OVF, PERF.CNT.VALUE.COUNT, PERF.CNT.VALUE.OVF, PORT.TAGSTAT.IN_USE, PORT.TAGSTAT.PEAK, HOME.STAT.CQ_HELD, HOME.ESTAT.HMAP_MISS, HOME.SPARESTAT.USED, HOME.SPARESTAT.NONE, HOME.RFSTAT.HELD, FRAME.XP.BUFSTAT.DED, FRAME.XP.BUFSTAT.SHR, TST.INJSTAT.BUSY, TST.INJSTAT.FIRED]) [.out, .free, .evt, .flt, .decs, .cols, .ports, .frame, .bind, .homes, .homeG, .sec, .mgmt, .boot, .sum, .perf, .die, .blks, .blkG] s₀ s₁) ∧
  (∀ (decid : BitVec 16) (s₀ s₁ : State), exec (.decisionTimeout decid) s₀ = .next s₁ → onlyWrites (eventFields ++ tabFLT ++ tabSLOT ++ tabCOL ++ tabBIND ++ tabFRAME ++ tabSUM ++ [GCTL.ASTAT.HELD, NOC.PD.STAT.STATE, NOC.PD.STAT.HELD, NOC.PD.STAT.ABORTS, SEC.ROT.RSTAT.PHASE, SEC.ROT.RSTAT.RESULT, PERF.ESTAT.OVF, PERF.TSMISS.COUNT, PERF.CNT.SEL.OVF, PERF.CNT.VALUE.COUNT, PERF.CNT.VALUE.OVF, PORT.TAGSTAT.IN_USE, PORT.TAGSTAT.PEAK, HOME.STAT.CQ_HELD, HOME.ESTAT.HMAP_MISS, HOME.SPARESTAT.USED, HOME.SPARESTAT.NONE, HOME.RFSTAT.HELD, FRAME.XP.BUFSTAT.DED, FRAME.XP.BUFSTAT.SHR, TST.INJSTAT.BUSY, TST.INJSTAT.FIRED]) [.now, .out, .free, .evt, .flt, .decs, .cols, .ports, .frame, .bind, .homes, .homeG, .sec, .mgmt, .boot, .sum, .perf, .die, .blks, .blkG] s₀ s₁) ∧
  (∀ (s₀ s₁ : State), exec (.fmPortLinkDown) s₀ = .next s₁ → onlyWrites (eventFields ++ tabFLT ++ tabSLOT ++ tabCOL ++ tabBIND ++ tabFRAME ++ tabSUM ++ [GCTL.ASTAT.HELD, NOC.PD.STAT.STATE, NOC.PD.STAT.HELD, NOC.PD.STAT.ABORTS, SEC.ROT.RSTAT.PHASE, SEC.ROT.RSTAT.RESULT, PERF.ESTAT.OVF, PERF.TSMISS.COUNT, PERF.CNT.SEL.OVF, PERF.CNT.VALUE.COUNT, PERF.CNT.VALUE.OVF, PORT.TAGSTAT.IN_USE, PORT.TAGSTAT.PEAK, HOME.STAT.CQ_HELD, HOME.ESTAT.HMAP_MISS, HOME.SPARESTAT.USED, HOME.SPARESTAT.NONE, HOME.RFSTAT.HELD, FRAME.XP.BUFSTAT.DED, FRAME.XP.BUFSTAT.SHR, TST.INJSTAT.BUSY, TST.INJSTAT.FIRED]) [.out, .free, .evt, .flt, .decs, .fmUp, .cols, .ports, .frame, .bind, .homes, .homeG, .sec, .mgmt, .boot, .sum, .perf, .die, .blks, .blkG] s₀ s₁)

/-- The frame of the commands of 17_management_time_and_domains.md: what each leaves as it was. Every register field outside the list reads as before in every instance, every other part of the state outside the list is the same, and so is the queue. DOMAIN_ON may write every register and have no frame here. -/
def Obligations.ManagementFrame : Prop :=
  (∀ (s₀ s₁ : State), exec (.mctpSessionExpiry) s₀ = .next s₁ → onlyWrites (eventFields ++ tabFLT ++ tabSLOT ++ tabCOL ++ tabBIND ++ tabFRAME ++ tabSUM ++ [GCTL.ASTAT.HELD, NOC.PD.STAT.STATE, NOC.PD.STAT.HELD, NOC.PD.STAT.ABORTS, SEC.ROT.RSTAT.PHASE, SEC.ROT.RSTAT.RESULT, PERF.ESTAT.OVF, PERF.TSMISS.COUNT, PERF.CNT.SEL.OVF, PERF.CNT.VALUE.COUNT, PERF.CNT.VALUE.OVF, PORT.TAGSTAT.IN_USE, PORT.TAGSTAT.PEAK, HOME.STAT.CQ_HELD, HOME.ESTAT.HMAP_MISS, HOME.SPARESTAT.USED, HOME.SPARESTAT.NONE, HOME.RFSTAT.HELD, FRAME.XP.BUFSTAT.DED, FRAME.XP.BUFSTAT.SHR, TST.INJSTAT.BUSY, TST.INJSTAT.FIRED]) [.now, .out, .free, .evt, .flt, .decs, .mctpOpen, .cols, .ports, .frame, .bind, .homes, .homeG, .sec, .mgmt, .boot, .sum, .perf, .die, .blks, .blkG] s₀ s₁) ∧
  (∀ (c : FmApi) (s₀ s₁ : State), exec (.fmApiCommand c) s₀ = .next s₁ → onlyWrites (eventFields ++ [PERF.ESTAT.OVF, PERF.CNT.SEL.OVF, PERF.CNT.VALUE.COUNT, PERF.CNT.VALUE.OVF]) [.out, .evt, .perf] s₀ s₁) ∧
  (∀ (d : Decide) (s₀ s₁ : State), exec (.dirQueue d) s₀ = .next s₁ → onlyWrites (eventFields ++ [FLT.STAT.UCHELD, GCTL.ASTAT.HELD, PERF.ESTAT.OVF, PERF.CNT.SEL.OVF, PERF.CNT.VALUE.COUNT, PERF.CNT.VALUE.OVF, HOME.STAT.CQ_HELD]) [.out, .evt, .flt, .decs, .perf] s₀ s₁) ∧
  (∀ (d : Decide) (mask : BitVec 64) (s₀ s₁ : State), exec (.dirThrottle d mask) s₀ = .next s₁ → onlyWrites (eventFields ++ [FLT.STAT.UCHELD, GCTL.ASTAT.HELD, PERF.ESTAT.OVF, PERF.CNT.SEL.OVF, PERF.CNT.VALUE.COUNT, PERF.CNT.VALUE.OVF, HOME.STAT.CQ_HELD]) [.out, .evt, .flt, .decs, .perf, .throttle] s₀ s₁) ∧
  (∀ (d : Decide) (s₀ s₁ : State), exec (.slotGo d) s₀ = .next s₁ → onlyWrites (eventFields ++ [FLT.STAT.UCHELD, GCTL.ASTAT.HELD, PERF.ESTAT.OVF, PERF.CNT.SEL.OVF, PERF.CNT.VALUE.COUNT, PERF.CNT.VALUE.OVF, SLOT.STAT.STATE, SLOT.STAT.PG, SLOT.STAT.WARN, SLOT.STAT.SEATED, SLOT.STAT.TIMER, SLOT.STAT.RETRY_RUN, SLOT.STAT.RETRIES, SLOT.STAT.LASTTRIP]) [.out, .evt, .flt, .decs, .perf, .die] s₀ s₁) ∧
  (∀ (d : Decide) (s₀ s₁ : State), exec (.slotDeny d) s₀ = .next s₁ → onlyWrites (eventFields ++ [FLT.STAT.UCHELD, GCTL.ASTAT.HELD, PERF.ESTAT.OVF, PERF.CNT.SEL.OVF, PERF.CNT.VALUE.COUNT, PERF.CNT.VALUE.OVF, SLOT.STAT.STATE, SLOT.STAT.PG, SLOT.STAT.WARN, SLOT.STAT.SEATED, SLOT.STAT.TIMER, SLOT.STAT.RETRY_RUN, SLOT.STAT.RETRIES, SLOT.STAT.LASTTRIP]) [.out, .evt, .flt, .decs, .perf, .die] s₀ s₁) ∧
  (∀ (d : Decide) (s₀ s₁ : State), exec (.eqAccept d) s₀ = .next s₁ → onlyWrites (eventFields ++ [FLT.STAT.UCHELD, GCTL.ASTAT.HELD, PERF.ESTAT.OVF, PERF.CNT.SEL.OVF, PERF.CNT.VALUE.COUNT, PERF.CNT.VALUE.OVF, COL.TRN.TRNSTAT.EQ_HELD, COL.LANE.LSTAT.FINAL]) [.out, .evt, .flt, .decs, .ports, .perf] s₀ s₁) ∧
  (∀ (d : Decide) (preset : Fin 256) (s₀ s₁ : State), exec (.eqRedo d preset) s₀ = .next s₁ → onlyWrites (eventFields ++ [FLT.STAT.UCHELD, GCTL.ASTAT.HELD, PERF.ESTAT.OVF, PERF.CNT.SEL.OVF, PERF.CNT.VALUE.COUNT, PERF.CNT.VALUE.OVF, COL.EYESTAT.STATE, COL.TRN.TRNSTAT.LTSSM, COL.TRN.TRNSTAT.EQ_HELD, COL.LANE.LSTAT.LOCK]) [.out, .evt, .flt, .decs, .cols, .ports, .perf] s₀ s₁) ∧
  (∀ (d : Decide) (taps : List (Nat × Nat)) (s₀ s₁ : State), exec (.eqOverride d taps) s₀ = .next s₁ → onlyWrites (eventFields ++ [FLT.STAT.UCHELD, GCTL.ASTAT.HELD, PERF.ESTAT.OVF, PERF.CNT.SEL.OVF, PERF.CNT.VALUE.COUNT, PERF.CNT.VALUE.OVF, COL.TRN.TRNSTAT.EQ_HELD, COL.LANE.LCTL.OVR_EN, COL.LANE.LCTL.OVR_PRE, COL.LANE.LCTL.OVR_POST, COL.LANE.LSTAT.PRE, COL.LANE.LSTAT.MAIN, COL.LANE.LSTAT.POST, COL.LANE.LSTAT.PRESET, COL.LANE.LSTAT.FINAL]) [.out, .evt, .flt, .decs, .cols, .ports, .perf] s₀ s₁) ∧
  (∀ (via : Via) (ld : Nat) (s₀ s₁ : State), exec (.ucRecoverNodec via ld) s₀ = .next s₁ → onlyWrites (eventFields ++ [PERF.ESTAT.OVF, PERF.CNT.SEL.OVF, PERF.CNT.VALUE.COUNT, PERF.CNT.VALUE.OVF, BIND.LD.STATE]) [.out, .evt, .bind, .perf] s₀ s₁) ∧
  (∀ (d : Decide) (s₀ s₁ : State), exec (.ucKeep d) s₀ = .next s₁ → onlyWrites (eventFields ++ [FLT.STAT.UCHELD, GCTL.ASTAT.HELD, PERF.ESTAT.OVF, PERF.CNT.SEL.OVF, PERF.CNT.VALUE.COUNT, PERF.CNT.VALUE.OVF, COL.TRN.TRNSTAT.LTSSM, PORT.STAT.PSTATE, PORT.CTL.DISABLE]) [.out, .evt, .flt, .decs, .perf] s₀ s₁) ∧
  (∀ (d : Decide) (s₀ s₁ : State), exec (.migGo d) s₀ = .next s₁ → onlyWrites (eventFields ++ [FLT.STAT.UCHELD, GCTL.ASTAT.HELD, PERF.ESTAT.OVF, PERF.CNT.SEL.OVF, PERF.CNT.VALUE.COUNT, PERF.CNT.VALUE.OVF, BIND.MIG.MSTAT.PHASE]) [.out, .evt, .flt, .decs, .bind, .perf] s₀ s₁) ∧
  (∀ (d : Decide) (s₀ s₁ : State), exec (.migPass d) s₀ = .next s₁ → onlyWrites (eventFields ++ [FLT.STAT.UCHELD, GCTL.ASTAT.HELD, PERF.ESTAT.OVF, PERF.CNT.SEL.OVF, PERF.CNT.VALUE.COUNT, PERF.CNT.VALUE.OVF, BIND.MIG.MSTAT.PHASE, BIND.MIG.MSTAT.PASS, BIND.MIG.MCURSOR.OFFSET]) [.out, .evt, .flt, .decs, .bind, .boot, .perf] s₀ s₁) ∧
  (∀ (d : Decide) (s₀ s₁ : State), exec (.migAbort d) s₀ = .next s₁ → onlyWrites (eventFields ++ tabACT ++ tabBIND ++ [FLT.STAT.UCHELD, GCTL.ASTAT.HELD, PERF.ESTAT.OVF, PERF.TSMISS.COUNT, PERF.CNT.SEL.OVF, PERF.CNT.VALUE.COUNT, PERF.CNT.VALUE.OVF, PORT.TAGSTAT.IN_USE, PORT.TAGSTAT.PEAK, HOME.ESTAT.HMAP_MISS, HOME.RFSTAT.HELD, FRAME.XP.BUFSTAT.DED, FRAME.XP.BUFSTAT.SHR, TST.INJSTAT.BUSY, TST.INJSTAT.FIRED]) [.out, .free, .evt, .flt, .decs, .ports, .frame, .bind, .homeG, .sec, .mgmt, .boot, .perf, .blkG] s₀ s₁) ∧
  (∀ (d : Decide) (s₀ s₁ : State), exec (.spareGo d) s₀ = .next s₁ → onlyWrites (eventFields ++ tabFLT ++ tabFRAME ++ [GCTL.ASTAT.HELD, NOC.PD.STAT.STATE, NOC.PD.STAT.HELD, NOC.PD.STAT.ABORTS, PERF.ESTAT.OVF, PERF.CNT.SEL.OVF, PERF.CNT.VALUE.COUNT, PERF.CNT.VALUE.OVF, HOME.SPARESTAT.USED, HOME.SPARESTAT.NONE, TST.INJSTAT.BUSY]) [.out, .evt, .flt, .decs, .frame, .homes, .mgmt, .boot, .perf, .blks] s₀ s₁) ∧
  (∀ (d : Decide) (s₀ s₁ : State), exec (.spareHold d) s₀ = .next s₁ → onlyWrites (eventFields ++ [FLT.STAT.UCHELD, GCTL.ASTAT.HELD, PERF.ESTAT.OVF, PERF.CNT.SEL.OVF, PERF.CNT.VALUE.COUNT, PERF.CNT.VALUE.OVF, FRAME.PLANEERR.COUNT]) [.out, .evt, .flt, .decs, .homes, .perf, .blks] s₀ s₁) ∧
  (∀ (d : Decide) (s₀ s₁ : State), exec (.rotGo d) s₀ = .next s₁ → onlyWrites (eventFields ++ [FLT.STAT.UCHELD, GCTL.ASTAT.HELD, SEC.ROT.RSTAT.PHASE, SEC.ROT.RSTAT.RESULT, PERF.ESTAT.OVF, PERF.CNT.SEL.OVF, PERF.CNT.VALUE.COUNT, PERF.CNT.VALUE.OVF]) [.out, .evt, .flt, .decs, .sec, .boot, .perf] s₀ s₁) ∧
  (∀ (d : Decide) (time : BitVec 64) (s₀ s₁ : State), exec (.rotDefer d time) s₀ = .next s₁ → onlyWrites (eventFields ++ [FLT.STAT.UCHELD, GCTL.ASTAT.HELD, SEC.ROT.RSTAT.PHASE, SEC.ROT.RTIME.TIME, PERF.ESTAT.OVF, PERF.CNT.SEL.OVF, PERF.CNT.VALUE.COUNT, PERF.CNT.VALUE.OVF]) [.out, .evt, .flt, .decs, .perf] s₀ s₁) ∧
  (∀ (d : Decide) (s₀ s₁ : State), exec (.rotCancel d) s₀ = .next s₁ → onlyWrites (eventFields ++ [FLT.STAT.UCHELD, GCTL.ASTAT.HELD, SEC.ROT.RSTAT.PHASE, SEC.ROT.RSTAT.RESULT, PERF.ESTAT.OVF, PERF.CNT.SEL.OVF, PERF.CNT.VALUE.COUNT, PERF.CNT.VALUE.OVF]) [.out, .evt, .flt, .decs, .sec, .perf] s₀ s₁) ∧
  (∀ (d : Decide) (us : Nat) (s₀ s₁ : State), exec (.sumExtend d us) s₀ = .next s₁ → onlyWrites (eventFields ++ [FLT.STAT.UCHELD, GCTL.ASTAT.HELD, PERF.ESTAT.OVF, PERF.CNT.SEL.OVF, PERF.CNT.VALUE.COUNT, PERF.CNT.VALUE.OVF, SUM.WIN.STATE, SUM.WIN.LASTERR, SUM.WIN.ARRIVED, SUM.WIN.GEN, SUM.WIN.REG, SUM.WIN.LOSTCNT, SUM.WIN.QUARTERS]) [.out, .evt, .flt, .decs, .sum, .perf] s₀ s₁) ∧
  (∀ (d : Decide) (s₀ s₁ : State), exec (.sumPublish d) s₀ = .next s₁ → onlyWrites (eventFields ++ tabBIND ++ tabSUM ++ [FLT.STAT.UCHELD, GCTL.ASTAT.HELD, PERF.ESTAT.OVF, PERF.TSMISS.COUNT, PERF.CNT.SEL.OVF, PERF.CNT.VALUE.COUNT, PERF.CNT.VALUE.OVF, PORT.TAGSTAT.IN_USE, PORT.TAGSTAT.PEAK, HOME.ESTAT.HMAP_MISS, HOME.RFSTAT.HELD, FRAME.XP.BUFSTAT.DED, FRAME.XP.BUFSTAT.SHR, TST.INJSTAT.BUSY, TST.INJSTAT.FIRED]) [.out, .free, .evt, .flt, .decs, .ports, .frame, .bind, .homeG, .sec, .mgmt, .boot, .sum, .perf, .blkG] s₀ s₁) ∧
  (∀ (d : Decide) (s₀ s₁ : State), exec (.sumAbort d) s₀ = .next s₁ → onlyWrites (eventFields ++ [FLT.STAT.UCHELD, GCTL.ASTAT.HELD, PERF.ESTAT.OVF, PERF.CNT.SEL.OVF, PERF.CNT.VALUE.COUNT, PERF.CNT.VALUE.OVF, FRAME.XP.BUFSTAT.DED, FRAME.XP.BUFSTAT.SHR, SUM.STAT.BUSYWIN, SUM.STAT.QUSE, SUM.ABORTCNT.COUNT, SUM.WIN.STATE, SUM.WIN.LASTERR, SUM.WIN.ARRIVED, SUM.WIN.GEN, SUM.WIN.REG, SUM.WIN.LOSTCNT, SUM.WIN.QUARTERS, TST.INJSTAT.BUSY, TST.INJSTAT.FIRED]) [.out, .evt, .flt, .decs, .frame, .mgmt, .sum, .perf] s₀ s₁) ∧
  (∀ (via : Via) (hash : BitVec 384) (fuseOk : Bool) (s₀ s₁ : State), exec (.ownerKeySet via hash fuseOk) s₀ = .next s₁ → onlyWrites (eventFields ++ [SEC.LCSTAT.SEALGEN, SEC.LCSTAT.OWNER, SEC.FUSESH.WORD, PERF.ESTAT.OVF, PERF.CNT.SEL.OVF, PERF.CNT.VALUE.COUNT, PERF.CNT.VALUE.OVF]) [.out, .fuses, .evt, .flt, .perf] s₀ s₁) ∧
  (∀ (fmApi : Bool) (s₀ s₁ : State), exec (.mctpMessage fmApi) s₀ = .next s₁ → onlyWrites ([]) [.mctpOpen, .mgmt] s₀ s₁) ∧
  (∀ (r : Fin 36) (q : NocRequest) (s₀ s₁ : State), exec (.nocRequestInject r q) s₀ = .next s₁ → onlyWrites (eventFields ++ [FLT.STALENOC.COUNT, NOC.ESTAT.STALE, PERF.ESTAT.OVF, PERF.CNT.SEL.OVF, PERF.CNT.VALUE.COUNT, PERF.CNT.VALUE.OVF]) [.out, .evt, .mgmt, .perf] s₀ s₁) ∧
  (∀ (crossing : Fin 256) (unit : ErrRec) (s₀ s₁ : State), exec (.cdcOverrun crossing unit) s₀ = .next s₁ → onlyWrites (eventFields ++ [NOC.ESTAT.CDC_OVR, NOC.CDCSTAT.FIRST, NOC.CDCSTAT.COUNT]) [.evt, .flt] s₀ s₁) ∧
  (∀ (d : Fin 13) (s₀ s₁ : State), exec (.powerDownStart d) s₀ = .next s₁ → onlyWrites (eventFields ++ [NOC.PD.STAT.STATE]) [.evt] s₀ s₁) ∧
  (∀ (d : Fin 13) (s₀ s₁ : State), exec (.powerDownAbort d) s₀ = .next s₁ → onlyWrites (eventFields ++ [NOC.PD.STAT.STATE, NOC.PD.STAT.HELD, NOC.PD.STAT.ABORTS]) [.evt, .mgmt] s₀ s₁) ∧
  (∀ (d : Fin 13) (s₀ s₁ : State), exec (.pointOfNoReturn d) s₀ = .next s₁ → onlyWrites (eventFields ++ [NOC.PD.STAT.STATE, NOC.PD.STAT.HELD]) [.evt, .mgmt] s₀ s₁) ∧
  (∀ (d : Fin 13) (s₀ s₁ : State), exec (.minOffExpiry d) s₀ = .next s₁ → onlyWrites (eventFields ++ [NOC.PD.STAT.STATE]) [.now, .evt] s₀ s₁) ∧
  (∀ (d : Fin 13) (v : Word) (s₀ s₁ : State), exec (.domainWake d v) s₀ = .next s₁ → onlyWrites (eventFields ++ [NOC.PD.CTL.AUTO, NOC.PD.CTL.IDLE, NOC.PD.STAT.STATE, NOC.PD.STAT.HELD, NOC.PD.STAT.ABORTS]) [.evt, .mgmt] s₀ s₁) ∧
  (∀ (pps : Bool) (s₀ s₁ : State), exec (.trefLoss pps) s₀ = .next s₁ → onlyWrites (eventFields ++ [TIME.STAT.STATE, TIME.STAT.TREF_OK, TIME.STAT.PPS_OK]) [.free, .evt, .mgmt] s₀ s₁) ∧
  (∀ (s₀ s₁ : State), exec (.trefLock) s₀ = .next s₁ → onlyWrites (eventFields ++ [TIME.STAT.STATE, TIME.STAT.TREF_OK]) [.free, .evt, .mgmt] s₀ s₁) ∧
  (∀ (second : Nat) (s₀ s₁ : State), exec (.ppsEdge second) s₀ = .next s₁ → onlyWrites (eventFields ++ [TIME.STAT.STATE, TIME.STAT.PPS_OK, TIME.STAT.STEPPED, FRAME.EG.ESTAT.TIME_STEP, FRAME.EG.GCLSTAT.RUN, FRAME.EG.GCLSTAT.LIST, FRAME.EG.GCLSTAT.PENDING, FRAME.EG.GCLSTAT.ENTRY, FRAME.EG.GCLSTAT.CLOSED_TC]) [.now, .free, .evt, .egs, .mgmt] s₀ s₁) ∧
  (∀ (v : Word) (s₀ s₁ : State), exec (.timeStep v) s₀ = .next s₁ → onlyWrites (eventFields ++ [TIME.CTL.TREF_EN, TIME.CTL.PPS_EN, TIME.CTL.PPSOUT_EN, TIME.CTL.STEPTHR, TIME.STAT.STATE, TIME.STAT.STEPPED, TIME.STAT.SET_ERR, FRAME.EG.ESTAT.TIME_STEP, FRAME.EG.GCLSTAT.RUN, FRAME.EG.GCLSTAT.LIST, FRAME.EG.GCLSTAT.PENDING, FRAME.EG.GCLSTAT.ENTRY, FRAME.EG.GCLSTAT.CLOSED_TC]) [.now, .free, .evt, .egs, .mgmt] s₀ s₁) ∧
  (∀ (v : Word) (s₀ s₁ : State), exec (.timeSlew v) s₀ = .next s₁ → onlyWrites (eventFields ++ [TIME.CTL.TREF_EN, TIME.CTL.PPS_EN, TIME.CTL.PPSOUT_EN, TIME.CTL.STEPTHR, TIME.STAT.STATE, TIME.STAT.STEPPED, TIME.STAT.SET_ERR, FRAME.EG.ESTAT.TIME_STEP, FRAME.EG.GCLSTAT.RUN, FRAME.EG.GCLSTAT.LIST, FRAME.EG.GCLSTAT.PENDING, FRAME.EG.GCLSTAT.ENTRY, FRAME.EG.GCLSTAT.CLOSED_TC]) [.now, .free, .evt, .egs, .mgmt] s₀ s₁) ∧
  (∀ (s₀ s₁ : State), exec (.ppsOutSecond) s₀ = .next s₁ → onlyWrites ([]) [.now, .out, .mgmt] s₀ s₁) ∧
  (∀ (p : PortId) (s₀ s₁ : State), exec (.ptmRequest p) s₀ = .next s₁ → onlyWrites ([]) [.out] s₀ s₁)

/-- The frame of the commands of 02_lane_columns.md: what each leaves as it was. Every register field outside the list reads as before in every instance, every other part of the state outside the list is the same, and so is the queue. -/
def Obligations.ColumnsFrame : Prop :=
  (∀ (c : ColId) (v : Word) (s₀ s₁ : State), exec (.colApply c v) s₀ = .next s₁ → onlyWrites (eventFields ++ [COL.CFG.BIFUR, COL.CFG.CSLEEP_EN, COL.CFG.MAXRATE, COL.CFG.PRECODE, COL.STAT.CSTATE, COL.STAT.PLL_LOCK, COL.STAT.CFG_ERR, COL.STAT.BORROWED, COL.TRN.TRNSTAT.LTSSM, PORT.STAT.PSTATE]) [.evt, .cols] s₀ s₁) ∧
  (∀ (c : ColId) (l : LaneSymbol) (s₀ s₁ : State), exec (.receiveSymbolError c l) s₀ = .next s₁ → onlyWrites (eventFields ++ [PERF.ESTAT.OVF, PERF.CNT.SEL.OVF, PERF.CNT.VALUE.COUNT, PERF.CNT.VALUE.OVF, COL.LANE.LERR.CODE_ERR]) [.out, .evt, .ports, .perf] s₀ s₁) ∧
  (∀ (c : ColId) (l : Fin 16) (s₀ s₁ : State), exec (.elasticBufferOverrun c l) s₀ = .next s₁ → onlyWrites (eventFields ++ [PERF.ESTAT.OVF, PERF.CNT.SEL.OVF, PERF.CNT.VALUE.COUNT, PERF.CNT.VALUE.OVF, COL.LANE.LERR.CODE_ERR]) [.out, .evt, .ports, .perf] s₀ s₁) ∧
  (∀ (c : ColId) (l : Fin 16) (r : CoeffReq) (s₀ s₁ : State), exec (.coeffRequest c l r) s₀ = .next s₁ → onlyWrites ([COL.LANE.LSTAT.PRE, COL.LANE.LSTAT.MAIN, COL.LANE.LSTAT.POST, COL.LANE.LSTAT.PRESET]) [.out] s₀ s₁) ∧
  (∀ (c : ColId) (l : Fin 16) (v : Word) (s₀ s₁ : State), exec (.ovrApply c l v) s₀ = .next s₁ → onlyWrites ([COL.LANE.LCTL.POL_FORCE, COL.LANE.LCTL.OVR_EN, COL.LANE.LCTL.OVR_PRE, COL.LANE.LCTL.OVR_POST, COL.LANE.LCTL.OVR_ERR, COL.LANE.LSTAT.PRE, COL.LANE.LSTAT.MAIN, COL.LANE.LSTAT.POST, COL.LANE.LSTAT.PRESET]) [.cols] s₀ s₁) ∧
  (∀ (c : ColId) (v : Word) (s₀ s₁ : State), exec (.eyeScanStart c v) s₀ = .next s₁ → onlyWrites ([COL.EYECTL.LANE, COL.EYECTL.EYE, COL.EYECTL.DWELL, COL.EYECTL.TDEC, COL.EYECTL.VDEC, COL.EYESTAT.STATE, COL.EYESTAT.POINTS, COL.EYEDATA.VALID]) [.cols] s₀ s₁) ∧
  (∀ (c : ColId) (v : Word) (s₀ s₁ : State), exec (.eyeScanAbort c v) s₀ = .next s₁ → onlyWrites ([COL.EYESTAT.STATE]) [.cols] s₀ s₁) ∧
  (∀ (c : ColId) (mismatches : Nat) (s₀ s₁ : State), exec (.eyePointDone c mismatches) s₀ = .next s₁ → onlyWrites (eventFields ++ [PERF.ESTAT.OVF, PERF.CNT.SEL.OVF, PERF.CNT.VALUE.COUNT, PERF.CNT.VALUE.OVF, COL.EYESTAT.STATE, COL.EYESTAT.POINTS, COL.EYEDATA.COUNT, COL.EYEDATA.SAT, COL.EYEDATA.VALID]) [.evt, .cols, .perf] s₀ s₁) ∧
  (∀ (c : ColId) (l : Fin 16) (m : MarginCmd) (s₀ s₁ : State), exec (.marginCommand c l m) s₀ = .next s₁ → onlyWrites ([COL.EYESTAT.STATE]) [.out, .free, .cols] s₀ s₁) ∧
  (∀ (p : PortId) (e : EqDone) (s₀ s₁ : State), exec (.eqComplete p e) s₀ = .next s₁ → onlyWrites ([COL.EYESTAT.STATE, COL.TRN.TRNSTAT.LTSSM, COL.TRN.TRNSTAT.RATE, COL.LANE.LSTAT.PRE, COL.LANE.LSTAT.MAIN, COL.LANE.LSTAT.POST, COL.LANE.LSTAT.PRESET, COL.LANE.LSTAT.LOCK, COL.LANE.RXEQ.CTLE, COL.LANE.RXEQ.DFE1, COL.LANE.RXEQ.ADAPT, FRAME.EG.SCHSTAT.UNIT_PS, FRAME.EG.SCHSTAT.U]) [.out, .free, .cols, .ports] s₀ s₁) ∧
  (∀ (p : PortId) (rate : Fin 6) (s₀ s₁ : State), exec (.eqFail p rate) s₀ = .next s₁ → onlyWrites ([COL.TRN.TRNSTAT.LTSSM, COL.TRN.TRNSTAT.RATE]) [.flt, .ports] s₀ s₁) ∧
  (∀ (p : PortId) (eyes : List EyeResult) (s₀ s₁ : State), exec (.quickEyeDone p eyes) s₀ = .next s₁ → onlyWrites (eventFields ++ [FLT.STAT.UCHELD, GCTL.ASTAT.HELD, GCTL.ASTAT.LASTDEC, PERF.ESTAT.OVF, PERF.CNT.SEL.OVF, PERF.CNT.VALUE.COUNT, PERF.CNT.VALUE.OVF, COL.EYESTAT.STATE, COL.TRN.TRNSTAT.LTSSM, COL.TRN.TRNSTAT.EQ_HELD, COL.LANE.LSTAT.PRE, COL.LANE.LSTAT.MAIN, COL.LANE.LSTAT.POST, COL.LANE.LSTAT.PRESET, COL.LANE.LSTAT.LOCK, COL.LANE.LSTAT.FINAL, COL.LANE.QEYE.WIDTH, COL.LANE.QEYE.HEIGHT, COL.LANE.QEYE.EYE_WORST, COL.LANE.QEYE.VALID]) [.out, .evt, .flt, .decs, .nextDec, .cols, .ports, .perf] s₀ s₁) ∧
  (∀ (p : PortId) (s₀ s₁ : State), exec (.trainingAttemptFail p) s₀ = .next s₁ → onlyWrites (eventFields ++ tabCOL ++ [PORT.STAT.PSTATE]) [.evt, .cols, .ports] s₀ s₁) ∧
  (∀ (p : PortId) (s₀ s₁ : State), exec (.retryIntervalExpiry p) s₀ = .next s₁ → onlyWrites (eventFields ++ [COL.STAT.CSTATE, COL.TRN.TRNSTAT.LTSSM, PORT.STAT.PSTATE]) [.evt, .cols, .ports] s₀ s₁) ∧
  (∀ (c : ColId) (k : Fin 4) (v : Word) (s₀ s₁ : State), exec (.retrain c k v) s₀ = .next s₁ → onlyWrites (eventFields ++ tabACT ++ tabCOL ++ tabPORT ++ tabBIND ++ tabHOME ++ tabSUM ++ tabFN ++ [FLT.STAT.UCHELD, GCTL.ASTAT.HELD, GCTL.ASTAT.LASTDEC, SEC.ROT.RSTAT.PHASE, SEC.ROT.RCURSOR.OFFSET, SEC.LDKEY.ROT, PERF.ESTAT.OVF, PERF.TSMISS.COUNT, PERF.CNT.SEL.OVF, PERF.CNT.VALUE.COUNT, PERF.CNT.VALUE.OVF, FRAME.XP.BUFSTAT.DED, FRAME.XP.BUFSTAT.SHR, FRAME.EG.Q.DEPTH.LIVE, DMV.FRZSTAT.BUSY, DMV.FRZSTAT.RESULT, DMV.ERRCNT.COUNT, TST.INJSTAT.BUSY, TST.INJSTAT.FIRED]) [.out, .free, .evt, .flt, .decs, .nextDec, .cols, .ports, .frame, .egs, .bind, .homes, .homeG, .sec, .mgmt, .boot, .sum, .dmv, .perf, .blks, .blkG, .throttle] s₀ s₁) ∧
  (∀ (p : PortId) (pw : LinkPower) (s₀ s₁ : State), exec (.linkPowerStateChange p pw) s₀ = .next s₁ → onlyWrites ([COL.EYESTAT.STATE, COL.TRN.TRNSTAT.LTSSM, COL.LANE.LSTAT.PRE, COL.LANE.LSTAT.MAIN, COL.LANE.LSTAT.POST, COL.LANE.LSTAT.PRESET, COL.LANE.LSTAT.LOCK, COL.LANE.RXEQ.CTLE, COL.LANE.RXEQ.DFE1, COL.LANE.RXEQ.ADAPT, FRAME.EG.SCHSTAT.UNIT_PS, FRAME.EG.SCHSTAT.U]) [.out, .free, .cols] s₀ s₁) ∧
  (∀ (c : ColId) (s₀ s₁ : State), exec (.columnSleepEntry c) s₀ = .next s₁ → onlyWrites (eventFields ++ [PERF.ESTAT.OVF, PERF.CNT.SEL.OVF, PERF.CNT.VALUE.COUNT, PERF.CNT.VALUE.OVF, COL.STAT.CSTATE, COL.STAT.PLL_LOCK, COL.TRN.TRNSTAT.LTSSM]) [.evt, .cols, .perf] s₀ s₁) ∧
  (∀ (c : ColId) (p : PortId) (s₀ s₁ : State), exec (.columnWake c p) s₀ = .next s₁ → onlyWrites (eventFields ++ [COL.STAT.CSTATE, COL.EYESTAT.STATE, COL.TRN.TRNSTAT.LTSSM, COL.LANE.LSTAT.PRE, COL.LANE.LSTAT.MAIN, COL.LANE.LSTAT.POST, COL.LANE.LSTAT.PRESET, COL.LANE.LSTAT.LOCK, COL.LANE.RXEQ.CTLE, COL.LANE.RXEQ.DFE1, COL.LANE.RXEQ.ADAPT, FRAME.EG.SCHSTAT.UNIT_PS, FRAME.EG.SCHSTAT.U]) [.out, .free, .evt, .cols, .ports] s₀ s₁) ∧
  (∀ (p : PortId) (move : RecoveryMove) (s₀ s₁ : State), exec (.linkRecovery p move) s₀ = .next s₁ → onlyWrites (eventFields ++ [PERF.ESTAT.OVF, PERF.CNT.SEL.OVF, PERF.CNT.VALUE.COUNT, PERF.CNT.VALUE.OVF, COL.EYESTAT.STATE, COL.TRN.TRNSTAT.LTSSM, COL.LANE.LSTAT.PRE, COL.LANE.LSTAT.MAIN, COL.LANE.LSTAT.POST, COL.LANE.LSTAT.PRESET, COL.LANE.LSTAT.LOCK, COL.LANE.RXEQ.CTLE, COL.LANE.RXEQ.DFE1, COL.LANE.RXEQ.ADAPT, FRAME.EG.SCHSTAT.UNIT_PS, FRAME.EG.SCHSTAT.U]) [.free, .evt, .cols, .perf] s₀ s₁) ∧
  (∀ (c : ColId) (s₀ s₁ : State), exec (.columnPllLock c) s₀ = .next s₁ → onlyWrites (eventFields ++ [COL.STAT.CSTATE, COL.STAT.PLL_LOCK, COL.EYESTAT.STATE, COL.TRN.TRNSTAT.LTSSM, COL.LANE.LSTAT.PRE, COL.LANE.LSTAT.MAIN, COL.LANE.LSTAT.POST, COL.LANE.LSTAT.PRESET, COL.LANE.LSTAT.LOCK, COL.LANE.RXEQ.CTLE, COL.LANE.RXEQ.DFE1, COL.LANE.RXEQ.ADAPT, PORT.STAT.PSTATE, FRAME.EG.SCHSTAT.UNIT_PS, FRAME.EG.SCHSTAT.U]) [.out, .free, .evt, .cols, .ports] s₀ s₁)

/-- The frame of the commands of 03_ports_and_protocols.md: what each leaves as it was. Every register field outside the list reads as before in every instance, every other part of the state outside the list is the same, and so is the queue. -/
def Obligations.PortsFrame : Prop :=
  (∀ (p : PortId) (v : Word) (s₀ s₁ : State), exec (.portCfgWrite p v) s₀ = .next s₁ → onlyWrites (eventFields ++ [COL.STAT.CSTATE, COL.TRN.TRNSTAT.LTSSM, PORT.CFG.ROLE, PORT.CFG.CXL_EN, PORT.CFG.MEM_EN, PORT.CFG.CACHE_EN, PORT.CFG.BI_EN, PORT.CFG.LOPT_EN, PORT.CFG.PTM_EN, PORT.CFG.POOL, PORT.STAT.PSTATE, PORT.STAT.CFG_ERR]) [.evt, .cols, .ports] s₀ s₁) ∧
  (∀ (p : PortId) (v : Word) (s₀ s₁ : State), exec (.tagcfgWrite p v) s₀ = .next s₁ → onlyWrites ([PORT.STAT.CFG_ERR, PORT.TAGCFG.RSV_IO, PORT.TAGCFG.RSV_MEM, PORT.TAGCFG.RSV_CACHE]) [] s₀ s₁) ∧
  (∀ (p : PortId) (n : LinkNeg) (s₀ s₁ : State), exec (.portUp p n) s₀ = .next s₁ → onlyWrites (eventFields ++ tabCOL ++ tabPORT ++ [FLT.STAT.UCHELD, GCTL.ASTAT.HELD, GCTL.ASTAT.LASTDEC, BIND.LD.STATE, FRAME.EG.SCHSTAT.UNIT_PS, FRAME.EG.SCHSTAT.U]) [.out, .free, .evt, .flt, .decs, .nextDec, .cols, .ports, .egs, .bind] s₀ s₁) ∧
  (∀ (p : PortId) (s₀ s₁ : State), exec (.dlDown p) s₀ = .next s₁ → onlyWrites (eventFields ++ tabACT ++ tabPORT ++ tabBIND ++ tabHOME ++ tabSUM ++ tabFN ++ [FLT.STAT.UCHELD, GCTL.ASTAT.HELD, GCTL.ASTAT.LASTDEC, SEC.ROT.RSTAT.PHASE, SEC.ROT.RCURSOR.OFFSET, SEC.LDKEY.ROT, PERF.ESTAT.OVF, PERF.TSMISS.COUNT, PERF.CNT.SEL.OVF, PERF.CNT.VALUE.COUNT, PERF.CNT.VALUE.OVF, COL.EYESTAT.STATE, FRAME.XP.BUFSTAT.DED, FRAME.XP.BUFSTAT.SHR, FRAME.EG.Q.DEPTH.LIVE, DMV.FRZSTAT.BUSY, DMV.FRZSTAT.RESULT, DMV.ERRCNT.COUNT, TST.INJSTAT.BUSY, TST.INJSTAT.FIRED]) [.out, .free, .evt, .flt, .decs, .nextDec, .cols, .ports, .frame, .egs, .bind, .homes, .homeG, .sec, .mgmt, .boot, .sum, .dmv, .perf, .blks, .blkG, .throttle] s₀ s₁) ∧
  (∀ (r : PortReset) (s₀ s₁ : State), exec (.hotReset r) s₀ = .next s₁ → onlyWrites (eventFields ++ tabACT ++ tabPORT ++ tabBIND ++ tabHOME ++ tabSUM ++ tabFN ++ [FLT.STAT.UCHELD, GCTL.ASTAT.HELD, GCTL.ASTAT.LASTDEC, SEC.ROT.RSTAT.PHASE, SEC.ROT.RCURSOR.OFFSET, SEC.LDKEY.ROT, PERF.ESTAT.OVF, PERF.TSMISS.COUNT, PERF.CNT.SEL.OVF, PERF.CNT.VALUE.COUNT, PERF.CNT.VALUE.OVF, COL.EYESTAT.STATE, COL.TRN.TRNSTAT.LTSSM, FRAME.XP.BUFSTAT.DED, FRAME.XP.BUFSTAT.SHR, FRAME.EG.Q.DEPTH.LIVE, DMV.FRZSTAT.BUSY, DMV.FRZSTAT.RESULT, DMV.ERRCNT.COUNT, TST.INJSTAT.BUSY, TST.INJSTAT.FIRED]) [.out, .free, .evt, .flt, .decs, .nextDec, .cols, .ports, .frame, .egs, .bind, .homes, .homeG, .sec, .mgmt, .boot, .sum, .dmv, .perf, .blks, .blkG, .throttle] s₀ s₁) ∧
  (∀ (p : PortId) (reason : Nat) (s₀ s₁ : State), exec (.dpcTrigger p reason) s₀ = .next s₁ → onlyWrites (eventFields ++ tabACT ++ tabPORT ++ tabBIND ++ tabHOME ++ tabSUM ++ tabFN ++ [FLT.STAT.UCHELD, GCTL.ASTAT.HELD, GCTL.ASTAT.LASTDEC, SEC.ROT.RSTAT.PHASE, SEC.ROT.RCURSOR.OFFSET, SEC.LDKEY.ROT, PERF.ESTAT.OVF, PERF.TSMISS.COUNT, PERF.CNT.SEL.OVF, PERF.CNT.VALUE.COUNT, PERF.CNT.VALUE.OVF, COL.EYESTAT.STATE, FRAME.XP.BUFSTAT.DED, FRAME.XP.BUFSTAT.SHR, FRAME.EG.Q.DEPTH.LIVE, DMV.FRZSTAT.BUSY, DMV.FRZSTAT.RESULT, DMV.ERRCNT.COUNT, TST.INJSTAT.BUSY, TST.INJSTAT.FIRED]) [.out, .free, .evt, .flt, .decs, .nextDec, .cols, .ports, .frame, .egs, .bind, .homes, .homeG, .sec, .mgmt, .boot, .sum, .dmv, .perf, .blks, .blkG, .throttle] s₀ s₁) ∧
  (∀ (p : PortId) (v : Word) (s₀ s₁ : State), exec (.portDisable p v) s₀ = .next s₁ → onlyWrites (eventFields ++ tabACT ++ tabPORT ++ tabBIND ++ tabHOME ++ tabSUM ++ tabFN ++ [FLT.STAT.UCHELD, GCTL.ASTAT.HELD, GCTL.ASTAT.LASTDEC, SEC.ROT.RSTAT.PHASE, SEC.ROT.RCURSOR.OFFSET, SEC.LDKEY.ROT, PERF.ESTAT.OVF, PERF.TSMISS.COUNT, PERF.CNT.SEL.OVF, PERF.CNT.VALUE.COUNT, PERF.CNT.VALUE.OVF, COL.STAT.CSTATE, COL.EYESTAT.STATE, COL.TRN.TRNSTAT.LTSSM, FRAME.XP.BUFSTAT.DED, FRAME.XP.BUFSTAT.SHR, FRAME.EG.Q.DEPTH.LIVE, DMV.FRZSTAT.BUSY, DMV.FRZSTAT.RESULT, DMV.ERRCNT.COUNT, TST.INJSTAT.BUSY, TST.INJSTAT.FIRED]) [.out, .free, .evt, .flt, .decs, .nextDec, .cols, .ports, .frame, .egs, .bind, .homes, .homeG, .sec, .mgmt, .boot, .sum, .dmv, .perf, .blks, .blkG, .throttle] s₀ s₁) ∧
  (∀ (p : PortId) (v : Word) (s₀ s₁ : State), exec (.forceDown p v) s₀ = .next s₁ → onlyWrites (eventFields ++ tabACT ++ tabPORT ++ tabBIND ++ tabHOME ++ tabSUM ++ tabFN ++ [FLT.STAT.UCHELD, GCTL.ASTAT.HELD, GCTL.ASTAT.LASTDEC, SEC.ROT.RSTAT.PHASE, SEC.ROT.RCURSOR.OFFSET, SEC.LDKEY.ROT, PERF.ESTAT.OVF, PERF.TSMISS.COUNT, PERF.CNT.SEL.OVF, PERF.CNT.VALUE.COUNT, PERF.CNT.VALUE.OVF, COL.STAT.CSTATE, COL.EYESTAT.STATE, COL.TRN.TRNSTAT.LTSSM, FRAME.XP.BUFSTAT.DED, FRAME.XP.BUFSTAT.SHR, FRAME.EG.Q.DEPTH.LIVE, DMV.FRZSTAT.BUSY, DMV.FRZSTAT.RESULT, DMV.ERRCNT.COUNT, TST.INJSTAT.BUSY, TST.INJSTAT.FIRED]) [.out, .free, .evt, .flt, .decs, .nextDec, .cols, .ports, .frame, .egs, .bind, .homes, .homeG, .sec, .mgmt, .boot, .sum, .dmv, .perf, .blks, .blkG, .throttle] s₀ s₁) ∧
  (∀ (p : PortId) (s₀ s₁ : State), exec (.flushComplete p) s₀ = .next s₁ → onlyWrites (eventFields ++ tabCOL ++ tabPORT ++ tabBIND ++ [FLT.STAT.UCHELD, GCTL.ASTAT.HELD, GCTL.ASTAT.LASTDEC, SEC.IDE.IO_STATE, SEC.IDE.CM_STATE, SEC.IDE.KSET, SEC.IDE.ERRCNT, PERF.ESTAT.OVF, PERF.CNT.SEL.OVF, PERF.CNT.VALUE.COUNT, PERF.CNT.VALUE.OVF, FRAME.XP.BUFSTAT.DED, FRAME.XP.BUFSTAT.SHR, FRAME.EG.SCHSTAT.UNIT_PS, FRAME.EG.SCHSTAT.U, FRAME.EG.Q.DEPTH.LIVE, TST.INJSTAT.BUSY, TST.INJSTAT.FIRED]) [.evt, .flt, .decs, .nextDec, .cols, .ports, .frame, .egs, .bind, .sec, .mgmt, .perf] s₀ s₁) ∧
  (∀ (p : PortId) (tag : Fin 1024) (s₀ s₁ : State), exec (.ctoExpiry p tag) s₀ = .next s₁ → onlyWrites (eventFields ++ tabACT ++ tabPORT ++ tabBIND ++ tabHOME ++ tabSUM ++ tabFN ++ [FLT.STAT.UCHELD, GCTL.ASTAT.HELD, GCTL.ASTAT.LASTDEC, SEC.ROT.RSTAT.PHASE, SEC.ROT.RCURSOR.OFFSET, SEC.LDKEY.ROT, PERF.ESTAT.OVF, PERF.TSMISS.COUNT, PERF.CNT.SEL.OVF, PERF.CNT.VALUE.COUNT, PERF.CNT.VALUE.OVF, COL.EYESTAT.STATE, FRAME.XP.BUFSTAT.DED, FRAME.XP.BUFSTAT.SHR, FRAME.EG.Q.DEPTH.LIVE, DMV.FRZSTAT.BUSY, DMV.FRZSTAT.RESULT, DMV.ERRCNT.COUNT, TST.INJSTAT.BUSY, TST.INJSTAT.FIRED]) [.now, .out, .free, .evt, .flt, .decs, .nextDec, .cols, .ports, .frame, .egs, .bind, .homes, .homeG, .sec, .mgmt, .boot, .sum, .dmv, .perf, .blks, .blkG, .throttle] s₀ s₁) ∧
  (∀ (p : PortId) (tag : Fin 1024) (s₀ s₁ : State), exec (.tagQuarantineExpiry p tag) s₀ = .next s₁ → onlyWrites ([PORT.TAGSTAT.IN_USE, PORT.TAGSTAT.PEAK]) [.now, .ports] s₀ s₁) ∧
  (∀ (p : PortId) (s₀ s₁ : State), exec (.tagAvailable p) s₀ = .next s₁ → onlyWrites (eventFields ++ tabACT ++ tabBIND ++ [SEC.ROT.RSTAT.PHASE, SEC.ROT.RCURSOR.OFFSET, SEC.LDKEY.ROT, PERF.ESTAT.OVF, PERF.TSMISS.COUNT, PERF.CNT.SEL.OVF, PERF.CNT.VALUE.COUNT, PERF.CNT.VALUE.OVF, PORT.ESTAT.TAG_STALL, PORT.TAGSTAT.IN_USE, PORT.TAGSTAT.PEAK, HOME.ESTAT.HMAP_MISS, HOME.RFSTAT.HELD, FRAME.XP.BUFSTAT.DED, FRAME.XP.BUFSTAT.SHR, TST.INJSTAT.BUSY, TST.INJSTAT.FIRED]) [.out, .free, .evt, .flt, .ports, .frame, .bind, .homeG, .sec, .mgmt, .boot, .perf, .blkG] s₀ s₁)

/-- The frame of the commands of 04_the_frame.md: what each leaves as it was. Every register field outside the list reads as before in every instance, every other part of the state outside the list is the same, and so is the queue. -/
def Obligations.FrameFrame : Prop :=
  (∀ (x : XId) (r : LinkReq) (s₀ s₁ : State), exec (.linkRequest x r) s₀ = .next s₁ → onlyWrites (eventFields ++ tabACT ++ tabBIND ++ [SEC.ROT.RSTAT.PHASE, SEC.ROT.RCURSOR.OFFSET, SEC.LDKEY.ROT, PERF.ESTAT.OVF, PERF.TSMISS.COUNT, PERF.CNT.SEL.OVF, PERF.CNT.VALUE.COUNT, PERF.CNT.VALUE.OVF, PORT.ESTAT.TAG_STALL, PORT.TAGSTAT.IN_USE, PORT.TAGSTAT.PEAK, PORT.FLUSH_REQ.COUNT, HOME.ESTAT.HMAP_MISS, HOME.RFSTAT.HELD, FRAME.XP.BUFSTAT.DED, FRAME.XP.BUFSTAT.SHR, FRAME.XP.ESTAT.STALE, FRAME.XP.STALECNT.COUNT, TST.INJSTAT.BUSY, TST.INJSTAT.FIRED]) [.out, .free, .evt, .flt, .ports, .frame, .bind, .homeG, .sec, .mgmt, .boot, .perf, .blkG] s₀ s₁) ∧
  (∀ (x : XId) (r : LinkRsp) (s₀ s₁ : State), exec (.linkResponse x r) s₀ = .next s₁ → onlyWrites (eventFields ++ tabHOME ++ [FLT.STAT.UCHELD, GCTL.ASTAT.HELD, GCTL.ASTAT.LASTDEC, PERF.ESTAT.OVF, PERF.CNT.SEL.OVF, PERF.CNT.VALUE.COUNT, PERF.CNT.VALUE.OVF, PORT.ESTAT.LATE, PORT.TAGSTAT.IN_USE, PORT.TAGSTAT.PEAK, PORT.LATECNT.COUNT, BIND.MIG.MDIRTY.BLOCKS, FRAME.XP.BUFSTAT.DED, FRAME.XP.BUFSTAT.SHR, FRAME.XP.ESTAT.STALE, FRAME.XP.STALECNT.COUNT, TST.INJSTAT.BUSY, TST.INJSTAT.FIRED]) [.out, .evt, .flt, .decs, .nextDec, .ports, .frame, .bind, .homes, .homeG, .mgmt, .perf, .blks, .throttle] s₀ s₁) ∧
  (∀ (p : PortId) (s₀ s₁ : State), exec (.flitCheckFail p) s₀ = .next s₁ → onlyWrites (eventFields ++ [PERF.ESTAT.OVF, PERF.CNT.SEL.OVF, PERF.CNT.VALUE.COUNT, PERF.CNT.VALUE.OVF]) [.out, .evt, .perf] s₀ s₁) ∧
  (∀ (x : XId) (t : TcId) (s₀ s₁ : State), exec (.sharedPoolMove x t) s₀ = .next s₁ → onlyWrites ([FRAME.XP.BUFSTAT.DED, FRAME.XP.BUFSTAT.SHR]) [.out, .frame, .blks] s₀ s₁) ∧
  (∀ (s₀ s₁ : State), exec (.schedulerSlot) s₀ = .next s₁ → onlyWrites ([FRAME.EG.Q.DEPTH.LIVE, TST.INJSTAT.BUSY, TST.INJSTAT.FIRED]) [.out, .frame, .egs, .mgmt, .blks] s₀ s₁) ∧
  (∀ (i : XId) (s₀ s₁ : State), exec (.crossingComplete i) s₀ = .next s₁ → onlyWrites (eventFields ++ [PERF.ESTAT.OVF, PERF.CNT.SEL.OVF, PERF.CNT.VALUE.COUNT, PERF.CNT.VALUE.OVF, FRAME.XP.BUFSTAT.DED, FRAME.XP.BUFSTAT.SHR, FRAME.EG.Q.POLCNT.COUNT, FRAME.EG.Q.DEPTH.LIVE, TST.INJSTAT.BUSY, TST.INJSTAT.FIRED]) [.evt, .flt, .frame, .egs, .mgmt, .perf] s₀ s₁) ∧
  (∀ (i : XId) (plane : Fin 5) (stale : Bool) (s₀ s₁ : State), exec (.crossingError i plane stale) s₀ = .next s₁ → onlyWrites (eventFields ++ tabFLT ++ tabFRAME ++ [GCTL.ASTAT.HELD, GCTL.ASTAT.LASTDEC, NOC.PD.STAT.STATE, NOC.PD.STAT.HELD, NOC.PD.STAT.ABORTS, PERF.ESTAT.OVF, PERF.CNT.SEL.OVF, PERF.CNT.VALUE.COUNT, PERF.CNT.VALUE.OVF, FRAME.XP.ESTAT.STALE, FRAME.XP.STALECNT.COUNT, TST.INJSTAT.BUSY]) [.evt, .flt, .decs, .nextDec, .frame, .mgmt, .boot, .perf] s₀ s₁) ∧
  (∀ (i : XId) (e : XId) (t : TcId) (s₀ s₁ : State), exec (.replayRequest i e t) s₀ = .next s₁ → onlyWrites (eventFields ++ [FRAME.XP.ESTAT.REPLAY, FRAME.XP.REPLAYCNT.COUNT]) [.evt, .frame] s₀ s₁) ∧
  (∀ (ok : Bool) (s₀ s₁ : State), exec (.sparePlaneCheck ok) s₀ = .next s₁ → onlyWrites ([EVT.ERRCNT.SRCDROP, EVT.GRP.HOLD_CORE, EVT.SRC.HELD, EVT.SRC.CORE, EVT.SRC.ASSIGNED, EVT.SRC.STATE, FLT.SPARE.PLANE, FLT.SPARE.CORE, FLT.SPARE.LANE, FLT.SPARE.HOME, FLT.SPARE.SUM, FLT.UNIT.STATE, FRAME.PLANESTAT.P0, FRAME.PLANESTAT.P1, FRAME.PLANESTAT.P2, FRAME.PLANESTAT.P3, FRAME.PLANESTAT.P4, FRAME.PLANESTAT.FCNT, FRAME.PLANESTAT.NO_SPARE, TST.INJSTAT.BUSY]) [.evt, .flt, .boot] s₀ s₁) ∧
  (∀ (v : Word) (s₀ s₁ : State), exec (.planeSubCommand v) s₀ = .next s₁ → onlyWrites (eventFields ++ [FLT.UNIT.EPOCH, FLT.UNIT.STATE, FLT.UNIT.ROLE, NOC.PD.STAT.STATE, NOC.PD.STAT.HELD, NOC.PD.STAT.ABORTS, FRAME.PLANESTAT.P0, FRAME.PLANESTAT.P1, FRAME.PLANESTAT.P2, FRAME.PLANESTAT.P3, FRAME.PLANESTAT.P4, FRAME.PLANESTAT.FCNT, FRAME.PLANESTAT.SUBST, FRAME.PLANESTAT.SUB_ERR, FRAME.PLANESTAT.MAPX, FRAME.PLANECTL.PLANE, FRAME.PLANEERR.EPOCH, TST.INJSTAT.BUSY]) [.evt, .flt, .frame, .mgmt] s₀ s₁) ∧
  (∀ (stallNs : Nat) (s₀ s₁ : State), exec (.substitutionComplete stallNs) s₀ = .next s₁ → onlyWrites (eventFields ++ tabFLT ++ tabFRAME ++ [GCTL.ASTAT.HELD, GCTL.ASTAT.LASTDEC, NOC.PD.STAT.STATE, NOC.PD.STAT.HELD, NOC.PD.STAT.ABORTS, FRAME.XP.ESTAT.REPLAY, FRAME.XP.REPLAYCNT.COUNT, TST.INJSTAT.BUSY]) [.now, .evt, .flt, .decs, .nextDec, .frame, .mgmt, .boot] s₀ s₁) ∧
  (∀ (x : XId) (t : TcId) (v : Word) (s₀ s₁ : State), exec (.tcshareWrite x t v) s₀ = .next s₁ → onlyWrites (eventFields ++ [FRAME.XP.TCSHARE.MIN, FRAME.XP.TCSHARE.MAX, FRAME.XP.ESTAT.CFG_ERR]) [.evt] s₀ s₁) ∧
  (∀ (x : XId) (t : TcId) (v : Word) (s₀ s₁ : State), exec (.egqWrite x t v) s₀ = .next s₁ → onlyWrites (eventFields ++ [FRAME.XP.EGQ.EQMIN, FRAME.XP.EGQ.EQMAX, FRAME.XP.ESTAT.CFG_ERR]) [.evt] s₀ s₁) ∧
  (∀ (x : XId) (v : Word) (s₀ s₁ : State), exec (.cmarkWrite x v) s₀ = .next s₁ → onlyWrites (eventFields ++ [FRAME.XP.CMARK.T1, FRAME.XP.CMARK.T2, FRAME.XP.CMARK.T3, FRAME.XP.ESTAT.CFG_ERR]) [.evt] s₀ s₁)

/-- The frame of the commands of 05_egress_scheduling_and_time_gates.md: what each leaves as it was. Every register field outside the list reads as before in every instance, every other part of the state outside the list is the same, and so is the queue. EGRESS_VISIT may write every register and have no frame here. -/
def Obligations.EgressFrame : Prop :=
  (∀ (p : PortId) (s₀ s₁ : State), exec (.gateSpill p) s₀ = .next s₁ → onlyWrites (eventFields ++ [FRAME.EG.ESTAT.SPILL, FRAME.EG.OVRCNT.COUNT]) [.evt] s₀ s₁) ∧
  (∀ (p : PortId) (t : TcId) (v : Word) (s₀ s₁ : State), exec (.qcfgWrite p t v) s₀ = .next s₁ → onlyWrites (eventFields ++ [FRAME.EG.ESTAT.CFG_ERR, FRAME.EG.Q.QCFG.QUANTUM, FRAME.EG.Q.QCFG.BURST]) [.evt] s₀ s₁) ∧
  (∀ (p : PortId) (t : TcId) (v : Word) (s₀ s₁ : State), exec (.shapeWrite p t v) s₀ = .next s₁ → onlyWrites (eventFields ++ [FRAME.EG.ESTAT.CFG_ERR, FRAME.EG.Q.SHAPE.RATE, FRAME.EG.Q.SHAPE.DEPTH]) [.evt, .egs] s₀ s₁) ∧
  (∀ (p : PortId) (s₀ s₁ : State), exec (.gateBoundary p) s₀ = .next s₁ → onlyWrites ([FRAME.EG.GCLSTAT.RUN, FRAME.EG.GCLSTAT.LIST, FRAME.EG.GCLSTAT.PENDING, FRAME.EG.GCLSTAT.ENTRY, FRAME.EG.GCLSTAT.CLOSED_TC]) [.now] s₀ s₁) ∧
  (∀ (p : PortId) (v : Word) (s₀ s₁ : State), exec (.gclCommit p v) s₀ = .next s₁ → onlyWrites (eventFields ++ [FRAME.EG.ESTAT.GCL_ERR, FRAME.EG.ESTAT.LATE_BASE, FRAME.EG.GCLCTL.SEL, FRAME.EG.GCLSTAT.RUN, FRAME.EG.GCLSTAT.LIST, FRAME.EG.GCLSTAT.PENDING, FRAME.EG.GCLSTAT.ENTRY, FRAME.EG.GCLSTAT.CLOSED_TC]) [.evt, .egs] s₀ s₁) ∧
  (∀ (p : PortId) (v : Word) (s₀ s₁ : State), exec (.gclCancel p v) s₀ = .next s₁ → onlyWrites ([FRAME.EG.GCLCTL.SEL, FRAME.EG.GCLSTAT.RUN, FRAME.EG.GCLSTAT.LIST, FRAME.EG.GCLSTAT.PENDING, FRAME.EG.GCLSTAT.ENTRY, FRAME.EG.GCLSTAT.CLOSED_TC]) [.egs] s₀ s₁) ∧
  (∀ (p : PortId) (s₀ s₁ : State), exec (.pendingListStart p) s₀ = .next s₁ → onlyWrites ([FRAME.EG.GCLSTAT.RUN, FRAME.EG.GCLSTAT.LIST, FRAME.EG.GCLSTAT.PENDING, FRAME.EG.GCLSTAT.ENTRY, FRAME.EG.GCLSTAT.CLOSED_TC]) [.now, .egs] s₀ s₁) ∧
  (∀ (p : PortId) (v : Word) (s₀ s₁ : State), exec (.gateDisable p v) s₀ = .next s₁ → onlyWrites ([FRAME.EG.SCHCFG.GATE_EN, FRAME.EG.SCHCFG.SHAPE_EN, FRAME.EG.SCHCFG.POLICE_EN, FRAME.EG.SCHCFG.GUARD, FRAME.EG.SCHCFG.WINEXP, FRAME.EG.GCLSTAT.RUN, FRAME.EG.GCLSTAT.LIST, FRAME.EG.GCLSTAT.PENDING, FRAME.EG.GCLSTAT.ENTRY, FRAME.EG.GCLSTAT.CLOSED_TC]) [.egs] s₀ s₁) ∧
  (∀ (p : PortId) (s₀ s₁ : State), exec (.egressSampleWindowEnd p) s₀ = .next s₁ → onlyWrites ([FRAME.EG.SAMPSTAT.WINSEQ, FRAME.EG.Q.DEPTH.LIVE, FRAME.EG.Q.DEPTH.WMAX, FRAME.EG.Q.DAVG.WAVG, FRAME.EG.Q.DELAYMAX.NS, FRAME.EG.Q.DELAYAVG.NS]) [.now, .egs] s₀ s₁) ∧
  (∀ (p : PortId) (list : Fin 4) (hdr data : Nat) (s₀ s₁ : State), exec (.linkCreditUpdate p list hdr data) s₀ = .next s₁ → onlyWrites ([]) [.ports] s₀ s₁)

/-- The frame of the commands of 06_binding_and_logical_devices.md: what each leaves as it was. Every register field outside the list reads as before in every instance, every other part of the state outside the list is the same, and so is the queue. -/
def Obligations.BindingFrame : Prop :=
  (∀ (p : PortId) (t : HdmTarget) (g : HdmProg) (s₀ s₁ : State), exec (.hdmCommit p t g) s₀ = .next s₁ → onlyWrites ([BIND.DEC.COMMITTED, BIND.DEC.LOCKED, BIND.DEC.IW, BIND.DEC.IG, BIND.DEC.BASE, BIND.DEC.SIZE, BIND.DEC.TARGET]) [.out, .bind] s₀ s₁) ∧
  (∀ (v : Word) (s₀ s₁ : State), exec (.bindCommit v) s₀ = .next s₁ → onlyWrites (eventFields ++ [BIND.CTL.STGCNT, BIND.CTL.UNB_TO, BIND.STAT.BUSY, BIND.STAT.RESULT, BIND.STAT.BADIDX, BIND.ESTAT.REJECT, BIND.STG.VALUE, BIND.STG.TYPE, BIND.STG.INDEX]) [.out, .evt, .bind, .sec, .boot] s₀ s₁) ∧
  (∀ (v : Word) (s₀ s₁ : State), exec (.bindDiscard v) s₀ = .next s₁ → onlyWrites (eventFields ++ [BIND.CTL.STGCNT, BIND.CTL.UNB_TO, BIND.STAT.BUSY, BIND.STAT.RESULT, BIND.STAT.BADIDX, BIND.ESTAT.REJECT, BIND.STG.VALUE, BIND.STG.TYPE, BIND.STG.INDEX]) [.out, .evt, .bind, .sec, .boot] s₀ s₁) ∧
  (∀ (p : PortId) (vppb : Fin 256) (s₀ s₁ : State), exec (.hostSlotPowerOff p vppb) s₀ = .next s₁ → onlyWrites (eventFields ++ [SEC.ROT.RSTAT.PHASE, SEC.ROT.RCURSOR.OFFSET, SEC.LDKEY.ROT, BIND.STAT.BUSY, BIND.STAT.RESULT, BIND.STAT.BADIDX, BIND.ESTAT.REJECT, BIND.MIG.MSTAT.PHASE]) [.evt, .bind, .sec, .boot] s₀ s₁) ∧
  (∀ (s₀ s₁ : State), exec (.unbindTimeout) s₀ = .next s₁ → onlyWrites (eventFields ++ [SEC.ROT.RSTAT.PHASE, SEC.ROT.RCURSOR.OFFSET, SEC.LDKEY.ROT, BIND.STAT.BUSY, BIND.STAT.RESULT, BIND.STAT.BADIDX, BIND.ESTAT.REJECT, BIND.MIG.MSTAT.PHASE]) [.now, .evt, .bind] s₀ s₁) ∧
  (∀ (s₀ s₁ : State), exec (.commitPoint) s₀ = .next s₁ → onlyWrites (eventFields ++ tabSEC ++ tabBIND ++ tabHOME ++ tabSUM ++ [FLT.STAT.UCHELD, GCTL.ASTAT.HELD, GCTL.ASTAT.LASTDEC, PERF.ESTAT.OVF, PERF.TSMISS.COUNT, PERF.CNT.SEL.OVF, PERF.CNT.VALUE.COUNT, PERF.CNT.VALUE.OVF, PORT.STAT.CACHE, PORT.STAT.CACHE_DENIED, PORT.ESTAT.BI_MISSING, PORT.TAGSTAT.IN_USE, PORT.TAGSTAT.PEAK, FRAME.XP.BUFSTAT.DED, FRAME.XP.BUFSTAT.SHR, TST.INJSTAT.BUSY, TST.INJSTAT.FIRED]) [.out, .free, .evt, .flt, .decs, .nextDec, .ports, .frame, .bind, .homes, .homeG, .sec, .mgmt, .boot, .sum, .dmv, .perf, .blks, .blkG, .throttle] s₀ s₁) ∧
  (∀ (s₀ s₁ : State), exec (.bindDrainDone) s₀ = .next s₁ → onlyWrites (eventFields ++ [SEC.KSTAT.LDKEYS, SEC.KSTAT.DOMAIN, SEC.ROT.RSTAT.PHASE, SEC.ROT.RSTAT.RESULT, SEC.LDKEY.VALID, SEC.LDKEY.ROT, BIND.STAT.DONE, BIND.LD.STATE, BIND.MIG.MSTAT.PHASE, BIND.MIG.MSTAT.PASS, BIND.MIG.MSTAT.THROTTLE, BIND.MIG.MCURSOR.OFFSET, BIND.MIG.MDIRTY.BLOCKS, DMV.ERASESTAT.BUSY]) [.out, .evt, .bind, .sec, .boot, .dmv] s₀ s₁) ∧
  (∀ (index : Fin 4096) (host : PortId) (vppb : Fin 256) (kind : Fin 4) (target : Fin 4096) (s₀ s₁ : State), exec (.bindVppb index host vppb kind target) s₀ = .next s₁ → onlyWrites (eventFields ++ [PERF.ESTAT.OVF, PERF.CNT.SEL.OVF, PERF.CNT.VALUE.COUNT, PERF.CNT.VALUE.OVF, BIND.CTL.STGCNT, BIND.STAT.BUSY, BIND.STAT.RESULT, BIND.STAT.BADIDX, BIND.ESTAT.REJECT, BIND.STG.VALUE, BIND.STG.TYPE, BIND.STG.INDEX]) [.out, .evt, .bind, .sec, .boot, .perf] s₀ s₁) ∧
  (∀ (host : PortId) (vppb : Fin 256) (mode : Fin 4) (s₀ s₁ : State), exec (.unbindVppb host vppb mode) s₀ = .next s₁ → onlyWrites (eventFields ++ [PERF.ESTAT.OVF, PERF.CNT.SEL.OVF, PERF.CNT.VALUE.COUNT, PERF.CNT.VALUE.OVF, BIND.CTL.STGCNT, BIND.STAT.BUSY, BIND.STAT.RESULT, BIND.STAT.BADIDX, BIND.ESTAT.REJECT, BIND.STG.VALUE, BIND.STG.TYPE, BIND.STG.INDEX]) [.out, .evt, .bind, .sec, .boot, .perf] s₀ s₁) ∧
  (∀ (p : PortId) (allocs : List Nat) (s₀ s₁ : State), exec (.setLdAllocations p allocs) s₀ = .next s₁ → onlyWrites (eventFields ++ [PERF.ESTAT.OVF, PERF.CNT.SEL.OVF, PERF.CNT.VALUE.COUNT, PERF.CNT.VALUE.OVF]) [.out, .evt, .bind, .perf] s₀ s₁) ∧
  (∀ (m : Fin 2) (v : Word) (s₀ s₁ : State), exec (.migStart m v) s₀ = .next s₁ → onlyWrites (eventFields ++ tabACT ++ tabBIND ++ [PERF.ESTAT.OVF, PERF.TSMISS.COUNT, PERF.CNT.SEL.OVF, PERF.CNT.VALUE.COUNT, PERF.CNT.VALUE.OVF, PORT.TAGSTAT.IN_USE, PORT.TAGSTAT.PEAK, HOME.ESTAT.HMAP_MISS, HOME.RFSTAT.HELD, FRAME.XP.BUFSTAT.DED, FRAME.XP.BUFSTAT.SHR, TST.INJSTAT.BUSY, TST.INJSTAT.FIRED]) [.out, .free, .evt, .flt, .decs, .ports, .frame, .bind, .homeG, .sec, .mgmt, .boot, .perf, .blkG] s₀ s₁) ∧
  (∀ (m : Fin 2) (v : Word) (s₀ s₁ : State), exec (.mctlAbort m v) s₀ = .next s₁ → onlyWrites (eventFields ++ tabACT ++ tabBIND ++ [PERF.ESTAT.OVF, PERF.TSMISS.COUNT, PERF.CNT.SEL.OVF, PERF.CNT.VALUE.COUNT, PERF.CNT.VALUE.OVF, PORT.TAGSTAT.IN_USE, PORT.TAGSTAT.PEAK, HOME.ESTAT.HMAP_MISS, HOME.RFSTAT.HELD, FRAME.XP.BUFSTAT.DED, FRAME.XP.BUFSTAT.SHR, TST.INJSTAT.BUSY, TST.INJSTAT.FIRED]) [.out, .free, .evt, .flt, .decs, .ports, .frame, .bind, .homeG, .sec, .mgmt, .boot, .perf, .blkG] s₀ s₁) ∧
  (∀ (m : Fin 2) (s₀ s₁ : State), exec (.copyPassEnd m) s₀ = .next s₁ → onlyWrites (eventFields ++ [FLT.STAT.UCHELD, GCTL.ASTAT.HELD, GCTL.ASTAT.LASTDEC, BIND.MIG.MSTAT.PHASE, BIND.MIG.MSTAT.PASS, BIND.MIG.MSTAT.THROTTLE, BIND.MIG.MCURSOR.OFFSET]) [.evt, .flt, .decs, .nextDec, .bind, .boot] s₀ s₁) ∧
  (∀ (m : Fin 2) (s₀ s₁ : State), exec (.migCheckpoint m) s₀ = .next s₁ → onlyWrites ([]) [.boot] s₀ s₁) ∧
  (∀ (m : Fin 2) (lenNs : Nat) (s₀ s₁ : State), exec (.quiesceCopyDone m lenNs) s₀ = .next s₁ → onlyWrites (eventFields ++ tabACT ++ tabBIND ++ [PERF.ESTAT.OVF, PERF.TSMISS.COUNT, PERF.CNT.SEL.OVF, PERF.CNT.VALUE.COUNT, PERF.CNT.VALUE.OVF, PORT.TAGSTAT.IN_USE, PORT.TAGSTAT.PEAK, HOME.ESTAT.HMAP_MISS, HOME.RFSTAT.HELD, FRAME.XP.BUFSTAT.DED, FRAME.XP.BUFSTAT.SHR, TST.INJSTAT.BUSY, TST.INJSTAT.FIRED]) [.now, .out, .free, .evt, .flt, .decs, .ports, .frame, .bind, .homeG, .sec, .mgmt, .boot, .perf, .blkG] s₀ s₁) ∧
  (∀ (m : Fin 2) (s₀ s₁ : State), exec (.quiesceTimeout m) s₀ = .next s₁ → onlyWrites (eventFields ++ tabACT ++ tabBIND ++ [PERF.ESTAT.OVF, PERF.TSMISS.COUNT, PERF.CNT.SEL.OVF, PERF.CNT.VALUE.COUNT, PERF.CNT.VALUE.OVF, PORT.TAGSTAT.IN_USE, PORT.TAGSTAT.PEAK, HOME.ESTAT.HMAP_MISS, HOME.RFSTAT.HELD, FRAME.XP.BUFSTAT.DED, FRAME.XP.BUFSTAT.SHR, TST.INJSTAT.BUSY, TST.INJSTAT.FIRED]) [.now, .out, .free, .evt, .flt, .ports, .frame, .bind, .homeG, .sec, .mgmt, .boot, .perf, .blkG] s₀ s₁) ∧
  (∀ (m : Fin 2) (s₀ s₁ : State), exec (.migCommit m) s₀ = .next s₁ → onlyWrites (eventFields ++ [SEC.KSTAT.LDKEYS, SEC.KSTAT.DOMAIN, SEC.ROT.RSTAT.PHASE, SEC.ROT.RSTAT.RESULT, SEC.LDKEY.VALID, SEC.LDKEY.GEN, PERF.ESTAT.OVF, PERF.CNT.SEL.OVF, PERF.CNT.VALUE.COUNT, PERF.CNT.VALUE.OVF, BIND.STAT.EPOCH, BIND.STAT.DONE, BIND.STAT.RESULT, BIND.LD.POOL, BIND.LD.LDID, BIND.LD.MLD, BIND.LD.BASE, BIND.MIG.MSTAT.PHASE]) [.evt, .bind, .sec, .boot, .perf] s₀ s₁)

/-- The frame of the commands of 07_coherence_home_and_tally.md: what each leaves as it was. Every register field outside the list reads as before in every instance, every other part of the state outside the list is the same, and so is the queue. -/
def Obligations.HomeFrame : Prop :=
  (∀ (n : SliceId) (s₀ s₁ : State), exec (.homeRequestAccept n) s₀ = .next s₁ → onlyWrites (eventFields ++ tabHOME ++ [FLT.STAT.UCHELD, GCTL.ASTAT.HELD, GCTL.ASTAT.LASTDEC, PERF.ESTAT.OVF, PERF.CNT.SEL.OVF, PERF.CNT.VALUE.COUNT, PERF.CNT.VALUE.OVF, FRAME.XP.BUFSTAT.DED, FRAME.XP.BUFSTAT.SHR, TST.INJSTAT.BUSY, TST.INJSTAT.FIRED]) [.out, .evt, .flt, .decs, .nextDec, .frame, .homes, .homeG, .mgmt, .perf, .blks, .throttle] s₀ s₁) ∧
  (∀ (n : SliceId) (m : HomeMsg) (s₀ s₁ : State), exec (.rdS n m) s₀ = .next s₁ → onlyWrites (eventFields ++ tabHOME ++ [FLT.STAT.UCHELD, GCTL.ASTAT.HELD, GCTL.ASTAT.LASTDEC, PERF.ESTAT.OVF, PERF.CNT.SEL.OVF, PERF.CNT.VALUE.COUNT, PERF.CNT.VALUE.OVF, FRAME.XP.BUFSTAT.DED, FRAME.XP.BUFSTAT.SHR, TST.INJSTAT.BUSY, TST.INJSTAT.FIRED]) [.out, .evt, .flt, .decs, .nextDec, .frame, .homes, .homeG, .mgmt, .perf, .blks, .throttle] s₀ s₁) ∧
  (∀ (n : SliceId) (m : HomeMsg) (s₀ s₁ : State), exec (.rdA n m) s₀ = .next s₁ → onlyWrites (eventFields ++ tabHOME ++ [FLT.STAT.UCHELD, GCTL.ASTAT.HELD, GCTL.ASTAT.LASTDEC, PERF.ESTAT.OVF, PERF.CNT.SEL.OVF, PERF.CNT.VALUE.COUNT, PERF.CNT.VALUE.OVF, FRAME.XP.BUFSTAT.DED, FRAME.XP.BUFSTAT.SHR, TST.INJSTAT.BUSY, TST.INJSTAT.FIRED]) [.out, .evt, .flt, .decs, .nextDec, .frame, .homes, .homeG, .mgmt, .perf, .blks, .throttle] s₀ s₁) ∧
  (∀ (n : SliceId) (m : HomeMsg) (s₀ s₁ : State), exec (.rdI n m) s₀ = .next s₁ → onlyWrites (eventFields ++ tabHOME ++ [FLT.STAT.UCHELD, GCTL.ASTAT.HELD, GCTL.ASTAT.LASTDEC, PERF.ESTAT.OVF, PERF.CNT.SEL.OVF, PERF.CNT.VALUE.COUNT, PERF.CNT.VALUE.OVF, FRAME.XP.BUFSTAT.DED, FRAME.XP.BUFSTAT.SHR, TST.INJSTAT.BUSY, TST.INJSTAT.FIRED]) [.out, .evt, .flt, .decs, .nextDec, .frame, .homes, .homeG, .mgmt, .perf, .blks, .throttle] s₀ s₁) ∧
  (∀ (n : SliceId) (m : HomeMsg) (s₀ s₁ : State), exec (.invA n m) s₀ = .next s₁ → onlyWrites (eventFields ++ tabHOME ++ [FLT.STAT.UCHELD, GCTL.ASTAT.HELD, GCTL.ASTAT.LASTDEC, PERF.ESTAT.OVF, PERF.CNT.SEL.OVF, PERF.CNT.VALUE.COUNT, PERF.CNT.VALUE.OVF, FRAME.XP.BUFSTAT.DED, FRAME.XP.BUFSTAT.SHR, TST.INJSTAT.BUSY, TST.INJSTAT.FIRED]) [.out, .evt, .flt, .decs, .nextDec, .frame, .homes, .homeG, .mgmt, .perf, .blks, .throttle] s₀ s₁) ∧
  (∀ (n : SliceId) (m : HomeMsg) (s₀ s₁ : State), exec (.wb n m) s₀ = .next s₁ → onlyWrites (eventFields ++ tabHOME ++ [FLT.STAT.UCHELD, GCTL.ASTAT.HELD, GCTL.ASTAT.LASTDEC, PERF.ESTAT.OVF, PERF.CNT.SEL.OVF, PERF.CNT.VALUE.COUNT, PERF.CNT.VALUE.OVF, FRAME.XP.BUFSTAT.DED, FRAME.XP.BUFSTAT.SHR, TST.INJSTAT.BUSY, TST.INJSTAT.FIRED]) [.out, .evt, .flt, .decs, .nextDec, .frame, .homes, .homeG, .mgmt, .perf, .blks, .throttle] s₀ s₁) ∧
  (∀ (n : SliceId) (m : HomeMsg) (s₀ s₁ : State), exec (.wr n m) s₀ = .next s₁ → onlyWrites (eventFields ++ tabHOME ++ [FLT.STAT.UCHELD, GCTL.ASTAT.HELD, GCTL.ASTAT.LASTDEC, PERF.ESTAT.OVF, PERF.CNT.SEL.OVF, PERF.CNT.VALUE.COUNT, PERF.CNT.VALUE.OVF, FRAME.XP.BUFSTAT.DED, FRAME.XP.BUFSTAT.SHR, TST.INJSTAT.BUSY, TST.INJSTAT.FIRED]) [.out, .evt, .flt, .decs, .nextDec, .frame, .homes, .homeG, .mgmt, .perf, .blks, .throttle] s₀ s₁) ∧
  (∀ (n : SliceId) (m : HomeMsg) (s₀ s₁ : State), exec (.cln n m) s₀ = .next s₁ → onlyWrites (eventFields ++ tabHOME ++ [FLT.STAT.UCHELD, GCTL.ASTAT.HELD, GCTL.ASTAT.LASTDEC, PERF.ESTAT.OVF, PERF.CNT.SEL.OVF, PERF.CNT.VALUE.COUNT, PERF.CNT.VALUE.OVF, FRAME.XP.BUFSTAT.DED, FRAME.XP.BUFSTAT.SHR, TST.INJSTAT.BUSY, TST.INJSTAT.FIRED]) [.out, .evt, .flt, .decs, .nextDec, .frame, .homes, .homeG, .mgmt, .perf, .blks, .throttle] s₀ s₁) ∧
  (∀ (n : SliceId) (m : HomeMsg) (s₀ s₁ : State), exec (.nop n m) s₀ = .next s₁ → onlyWrites (eventFields ++ tabHOME ++ [FLT.STAT.UCHELD, GCTL.ASTAT.HELD, GCTL.ASTAT.LASTDEC, PERF.ESTAT.OVF, PERF.CNT.SEL.OVF, PERF.CNT.VALUE.COUNT, PERF.CNT.VALUE.OVF, FRAME.XP.BUFSTAT.DED, FRAME.XP.BUFSTAT.SHR, TST.INJSTAT.BUSY, TST.INJSTAT.FIRED]) [.out, .evt, .flt, .decs, .nextDec, .frame, .homes, .homeG, .mgmt, .perf, .blks, .throttle] s₀ s₁) ∧
  (∀ (n : SliceId) (m : HomeMsg) (s₀ s₁ : State), exec (.atom n m) s₀ = .next s₁ → onlyWrites (eventFields ++ tabHOME ++ [FLT.STAT.UCHELD, GCTL.ASTAT.HELD, GCTL.ASTAT.LASTDEC, PERF.ESTAT.OVF, PERF.CNT.SEL.OVF, PERF.CNT.VALUE.COUNT, PERF.CNT.VALUE.OVF, FRAME.XP.BUFSTAT.DED, FRAME.XP.BUFSTAT.SHR, TST.INJSTAT.BUSY, TST.INJSTAT.FIRED]) [.out, .evt, .flt, .decs, .nextDec, .frame, .homes, .homeG, .mgmt, .perf, .blks, .throttle] s₀ s₁) ∧
  (∀ (n : SliceId) (m : HomeMsg) (s₀ s₁ : State), exec (.conf n m) s₀ = .next s₁ → onlyWrites (eventFields ++ tabHOME ++ [FLT.STAT.UCHELD, GCTL.ASTAT.HELD, GCTL.ASTAT.LASTDEC, PERF.ESTAT.OVF, PERF.CNT.SEL.OVF, PERF.CNT.VALUE.COUNT, PERF.CNT.VALUE.OVF, FRAME.XP.BUFSTAT.DED, FRAME.XP.BUFSTAT.SHR, TST.INJSTAT.BUSY, TST.INJSTAT.FIRED]) [.out, .evt, .flt, .decs, .nextDec, .frame, .homes, .homeG, .mgmt, .perf, .blks, .throttle] s₀ s₁) ∧
  (∀ (n : SliceId) (m : HomeMsg) (s₀ s₁ : State), exec (.rsp n m) s₀ = .next s₁ → onlyWrites (eventFields ++ tabHOME ++ [FLT.STAT.UCHELD, GCTL.ASTAT.HELD, GCTL.ASTAT.LASTDEC, PERF.ESTAT.OVF, PERF.CNT.SEL.OVF, PERF.CNT.VALUE.COUNT, PERF.CNT.VALUE.OVF, FRAME.XP.BUFSTAT.DED, FRAME.XP.BUFSTAT.SHR, TST.INJSTAT.BUSY, TST.INJSTAT.FIRED]) [.out, .evt, .flt, .decs, .nextDec, .frame, .homes, .homeG, .mgmt, .perf, .blks, .throttle] s₀ s₁) ∧
  (∀ (n : SliceId) (m : HomeMsg) (s₀ s₁ : State), exec (.pd n m) s₀ = .next s₁ → onlyWrites (eventFields ++ tabHOME ++ [FLT.STAT.UCHELD, GCTL.ASTAT.HELD, GCTL.ASTAT.LASTDEC, PERF.ESTAT.OVF, PERF.CNT.SEL.OVF, PERF.CNT.VALUE.COUNT, PERF.CNT.VALUE.OVF, FRAME.XP.BUFSTAT.DED, FRAME.XP.BUFSTAT.SHR, TST.INJSTAT.BUSY, TST.INJSTAT.FIRED]) [.out, .evt, .flt, .decs, .nextDec, .frame, .homes, .homeG, .mgmt, .perf, .blks, .throttle] s₀ s₁) ∧
  (∀ (n : SliceId) (m : HomeMsg) (s₀ s₁ : State), exec (.pc n m) s₀ = .next s₁ → onlyWrites (eventFields ++ tabHOME ++ [FLT.STAT.UCHELD, GCTL.ASTAT.HELD, GCTL.ASTAT.LASTDEC, PERF.ESTAT.OVF, PERF.CNT.SEL.OVF, PERF.CNT.VALUE.COUNT, PERF.CNT.VALUE.OVF, FRAME.XP.BUFSTAT.DED, FRAME.XP.BUFSTAT.SHR, TST.INJSTAT.BUSY, TST.INJSTAT.FIRED]) [.out, .evt, .flt, .decs, .nextDec, .frame, .homes, .homeG, .mgmt, .perf, .blks, .throttle] s₀ s₁) ∧
  (∀ (n : SliceId) (lk : BitVec 54) (s₀ s₁ : State), exec (.requestOrdered n lk) s₀ = .next s₁ → onlyWrites (eventFields ++ tabHOME ++ [FLT.STAT.UCHELD, GCTL.ASTAT.HELD, GCTL.ASTAT.LASTDEC, PERF.ESTAT.OVF, PERF.CNT.SEL.OVF, PERF.CNT.VALUE.COUNT, PERF.CNT.VALUE.OVF, FRAME.XP.BUFSTAT.DED, FRAME.XP.BUFSTAT.SHR, TST.INJSTAT.BUSY, TST.INJSTAT.FIRED]) [.out, .evt, .flt, .decs, .nextDec, .frame, .homes, .homeG, .mgmt, .perf, .blks, .throttle] s₀ s₁) ∧
  (∀ (n : SliceId) (set : Fin 262144) (s₀ s₁ : State), exec (.carryQueueAllocate n set) s₀ = .next s₁ → onlyWrites (eventFields ++ tabHOME ++ [FLT.STAT.UCHELD, GCTL.ASTAT.HELD, GCTL.ASTAT.LASTDEC, PERF.ESTAT.OVF, PERF.CNT.SEL.OVF, PERF.CNT.VALUE.COUNT, PERF.CNT.VALUE.OVF, FRAME.XP.BUFSTAT.DED, FRAME.XP.BUFSTAT.SHR, TST.INJSTAT.BUSY, TST.INJSTAT.FIRED]) [.out, .evt, .flt, .decs, .nextDec, .frame, .homes, .homeG, .mgmt, .perf, .blks, .throttle] s₀ s₁) ∧
  (∀ (n : SliceId) (b : Fin 64) (v : Word) (s₀ s₁ : State), exec (.hmapWrite n b v) s₀ = .next s₁ → onlyWrites (eventFields ++ [HOME.ESTAT.CFG_ERR, HOME.HMAP.DHN, HOME.HMAP.VALID]) [.evt] s₀ s₁) ∧
  (∀ (v : Word) (s₀ s₁ : State), exec (.rfConvert v) s₀ = .next s₁ → onlyWrites (eventFields ++ [HOME.ESTAT.RF_ERR, HOME.RFCTL.LD, HOME.RFCTL.TO_SHARED, HOME.RFSTAT.BUSY, HOME.RFSTAT.RESULT, HOME.RFSTAT.HELD]) [.evt, .homeG, .boot] s₀ s₁) ∧
  (∀ (s₀ s₁ : State), exec (.rfConvertDone) s₀ = .next s₁ → onlyWrites (eventFields ++ tabACT ++ tabBIND ++ tabHOME ++ [FLT.STAT.UCHELD, GCTL.ASTAT.HELD, GCTL.ASTAT.LASTDEC, PERF.ESTAT.OVF, PERF.TSMISS.COUNT, PERF.CNT.SEL.OVF, PERF.CNT.VALUE.COUNT, PERF.CNT.VALUE.OVF, PORT.TAGSTAT.IN_USE, PORT.TAGSTAT.PEAK, FRAME.XP.BUFSTAT.DED, FRAME.XP.BUFSTAT.SHR, TST.INJSTAT.BUSY, TST.INJSTAT.FIRED]) [.out, .free, .evt, .flt, .decs, .nextDec, .ports, .frame, .bind, .homes, .homeG, .sec, .mgmt, .boot, .perf, .blks, .blkG, .throttle] s₀ s₁) ∧
  (∀ (n : SliceId) (errs : List TallyErr) (s₀ s₁ : State), exec (.scrubPass n errs) s₀ = .next s₁ → onlyWrites (eventFields ++ tabHOME ++ [FLT.STAT.UCHELD, GCTL.ASTAT.HELD, GCTL.ASTAT.LASTDEC, PERF.ESTAT.OVF, PERF.CNT.SEL.OVF, PERF.CNT.VALUE.COUNT, PERF.CNT.VALUE.OVF, FRAME.XP.BUFSTAT.DED, FRAME.XP.BUFSTAT.SHR, TST.INJSTAT.BUSY, TST.INJSTAT.FIRED]) [.now, .out, .evt, .flt, .decs, .nextDec, .frame, .homes, .homeG, .mgmt, .perf, .blks, .throttle] s₀ s₁) ∧
  (∀ (p : PortId) (s₀ s₁ : State), exec (.departureSweepDone p) s₀ = .next s₁ → onlyWrites (eventFields ++ tabCOL ++ tabBIND ++ tabHOME ++ [FLT.STAT.UCHELD, GCTL.ASTAT.HELD, GCTL.ASTAT.LASTDEC, SEC.IDE.IO_STATE, SEC.IDE.CM_STATE, SEC.IDE.KSET, SEC.IDE.ERRCNT, PERF.ESTAT.OVF, PERF.CNT.SEL.OVF, PERF.CNT.VALUE.COUNT, PERF.CNT.VALUE.OVF, PORT.STAT.PSTATE, PORT.STAT.SWEEP, PORT.TAGSTAT.IN_USE, PORT.TAGSTAT.PEAK, FRAME.XP.BUFSTAT.DED, FRAME.XP.BUFSTAT.SHR, FRAME.EG.SCHSTAT.UNIT_PS, FRAME.EG.SCHSTAT.U, TST.INJSTAT.BUSY, TST.INJSTAT.FIRED]) [.out, .evt, .flt, .decs, .nextDec, .cols, .ports, .frame, .bind, .homes, .homeG, .sec, .mgmt, .perf, .blks, .throttle] s₀ s₁) ∧
  (∀ (n : SliceId) (lk : BitVec 54) (s₀ s₁ : State), exec (.atomicDone n lk) s₀ = .next s₁ → onlyWrites (eventFields ++ tabHOME ++ [FLT.STAT.UCHELD, GCTL.ASTAT.HELD, GCTL.ASTAT.LASTDEC, PERF.ESTAT.OVF, PERF.CNT.SEL.OVF, PERF.CNT.VALUE.COUNT, PERF.CNT.VALUE.OVF, FRAME.XP.BUFSTAT.DED, FRAME.XP.BUFSTAT.SHR, TST.INJSTAT.BUSY, TST.INJSTAT.FIRED]) [.out, .evt, .flt, .decs, .nextDec, .frame, .homes, .homeG, .mgmt, .perf, .blks, .throttle] s₀ s₁) ∧
  (∀ (n : SliceId) (lk : BitVec 54) (s₀ s₁ : State), exec (.atomBoardIdle n lk) s₀ = .next s₁ → onlyWrites (eventFields ++ tabHOME ++ [FLT.STAT.UCHELD, GCTL.ASTAT.HELD, GCTL.ASTAT.LASTDEC, PERF.ESTAT.OVF, PERF.CNT.SEL.OVF, PERF.CNT.VALUE.COUNT, PERF.CNT.VALUE.OVF, FRAME.XP.BUFSTAT.DED, FRAME.XP.BUFSTAT.SHR, TST.INJSTAT.BUSY, TST.INJSTAT.FIRED]) [.now, .out, .evt, .flt, .decs, .nextDec, .frame, .homes, .homeG, .mgmt, .perf, .blks, .throttle] s₀ s₁) ∧
  (∀ (n : SliceId) (v : Word) (s₀ s₁ : State), exec (.tallyProbe n v) s₀ = .next s₁ → onlyWrites ([HOME.PROBECTL.DONE, HOME.PROBECTL.NOT_HOME, HOME.PROBECTL.HIT, HOME.PROBECTL.WAY, HOME.PROBECTL.SET, HOME.PROBEDATA.ENTRY]) [] s₀ s₁)

/-- The frame of the commands of 08_sum_engines.md: what each leaves as it was. Every register field outside the list reads as before in every instance, every other part of the state outside the list is the same, and so is the queue. -/
def Obligations.SumFrame : Prop :=
  (∀ (f : FnId) (w : WinId) (aligned : Bool) (d : Line) (s₀ s₁ : State), exec (.windowDescriptor f w aligned d) s₀ = .next s₁ → onlyWrites (eventFields ++ [NOC.PD.STAT.STATE, NOC.PD.STAT.HELD, NOC.PD.STAT.ABORTS, PERF.ESTAT.OVF, PERF.CNT.SEL.OVF, PERF.CNT.VALUE.COUNT, PERF.CNT.VALUE.OVF, SUM.STAT.BUSYWIN, SUM.STAT.QUSE, SUM.ESTAT.STRAY, SUM.ESTAT.FORM, SUM.ESTAT.OPEN_ERR, SUM.STRAYCNT.COUNT, SUM.WIN.STATE, SUM.WIN.LASTERR, SUM.WIN.ARRIVED, SUM.WIN.GEN, SUM.WIN.REG, SUM.WIN.LOSTCNT, SUM.WIN.QUARTERS]) [.evt, .mgmt, .sum, .perf] s₀ s₁) ∧
  (∀ (f : FnId) (w : WinId) (s₀ s₁ : State), exec (.closeDoorbell f w) s₀ = .next s₁ → onlyWrites (eventFields ++ tabSUM ++ [NOC.PD.STAT.STATE, NOC.PD.STAT.HELD, NOC.PD.STAT.ABORTS, PERF.ESTAT.OVF, PERF.CNT.SEL.OVF, PERF.CNT.VALUE.COUNT, PERF.CNT.VALUE.OVF, FRAME.XP.BUFSTAT.DED, FRAME.XP.BUFSTAT.SHR, TST.INJSTAT.BUSY, TST.INJSTAT.FIRED]) [.evt, .flt, .decs, .frame, .mgmt, .sum, .perf] s₀ s₁) ∧
  (∀ (f : FnId) (w : WinId) (s : Fin 512) (whole : Bool) (d : BitVec 128) (s₀ s₁ : State), exec (.slotRegistration f w s whole d) s₀ = .next s₁ → onlyWrites (eventFields ++ [NOC.PD.STAT.STATE, NOC.PD.STAT.HELD, NOC.PD.STAT.ABORTS, SUM.ESTAT.STRAY, SUM.STRAYCNT.COUNT, SUM.WIN.ARRIVED, SUM.WIN.REG, SUM.WIN.LOSTCNT]) [.evt, .mgmt, .sum] s₀ s₁) ∧
  (∀ (f : FnId) (w : WinId) (s : Fin 512) (first : Fin 64) (whole : Bool) (poison : Bool) (lines : List Line) (s₀ s₁ : State), exec (.contribution f w s first whole poison lines) s₀ = .next s₁ → onlyWrites (eventFields ++ tabBIND ++ tabSUM ++ [FLT.STAT.UCHELD, GCTL.ASTAT.HELD, GCTL.ASTAT.LASTDEC, NOC.PD.STAT.STATE, NOC.PD.STAT.HELD, NOC.PD.STAT.ABORTS, PERF.ESTAT.OVF, PERF.TSMISS.COUNT, PERF.CNT.SEL.OVF, PERF.CNT.VALUE.COUNT, PERF.CNT.VALUE.OVF, PORT.TAGSTAT.IN_USE, PORT.TAGSTAT.PEAK, HOME.ESTAT.HMAP_MISS, HOME.RFSTAT.HELD, FRAME.XP.BUFSTAT.DED, FRAME.XP.BUFSTAT.SHR, TST.INJSTAT.BUSY, TST.INJSTAT.FIRED]) [.out, .free, .evt, .flt, .decs, .nextDec, .ports, .frame, .bind, .homeG, .sec, .mgmt, .boot, .sum, .perf, .blkG] s₀ s₁) ∧
  (∀ (f : FnId) (offset : BitVec 31) (s₀ s₁ : State), exec (.bar2StrayWrite f offset) s₀ = .next s₁ → onlyWrites (eventFields ++ [NOC.PD.STAT.STATE, NOC.PD.STAT.HELD, NOC.PD.STAT.ABORTS, SUM.ESTAT.STRAY, SUM.STRAYCNT.COUNT]) [.evt, .mgmt] s₀ s₁) ∧
  (∀ (w : WinId) (s₀ s₁ : State), exec (.resultWritesDone w) s₀ = .next s₁ → onlyWrites (eventFields ++ [PERF.ESTAT.OVF, PERF.CNT.SEL.OVF, PERF.CNT.VALUE.COUNT, PERF.CNT.VALUE.OVF, FRAME.XP.BUFSTAT.DED, FRAME.XP.BUFSTAT.SHR, SUM.STAT.BUSYWIN, SUM.STAT.QUSE, SUM.ABORTCNT.COUNT, SUM.WIN.STATE, SUM.WIN.LASTERR, SUM.WIN.ARRIVED, SUM.WIN.GEN, SUM.WIN.REG, SUM.WIN.LOSTCNT, SUM.WIN.QUARTERS, TST.INJSTAT.BUSY, TST.INJSTAT.FIRED]) [.evt, .flt, .frame, .mgmt, .sum, .perf] s₀ s₁) ∧
  (∀ (w : WinId) (s₀ s₁ : State), exec (.windowTimerExpiry w) s₀ = .next s₁ → onlyWrites (eventFields ++ tabBIND ++ tabSUM ++ [FLT.STAT.UCHELD, GCTL.ASTAT.HELD, GCTL.ASTAT.LASTDEC, PERF.ESTAT.OVF, PERF.TSMISS.COUNT, PERF.CNT.SEL.OVF, PERF.CNT.VALUE.COUNT, PERF.CNT.VALUE.OVF, PORT.TAGSTAT.IN_USE, PORT.TAGSTAT.PEAK, HOME.ESTAT.HMAP_MISS, HOME.RFSTAT.HELD, FRAME.XP.BUFSTAT.DED, FRAME.XP.BUFSTAT.SHR, TST.INJSTAT.BUSY, TST.INJSTAT.FIRED]) [.now, .out, .free, .evt, .flt, .decs, .nextDec, .ports, .frame, .bind, .homeG, .sec, .mgmt, .boot, .sum, .perf, .blkG] s₀ s₁) ∧
  (∀ (f : FnId) (engine1 : Bool) (aligned : Bool) (d : Line) (s₀ s₁ : State), exec (.farAtomicCommand f engine1 aligned d) s₀ = .next s₁ → onlyWrites (eventFields ++ tabACT ++ tabBIND ++ [NOC.PD.STAT.STATE, NOC.PD.STAT.HELD, NOC.PD.STAT.ABORTS, PERF.ESTAT.OVF, PERF.TSMISS.COUNT, PERF.CNT.SEL.OVF, PERF.CNT.VALUE.COUNT, PERF.CNT.VALUE.OVF, PORT.TAGSTAT.IN_USE, PORT.TAGSTAT.PEAK, HOME.ESTAT.HMAP_MISS, HOME.RFSTAT.HELD, FRAME.XP.BUFSTAT.DED, FRAME.XP.BUFSTAT.SHR, SUM.ESTAT.ATOM_ERR, SUM.ATOMCNT.COUNT, SUM.ATOMERR.COUNT, TST.INJSTAT.BUSY, TST.INJSTAT.FIRED]) [.out, .free, .evt, .flt, .ports, .frame, .bind, .homeG, .sec, .mgmt, .boot, .sum, .dmv, .perf, .blkG] s₀ s₁)

/-- The frame of the commands of 09_data_mover_and_functions.md: what each leaves as it was. Every register field outside the list reads as before in every instance, every other part of the state outside the list is the same, and so is the queue. -/
def Obligations.DataMoverFrame : Prop :=
  (∀ (f : FnId) (q : Fin 4) (v : Word) (s₀ s₁ : State), exec (.sqDoorbell f q v) s₀ = .next s₁ → onlyWrites (eventFields ++ [NOC.PD.STAT.STATE, NOC.PD.STAT.HELD, NOC.PD.STAT.ABORTS, PERF.ESTAT.OVF, PERF.CNT.SEL.OVF, PERF.CNT.VALUE.COUNT, PERF.CNT.VALUE.OVF, FRAME.XP.BUFSTAT.DED, FRAME.XP.BUFSTAT.SHR, FN.STAT.SQ_ERR, FN.SQ.STAT.STATE, TST.INJSTAT.BUSY, TST.INJSTAT.FIRED]) [.evt, .flt, .frame, .mgmt, .dmv, .perf] s₀ s₁) ∧
  (∀ (f : FnId) (v : Word) (s₀ s₁ : State), exec (.cqDoorbell f v) s₀ = .next s₁ → onlyWrites (eventFields ++ [NOC.PD.STAT.STATE, NOC.PD.STAT.HELD, NOC.PD.STAT.ABORTS, PERF.ESTAT.OVF, PERF.CNT.SEL.OVF, PERF.CNT.VALUE.COUNT, PERF.CNT.VALUE.OVF, FRAME.XP.BUFSTAT.DED, FRAME.XP.BUFSTAT.SHR, FN.STAT.CQ_ERR, FN.CQ.CFG.EN, FN.CQ.STAT.FULL, TST.INJSTAT.BUSY, TST.INJSTAT.FIRED]) [.evt, .flt, .frame, .mgmt, .dmv, .perf] s₀ s₁) ∧
  (∀ (f : FnId) (q : Fin 4) (ds : List Line) (s₀ s₁ : State), exec (.descriptorFetch f q ds) s₀ = .next s₁ → onlyWrites (eventFields ++ tabACT ++ tabBIND ++ [PERF.ESTAT.OVF, PERF.TSMISS.COUNT, PERF.CNT.SEL.OVF, PERF.CNT.VALUE.COUNT, PERF.CNT.VALUE.OVF, PORT.TAGSTAT.IN_USE, PORT.TAGSTAT.PEAK, HOME.ESTAT.HMAP_MISS, HOME.RFSTAT.HELD, FRAME.XP.BUFSTAT.DED, FRAME.XP.BUFSTAT.SHR, FN.SQ.STAT.HEAD, TST.INJSTAT.BUSY, TST.INJSTAT.FIRED]) [.out, .free, .evt, .flt, .ports, .frame, .bind, .homeG, .sec, .mgmt, .boot, .dmv, .perf, .blkG] s₀ s₁) ∧
  (∀ (f : FnId) (q : Fin 4) (idx : Fin 4096) (src : List Byte) (bad : List Nat) (s₀ s₁ : State), exec (.copy f q idx src bad) s₀ = .next s₁ → onlyWrites (eventFields ++ tabACT ++ tabBIND ++ [PERF.ESTAT.OVF, PERF.TSMISS.COUNT, PERF.CNT.SEL.OVF, PERF.CNT.VALUE.COUNT, PERF.CNT.VALUE.OVF, PORT.TAGSTAT.IN_USE, PORT.TAGSTAT.PEAK, HOME.ESTAT.HMAP_MISS, HOME.RFSTAT.HELD, FRAME.XP.BUFSTAT.DED, FRAME.XP.BUFSTAT.SHR, TST.INJSTAT.BUSY, TST.INJSTAT.FIRED]) [.out, .free, .evt, .flt, .ports, .frame, .bind, .homeG, .sec, .mgmt, .boot, .dmv, .perf, .blkG] s₀ s₁) ∧
  (∀ (f : FnId) (q : Fin 4) (idx : Fin 4096) (s₀ s₁ : State), exec (.fill f q idx) s₀ = .next s₁ → onlyWrites (eventFields ++ tabACT ++ tabBIND ++ [PERF.ESTAT.OVF, PERF.TSMISS.COUNT, PERF.CNT.SEL.OVF, PERF.CNT.VALUE.COUNT, PERF.CNT.VALUE.OVF, PORT.TAGSTAT.IN_USE, PORT.TAGSTAT.PEAK, HOME.ESTAT.HMAP_MISS, HOME.RFSTAT.HELD, FRAME.XP.BUFSTAT.DED, FRAME.XP.BUFSTAT.SHR, TST.INJSTAT.BUSY, TST.INJSTAT.FIRED]) [.out, .free, .evt, .flt, .ports, .frame, .bind, .homeG, .sec, .mgmt, .boot, .dmv, .perf, .blkG] s₀ s₁) ∧
  (∀ (f : FnId) (q : Fin 4) (idx : Fin 4096) (s₀ s₁ : State), exec (.zero f q idx) s₀ = .next s₁ → onlyWrites (eventFields ++ tabACT ++ tabBIND ++ [PERF.ESTAT.OVF, PERF.TSMISS.COUNT, PERF.CNT.SEL.OVF, PERF.CNT.VALUE.COUNT, PERF.CNT.VALUE.OVF, PORT.TAGSTAT.IN_USE, PORT.TAGSTAT.PEAK, HOME.ESTAT.HMAP_MISS, HOME.RFSTAT.HELD, FRAME.XP.BUFSTAT.DED, FRAME.XP.BUFSTAT.SHR, TST.INJSTAT.BUSY, TST.INJSTAT.FIRED]) [.out, .free, .evt, .flt, .ports, .frame, .bind, .homeG, .sec, .mgmt, .boot, .dmv, .perf, .blkG] s₀ s₁) ∧
  (∀ (f : FnId) (q : Fin 4) (idx : Fin 4096) (src : List Byte) (s₀ s₁ : State), exec (.crc f q idx src) s₀ = .next s₁ → onlyWrites (eventFields ++ tabACT ++ tabBIND ++ [PERF.ESTAT.OVF, PERF.TSMISS.COUNT, PERF.CNT.SEL.OVF, PERF.CNT.VALUE.COUNT, PERF.CNT.VALUE.OVF, PORT.TAGSTAT.IN_USE, PORT.TAGSTAT.PEAK, HOME.ESTAT.HMAP_MISS, HOME.RFSTAT.HELD, FRAME.XP.BUFSTAT.DED, FRAME.XP.BUFSTAT.SHR, TST.INJSTAT.BUSY, TST.INJSTAT.FIRED]) [.out, .free, .evt, .flt, .ports, .frame, .bind, .homeG, .sec, .mgmt, .boot, .dmv, .perf, .blkG] s₀ s₁) ∧
  (∀ (f : FnId) (q : Fin 4) (idx : Fin 4096) (src dst : List Byte) (s₀ s₁ : State), exec (.compare f q idx src dst) s₀ = .next s₁ → onlyWrites (eventFields ++ tabACT ++ tabBIND ++ [PERF.ESTAT.OVF, PERF.TSMISS.COUNT, PERF.CNT.SEL.OVF, PERF.CNT.VALUE.COUNT, PERF.CNT.VALUE.OVF, PORT.TAGSTAT.IN_USE, PORT.TAGSTAT.PEAK, HOME.ESTAT.HMAP_MISS, HOME.RFSTAT.HELD, FRAME.XP.BUFSTAT.DED, FRAME.XP.BUFSTAT.SHR, TST.INJSTAT.BUSY, TST.INJSTAT.FIRED]) [.out, .free, .evt, .flt, .ports, .frame, .bind, .homeG, .sec, .mgmt, .boot, .dmv, .perf, .blkG] s₀ s₁) ∧
  (∀ (f : FnId) (q : Fin 4) (idx : Fin 4096) (s₀ s₁ : State), exec (.atomic f q idx) s₀ = .next s₁ → onlyWrites (eventFields ++ tabACT ++ tabBIND ++ [PERF.ESTAT.OVF, PERF.TSMISS.COUNT, PERF.CNT.SEL.OVF, PERF.CNT.VALUE.COUNT, PERF.CNT.VALUE.OVF, PORT.TAGSTAT.IN_USE, PORT.TAGSTAT.PEAK, HOME.ESTAT.HMAP_MISS, HOME.RFSTAT.HELD, FRAME.XP.BUFSTAT.DED, FRAME.XP.BUFSTAT.SHR, SUM.ESTAT.ATOM_ERR, SUM.ATOMCNT.COUNT, SUM.ATOMERR.COUNT, TST.INJSTAT.BUSY, TST.INJSTAT.FIRED]) [.out, .free, .evt, .flt, .ports, .frame, .bind, .homeG, .sec, .mgmt, .boot, .sum, .dmv, .perf, .blkG] s₀ s₁) ∧
  (∀ (r : Fin 2) (tc : TcId) (s₀ s₁ : State), exec (.reKey r tc) s₀ = .next s₁ → onlyWrites (eventFields ++ [NOC.PD.STAT.STATE, NOC.PD.STAT.HELD, NOC.PD.STAT.ABORTS, PERF.ESTAT.OVF, PERF.CNT.SEL.OVF, PERF.CNT.VALUE.COUNT, PERF.CNT.VALUE.OVF, FRAME.XP.BUFSTAT.DED, FRAME.XP.BUFSTAT.SHR, TST.INJSTAT.BUSY, TST.INJSTAT.FIRED]) [.evt, .flt, .frame, .sec, .mgmt, .perf] s₀ s₁) ∧
  (∀ (m : Fin 2) (block : Nat) (tc : TcId) (s₀ s₁ : State), exec (.migrate m block tc) s₀ = .next s₁ → onlyWrites (eventFields ++ tabACT ++ tabBIND ++ [NOC.PD.STAT.STATE, NOC.PD.STAT.HELD, NOC.PD.STAT.ABORTS, PERF.ESTAT.OVF, PERF.TSMISS.COUNT, PERF.CNT.SEL.OVF, PERF.CNT.VALUE.COUNT, PERF.CNT.VALUE.OVF, PORT.TAGSTAT.IN_USE, PORT.TAGSTAT.PEAK, HOME.ESTAT.HMAP_MISS, HOME.RFSTAT.HELD, FRAME.XP.BUFSTAT.DED, FRAME.XP.BUFSTAT.SHR, TST.INJSTAT.BUSY, TST.INJSTAT.FIRED]) [.out, .free, .evt, .flt, .ports, .frame, .bind, .homeG, .sec, .mgmt, .boot, .perf, .blkG] s₀ s₁) ∧
  (∀ (f : FnId) (q : Fin 4) (idx : Fin 4096) (status : Fin 11) (bytes : Nat) (s₀ s₁ : State), exec (.descriptorDone f q idx status bytes) s₀ = .next s₁ → onlyWrites (eventFields ++ [PERF.ESTAT.OVF, PERF.CNT.SEL.OVF, PERF.CNT.VALUE.COUNT, PERF.CNT.VALUE.OVF, DMV.ERRCNT.COUNT, FN.SQ.STAT.STATE]) [.evt, .dmv, .perf] s₀ s₁) ∧
  (∀ (f : FnId) (s₀ s₁ : State), exec (.cqEntryWrite f) s₀ = .next s₁ → onlyWrites (eventFields ++ tabACT ++ tabBIND ++ [PERF.ESTAT.OVF, PERF.TSMISS.COUNT, PERF.CNT.SEL.OVF, PERF.CNT.VALUE.COUNT, PERF.CNT.VALUE.OVF, PORT.TAGSTAT.IN_USE, PORT.TAGSTAT.PEAK, HOME.ESTAT.HMAP_MISS, HOME.RFSTAT.HELD, FRAME.XP.BUFSTAT.DED, FRAME.XP.BUFSTAT.SHR, FN.CQ.CFG.EN, FN.SQ.STAT.STATE, FN.CQ.STAT.TAIL, FN.CQ.STAT.PHASE, FN.CQ.STAT.FULL, TST.INJSTAT.BUSY, TST.INJSTAT.FIRED]) [.out, .free, .evt, .flt, .ports, .frame, .bind, .homeG, .sec, .mgmt, .boot, .dmv, .perf, .blkG] s₀ s₁) ∧
  (∀ (f : FnId) (s₀ s₁ : State), exec (.cqCoalesceTimeout f) s₀ = .next s₁ → onlyWrites (eventFields ++ [PERF.ESTAT.OVF, PERF.CNT.SEL.OVF, PERF.CNT.VALUE.COUNT, PERF.CNT.VALUE.OVF, FRAME.XP.BUFSTAT.DED, FRAME.XP.BUFSTAT.SHR, TST.INJSTAT.BUSY, TST.INJSTAT.FIRED]) [.now, .evt, .flt, .frame, .mgmt, .dmv, .perf] s₀ s₁) ∧
  (∀ (f : FnId) (q : QueueSel) (v : Word) (s₀ s₁ : State), exec (.queueEnable f q v) s₀ = .next s₁ → onlyWrites (eventFields ++ [NOC.PD.STAT.STATE, NOC.PD.STAT.HELD, NOC.PD.STAT.ABORTS, FN.STAT.STATE, FN.SQ.CFG.EN, FN.CQ.CFG.EN, FN.SQ.CFG.LOGSIZE, FN.CQ.CFG.LOGSIZE, FN.CQ.CFG.VEC, FN.CQ.CFG.COUNT, FN.CQ.CFG.TIME, FN.SQ.STAT.HEAD, FN.SQ.STAT.STATE, FN.CQ.STAT.TAIL, FN.CQ.STAT.PHASE, FN.CQ.STAT.FULL]) [.evt, .mgmt, .dmv] s₀ s₁) ∧
  (∀ (f : FnId) (v : Word) (s₀ s₁ : State), exec (.fcfgWrite f v) s₀ = .next s₁ → onlyWrites (eventFields ++ [NOC.PD.STAT.STATE, NOC.PD.STAT.HELD, NOC.PD.STAT.ABORTS, PERF.ESTAT.OVF, PERF.CNT.SEL.OVF, PERF.CNT.VALUE.COUNT, PERF.CNT.VALUE.OVF, FRAME.XP.BUFSTAT.DED, FRAME.XP.BUFSTAT.SHR, DMV.FN.FCFG.MAXSQ, DMV.FN.FCFG.SHARE, DMV.FN.FCFG.RATE, FN.STAT.RES_CHG, FN.SQ.STAT.STATE, TST.INJSTAT.BUSY, TST.INJSTAT.FIRED]) [.evt, .flt, .frame, .mgmt, .dmv, .perf] s₀ s₁) ∧
  (∀ (v : Word) (s₀ s₁ : State), exec (.freeze v) s₀ = .next s₁ → onlyWrites (eventFields ++ tabACT ++ tabBIND ++ tabFN ++ [NOC.PD.STAT.STATE, NOC.PD.STAT.HELD, NOC.PD.STAT.ABORTS, PERF.ESTAT.OVF, PERF.TSMISS.COUNT, PERF.CNT.SEL.OVF, PERF.CNT.VALUE.COUNT, PERF.CNT.VALUE.OVF, PORT.TAGSTAT.IN_USE, PORT.TAGSTAT.PEAK, HOME.ESTAT.HMAP_MISS, HOME.RFSTAT.HELD, FRAME.XP.BUFSTAT.DED, FRAME.XP.BUFSTAT.SHR, DMV.FRZCTL.FN, DMV.FRZCTL.OP, DMV.FRZSTAT.BUSY, DMV.FRZSTAT.RESULT, TST.INJSTAT.BUSY, TST.INJSTAT.FIRED]) [.out, .free, .evt, .flt, .ports, .frame, .bind, .homeG, .sec, .mgmt, .boot, .dmv, .perf, .blkG] s₀ s₁) ∧
  (∀ (s₀ s₁ : State), exec (.freezeComplete) s₀ = .next s₁ → onlyWrites (eventFields ++ tabACT ++ tabBIND ++ tabFN ++ [PERF.ESTAT.OVF, PERF.TSMISS.COUNT, PERF.CNT.SEL.OVF, PERF.CNT.VALUE.COUNT, PERF.CNT.VALUE.OVF, PORT.TAGSTAT.IN_USE, PORT.TAGSTAT.PEAK, HOME.ESTAT.HMAP_MISS, HOME.RFSTAT.HELD, FRAME.XP.BUFSTAT.DED, FRAME.XP.BUFSTAT.SHR, DMV.FRZSTAT.BUSY, DMV.FRZSTAT.RESULT, TST.INJSTAT.BUSY, TST.INJSTAT.FIRED]) [.out, .free, .evt, .flt, .ports, .frame, .bind, .homeG, .sec, .mgmt, .boot, .dmv, .perf, .blkG] s₀ s₁) ∧
  (∀ (v : Word) (s₀ s₁ : State), exec (.save v) s₀ = .next s₁ → onlyWrites (eventFields ++ tabACT ++ tabBIND ++ tabFN ++ [NOC.PD.STAT.STATE, NOC.PD.STAT.HELD, NOC.PD.STAT.ABORTS, PERF.ESTAT.OVF, PERF.TSMISS.COUNT, PERF.CNT.SEL.OVF, PERF.CNT.VALUE.COUNT, PERF.CNT.VALUE.OVF, PORT.TAGSTAT.IN_USE, PORT.TAGSTAT.PEAK, HOME.ESTAT.HMAP_MISS, HOME.RFSTAT.HELD, FRAME.XP.BUFSTAT.DED, FRAME.XP.BUFSTAT.SHR, DMV.FRZCTL.FN, DMV.FRZCTL.OP, DMV.FRZSTAT.BUSY, DMV.FRZSTAT.RESULT, TST.INJSTAT.BUSY, TST.INJSTAT.FIRED]) [.out, .free, .evt, .flt, .ports, .frame, .bind, .homeG, .sec, .mgmt, .boot, .dmv, .perf, .blkG] s₀ s₁) ∧
  (∀ (v : Word) (b : VfBlob) (s₀ s₁ : State), exec (.restore v b) s₀ = .next s₁ → onlyWrites (eventFields ++ tabACT ++ tabBIND ++ tabFN ++ [NOC.PD.STAT.STATE, NOC.PD.STAT.HELD, NOC.PD.STAT.ABORTS, PERF.ESTAT.OVF, PERF.TSMISS.COUNT, PERF.CNT.SEL.OVF, PERF.CNT.VALUE.COUNT, PERF.CNT.VALUE.OVF, PORT.TAGSTAT.IN_USE, PORT.TAGSTAT.PEAK, HOME.ESTAT.HMAP_MISS, HOME.RFSTAT.HELD, FRAME.XP.BUFSTAT.DED, FRAME.XP.BUFSTAT.SHR, DMV.FRZCTL.FN, DMV.FRZCTL.OP, DMV.FRZSTAT.BUSY, DMV.FRZSTAT.RESULT, TST.INJSTAT.BUSY, TST.INJSTAT.FIRED]) [.out, .free, .evt, .flt, .ports, .frame, .bind, .homeG, .sec, .mgmt, .boot, .dmv, .perf, .blkG] s₀ s₁) ∧
  (∀ (v : Word) (s₀ s₁ : State), exec (.unfreeze v) s₀ = .next s₁ → onlyWrites (eventFields ++ tabACT ++ tabBIND ++ tabFN ++ [NOC.PD.STAT.STATE, NOC.PD.STAT.HELD, NOC.PD.STAT.ABORTS, PERF.ESTAT.OVF, PERF.TSMISS.COUNT, PERF.CNT.SEL.OVF, PERF.CNT.VALUE.COUNT, PERF.CNT.VALUE.OVF, PORT.TAGSTAT.IN_USE, PORT.TAGSTAT.PEAK, HOME.ESTAT.HMAP_MISS, HOME.RFSTAT.HELD, FRAME.XP.BUFSTAT.DED, FRAME.XP.BUFSTAT.SHR, DMV.FRZCTL.FN, DMV.FRZCTL.OP, DMV.FRZSTAT.BUSY, DMV.FRZSTAT.RESULT, TST.INJSTAT.BUSY, TST.INJSTAT.FIRED]) [.out, .free, .evt, .flt, .ports, .frame, .bind, .homeG, .sec, .mgmt, .boot, .dmv, .perf, .blkG] s₀ s₁) ∧
  (∀ (v : Word) (s₀ s₁ : State), exec (.freezeDiscard v) s₀ = .next s₁ → onlyWrites (eventFields ++ tabACT ++ tabBIND ++ tabFN ++ [NOC.PD.STAT.STATE, NOC.PD.STAT.HELD, NOC.PD.STAT.ABORTS, PERF.ESTAT.OVF, PERF.TSMISS.COUNT, PERF.CNT.SEL.OVF, PERF.CNT.VALUE.COUNT, PERF.CNT.VALUE.OVF, PORT.TAGSTAT.IN_USE, PORT.TAGSTAT.PEAK, HOME.ESTAT.HMAP_MISS, HOME.RFSTAT.HELD, FRAME.XP.BUFSTAT.DED, FRAME.XP.BUFSTAT.SHR, DMV.FRZCTL.FN, DMV.FRZCTL.OP, DMV.FRZSTAT.BUSY, DMV.FRZSTAT.RESULT, TST.INJSTAT.BUSY, TST.INJSTAT.FIRED]) [.out, .free, .evt, .flt, .ports, .frame, .bind, .homeG, .sec, .mgmt, .boot, .dmv, .perf, .blkG] s₀ s₁) ∧
  (∀ (f : FnId) (c : FnResetCause) (s₀ s₁ : State), exec (.functionReset f c) s₀ = .next s₁ → onlyWrites (eventFields ++ tabFN ++ [NOC.PD.STAT.STATE, NOC.PD.STAT.HELD, NOC.PD.STAT.ABORTS, DMV.FRZSTAT.BUSY, DMV.FRZSTAT.RESULT, DMV.ERRCNT.COUNT]) [.evt, .mgmt, .dmv] s₀ s₁) ∧
  (∀ (v : Word) (s₀ s₁ : State), exec (.cryptoErase v) s₀ = .next s₁ → onlyWrites (eventFields ++ [NOC.PD.STAT.STATE, NOC.PD.STAT.HELD, NOC.PD.STAT.ABORTS, DMV.ERASECTL.LD, DMV.ERASECTL.ZERO, DMV.ERASESTAT.BUSY, DMV.ERASESTAT.RESULT]) [.evt, .sec, .mgmt, .boot, .dmv] s₀ s₁) ∧
  (∀ (s₀ s₁ : State), exec (.eraseZeroDone) s₀ = .next s₁ → onlyWrites (eventFields ++ [DMV.ERASESTAT.BUSY]) [.evt, .dmv] s₀ s₁)

/-- The frame of the commands of 10_beamlinks_and_cascade.md: what each leaves as it was. Every register field outside the list reads as before in every instance, every other part of the state outside the list is the same, and so is the queue. -/
def Obligations.BeamlinkFrame : Prop :=
  (∀ (n : BlkId) (correctable : Bool) (corrected : List (Fin 9)) (s₀ s₁ : State), exec (.codewordReceived n correctable corrected) s₀ = .next s₁ → onlyWrites (eventFields ++ tabACT ++ tabBIND ++ tabBLK ++ tabBLKC ++ [FLT.STAT.UCHELD, FLT.UNIT.EPOCH, FLT.UNIT.STATE, FLT.UNIT.ROLE, GCTL.ASTAT.HELD, NOC.PD.STAT.STATE, NOC.PD.STAT.HELD, NOC.PD.STAT.ABORTS, TIME.STAT.STATE, PERF.ESTAT.OVF, PERF.TSMISS.COUNT, PERF.CNT.SEL.OVF, PERF.CNT.VALUE.COUNT, PERF.CNT.VALUE.OVF, PORT.TAGSTAT.IN_USE, PORT.TAGSTAT.PEAK, HOME.ESTAT.HMAP_MISS, HOME.RFSTAT.HELD, FRAME.XP.BUFSTAT.DED, FRAME.XP.BUFSTAT.SHR, TST.INJSTAT.BUSY, TST.INJSTAT.FIRED]) [.out, .free, .evt, .flt, .decs, .ports, .frame, .bind, .homeG, .sec, .mgmt, .boot, .perf, .blks, .blkG] s₀ s₁) ∧
  (∀ (n : BlkId) (h : BeadHdr) (pkts : List LinkPkt) (s₀ s₁ : State), exec (.dataBead n h pkts) s₀ = .next s₁ → onlyWrites (eventFields ++ tabACT ++ tabBIND ++ tabBLK ++ tabBLKC ++ [TIME.STAT.STATE, PERF.ESTAT.OVF, PERF.TSMISS.COUNT, PERF.CNT.SEL.OVF, PERF.CNT.VALUE.COUNT, PERF.CNT.VALUE.OVF, PORT.TAGSTAT.IN_USE, PORT.TAGSTAT.PEAK, HOME.ESTAT.HMAP_MISS, HOME.RFSTAT.HELD, FRAME.XP.BUFSTAT.DED, FRAME.XP.BUFSTAT.SHR, FRAME.XP.ESTAT.STALE, FRAME.XP.STALECNT.COUNT, TST.INJSTAT.BUSY, TST.INJSTAT.FIRED]) [.out, .free, .evt, .flt, .ports, .frame, .bind, .homeG, .sec, .mgmt, .boot, .perf, .blks, .blkG] s₀ s₁) ∧
  (∀ (n : BlkId) (s₀ s₁ : State), exec (.beadCrcFail n) s₀ = .next s₁ → onlyWrites ([BLK.CRCCNT.COUNT]) [] s₀ s₁) ∧
  (∀ (n : BlkId) (h : BeadHdr) (credits : List (BitVec 12)) (s₀ s₁ : State), exec (.idleBead n h credits) s₀ = .next s₁ → onlyWrites (eventFields ++ tabACT ++ tabBIND ++ tabBLK ++ tabBLKC ++ [TIME.STAT.STATE, PERF.ESTAT.OVF, PERF.TSMISS.COUNT, PERF.CNT.SEL.OVF, PERF.CNT.VALUE.COUNT, PERF.CNT.VALUE.OVF, PORT.TAGSTAT.IN_USE, PORT.TAGSTAT.PEAK, HOME.ESTAT.HMAP_MISS, HOME.RFSTAT.HELD, FRAME.XP.BUFSTAT.DED, FRAME.XP.BUFSTAT.SHR, TST.INJSTAT.BUSY, TST.INJSTAT.FIRED]) [.out, .free, .evt, .flt, .ports, .frame, .bind, .homeG, .sec, .mgmt, .boot, .perf, .blks, .blkG] s₀ s₁) ∧
  (∀ (n : BlkId) (s₀ s₁ : State), exec (.retransmitTimeout n) s₀ = .next s₁ → onlyWrites (eventFields ++ tabACT ++ tabBIND ++ tabBLK ++ tabBLKC ++ [FLT.STAT.UCHELD, GCTL.ASTAT.HELD, TIME.STAT.STATE, PERF.ESTAT.OVF, PERF.TSMISS.COUNT, PERF.CNT.SEL.OVF, PERF.CNT.VALUE.COUNT, PERF.CNT.VALUE.OVF, PORT.TAGSTAT.IN_USE, PORT.TAGSTAT.PEAK, HOME.ESTAT.HMAP_MISS, HOME.RFSTAT.HELD, FRAME.XP.BUFSTAT.DED, FRAME.XP.BUFSTAT.SHR, TST.INJSTAT.BUSY, TST.INJSTAT.FIRED]) [.now, .out, .free, .evt, .flt, .decs, .ports, .frame, .bind, .homeG, .sec, .mgmt, .boot, .perf, .blks, .blkG] s₀ s₁) ∧
  (∀ (n : BlkId) (cseq : BitVec 8) (id : Fin 8) (link : Fin 8) (stepping : Fin 16) (domain : Word) (mcand coarse : Bool) (hmapCrc : Word) (nonce : BitVec 64) (s₀ s₁ : State), exec (.hello n cseq id link stepping domain mcand coarse hmapCrc nonce) s₀ = .next s₁ → onlyWrites (eventFields ++ tabACT ++ tabBIND ++ tabBLK ++ tabBLKC ++ [TIME.STAT.STATE, PERF.ESTAT.OVF, PERF.TSMISS.COUNT, PERF.CNT.SEL.OVF, PERF.CNT.VALUE.COUNT, PERF.CNT.VALUE.OVF, PORT.TAGSTAT.IN_USE, PORT.TAGSTAT.PEAK, HOME.ESTAT.HMAP_MISS, HOME.RFSTAT.HELD, FRAME.XP.BUFSTAT.DED, FRAME.XP.BUFSTAT.SHR, TST.INJSTAT.BUSY, TST.INJSTAT.FIRED]) [.out, .free, .evt, .flt, .ports, .frame, .bind, .homeG, .sec, .mgmt, .boot, .perf, .blks, .blkG] s₀ s₁) ∧
  (∀ (n : BlkId) (cseq : BitVec 8) (macOk : Bool) (s₀ s₁ : State), exec (.helloAck n cseq macOk) s₀ = .next s₁ → onlyWrites (eventFields ++ tabACT ++ tabBIND ++ tabBLKC ++ [TIME.STAT.STATE, PERF.ESTAT.OVF, PERF.TSMISS.COUNT, PERF.CNT.SEL.OVF, PERF.CNT.VALUE.COUNT, PERF.CNT.VALUE.OVF, PORT.TAGSTAT.IN_USE, PORT.TAGSTAT.PEAK, HOME.ESTAT.HMAP_MISS, HOME.RFSTAT.HELD, FRAME.XP.BUFSTAT.DED, FRAME.XP.BUFSTAT.SHR, BLK.STAT.LSTATE, BLK.STAT.RELAYING, BLK.STAT.FAILCAUSE, BLK.ESTAT.HELLO_FAIL, TST.INJSTAT.BUSY, TST.INJSTAT.FIRED]) [.out, .free, .evt, .flt, .ports, .frame, .bind, .homeG, .sec, .mgmt, .boot, .perf, .blks, .blkG] s₀ s₁) ∧
  (∀ (n : BlkId) (cseq : BitVec 8) (pos : Fin 8) (cwcnt : BitVec 12) (s₀ s₁ : State), exec (.laneSub n cseq pos cwcnt) s₀ = .next s₁ → onlyWrites ([]) [.out, .blks] s₀ s₁) ∧
  (∀ (n : BlkId) (cseq : BitVec 8) (pos : Fin 8) (cwcnt : BitVec 12) (s₀ s₁ : State), exec (.laneSubAck n cseq pos cwcnt) s₀ = .next s₁ → onlyWrites ([]) [.blks] s₀ s₁) ∧
  (∀ (n : BlkId) (cseq : BitVec 8) (failed : Fin 8) (rxexp : BitVec 16) (s₀ s₁ : State), exec (.handoff n cseq failed rxexp) s₀ = .next s₁ → onlyWrites (eventFields ++ tabACT ++ tabBIND ++ tabBLK ++ tabBLKC ++ [FLT.STAT.UCHELD, FLT.UNIT.EPOCH, FLT.UNIT.STATE, FLT.UNIT.ROLE, GCTL.ASTAT.HELD, NOC.PD.STAT.STATE, NOC.PD.STAT.HELD, NOC.PD.STAT.ABORTS, TIME.STAT.STATE, PERF.ESTAT.OVF, PERF.TSMISS.COUNT, PERF.CNT.SEL.OVF, PERF.CNT.VALUE.COUNT, PERF.CNT.VALUE.OVF, PORT.TAGSTAT.IN_USE, PORT.TAGSTAT.PEAK, HOME.ESTAT.HMAP_MISS, HOME.RFSTAT.HELD, FRAME.XP.BUFSTAT.DED, FRAME.XP.BUFSTAT.SHR, FRAME.XP.UNITEP.EPOCH, TST.INJSTAT.BUSY, TST.INJSTAT.FIRED]) [.out, .free, .evt, .flt, .decs, .ports, .frame, .bind, .homeG, .sec, .mgmt, .boot, .perf, .blks, .blkG] s₀ s₁) ∧
  (∀ (n : BlkId) (cseq : BitVec 8) (failed : Fin 8) (rxexp : BitVec 16) (s₀ s₁ : State), exec (.handoffAck n cseq failed rxexp) s₀ = .next s₁ → onlyWrites (eventFields ++ [FLT.UNIT.EPOCH, FLT.UNIT.STATE, FLT.UNIT.ROLE, NOC.PD.STAT.STATE, NOC.PD.STAT.HELD, NOC.PD.STAT.ABORTS, PERF.ESTAT.OVF, PERF.CNT.SEL.OVF, PERF.CNT.VALUE.COUNT, PERF.CNT.VALUE.OVF, FRAME.XP.BUFSTAT.DED, FRAME.XP.BUFSTAT.SHR, FRAME.XP.UNITEP.EPOCH, BLK.STAT.LSTATE, BLK.ESTAT.LINK_SUB, TST.INJSTAT.BUSY, TST.INJSTAT.FIRED]) [.evt, .flt, .frame, .mgmt, .perf, .blks] s₀ s₁) ∧
  (∀ (n : BlkId) (bitmap : BitVec 8) (s₀ s₁ : State), exec (.topo n bitmap) s₀ = .next s₁ → onlyWrites (eventFields ++ tabACT ++ tabBIND ++ tabBLKC ++ [TIME.STAT.STATE, PERF.ESTAT.OVF, PERF.TSMISS.COUNT, PERF.CNT.SEL.OVF, PERF.CNT.VALUE.COUNT, PERF.CNT.VALUE.OVF, PORT.TAGSTAT.IN_USE, PORT.TAGSTAT.PEAK, HOME.ESTAT.HMAP_MISS, HOME.RFSTAT.HELD, FRAME.XP.BUFSTAT.DED, FRAME.XP.BUFSTAT.SHR, BLK.STAT.RELAYING, TST.INJSTAT.BUSY, TST.INJSTAT.FIRED]) [.out, .free, .evt, .flt, .ports, .frame, .bind, .homeG, .sec, .mgmt, .boot, .perf, .blks, .blkG] s₀ s₁) ∧
  (∀ (n : BlkId) (cseq : BitVec 8) (dhn : BitVec 9) (s₀ s₁ : State), exec (.depart n cseq dhn) s₀ = .next s₁ → onlyWrites (eventFields ++ tabHOME ++ [FLT.STAT.UCHELD, GCTL.ASTAT.HELD, GCTL.ASTAT.LASTDEC, PERF.ESTAT.OVF, PERF.CNT.SEL.OVF, PERF.CNT.VALUE.COUNT, PERF.CNT.VALUE.OVF, FRAME.XP.BUFSTAT.DED, FRAME.XP.BUFSTAT.SHR, TST.INJSTAT.BUSY, TST.INJSTAT.FIRED]) [.out, .evt, .flt, .decs, .nextDec, .frame, .bind, .homes, .homeG, .mgmt, .perf, .blks, .throttle] s₀ s₁) ∧
  (∀ (n : BlkId) (cseq : BitVec 8) (dhn : BitVec 9) (s₀ s₁ : State), exec (.departDone n cseq dhn) s₀ = .next s₁ → onlyWrites (eventFields ++ tabCOL ++ tabBIND ++ [FLT.STAT.UCHELD, GCTL.ASTAT.HELD, GCTL.ASTAT.LASTDEC, SEC.IDE.IO_STATE, SEC.IDE.CM_STATE, SEC.IDE.KSET, SEC.IDE.ERRCNT, PORT.STAT.PSTATE, PORT.STAT.SWEEP, PORT.TAGSTAT.IN_USE, PORT.TAGSTAT.PEAK, FRAME.EG.SCHSTAT.UNIT_PS, FRAME.EG.SCHSTAT.U]) [.evt, .flt, .decs, .nextDec, .cols, .ports, .bind, .sec, .blks, .blkG] s₀ s₁) ∧
  (∀ (n : BlkId) (cseq : BitVec 8) (id : Fin 8) (time : Nat) (s₀ s₁ : State), exec (.masterXfer n cseq id time) s₀ = .next s₁ → onlyWrites ([]) [.out, .blks, .blkG] s₀ s₁) ∧
  (∀ (s₀ s₁ : State), exec (.masterChange) s₀ = .next s₁ → onlyWrites (eventFields ++ tabACT ++ tabBIND ++ tabBLKC ++ [TIME.STAT.STATE, PERF.ESTAT.OVF, PERF.TSMISS.COUNT, PERF.CNT.SEL.OVF, PERF.CNT.VALUE.COUNT, PERF.CNT.VALUE.OVF, PORT.TAGSTAT.IN_USE, PORT.TAGSTAT.PEAK, HOME.ESTAT.HMAP_MISS, HOME.RFSTAT.HELD, FRAME.XP.BUFSTAT.DED, FRAME.XP.BUFSTAT.SHR, BLK.STAT.RELAYING, TST.INJSTAT.BUSY, TST.INJSTAT.FIRED]) [.now, .out, .free, .evt, .flt, .ports, .frame, .bind, .homeG, .sec, .mgmt, .boot, .perf, .blks, .blkG] s₀ s₁) ∧
  (∀ (n : BlkId) (t : TimeBead) (s₀ s₁ : State), exec (.sync n t) s₀ = .next s₁ → onlyWrites (eventFields ++ [TIME.STAT.STEPPED, FRAME.EG.ESTAT.TIME_STEP, FRAME.EG.GCLSTAT.RUN, FRAME.EG.GCLSTAT.LIST, FRAME.EG.GCLSTAT.PENDING, FRAME.EG.GCLSTAT.ENTRY, FRAME.EG.GCLSTAT.CLOSED_TC, BLKC.CSTAT.TLOCK]) [.now, .evt, .flt, .egs, .mgmt] s₀ s₁) ∧
  (∀ (n : BlkId) (t : TimeBead) (s₀ s₁ : State), exec (.dreq n t) s₀ = .next s₁ → onlyWrites ([]) [.out, .blks, .blkG] s₀ s₁) ∧
  (∀ (n : BlkId) (t : TimeBead) (s₀ s₁ : State), exec (.drsp n t) s₀ = .next s₁ → onlyWrites ([]) [.blks] s₀ s₁) ∧
  (∀ (n : BlkId) (s₀ s₁ : State), exec (.timeBeadSend n) s₀ = .next s₁ → onlyWrites ([]) [.out, .blks] s₀ s₁) ∧
  (∀ (s₀ s₁ : State), exec (.topoSend) s₀ = .next s₁ → onlyWrites ([]) [.out, .blks] s₀ s₁) ∧
  (∀ (n : BlkId) (s₀ s₁ : State), exec (.ctrlResend n) s₀ = .next s₁ → onlyWrites ([]) [.out, .blks] s₀ s₁) ∧
  (∀ (n : BlkId) (s₀ s₁ : State), exec (.ctrlTimeout n) s₀ = .next s₁ → onlyWrites (eventFields ++ tabACT ++ tabBIND ++ tabBLK ++ tabBLKC ++ [FLT.STAT.UCHELD, GCTL.ASTAT.HELD, TIME.STAT.STATE, PERF.ESTAT.OVF, PERF.TSMISS.COUNT, PERF.CNT.SEL.OVF, PERF.CNT.VALUE.COUNT, PERF.CNT.VALUE.OVF, PORT.TAGSTAT.IN_USE, PORT.TAGSTAT.PEAK, HOME.ESTAT.HMAP_MISS, HOME.RFSTAT.HELD, FRAME.XP.BUFSTAT.DED, FRAME.XP.BUFSTAT.SHR, TST.INJSTAT.BUSY, TST.INJSTAT.FIRED]) [.now, .out, .free, .evt, .flt, .decs, .ports, .frame, .bind, .homeG, .sec, .mgmt, .boot, .perf, .blks, .blkG] s₀ s₁) ∧
  (∀ (n : BlkId) (v : Word) (s₀ s₁ : State), exec (.blkEnable n v) s₀ = .next s₁ → onlyWrites (eventFields ++ tabACT ++ tabBIND ++ tabBLK ++ tabBLKC ++ [NOC.PD.STAT.STATE, NOC.PD.STAT.HELD, NOC.PD.STAT.ABORTS, TIME.STAT.STATE, PERF.ESTAT.OVF, PERF.TSMISS.COUNT, PERF.CNT.SEL.OVF, PERF.CNT.VALUE.COUNT, PERF.CNT.VALUE.OVF, PORT.TAGSTAT.IN_USE, PORT.TAGSTAT.PEAK, HOME.ESTAT.HMAP_MISS, HOME.RFSTAT.HELD, FRAME.XP.BUFSTAT.DED, FRAME.XP.BUFSTAT.SHR, TST.INJSTAT.BUSY, TST.INJSTAT.FIRED]) [.out, .free, .evt, .flt, .ports, .frame, .bind, .homeG, .sec, .mgmt, .boot, .perf, .blks, .blkG] s₀ s₁) ∧
  (∀ (n : BlkId) (locked : BitVec 9) (s₀ s₁ : State), exec (.trainComplete n locked) s₀ = .next s₁ → onlyWrites (eventFields ++ tabACT ++ tabBIND ++ tabBLK ++ tabBLKC ++ [FLT.UNIT.EPOCH, FLT.UNIT.STATE, FLT.UNIT.ROLE, NOC.PD.STAT.STATE, NOC.PD.STAT.HELD, NOC.PD.STAT.ABORTS, TIME.STAT.STATE, PERF.ESTAT.OVF, PERF.TSMISS.COUNT, PERF.CNT.SEL.OVF, PERF.CNT.VALUE.COUNT, PERF.CNT.VALUE.OVF, PORT.TAGSTAT.IN_USE, PORT.TAGSTAT.PEAK, HOME.ESTAT.HMAP_MISS, HOME.RFSTAT.HELD, FRAME.XP.BUFSTAT.DED, FRAME.XP.BUFSTAT.SHR, TST.INJSTAT.BUSY, TST.INJSTAT.FIRED]) [.out, .free, .evt, .flt, .ports, .frame, .bind, .homeG, .sec, .mgmt, .boot, .perf, .blks, .blkG] s₀ s₁) ∧
  (∀ (n : BlkId) (s₀ s₁ : State), exec (.blkStateTimeout n) s₀ = .next s₁ → onlyWrites (eventFields ++ tabACT ++ tabBIND ++ tabBLK ++ tabBLKC ++ [TIME.STAT.STATE, PERF.ESTAT.OVF, PERF.TSMISS.COUNT, PERF.CNT.SEL.OVF, PERF.CNT.VALUE.COUNT, PERF.CNT.VALUE.OVF, PORT.TAGSTAT.IN_USE, PORT.TAGSTAT.PEAK, HOME.ESTAT.HMAP_MISS, HOME.RFSTAT.HELD, FRAME.XP.BUFSTAT.DED, FRAME.XP.BUFSTAT.SHR, TST.INJSTAT.BUSY, TST.INJSTAT.FIRED]) [.out, .free, .evt, .flt, .ports, .frame, .bind, .homeG, .sec, .mgmt, .boot, .perf, .blks, .blkG] s₀ s₁) ∧
  (∀ (n : BlkId) (s₀ s₁ : State), exec (.blkRetryInterval n) s₀ = .next s₁ → onlyWrites (eventFields ++ [BLK.STAT.LSTATE, BLK.SEQSTAT.TXNEXT, BLK.SEQSTAT.TXACKED, BLK.RXSTAT.RXEXP, BLK.RXSTAT.HELD, BLK.CRED.LIMIT, BLK.CRED.USED]) [.evt, .blks] s₀ s₁) ∧
  (∀ (n : BlkId) (l : Fin 9) (s₀ s₁ : State), exec (.laneLockLoss n l) s₀ = .next s₁ → onlyWrites (eventFields ++ tabFLT ++ tabACT ++ tabBIND ++ tabBLK ++ tabBLKC ++ [GCTL.ASTAT.HELD, TIME.STAT.STATE, PERF.ESTAT.OVF, PERF.TSMISS.COUNT, PERF.CNT.SEL.OVF, PERF.CNT.VALUE.COUNT, PERF.CNT.VALUE.OVF, PORT.TAGSTAT.IN_USE, PORT.TAGSTAT.PEAK, HOME.ESTAT.HMAP_MISS, HOME.RFSTAT.HELD, FRAME.XP.BUFSTAT.DED, FRAME.XP.BUFSTAT.SHR, TST.INJSTAT.BUSY, TST.INJSTAT.FIRED]) [.out, .free, .evt, .flt, .decs, .ports, .frame, .bind, .homeG, .sec, .mgmt, .boot, .perf, .blks, .blkG] s₀ s₁) ∧
  (∀ (n : BlkId) (l : Fin 9) (s₀ s₁ : State), exec (.laneErrorWindow n l) s₀ = .next s₁ → onlyWrites (eventFields ++ [FLT.STAT.UCHELD, GCTL.ASTAT.HELD, GCTL.ASTAT.LASTDEC]) [.now, .out, .evt, .flt, .decs, .nextDec, .blks] s₀ s₁) ∧
  (∀ (n : BlkId) (v : Word) (s₀ s₁ : State), exec (.laneSubCommand n v) s₀ = .next s₁ → onlyWrites (eventFields ++ tabACT ++ tabBIND ++ tabBLK ++ tabBLKC ++ [FLT.STAT.UCHELD, GCTL.ASTAT.HELD, NOC.PD.STAT.STATE, NOC.PD.STAT.HELD, NOC.PD.STAT.ABORTS, TIME.STAT.STATE, PERF.ESTAT.OVF, PERF.TSMISS.COUNT, PERF.CNT.SEL.OVF, PERF.CNT.VALUE.COUNT, PERF.CNT.VALUE.OVF, PORT.TAGSTAT.IN_USE, PORT.TAGSTAT.PEAK, HOME.ESTAT.HMAP_MISS, HOME.RFSTAT.HELD, FRAME.XP.BUFSTAT.DED, FRAME.XP.BUFSTAT.SHR, TST.INJSTAT.BUSY, TST.INJSTAT.FIRED]) [.out, .free, .evt, .flt, .decs, .ports, .frame, .bind, .homeG, .sec, .mgmt, .boot, .perf, .blks, .blkG] s₀ s₁) ∧
  (∀ (n : BlkId) (s₀ s₁ : State), exec (.spareLaneFail n) s₀ = .next s₁ → onlyWrites (eventFields ++ tabFLT ++ tabACT ++ tabBIND ++ tabBLK ++ tabBLKC ++ [GCTL.ASTAT.HELD, TIME.STAT.STATE, PERF.ESTAT.OVF, PERF.TSMISS.COUNT, PERF.CNT.SEL.OVF, PERF.CNT.VALUE.COUNT, PERF.CNT.VALUE.OVF, PORT.TAGSTAT.IN_USE, PORT.TAGSTAT.PEAK, HOME.ESTAT.HMAP_MISS, HOME.RFSTAT.HELD, FRAME.XP.BUFSTAT.DED, FRAME.XP.BUFSTAT.SHR, TST.INJSTAT.BUSY, TST.INJSTAT.FIRED]) [.out, .free, .evt, .flt, .decs, .ports, .frame, .bind, .homeG, .sec, .mgmt, .boot, .perf, .blks, .blkG] s₀ s₁) ∧
  (∀ (n : BlkId) (v : Word) (s₀ s₁ : State), exec (.linkHandoffCommand n v) s₀ = .next s₁ → onlyWrites (eventFields ++ tabACT ++ tabBIND ++ tabBLK ++ tabBLKC ++ [FLT.STAT.UCHELD, GCTL.ASTAT.HELD, NOC.PD.STAT.STATE, NOC.PD.STAT.HELD, NOC.PD.STAT.ABORTS, TIME.STAT.STATE, PERF.ESTAT.OVF, PERF.TSMISS.COUNT, PERF.CNT.SEL.OVF, PERF.CNT.VALUE.COUNT, PERF.CNT.VALUE.OVF, PORT.TAGSTAT.IN_USE, PORT.TAGSTAT.PEAK, HOME.ESTAT.HMAP_MISS, HOME.RFSTAT.HELD, FRAME.XP.BUFSTAT.DED, FRAME.XP.BUFSTAT.SHR, TST.INJSTAT.BUSY, TST.INJSTAT.FIRED]) [.out, .free, .evt, .flt, .decs, .ports, .frame, .bind, .homeG, .sec, .mgmt, .boot, .perf, .blks, .blkG] s₀ s₁) ∧
  (∀ (d : Fin 8) (s₀ s₁ : State), exec (.linkSetFenceDone d) s₀ = .next s₁ → onlyWrites (eventFields ++ tabACT ++ tabBIND ++ tabBLKC ++ [TIME.STAT.STATE, PERF.ESTAT.OVF, PERF.TSMISS.COUNT, PERF.CNT.SEL.OVF, PERF.CNT.VALUE.COUNT, PERF.CNT.VALUE.OVF, PORT.TAGSTAT.IN_USE, PORT.TAGSTAT.PEAK, HOME.ESTAT.HMAP_MISS, HOME.RFSTAT.HELD, FRAME.XP.BUFSTAT.DED, FRAME.XP.BUFSTAT.SHR, BLK.STAT.RELAYING, TST.INJSTAT.BUSY, TST.INJSTAT.FIRED]) [.out, .free, .evt, .flt, .ports, .frame, .bind, .homeG, .sec, .mgmt, .boot, .perf, .blks, .blkG] s₀ s₁) ∧
  (∀ (d : Fin 8) (s₀ s₁ : State), exec (.unreachableTimeout d) s₀ = .next s₁ → onlyWrites (eventFields ++ tabACT ++ tabBIND ++ tabHOME ++ tabBLKC ++ [FLT.STAT.UCHELD, GCTL.ASTAT.HELD, GCTL.ASTAT.LASTDEC, TIME.STAT.STATE, PERF.ESTAT.OVF, PERF.TSMISS.COUNT, PERF.CNT.SEL.OVF, PERF.CNT.VALUE.COUNT, PERF.CNT.VALUE.OVF, PORT.TAGSTAT.IN_USE, PORT.TAGSTAT.PEAK, FRAME.XP.BUFSTAT.DED, FRAME.XP.BUFSTAT.SHR, BLK.STAT.RELAYING, TST.INJSTAT.BUSY, TST.INJSTAT.FIRED]) [.now, .out, .free, .evt, .flt, .decs, .nextDec, .ports, .frame, .bind, .homes, .homeG, .sec, .mgmt, .boot, .perf, .blks, .blkG, .throttle] s₀ s₁)

/-- The frame of the commands of 11_security_and_trust.md: what each leaves as it was. Every register field outside the list reads as before in every instance, every other part of the state outside the list is the same, and so is the queue. DAP_ACCESS, DAPACC may write every register and have no frame here. -/
def Obligations.SecurityFrame : Prop :=
  (∀ (src1 : Bool) (s₀ s₁ : State), exec (.noiseSourceFail src1) s₀ = .next s₁ → onlyWrites ([SEC.KSTAT.DRBG_OK]) [.flt, .sec] s₀ s₁) ∧
  (∀ (session : Nat) (key : BitVec 256) (s₀ s₁ : State), exec (.domainKeySet session key) s₀ = .next s₁ → onlyWrites ([SEC.KSTAT.LDKEYS, SEC.KSTAT.DOMAIN]) [.out, .sec, .boot] s₀ s₁) ∧
  (∀ (r : Fin 2) (v : Word) (s₀ s₁ : State), exec (.rotArm r v) s₀ = .next s₁ → onlyWrites (eventFields ++ [SEC.ROT.RCTL.LD, SEC.ROT.RCTL.RATE, SEC.ROT.RSTAT.PHASE, SEC.ROT.RSTAT.RESULT]) [.evt, .decs, .sec] s₀ s₁) ∧
  (∀ (r : Fin 2) (v : Word) (s₀ s₁ : State), exec (.rctlCancel r v) s₀ = .next s₁ → onlyWrites (eventFields ++ [SEC.ROT.RCTL.LD, SEC.ROT.RCTL.RATE, SEC.ROT.RSTAT.PHASE, SEC.ROT.RSTAT.RESULT]) [.evt, .decs, .sec] s₀ s₁) ∧
  (∀ (r : Fin 2) (s₀ s₁ : State), exec (.rotTimeReached r) s₀ = .next s₁ → onlyWrites (eventFields ++ [FLT.STAT.UCHELD, GCTL.ASTAT.HELD, GCTL.ASTAT.LASTDEC, SEC.ROT.RSTAT.PHASE, SEC.ROT.RSTAT.RESULT]) [.now, .evt, .flt, .decs, .nextDec, .sec, .boot] s₀ s₁) ∧
  (∀ (r : Fin 2) (s₀ s₁ : State), exec (.rekeyBlockDone r) s₀ = .next s₁ → onlyWrites (eventFields ++ [SEC.ROT.RSTAT.RESULT, SEC.ROT.RCURSOR.OFFSET, PERF.ESTAT.OVF, PERF.CNT.SEL.OVF, PERF.CNT.VALUE.COUNT, PERF.CNT.VALUE.OVF, FRAME.XP.BUFSTAT.DED, FRAME.XP.BUFSTAT.SHR, TST.INJSTAT.BUSY, TST.INJSTAT.FIRED]) [.evt, .flt, .frame, .sec, .mgmt, .boot, .perf] s₀ s₁) ∧
  (∀ (r : Fin 2) (s₀ s₁ : State), exec (.rotDrainDone r) s₀ = .next s₁ → onlyWrites (eventFields ++ [SEC.ROT.RSTAT.PHASE, SEC.ROT.RSTAT.RESULT, SEC.LDKEY.ROT]) [.evt, .sec] s₀ s₁) ∧
  (∀ (p : PortId) (session : Nat) (cachemem : Bool) (kset : Bool) (key : Nat) (s₀ s₁ : State), exec (.ideKm p session cachemem kset key) s₀ = .next s₁ → onlyWrites ([SEC.IDE.IO_STATE, SEC.IDE.CM_STATE]) [.sec] s₀ s₁) ∧
  (∀ (p : PortId) (cachemem : Bool) (kset : Bool) (s₀ s₁ : State), exec (.kSetGo p cachemem kset) s₀ = .next s₁ → onlyWrites ([SEC.IDE.IO_STATE, SEC.IDE.CM_STATE, SEC.IDE.KSET]) [] s₀ s₁) ∧
  (∀ (p : PortId) (cachemem : Bool) (s₀ s₁ : State), exec (.ideCheckFail p cachemem) s₀ = .next s₁ → onlyWrites (eventFields ++ tabSEC ++ tabACT ++ tabPORT ++ tabBIND ++ tabHOME ++ tabSUM ++ tabFN ++ [FLT.STAT.UCHELD, GCTL.ASTAT.HELD, GCTL.ASTAT.LASTDEC, PERF.ESTAT.OVF, PERF.TSMISS.COUNT, PERF.CNT.SEL.OVF, PERF.CNT.VALUE.COUNT, PERF.CNT.VALUE.OVF, COL.EYESTAT.STATE, FRAME.XP.BUFSTAT.DED, FRAME.XP.BUFSTAT.SHR, FRAME.EG.Q.DEPTH.LIVE, DMV.FRZSTAT.BUSY, DMV.FRZSTAT.RESULT, DMV.ERRCNT.COUNT, TST.INJSTAT.BUSY, TST.INJSTAT.FIRED]) [.out, .free, .evt, .flt, .decs, .nextDec, .cols, .ports, .frame, .egs, .bind, .homes, .homeG, .sec, .mgmt, .boot, .sum, .dmv, .perf, .blks, .blkG, .throttle] s₀ s₁) ∧
  (∀ (doe : Nat) (s₀ s₁ : State), exec (.keyExchange doe) s₀ = .next s₁ → onlyWrites ([]) [.out, .sec] s₀ s₁) ∧
  (∀ (doe : Nat) (index : Nat) (s₀ s₁ : State), exec (.getMeasurements doe index) s₀ = .next s₁ → onlyWrites ([]) [.out] s₀ s₁) ∧
  (∀ (doe : Nat) (code : Nat) (s₀ s₁ : State), exec (.spdmRequest doe code) s₀ = .next s₁ → onlyWrites ([]) [.out] s₀ s₁) ∧
  (∀ (session : Nat) (s₀ s₁ : State), exec (.endSession session) s₀ = .next s₁ → onlyWrites ([]) [.out, .sec] s₀ s₁) ∧
  (∀ (session : Nat) (s₀ s₁ : State), exec (.heartbeatTimeout session) s₀ = .next s₁ → onlyWrites ([]) [.sec] s₀ s₁) ∧
  (∀ (v : Word) (s₀ s₁ : State), exec (.fvClear v) s₀ = .next s₁ → onlyWrites ([ACT.FVSTAT.VALID, ACT.FVSTAT.OVF, ACT.FVSTAT.KIND, ACT.FVSTAT.OP, ACT.FVSTAT.DEFAULT, ACT.FVSTAT.ENTRY, ACT.FVSTAT.EPOCH, ACT.FVMID.MID, ACT.FVMID.LD, ACT.FVADDR.VALUE, ACT.FVTIME.VALUE]) [] s₀ s₁) ∧
  (∀ (v : Word) (s₀ s₁ : State), exec (.actCommit v) s₀ = .next s₁ → onlyWrites ([ACT.CFG.DEFAULT, ACT.STGCFG.DEFAULT, ACT.COMMIT.EPOCH, ACT.COMMIT.DONE, ACT.COMMIT.SEALED, ACT.COMMIT.STG_BUSY, ACT.COMMIT.RESULT, ACT.ENT.VALID, ACT.ENT.KIND, ACT.ENT.DENY, ACT.ENT.RD, ACT.ENT.WR, ACT.ENT.LD, ACT.ENT.MID, ACT.ENT.MASK, ACT.ENT.BASE, ACT.ENT.LIMIT]) [.act, .boot] s₀ s₁) ∧
  (∀ (s₀ s₁ : State), exec (.stagingReloadDone) s₀ = .next s₁ → onlyWrites ([ACT.CFG.DEFAULT, ACT.STGCFG.DEFAULT, ACT.COMMIT.STG_BUSY, ACT.STG.VALID, ACT.STG.KIND, ACT.STG.DENY, ACT.STG.RD, ACT.STG.WR, ACT.STG.LD, ACT.STG.MID, ACT.STG.MASK, ACT.STG.BASE, ACT.STG.LIMIT]) [] s₀ s₁) ∧
  (∀ (s₀ s₁ : State), exec (.actDrainDone) s₀ = .next s₁ → onlyWrites ([ACT.COMMIT.DONE]) [] s₀ s₁) ∧
  (∀ (m : Master) (v : Word) (s₀ s₁ : State), exec (.lcArm m v) s₀ = .next s₁ → onlyWrites (eventFields ++ tabSEC ++ tabACT ++ tabPORT ++ tabBIND ++ tabHOME ++ tabBLK ++ tabBLKC ++ tabSUM ++ tabFN ++ tabTST ++ [FLT.STAT.UCHELD, GCTL.ASTAT.HELD, GCTL.ASTAT.LASTDEC, BOOT.JSTAT.FILL, TIME.STAT.STATE, PERF.ESTAT.OVF, PERF.TSMISS.COUNT, PERF.CNT.SEL.OVF, PERF.CNT.VALUE.COUNT, PERF.CNT.VALUE.OVF, COL.EYESTAT.STATE, FRAME.XP.BUFSTAT.DED, FRAME.XP.BUFSTAT.SHR, FRAME.EG.Q.DEPTH.LIVE, DMV.FRZSTAT.BUSY, DMV.FRZSTAT.RESULT, DMV.ERRCNT.COUNT]) [.out, .free, .fuses, .evt, .flt, .decs, .nextDec, .cols, .ports, .frame, .egs, .bind, .homes, .homeG, .sec, .mgmt, .boot, .sum, .dmv, .perf, .blks, .blkG, .throttle] s₀ s₁) ∧
  (∀ (s₀ s₁ : State), exec (.lcArmExpiry) s₀ = .next s₁ → onlyWrites ([]) [.now, .sec] s₀ s₁) ∧
  (∀ (m : Master) (v : Word) (token : Bool) (fuseOk : Bool) (s₀ s₁ : State), exec (.lcGo m v token fuseOk) s₀ = .next s₁ → onlyWrites (eventFields ++ tabSEC ++ tabACT ++ tabPORT ++ tabBIND ++ tabHOME ++ tabBLK ++ tabBLKC ++ tabSUM ++ tabFN ++ tabTST ++ [FLT.STAT.UCHELD, GCTL.ASTAT.HELD, GCTL.ASTAT.LASTDEC, BOOT.JSTAT.FILL, TIME.STAT.STATE, PERF.ESTAT.OVF, PERF.TSMISS.COUNT, PERF.CNT.SEL.OVF, PERF.CNT.VALUE.COUNT, PERF.CNT.VALUE.OVF, COL.EYESTAT.STATE, FRAME.XP.BUFSTAT.DED, FRAME.XP.BUFSTAT.SHR, FRAME.EG.Q.DEPTH.LIVE, DMV.FRZSTAT.BUSY, DMV.FRZSTAT.RESULT, DMV.ERRCNT.COUNT]) [.out, .free, .fuses, .evt, .flt, .decs, .nextDec, .cols, .ports, .frame, .egs, .bind, .homes, .homeG, .sec, .mgmt, .boot, .sum, .dmv, .perf, .blks, .blkG, .throttle] s₀ s₁)

/-- The frame of the commands of 12_slot_power.md: what each leaves as it was. Every register field outside the list reads as before in every instance, every other part of the state outside the list is the same, and so is the queue. -/
def Obligations.SlotFrame : Prop :=
  (∀ (n : SlotId) (s : SlotSample) (s₀ s₁ : State), exec (.slotTick n s) s₀ = .next s₁ → onlyWrites (collectFields ++ tabFLT ++ tabBOOT ++ tabSEC ++ tabACT ++ tabSLOT ++ tabSLOTV ++ tabPORT ++ tabBIND ++ tabHOME ++ tabSUM ++ tabFN ++ [GCTL.ASTAT.HELD, GCTL.ASTAT.LASTDEC, PERF.ESTAT.OVF, PERF.TSMISS.COUNT, PERF.CNT.SEL.OVF, PERF.CNT.VALUE.COUNT, PERF.CNT.VALUE.OVF, COL.EYESTAT.STATE, FRAME.XP.BUFSTAT.DED, FRAME.XP.BUFSTAT.SHR, FRAME.EG.Q.DEPTH.LIVE, DMV.FRZSTAT.BUSY, DMV.FRZSTAT.RESULT, DMV.ERASESTAT.BUSY, DMV.ERASESTAT.RESULT, DMV.ERRCNT.COUNT]) [.now, .out, .free, .evt, .flt, .decs, .nextDec, .cols, .ports, .frame, .egs, .bind, .homes, .homeG, .act, .sec, .mgmt, .boot, .sum, .dmv, .perf, .die, .blks, .blkG, .throttle] s₀ s₁) ∧
  (∀ (n : SlotId) (s₀ s₁ : State), exec (.seatingDetected n) s₀ = .next s₁ → onlyWrites (eventFields ++ [SLOT.STAT.STATE, SLOT.STAT.PG, SLOT.STAT.WARN, SLOT.STAT.SEATED, SLOT.STAT.TIMER, SLOT.STAT.RETRY_RUN, SLOT.STAT.RETRIES, SLOT.STAT.LASTTRIP, SLOT.ESTAT.GLITCH, SLOT.COUNTS.GLITCHCNT]) [.evt, .die] s₀ s₁) ∧
  (∀ (n : SlotId) (s₀ s₁ : State), exec (.qualifyComplete n) s₀ = .next s₁ → onlyWrites (eventFields ++ [SLOT.STAT.STATE, SLOT.STAT.PG, SLOT.STAT.WARN, SLOT.STAT.SEATED, SLOT.STAT.TIMER, SLOT.STAT.RETRY_RUN, SLOT.STAT.RETRIES, SLOT.STAT.LASTTRIP]) [.evt, .die] s₀ s₁) ∧
  (∀ (n : SlotId) (s₀ s₁ : State), exec (.insertionDelayEnd n) s₀ = .next s₁ → onlyWrites (eventFields ++ [FLT.STAT.UCHELD, GCTL.ASTAT.HELD, GCTL.ASTAT.LASTDEC, SLOT.STAT.STATE, SLOT.STAT.PG, SLOT.STAT.WARN, SLOT.STAT.SEATED, SLOT.STAT.TIMER, SLOT.STAT.RETRY_RUN, SLOT.STAT.RETRIES, SLOT.STAT.LASTTRIP]) [.evt, .flt, .decs, .nextDec, .die] s₀ s₁) ∧
  (∀ (n : SlotId) (s₀ s₁ : State), exec (.seatingLost n) s₀ = .next s₁ → onlyWrites (collectFields ++ tabFLT ++ tabACT ++ tabSLOT ++ tabPORT ++ tabBIND ++ tabHOME ++ tabSUM ++ tabFN ++ [GCTL.ASTAT.HELD, GCTL.ASTAT.LASTDEC, SEC.ROT.RSTAT.PHASE, SEC.ROT.RCURSOR.OFFSET, SEC.LDKEY.ROT, PERF.ESTAT.OVF, PERF.TSMISS.COUNT, PERF.CNT.SEL.OVF, PERF.CNT.VALUE.COUNT, PERF.CNT.VALUE.OVF, COL.EYESTAT.STATE, FRAME.XP.BUFSTAT.DED, FRAME.XP.BUFSTAT.SHR, FRAME.EG.Q.DEPTH.LIVE, DMV.FRZSTAT.BUSY, DMV.FRZSTAT.RESULT, DMV.ERRCNT.COUNT]) [.out, .free, .evt, .flt, .decs, .nextDec, .cols, .ports, .frame, .egs, .bind, .homes, .homeG, .sec, .mgmt, .boot, .sum, .dmv, .perf, .die, .blks, .blkG, .throttle] s₀ s₁) ∧
  (∀ (n : SlotId) (s₀ s₁ : State), exec (.inrushTimeout n) s₀ = .next s₁ → onlyWrites (collectFields ++ tabFLT ++ tabACT ++ tabSLOT ++ tabPORT ++ tabBIND ++ tabHOME ++ tabSUM ++ tabFN ++ [GCTL.ASTAT.HELD, GCTL.ASTAT.LASTDEC, SEC.ROT.RSTAT.PHASE, SEC.ROT.RCURSOR.OFFSET, SEC.LDKEY.ROT, PERF.ESTAT.OVF, PERF.TSMISS.COUNT, PERF.CNT.SEL.OVF, PERF.CNT.VALUE.COUNT, PERF.CNT.VALUE.OVF, COL.EYESTAT.STATE, FRAME.XP.BUFSTAT.DED, FRAME.XP.BUFSTAT.SHR, FRAME.EG.Q.DEPTH.LIVE, DMV.FRZSTAT.BUSY, DMV.FRZSTAT.RESULT, DMV.ERRCNT.COUNT]) [.out, .free, .evt, .flt, .decs, .nextDec, .cols, .ports, .frame, .egs, .bind, .homes, .homeG, .sec, .mgmt, .boot, .sum, .dmv, .perf, .die, .blks, .blkG, .throttle] s₀ s₁) ∧
  (∀ (n : SlotId) (s₀ s₁ : State), exec (.faultTimerExpiry n) s₀ = .next s₁ → onlyWrites (collectFields ++ tabFLT ++ tabACT ++ tabSLOT ++ tabPORT ++ tabBIND ++ tabHOME ++ tabSUM ++ tabFN ++ [GCTL.ASTAT.HELD, GCTL.ASTAT.LASTDEC, SEC.ROT.RSTAT.PHASE, SEC.ROT.RCURSOR.OFFSET, SEC.LDKEY.ROT, PERF.ESTAT.OVF, PERF.TSMISS.COUNT, PERF.CNT.SEL.OVF, PERF.CNT.VALUE.COUNT, PERF.CNT.VALUE.OVF, COL.EYESTAT.STATE, FRAME.XP.BUFSTAT.DED, FRAME.XP.BUFSTAT.SHR, FRAME.EG.Q.DEPTH.LIVE, DMV.FRZSTAT.BUSY, DMV.FRZSTAT.RESULT, DMV.ERRCNT.COUNT]) [.out, .free, .evt, .flt, .decs, .nextDec, .cols, .ports, .frame, .egs, .bind, .homes, .homeG, .sec, .mgmt, .boot, .sum, .dmv, .perf, .die, .blks, .blkG, .throttle] s₀ s₁) ∧
  (∀ (n : SlotId) (s₀ s₁ : State), exec (.fastTrip n) s₀ = .next s₁ → onlyWrites (collectFields ++ tabFLT ++ tabACT ++ tabSLOT ++ tabPORT ++ tabBIND ++ tabHOME ++ tabSUM ++ tabFN ++ [GCTL.ASTAT.HELD, GCTL.ASTAT.LASTDEC, SEC.ROT.RSTAT.PHASE, SEC.ROT.RCURSOR.OFFSET, SEC.LDKEY.ROT, PERF.ESTAT.OVF, PERF.TSMISS.COUNT, PERF.CNT.SEL.OVF, PERF.CNT.VALUE.COUNT, PERF.CNT.VALUE.OVF, COL.EYESTAT.STATE, FRAME.XP.BUFSTAT.DED, FRAME.XP.BUFSTAT.SHR, FRAME.EG.Q.DEPTH.LIVE, DMV.FRZSTAT.BUSY, DMV.FRZSTAT.RESULT, DMV.ERRCNT.COUNT]) [.out, .free, .evt, .flt, .decs, .nextDec, .cols, .ports, .frame, .egs, .bind, .homes, .homeG, .sec, .mgmt, .boot, .sum, .dmv, .perf, .die, .blks, .blkG, .throttle] s₀ s₁) ∧
  (∀ (n : SlotId) (s₀ s₁ : State), exec (.retryTimerEnd n) s₀ = .next s₁ → onlyWrites (eventFields ++ [FLT.STAT.UCHELD, GCTL.ASTAT.HELD, GCTL.ASTAT.LASTDEC, SLOT.STAT.STATE, SLOT.STAT.PG, SLOT.STAT.WARN, SLOT.STAT.SEATED, SLOT.STAT.TIMER, SLOT.STAT.RETRY_RUN, SLOT.STAT.RETRIES, SLOT.STAT.LASTTRIP]) [.evt, .flt, .decs, .nextDec, .die] s₀ s₁) ∧
  (∀ (n : SlotId) (s₀ s₁ : State), exec (.pgDelayEnd n) s₀ = .next s₁ → onlyWrites (eventFields ++ [SLOT.STAT.STATE, SLOT.STAT.PG, SLOT.STAT.WARN, SLOT.STAT.SEATED, SLOT.STAT.TIMER, SLOT.STAT.RETRY_RUN, SLOT.STAT.RETRIES, SLOT.STAT.LASTTRIP]) [.evt, .die] s₀ s₁) ∧
  (∀ (n : SlotId) (s₀ s₁ : State), exec (.warnClear n) s₀ = .next s₁ → onlyWrites (eventFields ++ [SLOT.STAT.STATE, SLOT.STAT.PG, SLOT.STAT.WARN, SLOT.STAT.SEATED, SLOT.STAT.TIMER, SLOT.STAT.RETRY_RUN, SLOT.STAT.RETRIES, SLOT.STAT.LASTTRIP]) [.evt, .die] s₀ s₁) ∧
  (∀ (n : SlotId) (s₀ s₁ : State), exec (.retriesClear n) s₀ = .next s₁ → onlyWrites (eventFields ++ [SLOT.STAT.STATE, SLOT.STAT.PG, SLOT.STAT.WARN, SLOT.STAT.SEATED, SLOT.STAT.TIMER, SLOT.STAT.RETRY_RUN, SLOT.STAT.RETRIES, SLOT.STAT.LASTTRIP]) [.evt, .die] s₀ s₁) ∧
  (∀ (n : SlotId) (s₀ s₁ : State), exec (.energyLimit n) s₀ = .next s₁ → onlyWrites (collectFields ++ tabFLT ++ tabACT ++ tabSLOT ++ tabPORT ++ tabBIND ++ tabHOME ++ tabSUM ++ tabFN ++ [GCTL.ASTAT.HELD, GCTL.ASTAT.LASTDEC, SEC.ROT.RSTAT.PHASE, SEC.ROT.RCURSOR.OFFSET, SEC.LDKEY.ROT, PERF.ESTAT.OVF, PERF.TSMISS.COUNT, PERF.CNT.SEL.OVF, PERF.CNT.VALUE.COUNT, PERF.CNT.VALUE.OVF, COL.EYESTAT.STATE, FRAME.XP.BUFSTAT.DED, FRAME.XP.BUFSTAT.SHR, FRAME.EG.Q.DEPTH.LIVE, DMV.FRZSTAT.BUSY, DMV.FRZSTAT.RESULT, DMV.ERRCNT.COUNT]) [.out, .free, .evt, .flt, .decs, .nextDec, .cols, .ports, .frame, .egs, .bind, .homes, .homeG, .sec, .mgmt, .boot, .sum, .dmv, .perf, .die, .blks, .blkG, .throttle] s₀ s₁) ∧
  (∀ (n : SlotId) (s₀ s₁ : State), exec (.fetDegraded n) s₀ = .next s₁ → onlyWrites (collectFields ++ tabFLT ++ tabACT ++ tabSLOT ++ tabPORT ++ tabBIND ++ tabHOME ++ tabSUM ++ tabFN ++ [GCTL.ASTAT.HELD, GCTL.ASTAT.LASTDEC, SEC.ROT.RSTAT.PHASE, SEC.ROT.RCURSOR.OFFSET, SEC.LDKEY.ROT, PERF.ESTAT.OVF, PERF.TSMISS.COUNT, PERF.CNT.SEL.OVF, PERF.CNT.VALUE.COUNT, PERF.CNT.VALUE.OVF, COL.EYESTAT.STATE, FRAME.XP.BUFSTAT.DED, FRAME.XP.BUFSTAT.SHR, FRAME.EG.Q.DEPTH.LIVE, DMV.FRZSTAT.BUSY, DMV.FRZSTAT.RESULT, DMV.ERRCNT.COUNT]) [.out, .free, .evt, .flt, .decs, .nextDec, .cols, .ports, .frame, .egs, .bind, .homes, .homeG, .sec, .mgmt, .boot, .sum, .dmv, .perf, .die, .blks, .blkG, .throttle] s₀ s₁) ∧
  (∀ (n : SlotId) (s₀ s₁ : State), exec (.fetShort n) s₀ = .next s₁ → onlyWrites (collectFields ++ [FLT.LINES.SLOT, FLT.LINES.VIN, FLT.LINES.TEMP, FLT.LINES.RAIL, FLT.LINES.CLK, SLOT.STAT.STATE, SLOT.STAT.PG, SLOT.STAT.WARN, SLOT.STAT.SEATED, SLOT.STAT.TIMER, SLOT.STAT.RETRY_RUN, SLOT.STAT.RETRIES, SLOT.STAT.LASTTRIP, SLOT.ESTAT.FET_SHORT]) [.out, .evt, .flt, .decs, .mgmt, .die] s₀ s₁) ∧
  (∀ (n : SlotId) (s₀ s₁ : State), exec (.dischargeTimeout n) s₀ = .next s₁ → onlyWrites (collectFields ++ [FLT.STAT.UCHELD, FLT.LINES.SLOT, FLT.LINES.VIN, FLT.LINES.TEMP, FLT.LINES.RAIL, FLT.LINES.CLK, GCTL.ASTAT.HELD, GCTL.ASTAT.LASTDEC, SLOT.STAT.STATE, SLOT.STAT.PG, SLOT.STAT.WARN, SLOT.STAT.SEATED, SLOT.STAT.TIMER, SLOT.STAT.RETRY_RUN, SLOT.STAT.RETRIES, SLOT.STAT.LASTTRIP, SLOT.ESTAT.DISCH_FAIL, SLOT.ESTAT.LATCH]) [.out, .evt, .flt, .decs, .nextDec, .mgmt, .die] s₀ s₁) ∧
  (∀ (n : SlotId) (v : Word) (s₀ s₁ : State), exec (.slotOn n v) s₀ = .next s₁ → onlyWrites (collectFields ++ tabFLT ++ tabACT ++ tabSLOT ++ tabPORT ++ tabBIND ++ tabHOME ++ tabSUM ++ tabFN ++ [GCTL.ASTAT.HELD, GCTL.ASTAT.LASTDEC, SEC.ROT.RSTAT.PHASE, SEC.ROT.RCURSOR.OFFSET, SEC.LDKEY.ROT, PERF.ESTAT.OVF, PERF.TSMISS.COUNT, PERF.CNT.SEL.OVF, PERF.CNT.VALUE.COUNT, PERF.CNT.VALUE.OVF, COL.EYESTAT.STATE, FRAME.XP.BUFSTAT.DED, FRAME.XP.BUFSTAT.SHR, FRAME.EG.Q.DEPTH.LIVE, DMV.FRZSTAT.BUSY, DMV.FRZSTAT.RESULT, DMV.ERRCNT.COUNT]) [.out, .free, .evt, .flt, .decs, .nextDec, .cols, .ports, .frame, .egs, .bind, .homes, .homeG, .sec, .mgmt, .boot, .sum, .dmv, .perf, .die, .blks, .blkG, .throttle] s₀ s₁) ∧
  (∀ (n : SlotId) (v : Word) (s₀ s₁ : State), exec (.slotOnAt n v) s₀ = .next s₁ → onlyWrites (collectFields ++ tabFLT ++ tabACT ++ tabSLOT ++ tabPORT ++ tabBIND ++ tabHOME ++ tabSUM ++ tabFN ++ [GCTL.ASTAT.HELD, GCTL.ASTAT.LASTDEC, SEC.ROT.RSTAT.PHASE, SEC.ROT.RCURSOR.OFFSET, SEC.LDKEY.ROT, PERF.ESTAT.OVF, PERF.TSMISS.COUNT, PERF.CNT.SEL.OVF, PERF.CNT.VALUE.COUNT, PERF.CNT.VALUE.OVF, COL.EYESTAT.STATE, FRAME.XP.BUFSTAT.DED, FRAME.XP.BUFSTAT.SHR, FRAME.EG.Q.DEPTH.LIVE, DMV.FRZSTAT.BUSY, DMV.FRZSTAT.RESULT, DMV.ERRCNT.COUNT]) [.out, .free, .evt, .flt, .decs, .nextDec, .cols, .ports, .frame, .egs, .bind, .homes, .homeG, .sec, .mgmt, .boot, .sum, .dmv, .perf, .die, .blks, .blkG, .throttle] s₀ s₁) ∧
  (∀ (n : SlotId) (s₀ s₁ : State), exec (.onatReached n) s₀ = .next s₁ → onlyWrites (eventFields ++ [SLOT.STAT.STATE, SLOT.STAT.PG, SLOT.STAT.WARN, SLOT.STAT.SEATED, SLOT.STAT.TIMER, SLOT.STAT.RETRY_RUN, SLOT.STAT.RETRIES, SLOT.STAT.LASTTRIP]) [.now, .evt, .die] s₀ s₁) ∧
  (∀ (n : SlotId) (v : Word) (s₀ s₁ : State), exec (.slotOff n v) s₀ = .next s₁ → onlyWrites (collectFields ++ tabFLT ++ tabACT ++ tabSLOT ++ tabPORT ++ tabBIND ++ tabHOME ++ tabSUM ++ tabFN ++ [GCTL.ASTAT.HELD, GCTL.ASTAT.LASTDEC, SEC.ROT.RSTAT.PHASE, SEC.ROT.RCURSOR.OFFSET, SEC.LDKEY.ROT, PERF.ESTAT.OVF, PERF.TSMISS.COUNT, PERF.CNT.SEL.OVF, PERF.CNT.VALUE.COUNT, PERF.CNT.VALUE.OVF, COL.EYESTAT.STATE, FRAME.XP.BUFSTAT.DED, FRAME.XP.BUFSTAT.SHR, FRAME.EG.Q.DEPTH.LIVE, DMV.FRZSTAT.BUSY, DMV.FRZSTAT.RESULT, DMV.ERRCNT.COUNT]) [.out, .free, .evt, .flt, .decs, .nextDec, .cols, .ports, .frame, .egs, .bind, .homes, .homeG, .sec, .mgmt, .boot, .sum, .dmv, .perf, .die, .blks, .blkG, .throttle] s₀ s₁) ∧
  (∀ (n : SlotId) (v : Word) (s₀ s₁ : State), exec (.slotClear n v) s₀ = .next s₁ → onlyWrites (collectFields ++ tabFLT ++ tabACT ++ tabSLOT ++ tabPORT ++ tabBIND ++ tabHOME ++ tabSUM ++ tabFN ++ [GCTL.ASTAT.HELD, GCTL.ASTAT.LASTDEC, SEC.ROT.RSTAT.PHASE, SEC.ROT.RCURSOR.OFFSET, SEC.LDKEY.ROT, PERF.ESTAT.OVF, PERF.TSMISS.COUNT, PERF.CNT.SEL.OVF, PERF.CNT.VALUE.COUNT, PERF.CNT.VALUE.OVF, COL.EYESTAT.STATE, FRAME.XP.BUFSTAT.DED, FRAME.XP.BUFSTAT.SHR, FRAME.EG.Q.DEPTH.LIVE, DMV.FRZSTAT.BUSY, DMV.FRZSTAT.RESULT, DMV.ERRCNT.COUNT]) [.out, .free, .evt, .flt, .decs, .nextDec, .cols, .ports, .frame, .egs, .bind, .homes, .homeG, .sec, .mgmt, .boot, .sum, .dmv, .perf, .die, .blks, .blkG, .throttle] s₀ s₁) ∧
  (∀ (n : SlotId) (v : Word) (s₀ s₁ : State), exec (.slotApply n v) s₀ = .next s₁ → onlyWrites (collectFields ++ tabFLT ++ tabACT ++ tabSLOT ++ tabPORT ++ tabBIND ++ tabHOME ++ tabSUM ++ tabFN ++ [GCTL.ASTAT.HELD, GCTL.ASTAT.LASTDEC, SEC.ROT.RSTAT.PHASE, SEC.ROT.RCURSOR.OFFSET, SEC.LDKEY.ROT, PERF.ESTAT.OVF, PERF.TSMISS.COUNT, PERF.CNT.SEL.OVF, PERF.CNT.VALUE.COUNT, PERF.CNT.VALUE.OVF, COL.EYESTAT.STATE, FRAME.XP.BUFSTAT.DED, FRAME.XP.BUFSTAT.SHR, FRAME.EG.Q.DEPTH.LIVE, DMV.FRZSTAT.BUSY, DMV.FRZSTAT.RESULT, DMV.ERRCNT.COUNT]) [.out, .free, .evt, .flt, .decs, .nextDec, .cols, .ports, .frame, .egs, .bind, .homes, .homeG, .sec, .mgmt, .boot, .sum, .dmv, .perf, .die, .blks, .blkG, .throttle] s₀ s₁) ∧
  (∀ (vin : Fin 4096) (s₀ s₁ : State), exec (.vinEarlyWarning vin) s₀ = .next s₁ → onlyWrites (collectFields ++ tabFLT ++ tabBOOT ++ tabSEC ++ tabACT ++ tabBIND ++ tabHOME ++ [GCTL.ASTAT.HELD, GCTL.ASTAT.LASTDEC, PERF.ESTAT.OVF, PERF.TSMISS.COUNT, PERF.CNT.SEL.OVF, PERF.CNT.VALUE.COUNT, PERF.CNT.VALUE.OVF, SLOTV.STAT.VIN, SLOTV.STAT.WARN, SLOTV.STAT.INWIN, SLOTV.ESTAT.WARN_EV, PORT.TAGSTAT.IN_USE, PORT.TAGSTAT.PEAK, FRAME.XP.BUFSTAT.DED, FRAME.XP.BUFSTAT.SHR, DMV.ERASESTAT.BUSY, DMV.ERASESTAT.RESULT]) [.out, .free, .evt, .flt, .decs, .nextDec, .ports, .frame, .bind, .homes, .homeG, .act, .sec, .mgmt, .boot, .dmv, .perf, .die, .blks, .blkG, .throttle] s₀ s₁) ∧
  (∀ (vin : Fin 4096) (s₀ s₁ : State), exec (.vinLockout vin) s₀ = .next s₁ → onlyWrites (collectFields ++ tabFLT ++ tabACT ++ tabSLOT ++ tabSLOTV ++ tabPORT ++ tabBIND ++ tabHOME ++ tabSUM ++ tabFN ++ [GCTL.ASTAT.HELD, GCTL.ASTAT.LASTDEC, SEC.ROT.RSTAT.PHASE, SEC.ROT.RCURSOR.OFFSET, SEC.LDKEY.ROT, PERF.ESTAT.OVF, PERF.TSMISS.COUNT, PERF.CNT.SEL.OVF, PERF.CNT.VALUE.COUNT, PERF.CNT.VALUE.OVF, COL.EYESTAT.STATE, FRAME.XP.BUFSTAT.DED, FRAME.XP.BUFSTAT.SHR, FRAME.EG.Q.DEPTH.LIVE, DMV.FRZSTAT.BUSY, DMV.FRZSTAT.RESULT, DMV.ERRCNT.COUNT]) [.out, .free, .evt, .flt, .decs, .nextDec, .cols, .ports, .frame, .egs, .bind, .homes, .homeG, .sec, .mgmt, .boot, .sum, .dmv, .perf, .die, .blks, .blkG, .throttle] s₀ s₁) ∧
  (∀ (vin : Fin 4096) (s₀ s₁ : State), exec (.slotDiePowerOn vin) s₀ = .next s₁ → onlyWrites (eventFields ++ [SLOT.STAT.STATE, SLOT.STAT.PG, SLOT.STAT.WARN, SLOT.STAT.SEATED, SLOT.STAT.TIMER, SLOT.STAT.RETRY_RUN, SLOT.STAT.RETRIES, SLOT.STAT.LASTTRIP, SLOTV.STAT.VIN, SLOTV.STAT.UVLO, SLOTV.STAT.INWIN]) [.evt, .decs, .die] s₀ s₁) ∧
  (∀ (thr1 : Bool) (v : Word) (s₀ s₁ : State), exec (.thresholdWrite thr1 v) s₀ = .next s₁ → onlyWrites (eventFields ++ [SLOTV.THR0.OV, SLOTV.THR0.QHI, SLOTV.THR0.QLO, SLOTV.THR0.WARN, SLOTV.THR1.UVLO, SLOTV.ESTAT.CFG_ERR]) [.evt] s₀ s₁)

/-- The frame of the commands of 13_faults_and_spares.md: what each leaves as it was. Every register field outside the list reads as before in every instance, every other part of the state outside the list is the same, and so is the queue. -/
def Obligations.FaultFrame : Prop :=
  (∀ (r : ErrRec) (s₀ s₁ : State), exec (.errorRecord r) s₀ = .next s₁ → onlyWrites (collectFields ++ tabFLT ++ tabBOOT ++ tabSEC ++ tabACT ++ tabSLOT ++ tabCOL ++ tabPORT ++ tabBIND ++ tabHOME ++ tabFRAME ++ tabBLK ++ tabBLKC ++ tabSUM ++ tabFN ++ [GCTL.ASTAT.HELD, GCTL.ASTAT.LASTDEC, NOC.PD.STAT.STATE, NOC.PD.STAT.HELD, NOC.PD.STAT.ABORTS, TIME.STAT.STATE, PERF.ESTAT.OVF, PERF.TSMISS.COUNT, PERF.CNT.SEL.OVF, PERF.CNT.VALUE.COUNT, PERF.CNT.VALUE.OVF, FRAME.XP.BUFSTAT.DED, FRAME.XP.BUFSTAT.SHR, FRAME.XP.UNITEP.EPOCH, FRAME.EG.SCHSTAT.UNIT_PS, FRAME.EG.SCHSTAT.U, FRAME.EG.Q.DEPTH.LIVE, DMV.FRZSTAT.BUSY, DMV.FRZSTAT.RESULT, DMV.ERASESTAT.BUSY, DMV.ERASESTAT.RESULT, DMV.ERRCNT.COUNT]) [.out, .free, .evt, .flt, .decs, .nextDec, .cols, .ports, .frame, .egs, .bind, .homes, .homeG, .act, .sec, .mgmt, .boot, .sum, .dmv, .perf, .die, .blks, .blkG, .throttle] s₀ s₁) ∧
  (∀ (r : ErrRec) (s₀ s₁ : State), exec (.recordMerge r) s₀ = .next s₁ → onlyWrites ([]) [.flt] s₀ s₁) ∧
  (∀ (line : Fin 36) (why : LineCause) (s₀ s₁ : State), exec (.errorLineEdge line why) s₀ = .next s₁ → onlyWrites (collectFields ++ tabFLT ++ tabBOOT ++ tabSEC ++ tabACT ++ tabSLOT ++ tabCOL ++ tabPORT ++ tabBIND ++ tabHOME ++ tabFRAME ++ tabBLK ++ tabBLKC ++ tabSUM ++ tabFN ++ [GCTL.ASTAT.HELD, GCTL.ASTAT.LASTDEC, NOC.PD.STAT.STATE, NOC.PD.STAT.HELD, NOC.PD.STAT.ABORTS, TIME.STAT.STATE, PERF.ESTAT.OVF, PERF.TSMISS.COUNT, PERF.CNT.SEL.OVF, PERF.CNT.VALUE.COUNT, PERF.CNT.VALUE.OVF, FRAME.XP.BUFSTAT.DED, FRAME.XP.BUFSTAT.SHR, FRAME.XP.UNITEP.EPOCH, FRAME.EG.SCHSTAT.UNIT_PS, FRAME.EG.SCHSTAT.U, FRAME.EG.Q.DEPTH.LIVE, DMV.FRZSTAT.BUSY, DMV.FRZSTAT.RESULT, DMV.ERASESTAT.BUSY, DMV.ERASESTAT.RESULT, DMV.ERRCNT.COUNT]) [.out, .free, .evt, .flt, .decs, .nextDec, .fmUp, .cols, .ports, .frame, .egs, .bind, .homes, .homeG, .act, .sec, .mgmt, .boot, .sum, .dmv, .perf, .die, .blks, .blkG, .throttle] s₀ s₁) ∧
  (∀ (src : Fin 512) (s₀ s₁ : State), exec (.stormEnd src) s₀ = .next s₁ → onlyWrites (eventFields ++ [FLT.STAT.FAULTN, FLT.STAT.DROPS, FLT.ESTAT.OVF, FLT.ESTAT.SELF, FLT.RECOV.COUNT, FLT.RTAIL.INDEX, FLT.FATALREC.RECORD, FLT.REC.RECORD, FLT.SRC.STORM, TST.INJSTAT.BUSY, TST.INJSTAT.FIRED]) [.now, .out, .evt, .flt, .mgmt] s₀ s₁) ∧
  (∀ (s₀ s₁ : State), exec (.faultnQuietRelease) s₀ = .next s₁ → onlyWrites ([FLT.STAT.FAULTN, FLT.RECOV.COUNT]) [.now, .out] s₀ s₁) ∧
  (∀ (v : Word) (s₀ s₁ : State), exec (.faultnClr v) s₀ = .next s₁ → onlyWrites ([FLT.STAT.FAULTN]) [.out] s₀ s₁) ∧
  (∀ (v : Word) (s₀ s₁ : State), exec (.fltRheadWrite v) s₀ = .next s₁ → onlyWrites (eventFields ++ [FLT.STAT.FAULTN, FLT.STAT.DROPS, FLT.RHEAD.INDEX, FLT.RTAIL.INDEX, FLT.REC.RECORD, TST.INJSTAT.BUSY, TST.INJSTAT.FIRED]) [.out, .evt, .flt, .mgmt] s₀ s₁) ∧
  (∀ (c : Fin 5) (s₀ s₁ : State), exec (.coreHeartbeat c) s₀ = .next s₁ → onlyWrites (eventFields ++ [FLT.STALENOC.COUNT, NOC.ESTAT.STALE]) [.evt, .flt] s₀ s₁) ∧
  (∀ (c : Fin 5) (s₀ s₁ : State), exec (.heartbeatLoss c) s₀ = .next s₁ → onlyWrites (collectFields ++ [FLT.STAT.UCHELD, FLT.SPARE.PLANE, FLT.SPARE.CORE, FLT.SPARE.LANE, FLT.SPARE.HOME, FLT.SPARE.SUM, FLT.UNIT.EPOCH, FLT.UNIT.STATE, FLT.UNIT.ROLE, GCTL.ASTAT.HELD, NOC.PD.STAT.STATE, NOC.PD.STAT.HELD, NOC.PD.STAT.ABORTS]) [.now, .out, .evt, .flt, .decs, .mgmt, .boot] s₀ s₁) ∧
  (∀ (cls : Fin 6) (i : Nat) (s₀ s₁ : State), exec (.bringInComplete cls i) s₀ = .next s₁ → onlyWrites (eventFields ++ [FLT.STAT.FAULTN, FLT.STAT.DROPS, FLT.ESTAT.OVF, FLT.ESTAT.SELF, FLT.RTAIL.INDEX, FLT.SPARE.PLANE, FLT.SPARE.CORE, FLT.SPARE.LANE, FLT.SPARE.HOME, FLT.SPARE.SUM, FLT.FATALREC.RECORD, FLT.REC.RECORD, NOC.PD.STAT.STATE, NOC.PD.STAT.HELD, NOC.PD.STAT.ABORTS, TST.INJSTAT.BUSY, TST.INJSTAT.FIRED]) [.out, .evt, .flt, .mgmt, .boot] s₀ s₁) ∧
  (∀ (v : Word) (s₀ s₁ : State), exec (.fenceRelease v) s₀ = .next s₁ → onlyWrites (eventFields ++ [FLT.FENCE.CLASS, FLT.FENCE.INDEX, FLT.FENCE.BUSY, FLT.FENCE.RESULT, BLK.STAT.LSTATE, BLK.SEQSTAT.TXNEXT, BLK.SEQSTAT.TXACKED, BLK.RXSTAT.RXEXP, BLK.RXSTAT.HELD, BLK.CRED.LIMIT, BLK.CRED.USED]) [.evt, .flt, .blks] s₀ s₁) ∧
  (∀ (pass : Bool) (s₀ s₁ : State), exec (.releaseTestDone pass) s₀ = .next s₁ → onlyWrites (eventFields ++ tabFLT ++ tabFRAME ++ tabSUM ++ [NOC.PD.STAT.STATE, NOC.PD.STAT.HELD, NOC.PD.STAT.ABORTS, HOME.STAT.DEGR, HOME.STAT.FAILED, FRAME.XP.UNITEP.EPOCH, BLK.STAT.LSTATE, BLK.STAT.NO_SPARE, BLK.LANE.STATE, BLK.LANE.EPOCH, TST.INJSTAT.BUSY]) [.evt, .flt, .frame, .mgmt, .boot, .sum] s₀ s₁) ∧
  (∀ (s₀ s₁ : State), exec (.releaseTimeout) s₀ = .next s₁ → onlyWrites (eventFields ++ tabFLT ++ tabFRAME ++ tabSUM ++ [NOC.PD.STAT.STATE, NOC.PD.STAT.HELD, NOC.PD.STAT.ABORTS, HOME.STAT.DEGR, HOME.STAT.FAILED, FRAME.XP.UNITEP.EPOCH, BLK.STAT.LSTATE, BLK.STAT.NO_SPARE, BLK.LANE.STATE, BLK.LANE.EPOCH, TST.INJSTAT.BUSY]) [.evt, .flt, .frame, .mgmt, .boot, .sum] s₀ s₁) ∧
  (∀ (d : Decide) (s₀ s₁ : State), exec (.ucRecover d) s₀ = .next s₁ → onlyWrites (eventFields ++ [FLT.STAT.UCHELD, GCTL.ASTAT.HELD, PERF.ESTAT.OVF, PERF.CNT.SEL.OVF, PERF.CNT.VALUE.COUNT, PERF.CNT.VALUE.OVF, BIND.LD.STATE]) [.out, .evt, .flt, .decs, .bind, .perf] s₀ s₁)

/-- The frame of the commands of 14_events_and_interrupts.md: what each leaves as it was. Every register field outside the list reads as before in every instance, every other part of the state outside the list is the same, and so is the queue. -/
def Obligations.EventFrame : Prop :=
  (∀ (src : Fin 1536) (cause : Fin 32) (payload : Word) (s₀ s₁ : State), exec (.eventRaised src cause payload) s₀ = .next s₁ → onlyWrites (eventFields) [.evt] s₀ s₁) ∧
  (∀ (m : Master) (c : Fin 5) (s₀ s₁ : State), exec (.claim m c) s₀ = .next s₁ → onlyWrites (eventFields ++ [EVT.CORE.CTIME.TIME, EVT.CORE.CPAY.PAYLOAD, FLT.STALENOC.COUNT, NOC.ESTAT.STALE, PERF.ESTAT.OVF, PERF.CNT.SEL.OVF, PERF.CNT.VALUE.COUNT, PERF.CNT.VALUE.OVF]) [.out, .evt, .perf] s₀ s₁) ∧
  (∀ (m : Master) (c : Fin 5) (v : Word) (s₀ s₁ : State), exec (.complete m c v) s₀ = .next s₁ → onlyWrites (eventFields ++ [EVT.ERRCNT.BADCPL, FLT.STALENOC.COUNT, NOC.ESTAT.STALE]) [.evt] s₀ s₁) ∧
  (∀ (s₀ s₁ : State), exec (.ringRecordWrite) s₀ = .next s₁ → onlyWrites ([EVT.RING.CTL.EN, EVT.RING.STAT.ARMED, EVT.RING.STAT.FULL, EVT.RING.STAT.BUF, EVT.RING.STAT.PHASE, EVT.RING.TAIL.INDEX, EVT.GRP.HOLD_RING]) [.out, .evt] s₀ s₁) ∧
  (∀ (v : Word) (s₀ s₁ : State), exec (.ringHeadWrite v) s₀ = .next s₁ → onlyWrites ([EVT.RING.CTL.EN, EVT.RING.STAT.ARMED, EVT.RING.STAT.FULL, EVT.RING.STAT.HEAD_ERR, EVT.RING.HEAD.INDEX, EVT.GRP.HOLD_RING]) [.out, .evt] s₀ s₁) ∧
  (∀ (v : Word) (s₀ s₁ : State), exec (.ringCtlWrite v) s₀ = .next s₁ → onlyWrites ([EVT.RING.CTL.EN, EVT.RING.CTL.LOG, EVT.RING.STAT.ARMED, EVT.RING.STAT.FULL, EVT.RING.STAT.PHASE, EVT.RING.STAT.CFG_ERR, EVT.RING.HEAD.INDEX, EVT.RING.TAIL.INDEX]) [.evt] s₀ s₁) ∧
  (∀ (g : Fin 24) (ring : Bool) (s₀ s₁ : State), exec (.holdoffEnd g ring) s₀ = .next s₁ → onlyWrites ([EVT.RING.STAT.ARMED, EVT.GRP.HOLD_CORE, EVT.GRP.HOLD_RING, EVT.SRC.CORE, EVT.SRC.ASSIGNED]) [.out, .evt] s₀ s₁) ∧
  (∀ (line : Fin 37) (stopped : Bool) (s₀ s₁ : State), exec (.wakeEdge line stopped) s₀ = .next s₁ → onlyWrites (eventFields ++ [EVT.WAKELAT.LINE]) [.evt] s₀ s₁) ∧
  (∀ (line : Fin 37) (s₀ s₁ : State), exec (.wakeEvent line) s₀ = .next s₁ → onlyWrites (eventFields ++ [EVT.WAKELAT.LINE]) [.evt] s₀ s₁) ∧
  (∀ (s₀ s₁ : State), exec (.fmPortLinkUp) s₀ = .next s₁ → onlyWrites ([]) [.fmUp] s₀ s₁)

/-- The frame of the commands of 15_performance_monitoring.md: what each leaves as it was. Every register field outside the list reads as before in every instance, every other part of the state outside the list is the same, and so is the queue. -/
def Obligations.PerformanceFrame : Prop :=
  (∀ (i : Fin 384) (k : Fin 8) (v : Word) (s₀ s₁ : State), exec (.perfSelWrite i k v) s₀ = .next s₁ → onlyWrites (eventFields ++ [PERF.ESTAT.SEL_ERR, PERF.CNT.SEL.EVENT, PERF.CNT.SEL.EN, PERF.CNT.SEL.CHAIN, PERF.CNT.SEL.OVF, PERF.CNT.SEL.OVF_EVT, PERF.CNT.SEL.TCF_EN, PERF.CNT.SEL.TC, PERF.CNT.VALUE.OVF]) [.evt] s₀ s₁) ∧
  (∀ (i : Fin 384) (k : Fin 8) (s₀ s₁ : State), exec (.counterOverflow i k) s₀ = .next s₁ → onlyWrites (eventFields ++ [PERF.ESTAT.OVF, PERF.CNT.SEL.OVF, PERF.CNT.VALUE.COUNT, PERF.CNT.VALUE.OVF]) [.evt, .perf] s₀ s₁) ∧
  (∀ (v : Word) (s₀ s₁ : State), exec (.perfFreeze v) s₀ = .next s₁ → onlyWrites ([PERF.CTL.FREEZE, PERF.CTL.FRZOVF]) [.perf] s₀ s₁) ∧
  (∀ (s₀ s₁ : State), exec (.freezeBoundary) s₀ = .next s₁ → onlyWrites ([PERF.STAT.FROZEN, PERF.FRZAT.ARM]) [.now, .perf] s₀ s₁) ∧
  (∀ (s₀ s₁ : State), exec (.snapshot) s₀ = .next s₁ → onlyWrites ([PERF.SNAPAT.ARM, PERF.SNAPCFG.SNAPSEQ, PERF.SNAPTIME.TIME, PERF.CNT.VALUE.COUNT, PERF.CNT.SNAP.COUNT, PERF.CNT.VALUE.OVF, PERF.CNT.SNAP.OVF]) [.now] s₀ s₁) ∧
  (∀ (s₀ s₁ : State), exec (.bwWindowEnd) s₀ = .next s₁ → onlyWrites ([PERF.BW.RX.UNITS, PERF.BW.TX.UNITS, PERF.BWSEQ.SEQ]) [.now, .perf] s₀ s₁) ∧
  (∀ (req : Nat) (latNs homeLat poolLat : Nat) (s₀ s₁ : State), exec (.sampleRecord req latNs homeLat poolLat) s₀ = .next s₁ → onlyWrites (eventFields ++ [NOC.PD.STAT.STATE, NOC.PD.STAT.HELD, NOC.PD.STAT.ABORTS, PERF.STAT.TSFULL, PERF.STAT.NEXT, PERF.STAT.COUNT, PERF.ESTAT.TSB_FULL, PERF.TSB.REC]) [.evt, .mgmt, .perf] s₀ s₁) ∧
  (∀ (v : Word) (s₀ s₁ : State), exec (.tsEnable v) s₀ = .next s₁ → onlyWrites (eventFields ++ [NOC.PD.STAT.STATE, NOC.PD.STAT.HELD, NOC.PD.STAT.ABORTS, PERF.STAT.TSFULL, PERF.STAT.NEXT, PERF.STAT.COUNT, PERF.TSCFG.EN, PERF.TSCFG.WRAP, PERF.TSCFG.RAND, PERF.TSCFG.NLOG, PERF.TSCFG.XP, PERF.TSCFG.ALLXP, PERF.TSCFG.OPCMASK]) [.free, .evt, .mgmt, .perf] s₀ s₁)

/-- The frame of the commands of 16_boot_image_and_journal.md: what each leaves as it was. Every register field outside the list reads as before in every instance, every other part of the state outside the list is the same, and so is the queue. BOOT_RELEASE, JRESET, PAGE_PROGRAM_DONE, RECORD_READBACK, COMPACT, SEAL_RELEASE may write every register and have no frame here. -/
def Obligations.BootFrame : Prop :=
  (∀ (s₀ s₁ : State), exec (.compactionStart) s₀ = .next s₁ → onlyWrites (eventFields ++ [BOOT.ESTAT.WEAR, BOOT.JSTAT.COMPACT, BOOT.WEAR.ERASEA, BOOT.WEAR.ERASEB]) [.evt, .boot] s₀ s₁) ∧
  (∀ (s₀ s₁ : State), exec (.compactionSwitch) s₀ = .next s₁ → onlyWrites (eventFields ++ [BOOT.STAT.JHALF, BOOT.ESTAT.WEAR, BOOT.JSTAT.FILL, BOOT.JSTAT.COMPACT, BOOT.JSTAT.GEN, BOOT.WEAR.ERASEA, BOOT.WEAR.ERASEB]) [.out, .evt, .bind, .sec, .boot] s₀ s₁) ∧
  (∀ (s₀ s₁ : State), exec (.pwrfail) s₀ = .next s₁ → onlyWrites (eventFields ++ tabBOOT ++ tabSEC ++ tabACT ++ tabBIND ++ tabHOME ++ [FLT.STAT.UCHELD, GCTL.ASTAT.HELD, GCTL.ASTAT.LASTDEC, PERF.ESTAT.OVF, PERF.TSMISS.COUNT, PERF.CNT.SEL.OVF, PERF.CNT.VALUE.COUNT, PERF.CNT.VALUE.OVF, PORT.TAGSTAT.IN_USE, PORT.TAGSTAT.PEAK, FRAME.XP.BUFSTAT.DED, FRAME.XP.BUFSTAT.SHR, DMV.ERASESTAT.BUSY, DMV.ERASESTAT.RESULT, TST.INJSTAT.BUSY, TST.INJSTAT.FIRED]) [.out, .free, .evt, .flt, .decs, .nextDec, .ports, .frame, .bind, .homes, .homeG, .act, .sec, .mgmt, .boot, .dmv, .perf, .blks, .blkG, .throttle] s₀ s₁) ∧
  (∀ (v : Word) (s₀ s₁ : State), exec (.policySubmit v) s₀ = .next s₁ → onlyWrites ([BOOT.POLCTL.CNT, BOOT.POLSTAT.BUSY, BOOT.POLSTAT.RESULT, BOOT.POLSTAT.BADIDX]) [.boot] s₀ s₁) ∧
  (∀ (v : Word) (img : Image) (s₀ s₁ : State), exec (.update v img) s₀ = .next s₁ → onlyWrites ([BOOT.UPDCTL.TARGET, BOOT.UPDSTAT.BUSY, BOOT.UPDSTAT.RESULT]) [.boot] s₀ s₁) ∧
  (∀ (ok : Bool) (s₀ s₁ : State), exec (.updateDone ok) s₀ = .next s₁ → onlyWrites ([BOOT.UPDSTAT.BUSY, BOOT.UPDSTAT.RESULT]) [.boot] s₀ s₁) ∧
  (∀ (s₀ s₁ : State), exec (.blockEraseDone) s₀ = .next s₁ → onlyWrites ([BOOT.JSTAT.COMPACT]) [.boot] s₀ s₁)

/-- The frame of the commands of 18_electrical_and_package.md: what each leaves as it was. Every register field outside the list reads as before in every instance, every other part of the state outside the list is the same, and so is the queue. -/
def Obligations.PackageFrame : Prop :=
  (∀ (s₀ s₁ : State), exec (.fmPerst) s₀ = .next s₁ → onlyWrites (eventFields ++ tabFLT ++ tabSLOT ++ tabCOL ++ tabBIND ++ tabFRAME ++ tabSUM ++ [GCTL.ASTAT.HELD, NOC.PD.STAT.STATE, NOC.PD.STAT.HELD, NOC.PD.STAT.ABORTS, SEC.ROT.RSTAT.PHASE, SEC.ROT.RSTAT.RESULT, PERF.ESTAT.OVF, PERF.TSMISS.COUNT, PERF.CNT.SEL.OVF, PERF.CNT.VALUE.COUNT, PERF.CNT.VALUE.OVF, PORT.TAGSTAT.IN_USE, PORT.TAGSTAT.PEAK, HOME.STAT.CQ_HELD, HOME.ESTAT.HMAP_MISS, HOME.SPARESTAT.USED, HOME.SPARESTAT.NONE, HOME.RFSTAT.HELD, FRAME.XP.BUFSTAT.DED, FRAME.XP.BUFSTAT.SHR, TST.INJSTAT.BUSY, TST.INJSTAT.FIRED]) [.out, .free, .evt, .flt, .decs, .fmUp, .cols, .ports, .frame, .bind, .homes, .homeG, .sec, .mgmt, .boot, .sum, .perf, .die, .blks, .blkG] s₀ s₁)

/-- The frame of the commands of 20_test_and_perturbation.md: what each leaves as it was. Every register field outside the list reads as before in every instance, every other part of the state outside the list is the same, and so is the queue. EXTEST, IDCODE, SAMPLE_PRELOAD, CLAMP, HIGHZ, EXTEST_PULSE, EXTEST_TRAIN, BYPASS, JTAG_DESELECT may write every register and have no frame here. -/
def Obligations.TestFrame : Prop :=
  (∀ (u : Fin 41) (v : Word) (s₀ s₁ : State), exec (.loopbackNear u v) s₀ = .next s₁ → onlyWrites (eventFields ++ tabACT ++ tabPORT ++ tabBIND ++ tabHOME ++ tabBLK ++ tabSUM ++ tabFN ++ tabTST ++ [FLT.STAT.UCHELD, GCTL.ASTAT.HELD, GCTL.ASTAT.LASTDEC, SEC.ROT.RSTAT.PHASE, SEC.ROT.RCURSOR.OFFSET, SEC.LDKEY.ROT, PERF.ESTAT.OVF, PERF.TSMISS.COUNT, PERF.CNT.SEL.OVF, PERF.CNT.VALUE.COUNT, PERF.CNT.VALUE.OVF, COL.STAT.CSTATE, COL.EYESTAT.STATE, COL.TRN.TRNSTAT.LTSSM, FRAME.XP.BUFSTAT.DED, FRAME.XP.BUFSTAT.SHR, FRAME.EG.Q.DEPTH.LIVE, DMV.FRZSTAT.BUSY, DMV.FRZSTAT.RESULT, DMV.ERRCNT.COUNT]) [.out, .free, .evt, .flt, .decs, .nextDec, .cols, .ports, .frame, .egs, .bind, .homes, .homeG, .sec, .mgmt, .boot, .sum, .dmv, .perf, .blks, .blkG, .throttle] s₀ s₁) ∧
  (∀ (u : Fin 41) (v : Word) (s₀ s₁ : State), exec (.loopbackFar u v) s₀ = .next s₁ → onlyWrites (eventFields ++ tabACT ++ tabPORT ++ tabBIND ++ tabHOME ++ tabBLK ++ tabSUM ++ tabFN ++ tabTST ++ [FLT.STAT.UCHELD, GCTL.ASTAT.HELD, GCTL.ASTAT.LASTDEC, SEC.ROT.RSTAT.PHASE, SEC.ROT.RCURSOR.OFFSET, SEC.LDKEY.ROT, PERF.ESTAT.OVF, PERF.TSMISS.COUNT, PERF.CNT.SEL.OVF, PERF.CNT.VALUE.COUNT, PERF.CNT.VALUE.OVF, COL.STAT.CSTATE, COL.EYESTAT.STATE, COL.TRN.TRNSTAT.LTSSM, FRAME.XP.BUFSTAT.DED, FRAME.XP.BUFSTAT.SHR, FRAME.EG.Q.DEPTH.LIVE, DMV.FRZSTAT.BUSY, DMV.FRZSTAT.RESULT, DMV.ERRCNT.COUNT]) [.out, .free, .evt, .flt, .decs, .nextDec, .cols, .ports, .frame, .egs, .bind, .homes, .homeG, .sec, .mgmt, .boot, .sum, .dmv, .perf, .blks, .blkG, .throttle] s₀ s₁) ∧
  (∀ (u : Fin 41) (v : Word) (s₀ s₁ : State), exec (.loopbackLead u v) s₀ = .next s₁ → onlyWrites (eventFields ++ tabACT ++ tabPORT ++ tabBIND ++ tabHOME ++ tabBLK ++ tabSUM ++ tabFN ++ tabTST ++ [FLT.STAT.UCHELD, GCTL.ASTAT.HELD, GCTL.ASTAT.LASTDEC, SEC.ROT.RSTAT.PHASE, SEC.ROT.RCURSOR.OFFSET, SEC.LDKEY.ROT, PERF.ESTAT.OVF, PERF.TSMISS.COUNT, PERF.CNT.SEL.OVF, PERF.CNT.VALUE.COUNT, PERF.CNT.VALUE.OVF, COL.STAT.CSTATE, COL.EYESTAT.STATE, COL.TRN.TRNSTAT.LTSSM, FRAME.XP.BUFSTAT.DED, FRAME.XP.BUFSTAT.SHR, FRAME.EG.Q.DEPTH.LIVE, DMV.FRZSTAT.BUSY, DMV.FRZSTAT.RESULT, DMV.ERRCNT.COUNT]) [.out, .free, .evt, .flt, .decs, .nextDec, .cols, .ports, .frame, .egs, .bind, .homes, .homeG, .sec, .mgmt, .boot, .sum, .dmv, .perf, .blks, .blkG, .throttle] s₀ s₁) ∧
  (∀ (u : Fin 41) (v : Word) (s₀ s₁ : State), exec (.patternControl u v) s₀ = .next s₁ → onlyWrites (eventFields ++ tabACT ++ tabPORT ++ tabBIND ++ tabHOME ++ tabBLK ++ tabSUM ++ tabFN ++ tabTST ++ [FLT.STAT.UCHELD, GCTL.ASTAT.HELD, GCTL.ASTAT.LASTDEC, SEC.ROT.RSTAT.PHASE, SEC.ROT.RCURSOR.OFFSET, SEC.LDKEY.ROT, PERF.ESTAT.OVF, PERF.TSMISS.COUNT, PERF.CNT.SEL.OVF, PERF.CNT.VALUE.COUNT, PERF.CNT.VALUE.OVF, COL.STAT.CSTATE, COL.EYESTAT.STATE, COL.TRN.TRNSTAT.LTSSM, FRAME.XP.BUFSTAT.DED, FRAME.XP.BUFSTAT.SHR, FRAME.EG.Q.DEPTH.LIVE, DMV.FRZSTAT.BUSY, DMV.FRZSTAT.RESULT, DMV.ERRCNT.COUNT]) [.out, .free, .evt, .flt, .decs, .nextDec, .cols, .ports, .frame, .egs, .bind, .homes, .homeG, .sec, .mgmt, .boot, .sum, .dmv, .perf, .blks, .blkG, .throttle] s₀ s₁) ∧
  (∀ (v : Word) (s₀ s₁ : State), exec (.injectArm v) s₀ = .next s₁ → onlyWrites ([TST.ESTAT.REFUSED, TST.INJCTL.DOMAIN, TST.INJCTL.INST, TST.INJCTL.BITS, TST.INJCTL.COUNT, TST.INJCTL.GAP, TST.INJSTAT.BUSY, TST.INJSTAT.FIRED]) [.mgmt] s₀ s₁) ∧
  (∀ (u : Fin 41) (l : Fin 16) (lock : Bool) (s₀ s₁ : State), exec (.patternCheckLock u l lock) s₀ = .next s₁ → onlyWrites ([TST.LB.ERR.LOCK]) [] s₀ s₁)
end

