-- ==== Sys2Proof/Laws/Assoc.lean ====
section
/-! SUPPORT. Laws of the association lists: read after write, other keys untouched, and the canonical form kept. -/

namespace Sys2Proof.Machine

variable {α : Type}

@[simp] theorem look_put_same (l : List (Nat × α)) (k : Nat) (v : α) : look (put l k v) k = some v := by
  induction l with
  | nil => simp [put, look]
  | cons c l ih =>
    obtain ⟨a, b⟩ := c
    unfold put
    split
    · simp [look]
    · split
      · simp [look]
      · simp [look, *]

theorem look_put_other {l : List (Nat × α)} {k k' : Nat} {v : α} (h : k' ≠ k) : look (put l k v) k' = look l k' := by
  induction l with
  | nil => simp [put, look, h]
  | cons c l ih =>
    obtain ⟨a, b⟩ := c
    unfold put
    split
    · simp [look, h]
    · split
      · next hk => subst hk; simp [look, h]
      · simp only [look, ih]

theorem look_filter_kept {l : List (Nat × α)} {p : Nat × α → Bool} {k : Nat} (h : ∀ v, p (k, v) = true) : look (l.filter p) k = look l k := by
  induction l with
  | nil => rfl
  | cons c l ih =>
    obtain ⟨a, b⟩ := c
    by_cases hk : k = a
    · subst hk; simp [h, look]
    · by_cases hp : p (a, b) = true
      · simp [hp, look, hk, ih]
      · simp [hp, look, hk, ih]

@[simp] theorem look_del_same (l : List (Nat × α)) (k : Nat) : look (del l k) k = none := by
  induction l with
  | nil => rfl
  | cons c l ih =>
    obtain ⟨a, b⟩ := c
    unfold del at *
    by_cases hk : a = k
    · simp [hk, ih]
    · simp [hk, look, ih, Ne.symm hk]

theorem look_del_other {l : List (Nat × α)} {k k' : Nat} (h : k' ≠ k) : look (del l k) k' = look l k' := by
  unfold del
  exact look_filter_kept (fun _ => by simp [h])

theorem lookD_put_same (l : List (Nat × α)) (k : Nat) (v d : α) : lookD (put l k v) k d = v := by simp [lookD]

theorem lookD_put_other {l : List (Nat × α)} {k k' : Nat} {v d : α} (h : k' ≠ k) : lookD (put l k v) k' d = lookD l k' d := by
  simp [lookD, look_put_other h]

theorem lookD_filter_kept {l : List (Nat × α)} {p : Nat × α → Bool} {k : Nat} {d : α} (h : ∀ v, p (k, v) = true) : lookD (l.filter p) k d = lookD l k d := by
  simp [lookD, look_filter_kept h]

@[simp] theorem lookD_putNZ_same (l : List (Nat × Nat)) (k v : Nat) : lookD (putNZ l k v) k 0 = v := by
  unfold putNZ; split <;> simp [lookD, *]

theorem lookD_putNZ_other {l : List (Nat × Nat)} {k k' v : Nat} (h : k' ≠ k) : lookD (putNZ l k v) k' 0 = lookD l k' 0 := by
  unfold putNZ
  split
  · simp [lookD, look_del_other h]
  · exact lookD_put_other h

theorem rising_iff (l : List (Nat × α)) : rising l = true ↔ l.Pairwise (fun a b => a.1 < b.1) := by
  induction l with
  | nil => simp [rising]
  | cons c l ih =>
    cases l with
    | nil => simp [rising]
    | cons d l =>
      obtain ⟨a, x⟩ := c
      obtain ⟨b, y⟩ := d
      rw [rising, Bool.and_eq_true, ih, List.pairwise_cons (a := (a, x))]
      constructor
      · rintro ⟨h, hp⟩
        refine ⟨?_, hp⟩
        intro e he
        rcases List.mem_cons.1 he with rfl | he
        · simpa using h
        · exact lt_trans (by simpa using h) (List.rel_of_pairwise_cons hp he)
      · rintro ⟨h, hp⟩
        exact ⟨by simpa using h (b, y) List.mem_cons_self, hp⟩

theorem rising_filter {l : List (Nat × α)} {p : Nat × α → Bool} (h : rising l = true) : rising (l.filter p) = true :=
  (rising_iff _).2 (((rising_iff _).1 h).filter p)

theorem mem_put {l : List (Nat × α)} {k : Nat} {v : α} {c : Nat × α} (h : c ∈ put l k v) : c = (k, v) ∨ c ∈ l := by
  induction l with
  | nil => simpa [put] using h
  | cons d l ih =>
    obtain ⟨a, b⟩ := d
    unfold put at h
    split at h
    · simpa using h
    · split at h
      · rcases List.mem_cons.1 h with h | h
        · exact .inl h
        · exact .inr (List.mem_cons_of_mem _ h)
      · rcases List.mem_cons.1 h with h | h
        · exact .inr (h ▸ List.mem_cons_self)
        · exact (ih h).imp id (List.mem_cons_of_mem _)

theorem rising_put {l : List (Nat × α)} {k : Nat} {v : α} (h : rising l = true) : rising (put l k v) = true := by
  rw [rising_iff] at *
  induction l with
  | nil => simp [put]
  | cons d l ih =>
    obtain ⟨a, b⟩ := d
    rw [List.pairwise_cons] at h
    unfold put
    split
    · next hk =>
      refine List.pairwise_cons.2 ⟨?_, List.pairwise_cons.2 h⟩
      intro e he
      rcases List.mem_cons.1 he with rfl | he
      · exact hk
      · exact lt_trans hk (h.1 e he)
    · split
      · next hk => subst hk; exact List.pairwise_cons.2 h
      · refine List.pairwise_cons.2 ⟨?_, ih h.2⟩
        intro e he
        rcases mem_put he with rfl | he
        · simp only; omega
        · exact h.1 e he

theorem rising_putNZ {l : List (Nat × Nat)} {k v : Nat} (h : rising l = true) : rising (putNZ l k v) = true := by
  unfold putNZ; split
  · exact rising_filter h
  · exact rising_put h

theorem noZero_filter {l : List (Nat × Nat)} {p : Nat × Nat → Bool} (h : noZero l = true) : noZero (l.filter p) = true := by
  unfold noZero at *
  rw [List.all_eq_true] at *
  exact fun c hc => h c (List.mem_of_mem_filter hc)

theorem noZero_putNZ {l : List (Nat × Nat)} {k v : Nat} (h : noZero l = true) : noZero (putNZ l k v) = true := by
  unfold putNZ
  split
  · exact noZero_filter h
  · next hv =>
    unfold noZero at *
    rw [List.all_eq_true] at *
    intro c hc
    rcases mem_put hc with rfl | hc
    · simpa using hv
    · exact h c hc

end Sys2Proof.Machine
end

