-- ==== Sys2Proof/Laws/Fields.lean ====
section
/-! SUPPORT. The fields of the register map lie apart: no instance of one shares its place with an instance of another. -/

namespace Sys2Proof.Machine

/-- The last place of a field. -/
def Ent.last (e : Ent) : Nat := e.base + e.si * (e.ni - 1) + e.sj * (e.nj - 1)

/-- How far a field's places spread over the remainders modulo `M`. -/
def Ent.spread (M : Nat) (e : Ent) : Nat :=
  (if e.si % M = 0 then 0 else e.si * (e.ni - 1)) + (if e.sj % M = 0 then 0 else e.sj * (e.nj - 1))

/-- The remainders modulo `M` of two fields' places are two separate ranges. -/
def apartMod (M : Nat) (a b : Ent) : Bool :=
  M != 0 && a.base % M + a.spread M < M && b.base % M + b.spread M < M &&
    (a.base % M + a.spread M < b.base % M || b.base % M + b.spread M < a.base % M)

/-- A check that two fields never share a place. -/
def apart (a b : Ent) : Bool :=
  a.ni != 0 && a.nj != 0 && b.ni != 0 && b.nj != 0 &&
    (a.last < b.base || b.last < a.base || apartMod a.si a b || apartMod a.sj a b || apartMod b.si a b || apartMod b.sj a b)

theorem key_range {e : Ent} (hi : e.ni ≠ 0) (hj : e.nj ≠ 0) (i j : Nat) : e.base ≤ e.key i j ∧ e.key i j ≤ e.last := by
  refine ⟨by unfold Ent.key; omega, ?_⟩
  have a : i % e.ni ≤ e.ni - 1 := by have := Nat.mod_lt i (Nat.pos_of_ne_zero hi); omega
  have b : j % e.nj ≤ e.nj - 1 := by have := Nat.mod_lt j (Nat.pos_of_ne_zero hj); omega
  have := Nat.mul_le_mul_left e.si a
  have := Nat.mul_le_mul_left e.sj b
  unfold Ent.key Ent.last; omega

theorem mod_part {M s x n : Nat} (hn : n ≠ 0) : ∃ c q, s * (x % n) = M * q + c ∧ c ≤ (if s % M = 0 then 0 else s * (n - 1)) := by
  by_cases h : s % M = 0
  · obtain ⟨d, hd⟩ := Nat.dvd_of_mod_eq_zero h
    exact ⟨0, d * (x % n), by rw [hd, Nat.mul_assoc, Nat.add_zero], by simp⟩
  · refine ⟨s * (x % n), 0, by omega, ?_⟩
    rw [if_neg h]
    exact Nat.mul_le_mul_left s (by have := Nat.mod_lt x (Nat.pos_of_ne_zero hn); omega)

theorem key_mod {e : Ent} {M : Nat} (hi : e.ni ≠ 0) (hj : e.nj ≠ 0) (h : e.base % M + e.spread M < M) (i j : Nat) :
    e.base % M ≤ e.key i j % M ∧ e.key i j % M ≤ e.base % M + e.spread M := by
  obtain ⟨c, q, h1, h2⟩ := mod_part (M := M) (s := e.si) (x := i) hi
  obtain ⟨d, r, h3, h4⟩ := mod_part (M := M) (s := e.sj) (x := j) hj
  have hs : c + d ≤ e.spread M := by unfold Ent.spread; omega
  have hk : e.key i j = M * (e.base / M + q + r) + (e.base % M + c + d) := by
    unfold Ent.key
    rw [h1, h3, Nat.mul_add, Nat.mul_add]
    have := Nat.div_add_mod e.base M
    omega
  have hm : e.key i j % M = e.base % M + c + d := by
    rw [hk, Nat.mul_add_mod, Nat.mod_eq_of_lt (by omega)]
  omega

theorem apartMod_sound {M : Nat} {a b : Ent} (ha : a.ni ≠ 0 ∧ a.nj ≠ 0) (hb : b.ni ≠ 0 ∧ b.nj ≠ 0) (h : apartMod M a b = true) (i j i' j' : Nat) :
    a.key i j ≠ b.key i' j' := by
  simp only [apartMod, Bool.and_eq_true, Bool.or_eq_true, decide_eq_true_eq, bne_iff_ne] at h
  obtain ⟨⟨⟨_, h1⟩, h2⟩, h3⟩ := h
  have x := key_mod ha.1 ha.2 h1 i j
  have y := key_mod hb.1 hb.2 h2 i' j'
  intro he
  rw [he] at x
  omega

/-- Fields that the check separates share no place. -/
theorem apart_sound {a b : Ent} (h : apart a b = true) (i j i' j' : Nat) : a.key i j ≠ b.key i' j' := by
  simp only [apart, Bool.and_eq_true, Bool.or_eq_true, decide_eq_true_eq, bne_iff_ne] at h
  obtain ⟨⟨⟨⟨a1, a2⟩, b1⟩, b2⟩, h⟩ := h
  have x := key_range a1 a2 i j
  have y := key_range b1 b2 i' j'
  rcases h with ((((h | h) | h) | h) | h) | h
  · omega
  · omega
  all_goals exact apartMod_sound ⟨a1, a2⟩ ⟨b1, b2⟩ h i j i' j'

/-- Every pair of a list's fields, one before the other, lies apart. -/
def allApart : List Ent → Bool
  | [] => true
  | a :: l => l.all (fun b => apart a b) && allApart l

theorem allApart_pairwise {l : List Ent} (h : allApart l = true) : l.Pairwise (fun a b => apart a b = true) := by
  induction l with
  | nil => exact List.Pairwise.nil
  | cons a l ih =>
    simp only [allApart, Bool.and_eq_true, List.all_eq_true] at h
    exact List.pairwise_cons.2 ⟨h.1, ih h.2⟩

/-- The fields by block, each with the bit addresses between which they lie (R431). -/
def fieldBlocks : List (List Ent × Nat × Nat) :=
  [(tabGCTL, 0x0, 0x100000), (tabBOOT, 0x100000, 0x200000), (tabFLT, 0x200000, 0x300000), (tabEVT, 0x300000, 0x400000), (tabPERF, 0x400000, 0x500000),
   (tabTIME, 0x500000, 0x600000), (tabSEC, 0x600000, 0x700000), (tabACT, 0x700000, 0x800000), (tabSLOT, 0x800000, 0x820000), (tabSLOTV, 0x820000, 0x900000),
   (tabNOC, 0x900000, 0xa00000), (tabTST, 0xa00000, 0xb00000), (tabPORT, 0x1000000, 0x2000000), (tabCOL, 0x2000000, 0x2400000),
   (tabBLK ++ tabBLKC, 0x2400000, 0x2500000), (tabFRAME ++ tabXP, 0x2800000, 0x2900000), (tabEG, 0x2900000, 0x2980000), (tabBIND, 0x3000000, 0x4000000),
   (tabHOME, 0x4000000, 0x5000000), (tabSUM, 0x8000000, 0x8400000), (tabDMV, 0x8400000, 0x8500000), (tabFN, 0x100000000, 0x200000000)]

def blockOk (b : List Ent × Nat × Nat) : Bool :=
  allApart b.1 && b.1.all (fun e => 8 * b.2.1 ≤ e.base && e.last < 8 * b.2.2 && e.ni != 0 && e.nj != 0)

theorem blocks_ok : fieldBlocks.all blockOk = true := by decide +kernel

theorem blocks_rise : fieldBlocks.Pairwise (fun a b => a.2.2 ≤ b.2.1) := by decide

theorem tabAll_blocks : tabAll.all (fun e => fieldBlocks.any (fun b => decide (8 * b.2.1 ≤ e.base) && (decide (e.base < 8 * b.2.2) && b.1.contains e))) = true := by
  decide +kernel

theorem mem_fieldBlocks {e : Ent} (h : e ∈ tabAll) : ∃ b ∈ fieldBlocks, e ∈ b.1 := by
  obtain ⟨b, hb, hc⟩ := List.any_eq_true.1 (List.all_eq_true.1 tabAll_blocks e h)
  simp only [Bool.and_eq_true, List.contains_iff_mem] at hc
  exact ⟨b, hb, hc.2.2⟩

theorem pairwise_pick {α : Type} {R : α → α → Prop} {l : List α} (h : l.Pairwise R) {a b : α} (ha : a ∈ l) (hb : b ∈ l) : a = b ∨ R a b ∨ R b a := by
  induction l with
  | nil => cases ha
  | cons c l ih =>
    rw [List.pairwise_cons] at h
    rcases List.mem_cons.1 ha with ea | ha'
    · rcases List.mem_cons.1 hb with eb | hb'
      · exact .inl (ea.trans eb.symm)
      · exact .inr (.inl (ea ▸ h.1 b hb'))
    · rcases List.mem_cons.1 hb with eb | hb'
      · exact .inr (.inr (eb ▸ h.1 a ha'))
      · exact ih h.2 ha' hb'

/-- Distinct fields of the map share no place. -/
theorem fields_apart {a b : Ent} (ha : a ∈ tabAll) (hb : b ∈ tabAll) (hne : a ≠ b) (i j i' j' : Nat) : a.key i j ≠ b.key i' j' := by
  obtain ⟨x, hx, hax⟩ := mem_fieldBlocks ha
  obtain ⟨y, hy, hby⟩ := mem_fieldBlocks hb
  have ok := List.all_eq_true.1 blocks_ok
  have kx := ok x hx
  have ky := ok y hy
  simp only [blockOk, Bool.and_eq_true, List.all_eq_true, decide_eq_true_eq, bne_iff_ne] at kx ky
  obtain ⟨⟨⟨r1, r2⟩, r3⟩, r4⟩ := kx.2 a hax
  obtain ⟨⟨⟨q1, q2⟩, q3⟩, q4⟩ := ky.2 b hby
  have ka := key_range r3 r4 i j
  have kb := key_range q3 q4 i' j'
  rcases pairwise_pick blocks_rise hx hy with rfl | h | h
  · rcases pairwise_pick (allApart_pairwise kx.1) hax hby with h | h | h
    · exact absurd h hne
    · exact apart_sound h i j i' j'
    · exact Ne.symm (apart_sound h i' j' i j)
  · omega
  · omega

end Sys2Proof.Machine
end

