-- ==== Sys2Proof/Laws/State.lean ====
section
/-! SUPPORT. Laws of State: what each update of a register, of the output, of time and of the free values leaves in every field. -/

namespace Sys2Proof.Machine

theorem xor_cancel (a b : Nat) : Nat.xor (Nat.xor a b) b = a := by
  show (a ^^^ b) ^^^ b = a
  rw [Nat.xor_assoc, Nat.xor_self, Nat.xor_zero]

/-- A field that is written reads as the value, cut to its width. -/
@[simp] theorem get_set_same (s : State) (e : Ent) (v i j : Nat) : (s.set e v i j).get e i j = v % 2 ^ e.w := by
  simp [State.get, State.set]

/-- A field at another place reads as before. -/
theorem get_set_other {s : State} {e e' : Ent} {v i j i' j' : Nat} (h : e'.key i' j' ≠ e.key i j) :
    (s.set e v i j).get e' i' j' = s.get e' i' j' := by
  simp [State.get, State.set, lookD_putNZ_other h]

@[simp] theorem get_setB_same (s : State) (e : Ent) (b : Bool) (i j : Nat) : (s.setB e b i j).get e i j = b2n b % 2 ^ e.w := by
  simp [State.setB]

theorem get_setB_other {s : State} {e e' : Ent} {b : Bool} {i j i' j' : Nat} (h : e'.key i' j' ≠ e.key i j) :
    (s.setB e b i j).get e' i' j' = s.get e' i' j' := get_set_other h

/-- A saturating counter goes up and stays at all ones. -/
@[simp] theorem get_bump_same (s : State) (e : Ent) (n i j : Nat) :
    (s.bump e n i j).get e i j = min (2 ^ e.w - 1) (s.get e i j + n) := by
  rw [State.bump, get_set_same, satAdd]
  refine Nat.mod_eq_of_lt ?_
  have : 0 < 2 ^ e.w := Nat.two_pow_pos _
  omega

theorem get_bump_other {s : State} {e e' : Ent} {n i j i' j' : Nat} (h : e'.key i' j' ≠ e.key i j) :
    (s.bump e n i j).get e' i' j' = s.get e' i' j' := get_set_other h

/-- A wrapping counter goes up modulo its width. -/
@[simp] theorem get_count_same (s : State) (e : Ent) (n i j : Nat) : (s.count e n i j).get e i j = (s.get e i j + n) % 2 ^ e.w := by
  simp [State.count]

theorem get_count_other {s : State} {e e' : Ent} {n i j i' j' : Nat} (h : e'.key i' j' ≠ e.key i j) :
    (s.count e n i j).get e' i' j' = s.get e' i' j' := get_set_other h

@[simp] theorem get_clear_same (s : State) (e : Ent) (i j : Nat) : (s.clear e i j).get e i j = e.reset i j % 2 ^ e.w := by
  simp [State.clear]

theorem get_clear_other {s : State} {e e' : Ent} {i j i' j' : Nat} (h : e'.key i' j' ≠ e.key i j) :
    (s.clear e i j).get e' i' j' = s.get e' i' j' := get_set_other h

/-- A field reads alike in states with one register file. -/
theorem get_of_regs {s t : State} (h : t.regs = s.regs) (e : Ent) (i j : Nat) : t.get e i j = s.get e i j := by
  simp [State.get, h]

@[simp] theorem set_latch (s : State) (e : Ent) (v i j : Nat) : (s.set e v i j).latch = s.latch := rfl
@[simp] theorem set_now (s : State) (e : Ent) (v i j : Nat) : (s.set e v i j).now = s.now := rfl
@[simp] theorem set_out (s : State) (e : Ent) (v i j : Nat) : (s.set e v i j).out = s.out := rfl
@[simp] theorem set_free (s : State) (e : Ent) (v i j : Nat) : (s.set e v i j).free = s.free := rfl
@[simp] theorem set_fuses (s : State) (e : Ent) (v i j : Nat) : (s.set e v i j).fuses = s.fuses := rfl
@[simp] theorem set_straps (s : State) (e : Ent) (v i j : Nat) : (s.set e v i j).straps = s.straps := rfl
@[simp] theorem set_evt (s : State) (e : Ent) (v i j : Nat) : (s.set e v i j).evt = s.evt := rfl
@[simp] theorem set_flt (s : State) (e : Ent) (v i j : Nat) : (s.set e v i j).flt = s.flt := rfl
@[simp] theorem set_decs (s : State) (e : Ent) (v i j : Nat) : (s.set e v i j).decs = s.decs := rfl
@[simp] theorem set_nextDec (s : State) (e : Ent) (v i j : Nat) : (s.set e v i j).nextDec = s.nextDec := rfl
@[simp] theorem set_fmUp (s : State) (e : Ent) (v i j : Nat) : (s.set e v i j).fmUp = s.fmUp := rfl
@[simp] theorem set_mctpOpen (s : State) (e : Ent) (v i j : Nat) : (s.set e v i j).mctpOpen = s.mctpOpen := rfl
@[simp] theorem set_cols (s : State) (e : Ent) (v i j : Nat) : (s.set e v i j).cols = s.cols := rfl
@[simp] theorem set_ports (s : State) (e : Ent) (v i j : Nat) : (s.set e v i j).ports = s.ports := rfl
@[simp] theorem set_frame (s : State) (e : Ent) (v i j : Nat) : (s.set e v i j).frame = s.frame := rfl
@[simp] theorem set_egs (s : State) (e : Ent) (v i j : Nat) : (s.set e v i j).egs = s.egs := rfl
@[simp] theorem set_bind (s : State) (e : Ent) (v i j : Nat) : (s.set e v i j).bind = s.bind := rfl
@[simp] theorem set_homes (s : State) (e : Ent) (v i j : Nat) : (s.set e v i j).homes = s.homes := rfl
@[simp] theorem set_homeG (s : State) (e : Ent) (v i j : Nat) : (s.set e v i j).homeG = s.homeG := rfl
@[simp] theorem set_act (s : State) (e : Ent) (v i j : Nat) : (s.set e v i j).act = s.act := rfl
@[simp] theorem set_sec (s : State) (e : Ent) (v i j : Nat) : (s.set e v i j).sec = s.sec := rfl
@[simp] theorem set_mgmt (s : State) (e : Ent) (v i j : Nat) : (s.set e v i j).mgmt = s.mgmt := rfl
@[simp] theorem set_boot (s : State) (e : Ent) (v i j : Nat) : (s.set e v i j).boot = s.boot := rfl
@[simp] theorem set_sum (s : State) (e : Ent) (v i j : Nat) : (s.set e v i j).sum = s.sum := rfl
@[simp] theorem set_dmv (s : State) (e : Ent) (v i j : Nat) : (s.set e v i j).dmv = s.dmv := rfl
@[simp] theorem set_perf (s : State) (e : Ent) (v i j : Nat) : (s.set e v i j).perf = s.perf := rfl
@[simp] theorem set_die (s : State) (e : Ent) (v i j : Nat) : (s.set e v i j).die = s.die := rfl
@[simp] theorem set_blks (s : State) (e : Ent) (v i j : Nat) : (s.set e v i j).blks = s.blks := rfl
@[simp] theorem set_blkG (s : State) (e : Ent) (v i j : Nat) : (s.set e v i j).blkG = s.blkG := rfl
@[simp] theorem set_throttle (s : State) (e : Ent) (v i j : Nat) : (s.set e v i j).throttle = s.throttle := rfl
@[simp] theorem set_pending (s : State) (e : Ent) (v i j : Nat) : (s.set e v i j).pending = s.pending := rfl

@[simp] theorem setB_latch (s : State) (e : Ent) (b : Bool) (i j : Nat) : (s.setB e b i j).latch = s.latch := rfl
@[simp] theorem setB_now (s : State) (e : Ent) (b : Bool) (i j : Nat) : (s.setB e b i j).now = s.now := rfl
@[simp] theorem setB_out (s : State) (e : Ent) (b : Bool) (i j : Nat) : (s.setB e b i j).out = s.out := rfl
@[simp] theorem setB_free (s : State) (e : Ent) (b : Bool) (i j : Nat) : (s.setB e b i j).free = s.free := rfl
@[simp] theorem setB_fuses (s : State) (e : Ent) (b : Bool) (i j : Nat) : (s.setB e b i j).fuses = s.fuses := rfl
@[simp] theorem setB_straps (s : State) (e : Ent) (b : Bool) (i j : Nat) : (s.setB e b i j).straps = s.straps := rfl
@[simp] theorem setB_evt (s : State) (e : Ent) (b : Bool) (i j : Nat) : (s.setB e b i j).evt = s.evt := rfl
@[simp] theorem setB_flt (s : State) (e : Ent) (b : Bool) (i j : Nat) : (s.setB e b i j).flt = s.flt := rfl
@[simp] theorem setB_decs (s : State) (e : Ent) (b : Bool) (i j : Nat) : (s.setB e b i j).decs = s.decs := rfl
@[simp] theorem setB_nextDec (s : State) (e : Ent) (b : Bool) (i j : Nat) : (s.setB e b i j).nextDec = s.nextDec := rfl
@[simp] theorem setB_fmUp (s : State) (e : Ent) (b : Bool) (i j : Nat) : (s.setB e b i j).fmUp = s.fmUp := rfl
@[simp] theorem setB_mctpOpen (s : State) (e : Ent) (b : Bool) (i j : Nat) : (s.setB e b i j).mctpOpen = s.mctpOpen := rfl
@[simp] theorem setB_cols (s : State) (e : Ent) (b : Bool) (i j : Nat) : (s.setB e b i j).cols = s.cols := rfl
@[simp] theorem setB_ports (s : State) (e : Ent) (b : Bool) (i j : Nat) : (s.setB e b i j).ports = s.ports := rfl
@[simp] theorem setB_frame (s : State) (e : Ent) (b : Bool) (i j : Nat) : (s.setB e b i j).frame = s.frame := rfl
@[simp] theorem setB_egs (s : State) (e : Ent) (b : Bool) (i j : Nat) : (s.setB e b i j).egs = s.egs := rfl
@[simp] theorem setB_bind (s : State) (e : Ent) (b : Bool) (i j : Nat) : (s.setB e b i j).bind = s.bind := rfl
@[simp] theorem setB_homes (s : State) (e : Ent) (b : Bool) (i j : Nat) : (s.setB e b i j).homes = s.homes := rfl
@[simp] theorem setB_homeG (s : State) (e : Ent) (b : Bool) (i j : Nat) : (s.setB e b i j).homeG = s.homeG := rfl
@[simp] theorem setB_act (s : State) (e : Ent) (b : Bool) (i j : Nat) : (s.setB e b i j).act = s.act := rfl
@[simp] theorem setB_sec (s : State) (e : Ent) (b : Bool) (i j : Nat) : (s.setB e b i j).sec = s.sec := rfl
@[simp] theorem setB_mgmt (s : State) (e : Ent) (b : Bool) (i j : Nat) : (s.setB e b i j).mgmt = s.mgmt := rfl
@[simp] theorem setB_boot (s : State) (e : Ent) (b : Bool) (i j : Nat) : (s.setB e b i j).boot = s.boot := rfl
@[simp] theorem setB_sum (s : State) (e : Ent) (b : Bool) (i j : Nat) : (s.setB e b i j).sum = s.sum := rfl
@[simp] theorem setB_dmv (s : State) (e : Ent) (b : Bool) (i j : Nat) : (s.setB e b i j).dmv = s.dmv := rfl
@[simp] theorem setB_perf (s : State) (e : Ent) (b : Bool) (i j : Nat) : (s.setB e b i j).perf = s.perf := rfl
@[simp] theorem setB_die (s : State) (e : Ent) (b : Bool) (i j : Nat) : (s.setB e b i j).die = s.die := rfl
@[simp] theorem setB_blks (s : State) (e : Ent) (b : Bool) (i j : Nat) : (s.setB e b i j).blks = s.blks := rfl
@[simp] theorem setB_blkG (s : State) (e : Ent) (b : Bool) (i j : Nat) : (s.setB e b i j).blkG = s.blkG := rfl
@[simp] theorem setB_throttle (s : State) (e : Ent) (b : Bool) (i j : Nat) : (s.setB e b i j).throttle = s.throttle := rfl
@[simp] theorem setB_pending (s : State) (e : Ent) (b : Bool) (i j : Nat) : (s.setB e b i j).pending = s.pending := rfl

@[simp] theorem bump_latch (s : State) (e : Ent) (n i j : Nat) : (s.bump e n i j).latch = s.latch := rfl
@[simp] theorem bump_now (s : State) (e : Ent) (n i j : Nat) : (s.bump e n i j).now = s.now := rfl
@[simp] theorem bump_out (s : State) (e : Ent) (n i j : Nat) : (s.bump e n i j).out = s.out := rfl
@[simp] theorem bump_free (s : State) (e : Ent) (n i j : Nat) : (s.bump e n i j).free = s.free := rfl
@[simp] theorem bump_fuses (s : State) (e : Ent) (n i j : Nat) : (s.bump e n i j).fuses = s.fuses := rfl
@[simp] theorem bump_straps (s : State) (e : Ent) (n i j : Nat) : (s.bump e n i j).straps = s.straps := rfl
@[simp] theorem bump_evt (s : State) (e : Ent) (n i j : Nat) : (s.bump e n i j).evt = s.evt := rfl
@[simp] theorem bump_flt (s : State) (e : Ent) (n i j : Nat) : (s.bump e n i j).flt = s.flt := rfl
@[simp] theorem bump_decs (s : State) (e : Ent) (n i j : Nat) : (s.bump e n i j).decs = s.decs := rfl
@[simp] theorem bump_nextDec (s : State) (e : Ent) (n i j : Nat) : (s.bump e n i j).nextDec = s.nextDec := rfl
@[simp] theorem bump_fmUp (s : State) (e : Ent) (n i j : Nat) : (s.bump e n i j).fmUp = s.fmUp := rfl
@[simp] theorem bump_mctpOpen (s : State) (e : Ent) (n i j : Nat) : (s.bump e n i j).mctpOpen = s.mctpOpen := rfl
@[simp] theorem bump_cols (s : State) (e : Ent) (n i j : Nat) : (s.bump e n i j).cols = s.cols := rfl
@[simp] theorem bump_ports (s : State) (e : Ent) (n i j : Nat) : (s.bump e n i j).ports = s.ports := rfl
@[simp] theorem bump_frame (s : State) (e : Ent) (n i j : Nat) : (s.bump e n i j).frame = s.frame := rfl
@[simp] theorem bump_egs (s : State) (e : Ent) (n i j : Nat) : (s.bump e n i j).egs = s.egs := rfl
@[simp] theorem bump_bind (s : State) (e : Ent) (n i j : Nat) : (s.bump e n i j).bind = s.bind := rfl
@[simp] theorem bump_homes (s : State) (e : Ent) (n i j : Nat) : (s.bump e n i j).homes = s.homes := rfl
@[simp] theorem bump_homeG (s : State) (e : Ent) (n i j : Nat) : (s.bump e n i j).homeG = s.homeG := rfl
@[simp] theorem bump_act (s : State) (e : Ent) (n i j : Nat) : (s.bump e n i j).act = s.act := rfl
@[simp] theorem bump_sec (s : State) (e : Ent) (n i j : Nat) : (s.bump e n i j).sec = s.sec := rfl
@[simp] theorem bump_mgmt (s : State) (e : Ent) (n i j : Nat) : (s.bump e n i j).mgmt = s.mgmt := rfl
@[simp] theorem bump_boot (s : State) (e : Ent) (n i j : Nat) : (s.bump e n i j).boot = s.boot := rfl
@[simp] theorem bump_sum (s : State) (e : Ent) (n i j : Nat) : (s.bump e n i j).sum = s.sum := rfl
@[simp] theorem bump_dmv (s : State) (e : Ent) (n i j : Nat) : (s.bump e n i j).dmv = s.dmv := rfl
@[simp] theorem bump_perf (s : State) (e : Ent) (n i j : Nat) : (s.bump e n i j).perf = s.perf := rfl
@[simp] theorem bump_die (s : State) (e : Ent) (n i j : Nat) : (s.bump e n i j).die = s.die := rfl
@[simp] theorem bump_blks (s : State) (e : Ent) (n i j : Nat) : (s.bump e n i j).blks = s.blks := rfl
@[simp] theorem bump_blkG (s : State) (e : Ent) (n i j : Nat) : (s.bump e n i j).blkG = s.blkG := rfl
@[simp] theorem bump_throttle (s : State) (e : Ent) (n i j : Nat) : (s.bump e n i j).throttle = s.throttle := rfl
@[simp] theorem bump_pending (s : State) (e : Ent) (n i j : Nat) : (s.bump e n i j).pending = s.pending := rfl

@[simp] theorem count_latch (s : State) (e : Ent) (n i j : Nat) : (s.count e n i j).latch = s.latch := rfl
@[simp] theorem count_now (s : State) (e : Ent) (n i j : Nat) : (s.count e n i j).now = s.now := rfl
@[simp] theorem count_out (s : State) (e : Ent) (n i j : Nat) : (s.count e n i j).out = s.out := rfl
@[simp] theorem count_free (s : State) (e : Ent) (n i j : Nat) : (s.count e n i j).free = s.free := rfl
@[simp] theorem count_fuses (s : State) (e : Ent) (n i j : Nat) : (s.count e n i j).fuses = s.fuses := rfl
@[simp] theorem count_straps (s : State) (e : Ent) (n i j : Nat) : (s.count e n i j).straps = s.straps := rfl
@[simp] theorem count_evt (s : State) (e : Ent) (n i j : Nat) : (s.count e n i j).evt = s.evt := rfl
@[simp] theorem count_flt (s : State) (e : Ent) (n i j : Nat) : (s.count e n i j).flt = s.flt := rfl
@[simp] theorem count_decs (s : State) (e : Ent) (n i j : Nat) : (s.count e n i j).decs = s.decs := rfl
@[simp] theorem count_nextDec (s : State) (e : Ent) (n i j : Nat) : (s.count e n i j).nextDec = s.nextDec := rfl
@[simp] theorem count_fmUp (s : State) (e : Ent) (n i j : Nat) : (s.count e n i j).fmUp = s.fmUp := rfl
@[simp] theorem count_mctpOpen (s : State) (e : Ent) (n i j : Nat) : (s.count e n i j).mctpOpen = s.mctpOpen := rfl
@[simp] theorem count_cols (s : State) (e : Ent) (n i j : Nat) : (s.count e n i j).cols = s.cols := rfl
@[simp] theorem count_ports (s : State) (e : Ent) (n i j : Nat) : (s.count e n i j).ports = s.ports := rfl
@[simp] theorem count_frame (s : State) (e : Ent) (n i j : Nat) : (s.count e n i j).frame = s.frame := rfl
@[simp] theorem count_egs (s : State) (e : Ent) (n i j : Nat) : (s.count e n i j).egs = s.egs := rfl
@[simp] theorem count_bind (s : State) (e : Ent) (n i j : Nat) : (s.count e n i j).bind = s.bind := rfl
@[simp] theorem count_homes (s : State) (e : Ent) (n i j : Nat) : (s.count e n i j).homes = s.homes := rfl
@[simp] theorem count_homeG (s : State) (e : Ent) (n i j : Nat) : (s.count e n i j).homeG = s.homeG := rfl
@[simp] theorem count_act (s : State) (e : Ent) (n i j : Nat) : (s.count e n i j).act = s.act := rfl
@[simp] theorem count_sec (s : State) (e : Ent) (n i j : Nat) : (s.count e n i j).sec = s.sec := rfl
@[simp] theorem count_mgmt (s : State) (e : Ent) (n i j : Nat) : (s.count e n i j).mgmt = s.mgmt := rfl
@[simp] theorem count_boot (s : State) (e : Ent) (n i j : Nat) : (s.count e n i j).boot = s.boot := rfl
@[simp] theorem count_sum (s : State) (e : Ent) (n i j : Nat) : (s.count e n i j).sum = s.sum := rfl
@[simp] theorem count_dmv (s : State) (e : Ent) (n i j : Nat) : (s.count e n i j).dmv = s.dmv := rfl
@[simp] theorem count_perf (s : State) (e : Ent) (n i j : Nat) : (s.count e n i j).perf = s.perf := rfl
@[simp] theorem count_die (s : State) (e : Ent) (n i j : Nat) : (s.count e n i j).die = s.die := rfl
@[simp] theorem count_blks (s : State) (e : Ent) (n i j : Nat) : (s.count e n i j).blks = s.blks := rfl
@[simp] theorem count_blkG (s : State) (e : Ent) (n i j : Nat) : (s.count e n i j).blkG = s.blkG := rfl
@[simp] theorem count_throttle (s : State) (e : Ent) (n i j : Nat) : (s.count e n i j).throttle = s.throttle := rfl
@[simp] theorem count_pending (s : State) (e : Ent) (n i j : Nat) : (s.count e n i j).pending = s.pending := rfl

@[simp] theorem clear_latch (s : State) (e : Ent) (i j : Nat) : (s.clear e i j).latch = s.latch := rfl
@[simp] theorem clear_now (s : State) (e : Ent) (i j : Nat) : (s.clear e i j).now = s.now := rfl
@[simp] theorem clear_out (s : State) (e : Ent) (i j : Nat) : (s.clear e i j).out = s.out := rfl
@[simp] theorem clear_free (s : State) (e : Ent) (i j : Nat) : (s.clear e i j).free = s.free := rfl
@[simp] theorem clear_fuses (s : State) (e : Ent) (i j : Nat) : (s.clear e i j).fuses = s.fuses := rfl
@[simp] theorem clear_straps (s : State) (e : Ent) (i j : Nat) : (s.clear e i j).straps = s.straps := rfl
@[simp] theorem clear_evt (s : State) (e : Ent) (i j : Nat) : (s.clear e i j).evt = s.evt := rfl
@[simp] theorem clear_flt (s : State) (e : Ent) (i j : Nat) : (s.clear e i j).flt = s.flt := rfl
@[simp] theorem clear_decs (s : State) (e : Ent) (i j : Nat) : (s.clear e i j).decs = s.decs := rfl
@[simp] theorem clear_nextDec (s : State) (e : Ent) (i j : Nat) : (s.clear e i j).nextDec = s.nextDec := rfl
@[simp] theorem clear_fmUp (s : State) (e : Ent) (i j : Nat) : (s.clear e i j).fmUp = s.fmUp := rfl
@[simp] theorem clear_mctpOpen (s : State) (e : Ent) (i j : Nat) : (s.clear e i j).mctpOpen = s.mctpOpen := rfl
@[simp] theorem clear_cols (s : State) (e : Ent) (i j : Nat) : (s.clear e i j).cols = s.cols := rfl
@[simp] theorem clear_ports (s : State) (e : Ent) (i j : Nat) : (s.clear e i j).ports = s.ports := rfl
@[simp] theorem clear_frame (s : State) (e : Ent) (i j : Nat) : (s.clear e i j).frame = s.frame := rfl
@[simp] theorem clear_egs (s : State) (e : Ent) (i j : Nat) : (s.clear e i j).egs = s.egs := rfl
@[simp] theorem clear_bind (s : State) (e : Ent) (i j : Nat) : (s.clear e i j).bind = s.bind := rfl
@[simp] theorem clear_homes (s : State) (e : Ent) (i j : Nat) : (s.clear e i j).homes = s.homes := rfl
@[simp] theorem clear_homeG (s : State) (e : Ent) (i j : Nat) : (s.clear e i j).homeG = s.homeG := rfl
@[simp] theorem clear_act (s : State) (e : Ent) (i j : Nat) : (s.clear e i j).act = s.act := rfl
@[simp] theorem clear_sec (s : State) (e : Ent) (i j : Nat) : (s.clear e i j).sec = s.sec := rfl
@[simp] theorem clear_mgmt (s : State) (e : Ent) (i j : Nat) : (s.clear e i j).mgmt = s.mgmt := rfl
@[simp] theorem clear_boot (s : State) (e : Ent) (i j : Nat) : (s.clear e i j).boot = s.boot := rfl
@[simp] theorem clear_sum (s : State) (e : Ent) (i j : Nat) : (s.clear e i j).sum = s.sum := rfl
@[simp] theorem clear_dmv (s : State) (e : Ent) (i j : Nat) : (s.clear e i j).dmv = s.dmv := rfl
@[simp] theorem clear_perf (s : State) (e : Ent) (i j : Nat) : (s.clear e i j).perf = s.perf := rfl
@[simp] theorem clear_die (s : State) (e : Ent) (i j : Nat) : (s.clear e i j).die = s.die := rfl
@[simp] theorem clear_blks (s : State) (e : Ent) (i j : Nat) : (s.clear e i j).blks = s.blks := rfl
@[simp] theorem clear_blkG (s : State) (e : Ent) (i j : Nat) : (s.clear e i j).blkG = s.blkG := rfl
@[simp] theorem clear_throttle (s : State) (e : Ent) (i j : Nat) : (s.clear e i j).throttle = s.throttle := rfl
@[simp] theorem clear_pending (s : State) (e : Ent) (i j : Nat) : (s.clear e i j).pending = s.pending := rfl

@[simp] theorem emit_regs (s : State) (o : Out) : (s.emit o).regs = s.regs := rfl
@[simp] theorem emit_latch (s : State) (o : Out) : (s.emit o).latch = s.latch := rfl
@[simp] theorem emit_now (s : State) (o : Out) : (s.emit o).now = s.now := rfl
@[simp] theorem emit_out (s : State) (o : Out) : (s.emit o).out = s.out ++ [o] := rfl
@[simp] theorem emit_free (s : State) (o : Out) : (s.emit o).free = s.free := rfl
@[simp] theorem emit_fuses (s : State) (o : Out) : (s.emit o).fuses = s.fuses := rfl
@[simp] theorem emit_straps (s : State) (o : Out) : (s.emit o).straps = s.straps := rfl
@[simp] theorem emit_evt (s : State) (o : Out) : (s.emit o).evt = s.evt := rfl
@[simp] theorem emit_flt (s : State) (o : Out) : (s.emit o).flt = s.flt := rfl
@[simp] theorem emit_decs (s : State) (o : Out) : (s.emit o).decs = s.decs := rfl
@[simp] theorem emit_nextDec (s : State) (o : Out) : (s.emit o).nextDec = s.nextDec := rfl
@[simp] theorem emit_fmUp (s : State) (o : Out) : (s.emit o).fmUp = s.fmUp := rfl
@[simp] theorem emit_mctpOpen (s : State) (o : Out) : (s.emit o).mctpOpen = s.mctpOpen := rfl
@[simp] theorem emit_cols (s : State) (o : Out) : (s.emit o).cols = s.cols := rfl
@[simp] theorem emit_ports (s : State) (o : Out) : (s.emit o).ports = s.ports := rfl
@[simp] theorem emit_frame (s : State) (o : Out) : (s.emit o).frame = s.frame := rfl
@[simp] theorem emit_egs (s : State) (o : Out) : (s.emit o).egs = s.egs := rfl
@[simp] theorem emit_bind (s : State) (o : Out) : (s.emit o).bind = s.bind := rfl
@[simp] theorem emit_homes (s : State) (o : Out) : (s.emit o).homes = s.homes := rfl
@[simp] theorem emit_homeG (s : State) (o : Out) : (s.emit o).homeG = s.homeG := rfl
@[simp] theorem emit_act (s : State) (o : Out) : (s.emit o).act = s.act := rfl
@[simp] theorem emit_sec (s : State) (o : Out) : (s.emit o).sec = s.sec := rfl
@[simp] theorem emit_mgmt (s : State) (o : Out) : (s.emit o).mgmt = s.mgmt := rfl
@[simp] theorem emit_boot (s : State) (o : Out) : (s.emit o).boot = s.boot := rfl
@[simp] theorem emit_sum (s : State) (o : Out) : (s.emit o).sum = s.sum := rfl
@[simp] theorem emit_dmv (s : State) (o : Out) : (s.emit o).dmv = s.dmv := rfl
@[simp] theorem emit_perf (s : State) (o : Out) : (s.emit o).perf = s.perf := rfl
@[simp] theorem emit_die (s : State) (o : Out) : (s.emit o).die = s.die := rfl
@[simp] theorem emit_blks (s : State) (o : Out) : (s.emit o).blks = s.blks := rfl
@[simp] theorem emit_blkG (s : State) (o : Out) : (s.emit o).blkG = s.blkG := rfl
@[simp] theorem emit_throttle (s : State) (o : Out) : (s.emit o).throttle = s.throttle := rfl
@[simp] theorem emit_pending (s : State) (o : Out) : (s.emit o).pending = s.pending := rfl
@[simp] theorem emit_get (s : State) (o : Out) (e : Ent) (i j : Nat) : (s.emit o).get e i j = s.get e i j := rfl

@[simp] theorem reach_regs (s : State) (t : Nat) : (s.reach t).regs = s.regs := rfl
@[simp] theorem reach_latch (s : State) (t : Nat) : (s.reach t).latch = s.latch := rfl
@[simp] theorem reach_now (s : State) (t : Nat) : (s.reach t).now = max s.now (t * 2 ^ 16) := rfl
@[simp] theorem reach_out (s : State) (t : Nat) : (s.reach t).out = s.out := rfl
@[simp] theorem reach_free (s : State) (t : Nat) : (s.reach t).free = s.free := rfl
@[simp] theorem reach_fuses (s : State) (t : Nat) : (s.reach t).fuses = s.fuses := rfl
@[simp] theorem reach_straps (s : State) (t : Nat) : (s.reach t).straps = s.straps := rfl
@[simp] theorem reach_evt (s : State) (t : Nat) : (s.reach t).evt = s.evt := rfl
@[simp] theorem reach_flt (s : State) (t : Nat) : (s.reach t).flt = s.flt := rfl
@[simp] theorem reach_decs (s : State) (t : Nat) : (s.reach t).decs = s.decs := rfl
@[simp] theorem reach_nextDec (s : State) (t : Nat) : (s.reach t).nextDec = s.nextDec := rfl
@[simp] theorem reach_fmUp (s : State) (t : Nat) : (s.reach t).fmUp = s.fmUp := rfl
@[simp] theorem reach_mctpOpen (s : State) (t : Nat) : (s.reach t).mctpOpen = s.mctpOpen := rfl
@[simp] theorem reach_cols (s : State) (t : Nat) : (s.reach t).cols = s.cols := rfl
@[simp] theorem reach_ports (s : State) (t : Nat) : (s.reach t).ports = s.ports := rfl
@[simp] theorem reach_frame (s : State) (t : Nat) : (s.reach t).frame = s.frame := rfl
@[simp] theorem reach_egs (s : State) (t : Nat) : (s.reach t).egs = s.egs := rfl
@[simp] theorem reach_bind (s : State) (t : Nat) : (s.reach t).bind = s.bind := rfl
@[simp] theorem reach_homes (s : State) (t : Nat) : (s.reach t).homes = s.homes := rfl
@[simp] theorem reach_homeG (s : State) (t : Nat) : (s.reach t).homeG = s.homeG := rfl
@[simp] theorem reach_act (s : State) (t : Nat) : (s.reach t).act = s.act := rfl
@[simp] theorem reach_sec (s : State) (t : Nat) : (s.reach t).sec = s.sec := rfl
@[simp] theorem reach_mgmt (s : State) (t : Nat) : (s.reach t).mgmt = s.mgmt := rfl
@[simp] theorem reach_boot (s : State) (t : Nat) : (s.reach t).boot = s.boot := rfl
@[simp] theorem reach_sum (s : State) (t : Nat) : (s.reach t).sum = s.sum := rfl
@[simp] theorem reach_dmv (s : State) (t : Nat) : (s.reach t).dmv = s.dmv := rfl
@[simp] theorem reach_perf (s : State) (t : Nat) : (s.reach t).perf = s.perf := rfl
@[simp] theorem reach_die (s : State) (t : Nat) : (s.reach t).die = s.die := rfl
@[simp] theorem reach_blks (s : State) (t : Nat) : (s.reach t).blks = s.blks := rfl
@[simp] theorem reach_blkG (s : State) (t : Nat) : (s.reach t).blkG = s.blkG := rfl
@[simp] theorem reach_throttle (s : State) (t : Nat) : (s.reach t).throttle = s.throttle := rfl
@[simp] theorem reach_pending (s : State) (t : Nat) : (s.reach t).pending = s.pending := rfl
@[simp] theorem reach_get (s : State) (t : Nat) (e : Ent) (i j : Nat) : (s.reach t).get e i j = s.get e i j := rfl

@[simp] theorem spend_regs (s : State) : (s.spend).regs = s.regs := rfl
@[simp] theorem spend_latch (s : State) : (s.spend).latch = s.latch := rfl
@[simp] theorem spend_now (s : State) : (s.spend).now = s.now := rfl
@[simp] theorem spend_out (s : State) : (s.spend).out = s.out := rfl
@[simp] theorem spend_free (s : State) : (s.spend).free = s.free + 1 := rfl
@[simp] theorem spend_fuses (s : State) : (s.spend).fuses = s.fuses := rfl
@[simp] theorem spend_straps (s : State) : (s.spend).straps = s.straps := rfl
@[simp] theorem spend_evt (s : State) : (s.spend).evt = s.evt := rfl
@[simp] theorem spend_flt (s : State) : (s.spend).flt = s.flt := rfl
@[simp] theorem spend_decs (s : State) : (s.spend).decs = s.decs := rfl
@[simp] theorem spend_nextDec (s : State) : (s.spend).nextDec = s.nextDec := rfl
@[simp] theorem spend_fmUp (s : State) : (s.spend).fmUp = s.fmUp := rfl
@[simp] theorem spend_mctpOpen (s : State) : (s.spend).mctpOpen = s.mctpOpen := rfl
@[simp] theorem spend_cols (s : State) : (s.spend).cols = s.cols := rfl
@[simp] theorem spend_ports (s : State) : (s.spend).ports = s.ports := rfl
@[simp] theorem spend_frame (s : State) : (s.spend).frame = s.frame := rfl
@[simp] theorem spend_egs (s : State) : (s.spend).egs = s.egs := rfl
@[simp] theorem spend_bind (s : State) : (s.spend).bind = s.bind := rfl
@[simp] theorem spend_homes (s : State) : (s.spend).homes = s.homes := rfl
@[simp] theorem spend_homeG (s : State) : (s.spend).homeG = s.homeG := rfl
@[simp] theorem spend_act (s : State) : (s.spend).act = s.act := rfl
@[simp] theorem spend_sec (s : State) : (s.spend).sec = s.sec := rfl
@[simp] theorem spend_mgmt (s : State) : (s.spend).mgmt = s.mgmt := rfl
@[simp] theorem spend_boot (s : State) : (s.spend).boot = s.boot := rfl
@[simp] theorem spend_sum (s : State) : (s.spend).sum = s.sum := rfl
@[simp] theorem spend_dmv (s : State) : (s.spend).dmv = s.dmv := rfl
@[simp] theorem spend_perf (s : State) : (s.spend).perf = s.perf := rfl
@[simp] theorem spend_die (s : State) : (s.spend).die = s.die := rfl
@[simp] theorem spend_blks (s : State) : (s.spend).blks = s.blks := rfl
@[simp] theorem spend_blkG (s : State) : (s.spend).blkG = s.blkG := rfl
@[simp] theorem spend_throttle (s : State) : (s.spend).throttle = s.throttle := rfl
@[simp] theorem spend_pending (s : State) : (s.spend).pending = s.pending := rfl
@[simp] theorem spend_get (s : State) (e : Ent) (i j : Nat) : (s.spend).get e i j = s.get e i j := rfl

end Sys2Proof.Machine
end

