-- ==== Sys2Proof/Laws/Closed.lean ====
section
/-! SUPPORT. What it takes for a property of states to survive every command, given the parts of the state that the command may write. -/

namespace Sys2Proof.Machine

/-- The bit of a field in a mask. -/
def fieldBit (e : Ent) : Nat := 30 + e.ix

/-- A mask names parts of a state: bits 0 to 29 the fields of State between the register file and the queue, in their order, and from bit 30 on the fields of the register map by their place in `tabAll`. `Closed m P`: changes confined to the parts in `m` keep `P`. Register files change only from canonical to canonical, and outputs only grow. -/
structure Closed (m : Nat) (P : State → Prop) : Prop where
  regs : ∀ {s : State} {r : List (Nat × Nat)}, (rising s.regs = true → noZero s.regs = true → rising r = true ∧ noZero r = true) →
    (∀ e ∈ tabAll, m.testBit (fieldBit e) = false → ∀ i j, lookD r (e.key i j) 0 = lookD s.regs (e.key i j) 0) → P s → P { s with regs := r }
  out : ∀ {s : State} {o}, m.testBit 2 = true → P s → P { s with out := s.out ++ o }
  other : ∀ {s : State} {latch' now' free' fuses' straps' evt' flt' decs' nextDec' fmUp' mctpOpen' cols' ports' frame' egs' bind' homes' homeG' act' sec' mgmt' boot' sum' dmv' perf' die' blks' blkG' throttle'}, (m.testBit 0 = true ∨ latch' = s.latch) ∧ (m.testBit 1 = true ∨ now' = s.now) ∧ (m.testBit 3 = true ∨ free' = s.free) ∧ (m.testBit 4 = true ∨ fuses' = s.fuses) ∧ (m.testBit 5 = true ∨ straps' = s.straps) ∧ (m.testBit 6 = true ∨ evt' = s.evt) ∧ (m.testBit 7 = true ∨ flt' = s.flt) ∧ (m.testBit 8 = true ∨ decs' = s.decs) ∧ (m.testBit 9 = true ∨ nextDec' = s.nextDec) ∧ (m.testBit 10 = true ∨ fmUp' = s.fmUp) ∧ (m.testBit 11 = true ∨ mctpOpen' = s.mctpOpen) ∧ (m.testBit 12 = true ∨ cols' = s.cols) ∧ (m.testBit 13 = true ∨ ports' = s.ports) ∧ (m.testBit 14 = true ∨ frame' = s.frame) ∧ (m.testBit 15 = true ∨ egs' = s.egs) ∧ (m.testBit 16 = true ∨ bind' = s.bind) ∧ (m.testBit 17 = true ∨ homes' = s.homes) ∧ (m.testBit 18 = true ∨ homeG' = s.homeG) ∧ (m.testBit 19 = true ∨ act' = s.act) ∧ (m.testBit 20 = true ∨ sec' = s.sec) ∧ (m.testBit 21 = true ∨ mgmt' = s.mgmt) ∧ (m.testBit 22 = true ∨ boot' = s.boot) ∧ (m.testBit 23 = true ∨ sum' = s.sum) ∧ (m.testBit 24 = true ∨ dmv' = s.dmv) ∧ (m.testBit 25 = true ∨ perf' = s.perf) ∧ (m.testBit 26 = true ∨ die' = s.die) ∧ (m.testBit 27 = true ∨ blks' = s.blks) ∧ (m.testBit 28 = true ∨ blkG' = s.blkG) ∧ (m.testBit 29 = true ∨ throttle' = s.throttle) →
    P s → P ⟨s.regs, latch', now', s.out, free', fuses', straps', evt', flt', decs', nextDec', fmUp', mctpOpen', cols', ports', frame', egs', bind', homes', homeG', act', sec', mgmt', boot', sum', dmv', perf', die', blks', blkG', throttle', s.pending⟩

theorem testBit_false_of_land {m' m i : Nat} (h : m' &&& m = m') (hi : m.testBit i = false) : m'.testBit i = false := by
  rw [← h, Nat.testBit_land, hi, Bool.and_false]

theorem testBit_true_of_land {m' m i : Nat} (h : m' &&& m = m') (hi : m'.testBit i = true) : m.testBit i = true := by
  rw [← h, Nat.testBit_land] at hi; exact (Bool.and_eq_true _ _ ▸ hi).2

/-- Fewer parts may be written. -/
theorem Closed.mono {m' m : Nat} {P : State → Prop} (h : Closed m P) (hm : m' &&& m = m') : Closed m' P where
  regs := fun h1 h2 hp => h.regs h1 (fun e he hk => h2 e he (testBit_false_of_land hm hk)) hp
  out := fun hb hp => h.out (testBit_true_of_land hm hb) hp
  other := by
    intro s latch' now' free' fuses' straps' evt' flt' decs' nextDec' fmUp' mctpOpen' cols' ports' frame' egs' bind' homes' homeG' act' sec' mgmt' boot' sum' dmv' perf' die' blks' blkG' throttle' hs hp
    obtain ⟨h0, h1, h2, h3, h4, h5, h6, h7, h8, h9, h10, h11, h12, h13, h14, h15, h16, h17, h18, h19, h20, h21, h22, h23, h24, h25, h26, h27, h28⟩ := hs
    exact h.other ⟨h0.imp_left (testBit_true_of_land hm), h1.imp_left (testBit_true_of_land hm), h2.imp_left (testBit_true_of_land hm), h3.imp_left (testBit_true_of_land hm), h4.imp_left (testBit_true_of_land hm), h5.imp_left (testBit_true_of_land hm), h6.imp_left (testBit_true_of_land hm), h7.imp_left (testBit_true_of_land hm), h8.imp_left (testBit_true_of_land hm), h9.imp_left (testBit_true_of_land hm), h10.imp_left (testBit_true_of_land hm), h11.imp_left (testBit_true_of_land hm), h12.imp_left (testBit_true_of_land hm), h13.imp_left (testBit_true_of_land hm), h14.imp_left (testBit_true_of_land hm), h15.imp_left (testBit_true_of_land hm), h16.imp_left (testBit_true_of_land hm), h17.imp_left (testBit_true_of_land hm), h18.imp_left (testBit_true_of_land hm), h19.imp_left (testBit_true_of_land hm), h20.imp_left (testBit_true_of_land hm), h21.imp_left (testBit_true_of_land hm), h22.imp_left (testBit_true_of_land hm), h23.imp_left (testBit_true_of_land hm), h24.imp_left (testBit_true_of_land hm), h25.imp_left (testBit_true_of_land hm), h26.imp_left (testBit_true_of_land hm), h27.imp_left (testBit_true_of_land hm), h28.imp_left (testBit_true_of_land hm)⟩ hp

/-- The part of the state outside a mask is as it was. -/
def agree (m : Nat) (s t : State) : Prop :=
  (∀ e ∈ tabAll, m.testBit (fieldBit e) = false → ∀ i j, lookD t.regs (e.key i j) 0 = lookD s.regs (e.key i j) 0) ∧
  (m.testBit 2 = false → t.out = s.out) ∧ t.pending = s.pending ∧ (m.testBit 0 = false → t.latch = s.latch) ∧ (m.testBit 1 = false → t.now = s.now) ∧ (m.testBit 3 = false → t.free = s.free) ∧ (m.testBit 4 = false → t.fuses = s.fuses) ∧ (m.testBit 5 = false → t.straps = s.straps) ∧ (m.testBit 6 = false → t.evt = s.evt) ∧ (m.testBit 7 = false → t.flt = s.flt) ∧ (m.testBit 8 = false → t.decs = s.decs) ∧ (m.testBit 9 = false → t.nextDec = s.nextDec) ∧ (m.testBit 10 = false → t.fmUp = s.fmUp) ∧ (m.testBit 11 = false → t.mctpOpen = s.mctpOpen) ∧ (m.testBit 12 = false → t.cols = s.cols) ∧ (m.testBit 13 = false → t.ports = s.ports) ∧ (m.testBit 14 = false → t.frame = s.frame) ∧ (m.testBit 15 = false → t.egs = s.egs) ∧ (m.testBit 16 = false → t.bind = s.bind) ∧ (m.testBit 17 = false → t.homes = s.homes) ∧ (m.testBit 18 = false → t.homeG = s.homeG) ∧ (m.testBit 19 = false → t.act = s.act) ∧ (m.testBit 20 = false → t.sec = s.sec) ∧ (m.testBit 21 = false → t.mgmt = s.mgmt) ∧ (m.testBit 22 = false → t.boot = s.boot) ∧ (m.testBit 23 = false → t.sum = s.sum) ∧ (m.testBit 24 = false → t.dmv = s.dmv) ∧ (m.testBit 25 = false → t.perf = s.perf) ∧ (m.testBit 26 = false → t.die = s.die) ∧ (m.testBit 27 = false → t.blks = s.blks) ∧ (m.testBit 28 = false → t.blkG = s.blkG) ∧ (m.testBit 29 = false → t.throttle = s.throttle)

theorem agree_refl (m : Nat) (s : State) : agree m s s :=
  ⟨fun _ _ _ _ _ => rfl, fun _ => rfl, rfl, fun _ => rfl, fun _ => rfl, fun _ => rfl, fun _ => rfl, fun _ => rfl, fun _ => rfl, fun _ => rfl, fun _ => rfl, fun _ => rfl, fun _ => rfl, fun _ => rfl, fun _ => rfl, fun _ => rfl, fun _ => rfl, fun _ => rfl, fun _ => rfl, fun _ => rfl, fun _ => rfl, fun _ => rfl, fun _ => rfl, fun _ => rfl, fun _ => rfl, fun _ => rfl, fun _ => rfl, fun _ => rfl, fun _ => rfl, fun _ => rfl, fun _ => rfl, fun _ => rfl⟩

theorem agree_closed (m : Nat) (s : State) : Closed m (agree m s) where
  regs := fun _ h2 hp => ⟨fun e he hk i j => (h2 e he hk i j).trans (hp.1 e he hk i j), hp.2⟩
  out := fun hb hp => ⟨hp.1, fun hf => absurd (hb.symm.trans hf) (by decide), hp.2.2⟩
  other := by
    intro t latch' now' free' fuses' straps' evt' flt' decs' nextDec' fmUp' mctpOpen' cols' ports' frame' egs' bind' homes' homeG' act' sec' mgmt' boot' sum' dmv' perf' die' blks' blkG' throttle' hs hp
    obtain ⟨h0, h1, h2, h3, h4, h5, h6, h7, h8, h9, h10, h11, h12, h13, h14, h15, h16, h17, h18, h19, h20, h21, h22, h23, h24, h25, h26, h27, h28⟩ := hs
    obtain ⟨hr, ho, hq, p0, p1, p2, p3, p4, p5, p6, p7, p8, p9, p10, p11, p12, p13, p14, p15, p16, p17, p18, p19, p20, p21, p22, p23, p24, p25, p26, p27, p28⟩ := hp
    refine ⟨hr, ho, hq, ?_, ?_, ?_, ?_, ?_, ?_, ?_, ?_, ?_, ?_, ?_, ?_, ?_, ?_, ?_, ?_, ?_, ?_, ?_, ?_, ?_, ?_, ?_, ?_, ?_, ?_, ?_, ?_, ?_⟩
    all_goals intro hf
    · rcases h0 with h | h
      · exact absurd (h.symm.trans hf) (by decide)
      · exact h.trans (p0 hf)
    · rcases h1 with h | h
      · exact absurd (h.symm.trans hf) (by decide)
      · exact h.trans (p1 hf)
    · rcases h2 with h | h
      · exact absurd (h.symm.trans hf) (by decide)
      · exact h.trans (p2 hf)
    · rcases h3 with h | h
      · exact absurd (h.symm.trans hf) (by decide)
      · exact h.trans (p3 hf)
    · rcases h4 with h | h
      · exact absurd (h.symm.trans hf) (by decide)
      · exact h.trans (p4 hf)
    · rcases h5 with h | h
      · exact absurd (h.symm.trans hf) (by decide)
      · exact h.trans (p5 hf)
    · rcases h6 with h | h
      · exact absurd (h.symm.trans hf) (by decide)
      · exact h.trans (p6 hf)
    · rcases h7 with h | h
      · exact absurd (h.symm.trans hf) (by decide)
      · exact h.trans (p7 hf)
    · rcases h8 with h | h
      · exact absurd (h.symm.trans hf) (by decide)
      · exact h.trans (p8 hf)
    · rcases h9 with h | h
      · exact absurd (h.symm.trans hf) (by decide)
      · exact h.trans (p9 hf)
    · rcases h10 with h | h
      · exact absurd (h.symm.trans hf) (by decide)
      · exact h.trans (p10 hf)
    · rcases h11 with h | h
      · exact absurd (h.symm.trans hf) (by decide)
      · exact h.trans (p11 hf)
    · rcases h12 with h | h
      · exact absurd (h.symm.trans hf) (by decide)
      · exact h.trans (p12 hf)
    · rcases h13 with h | h
      · exact absurd (h.symm.trans hf) (by decide)
      · exact h.trans (p13 hf)
    · rcases h14 with h | h
      · exact absurd (h.symm.trans hf) (by decide)
      · exact h.trans (p14 hf)
    · rcases h15 with h | h
      · exact absurd (h.symm.trans hf) (by decide)
      · exact h.trans (p15 hf)
    · rcases h16 with h | h
      · exact absurd (h.symm.trans hf) (by decide)
      · exact h.trans (p16 hf)
    · rcases h17 with h | h
      · exact absurd (h.symm.trans hf) (by decide)
      · exact h.trans (p17 hf)
    · rcases h18 with h | h
      · exact absurd (h.symm.trans hf) (by decide)
      · exact h.trans (p18 hf)
    · rcases h19 with h | h
      · exact absurd (h.symm.trans hf) (by decide)
      · exact h.trans (p19 hf)
    · rcases h20 with h | h
      · exact absurd (h.symm.trans hf) (by decide)
      · exact h.trans (p20 hf)
    · rcases h21 with h | h
      · exact absurd (h.symm.trans hf) (by decide)
      · exact h.trans (p21 hf)
    · rcases h22 with h | h
      · exact absurd (h.symm.trans hf) (by decide)
      · exact h.trans (p22 hf)
    · rcases h23 with h | h
      · exact absurd (h.symm.trans hf) (by decide)
      · exact h.trans (p23 hf)
    · rcases h24 with h | h
      · exact absurd (h.symm.trans hf) (by decide)
      · exact h.trans (p24 hf)
    · rcases h25 with h | h
      · exact absurd (h.symm.trans hf) (by decide)
      · exact h.trans (p25 hf)
    · rcases h26 with h | h
      · exact absurd (h.symm.trans hf) (by decide)
      · exact h.trans (p26 hf)
    · rcases h27 with h | h
      · exact absurd (h.symm.trans hf) (by decide)
      · exact h.trans (p27 hf)
    · rcases h28 with h | h
      · exact absurd (h.symm.trans hf) (by decide)
      · exact h.trans (p28 hf)

/-- The canonical form of the register file survives everything. -/
theorem canonical_closed (m : Nat) : Closed m (fun t => rising t.regs = true ∧ noZero t.regs = true) where
  regs := fun h1 _ hp => h1 hp.1 hp.2
  out := fun _ hp => hp
  other := fun _ hp => hp

/-- The table that holds the field of a number, and the number of its first field. -/
def tabOf (n : Nat) : List Ent × Nat :=
  if n < 39 then (tabEVT, 0) else
  if n < 90 then (tabFLT, 39) else
  if n < 121 then (tabGCTL, 90) else
  if n < 133 then (tabNOC, 121) else
  if n < 177 then (tabBOOT, 133) else
  if n < 218 then (tabSEC, 177) else
  if n < 236 then (tabTIME, 218) else
  if n < 276 then (tabACT, 236) else
  if n < 324 then (tabPERF, 276) else
  if n < 375 then (tabSLOT, 324) else
  if n < 391 then (tabSLOTV, 375) else
  if n < 448 then (tabCOL, 391) else
  if n < 488 then (tabPORT, 448) else
  if n < 545 then (tabBIND, 488) else
  if n < 596 then (tabHOME, 545) else
  if n < 616 then (tabFRAME, 596) else
  if n < 632 then (tabXP, 616) else
  if n < 672 then (tabEG, 632) else
  if n < 719 then (tabBLK, 672) else
  if n < 742 then (tabBLKC, 719) else
  if n < 776 then (tabSUM, 742) else
  if n < 800 then (tabDMV, 776) else
  if n < 825 then (tabFN, 800) else
  (tabTST, 825)

theorem tabOf_mem {n : Nat} {e : Ent} (h : e ∈ (tabOf n).1) : e ∈ tabAll := by
  have go : ∀ {c : Prop} [Decidable c] {a b : List Ent × Nat}, (∀ e ∈ a.1, e ∈ tabAll) → (∀ e ∈ b.1, e ∈ tabAll) → ∀ e ∈ (if c then a else b).1, e ∈ tabAll := by
    intro c _ a b ha hb; split <;> assumption
  revert h e
  unfold tabOf
  repeat' apply go
  all_goals (intro e h; unfold tabAll; simp only [List.mem_append]; tauto)

/-- The field is one of the map, and the mask names it. -/
def okSet (m : Nat) (e : Ent) : Bool := (tabOf e.ix).1[e.ix - (tabOf e.ix).2]? == some e && m.testBit (fieldBit e)

theorem okSet_tabAll {m : Nat} {e : Ent} (h : okSet m e = true) : e ∈ tabAll ∧ m.testBit (fieldBit e) = true := by
  simp only [okSet, Bool.and_eq_true, beq_iff_eq] at h
  exact ⟨tabOf_mem (List.mem_of_getElem? h.1), h.2⟩

theorem okSet_mem {m : Nat} {l : List Ent} {e : Ent} (he : e ∈ l) (h : ∀ e ∈ l, okSet m e = true) : okSet m e = true := h e he

/-- Fields that a mask names and fields that it does not share no place. -/
theorem okSet_apart {m : Nat} {e e' : Ent} (h : okSet m e = true) (he : e' ∈ tabAll) (hk : m.testBit (fieldBit e') = false) (i j i' j' : Nat) :
    e'.key i' j' ≠ e.key i j := by
  obtain ⟨h1, h2⟩ := okSet_tabAll h
  refine fields_apart he h1 ?_ i' j' i j
  intro hh
  rw [hh, h2] at hk
  exact absurd hk (by decide)

/-- What a field holds survives every change of other fields. -/
theorem get_closed {m : Nat} {e : Ent} {i j : Nat} {Q : Nat → Prop} (he : e ∈ tabAll) (hm : m.testBit (fieldBit e) = false) : Closed m (fun t => Q (t.get e i j)) where
  regs := fun _ h2 hp => by
    have := h2 e he hm i j
    simpa only [State.get, this] using hp
  out := fun _ hp => hp
  other := fun _ hp => hp

/-- What has been sent stays sent. -/
theorem out_closed (m : Nat) (o : Out) : Closed m (fun t => o ∈ t.out) where
  regs := fun _ _ hp => hp
  out := fun _ hp => List.mem_append_left _ hp
  other := fun _ hp => hp

variable {m : Nat} {P : State → Prop}

theorem set_keeps (hP : Closed m P) {s e v i j} (he : okSet m e = true) (h : P s) : P (State.set s e v i j) :=
  hP.regs (fun a b => ⟨rising_putNZ a, noZero_putNZ b⟩) (fun _ h' hk i' j' => lookD_putNZ_other (okSet_apart he h' hk i j i' j')) h
theorem setB_keeps (hP : Closed m P) {s e v i j} (he : okSet m e = true) (h : P s) : P (State.setB s e v i j) := set_keeps hP he h
theorem bump_keeps (hP : Closed m P) {s e v i j} (he : okSet m e = true) (h : P s) : P (State.bump s e v i j) := set_keeps hP he h
theorem count_keeps (hP : Closed m P) {s e v i j} (he : okSet m e = true) (h : P s) : P (State.count s e v i j) := set_keeps hP he h
theorem clear_keeps (hP : Closed m P) {s e i j} (he : okSet m e = true) (h : P s) : P (State.clear s e i j) := set_keeps hP he h

/-- The mask names every field that has a place from `lo` to below `hi`. -/
def coversRange (m lo hi : Nat) : Bool :=
  tabAll.all (fun e => m.testBit (fieldBit e) || e.last < lo || hi ≤ e.base) && tabAll.all (fun e => e.ni != 0 && e.nj != 0)

theorem coversRange_key {lo hi : Nat} (h : coversRange m lo hi = true) {e : Ent} (he : e ∈ tabAll) (hk : m.testBit (fieldBit e) = false) (i j : Nat) :
    e.key i j < lo ∨ hi ≤ e.key i j := by
  simp only [coversRange, Bool.and_eq_true, List.all_eq_true, Bool.or_eq_true, decide_eq_true_eq, bne_iff_ne] at h
  have := key_range (h.2 e he).1 (h.2 e he).2 i j
  rcases h.1 e he with (h | h) | h
  · rw [hk] at h; cases h
  · omega
  · omega

/-- A filter of the register file that spares every field outside the mask. -/
theorem filter_keeps (hP : Closed m P) {s : State} {p : Nat × Nat → Bool}
    (hp : ∀ e ∈ tabAll, m.testBit (fieldBit e) = false → ∀ i j v, p (e.key i j, v) = true) (h : P s) :
    P { s with regs := s.regs.filter p } :=
  hP.regs (fun a b => ⟨rising_filter a, noZero_filter b⟩) (fun e he hk i j => lookD_filter_kept (fun v => hp e he hk i j v)) h

/-- A filter that removes nothing outside a bit range whose fields the mask names. -/
theorem range_keeps (hP : Closed m P) {s : State} {p : Nat × Nat → Bool} {lo hi : Nat} (hc : coversRange m lo hi = true)
    (hp : ∀ k v, k < lo ∨ hi ≤ k → p (k, v) = true) (h : P s) : P { s with regs := s.regs.filter p } :=
  filter_keeps hP (fun _ he hk i j v => hp _ v (coversRange_key hc he hk i j)) h

/-- With every field in the mask the register file may become any canonical one. -/
theorem regs_keeps (hP : Closed m P) (hm : tabAll.all (fun e => m.testBit (fieldBit e)) = true) {s : State} {r : List (Nat × Nat)}
    (hr : rising s.regs = true → noZero s.regs = true → rising r = true ∧ noZero r = true) (h : P s) : P { s with regs := r } :=
  hP.regs hr (fun e he hk => absurd ((List.all_eq_true.1 hm e he).symm.trans hk) (by decide)) h

theorem foldl_putNZ_canon {f : Nat → Nat} (l : List (Nat × Nat)) : ∀ r : List (Nat × Nat), rising r = true → noZero r = true →
    rising (l.foldl (fun r c => putNZ r (f c.1) c.2) r) = true ∧ noZero (l.foldl (fun r c => putNZ r (f c.1) c.2) r) = true := by
  induction l with
  | nil => exact fun r a b => ⟨a, b⟩
  | cons c l ih => exact fun r a b => ih _ (rising_putNZ a) (noZero_putNZ b)

theorem foldl_putNZ_look {f : Nat → Nat} {k : Nat} (l : List (Nat × Nat)) (hl : ∀ c ∈ l, f c.1 ≠ k) : ∀ r : List (Nat × Nat),
    lookD (l.foldl (fun r c => putNZ r (f c.1) c.2) r) k 0 = lookD r k 0 := by
  induction l with
  | nil => exact fun r => rfl
  | cons c l ih =>
    intro r
    exact (ih (fun d hd => hl d (List.mem_cons_of_mem _ hd)) _).trans (lookD_putNZ_other (Ne.symm (hl c List.mem_cons_self)))

theorem copyUp_keeps (hP : Closed m P) {lo n off s} (hc : coversRange m (lo + off) (lo + off + n) = true) (h : P s) : P (copyUp lo n off s) := by
  refine hP.regs (fun a b => foldl_putNZ_canon (f := fun a => a + off) _ _ (rising_filter a) (noZero_filter b)) (fun e he hk i j => ?_) h
  have hr := coversRange_key hc he hk i j
  refine (foldl_putNZ_look (f := fun a => a + off) _ ?_ _).trans (lookD_filter_kept (fun v => ?_))
  · intro c hc hh
    have := (List.mem_filter.1 hc).2
    simp only [Bool.and_eq_true, decide_eq_true_eq] at this
    omega
  · simp only [Bool.not_eq_true', Bool.and_eq_false_iff, decide_eq_false_iff_not]
    omega

theorem copyDown_keeps (hP : Closed m P) {lo n off s} (hc : coversRange m (lo - off) (lo - off + n) = true) (h : P s) : P (copyDown lo n off s) := by
  refine hP.regs (fun a b => foldl_putNZ_canon (f := fun a => a - off) _ _ (rising_filter a) (noZero_filter b)) (fun e he hk i j => ?_) h
  have hr := coversRange_key hc he hk i j
  refine (foldl_putNZ_look (f := fun a => a - off) _ ?_ _).trans (lookD_filter_kept (fun v => ?_))
  · intro c hc hh
    have := (List.mem_filter.1 hc).2
    simp only [Bool.and_eq_true, decide_eq_true_eq] at this
    omega
  · simp only [Bool.not_eq_true', Bool.and_eq_false_iff, decide_eq_false_iff_not]
    omega

/-- An answer whose next state has the property. -/
def Ans (P : State → Prop) (r : Result) : Prop := match r with | .next t => P t | _ => True

theorem idP {t : State} (h : P t) : P (id t) := h
theorem cutP {A B : Prop} (h : A) (k : A → B) : B := k h
theorem nextP {t : State} (h : P t) : Ans P (.next t) := h
theorem iteP {c : Prop} [Decidable c] {a b : State} (ha : P a) (hb : P b) : P (if c then a else b) := by split <;> assumption
theorem iteP2 {α : Type} {c : Prop} [Decidable c] {a b : α × State} (ha : P a.2) (hb : P b.2) : P (if c then a else b).2 := by split <;> assumption
theorem iteR {c : Prop} [Decidable c] {a b : Result} (ha : Ans P a) (hb : Ans P b) : Ans P (if c then a else b) := by split <;> assumption
theorem pairEq {α : Type} {p : α × State} {a : α} {t : State} (h : p = (a, t)) (hp : P p.2) : P t := by rw [h] at hp; exact hp

theorem foldl_keeps {α : Type} {f : State → α → State} (l : List α) : (∀ t, ∀ a ∈ l, P t → P (f t a)) → ∀ s, P s → P (l.foldl f s) := by
  induction l with
  | nil => intro _ s h; exact h
  | cons a l ih => intro hf s h; exact ih (fun t b hb => hf t b (List.mem_cons_of_mem _ hb)) _ (hf s a List.mem_cons_self h)
theorem foldl2_keeps {α β : Type} {f : β × State → α → β × State} {l : List α} {p : β × State} (h : P p.2) (hf : ∀ p a, P p.2 → P (f p a).2) : P (l.foldl f p).2 := by
  induction l generalizing p with
  | nil => exact h
  | cons a l ih => exact ih (hf p a h)
theorem foldl1_keeps {α : Type} {f : State → α → State} {l : List α} {s : State} (h : P s) (hf : ∀ t, ∀ a ∈ l, P t → P (f t a)) : P (l.foldl f s) := foldl_keeps l hf s h
theorem forL_keeps (_hP : Closed m P) {α : Type} {l : List α} {f : α → State → State} {s} (hf : ∀ a ∈ l, ∀ t, P t → P (f a t)) (h : P s) : P (forL l f s) :=
  foldl_keeps l (fun t a ha => hf a ha t) s h
theorem forN_keeps (_hP : Closed m P) {n : Nat} {f : Nat → State → State} {s} (hf : ∀ a t, P t → P (f a t)) (h : P s) : P (forN n f s) :=
  foldl_keeps _ (fun t a _ => hf a t) s h
theorem putWord_keeps (hP : Closed m P) {w es v i j s} (hs : ∀ e ∈ es, ∀ s v i j, P s → P (State.set s e v i j)) (h : P s) : P (putWord w es v i j s) :=
  forL_keeps hP (fun e he _ ht => hs e he _ _ _ _ ht) h
theorem putRw_keeps (hP : Closed m P) {w es v i j s} (hs : ∀ e ∈ es, ∀ s v i j, P s → P (State.set s e v i j)) (h : P s) : P (putRw w es v i j s) :=
  putWord_keeps hP (fun e he => hs e (List.mem_of_mem_filter he)) h

theorem emit_keeps (hP : Closed m P) {s o} (hb : m.testBit 2 = true) (h : P s) : P (State.emit s o) := hP.out hb h

/-- The parts that an update leaves alone are syntactically those of the state before; the mask names the others. -/
theorem bySides {p : Prop} (h : p := by exact ⟨by first | exact .inl rfl | exact .inr rfl, by first | exact .inl rfl | exact .inr rfl, by first | exact .inl rfl | exact .inr rfl, by first | exact .inl rfl | exact .inr rfl, by first | exact .inl rfl | exact .inr rfl, by first | exact .inl rfl | exact .inr rfl, by first | exact .inl rfl | exact .inr rfl, by first | exact .inl rfl | exact .inr rfl, by first | exact .inl rfl | exact .inr rfl, by first | exact .inl rfl | exact .inr rfl, by first | exact .inl rfl | exact .inr rfl, by first | exact .inl rfl | exact .inr rfl, by first | exact .inl rfl | exact .inr rfl, by first | exact .inl rfl | exact .inr rfl, by first | exact .inl rfl | exact .inr rfl, by first | exact .inl rfl | exact .inr rfl, by first | exact .inl rfl | exact .inr rfl, by first | exact .inl rfl | exact .inr rfl, by first | exact .inl rfl | exact .inr rfl, by first | exact .inl rfl | exact .inr rfl, by first | exact .inl rfl | exact .inr rfl, by first | exact .inl rfl | exact .inr rfl, by first | exact .inl rfl | exact .inr rfl, by first | exact .inl rfl | exact .inr rfl, by first | exact .inl rfl | exact .inr rfl, by first | exact .inl rfl | exact .inr rfl, by first | exact .inl rfl | exact .inr rfl, by first | exact .inl rfl | exact .inr rfl, by first | exact .inl rfl | exact .inr rfl⟩) : p := h
theorem reach_keeps (hP : Closed m P) {s t} (hb : m.testBit 1 = true) (h : P s) : P (State.reach s t) := hP.other ⟨.inr rfl, .inl hb, .inr rfl, .inr rfl, .inr rfl, .inr rfl, .inr rfl, .inr rfl, .inr rfl, .inr rfl, .inr rfl, .inr rfl, .inr rfl, .inr rfl, .inr rfl, .inr rfl, .inr rfl, .inr rfl, .inr rfl, .inr rfl, .inr rfl, .inr rfl, .inr rfl, .inr rfl, .inr rfl, .inr rfl, .inr rfl, .inr rfl, .inr rfl⟩ h
theorem spend_keeps (hP : Closed m P) {s} (hb : m.testBit 3 = true) (h : P s) : P (State.spend s) := hP.other ⟨.inr rfl, .inr rfl, .inl hb, .inr rfl, .inr rfl, .inr rfl, .inr rfl, .inr rfl, .inr rfl, .inr rfl, .inr rfl, .inr rfl, .inr rfl, .inr rfl, .inr rfl, .inr rfl, .inr rfl, .inr rfl, .inr rfl, .inr rfl, .inr rfl, .inr rfl, .inr rfl, .inr rfl, .inr rfl, .inr rfl, .inr rfl, .inr rfl, .inr rfl⟩ h
theorem tick_keeps (hP : Closed m P) {s} (hb : m.testBit 1 = true) (hb' : m.testBit 21 = true) (h : P s) : P (tick s) := hP.other ⟨.inr rfl, .inl hb, .inr rfl, .inr rfl, .inr rfl, .inr rfl, .inr rfl, .inr rfl, .inr rfl, .inr rfl, .inr rfl, .inr rfl, .inr rfl, .inr rfl, .inr rfl, .inr rfl, .inr rfl, .inr rfl, .inr rfl, .inr rfl, .inl hb', .inr rfl, .inr rfl, .inr rfl, .inr rfl, .inr rfl, .inr rfl, .inr rfl, .inr rfl⟩ h

theorem okSet_plane {m : Nat} {p : Nat} (h : ∀ e ∈ [FRAME.PLANESTAT.P0, FRAME.PLANESTAT.P1, FRAME.PLANESTAT.P2, FRAME.PLANESTAT.P3, FRAME.PLANESTAT.P4], okSet m e = true) :
    okSet m (planeEnt p) = true := by
  unfold planeEnt
  rcases p with _ | _ | _ | _ | p <;> exact h _ (by simp [nthD])

theorem okSet_ide {m : Nat} {c : Bool} (h : ∀ e ∈ [SEC.IDE.CM_STATE, SEC.IDE.IO_STATE], okSet m e = true) : okSet m (ideEnt c) = true := by
  unfold ideEnt; split <;> exact h _ (by simp)

theorem okSet_trip {m : Nat} {k : Nat} (h : ∀ e ∈ [SLOT.ESTAT.TRIP_TIMER, SLOT.ESTAT.TRIP_FAST, SLOT.ESTAT.TRIP_ENERGY, SLOT.ESTAT.TRIP_INRUSH, SLOT.ESTAT.TRIP_FETDEG, SLOT.ESTAT.INPUT],
    okSet m e = true) : okSet m (tripFlag k) = true := by
  unfold tripFlag; split <;> exact h _ (by simp)

/-- The way every closure proof goes: take the meaning apart, and apply the lemma of each operation that it calls (each stands in the context). -/
theorem byKeep {p : Prop} (h : p := by repeat' (first | with_reducible assumption | ((with_reducible show okSet _ _ = true); first | with_reducible exact okSet_plane (by decide +kernel) | with_reducible exact okSet_ide (by decide +kernel) | with_reducible exact okSet_trip (by decide +kernel) | with_reducible exact okSet_mem (by assumption) (by decide +kernel) | decide +kernel | (split <;> decide +kernel)) | ((with_reducible show Nat.testBit _ _ = true); exact rfl) | ((with_reducible show coversRange _ _ _ = true); decide +kernel) | ((fail_if_success (intro x; unfold x)); intro _) | (intro x; first | ((first | refine cutP (A := P x) ?_ ?_ | refine cutP (A := P x.2) ?_ ?_ | refine cutP (A := ∀ a t, P t → P (x a t)) ?_ ?_ | refine cutP (A := ∀ t, P t → P (x t)) ?_ ?_ | refine cutP (A := ∀ a, P (x a)) ?_ ?_ | refine cutP (A := ∀ a b, P (x a b)) ?_ ?_ | refine cutP (A := ∀ t, P t → Ans P (x t)) ?_ ?_ | refine cutP (A := ∀ a b t, P t → P (x a b t)) ?_ ?_ | refine cutP (A := ∀ a t, P t → P (x a t).2) ?_ ?_ | refine cutP (A := ∀ t, P t → P (x t).2) ?_ ?_ | refine cutP (A := ∀ a b c t, P t → P (x a b c t)) ?_ ?_); rotate_left; clear_value x; intro _; rotate_left; unfold x; clear x) | clear_value x | (unfold x; clear x)) | lift_lets +implicits -underBinder | with_reducible (first | apply iteP (P := P) | apply iteP2 (P := P) | apply iteR (P := P) | apply nextP (P := P) | apply idP (P := P) | apply foldl1_keeps (P := P) | apply foldl2_keeps (P := P) | apply_assumption (transparency := .reducible) -exfalso -symm) | split | refine pairEq (P := P) (by assumption) ?_ | fail_if_no_progress with_reducible refine hP.other bySides ?_ | fail_if_no_progress with_reducible refine hP.out rfl ?_ | dsimp -zeta only | with_reducible apply_assumption | apply iteP (P := P))) : p := h
end Sys2Proof.Machine
end

