-- ==== Sys2Proof/Laws/KeepEvents.lean ====
section
/-! SUPPORT. What the operations of events, faults, decisions, the journal queue, the access table and keys may write: each lemma names, as a mask (see Closed), the parts of the state that its operation can change. -/

namespace Sys2Proof.Machine

set_option linter.all false
set_option Elab.async false

variable {P : State → Prop}

theorem atReg_keeps (hP : Closed 0x0 P) {a1 a2 a3} (h2 : ∀ t, P t → Ans P (a2 t)) (h3 : P a3) : Ans P (atReg a1 a2 a3) := by
  unfold atReg
  exact byKeep

theorem evSync_keeps (hP : Closed 0x1e0000000000000000 P) {a1 a2} (h2 : P a2) : P (evSync a1 a2) := by
  unfold evSync
  have c0 := @set_keeps _ P hP
  exact byKeep

theorem evAssign_keeps (hP : Closed 0xc0000000000000000 P) {a1 a2 a3} (h3 : P a3) : P (evAssign a1 a2 a3) := by
  unfold evAssign
  have c0 := @set_keeps _ P hP
  exact byKeep

theorem evRoute_keeps (hP : Closed 0xc0000800000000040 P) {a1 a2} (h2 : P a2) : P (evRoute a1 a2) := by
  unfold evRoute
  have c0 := @evAssign_keeps P (hP.mono rfl); have c1 := @set_keeps _ P hP
  exact byKeep

theorem evRouteAll_keeps (hP : Closed 0xc0000800000000040 P) {a1} (h1 : P a1) : P (evRouteAll a1) := by
  unfold evRouteAll
  have c0 := @set_keeps _ P hP; have c1 := @forL_keeps _ P hP; have c2 := @evRoute_keeps P (hP.mono rfl)
  exact byKeep

theorem evHold_keeps (hP : Closed 0x1e0000840000000040 P) {a1 a2} (h2 : P a2) : P (evHold a1 a2) := by
  unfold evHold
  have c0 := @evRoute_keeps P (hP.mono rfl); have c1 := @evSync_keeps P (hP.mono rfl); have c2 := @bump_keeps _ P hP
  have c3 := @set_keeps _ P hP
  exact byKeep

theorem evBufSync_keeps (hP : Closed 0x400000000 P) {a1} (h1 : P a1) : P (evBufSync a1) := by
  unfold evBufSync
  have c0 := @set_keeps _ P hP
  exact byKeep

theorem evLost_keeps (hP : Closed 0x400000040 P) {a1} (h1 : P a1) : P (evLost a1) := by
  unfold evLost
  have c0 := @evBufSync_keeps P (hP.mono rfl)
  exact byKeep

theorem evToRing_keeps (hP : Closed 0x80400000040 P) {a1 a2} (h2 : P a2) : P (evToRing a1 a2) := by
  unfold evToRing
  have c0 := @evLost_keeps P (hP.mono rfl); have c1 := @evBufSync_keeps P (hP.mono rfl); have c2 := @bump_keeps _ P hP
  have c3 := @set_keeps _ P hP
  exact byKeep

theorem evAccept_keeps (hP : Closed 0x1e00008c0400000040 P) {a1 a2} (h2 : P a2) : P (evAccept a1 a2) := by
  unfold evAccept
  have c0 := @evToRing_keeps P (hP.mono rfl); have c1 := @evHold_keeps P (hP.mono rfl)
  exact byKeep

theorem raise_keeps (hP : Closed 0x1e00008c0400000040 P) {a1 a2 a3 a4} (h4 : P a4) : P (raise a1 a2 a3 a4) := by
  unfold raise
  have c0 := @evAccept_keeps P (hP.mono rfl)
  exact byKeep

theorem setState_keeps (hP : Closed 0x1e00008c0400000040 P) {a1 a2 a3 a4 a5 a6} (h1 : ∀ s v i j, P s → P (State.set s a1 v i j)) (h4 : P a4) : P (setState a1 a2 a3 a4 a5 a6) := by
  unfold setState
  have c0 := @raise_keeps P (hP.mono rfl)
  exact byKeep

theorem flag_keeps (hP : Closed 0x1e00008c0400000040 P) {a1 a2 a3 a4 a5} (h1 : ∀ s v i j, P s → P (State.set s a1 v i j)) (h3 : P a3) : P (flag a1 a2 a3 a4 a5) := by
  unfold flag
  have c0 := @raise_keeps P (hP.mono rfl)
  exact byKeep

theorem evFullSync_keeps (hP : Closed 0x240000000 P) {a1} (h1 : P a1) : P (evFullSync a1) := by
  unfold evFullSync
  have c0 := @setB_keeps _ P hP; have c1 := @set_keeps _ P hP
  exact byKeep

theorem evVector_keeps (hP : Closed 0x1000100000044 P) {a1} (h1 : P a1) : P (evVector a1) := by
  unfold evVector
  have c0 := @emit_keeps _ P hP; have c1 := @set_keeps _ P hP; have c2 := @forL_keeps _ P hP
  exact byKeep

theorem evRingWrite_keeps (hP : Closed 0x1010f40000044 P) {a1} (h1 : P a1) : P (evRingWrite a1) := by
  unfold evRingWrite
  have c0 := @emit_keeps _ P hP; have c1 := @set_keeps _ P hP; have c2 := @evVector_keeps P (hP.mono rfl)
  have c3 := @evFullSync_keeps P (hP.mono rfl); have c4 := @evLost_keeps P (hP.mono rfl); have c5 := @evBufSync_keeps P (hP.mono rfl)
  exact byKeep

theorem evHeadWrite_keeps (hP : Closed 0x1009340000044 P) {a1 a2} (h2 : P a2) : P (evHeadWrite a1 a2) := by
  unfold evHeadWrite
  have c0 := @set_keeps _ P hP; have c1 := @evVector_keeps P (hP.mono rfl); have c2 := @evFullSync_keeps P (hP.mono rfl)
  exact byKeep

theorem evCtlWrite_keeps (hP : Closed 0x1abc0000040 P) {a1 a2} (h2 : P a2) : P (evCtlWrite a1 a2) := by
  unfold evCtlWrite
  have c0 := @set_keeps _ P hP; have c1 := @evFullSync_keeps P (hP.mono rfl)
  exact byKeep

theorem evClaim_keeps (hP : Closed 0x1e0300000000000040 P) {a1 a2} (h2 : P a2) : P (evClaim a1 a2).2 := by
  unfold evClaim
  have c0 := @set_keeps _ P hP; have c1 := @evSync_keeps P (hP.mono rfl)
  exact byKeep

theorem evComplete_keeps (hP : Closed 0x1e0000820000000040 P) {a1 a2 a3} (h3 : P a3) : P (evComplete a1 a2 a3) := by
  unfold evComplete
  have c0 := @set_keeps _ P hP; have c1 := @evRoute_keeps P (hP.mono rfl); have c2 := @evSync_keeps P (hP.mono rfl)
  have c3 := @bump_keeps _ P hP
  exact byKeep

theorem evFenceCore_keeps (hP : Closed 0x1e0000840000000040 P) {a1 a2} (h2 : P a2) : P (evFenceCore a1 a2) := by
  unfold evFenceCore
  have c0 := @evSync_keeps P (hP.mono rfl); have c1 := @set_keeps _ P hP; have c2 := @forL_keeps _ P hP
  have c3 := @bump_keeps _ P hP; have c4 := @evRouteAll_keeps P (hP.mono rfl)
  exact byKeep

theorem evWarm_keeps (hP : Closed 0x40 P) {a1} (h1 : P a1) : P (evWarm a1) := by
  unfold evWarm
  exact byKeep

theorem execEventRaised_keeps (hP : Closed 0x1e00008c0400000040 P) {a1 a2 a3 a4} (h4 : P a4) : Ans P (execEventRaised a1 a2 a3 a4) := by
  unfold execEventRaised
  have c0 := @raise_keeps P (hP.mono rfl)
  exact byKeep

theorem nocDiscard_keeps (hP : Closed 0x1000000000002000000001e00008c0400000040 P) {a1} (h1 : P a1) : P (nocDiscard a1) := by
  unfold nocDiscard
  have c0 := @flag_keeps P (hP.mono rfl); have c1 := @bump_keeps _ P hP; have c2 := @set_keeps _ P hP
  exact byKeep

theorem execComplete_keeps (hP : Closed 0x1000000000002000000001e00008e0400000040 P) {a1 a2 a3 a4} (h4 : P a4) : Ans P (execComplete a1 a2 a3 a4) := by
  unfold execComplete
  have c0 := @nocDiscard_keeps P (hP.mono rfl); have c1 := @evComplete_keeps P (hP.mono rfl)
  exact byKeep

theorem execRingRecordWrite_keeps (hP : Closed 0x1010f40000044 P) {a1} (h1 : P a1) : Ans P (execRingRecordWrite a1) := by
  unfold execRingRecordWrite
  have c0 := @evRingWrite_keeps P (hP.mono rfl)
  exact byKeep

theorem execRingHeadWrite_keeps (hP : Closed 0x1009340000044 P) {a1 a2} (h2 : P a2) : Ans P (execRingHeadWrite a1 a2) := by
  unfold execRingHeadWrite
  have c0 := @atReg_keeps P (hP.mono rfl); have c1 := @evHeadWrite_keeps P (hP.mono rfl); have c2 := @set_keeps _ P hP
  exact byKeep

theorem execRingCtlWrite_keeps (hP : Closed 0x1abc0000040 P) {a1 a2} (h2 : P a2) : Ans P (execRingCtlWrite a1 a2) := by
  unfold execRingCtlWrite
  have c0 := @atReg_keeps P (hP.mono rfl); have c1 := @evCtlWrite_keeps P (hP.mono rfl); have c2 := @set_keeps _ P hP
  exact byKeep

theorem execHoldoffEnd_keeps (hP : Closed 0xc0001800100000044 P) {a1 a2 a3} (h3 : P a3) : Ans P (execHoldoffEnd a1 a2 a3) := by
  unfold execHoldoffEnd
  have c0 := @evVector_keeps P (hP.mono rfl); have c1 := @set_keeps _ P hP; have c2 := @evRouteAll_keeps P (hP.mono rfl)
  exact byKeep

theorem execWakeEdge_keeps (hP : Closed 0x1e00009c0400000040 P) {a1 a2 a3} (h3 : P a3) : Ans P (execWakeEdge a1 a2 a3) := by
  unfold execWakeEdge
  have c0 := @set_keeps _ P hP; have c1 := @raise_keeps P (hP.mono rfl)
  exact byKeep

theorem execWakeEvent_keeps (hP : Closed 0x1e00009c0400000040 P) {a1 a2} (h2 : P a2) : Ans P (execWakeEvent a1 a2) := by
  unfold execWakeEvent
  have c0 := @evAccept_keeps P (hP.mono rfl); have c1 := @set_keeps _ P hP
  exact byKeep

theorem setPdState_keeps (hP : Closed 0x100000000000000000000001e00008c0400000040 P) {a1 a2 a3} (h3 : P a3) : P (setPdState a1 a2 a3) := by
  unfold setPdState
  have c0 := @setState_keeps P (hP.mono rfl); have c1 := @set_keeps _ P hP
  exact byKeep

theorem setPd_keeps (hP : Closed 0x20000000000000000000000000000000000200000 P) {a1 a2 a3} (h3 : P a3) : P (setPd a1 a2 a3) := by
  unfold setPd
  have c0 := @set_keeps _ P hP
  exact byKeep

theorem pdWake_keeps (hP : Closed 0x700000000000000000000001e00008c0400200040 P) {a1 a2} (h2 : P a2) : P (pdWake a1 a2) := by
  unfold pdWake
  have c0 := @bump_keeps _ P hP; have c1 := @setPdState_keeps P (hP.mono rfl); have c2 := @setPd_keeps P (hP.mono rfl)
  have c3 := @set_keeps _ P hP
  exact byKeep

theorem toDomain_keeps (hP : Closed 0x700000000000000000000001e00008c0400200040 P) {a1 a2 a3 a4} (h3 : ∀ t, P t → Ans P (a3 t)) (h4 : P a4) : Ans P (toDomain a1 a2 a3 a4) := by
  unfold toDomain
  have c0 := @pdWake_keeps P (hP.mono rfl); have c1 := @setPd_keeps P (hP.mono rfl)
  exact byKeep

theorem atDomain_keeps (hP : Closed 0x700000000000000000000001e00008c0400200040 P) {a1 a2 a3 a4 a5} (h4 : ∀ t, P t → Ans P (a4 t)) (h5 : P a5) : Ans P (atDomain a1 a2 a3 a4 a5) := by
  unfold atDomain
  have c0 := @toDomain_keeps P (hP.mono rfl)
  exact byKeep

theorem toUnit_keeps (hP : Closed 0x700000000000000000000001e00008c0400200040 P) {a1 a2 a3 a4} (h3 : ∀ t, P t → Ans P (a3 t)) (h4 : P a4) : Ans P (toUnit a1 a2 a3 a4) := by
  unfold toUnit
  have c0 := @pdWake_keeps P (hP.mono rfl); have c1 := @setPd_keeps P (hP.mono rfl)
  exact byKeep

theorem perfOvf_keeps (hP : Closed 0x820000010000000000000000000000000000000000000000000000000000000000001e00008c0402000040 P) {a1 a2 a3} (h3 : P a3) : P (perfOvf a1 a2 a3) := by
  unfold perfOvf
  have c0 := @set_keeps _ P hP; have c1 := @flag_keeps P (hP.mono rfl)
  exact byKeep

theorem perfSat_keeps (hP : Closed 0xa20000010000000000000000000000000000000000000000000000000000000000001e00008c0402000040 P) {a1 a2 a3 a4} (h4 : P a4) : P (perfSat a1 a2 a3 a4) := by
  unfold perfSat
  have c0 := @set_keeps _ P hP; have c1 := @perfOvf_keeps P (hP.mono rfl)
  exact byKeep

theorem perfStep_keeps (hP : Closed 0xa20000010000000000000000000000000000000000000000000000000000000000001e00008c0402000040 P) {a1 a2 a3 a4} (h4 : P a4) : P (perfStep a1 a2 a3 a4) := by
  unfold perfStep
  have c0 := @set_keeps _ P hP; have c1 := @perfSat_keeps P (hP.mono rfl); have c2 := @perfOvf_keeps P (hP.mono rfl)
  exact byKeep

theorem perf_keeps (hP : Closed 0xa20000010000000000000000000000000000000000000000000000000000000000001e00008c0402000040 P) {a1 a2 a3 a4 a5} (h5 : P a5) : P (perf a1 a2 a3 a4 a5) := by
  unfold perf
  have c0 := @forN_keeps _ P hP; have c1 := @perfStep_keeps P (hP.mono rfl)
  exact byKeep

theorem perfView_keeps (hP : Closed 0xa20000010000000000000000000000000000000000000000000000000000000000001e00008c0402000040 P) {a1 a2 a3 a4 a5} (h5 : P a5) : P (perfView a1 a2 a3 a4 a5) := by
  unfold perfView
  have c0 := @forL_keeps _ P hP; have c1 := @perf_keeps P (hP.mono rfl)
  exact byKeep

theorem bwRx_keeps (hP : Closed 0x2000000 P) {a1 a2 a3} (h3 : P a3) : P (bwRx a1 a2 a3) := by
  unfold bwRx
  exact byKeep

theorem bwTx_keeps (hP : Closed 0x2000000 P) {a1 a2 a3} (h3 : P a3) : P (bwTx a1 a2 a3) := by
  unfold bwTx
  exact byKeep

theorem injected_keeps (hP : Closed 0xc000000000000000000000000000000000000000000000000000000000000000000000000000000000000000000000000000000000000000000000000000000000000000000000000000000000000000000000000000000000000000000000000000000000000000000000200000 P) {a1 a2 a3 a4} (h4 : P a4) : P (injected a1 a2 a3 a4) := by
  unfold injected
  have c0 := @forN_keeps _ P hP; have c1 := @bump_keeps _ P hP; have c2 := @set_keeps _ P hP
  exact byKeep

theorem injFenced_keeps (hP : Closed 0x4000000000000000000000000000000000000000000000000000000000000000000000000000000000000000000000000000000000000000000000000000000000000000000000000000000000000000000000000000000000000000000000000000000000000000000000000000 P) {a1 a2 a3} (h3 : P a3) : P (injFenced a1 a2 a3) := by
  unfold injFenced
  have c0 := @set_keeps _ P hP
  exact byKeep

theorem mark_keeps (hP : Closed 0x2000000 P) {a1 a2 a3} (h3 : P a3) : P (mark a1 a2 a3) := by
  unfold mark
  exact byKeep

theorem execCounterOverflow_keeps (hP : Closed 0xa20000010000000000000000000000000000000000000000000000000000000000001e00008c0402000040 P) {a1 a2 a3} (h3 : P a3) : Ans P (execCounterOverflow a1 a2 a3) := by
  unfold execCounterOverflow
  have c0 := @perfStep_keeps P (hP.mono rfl)
  exact byKeep

theorem report_keeps (hP : Closed 0x80 P) {a1 a2} (h2 : P a2) : P (report a1 a2) := by
  unfold report
  exact byKeep

theorem reportEach_keeps (hP : Closed 0x80 P) {a1 a2} (h2 : P a2) : P (reportEach a1 a2) := by
  unfold reportEach
  have c0 := @report_keeps P (hP.mono rfl)
  exact byKeep

theorem nextOwed_keeps (hP : Closed 0x80 P) {a1 a2} (h2 : P a2) : P (nextOwed a1 a2) := by
  unfold nextOwed
  exact byKeep

theorem assertFaultN_keeps (hP : Closed 0x2000000000000000084 P) {a1} (h1 : P a1) : P (assertFaultN a1) := by
  unfold assertFaultN
  have c0 := @emit_keeps _ P hP; have c1 := @set_keeps _ P hP
  exact byKeep

theorem fltWrite_keeps (hP : Closed 0xc000000000000000000000000000000000000000000000000000000000000000000000000000000000000000000000000000000000000000000000000000000000000000000000000000000000000000000000000000000000000000000000001000000100000000000000200080 P) {a1 a2 a3 a4} (h4 : P a4) : P (fltWrite a1 a2 a3 a4) := by
  unfold fltWrite
  have c0 := @injected_keeps P (hP.mono rfl); have c1 := @set_keeps _ P hP
  exact byKeep

theorem ringCheck_keeps (hP : Closed 0x1000000000000000000000000080 P) {a1 a2} (h2 : P a2) : P (ringCheck a1 a2) := by
  unfold ringCheck
  have c0 := @report_keeps P (hP.mono rfl); have c1 := @set_keeps _ P hP
  exact byKeep

theorem fltReport_keeps (hP : Closed 0x21e00008c04000000c4 P) {a1 a2 a3} (h3 : P a3) : P (fltReport a1 a2 a3) := by
  unfold fltReport
  have c0 := @raise_keeps P (hP.mono rfl); have c1 := @assertFaultN_keeps P (hP.mono rfl)
  exact byKeep

theorem fltLost_keeps (hP : Closed 0xc00000000000000000000000000000000000000000000000000000000000000000000000000000000000000000000000000000000000000000000000000000000000000000000000000000000000000000000000000000000000000000000000100000010a1e00008c04002000c4 P) {a1} (h1 : P a1) : P (fltLost a1) := by
  unfold fltLost
  have c0 := @fltReport_keeps P (hP.mono rfl); have c1 := @set_keeps _ P hP; have c2 := @fltWrite_keeps P (hP.mono rfl)
  exact byKeep

theorem fltStore_keeps (hP : Closed 0xc00000000000000000000000000000000000000000000000000000000000000000000000000000000000000000000000000000000000000000000000000000000000000000000000000000000000000000000000000000000000000000000000180000013a1e00008c04002000c4 P) {a1 a2 a3 a4} (h4 : P a4) : P (fltStore a1 a2 a3 a4) := by
  unfold fltStore
  have c0 := @fltLost_keeps P (hP.mono rfl); have c1 := @set_keeps _ P hP; have c2 := @flag_keeps P (hP.mono rfl)
  have c3 := @bump_keeps _ P hP; have c4 := @fltReport_keeps P (hP.mono rfl); have c5 := @fltWrite_keeps P (hP.mono rfl)
  exact byKeep

theorem stormTest_keeps (hP : Closed 0x200000000000000000000000000080 P) {a1 a2} (h2 : P a2) : P (stormTest a1 a2) := by
  unfold stormTest
  have c0 := @set_keeps _ P hP
  exact byKeep

theorem stormTouch_keeps (hP : Closed 0x80 P) {a1 a2 a3} (h3 : P a3) : P (stormTouch a1 a2 a3) := by
  unfold stormTouch
  exact byKeep

theorem collect_keeps (hP : Closed 0xc000000000000000000000000000000000000000000000000000000000000000000000000000000000000000000000000000000000000000000000000000000000000000000000000000000000000000000000000000000000000000000000e0180000013a1e00008c04002000c4 P) {a1 a2 a3} (h3 : P a3) : P (collect a1 a2 a3) := by
  unfold collect
  have c0 := @bump_keeps _ P hP; have c1 := @stormTouch_keeps P (hP.mono rfl); have c2 := @fltStore_keeps P (hP.mono rfl)
  have c3 := @stormTest_keeps P (hP.mono rfl); have c4 := @set_keeps _ P hP
  exact byKeep

theorem execRecordMerge_keeps (hP : Closed 0x80 P) {a1 a2} (h2 : P a2) : Ans P (execRecordMerge a1 a2) := by
  unfold execRecordMerge
  have c0 := @report_keeps P (hP.mono rfl)
  exact byKeep

theorem execStormEnd_keeps (hP : Closed 0xc00000000000000000000000000000000000000000000000000000000000000000000000000000000000000000000000000000000000000000000000000000000000000000000000000000000000000000000000000000000000000000000020180000017a1e00008c04002000c6 P) {a1 a2} (h2 : P a2) : Ans P (execStormEnd a1 a2) := by
  unfold execStormEnd
  have c0 := @reach_keeps _ P hP; have c1 := @set_keeps _ P hP; have c2 := @fltStore_keeps P (hP.mono rfl)
  have c3 := @bump_keeps _ P hP
  exact byKeep

theorem execFaultnQuietRelease_keeps (hP : Closed 0x42000000000000000006 P) {a1} (h1 : P a1) : Ans P (execFaultnQuietRelease a1) := by
  unfold execFaultnQuietRelease
  have c0 := @reach_keeps _ P hP; have c1 := @bump_keeps _ P hP; have c2 := @emit_keeps _ P hP
  have c3 := @set_keeps _ P hP
  exact byKeep

theorem execFaultnClr_keeps (hP : Closed 0x2000000000000000004 P) {a1 a2} (h2 : P a2) : Ans P (execFaultnClr a1 a2) := by
  unfold execFaultnClr
  have c0 := @atReg_keeps P (hP.mono rfl); have c1 := @emit_keeps _ P hP; have c2 := @set_keeps _ P hP
  exact byKeep

theorem execFltRheadWrite_keeps (hP : Closed 0xc00000000000000000000000000000000000000000000000000000000000000000000000000000000000000000000000000000000000000000000000000000000000000000000000000000000000000000000000000000000000000000000000100000018a1e00008c04002000c4 P) {a1 a2} (h2 : P a2) : Ans P (execFltRheadWrite a1 a2) := by
  unfold execFltRheadWrite
  have c0 := @atReg_keeps P (hP.mono rfl); have c1 := @fltLost_keeps P (hP.mono rfl); have c2 := @set_keeps _ P hP
  exact byKeep

theorem condNote_keeps (hP : Closed 0x80 P) {a1 a2} (h2 : P a2) : P (condNote a1 a2) := by
  unfold condNote
  exact byKeep

theorem execCoreHeartbeat_keeps (hP : Closed 0x1000000000002000000001e00008c04000000c0 P) {a1 a2} (h2 : P a2) : Ans P (execCoreHeartbeat a1 a2) := by
  unfold execCoreHeartbeat
  have c0 := @nocDiscard_keeps P (hP.mono rfl)
  exact byKeep

theorem nextEpoch_keeps (hP : Closed 0x80 P) {a1 a2} (h2 : P a2) : P (nextEpoch a1 a2).2 := by
  unfold nextEpoch
  exact byKeep

theorem fenceUnit_keeps (hP : Closed 0x40000000000000000000000000000000000000000000000000000000000000000000000000000000000000000000000000000000000000000000000000000000000000000000000000000000000000000000000000000000000000000000000040000000001e0000840000000040 P) {a1 a2 a3} (h3 : P a3) : P (fenceUnit a1 a2 a3) := by
  unfold fenceUnit
  have c0 := @injFenced_keeps P (hP.mono rfl); have c1 := @set_keeps _ P hP; have c2 := @evFenceCore_keeps P (hP.mono rfl)
  exact byKeep

theorem setSpare_keeps (hP : Closed 0x1d8000000000000000000000000 P) {a1 a2 a3 a4} (h4 : P a4) : P (setSpare a1 a2 a3 a4) := by
  unfold setSpare
  have c0 := @set_keeps _ P hP
  exact byKeep

theorem decSync_keeps (hP : Closed 0x100000000000000004000000000000000080 P) {a1} (h1 : P a1) : P (decSync a1) := by
  unfold decSync
  have c0 := @condNote_keeps P (hP.mono rfl); have c1 := @setB_keeps _ P hP; have c2 := @set_keeps _ P hP
  exact byKeep

theorem decEnd_keeps (hP : Closed 0x1000000000000000041e00008c04000001c0 P) {a1 a2 a3 a4 a5} (h5 : P a5) : P (decEnd a1 a2 a3 a4 a5) := by
  unfold decEnd
  have c0 := @raise_keeps P (hP.mono rfl); have c1 := @decSync_keeps P (hP.mono rfl)
  exact byKeep

theorem reachPoint_keeps (hP : Closed 0x3000000000000000041e00008c04000003c0 P) {a1 a2 a3} (h3 : P a3) : P (reachPoint a1 a2 a3).2 := by
  unfold reachPoint
  have c0 := @raise_keeps P (hP.mono rfl); have c1 := @set_keeps _ P hP; have c2 := @decEnd_keeps P (hP.mono rfl)
  have c3 := @decSync_keeps P (hP.mono rfl)
  exact byKeep

theorem closeDec_keeps (hP : Closed 0x1000000000000000041e00008c04000001c0 P) {a1 a2 a3} (h3 : P a3) : P (closeDec a1 a2 a3) := by
  unfold closeDec
  have c0 := @decEnd_keeps P (hP.mono rfl)
  exact byKeep

theorem voidDec_keeps (hP : Closed 0x100 P) {a1 a2 a3} (h3 : P a3) : P (voidDec a1 a2 a3) := by
  unfold voidDec
  exact byKeep

theorem fmDone_keeps (hP : Closed 0xa20000010000000000000000000000000000000000000000000000000000000000001e00008c0402000044 P) {a1} (h1 : P a1) : P (fmDone a1) := by
  unfold fmDone
  have c0 := @perf_keeps P (hP.mono rfl); have c1 := @emit_keeps _ P hP
  exact byKeep

theorem mailbox_keeps (hP : Closed 0xa20000010000000000000000000000000000000000000000000000000000000000001e00008c0402000044 P) {a1 a2 a3} (h3 : P a3) : P (mailbox a1 a2 a3) := by
  unfold mailbox
  have c0 := @emit_keeps _ P hP; have c1 := @fmDone_keeps P (hP.mono rfl)
  exact byKeep

theorem answer_keeps (hP : Closed 0xa20000010000000000000000000000000000000000000000001000000000000000041e00008c04020001c4 P) {a1 a2 a3 a4 a5} (h4 : ∀ a t, P t → P (a4 a t)) (h5 : P a5) : P (answer a1 a2 a3 a4 a5) := by
  unfold answer
  have c0 := @mailbox_keeps P (hP.mono rfl); have c1 := @decEnd_keeps P (hP.mono rfl); have c2 := @raise_keeps P (hP.mono rfl)
  exact byKeep

theorem setActive_keeps (hP : Closed 0x400000 P) {a1 a2} (h2 : P a2) : P (setActive a1 a2) := by
  unfold setActive
  exact byKeep

theorem fillSync_keeps (hP : Closed 0x40000000000000000000000000000000000000000000000 P) {a1} (h1 : P a1) : P (fillSync a1) := by
  unfold fillSync
  have c0 := @set_keeps _ P hP
  exact byKeep

theorem startNext_keeps (hP : Closed 0x400000 P) {a1} (h1 : P a1) : P (startNext a1) := by
  unfold startNext
  exact byKeep

theorem request_keeps (hP : Closed 0x400000 P) {a1 a2 a3 a4} (h4 : P a4) : P (request a1 a2 a3 a4).2 := by
  unfold request
  have c0 := @startNext_keeps P (hP.mono rfl)
  exact byKeep

theorem note_keeps (hP : Closed 0x400000 P) {a1 a2 a3} (h3 : P a3) : P (note a1 a2 a3) := by
  unfold note
  have c0 := @request_keeps P (hP.mono rfl)
  exact byKeep

theorem markApplied_keeps (hP : Closed 0x400000 P) {a1 a2} (h2 : P a2) : P (markApplied a1 a2) := by
  unfold markApplied
  exact byKeep

theorem markBody_keeps (hP : Closed 0x400000 P) {a1 a2} (h2 : P a2) : P (markBody a1 a2) := by
  unfold markBody
  have c0 := @forL_keeps _ P hP; have c1 := @markApplied_keeps P (hP.mono rfl)
  exact byKeep

theorem noteSpare_keeps (hP : Closed 0x400000 P) {a1} (h1 : P a1) : P (noteSpare a1) := by
  unfold noteSpare
  have c0 := @note_keeps P (hP.mono rfl)
  exact byKeep

theorem bringIn_keeps (hP : Closed 0x400000000000000000000000000000000000000000000000000000000000000000000000000000000000000000000000000000000000000000000000000000000000000000000000000000000000000000000000000000000007000000000000e0000000001e00008c04002000c0 P) {a1 a2 a3 a4 a5} (h5 : P a5) : P (bringIn a1 a2 a3 a4 a5) := by
  unfold bringIn
  have c0 := @fenceUnit_keeps P (hP.mono rfl); have c1 := @nextEpoch_keeps P (hP.mono rfl)
  have c2 := @set_keeps _ P hP; have c3 := @pdWake_keeps P (hP.mono rfl); have c4 := @raise_keeps P (hP.mono rfl)
  have c5 := @evRouteAll_keeps P (hP.mono rfl)
  exact byKeep

theorem bringInDone_keeps (hP : Closed 0xc0000000000000000000000000000000000000000000000000000000000000000000000000000000000000000000000000000000000000000000000000000000000000000000000000000000000000000000000000000000000000000000000019d800013a1e00008c04006000c4 P) {a1 a2} (h2 : P a2) : P (bringInDone a1 a2) := by
  unfold bringInDone
  have c0 := @evRouteAll_keeps P (hP.mono rfl); have c1 := @startNext_keeps P (hP.mono rfl)
  have c2 := @noteSpare_keeps P (hP.mono rfl); have c3 := @setSpare_keeps P (hP.mono rfl)
  have c4 := @fltStore_keeps P (hP.mono rfl)
  exact byKeep

theorem stgUp_keeps {m : Nat} {P : State → Prop} (hP : Closed m P) {s} (hm : coversRange m (stgLo + (entLo - stgLo)) (stgLo + (entLo - stgLo) + entLen) = true) (h : P s) :
    P (copyUp stgLo entLen (entLo - stgLo) s) := copyUp_keeps hP hm h

theorem stgDown_keeps {m : Nat} {P : State → Prop} (hP : Closed m P) {s} (hm : coversRange m (entLo - (entLo - stgLo)) (entLo - (entLo - stgLo) + entLen) = true) (h : P s) :
    P (copyDown entLo entLen (entLo - stgLo) s) := copyDown_keeps hP hm h

theorem actDeny_keeps (hP : Closed 0x3ffc100000000000000000000000000000000000000000000000001e00008c0400000040 P) {a1 a2 a3 a4 a5 a6 a7} (h7 : P a7) : P (actDeny a1 a2 a3 a4 a5 a6 a7) := by
  unfold actDeny
  have c0 := @bump_keeps _ P hP; have c1 := @set_keeps _ P hP; have c2 := @setB_keeps _ P hP
  have c3 := @raise_keeps P (hP.mono rfl)
  exact byKeep

theorem execFvClear_keeps (hP : Closed 0x1ffc00000000000000000000000000000000000000000000000000000000000000000000 P) {a1 a2} (h2 : P a2) : Ans P (execFvClear a1 a2) := by
  unfold execFvClear
  have c0 := @atReg_keeps P (hP.mono rfl); have c1 := @putWord_keeps _ P hP; have c2 := @set_keeps _ P hP
  exact byKeep

theorem actCommitPoint_copyDown__keeps (hP : Closed 0x15555400000000000000000000000000000000000000000000000000000000000000000000000 P) {a1} (h1 : P a1) : P (actCommitPoint.copyDown' a1) := by
  unfold actCommitPoint.copyDown'
  have c0 := @stgUp_keeps _ P hP
  exact byKeep

theorem actCommitPoint_keeps (hP : Closed 0x155554003dc000000000000000000000000000000000000000000000000000000000000480000 P) {a1} (h1 : P a1) : P (actCommitPoint a1) := by
  unfold actCommitPoint
  have c0 := @actCommitPoint_copyDown__keeps P (hP.mono rfl); have c1 := @set_keeps _ P hP
  have c2 := @request_keeps P (hP.mono rfl)
  exact byKeep

theorem execActCommit_keeps (hP : Closed 0x155554003dc000000000000000000000000000000000000000000000000000000000000480000 P) {a1 a2} (h2 : P a2) : Ans P (execActCommit a1 a2) := by
  unfold execActCommit
  have c0 := @atReg_keeps P (hP.mono rfl); have c1 := @set_keeps _ P hP; have c2 := @actCommitPoint_keeps P (hP.mono rfl)
  exact byKeep

theorem execStagingReloadDone_keeps (hP : Closed 0x2aaaa80010c000000000000000000000000000000000000000000000000000000000000000000 P) {a1} (h1 : P a1) : Ans P (execStagingReloadDone a1) := by
  unfold execStagingReloadDone
  have c0 := @set_keeps _ P hP; have c1 := @stgDown_keeps _ P hP
  exact byKeep

theorem execActDrainDone_keeps (hP : Closed 0x40000000000000000000000000000000000000000000000000000000000000000000 P) {a1} (h1 : P a1) : Ans P (execActDrainDone a1) := by
  unfold execActDrainDone
  have c0 := @set_keeps _ P hP
  exact byKeep

theorem actSealed_keeps (hP : Closed 0x280000000000000000000000000000000000000000000000000000000000000080000 P) {a1 a2 a3} (h3 : P a3) : P (actSealed a1 a2 a3) := by
  unfold actSealed
  have c0 := @set_keeps _ P hP
  exact byKeep

theorem newKey_keeps (hP : Closed 0x100000 P) {a1} (h1 : P a1) : P (newKey a1).2 := by
  unfold newKey
  exact byKeep

theorem keySync_keeps (hP : Closed 0x30000000000000000000000000000000000000000000000000000000 P) {a1} (h1 : P a1) : P (keySync a1) := by
  unfold keySync
  have c0 := @setB_keeps _ P hP; have c1 := @set_keeps _ P hP
  exact byKeep

theorem takeLdKey_keeps (hP : Closed 0xa0000030000000000000000000000000000000000000000000000000100000 P) {a1 a2 a3} (h3 : P a3) : P (takeLdKey a1 a2 a3) := by
  unfold takeLdKey
  have c0 := @keySync_keeps P (hP.mono rfl); have c1 := @set_keeps _ P hP
  exact byKeep

theorem dropLdKey_keeps (hP : Closed 0x20000030000000000000000000000000000000000000000000000000100000 P) {a1 a2} (h2 : P a2) : P (dropLdKey a1 a2) := by
  unfold dropLdKey
  have c0 := @keySync_keeps P (hP.mono rfl); have c1 := @set_keeps _ P hP
  exact byKeep

theorem setRot_keeps (hP : Closed 0x100000 P) {a1 a2 a3} (h3 : P a3) : P (setRot a1 a2 a3) := by
  unfold setRot
  exact byKeep

theorem setRotPhase_keeps (hP : Closed 0x200000000000000000000000000000000000000001e00008c0400000040 P) {a1 a2 a3} (h3 : P a3) : P (setRotPhase a1 a2 a3) := by
  unfold setRotPhase
  have c0 := @setState_keeps P (hP.mono rfl); have c1 := @set_keeps _ P hP
  exact byKeep

end Sys2Proof.Machine
end

