-- ==== Sys2Proof/Laws/KeepFrame.lean ====
section
/-! SUPPORT. What the operations of columns, the Frame, binding and the Tally directory may write: each lemma names, as a mask (see Closed), the parts of the state that its operation can change. -/

namespace Sys2Proof.Machine

set_option linter.all false
set_option Elab.async false

variable {P : State → Prop}

theorem setCol_keeps (hP : Closed 0x1000 P) {a1 a2 a3} (h3 : P a3) : P (setCol a1 a2 a3) := by
  unfold setCol
  exact byKeep

theorem setPort_keeps (hP : Closed 0x2000 P) {a1 a2 a3} (h3 : P a3) : P (setPort a1 a2 a3) := by
  unfold setPort
  exact byKeep

theorem modPort_keeps (hP : Closed 0x2000 P) {a1 a2 a3} (h3 : P a3) : P (modPort a1 a2 a3) := by
  unfold modPort
  have c0 := @setPort_keeps P (hP.mono rfl)
  exact byKeep

theorem setLtssm_keeps (hP : Closed 0x10000000000000000000000000000000000000000000000000000000000000000000000000000000000000000000000000000000000000000 P) {a1 a2 a3} (h3 : P a3) : P (setLtssm a1 a2 a3) := by
  unfold setLtssm
  have c0 := @set_keeps _ P hP
  exact byKeep

theorem setTrn_keeps (hP : Closed 0x0 P) {a1 a2 a3 a4} (h1 : ∀ s v i j, P s → P (State.set s a1 v i j)) (h4 : P a4) : P (setTrn a1 a2 a3 a4) := by
  unfold setTrn
  exact byKeep

theorem setPstate_keeps (hP : Closed 0x400000000000000000000000000000000000000000000000000000000000000000000000000000000000000000000000000000001e00008c0400000040 P) {a1 a2 a3} (h3 : P a3) : P (setPstate a1 a2 a3) := by
  unfold setPstate
  have c0 := @setState_keeps P (hP.mono rfl); have c1 := @set_keeps _ P hP
  exact byKeep

theorem setCstate_keeps (hP : Closed 0x400000000000000000000000000000000000000000000000000000000000000000000000000000000000000001e00008c0400000040 P) {a1 a2 a3} (h3 : P a3) : P (setCstate a1 a2 a3) := by
  unfold setCstate
  have c0 := @setState_keeps P (hP.mono rfl); have c1 := @set_keeps _ P hP
  exact byKeep

theorem settle_keeps (hP : Closed 0x400000000100000000000000000000000000000000000000000000000000000000000000000000000000000000000000000000001e00008c0400000040 P) {a1 a2} (h2 : P a2) : P (settle a1 a2) := by
  unfold settle
  have c0 := @setPstate_keeps P (hP.mono rfl); have c1 := @setLtssm_keeps P (hP.mono rfl)
  exact byKeep

theorem wantLane_keeps (hP : Closed 0x2000 P) {a1 a2} (h2 : P a2) : P (wantLane a1 a2) := by
  unfold wantLane
  have c0 := @modPort_keeps P (hP.mono rfl)
  exact byKeep

theorem detect_keeps (hP : Closed 0x400000000100000400000000000000000000000000000000000000000000000000000000000000000000000000000000000000001e00008c0400003040 P) {a1 a2} (h2 : P a2) : P (detect a1 a2) := by
  unfold detect
  have c0 := @setPstate_keeps P (hP.mono rfl); have c1 := @setLtssm_keeps P (hP.mono rfl)
  have c2 := @modPort_keeps P (hP.mono rfl); have c3 := @setCstate_keeps P (hP.mono rfl); have c4 := @wantLane_keeps P (hP.mono rfl)
  have c5 := @setCol_keeps P (hP.mono rfl)
  exact byKeep

theorem colTake_keeps (hP : Closed 0x400000000100002c00000000000000000000000000000000000000000000000000000000000000000000000000000000000000001e00008c0400001040 P) {a1 a2 a3} (h3 : P a3) : P (colTake a1 a2 a3) := by
  unfold colTake
  have c0 := @setCol_keeps P (hP.mono rfl); have c1 := @setB_keeps _ P hP; have c2 := @set_keeps _ P hP
  have c3 := @setCstate_keeps P (hP.mono rfl); have c4 := @forL_keeps _ P hP; have c5 := @settle_keeps P (hP.mono rfl)
  exact byKeep

theorem execColApply_keeps (hP : Closed 0x400000000100003de0000000000000000000000000000000000000000000000000000000000000000000000000000000000000001e00008c0400001040 P) {a1 a2 a3} (h3 : P a3) : Ans P (execColApply a1 a2 a3) := by
  unfold execColApply
  have c0 := @atReg_keeps P (hP.mono rfl); have c1 := @set_keeps _ P hP; have c2 := @colTake_keeps P (hP.mono rfl)
  exact byKeep

theorem rxError_keeps (hP : Closed 0x2004 P) {a1 a2 a3} (h3 : P a3) : P (rxError a1 a2 a3) := by
  unfold rxError
  have c0 := @modPort_keeps P (hP.mono rfl); have c1 := @emit_keeps _ P hP
  exact byKeep

theorem badSymbol_keeps (hP : Closed 0xa20000010000000000000000000000000000000000000000000000000000000000001e00008c0402000044 P) {a1 a2 a3} (h3 : P a3) : P (badSymbol a1 a2 a3) := by
  unfold badSymbol
  have c0 := @perf_keeps P (hP.mono rfl); have c1 := @emit_keeps _ P hP
  exact byKeep

theorem codeErr_keeps (hP : Closed 0x40000000000000000000000000000000a20000010000000000000000000000000000000000000000000000000000000000001e00008c0402000040 P) {a1 a2 a3} (h3 : P a3) : P (codeErr a1 a2 a3) := by
  unfold codeErr
  have c0 := @perf_keeps P (hP.mono rfl); have c1 := @bump_keeps _ P hP; have c2 := @set_keeps _ P hP
  exact byKeep

theorem laneError_keeps (hP : Closed 0x40000000000000000000000000000000a20000010000000000000000000000000000000000000000000000000000000000001e00008c0402002044 P) {a1 a2 a3} (h3 : P a3) : P (laneError a1 a2 a3) := by
  unfold laneError
  have c0 := @codeErr_keeps P (hP.mono rfl); have c1 := @badSymbol_keeps P (hP.mono rfl); have c2 := @rxError_keeps P (hP.mono rfl)
  exact byKeep

theorem execReceiveSymbolError_keeps (hP : Closed 0x40000000000000000000000000000000a20000010000000000000000000000000000000000000000000000000000000000001e00008c0402002044 P) {a1 a2 a3} (h3 : P a3) : Ans P (execReceiveSymbolError a1 a2 a3) := by
  unfold execReceiveSymbolError
  have c0 := @laneError_keeps P (hP.mono rfl)
  exact byKeep

theorem execElasticBufferOverrun_keeps (hP : Closed 0x40000000000000000000000000000000a20000010000000000000000000000000000000000000000000000000000000000001e00008c0402002044 P) {a1 a2 a3} (h3 : P a3) : Ans P (execElasticBufferOverrun a1 a2 a3) := by
  unfold execElasticBufferOverrun
  have c0 := @rxError_keeps P (hP.mono rfl); have c1 := @codeErr_keeps P (hP.mono rfl)
  exact byKeep

theorem setCoeff_keeps (hP : Closed 0xf0000000000000000000000000000000000000000000000000000000000000000000000000000000000000000000000000000000000000000000 P) {a1 a2 a3 a4 a5 a6} (h6 : P a6) : P (setCoeff a1 a2 a3 a4 a5 a6) := by
  unfold setCoeff
  have c0 := @set_keeps _ P hP
  exact byKeep

theorem execCoeffRequest_keeps (hP : Closed 0xf0000000000000000000000000000000000000000000000000000000000000000000000000000000000000000000000000000000000000000004 P) {a1 a2 a3 a4} (h4 : P a4) : Ans P (execCoeffRequest a1 a2 a3 a4) := by
  unfold execCoeffRequest
  have c0 := @emit_keeps _ P hP; have c1 := @setCoeff_keeps P (hP.mono rfl)
  exact byKeep

theorem applyOvr_keeps (hP : Closed 0xf0000000000000000000000000000000000000000000000000000000000000000000000000000000000000000000000000000000000000001000 P) {a1 a2 a3 a4 a5} (h5 : P a5) : P (applyOvr a1 a2 a3 a4 a5) := by
  unfold applyOvr
  have c0 := @setCoeff_keeps P (hP.mono rfl); have c1 := @setCol_keeps P (hP.mono rfl)
  exact byKeep

theorem ovrRelease_keeps (hP : Closed 0xf0000000000000000000000000000000000000000000000000000000000000000000000000000000000000000000000000000000000000001000 P) {a1 a2} (h2 : P a2) : P (ovrRelease a1 a2) := by
  unfold ovrRelease
  have c0 := @forL_keeps _ P hP; have c1 := @setCoeff_keeps P (hP.mono rfl); have c2 := @setCol_keeps P (hP.mono rfl)
  exact byKeep

theorem execOvrApply_keeps (hP : Closed 0xfbc00000000000000000000000000000000000000000000000000000000000000000000000000000000000000000000000000000000000001000 P) {a1 a2 a3 a4} (h4 : P a4) : Ans P (execOvrApply a1 a2 a3 a4) := by
  unfold execOvrApply
  have c0 := @atReg_keeps P (hP.mono rfl); have c1 := @set_keeps _ P hP; have c2 := @applyOvr_keeps P (hP.mono rfl)
  exact byKeep

theorem clearEye_keeps (hP : Closed 0x200000000000000000000000000000000000000000000000000000000000000000000000000000000000000000000000000000000000000000000000 P) {a1 a2} (h2 : P a2) : P (clearEye a1 a2) := by
  unfold clearEye
  refine filter_keeps hP (fun e he hk i j v => ?_) h2
  have hne : ∀ j', e.key i j ≠ COL.EYEDATA.VALID.key a1 j' :=
    fun j' => okSet_apart (m := 0x200000000000000000000000000000000000000000000000000000000000000000000000000000000000000000000000000000000000000000000000) (by decide +kernel) he hk a1 j' i j
  rw [Bool.not_eq_true']
  by_contra hc
  simp only [Bool.not_eq_false, Bool.and_eq_true, decide_eq_true_eq, beq_iff_eq] at hc
  obtain ⟨⟨h1, h2⟩, h3⟩ := hc
  refine hne ((e.key i j - COL.EYEDATA.COUNT.key a1 0) / 32) ?_
  simp only [Ent.key, COL.EYEDATA.COUNT, COL.EYEDATA.VALID] at h1 h2 h3 ⊢
  omega

theorem endScan_keeps (hP : Closed 0x200000000000000000000000000000000000000000000000000000000000000000000000000000000000000000000000000000000001000 P) {a1 a2 a3} (h3 : P a3) : P (endScan a1 a2 a3) := by
  unfold endScan
  have c0 := @set_keeps _ P hP; have c1 := @setCol_keeps P (hP.mono rfl)
  exact byKeep

theorem execEyeScanStart_keeps (hP : Closed 0x20000000067c000000000000000000000000000000000000000000000000000000000000000000000000000000000000000000000000000000001000 P) {a1 a2 a3} (h3 : P a3) : Ans P (execEyeScanStart a1 a2 a3) := by
  unfold execEyeScanStart
  have c0 := @atReg_keeps P (hP.mono rfl); have c1 := @set_keeps _ P hP; have c2 := @clearEye_keeps P (hP.mono rfl)
  have c3 := @setCol_keeps P (hP.mono rfl)
  exact byKeep

theorem execEyeScanAbort_keeps (hP : Closed 0x200000000000000000000000000000000000000000000000000000000000000000000000000000000000000000000000000000000001000 P) {a1 a2 a3} (h3 : P a3) : Ans P (execEyeScanAbort a1 a2 a3) := by
  unfold execEyeScanAbort
  have c0 := @atReg_keeps P (hP.mono rfl); have c1 := @endScan_keeps P (hP.mono rfl); have c2 := @set_keeps _ P hP
  exact byKeep

theorem execEyePointDone_keeps (hP : Closed 0x3800000006000000000000000000000000a20000010000000000000000000000000000000000000000000000000000000000001e00008c0402001040 P) {a1 a2 a3} (h3 : P a3) : Ans P (execEyePointDone a1 a2 a3) := by
  unfold execEyePointDone
  have c0 := @set_keeps _ P hP; have c1 := @setB_keeps _ P hP; have c2 := @perf_keeps P (hP.mono rfl)
  have c3 := @count_keeps _ P hP; have c4 := @setCol_keeps P (hP.mono rfl); have c5 := @endScan_keeps P (hP.mono rfl)
  exact byKeep

theorem pauseScan_keeps (hP : Closed 0x200000000000000000000000000000000000000000000000000000000000000000000000000000000000000000000000000000000001000 P) {a1 a2 a3} (h3 : P a3) : P (pauseScan a1 a2 a3) := by
  unfold pauseScan
  have c0 := @set_keeps _ P hP; have c1 := @setCol_keeps P (hP.mono rfl)
  exact byKeep

theorem resumeScan_keeps (hP : Closed 0x200000000000000000000000000000000000000000000000000000000000000000000000000000000000000000000000000000000001000 P) {a1 a2 a3} (h3 : P a3) : P (resumeScan a1 a2 a3) := by
  unfold resumeScan
  have c0 := @setCol_keeps P (hP.mono rfl); have c1 := @set_keeps _ P hP
  exact byKeep

theorem scanLost_keeps (hP : Closed 0x200000000000000000000000000000000000000000000000000000000000000000000000000000000000000000000000000000000001000 P) {a1 a2} (h2 : P a2) : P (scanLost a1 a2) := by
  unfold scanLost
  have c0 := @endScan_keeps P (hP.mono rfl)
  exact byKeep

theorem execMarginCommand_keeps (hP : Closed 0x20000000000000000000000000000000000000000000000000000000000000000000000000000000000000000000000000000000000100c P) {a1 a2 a3 a4} (h4 : P a4) : Ans P (execMarginCommand a1 a2 a3 a4) := by
  unfold execMarginCommand
  have c0 := @setCol_keeps P (hP.mono rfl); have c1 := @emit_keeps _ P hP; have c2 := @pauseScan_keeps P (hP.mono rfl)
  have c3 := @spend_keeps _ P hP; have c4 := @resumeScan_keeps P (hP.mono rfl)
  exact byKeep

theorem computeUnit_keeps (hP : Closed 0x180000000000000000000000000000000000000000000000000000000000000000000000000000000000000000000000000000000000000000000000000000000000000000000000000000000000000000000000 P) {a1 a2} (h2 : P a2) : P (computeUnit a1 a2) := by
  unfold computeUnit
  have c0 := @set_keeps _ P hP
  exact byKeep

theorem adapt_keeps (hP : Closed 0x3800000000000000000000000000000000000000000000000000000000000000000000000000000000000000000000000000000000000000000008 P) {a1 a2} (h2 : P a2) : P (adapt a1 a2) := by
  unfold adapt
  have c0 := @forL_keeps _ P hP; have c1 := @set_keeps _ P hP; have c2 := @spend_keeps _ P hP
  exact byKeep

theorem freeze_keeps (hP : Closed 0x2000000000000000000000000000000000000000000000000000000000000000000000000000000000000000000000000000000000000000000000 P) {a1 a2} (h2 : P a2) : P (freeze a1 a2) := by
  unfold freeze
  have c0 := @forL_keeps _ P hP; have c1 := @set_keeps _ P hP
  exact byKeep

theorem lockLanes_keeps (hP : Closed 0x200000000000000000000000000000000000000000000000000000000000000000000000000000000000000000000000000000000000000000000 P) {a1 a2 a3} (h3 : P a3) : P (lockLanes a1 a2 a3) := by
  unfold lockLanes
  have c0 := @forL_keeps _ P hP; have c1 := @setB_keeps _ P hP; have c2 := @set_keeps _ P hP
  exact byKeep

theorem toL0_keeps (hP : Closed 0x180000000000000000000000000000000000000000000000003af0010200000000000000000000000000000000000000000000000000000000000000000000000000000000000000000000000000000000001008 P) {a1 a2} (h2 : P a2) : P (toL0 a1 a2) := by
  unfold toL0
  have c0 := @ovrRelease_keeps P (hP.mono rfl); have c1 := @lockLanes_keeps P (hP.mono rfl)
  have c2 := @adapt_keeps P (hP.mono rfl); have c3 := @setLtssm_keeps P (hP.mono rfl); have c4 := @computeUnit_keeps P (hP.mono rfl)
  have c5 := @resumeScan_keeps P (hP.mono rfl)
  exact byKeep

theorem toRecovery_keeps (hP : Closed 0x2000102000000000000000000000000a20000010000000000000000000000000000000000000000000000000000000000001e00008c0402001040 P) {a1 a2 a3} (h3 : P a3) : P (toRecovery a1 a2 a3) := by
  unfold toRecovery
  have c0 := @setLtssm_keeps P (hP.mono rfl); have c1 := @perf_keeps P (hP.mono rfl); have c2 := @lockLanes_keeps P (hP.mono rfl)
  have c3 := @pauseScan_keeps P (hP.mono rfl)
  exact byKeep

theorem quickStart_keeps (hP : Closed 0x200000000000000000000000000000000000000000000000000000000000000000000000000000000000000000000000000000000003000 P) {a1 a2} (h2 : P a2) : P (quickStart a1 a2) := by
  unfold quickStart
  have c0 := @modPort_keeps P (hP.mono rfl); have c1 := @pauseScan_keeps P (hP.mono rfl)
  exact byKeep

theorem quickEnd_keeps (hP : Closed 0x200000000000000000000000000000000000000000000000000000000000000000000000000000000000000000000000000000000003000 P) {a1 a2} (h2 : P a2) : P (quickEnd a1 a2) := by
  unfold quickEnd
  have c0 := @modPort_keeps P (hP.mono rfl); have c1 := @resumeScan_keeps P (hP.mono rfl)
  exact byKeep

theorem execEqComplete_keeps (hP : Closed 0x180000000000000000000000000000000000000000000000003af003020000000000000000000000000000000000000000000000000000000000000000000000000000000000000000000000000000000000300c P) {a1 a2 a3} (h3 : P a3) : Ans P (execEqComplete a1 a2 a3) := by
  unfold execEqComplete
  have c0 := @setPort_keeps P (hP.mono rfl); have c1 := @toL0_keeps P (hP.mono rfl); have c2 := @setTrn_keeps P (hP.mono rfl)
  have c3 := @emit_keeps _ P hP; have c4 := @quickStart_keeps P (hP.mono rfl); have c5 := @set_keeps _ P hP
  exact byKeep

theorem execEqFail_keeps (hP : Closed 0x30000000000000000000000000000000000000000000000000000000000000000000000000000000000000000000000000000000000002080 P) {a1 a2 a3} (h3 : P a3) : Ans P (execEqFail a1 a2 a3) := by
  unfold execEqFail
  have c0 := @setLtssm_keeps P (hP.mono rfl); have c1 := @setPort_keeps P (hP.mono rfl); have c2 := @report_keeps P (hP.mono rfl)
  have c3 := @setTrn_keeps P (hP.mono rfl); have c4 := @set_keeps _ P hP
  exact byKeep

theorem recordFinal_keeps (hP : Closed 0x400100000000000000000000000000000000000000000000000000000000000000000000000000000000000000000000000000000000000002000 P) {a1 a2} (h2 : P a2) : P (recordFinal a1 a2) := by
  unfold recordFinal
  have c0 := @forL_keeps _ P hP; have c1 := @set_keeps _ P hP; have c2 := @setTrn_keeps P (hP.mono rfl)
  have c3 := @modPort_keeps P (hP.mono rfl)
  exact byKeep

theorem redoEq_keeps (hP : Closed 0x2001102000000000000000000000000a20000010000000000000000000000000000000000000000000000000000000000001e00008c0402003044 P) {a1 a2 a3} (h3 : P a3) : P (redoEq a1 a2 a3) := by
  unfold redoEq
  have c0 := @setPort_keeps P (hP.mono rfl); have c1 := @setTrn_keeps P (hP.mono rfl); have c2 := @toRecovery_keeps P (hP.mono rfl)
  have c3 := @emit_keeps _ P hP; have c4 := @set_keeps _ P hP
  exact byKeep

theorem takeSet_keeps (hP : Closed 0xf0000000000000000000000000000000000000000000000000000000000000000000000000000000000000000000000000000000000000000000 P) {a1 a2 a3} (h3 : P a3) : P (takeSet a1 a2 a3) := by
  unfold takeSet
  have c0 := @forL_keeps _ P hP; have c1 := @setCoeff_keeps P (hP.mono rfl)
  exact byKeep

theorem eqHardware_keeps (hP : Closed 0x6f01102000000000000000000000000a20000010000000000000000000000000000000000000000000000000000000000001e00008c04020030c4 P) {a1 a2} (h2 : P a2) : P (eqHardware a1 a2) := by
  unfold eqHardware
  have c0 := @recordFinal_keeps P (hP.mono rfl); have c1 := @modPort_keeps P (hP.mono rfl)
  have c2 := @redoEq_keeps P (hP.mono rfl); have c3 := @report_keeps P (hP.mono rfl); have c4 := @takeSet_keeps P (hP.mono rfl)
  exact byKeep

theorem execQuickEyeDone_keeps (hP : Closed 0x786f01102000000000000000000000000a20000010000000000000000000000000000000000000000003000000000000000041e00008c04020033c4 P) {a1 a2 a3} (h3 : P a3) : Ans P (execQuickEyeDone a1 a2 a3) := by
  unfold execQuickEyeDone
  have c0 := @set_keeps _ P hP; have c1 := @quickEnd_keeps P (hP.mono rfl); have c2 := @forL_keeps _ P hP
  have c3 := @reachPoint_keeps P (hP.mono rfl); have c4 := @setTrn_keeps P (hP.mono rfl); have c5 := @eqHardware_keeps P (hP.mono rfl)
  exact byKeep

theorem laneLinkReset_keeps (hP : Closed 0x7bff01f0200000000000000000000000000000000000000000000000000000000000000000000000000000000000000000000000000000000003000 P) {a1 a2} (h2 : P a2) : P (laneLinkReset a1 a2) := by
  unfold laneLinkReset
  have c0 := @forL_keeps _ P hP; have c1 := @clear_keeps _ P hP; have c2 := @modPort_keeps P (hP.mono rfl)
  have c3 := @quickEnd_keeps P (hP.mono rfl); have c4 := @set_keeps _ P hP
  exact byKeep

theorem execTrainingAttemptFail_keeps (hP : Closed 0x4007bff03f02000000000000000000000000000000000000000000000000000000000000000000000000000000000000000000001e00008c0400003040 P) {a1 a2} (h2 : P a2) : Ans P (execTrainingAttemptFail a1 a2) := by
  unfold execTrainingAttemptFail
  have c0 := @bump_keeps _ P hP; have c1 := @setPstate_keeps P (hP.mono rfl); have c2 := @modPort_keeps P (hP.mono rfl)
  have c3 := @laneLinkReset_keeps P (hP.mono rfl); have c4 := @set_keeps _ P hP
  exact byKeep

theorem execRetryIntervalExpiry_keeps (hP : Closed 0x400000000100000400000000000000000000000000000000000000000000000000000000000000000000000000000000000000001e00008c0400003040 P) {a1 a2} (h2 : P a2) : Ans P (execRetryIntervalExpiry a1 a2) := by
  unfold execRetryIntervalExpiry
  have c0 := @detect_keeps P (hP.mono rfl); have c1 := @modPort_keeps P (hP.mono rfl)
  exact byKeep

theorem execColumnSleepEntry_keeps (hP : Closed 0x100000c00000000000000000000a20000010000000000000000000000000000000000000000000000000000000000001e00008c0402001040 P) {a1 a2} (h2 : P a2) : Ans P (execColumnSleepEntry a1 a2) := by
  unfold execColumnSleepEntry
  have c0 := @setCstate_keeps P (hP.mono rfl); have c1 := @set_keeps _ P hP; have c2 := @perf_keeps P (hP.mono rfl)
  have c3 := @forL_keeps _ P hP; have c4 := @setLtssm_keeps P (hP.mono rfl); have c5 := @setCol_keeps P (hP.mono rfl)
  exact byKeep

theorem leaveL12_keeps (hP : Closed 0x180000000000000000000000000000000000000000000000003af001020000000000000000000000000000000000000000000000000000000000000000000000000000000000000000000000000000000000100c P) {a1 a2} (h2 : P a2) : P (leaveL12 a1 a2) := by
  unfold leaveL12
  have c0 := @toL0_keeps P (hP.mono rfl); have c1 := @emit_keeps _ P hP
  exact byKeep

theorem execColumnWake_keeps (hP : Closed 0x180000000000000000000000000000000000000000000000003af00102000400000000000000000000000000000000000000000000000000000000000000000000000000000000000000001e00008c040000304c P) {a1 a2 a3} (h3 : P a3) : Ans P (execColumnWake a1 a2 a3) := by
  unfold execColumnWake
  have c0 := @wantLane_keeps P (hP.mono rfl); have c1 := @leaveL12_keeps P (hP.mono rfl); have c2 := @setCstate_keeps P (hP.mono rfl)
  have c3 := @setCol_keeps P (hP.mono rfl)
  exact byKeep

theorem execColumnPllLock_keeps (hP : Closed 0x180000000000000000000000000000000000000000000040003af00102000c00000000000000000000000000000000000000000000000000000000000000000000000000000000000000001e00008c040000304c P) {a1 a2} (h2 : P a2) : Ans P (execColumnPllLock a1 a2) := by
  unfold execColumnPllLock
  have c0 := @set_keeps _ P hP; have c1 := @setCstate_keeps P (hP.mono rfl); have c2 := @forL_keeps _ P hP
  have c3 := @setLtssm_keeps P (hP.mono rfl); have c4 := @leaveL12_keeps P (hP.mono rfl); have c5 := @setPort_keeps P (hP.mono rfl)
  have c6 := @detect_keeps P (hP.mono rfl); have c7 := @settle_keeps P (hP.mono rfl)
  exact byKeep

theorem trainTick_keeps (hP : Closed 0x10000000000000000000000000000000000000000000000000000000000000000000000000000000000000000000000000000000000000008 P) {a1} (h1 : P a1) : P (trainTick a1) := by
  unfold trainTick
  have c0 := @forN_keeps _ P hP; have c1 := @spend_keeps _ P hP; have c2 := @setLtssm_keeps P (hP.mono rfl)
  exact byKeep

theorem flagX_keeps (hP : Closed 0x1e00008c0400000040 P) {a1 a2 a3} (h1 : ∀ s v i j, P s → P (State.set s a1 v i j)) (h3 : P a3) : P (flagX a1 a2 a3) := by
  unfold flagX
  have c0 := @flag_keeps P (hP.mono rfl)
  exact byKeep

theorem setVoq_keeps (hP : Closed 0x4000 P) {a1 a2 a3} (h3 : P a3) : P (setVoq a1 a2 a3) := by
  unfold setVoq
  exact byKeep

theorem setCross_keeps (hP : Closed 0x4000 P) {a1 a2 a3} (h3 : P a3) : P (setCross a1 a2 a3) := by
  unfold setCross
  exact byKeep

theorem setStalled_keeps (hP : Closed 0x4000 P) {a1 a2 a3} (h3 : P a3) : P (setStalled a1 a2 a3) := by
  unfold setStalled
  exact byKeep

theorem unstall_keeps (hP : Closed 0x4000 P) {a1 a2} (h2 : P a2) : P (unstall a1 a2) := by
  unfold unstall
  have c0 := @setVoq_keeps P (hP.mono rfl); have c1 := @setStalled_keeps P (hP.mono rfl)
  exact byKeep

theorem bufSync_keeps (hP : Closed 0x1800000000000000000000000000000000000000000000000000000000000000000000000000000000000000000000000000000000000000000000000000000000000000000000000000000000000004000 P) {a1 a2} (h2 : P a2) : P (bufSync a1 a2) := by
  unfold bufSync
  have c0 := @unstall_keeps P (hP.mono rfl); have c1 := @set_keeps _ P hP
  exact byKeep

theorem bufErr_keeps (hP : Closed 0x80 P) {a1 a2 a3} (h3 : P a3) : P (bufErr a1 a2 a3) := by
  unfold bufErr
  have c0 := @report_keeps P (hP.mono rfl)
  exact byKeep

theorem enqueue_keeps (hP : Closed 0xc0000000000000000000000000000000000000000000000000000000018000000000000000000000000000000000000000000000000000000000000000000000000000a20000010000000000000000000000000000000000000000000000000000000000001e00008c04022040c0 P) {a1 a2} (h2 : P a2) : P (enqueue a1 a2) := by
  unfold enqueue
  have c0 := @injected_keeps P (hP.mono rfl); have c1 := @bufErr_keeps P (hP.mono rfl); have c2 := @perf_keeps P (hP.mono rfl)
  have c3 := @bufSync_keeps P (hP.mono rfl); have c4 := @setStalled_keeps P (hP.mono rfl)
  have c5 := @setVoq_keeps P (hP.mono rfl)
  exact byKeep

theorem addAlloc_keeps (hP : Closed 0x4000 P) {a1 a2 a3 a4} (h4 : P a4) : P (addAlloc a1 a2 a3 a4) := by
  unfold addAlloc
  exact byKeep

theorem addFreed_keeps (hP : Closed 0x4000 P) {a1 a2 a3 a4} (h4 : P a4) : P (addFreed a1 a2 a3 a4) := by
  unfold addFreed
  exact byKeep

theorem carry_keeps (hP : Closed 0xc000000000000000000000000000000000000000000000000000000000000000000000000000000000000000000000000000000000000000000000000000000000000000000000000000000000000000000000000000000000000000000000000000000000000000000000200000 P) {a1 a2} (h2 : P a2) : P (carry a1 a2) := by
  unfold carry
  have c0 := @injected_keeps P (hP.mono rfl)
  exact byKeep

theorem setEg_keeps (hP : Closed 0x8000 P) {a1 a2 a3} (h3 : P a3) : P (setEg a1 a2 a3) := by
  unfold setEg
  exact byKeep

theorem sampleEg_keeps (hP : Closed 0x2000000000000000000000000000000000000000000000000000000000000000000000000000000000000000000000000000000000000000000000000000000000000000000000000000000000000000000000000008000 P) {a1 a2} (h2 : P a2) : P (sampleEg a1 a2) := by
  unfold sampleEg
  have c0 := @forN_keeps _ P hP; have c1 := @set_keeps _ P hP; have c2 := @setEg_keeps P (hP.mono rfl)
  exact byKeep

theorem setBlk_keeps (hP : Closed 0x8000000 P) {a1 a2 a3} (h3 : P a3) : P (setBlk a1 a2 a3) := by
  unfold setBlk
  exact byKeep

theorem modBlk_keeps (hP : Closed 0x8000000 P) {a1 a2 a3} (h3 : P a3) : P (modBlk a1 a2 a3) := by
  unfold modBlk
  have c0 := @setBlk_keeps P (hP.mono rfl)
  exact byKeep

theorem grant_keeps (hP : Closed 0x8000000 P) {a1 a2 a3 a4} (h4 : P a4) : P (grant a1 a2 a3 a4) := by
  unfold grant
  have c0 := @modBlk_keeps P (hP.mono rfl)
  exact byKeep

theorem returnCredit_keeps (hP : Closed 0x8000004 P) {a1 a2 a3} (h3 : P a3) : P (returnCredit a1 a2 a3) := by
  unfold returnCredit
  have c0 := @emit_keeps _ P hP; have c1 := @grant_keeps P (hP.mono rfl)
  exact byKeep

theorem connect_keeps (hP : Closed 0xc00000000000000000000000000000000000000000000200000000000000000000000000000000000000000000000000000000000000000000000000000000000000000000000000000000000000000000000000000000000000000000000000000000000000000000000820c004 P) {a1 a2 a3 a4 a5} (h5 : P a5) : P (connect a1 a2 a3 a4 a5) := by
  unfold connect
  have c0 := @setVoq_keeps P (hP.mono rfl); have c1 := @returnCredit_keeps P (hP.mono rfl)
  have c2 := @setCross_keeps P (hP.mono rfl); have c3 := @sampleEg_keeps P (hP.mono rfl); have c4 := @carry_keeps P (hP.mono rfl)
  have c5 := @addAlloc_keeps P (hP.mono rfl)
  exact byKeep

theorem iteration_keeps (hP : Closed 0xc00000000000000000000000000000000000000000000200000000000000000000000000000000000000000000000000000000000000000000000000000000000000000000000000000000000000000000000000000000000000000000000000000000000000000000000820c004 P) {a1 a2 a3} (h3 : P a3) : P (iteration a1 a2 a3) := by
  unfold iteration
  have c0 := @forL_keeps _ P hP; have c1 := @connect_keeps P (hP.mono rfl)
  exact byKeep

theorem threeTimes_keeps (hP : Closed 0xc00000000000000000000000000000000000000000000200000000000000000000000000000000000000000000000000000000000000000000000000000000000000000000000000000000000000000000000000000000000000000000000000000000000000000000000820c004 P) {a1 a2} (h2 : P a2) : P (threeTimes a1 a2) := by
  unfold threeTimes
  have c0 := @iteration_keeps P (hP.mono rfl)
  exact byKeep

theorem tickCross_keeps (hP : Closed 0x4000 P) {a1} (h1 : P a1) : P (tickCross a1) := by
  unfold tickCross
  exact byKeep

theorem execSchedulerSlot_keeps (hP : Closed 0xc00000000000000000000000000000000000000000000200000000000000000000000000000000000000000000000000000000000000000000000000000000000000000000000000000000000000000000000000000000000000000000000000000000000000000000000820c004 P) {a1} (h1 : P a1) : Ans P (execSchedulerSlot a1) := by
  unfold execSchedulerSlot
  have c0 := @tickCross_keeps P (hP.mono rfl); have c1 := @threeTimes_keeps P (hP.mono rfl)
  exact byKeep

theorem execSharedPoolMove_keeps (hP : Closed 0x1800000000000000000000000000000000000000000000000000000000000000000000000000000000000000000000000000000000000000000000000000000000000000000000000000000000008004004 P) {a1 a2 a3} (h3 : P a3) : Ans P (execSharedPoolMove a1 a2 a3) := by
  unfold execSharedPoolMove
  have c0 := @bufSync_keeps P (hP.mono rfl); have c1 := @returnCredit_keeps P (hP.mono rfl)
  have c2 := @setVoq_keeps P (hP.mono rfl)
  exact byKeep

theorem setEgq_keeps (hP : Closed 0x4000 P) {a1 a2 a3} (h3 : P a3) : P (setEgq a1 a2 a3) := by
  unfold setEgq
  exact byKeep

theorem closeReq_keeps (hP : Closed 0xc0000000000000000000000000000000000000000000000000000000018000000000000000000000000000000000000000000000000000000000000000000000000000a20000010000000000000000000000000000000000000000000000000000000000001e00008c04022040c0 P) {a1 a2} (h2 : P a2) : P (closeReq a1 a2) := by
  unfold closeReq
  have c0 := @forL_keeps _ P hP; have c1 := @enqueue_keeps P (hP.mono rfl)
  exact byKeep

theorem answerReq_keeps (hP : Closed 0xc0000000000000000000000000000000000000000000000000000000018000000000000000000000000000000000000000000000000000000000000000000000000000a20000010000000000000000000000000000000000000000000000000000000000001e00008c04022040c0 P) {a1 a2} (h2 : P a2) : P (answerReq a1 a2) := by
  unfold answerReq
  have c0 := @closeReq_keeps P (hP.mono rfl)
  exact byKeep

theorem openReq_keeps (hP : Closed 0x4000 P) {a1 a2} (h2 : P a2) : P (openReq a1 a2).2 := by
  unfold openReq
  exact byKeep

theorem refill_keeps (hP : Closed 0x8000 P) {a1 a2} (h2 : P a2) : P (refill a1 a2) := by
  unfold refill
  have c0 := @setEg_keeps P (hP.mono rfl)
  exact byKeep

theorem police_keeps (hP : Closed 0x10000000000000000000000000000000000000000000000000000000000000000000000000000000000000000a20000010000000000000000000000000000000000000000000000000000000000001e00008c0402008040 P) {a1 a2 a3} (h3 : P a3) : P (police a1 a2 a3).2 := by
  unfold police
  have c0 := @refill_keeps P (hP.mono rfl); have c1 := @setEg_keeps P (hP.mono rfl); have c2 := @perf_keeps P (hP.mono rfl)
  have c3 := @bump_keeps _ P hP; have c4 := @set_keeps _ P hP
  exact byKeep

theorem keepClvl_keeps (hP : Closed 0x4000 P) {a1 a2} (h2 : P a2) : P (keepClvl a1 a2) := by
  unfold keepClvl
  exact byKeep

theorem readDone_keeps (hP : Closed 0xa20000010000000000000000000000000000000000000000000000000000000000001e00008c0402000040 P) {a1 a2} (h2 : P a2) : P (readDone a1 a2) := by
  unfold readDone
  have c0 := @perfView_keeps P (hP.mono rfl)
  exact byKeep

theorem lineCrossed_keeps (hP : Closed 0x4000 P) {a1 a2} (h2 : P a2) : P (lineCrossed a1 a2) := by
  unfold lineCrossed
  exact byKeep

theorem joinEgress_keeps (hP : Closed 0xc0000000000000000000000000000000000000000000030000000000018000000000000000000000000000000000000000000000000000000000000000000000000000a20000010000000000000000000000000000000000000000000000000000000000001e00008c040220c0c0 P) {a1 a2 a3} (h3 : P a3) : P (joinEgress a1 a2 a3) := by
  unfold joinEgress
  have c0 := @police_keeps P (hP.mono rfl); have c1 := @keepClvl_keeps P (hP.mono rfl); have c2 := @perf_keeps P (hP.mono rfl)
  have c3 := @sampleEg_keeps P (hP.mono rfl); have c4 := @setEgq_keeps P (hP.mono rfl); have c5 := @lineCrossed_keeps P (hP.mono rfl)
  have c6 := @answerReq_keeps P (hP.mono rfl); have c7 := @readDone_keeps P (hP.mono rfl)
  have c8 := @mark_keeps P (hP.mono rfl)
  exact byKeep

theorem execCrossingComplete_keeps (hP : Closed 0xc0000000000000000000000000000000000000000000030000000000018000000000000000000000000000000000000000000000000000000000000000000000000000a20000010000000000000000000000000000000000000000000000000000000000001e00008c040220c0c0 P) {a1 a2} (h2 : P a2) : Ans P (execCrossingComplete a1 a2) := by
  unfold execCrossingComplete
  have c0 := @setCross_keeps P (hP.mono rfl); have c1 := @bufSync_keeps P (hP.mono rfl); have c2 := @forL_keeps _ P hP
  have c3 := @joinEgress_keeps P (hP.mono rfl)
  exact byKeep

theorem uncross_keeps (hP : Closed 0x4000 P) {a1 a2 a3} (h3 : P a3) : P (uncross a1 a2 a3) := by
  unfold uncross
  have c0 := @forL_keeps _ P hP; have c1 := @addFreed_keeps P (hP.mono rfl); have c2 := @setVoq_keeps P (hP.mono rfl)
  have c3 := @setCross_keeps P (hP.mono rfl)
  exact byKeep

theorem replayOf_keeps (hP : Closed 0x14000000000000000000000000000000000000000000000000000000000000000000000000000000000000000000000000000000000000000000000000000000000000000000000000001e00008c0400004040 P) {a1 a2 a3 a4} (h4 : P a4) : P (replayOf a1 a2 a3 a4) := by
  unfold replayOf
  have c0 := @uncross_keeps P (hP.mono rfl); have c1 := @flagX_keeps P (hP.mono rfl); have c2 := @bump_keeps _ P hP
  have c3 := @set_keeps _ P hP
  exact byKeep

theorem execReplayRequest_keeps (hP : Closed 0x14000000000000000000000000000000000000000000000000000000000000000000000000000000000000000000000000000000000000000000000000000000000000000000000000001e00008c0400004040 P) {a1 a2 a3 a4} (h4 : P a4) : Ans P (execReplayRequest a1 a2 a3 a4) := by
  unfold execReplayRequest
  have c0 := @replayOf_keeps P (hP.mono rfl)
  exact byKeep

theorem setPlane_keeps (hP : Closed 0x3f0000000000000000000000000000000000000000000000000000000000000000000000000000000000000000000000000000000000000000000000000000000004000000000000000000000000000 P) {a1 a2 a3} (h3 : P a3) : P (setPlane a1 a2 a3) := by
  unfold setPlane
  have c0 := @set_keeps _ P hP
  exact byKeep

theorem setMap_keeps (hP : Closed 0x4000000000000000000000000000000000000000000000000000000000000000000000000000000000000000000000000000000000000000000000000000000000000000000000000000000000000000 P) {a1 a2 a3} (h3 : P a3) : P (setMap a1 a2 a3) := by
  unfold setMap
  have c0 := @set_keeps _ P hP
  exact byKeep

theorem cancelSlot_keeps (hP : Closed 0x4000 P) {a1} (h1 : P a1) : P (cancelSlot a1) := by
  unfold cancelSlot
  have c0 := @forL_keeps _ P hP; have c1 := @uncross_keeps P (hP.mono rfl)
  exact byKeep

theorem startSubst_keeps (hP : Closed 0x40000000000000000000000000000000000000000000000000000000002053f000000000000000000000000000000000000000000000000000000000000000000000000000000000000000000000000000000000000000000007000000000000e0000000001e00008c04002040c0 P) {a1 a2 a3 a4} (h4 : P a4) : P (startSubst a1 a2 a3 a4) := by
  unfold startSubst
  have c0 := @bringIn_keeps P (hP.mono rfl); have c1 := @cancelSlot_keeps P (hP.mono rfl)
  have c2 := @setPlane_keeps P (hP.mono rfl); have c3 := @setMap_keeps P (hP.mono rfl); have c4 := @set_keeps _ P hP
  exact byKeep

theorem halfRate_keeps (hP : Closed 0x4000000000000000000000000000000000000000000000000000000000004bf00000000000000000000000000000000000000000000000000000000000000000000000000000000000000000000000000000000000000000000000000000000041d80000001e00008c04004000c0 P) {a1 a2} (h2 : P a2) : P (halfRate a1 a2) := by
  unfold halfRate
  have c0 := @report_keeps P (hP.mono rfl); have c1 := @noteSpare_keeps P (hP.mono rfl); have c2 := @fenceUnit_keeps P (hP.mono rfl)
  have c3 := @setPlane_keeps P (hP.mono rfl); have c4 := @setMap_keeps P (hP.mono rfl); have c5 := @setSpare_keeps P (hP.mono rfl)
  have c6 := @set_keeps _ P hP; have c7 := @raise_keeps P (hP.mono rfl)
  exact byKeep

theorem waitSubst_keeps (hP : Closed 0x4000 P) {a1 a2 a3 a4} (h4 : P a4) : P (waitSubst a1 a2 a3 a4) := by
  unfold waitSubst
  exact byKeep

theorem planeFail_keeps (hP : Closed 0x4000000000000000000000000000000000000000000000000000000000205bf000000000000000000000000000000000000000000000000000000000000000000000000000000000000000000000000000000000000000000007000010000000e1d80000041e00008c04006041c0 P) {a1 a2} (h2 : P a2) : P (planeFail a1 a2) := by
  unfold planeFail
  have c0 := @closeDec_keeps P (hP.mono rfl); have c1 := @waitSubst_keeps P (hP.mono rfl)
  have c2 := @startSubst_keeps P (hP.mono rfl); have c3 := @halfRate_keeps P (hP.mono rfl)
  exact byKeep

theorem planePredict_keeps (hP : Closed 0x4000000000000000000000000000000000000000000000000000000000205bf000000000000000000000000000000000000000000000000000000000000000000000000000000000000000000000000000000000000000000007000030000000e1d80000041e00008c04006043c0 P) {a1 a2} (h2 : P a2) : P (planePredict a1 a2) := by
  unfold planePredict
  have c0 := @waitSubst_keeps P (hP.mono rfl); have c1 := @report_keeps P (hP.mono rfl); have c2 := @reachPoint_keeps P (hP.mono rfl)
  have c3 := @planeFail_keeps P (hP.mono rfl)
  exact byKeep

theorem execCrossingError_keeps (hP : Closed 0x4000000000000000000000000000000000000000000000000000000a00305bf00000000000000000000000000000000000000000000000000000000000000000000000a200000100000000000000000000000000000000000007000030000000e1d80000041e00008c04026043c0 P) {a1 a2 a3 a4} (h4 : P a4) : Ans P (execCrossingError a1 a2 a3 a4) := by
  unfold execCrossingError
  have c0 := @setCross_keeps P (hP.mono rfl); have c1 := @flagX_keeps P (hP.mono rfl); have c2 := @bump_keeps _ P hP
  have c3 := @perf_keeps P (hP.mono rfl); have c4 := @report_keeps P (hP.mono rfl); have c5 := @planeFail_keeps P (hP.mono rfl)
  have c6 := @planePredict_keeps P (hP.mono rfl); have c7 := @set_keeps _ P hP
  exact byKeep

theorem fenceSpare_keeps (hP : Closed 0x40000000000000000000000000000000000000000000000000000000000007f00000000000000000000000000000000000000000000000000000000000000000000000000000000000000000000000000000000000000000000000000000000041d80000001e0000840000400040 P) {a1 a2} (h2 : P a2) : P (fenceSpare a1 a2) := by
  unfold fenceSpare
  have c0 := @fenceUnit_keeps P (hP.mono rfl); have c1 := @setPlane_keeps P (hP.mono rfl)
  have c2 := @noteSpare_keeps P (hP.mono rfl); have c3 := @setSpare_keeps P (hP.mono rfl)
  have c4 := @set_keeps _ P hP
  exact byKeep

theorem execSparePlaneCheck_keeps (hP : Closed 0x40000000000000000000000000000000000000000000000000000000000007f00000000000000000000000000000000000000000000000000000000000000000000000000000000000000000000000000000000000000000000000000000000041d80000001e00008400004000c0 P) {a1 a2} (h2 : P a2) : Ans P (execSparePlaneCheck a1 a2) := by
  unfold execSparePlaneCheck
  have c0 := @report_keeps P (hP.mono rfl); have c1 := @fenceSpare_keeps P (hP.mono rfl)
  exact byKeep

theorem execPlaneSubCommand_keeps (hP : Closed 0x400000000000000000000000000000000000000000000000000000000020f3f000000000000000000000000000000000000000000000000000000000000000000000000000000000000000000000000000000000000000000007000000000000e0000000001e00008c04002040c0 P) {a1 a2} (h2 : P a2) : Ans P (execPlaneSubCommand a1 a2) := by
  unfold execPlaneSubCommand
  have c0 := @atReg_keeps P (hP.mono rfl); have c1 := @set_keeps _ P hP; have c2 := @startSubst_keeps P (hP.mono rfl)
  exact byKeep

theorem replaysFirst_keeps (hP : Closed 0x14000000000000000000000000000000000000000000000000000000000000000000000000000000000000000000000000000000000000000000000000000000000000000000000000001e00008c0400004040 P) {a1} (h1 : P a1) : P (replaysFirst a1) := by
  unfold replaysFirst
  have c0 := @forL_keeps _ P hP; have c1 := @replayOf_keeps P (hP.mono rfl)
  exact byKeep

theorem substDone_keeps (hP : Closed 0x40000000000000000000000000000000000000000000000000000014002e5ff000000000000000000000000000000000000000000000000000000000000000000000000000000000000000000000000000000000000000000007000030000000e1d80000041e00008c04006043c0 P) {a1 a2 a3} (h3 : P a3) : P (substDone a1 a2 a3) := by
  unfold substDone
  have c0 := @set_keeps _ P hP; have c1 := @bump_keeps _ P hP; have c2 := @setB_keeps _ P hP
  have c3 := @replaysFirst_keeps P (hP.mono rfl); have c4 := @raise_keeps P (hP.mono rfl)
  have c5 := @forL_keeps _ P hP; have c6 := @planeFail_keeps P (hP.mono rfl); have c7 := @planePredict_keeps P (hP.mono rfl)
  exact byKeep

theorem execSubstitutionComplete_keeps (hP : Closed 0x40000000000000000000000000000000000000000000000000000014002e5ff000000000000000000000000000000000000000000000000000000000000000000000000000000000000000000000000000000000000000000007000030000000e1d80000041e00008c04006043c2 P) {a1 a2} (h2 : P a2) : Ans P (execSubstitutionComplete a1 a2) := by
  unfold execSubstitutionComplete
  have c0 := @substDone_keeps P (hP.mono rfl); have c1 := @reach_keeps _ P hP
  exact byKeep

theorem execTcshareWrite_keeps (hP : Closed 0x1060000000000000000000000000000000000000000000000000000000000000000000000000000000000000000000000000000000000000000000000000000000000000000000000001e00008c0400000040 P) {a1 a2 a3 a4} (h4 : P a4) : Ans P (execTcshareWrite a1 a2 a3 a4) := by
  unfold execTcshareWrite
  have c0 := @atReg_keeps P (hP.mono rfl); have c1 := @set_keeps _ P hP; have c2 := @flagX_keeps P (hP.mono rfl)
  exact byKeep

theorem execEgqWrite_keeps (hP : Closed 0x1c00000000000000000000000000000000000000000000000000000000000000000000000000000000000000000000000000000000000000000000000000000000000000000000000001e00008c0400000040 P) {a1 a2 a3 a4} (h4 : P a4) : Ans P (execEgqWrite a1 a2 a3 a4) := by
  unfold execEgqWrite
  have c0 := @atReg_keeps P (hP.mono rfl); have c1 := @set_keeps _ P hP; have c2 := @flagX_keeps P (hP.mono rfl)
  exact byKeep

theorem execCmarkWrite_keeps (hP : Closed 0x1380000000000000000000000000000000000000000000000000000000000000000000000000000000000000000000000000000000000000000000000000000000000000000000000001e00008c0400000040 P) {a1 a2 a3} (h3 : P a3) : Ans P (execCmarkWrite a1 a2 a3) := by
  unfold execCmarkWrite
  have c0 := @atReg_keeps P (hP.mono rfl); have c1 := @set_keeps _ P hP; have c2 := @flagX_keeps P (hP.mono rfl)
  exact byKeep

theorem execFlitCheckFail_keeps (hP : Closed 0xa20000010000000000000000000000000000000000000000000000000000000000001e00008c0402000044 P) {a1 a2} (h2 : P a2) : Ans P (execFlitCheckFail a1 a2) := by
  unfold execFlitCheckFail
  have c0 := @perf_keeps P (hP.mono rfl); have c1 := @emit_keeps _ P hP
  exact byKeep

theorem cacheDenied_keeps (hP : Closed 0x88000000000000000000000000000000000000000000000000000000000000000000000000000000000000000000000000000000001e00008c0400000040 P) {a1 a2} (h2 : P a2) : P (cacheDenied a1 a2) := by
  unfold cacheDenied
  have c0 := @raise_keeps P (hP.mono rfl); have c1 := @set_keeps _ P hP
  exact byKeep

theorem cacheTrim_keeps (hP : Closed 0x88000000000000000000000000000000000000000000000000000000000000000000000000000000000000000000000000000000001e00008c0400000040 P) {a1 a2} (h2 : P a2) : P (cacheTrim a1 a2) := by
  unfold cacheTrim
  have c0 := @forL_keeps _ P hP; have c1 := @cacheDenied_keeps P (hP.mono rfl)
  exact byKeep

theorem restate_keeps (hP : Closed 0x1000000000000000000000000000000000000000000000000000000000000000000000000000000000000000000000000000000000000000000000000000000000000000 P) {a1 a2} (h2 : P a2) : P (restate a1 a2) := by
  unfold restate
  have c0 := @set_keeps _ P hP
  exact byKeep

theorem restateAll_keeps (hP : Closed 0x1000000000000000000000000000000000000000000000000000000000000000000000000000000000000000000000000000000000000000000000000000000000000000 P) {a1} (h1 : P a1) : P (restateAll a1) := by
  unfold restateAll
  have c0 := @forL_keeps _ P hP; have c1 := @restate_keeps P (hP.mono rfl)
  exact byKeep

theorem hdmShow_keeps (hP : Closed 0x3e00000000000000000000000000000000000000000000000000000000000000000000000000000000000000000000000000000000000000000000000000000000000000000 P) {a1 a2 a3 a4} (h4 : P a4) : P (hdmShow a1 a2 a3 a4) := by
  unfold hdmShow
  have c0 := @set_keeps _ P hP
  exact byKeep

theorem execHdmCommit_prog_keeps (hP : Closed 0x10004 P) {a1 a2 a3 a4} (h4 : P a4) : P (execHdmCommit.prog a1 a2 a3 a4) := by
  unfold execHdmCommit.prog
  have c0 := @emit_keeps _ P hP
  exact byKeep

theorem execHdmCommit_keeps (hP : Closed 0x3f80000000000000000000000000000000000000000000000000000000000000000000000000000000000000000000000000000000000000000000000000000000000010004 P) {a1 a2 a3 a4} (h4 : P a4) : Ans P (execHdmCommit a1 a2 a3 a4) := by
  unfold execHdmCommit
  have c0 := @hdmShow_keeps P (hP.mono rfl); have c1 := @set_keeps _ P hP; have c2 := @setB_keeps _ P hP
  have c3 := @execHdmCommit_prog_keeps P (hP.mono rfl)
  exact byKeep

theorem missed_keeps (hP : Closed 0x88000000000000000000000000000000000000000000000000000000000000000000000000000000000000000000000000000000000000000001e00008c0400000040 P) {a1} (h1 : P a1) : P (missed a1) := by
  unfold missed
  have c0 := @flag_keeps P (hP.mono rfl); have c1 := @bump_keeps _ P hP; have c2 := @set_keeps _ P hP
  exact byKeep

theorem setVppb_keeps (hP : Closed 0x10000 P) {a1 a2 a3 a4} (h4 : P a4) : P (setVppb a1 a2 a3 a4) := by
  unfold setVppb
  exact byKeep

theorem slotEvent_keeps (hP : Closed 0x10004 P) {a1 a2 a3 a4} (h4 : P a4) : P (slotEvent a1 a2 a3 a4) := by
  unfold slotEvent
  have c0 := @setVppb_keeps P (hP.mono rfl); have c1 := @emit_keeps _ P hP
  exact byKeep

theorem stgWrite_keeps (hP : Closed 0x7eff0000000000000000000000000000000000000000000000000000000000000000000000000000000000000000000000000000000000000000000000000000000000000 P) {a1 a2} (h2 : P a2) : P (stgWrite a1 a2) := by
  unfold stgWrite
  have c0 := @putWord_keeps _ P hP; have c1 := @set_keeps _ P hP
  exact byKeep

theorem setMig_keeps (hP : Closed 0x10000 P) {a1 a2 a3} (h3 : P a3) : P (setMig a1 a2 a3) := by
  unfold setMig
  exact byKeep

theorem modMig_keeps (hP : Closed 0x10000 P) {a1 a2 a3} (h3 : P a3) : P (modMig a1 a2 a3) := by
  unfold modMig
  have c0 := @setMig_keeps P (hP.mono rfl)
  exact byKeep

theorem setPhase_keeps (hP : Closed 0x10000000000000000000000000000000000000000000000000000000000000000000000000000000000000000000000000000000000000000000000000001e00008c0400000040 P) {a1 a2 a3} (h3 : P a3) : P (setPhase a1 a2 a3) := by
  unfold setPhase
  have c0 := @setState_keeps P (hP.mono rfl); have c1 := @set_keeps _ P hP
  exact byKeep

theorem refuse_keeps (hP : Closed 0x16000000000000000000000000000000000000000000000000000000000000000000000000000000000000000000000000000000000000000001e00008c0400000040 P) {a1 a2 a3} (h3 : P a3) : P (refuse a1 a2 a3) := by
  unfold refuse
  have c0 := @flag_keeps P (hP.mono rfl); have c1 := @set_keeps _ P hP
  exact byKeep

theorem pressButton_keeps (hP : Closed 0x10004 P) {a1 a2} (h2 : P a2) : P (pressButton a1 a2) := by
  unfold pressButton
  have c0 := @slotEvent_keeps P (hP.mono rfl); have c1 := @emit_keeps _ P hP
  exact byKeep

theorem carvedKeys_keeps (hP : Closed 0x100000 P) {a1 a2} (h2 : P a2) : P (carvedKeys a1 a2).2 := by
  unfold carvedKeys
  have c0 := @newKey_keeps P (hP.mono rfl)
  exact byKeep

theorem askRecord_keeps (hP : Closed 0x17000000000000000000000000000000000000000000000000000000000000000000000000000000000000000000000000000000000000000001e00008c0400510040 P) {a1} (h1 : P a1) : P (askRecord a1) := by
  unfold askRecord
  have c0 := @carvedKeys_keeps P (hP.mono rfl); have c1 := @request_keeps P (hP.mono rfl)
  have c2 := @refuse_keeps P (hP.mono rfl); have c3 := @set_keeps _ P hP
  exact byKeep

theorem bindSubmit_keeps (hP : Closed 0x17000000000000000000000000000000000000000000000000000000000000000000000000000000000000000000000000000000000000000001e00008c0400510044 P) {a1 a2} (h2 : P a2) : P (bindSubmit a1 a2) := by
  unfold bindSubmit
  have c0 := @refuse_keeps P (hP.mono rfl); have c1 := @forL_keeps _ P hP; have c2 := @pressButton_keeps P (hP.mono rfl)
  have c3 := @set_keeps _ P hP; have c4 := @askRecord_keeps P (hP.mono rfl)
  exact byKeep

theorem clearStg_keeps (hP : Closed 0x700000000000000000000000000000000000000000000000000000000000000000000000000000000000000000000000000000000000000000000000000000000000000000000000 P) {a1} (h1 : P a1) : P (clearStg a1) := by
  unfold clearStg
  refine range_keeps hP (lo := BIND.STG.VALUE.base) (hi := BIND.STG.VALUE.base + 64 * 128) (by decide +kernel) (fun k v hk => ?_) h1
  simp only [Bool.not_eq_true', Bool.and_eq_false_iff, decide_eq_false_iff_not]
  omega

theorem bindCtl_keeps (hP : Closed 0x24000000000000000000000000000000000000000000000000000000000000000000000000000000000000000000000000000000000000000000000000000000000 P) {a1 a2} (h2 : P a2) : P (bindCtl a1 a2) := by
  unfold bindCtl
  have c0 := @set_keeps _ P hP
  exact byKeep

theorem execBindCommit_keeps (hP : Closed 0x7000000000017240000000000000000000000000000000000000000000000000000000000000000000000000000000000000000000000000000000000000001e00008c0400510044 P) {a1 a2} (h2 : P a2) : Ans P (execBindCommit a1 a2) := by
  unfold execBindCommit
  have c0 := @atReg_keeps P (hP.mono rfl); have c1 := @bindCtl_keeps P (hP.mono rfl); have c2 := @bindSubmit_keeps P (hP.mono rfl)
  have c3 := @clearStg_keeps P (hP.mono rfl); have c4 := @set_keeps _ P hP
  exact byKeep

theorem execBindDiscard_keeps (hP : Closed 0x7000000000017240000000000000000000000000000000000000000000000000000000000000000000000000000000000000000000000000000000000000001e00008c0400510044 P) {a1 a2} (h2 : P a2) : Ans P (execBindDiscard a1 a2) := by
  unfold execBindDiscard
  have c0 := @atReg_keeps P (hP.mono rfl); have c1 := @bindCtl_keeps P (hP.mono rfl); have c2 := @bindSubmit_keeps P (hP.mono rfl)
  have c3 := @clearStg_keeps P (hP.mono rfl); have c4 := @set_keeps _ P hP
  exact byKeep

theorem handshakeDone_keeps (hP : Closed 0x17000000000000000000000000000000000000000000000000000000000000000000000000000000000000000000000000000000000000000001e00008c0400510040 P) {a1 a2} (h2 : P a2) : P (handshakeDone a1 a2) := by
  unfold handshakeDone
  have c0 := @askRecord_keeps P (hP.mono rfl)
  exact byKeep

theorem execBindVppb_keeps (hP : Closed 0x7000000000017040000000000000000000000000000000000000000000a20000010000000000000000000000000000000000000000000000000000000000001e00008c0402510044 P) {a1 a2 a3 a4 a5 a6} (h6 : P a6) : Ans P (execBindVppb a1 a2 a3 a4 a5 a6) := by
  unfold execBindVppb
  have c0 := @atReg_keeps P (hP.mono rfl); have c1 := @set_keeps _ P hP; have c2 := @fmDone_keeps P (hP.mono rfl)
  have c3 := @bindSubmit_keeps P (hP.mono rfl)
  exact byKeep

theorem execUnbindVppb_keeps (hP : Closed 0x7000000000017040000000000000000000000000000000000000000000a20000010000000000000000000000000000000000000000000000000000000000001e00008c0402510044 P) {a1 a2 a3 a4} (h4 : P a4) : Ans P (execUnbindVppb a1 a2 a3 a4) := by
  unfold execUnbindVppb
  have c0 := @atReg_keeps P (hP.mono rfl); have c1 := @fmDone_keeps P (hP.mono rfl); have c2 := @refuse_keeps P (hP.mono rfl)
  have c3 := @set_keeps _ P hP; have c4 := @bindSubmit_keeps P (hP.mono rfl)
  exact byKeep

theorem ldRecord_keeps (hP : Closed 0x10080 P) {a1 a2 a3} (h3 : P a3) : P (ldRecord a1 a2 a3) := by
  unfold ldRecord
  have c0 := @reportEach_keeps P (hP.mono rfl)
  exact byKeep

theorem failLd_keeps (hP : Closed 0x1000000000000000000000000000000000000000000000000000000000000000000000000000000000000000000000000000000000000000000000000000000000010000 P) {a1 a2} (h2 : P a2) : P (failLd a1 a2) := by
  unfold failLd
  have c0 := @set_keeps _ P hP
  exact byKeep

theorem placementCheck_keeps (hP : Closed 0x1000000000000000000000000000000000000000000000000000000000000000000000000000000000000000000000000000000000000000000000000000000000010080 P) {a1 a2} (h2 : P a2) : P (placementCheck a1 a2) := by
  unfold placementCheck
  have c0 := @forL_keeps _ P hP; have c1 := @ldRecord_keeps P (hP.mono rfl); have c2 := @failLd_keeps P (hP.mono rfl)
  exact byKeep

theorem execSetLdAllocations_keeps (hP : Closed 0xa20000010000000000000000000000000000000000000000000000000000000000001e00008c0402010044 P) {a1 a2 a3} (h3 : P a3) : Ans P (execSetLdAllocations a1 a2 a3) := by
  unfold execSetLdAllocations
  have c0 := @fmDone_keeps P (hP.mono rfl); have c1 := @emit_keeps _ P hP
  exact byKeep

theorem setHome_keeps (hP : Closed 0x20000 P) {a1 a2 a3} (h3 : P a3) : P (setHome a1 a2 a3) := by
  unfold setHome
  exact byKeep

theorem modHome_keeps (hP : Closed 0x20000 P) {a1 a2 a3} (h3 : P a3) : P (modHome a1 a2 a3) := by
  unfold modHome
  have c0 := @setHome_keeps P (hP.mono rfl)
  exact byKeep

theorem homeFlag_keeps (hP : Closed 0x1e00008c0400000040 P) {a1 a2 a3} (h1 : ∀ s v i j, P s → P (State.set s a1 v i j)) (h3 : P a3) : P (homeFlag a1 a2 a3) := by
  unfold homeFlag
  have c0 := @flag_keeps P (hP.mono rfl)
  exact byKeep

theorem homeBump_keeps (hP : Closed 0x0 P) {a1 a2 a3 a4} (h1 : ∀ s v i j, P s → P (State.set s a1 v i j)) (h4 : P a4) : P (homeBump a1 a2 a3 a4) := by
  unfold homeBump
  have ebump : ∀ s v i j, P s → P (State.bump s a1 v i j) := fun _ _ _ _ h => h1 _ _ _ _ h
  exact byKeep

theorem homeSync_keeps (hP : Closed 0xc000000000000000000000000000000000000000000000000000000000000000000000000000000000000000000000000000000000000000000000000000000000000000000000000 P) {a1 a2} (h2 : P a2) : P (homeSync a1 a2) := by
  unfold homeSync
  have c0 := @set_keeps _ P hP
  exact byKeep

theorem setEntry_keeps (hP : Closed 0xc000000000000000000000000000000000000000000000000000000000000000000000000000000000000000000000000000000000000000000000000000000000000000000000000000000000000000000000000000000000000000000000000000000000000000000000220000 P) {a1 a2 a3 a4} (h4 : P a4) : P (setEntry a1 a2 a3 a4) := by
  unfold setEntry
  have c0 := @injected_keeps P (hP.mono rfl); have c1 := @modHome_keeps P (hP.mono rfl)
  exact byKeep

theorem freeEntry_keeps (hP : Closed 0x20000 P) {a1 a2 a3} (h3 : P a3) : P (freeEntry a1 a2 a3) := by
  unfold freeEntry
  have c0 := @modHome_keeps P (hP.mono rfl)
  exact byKeep

theorem touch_keeps (hP : Closed 0xc000000000000000000000000000000000000000000000000000000000000000000000000000000000000000000000000000000000000000000000000000000000000000000000000000000000000000000000000000000000000000000000000000000000000000000000220000 P) {a1 a2 a3} (h3 : P a3) : P (touch a1 a2 a3) := by
  unfold touch
  have c0 := @setEntry_keeps P (hP.mono rfl)
  exact byKeep

theorem settleEntry_keeps (hP : Closed 0xc000000000000000000000000000000000000000000000000000000000000000000000000000000000000000000000000000000000000000000000000000000000000000000000000000000000000000000000000000000000000000000000000000000000000000000000220000 P) {a1 a2 a3 a4 a5} (h5 : P a5) : P (settleEntry a1 a2 a3 a4 a5) := by
  unfold settleEntry
  have c0 := @freeEntry_keeps P (hP.mono rfl); have c1 := @setEntry_keeps P (hP.mono rfl)
  exact byKeep

theorem chooseWay_keeps (hP : Closed 0x20000 P) {a1 a2 a3} (h3 : P a3) : P (chooseWay a1 a2 a3).2 := by
  unfold chooseWay
  have c0 := @modHome_keeps P (hP.mono rfl)
  exact byKeep

theorem park_keeps (hP : Closed 0x1800000000000000000000000000000000000000000000000000000000000000000000000000000000000000000000000000000000000000000000000000000000000000000000000000000000000004000 P) {a1 a2} (h2 : P a2) : P (park a1 a2).2 := by
  unfold park
  have c0 := @bufSync_keeps P (hP.mono rfl)
  exact byKeep

theorem unpark_keeps (hP : Closed 0x1800000000000000000000000000000000000000000000000000000000000000000000000000000000000000000000000000000000000000000000000000000000000000000000000000000000008004004 P) {a1 a2} (h2 : P a2) : P (unpark a1 a2) := by
  unfold unpark
  have c0 := @bufSync_keeps P (hP.mono rfl); have c1 := @returnCredit_keeps P (hP.mono rfl)
  exact byKeep

theorem answerHome_keeps (hP : Closed 0xc0000000000000000000000000000000000000000000000000000000018000000000000000000000000000000000000000000000000000000000000000000000000000a20000010000000000000000000000000000000000000000000000000000000000001e00008c04022040c0 P) {a1 a2 a3 a4} (h4 : P a4) : P (answerHome a1 a2 a3 a4) := by
  unfold answerHome
  have c0 := @enqueue_keeps P (hP.mono rfl)
  exact byKeep

theorem releaseData_keeps (hP : Closed 0xc0000000000000000000000000000000000000000000000000000000018000000000000000000000000000000000000000000000000000000000000000000000000000a20000010000000000000000000000000000000000000000000000000000000000001e00008c04022040c0 P) {a1 a2 a3 a4} (h4 : P a4) : P (releaseData a1 a2 a3 a4) := by
  unfold releaseData
  have c0 := @enqueue_keeps P (hP.mono rfl)
  exact byKeep

theorem sendSnoop_keeps (hP : Closed 0xc0000000000000000000000000000000000000000000000000000000018000000000800000000000000000000000000000000000000000000000000000000000000000a20000010000000000000000000000000000000000000000000000000000000000001e00008c04022040c0 P) {a1 a2 a3 a4 a5} (h5 : P a5) : P (sendSnoop a1 a2 a3 a4 a5) := by
  unfold sendSnoop
  have c0 := @mark_keeps P (hP.mono rfl); have c1 := @homeBump_keeps P (hP.mono rfl); have c2 := @perf_keeps P (hP.mono rfl)
  have c3 := @enqueue_keeps P (hP.mono rfl); have c4 := @perfView_keeps P (hP.mono rfl); have c5 := @set_keeps _ P hP
  exact byKeep

theorem openHome_keeps (hP : Closed 0x4000 P) {a1 a2 a3 a4} (h4 : P a4) : P (openHome a1 a2 a3 a4).2 := by
  unfold openHome
  have c0 := @openReq_keeps P (hP.mono rfl)
  exact byKeep

theorem poolRead_keeps (hP : Closed 0xc0000000000000000000000000000000000000000000000000000000018000000000000000000000000000000000000000000000000000000000000000000000000000a20000010000000000000000000000000000000000000000000000000000000000001e00008c04022040c0 P) {a1 a2 a3} (h3 : P a3) : P (poolRead a1 a2 a3) := by
  unfold poolRead
  have c0 := @openHome_keeps P (hP.mono rfl); have c1 := @enqueue_keeps P (hP.mono rfl)
  exact byKeep

theorem poolWrite_keeps (hP : Closed 0xc0000000000000000000000000000000000000000000000000000000018000000000000000000000000000000000000000000000000000000000000000000000000000a20000010000000000000000000000000000000000000000000000000000000000001e00008c04022040c0 P) {a1 a2 a3 a4} (h4 : P a4) : P (poolWrite a1 a2 a3 a4).2 := by
  unfold poolWrite
  have c0 := @openHome_keeps P (hP.mono rfl); have c1 := @enqueue_keeps P (hP.mono rfl)
  exact byKeep

end Sys2Proof.Machine
end

