-- ==== Sys2Proof/Laws/KeepHome.lean ====
section
/-! SUPPORT. What the operations of the homes, links, ingress, egress and time may write: each lemma names, as a mask (see Closed), the parts of the state that its operation can change. -/

namespace Sys2Proof.Machine

set_option linter.all false
set_option Elab.async false

variable {P : State → Prop}

theorem putTx_keeps (hP : Closed 0x20000 P) {a1 a2 a3} (h3 : P a3) : P (putTx a1 a2 a3) := by
  unfold putTx
  have c0 := @modHome_keeps P (hP.mono rfl)
  exact byKeep

theorem dropTx_keeps (hP : Closed 0x20000 P) {a1 a2 a3} (h3 : P a3) : P (dropTx a1 a2 a3) := by
  unfold dropTx
  have c0 := @modHome_keeps P (hP.mono rfl)
  exact byKeep

theorem addTodo_keeps (hP : Closed 0x20000 P) {a1 a2 a3} (h3 : P a3) : P (addTodo a1 a2 a3) := by
  unfold addTodo
  have c0 := @modHome_keeps P (hP.mono rfl)
  exact byKeep

theorem payOf_keeps (hP : Closed 0x1800000000000000000000000000000000000000000000000000000000000000000000000000000000000000000000000000000000000000000000000000000000000000000000000000000000000004000 P) {a1 a2} (h2 : P a2) : P (payOf a1 a2).2 := by
  unfold payOf
  have c0 := @park_keeps P (hP.mono rfl)
  exact byKeep

theorem showTx_keeps (hP : Closed 0xc000000000000000000000000000000000000000000000000000000000000000000000000000000000000000000000000000000000000000000000000000000000000000000000000000000000000000000000000000000000000000000000000000000000000000000000220000 P) {a1 a2 a3 a4} (h4 : P a4) : P (showTx a1 a2 a3 a4) := by
  unfold showTx
  have c0 := @setEntry_keeps P (hP.mono rfl)
  exact byKeep

theorem ackWrite_keeps (hP : Closed 0x60000 P) {a1 a2 a3} (h3 : P a3) : P (ackWrite a1 a2 a3) := by
  unfold ackWrite
  have c0 := @modHome_keeps P (hP.mono rfl)
  exact byKeep

theorem notePoison_keeps (hP : Closed 0x8000002000000000000000000000000000000000000000000000000000000000000000000000000000000000000000000000000000000000000000000000000000000001e00008c0400040040 P) {a1 a2 a3 a4} (h4 : P a4) : P (notePoison a1 a2 a3 a4) := by
  unfold notePoison
  have c0 := @homeFlag_keeps P (hP.mono rfl); have c1 := @homeBump_keeps P (hP.mono rfl); have c2 := @set_keeps _ P hP
  exact byKeep

theorem lostLine_keeps (hP : Closed 0x18000000008000002000000000000000000000000000000000000000000000000000000000000000000000000000000000000000000000000000000000000000000000000000000001e00008c0400044040 P) {a1 a2 a3 a4} (h4 : P a4) : P (lostLine a1 a2 a3 a4).2 := by
  unfold lostLine
  have c0 := @park_keeps P (hP.mono rfl); have c1 := @notePoison_keeps P (hP.mono rfl)
  exact byKeep

theorem finishTx_keeps (hP : Closed 0xc0000000000000000000000000000000000000000000000000000000018000000000000000000000000000000000000000000000000000000000000000000000000000a20000010000000000000000000000000000000000000000000000000000000000001e00008c040a2240c4 P) {a1 a2 a3} (h3 : P a3) : P (finishTx a1 a2 a3) := by
  unfold finishTx
  have c0 := @answerHome_keeps P (hP.mono rfl); have c1 := @settleEntry_keeps P (hP.mono rfl)
  have c2 := @unpark_keeps P (hP.mono rfl); have c3 := @dropTx_keeps P (hP.mono rfl); have c4 := @setHome_keeps P (hP.mono rfl)
  exact byKeep

theorem tryFinish_keeps (hP : Closed 0xc0000000000000000000000000000000000000000000000000000000018000000000000000000000000000000000000000000000000000000000000000000000000000a20000010000000000000000000000000000000000000000000000000000000000001e00008c040a2240c4 P) {a1 a2 a3} (h3 : P a3) : P (tryFinish a1 a2 a3) := by
  unfold tryFinish
  have c0 := @finishTx_keeps P (hP.mono rfl); have c1 := @showTx_keeps P (hP.mono rfl); have c2 := @putTx_keeps P (hP.mono rfl)
  exact byKeep

theorem payToPool_keeps (hP : Closed 0xc0000000000000000000000000000000000000000000000000000000018000000000000000000000000000000000000000000000000000000000000000000000000000a20000010000000000000000000000000000000000000000000000000000000000001e00008c040a2040c4 P) {a1 a2 a3} (h3 : P a3) : P (payToPool a1 a2 a3).2 := by
  unfold payToPool
  have c0 := @poolWrite_keeps P (hP.mono rfl); have c1 := @unpark_keeps P (hP.mono rfl)
  exact byKeep

theorem progress_keeps (hP : Closed 0xc0000000000000000000000000000000000000000000000000000000018000000001000000000000000000000000000000000000000000000000000000000000000000a20000010000000000000000000000000000000000000000000000000000000000001e00008c040a2240c4 P) {a1 a2 a3} (h3 : P a3) : P (progress a1 a2 a3) := by
  unfold progress
  have c0 := @showTx_keeps P (hP.mono rfl); have c1 := @tryFinish_keeps P (hP.mono rfl); have c2 := @payToPool_keeps P (hP.mono rfl)
  have c3 := @answerHome_keeps P (hP.mono rfl); have c4 := @putTx_keeps P (hP.mono rfl); have c5 := @perf_keeps P (hP.mono rfl)
  have c6 := @mark_keeps P (hP.mono rfl); have c7 := @homeBump_keeps P (hP.mono rfl); have c8 := @releaseData_keeps P (hP.mono rfl)
  have c9 := @poolRead_keeps P (hP.mono rfl); have c10 := @finishTx_keeps P (hP.mono rfl)
  have c11 := @payOf_keeps P (hP.mono rfl); have c12 := @poolWrite_keeps P (hP.mono rfl); have c13 := @unpark_keeps P (hP.mono rfl)
  have c14 := @addTodo_keeps P (hP.mono rfl); have c15 := @freeEntry_keeps P (hP.mono rfl)
  have c16 := @set_keeps _ P hP
  exact byKeep

theorem snoopHosts_keeps (hP : Closed 0xc0000000000000000000000000000000000000000000000000000000018000000008800002000000000000000000000000000000000000000000000000000000000000a20000010000000000000000000000000000000000000000000000000000000000001e00008c04022640c0 P) {a1 a2 a3 a4 a5} (h5 : P a5) : P (snoopHosts a1 a2 a3 a4 a5) := by
  unfold snoopHosts
  have c0 := @forL_keeps _ P hP; have c1 := @sendSnoop_keeps P (hP.mono rfl); have c2 := @lostLine_keeps P (hP.mono rfl)
  have c3 := @putTx_keeps P (hP.mono rfl)
  exact byKeep

theorem begin__keeps (hP : Closed 0xc0000000000000000000000000000000000000000000000000000000018000000009800002000000000000000000000000000000000000000000000000000000000000a20000010000000000000000000000000000000000000000000000000000000000001e00008c040a2640c4 P) {a1 a2 a3} (h3 : P a3) : P (begin_ a1 a2 a3) := by
  unfold begin_
  have c0 := @poolRead_keeps P (hP.mono rfl); have c1 := @putTx_keeps P (hP.mono rfl); have c2 := @snoopHosts_keeps P (hP.mono rfl)
  have c3 := @progress_keeps P (hP.mono rfl)
  exact byKeep

theorem unthrottle_keeps (hP : Closed 0x20000000 P) {a1 a2} (h2 : P a2) : P (unthrottle a1 a2) := by
  unfold unthrottle
  exact byKeep

theorem carryPoint_keeps (hP : Closed 0x100000000000000000000000000000000000000000000000000000000000000000000000000000000000000000000000000000000000003000000000000000041e00008c04200203c0 P) {a1 a2} (h2 : P a2) : P (carryPoint a1 a2) := by
  unfold carryPoint
  have c0 := @unthrottle_keeps P (hP.mono rfl); have c1 := @modHome_keeps P (hP.mono rfl)
  have c2 := @reachPoint_keeps P (hP.mono rfl); have c3 := @setB_keeps _ P hP; have c4 := @set_keeps _ P hP
  exact byKeep

theorem carryEnter_keeps (hP : Closed 0x4100000000000000000000000000000000000000000000000000000000000000000000000000000000000000000000000000000000000003000000000000000041e00008c04200203c0 P) {a1 a2 a3} (h3 : P a3) : P (carryEnter a1 a2 a3) := by
  unfold carryEnter
  have c0 := @setHome_keeps P (hP.mono rfl); have c1 := @carryPoint_keeps P (hP.mono rfl)
  have c2 := @homeFlag_keeps P (hP.mono rfl); have c3 := @set_keeps _ P hP
  exact byKeep

theorem takeWay_keeps (hP : Closed 0xc0000000000000000000000000000000000000000000000000000000018000000009800002000000000000000000000000000000000000000000000000000000000000a20000010000000000000000000000000000000000000000000000000000000000001e00008c040a2640c4 P) {a1 a2 a3 a4} (h4 : P a4) : P (takeWay a1 a2 a3 a4) := by
  unfold takeWay
  have c0 := @perf_keeps P (hP.mono rfl); have c1 := @setEntry_keeps P (hP.mono rfl); have c2 := @begin__keeps P (hP.mono rfl)
  exact byKeep

theorem evict_keeps (hP : Closed 0xc0000000000000000000000000000000000000000000000000000000018000000009c00002000000000000000000000000000000000000000000000000000000000000a20000010000000000000000000000000000000000000000000000000000000000001e00008c040a2640c4 P) {a1 a2 a3 a4 a5} (h5 : P a5) : P (evict a1 a2 a3 a4 a5) := by
  unfold evict
  have c0 := @begin__keeps P (hP.mono rfl); have c1 := @setEntry_keeps P (hP.mono rfl); have c2 := @perf_keeps P (hP.mono rfl)
  have c3 := @homeBump_keeps P (hP.mono rfl); have c4 := @set_keeps _ P hP
  exact byKeep

theorem allocate_keeps (hP : Closed 0xc0000000000000000000000000000000000000000000000000000000018000000009c00006100000000000000000000000000000000000000000000000000000000000a20000010000000000000000000000000000000000000000003000000000000000041e00008c042a2643c4 P) {a1 a2 a3} (h3 : P a3) : P (allocate a1 a2 a3) := by
  unfold allocate
  have c0 := @carryEnter_keeps P (hP.mono rfl); have c1 := @putTx_keeps P (hP.mono rfl); have c2 := @chooseWay_keeps P (hP.mono rfl)
  have c3 := @takeWay_keeps P (hP.mono rfl); have c4 := @evict_keeps P (hP.mono rfl)
  exact byKeep

theorem boardOut_keeps (hP : Closed 0xc0000000000000000000000000000000000000000000000000000000018000000000000000000000000000000000000000000000000000000000000000000000000000a20000010000000000000000000000000000000000000000000000000000000000001e00008c040a2240c4 P) {a1 a2 a3} (h3 : P a3) : P (boardOut a1 a2 a3) := by
  unfold boardOut
  have c0 := @modHome_keeps P (hP.mono rfl); have c1 := @park_keeps P (hP.mono rfl); have c2 := @poolWrite_keeps P (hP.mono rfl)
  have c3 := @putTx_keeps P (hP.mono rfl); have c4 := @unpark_keeps P (hP.mono rfl)
  exact byKeep

theorem sweepEntry_keeps (hP : Closed 0xc0000000000000000000000000000000000000000000000000000000018000000008000002000000000000000000000000000000000000000000000000000000000000a20000010000000000000000000000000000000000000000000000000000000000001e00008c040a2640c4 P) {a1 a2 a3 a4} (h4 : P a4) : P (sweepEntry a1 a2 a3 a4).2 := by
  unfold sweepEntry
  have c0 := @freeEntry_keeps P (hP.mono rfl); have c1 := @setEntry_keeps P (hP.mono rfl)
  have c2 := @lostLine_keeps P (hP.mono rfl); have c3 := @poolWrite_keeps P (hP.mono rfl)
  have c4 := @showTx_keeps P (hP.mono rfl); have c5 := @putTx_keeps P (hP.mono rfl); have c6 := @unpark_keeps P (hP.mono rfl)
  exact byKeep

theorem tallyHit_keeps (hP : Closed 0x6000001000000000000000000000000000000000000000000000000000000000000a20000010000000000000000000000000000000000000000000000000000000000001e00008c0402020040 P) {a1 a2 a3 a4} (h4 : P a4) : P (tallyHit a1 a2 a3 a4) := by
  unfold tallyHit
  have c0 := @homeFlag_keeps P (hP.mono rfl); have c1 := @homeBump_keeps P (hP.mono rfl); have c2 := @modHome_keeps P (hP.mono rfl)
  have c3 := @freeEntry_keeps P (hP.mono rfl); have c4 := @perf_keeps P (hP.mono rfl); have c5 := @set_keeps _ P hP
  exact byKeep

theorem tallyErr_keeps (hP : Closed 0x6000001000000000000000000000000000000000000000000000000000000000000a20000010000000000000000000000000000000000000000000000000000000000001e00008c04020200c0 P) {a1 a2 a3} (h3 : P a3) : P (tallyErr a1 a2 a3) := by
  unfold tallyErr
  have c0 := @report_keeps P (hP.mono rfl); have c1 := @tallyHit_keeps P (hP.mono rfl)
  exact byKeep

theorem foundErrs_keeps (hP : Closed 0x6000001000000000000000000000000000000000000000000000000000000000000a20000010000000000000000000000000000000000000000000000000000000000001e00008c04020200c0 P) {a1 a2 a3} (h3 : P a3) : P (foundErrs a1 a2 a3) := by
  unfold foundErrs
  have c0 := @forL_keeps _ P hP; have c1 := @tallyErr_keeps P (hP.mono rfl)
  exact byKeep

theorem orderReq_keeps (hP : Closed 0xc000000000000000000000000000000000000000000000000000000001800000000fc00007100000000000000000000000000000000000000000000000000000000000a20000010000000000000000000000000000000000000000003000000000000000041e00008c042a2643c4 P) {a1 a2 a3 a4} (h4 : P a4) : P (orderReq a1 a2 a3 a4) := by
  unfold orderReq
  have c0 := @foundErrs_keeps P (hP.mono rfl); have c1 := @modHome_keeps P (hP.mono rfl); have c2 := @boardOut_keeps P (hP.mono rfl)
  have c3 := @sweepEntry_keeps P (hP.mono rfl); have c4 := @perf_keeps P (hP.mono rfl); have c5 := @touch_keeps P (hP.mono rfl)
  have c6 := @freeEntry_keeps P (hP.mono rfl); have c7 := @settleEntry_keeps P (hP.mono rfl)
  have c8 := @answerHome_keeps P (hP.mono rfl); have c9 := @payOf_keeps P (hP.mono rfl); have c10 := @ackWrite_keeps P (hP.mono rfl)
  have c11 := @poolWrite_keeps P (hP.mono rfl); have c12 := @unpark_keeps P (hP.mono rfl)
  have c13 := @progress_keeps P (hP.mono rfl); have c14 := @putTx_keeps P (hP.mono rfl); have c15 := @begin__keeps P (hP.mono rfl)
  have c16 := @allocate_keeps P (hP.mono rfl)
  exact byKeep

theorem caseA_keeps (hP : Closed 0xc0000000000000000000000000000000000000000000000000000000018000000001000000000000000000000000000000000000000000000000000000000000000000a20000010000000000000000000000000000000000000000000000000000000000001e00008c040a2640c4 P) {a1 a2 a3 a4 a5} (h5 : P a5) : P (caseA a1 a2 a3 a4 a5) := by
  unfold caseA
  have c0 := @payToPool_keeps P (hP.mono rfl); have c1 := @payOf_keeps P (hP.mono rfl); have c2 := @ackWrite_keeps P (hP.mono rfl)
  have c3 := @progress_keeps P (hP.mono rfl); have c4 := @putTx_keeps P (hP.mono rfl); have c5 := @modHome_keeps P (hP.mono rfl)
  exact byKeep

theorem acceptReq_keeps (hP : Closed 0xc000000000000000000000000000000000000000000000000000000001800000000fc00007100000000000000000000000000000000000000000000000000000000000a20000010000000000000000000000000000000000000000003000000000000000041e00008c042a2643c4 P) {a1 a2 a3 a4} (h4 : P a4) : P (acceptReq a1 a2 a3 a4) := by
  unfold acceptReq
  have c0 := @modHome_keeps P (hP.mono rfl); have c1 := @caseA_keeps P (hP.mono rfl); have c2 := @setHome_keeps P (hP.mono rfl)
  have c3 := @orderReq_keeps P (hP.mono rfl)
  exact byKeep

theorem applyRsp_keeps (hP : Closed 0xc0000000000000000000000000000000000000000000000000000000018000000011200008000000000000000000000000000000000000000000000000000000000000a20000010000000000000000000000000000000000000000000000000000000000001e00008c040a2640c4 P) {a1 a2 a3} (h3 : P a3) : P (applyRsp a1 a2 a3) := by
  unfold applyRsp
  have c0 := @homeFlag_keeps P (hP.mono rfl); have c1 := @homeBump_keeps P (hP.mono rfl); have c2 := @modHome_keeps P (hP.mono rfl)
  have c3 := @perf_keeps P (hP.mono rfl); have c4 := @progress_keeps P (hP.mono rfl); have c5 := @putTx_keeps P (hP.mono rfl)
  have c6 := @set_keeps _ P hP
  exact byKeep

theorem drain_keeps (hP : Closed 0xc000000000000000000000000000000000000000000000000000000001800000001fe0000f100000000000000000000000000000000000000000000000000000000000a20000010000000000000000000000000000000000000000003000000000000000041e00008c042a2643c4 P) {a1 a2 a3} (h3 : P a3) : P (drain a1 a2 a3) := by
  have c0 := @modHome_keeps P (hP.mono rfl); have c1 := @acceptReq_keeps P (hP.mono rfl); have c2 := @applyRsp_keeps P (hP.mono rfl)
  have c3 := @takeWay_keeps P (hP.mono rfl); have c4 := @set_keeps _ P hP; have c5 := @setB_keeps _ P hP
  have c6 := @bump_keeps _ P hP
  induction a2 generalizing a3 with
  | zero => unfold drain; exact h3
  | succ n ih => unfold drain; exact byKeep

theorem homeAct_keeps (hP : Closed 0xc000000000000000000000000000000000000000000000000000000001800000001fe0000f1c0000000000000000000000000000000000000000000000000000000000a20000010000000000000000000000000000000000000000003000000000000000041e00008c042a2643c4 P) {a1 a2 a3} (h2 : ∀ t, P t → P (a2 t)) (h3 : P a3) : P (homeAct a1 a2 a3) := by
  unfold homeAct
  have c0 := @carryPoint_keeps P (hP.mono rfl); have c1 := @homeSync_keeps P (hP.mono rfl)
  have c2 := @drain_keeps P (hP.mono rfl)
  exact byKeep

theorem homeTake_keeps (hP : Closed 0xc000000000000000000000000000000000000000000000000000000001800000001fe0000f1c0000000000000000000000000000000000000000000000000000000000a20000010000000000000000000000000000000000000000003000000000000000041e00008c042a2643c4 P) {a1 a2 a3 a4} (h4 : P a4) : P (homeTake a1 a2 a3 a4) := by
  unfold homeTake
  have c0 := @homeAct_keeps P (hP.mono rfl); have c1 := @acceptReq_keeps P (hP.mono rfl)
  exact byKeep

theorem applyPd_keeps (hP : Closed 0xc0000000000000000000000000000000000000000000000000000000018000000001000000000000000000000000000000000000000000000000000000000000000000a20000010000000000000000000000000000000000000000000000000000000000001e00008c040a2240c4 P) {a1 a2 a3} (h3 : P a3) : P (applyPd a1 a2 a3) := by
  unfold applyPd
  have c0 := @payOf_keeps P (hP.mono rfl); have c1 := @unpark_keeps P (hP.mono rfl); have c2 := @progress_keeps P (hP.mono rfl)
  have c3 := @putTx_keeps P (hP.mono rfl)
  exact byKeep

theorem applyPc_keeps (hP : Closed 0xc0000000000000000000000000000000000000000000000000000000018000000001000000000000000000000000000000000000000000000000000000000000000000a20000010000000000000000000000000000000000000000000000000000000000001e00008c040a2240c4 P) {a1 a2 a3} (h3 : P a3) : P (applyPc a1 a2 a3) := by
  unfold applyPc
  have c0 := @progress_keeps P (hP.mono rfl); have c1 := @putTx_keeps P (hP.mono rfl)
  exact byKeep

theorem applyConf_keeps (hP : Closed 0xc0000000000000000000000000000000000000000000000000000000018000000000000000000000000000000000000000000000000000000000000000000000000000a20000010000000000000000000000000000000000000000000000000000000000001e00008c04022040c0 P) {a1 a2 a3} (h3 : P a3) : P (applyConf a1 a2 a3) := by
  unfold applyConf
  have c0 := @answerHome_keeps P (hP.mono rfl)
  exact byKeep

theorem atomDone_keeps (hP : Closed 0xc0000000000000000000000000000000000000000000000000000000018000000000000000000000000000000000000000000000000000000000000000000000000000a20000010000000000000000000000000000000000000000000000000000000000001e00008c040a2240c4 P) {a1 a2 a3} (h3 : P a3) : P (atomDone a1 a2 a3) := by
  unfold atomDone
  have c0 := @finishTx_keeps P (hP.mono rfl); have c1 := @enqueue_keeps P (hP.mono rfl); have c2 := @perf_keeps P (hP.mono rfl)
  have c3 := @modHome_keeps P (hP.mono rfl); have c4 := @boardOut_keeps P (hP.mono rfl)
  exact byKeep

theorem departPhase1_keeps (hP : Closed 0xc000000000000000000000000000000000000000000000000000000001800000001fe0000f1c0000000000000000000000000000000000000000000000000000000000a20000010000000000000000000000000000000000000000003000000000000000041e00008c042a2643c4 P) {a1 a2 a3 a4} (h4 : P a4) : P (departPhase1 a1 a2 a3 a4) := by
  unfold departPhase1
  have c0 := @modHome_keeps P (hP.mono rfl); have c1 := @payToPool_keeps P (hP.mono rfl); have c2 := @lostLine_keeps P (hP.mono rfl)
  have c3 := @progress_keeps P (hP.mono rfl); have c4 := @putTx_keeps P (hP.mono rfl); have c5 := @homeAct_keeps P (hP.mono rfl)
  have c6 := @forL_keeps _ P hP
  exact byKeep

theorem departPhase2_keeps (hP : Closed 0xc000000000000000000000000000000000000000000000000000000001800000001fe0000f1c0000000000000000000000000000000000000000000000000000000000a20000010000000000000000000000000000000000000000003000000000000000041e00008c042a2643c4 P) {a1 a2 a3 a4} (h4 : P a4) : P (departPhase2 a1 a2 a3 a4) := by
  unfold departPhase2
  have c0 := @homeAct_keeps P (hP.mono rfl); have c1 := @forL_keeps _ P hP; have c2 := @sweepEntry_keeps P (hP.mono rfl)
  exact byKeep

theorem forgetShare_keeps (hP : Closed 0x20000 P) {a1 a2 a3 a4} (h4 : P a4) : P (forgetShare a1 a2 a3 a4) := by
  unfold forgetShare
  have c0 := @modHome_keeps P (hP.mono rfl)
  exact byKeep

theorem forgetHeld_keeps (hP : Closed 0xc0000000000000000000000000000000000000000000000000000000018000000000000000000000000000000000000000000000000000000000000000000000000000a20000010000000000000000000000000000000000000000000000000000000000001e00008c04022540c0 P) {a1 a2} (h2 : P a2) : P (forgetHeld a1 a2) := by
  unfold forgetHeld
  have c0 := @forL_keeps _ P hP; have c1 := @closeReq_keeps P (hP.mono rfl); have c2 := @forN_keeps _ P hP
  have c3 := @setMig_keeps P (hP.mono rfl)
  exact byKeep

theorem forgetHost_keeps (hP : Closed 0x64000 P) {a1 a2 a3} (h3 : P a3) : P (forgetHost a1 a2 a3) := by
  unfold forgetHost
  have c0 := @forN_keeps _ P hP; have c1 := @forgetShare_keeps P (hP.mono rfl)
  exact byKeep

theorem poisonRecords_keeps (hP : Closed 0x40080 P) {a1 a2 a3 a4} (h4 : P a4) : P (poisonRecords a1 a2 a3 a4) := by
  unfold poisonRecords
  have c0 := @forL_keeps _ P hP; have c1 := @reportEach_keeps P (hP.mono rfl)
  exact byKeep

theorem departHost_keeps (hP : Closed 0xc000000000000000000000000000000000000000000000000000000001800000001fe0000f9c0000000000000000000000000000000000000000000000000000000000a20000010000000000000000000000000000000000000000003000000000000000041e00008c042a2643c4 P) {a1 a2} (h2 : P a2) : P (departHost a1 a2) := by
  unfold departHost
  have c0 := @forN_keeps _ P hP; have c1 := @set_keeps _ P hP; have c2 := @departPhase1_keeps P (hP.mono rfl)
  exact byKeep

theorem departEnd_keeps (hP : Closed 0xc000000000000000000000000000000000000000000000000000000001800000001fe0000f9c0000000000000000000000000000000000000000000000000000000000a20000010000000000000000000000000000000000000000003000000000000000041e00008c042a2743c4 P) {a1 a2} (h2 : P a2) : P (departEnd a1 a2) := by
  unfold departEnd
  have c0 := @forN_keeps _ P hP; have c1 := @departPhase2_keeps P (hP.mono rfl); have c2 := @forgetHeld_keeps P (hP.mono rfl)
  have c3 := @forgetHost_keeps P (hP.mono rfl); have c4 := @poisonRecords_keeps P (hP.mono rfl)
  have c5 := @set_keeps _ P hP
  exact byKeep

theorem departLd_keeps (hP : Closed 0xc000000000000000000000000000000000000000000000000000000001800000001fe0000f1c0000000000000000000000000000000000000000000000000000000000a20000010000000000000000000000000000000000000000003000000000000000041e00008c042a2643c4 P) {a1 a2 a3 a4} (h4 : P a4) : P (departLd a1 a2 a3 a4) := by
  unfold departLd
  have c0 := @forN_keeps _ P hP; have c1 := @departPhase1_keeps P (hP.mono rfl); have c2 := @departPhase2_keeps P (hP.mono rfl)
  have c3 := @forgetHost_keeps P (hP.mono rfl); have c4 := @poisonRecords_keeps P (hP.mono rfl)
  exact byKeep

theorem takeover_keeps (hP : Closed 0xc000000000000000000000000000000000000000000000000000000001800000001fe0000f7c0000000000000000000000000000000000000000000000000000000000a20000010000000000000000000000000000000000000000003000000000000000041e00008c042a2643c4 P) {a1 a2} (h2 : P a2) : P (takeover a1 a2) := by
  unfold takeover
  have c0 := @set_keeps _ P hP; have c1 := @forL_keeps _ P hP; have c2 := @unpark_keeps P (hP.mono rfl)
  have c3 := @setHome_keeps P (hP.mono rfl); have c4 := @homeAct_keeps P (hP.mono rfl)
  exact byKeep

theorem setInbox_keeps (hP : Closed 0x4000 P) {a1 a2 a3} (h3 : P a3) : P (setInbox a1 a2 a3) := by
  unfold setInbox
  exact byKeep

theorem homeMessage_keeps (hP : Closed 0xc000000000000000000000000000000000000000000000000000000001800000001fe0000f1c0000000000000000000000000000000000000000000000000000000000a20000010000000000000000000000000000000000000000003000000000000000041e00008c042a2643c4 P) {a1 a2 a3} (h3 : P a3) : P (homeMessage a1 a2 a3) := by
  unfold homeMessage
  have c0 := @homeAct_keeps P (hP.mono rfl); have c1 := @applyRsp_keeps P (hP.mono rfl); have c2 := @applyConf_keeps P (hP.mono rfl)
  have c3 := @applyPd_keeps P (hP.mono rfl); have c4 := @applyPc_keeps P (hP.mono rfl); have c5 := @homeTake_keeps P (hP.mono rfl)
  exact byKeep

theorem execHomeRequestAccept_keeps (hP : Closed 0xc000000000000000000000000000000000000000000000000000000001800000001fe0000f1c0000000000000000000000000000000000000000000000000000000000a20000010000000000000000000000000000000000000000003000000000000000041e00008c042a2643c4 P) {a1 a2} (h2 : P a2) : Ans P (execHomeRequestAccept a1 a2) := by
  unfold execHomeRequestAccept
  have c0 := @setInbox_keeps P (hP.mono rfl); have c1 := @homeMessage_keeps P (hP.mono rfl)
  exact byKeep

theorem execRdS_keeps (hP : Closed 0xc000000000000000000000000000000000000000000000000000000001800000001fe0000f1c0000000000000000000000000000000000000000000000000000000000a20000010000000000000000000000000000000000000000003000000000000000041e00008c042a2643c4 P) {a1 a2 a3} (h3 : P a3) : Ans P (execRdS a1 a2 a3) := by
  unfold execRdS
  have c0 := @homeTake_keeps P (hP.mono rfl)
  exact byKeep

theorem execRdA_keeps (hP : Closed 0xc000000000000000000000000000000000000000000000000000000001800000001fe0000f1c0000000000000000000000000000000000000000000000000000000000a20000010000000000000000000000000000000000000000003000000000000000041e00008c042a2643c4 P) {a1 a2 a3} (h3 : P a3) : Ans P (execRdA a1 a2 a3) := by
  unfold execRdA
  have c0 := @homeTake_keeps P (hP.mono rfl)
  exact byKeep

theorem execRdI_keeps (hP : Closed 0xc000000000000000000000000000000000000000000000000000000001800000001fe0000f1c0000000000000000000000000000000000000000000000000000000000a20000010000000000000000000000000000000000000000003000000000000000041e00008c042a2643c4 P) {a1 a2 a3} (h3 : P a3) : Ans P (execRdI a1 a2 a3) := by
  unfold execRdI
  have c0 := @homeTake_keeps P (hP.mono rfl)
  exact byKeep

theorem execInvA_keeps (hP : Closed 0xc000000000000000000000000000000000000000000000000000000001800000001fe0000f1c0000000000000000000000000000000000000000000000000000000000a20000010000000000000000000000000000000000000000003000000000000000041e00008c042a2643c4 P) {a1 a2 a3} (h3 : P a3) : Ans P (execInvA a1 a2 a3) := by
  unfold execInvA
  have c0 := @homeTake_keeps P (hP.mono rfl)
  exact byKeep

theorem execWb_keeps (hP : Closed 0xc000000000000000000000000000000000000000000000000000000001800000001fe0000f1c0000000000000000000000000000000000000000000000000000000000a20000010000000000000000000000000000000000000000003000000000000000041e00008c042a2643c4 P) {a1 a2 a3} (h3 : P a3) : Ans P (execWb a1 a2 a3) := by
  unfold execWb
  have c0 := @homeTake_keeps P (hP.mono rfl)
  exact byKeep

theorem execWr_keeps (hP : Closed 0xc000000000000000000000000000000000000000000000000000000001800000001fe0000f1c0000000000000000000000000000000000000000000000000000000000a20000010000000000000000000000000000000000000000003000000000000000041e00008c042a2643c4 P) {a1 a2 a3} (h3 : P a3) : Ans P (execWr a1 a2 a3) := by
  unfold execWr
  have c0 := @homeTake_keeps P (hP.mono rfl)
  exact byKeep

theorem execCln_keeps (hP : Closed 0xc000000000000000000000000000000000000000000000000000000001800000001fe0000f1c0000000000000000000000000000000000000000000000000000000000a20000010000000000000000000000000000000000000000003000000000000000041e00008c042a2643c4 P) {a1 a2 a3} (h3 : P a3) : Ans P (execCln a1 a2 a3) := by
  unfold execCln
  have c0 := @homeTake_keeps P (hP.mono rfl)
  exact byKeep

theorem execNop_keeps (hP : Closed 0xc000000000000000000000000000000000000000000000000000000001800000001fe0000f1c0000000000000000000000000000000000000000000000000000000000a20000010000000000000000000000000000000000000000003000000000000000041e00008c042a2643c4 P) {a1 a2 a3} (h3 : P a3) : Ans P (execNop a1 a2 a3) := by
  unfold execNop
  have c0 := @homeTake_keeps P (hP.mono rfl)
  exact byKeep

theorem execAtom_keeps (hP : Closed 0xc000000000000000000000000000000000000000000000000000000001800000001fe0000f1c0000000000000000000000000000000000000000000000000000000000a20000010000000000000000000000000000000000000000003000000000000000041e00008c042a2643c4 P) {a1 a2 a3} (h3 : P a3) : Ans P (execAtom a1 a2 a3) := by
  unfold execAtom
  have c0 := @homeTake_keeps P (hP.mono rfl)
  exact byKeep

theorem execConf_keeps (hP : Closed 0xc000000000000000000000000000000000000000000000000000000001800000001fe0000f1c0000000000000000000000000000000000000000000000000000000000a20000010000000000000000000000000000000000000000003000000000000000041e00008c042a2643c4 P) {a1 a2 a3} (h3 : P a3) : Ans P (execConf a1 a2 a3) := by
  unfold execConf
  have c0 := @homeAct_keeps P (hP.mono rfl); have c1 := @applyConf_keeps P (hP.mono rfl)
  exact byKeep

theorem execRsp_keeps (hP : Closed 0xc000000000000000000000000000000000000000000000000000000001800000001fe0000f1c0000000000000000000000000000000000000000000000000000000000a20000010000000000000000000000000000000000000000003000000000000000041e00008c042a2643c4 P) {a1 a2 a3} (h3 : P a3) : Ans P (execRsp a1 a2 a3) := by
  unfold execRsp
  have c0 := @homeAct_keeps P (hP.mono rfl); have c1 := @applyRsp_keeps P (hP.mono rfl)
  exact byKeep

theorem execPd_keeps (hP : Closed 0xc000000000000000000000000000000000000000000000000000000001800000001fe0000f1c0000000000000000000000000000000000000000000000000000000000a20000010000000000000000000000000000000000000000003000000000000000041e00008c042a2643c4 P) {a1 a2 a3} (h3 : P a3) : Ans P (execPd a1 a2 a3) := by
  unfold execPd
  have c0 := @homeAct_keeps P (hP.mono rfl); have c1 := @applyPd_keeps P (hP.mono rfl)
  exact byKeep

theorem execPc_keeps (hP : Closed 0xc000000000000000000000000000000000000000000000000000000001800000001fe0000f1c0000000000000000000000000000000000000000000000000000000000a20000010000000000000000000000000000000000000000003000000000000000041e00008c042a2643c4 P) {a1 a2 a3} (h3 : P a3) : Ans P (execPc a1 a2 a3) := by
  unfold execPc
  have c0 := @homeAct_keeps P (hP.mono rfl); have c1 := @applyPc_keeps P (hP.mono rfl)
  exact byKeep

theorem execRequestOrdered_keeps (hP : Closed 0xc000000000000000000000000000000000000000000000000000000001800000001fe0000f1c0000000000000000000000000000000000000000000000000000000000a20000010000000000000000000000000000000000000000003000000000000000041e00008c042a2643c4 P) {a1 a2 a3} (h3 : P a3) : Ans P (execRequestOrdered a1 a2 a3) := by
  unfold execRequestOrdered
  have c0 := @homeAct_keeps P (hP.mono rfl); have c1 := @orderReq_keeps P (hP.mono rfl); have c2 := @modHome_keeps P (hP.mono rfl)
  exact byKeep

theorem refillCarry_keeps (hP : Closed 0x20000 P) {a1 a2} (h2 : P a2) : P (refillCarry a1 a2) := by
  unfold refillCarry
  have c0 := @modHome_keeps P (hP.mono rfl)
  exact byKeep

theorem carryTake_keeps (hP : Closed 0xc0000000000000000000000000000000000000000000000000000000018000000009c00002000000000000000000000000000000000000000000000000000000000000a20000010000000000000000000000000000000000000000000000000000000000001e00008c040a2640c4 P) {a1 a2 a3} (h3 : P a3) : P (carryTake a1 a2 a3) := by
  unfold carryTake
  have c0 := @chooseWay_keeps P (hP.mono rfl); have c1 := @modHome_keeps P (hP.mono rfl); have c2 := @takeWay_keeps P (hP.mono rfl)
  have c3 := @evict_keeps P (hP.mono rfl); have c4 := @refillCarry_keeps P (hP.mono rfl)
  exact byKeep

theorem execCarryQueueAllocate_keeps (hP : Closed 0xc000000000000000000000000000000000000000000000000000000001800000001fe0000f1c0000000000000000000000000000000000000000000000000000000000a20000010000000000000000000000000000000000000000003000000000000000041e00008c042a2643c4 P) {a1 a2 a3} (h3 : P a3) : Ans P (execCarryQueueAllocate a1 a2 a3) := by
  unfold execCarryQueueAllocate
  have c0 := @homeAct_keeps P (hP.mono rfl); have c1 := @carryTake_keeps P (hP.mono rfl)
  exact byKeep

theorem execHmapWrite_keeps (hP : Closed 0x60000040000000000000000000000000000000000000000000000000000000000000000000000000000000000000000000000000000000000000000000000000000000001e00008c0400000040 P) {a1 a2 a3 a4} (h4 : P a4) : Ans P (execHmapWrite a1 a2 a3 a4) := by
  unfold execHmapWrite
  have c0 := @atReg_keeps P (hP.mono rfl); have c1 := @flag_keeps P (hP.mono rfl); have c2 := @set_keeps _ P hP
  exact byKeep

theorem scrubCfg_keeps (hP : Closed 0x20000 P) {a1 a2} (h2 : P a2) : P (scrubCfg a1 a2) := by
  unfold scrubCfg
  have c0 := @modHome_keeps P (hP.mono rfl)
  exact byKeep

theorem execScrubPass_keeps (hP : Closed 0xc000000000000000000000000000000000000000000000000000000001800000001fe0030f1c0000000000000000000000000000000000000000000000000000000000a20000010000000000000000000000000000000000000000003000000000000000041e00008c042a2643c6 P) {a1 a2 a3} (h3 : P a3) : Ans P (execScrubPass a1 a2 a3) := by
  unfold execScrubPass
  have c0 := @reach_keeps _ P hP; have c1 := @foundErrs_keeps P (hP.mono rfl); have c2 := @forL_keeps _ P hP
  have c3 := @tallyErr_keeps P (hP.mono rfl); have c4 := @perf_keeps P (hP.mono rfl); have c5 := @count_keeps _ P hP
  have c6 := @set_keeps _ P hP; have c7 := @homeAct_keeps P (hP.mono rfl); have c8 := @scrubCfg_keeps P (hP.mono rfl)
  exact byKeep

theorem execAtomicDone_keeps (hP : Closed 0xc000000000000000000000000000000000000000000000000000000001800000001fe0000f1c0000000000000000000000000000000000000000000000000000000000a20000010000000000000000000000000000000000000000003000000000000000041e00008c042a2643c4 P) {a1 a2 a3} (h3 : P a3) : Ans P (execAtomicDone a1 a2 a3) := by
  unfold execAtomicDone
  have c0 := @homeAct_keeps P (hP.mono rfl); have c1 := @atomDone_keeps P (hP.mono rfl)
  exact byKeep

theorem execAtomBoardIdle_keeps (hP : Closed 0xc000000000000000000000000000000000000000000000000000000001800000001fe0000f1c0000000000000000000000000000000000000000000000000000000000a20000010000000000000000000000000000000000000000003000000000000000041e00008c042a2643c6 P) {a1 a2 a3} (h3 : P a3) : Ans P (execAtomBoardIdle a1 a2 a3) := by
  unfold execAtomBoardIdle
  have c0 := @homeAct_keeps P (hP.mono rfl); have c1 := @boardOut_keeps P (hP.mono rfl); have c2 := @reach_keeps _ P hP
  exact byKeep

theorem execTallyProbe_keeps (hP : Closed 0x1f800000000000000000000000000000000000000000000000000000000000000000000000000000000000000000000000000000000000000000000000000000000000000000000000000000 P) {a1 a2 a3} (h3 : P a3) : Ans P (execTallyProbe a1 a2 a3) := by
  unfold execTallyProbe
  have c0 := @atReg_keeps P (hP.mono rfl); have c1 := @setB_keeps _ P hP; have c2 := @set_keeps _ P hP
  exact byKeep

theorem substRow_keeps (hP : Closed 0x180000000000000000000000000000000000000000000000000000000000000000000000000000000000000000000000000000000000000000000000000020000000000000000000420080 P) {a1 a2 a3} (h3 : P a3) : P (substRow a1 a2 a3) := by
  unfold substRow
  have c0 := @report_keeps P (hP.mono rfl); have c1 := @setHome_keeps P (hP.mono rfl); have c2 := @setB_keeps _ P hP
  have c3 := @set_keeps _ P hP; have c4 := @noteSpare_keeps P (hP.mono rfl)
  exact byKeep

theorem countRow_keeps (hP : Closed 0x1800000000000000000000000000000000000000000000000000000000000000000000000000000000000000000000000000000000000000003000000000200000041e00008c04004203c0 P) {a1 a2 a3 a4} (h4 : P a4) : P (countRow a1 a2 a3 a4) := by
  unfold countRow
  have c0 := @modHome_keeps P (hP.mono rfl); have c1 := @report_keeps P (hP.mono rfl); have c2 := @reachPoint_keeps P (hP.mono rfl)
  have c3 := @substRow_keeps P (hP.mono rfl)
  exact byKeep

theorem tagSync_keeps (hP : Closed 0x30000000000000000000000000000000000000000000000000000000000000000000000000000000000000000000000000000000000000000000000000000000 P) {a1 a2} (h2 : P a2) : P (tagSync a1 a2) := by
  unfold tagSync
  have c0 := @set_keeps _ P hP
  exact byKeep

theorem drawTag_keeps (hP : Closed 0x300000000000000000000000000000000000000000a20000010000000000000000000000000000000000000000000000000000000000001e00008c0402002040 P) {a1 a2 a3} (h3 : P a3) : P (drawTag a1 a2 a3).2 := by
  unfold drawTag
  have c0 := @perf_keeps P (hP.mono rfl); have c1 := @tagSync_keeps P (hP.mono rfl); have c2 := @modPort_keeps P (hP.mono rfl)
  exact byKeep

theorem freeTags_keeps (hP : Closed 0x30000000000000000000000000000000000000000000000000000000000000000000000000000000000000000000000000000000000000000000000000002000 P) {a1 a2 a3} (h3 : P a3) : P (freeTags a1 a2 a3) := by
  unfold freeTags
  have c0 := @tagSync_keeps P (hP.mono rfl); have c1 := @modPort_keeps P (hP.mono rfl)
  exact byKeep

theorem redirected_keeps (hP : Closed 0x300000000000000000000000000000000000000000a20000010000000000000000000000000000000000000000000000000000000000001e00008c0402002044 P) {a1 a2 a3} (h3 : P a3) : P (redirected a1 a2 a3) := by
  unfold redirected
  have c0 := @drawTag_keeps P (hP.mono rfl); have c1 := @emit_keeps _ P hP
  exact byKeep

theorem sendRsp_keeps (hP : Closed 0xc0000000000000000000000000000000000000000000000000000000000000000000000000000000000000000000300000000000000000000000000000000000000000a20000010000000000000000000000000000000000000000000000000000000000001e00008c0402202044 P) {a1 a2 a3} (h3 : P a3) : P (sendRsp a1 a2 a3) := by
  unfold sendRsp
  have c0 := @redirected_keeps P (hP.mono rfl); have c1 := @perf_keeps P (hP.mono rfl); have c2 := @emit_keeps _ P hP
  have c3 := @injected_keeps P (hP.mono rfl); have c4 := @freeTags_keeps P (hP.mono rfl)
  exact byKeep

theorem reply_keeps (hP : Closed 0xc0000000000000000000000000000000000000000000000000000000018000000000000000000000000000000000000000000000000000000000000000000000000000a20000010000000000000000000000000000000000000000000000000000000000001e00008c04022040c0 P) {a1 a2 a3 a4 a5} (h5 : P a5) : P (reply a1 a2 a3 a4 a5) := by
  unfold reply
  have c0 := @enqueue_keeps P (hP.mono rfl)
  exact byKeep

theorem loseWrite_keeps (hP : Closed 0x10000 P) {a1 a2 a3} (h3 : P a3) : P (loseWrite a1 a2 a3) := by
  unfold loseWrite
  exact byKeep

theorem noticeHome_keeps (hP : Closed 0xc0000000000000000000000000000000000000000000000000000000018000000000000000000000000000000000000000000000000000000000000000000000000000a20000010000000000000000000000000000000000000000000000000000000000001e00008c04022040c0 P) {a1 a2 a3 a4 a5 a6} (h6 : P a6) : P (noticeHome a1 a2 a3 a4 a5 a6) := by
  unfold noticeHome
  have c0 := @enqueue_keeps P (hP.mono rfl)
  exact byKeep

theorem parkFor_keeps (hP : Closed 0xc0000000000000000000000000000000000000000000000000000000018000000000000000000000000000000000000000000000000000000000000000000000000000a20000010000000000000000000000000000000000000000000000000000000000001e00008c04022040c0 P) {a1 a2 a3 a4 a5 a6 a7 a8} (h8 : P a8) : P (parkFor a1 a2 a3 a4 a5 a6 a7 a8) := by
  unfold parkFor
  have c0 := @park_keeps P (hP.mono rfl); have c1 := @noticeHome_keeps P (hP.mono rfl)
  exact byKeep

theorem lostHome_keeps (hP : Closed 0xc0000000000000000000000000000000000000000000000000000000018000000000000000000000000000000000000000000000000000000000000000000000000000a20000010000000000000000000000000000000000000000000000000000000000001e00008c04022140c0 P) {a1 a2 a3 a4} (h4 : P a4) : P (lostHome a1 a2 a3 a4) := by
  unfold lostHome
  have c0 := @noticeHome_keeps P (hP.mono rfl); have c1 := @loseWrite_keeps P (hP.mono rfl)
  have c2 := @parkFor_keeps P (hP.mono rfl)
  exact byKeep

theorem finished_keeps (hP : Closed 0x4000 P) {a1 a2} (h2 : P a2) : P (finished a1 a2) := by
  unfold finished
  exact byKeep

theorem lostReply_keeps (hP : Closed 0xc0000000000000000000000000000000000000000000000000000000018000000000000000000000000000000008000000000000000000000000000000000000000000a20000010000000000000000000000000000000000000000000000000000000000001e00008c04022140c0 P) {a1 a2 a3} (h3 : P a3) : P (lostReply a1 a2 a3) := by
  unfold lostReply
  have c0 := @perf_keeps P (hP.mono rfl); have c1 := @bump_keeps _ P hP; have c2 := @answerReq_keeps P (hP.mono rfl)
  have c3 := @loseWrite_keeps P (hP.mono rfl); have c4 := @lostHome_keeps P (hP.mono rfl)
  have c5 := @finished_keeps P (hP.mono rfl); have c6 := @forL_keeps _ P hP; have c7 := @reply_keeps P (hP.mono rfl)
  have c8 := @set_keeps _ P hP
  exact byKeep

theorem deadEgress_keeps (hP : Closed 0xc000000000000000000000000000000000000000000000000000000001800000000000000000000000000000000e300000000000000000000000000000000000000000a20000010000000000000000000000000000000000000000000000000000000000001e00008c04022160c0 P) {a1 a2 a3} (h3 : P a3) : P (deadEgress a1 a2 a3) := by
  unfold deadEgress
  have c0 := @bump_keeps _ P hP; have c1 := @freeTags_keeps P (hP.mono rfl); have c2 := @lostHome_keeps P (hP.mono rfl)
  have c3 := @loseWrite_keeps P (hP.mono rfl); have c4 := @lostReply_keeps P (hP.mono rfl)
  have c5 := @set_keeps _ P hP
  exact byKeep

theorem bmWrite_keeps (hP : Closed 0xc0000000000000000000000000000000000000000000000000000000018000000000000000000000000000000000000000000000000000000000000000000000000000a20000010000000000000000000000000000000000000000000000000000000000001e00008c04022040c0 P) {a1 a2 a3 a4 a5 a6} (h6 : P a6) : P (bmWrite a1 a2 a3 a4 a5 a6) := by
  unfold bmWrite
  have c0 := @enqueue_keeps P (hP.mono rfl)
  exact byKeep

theorem setDirty_keeps (hP : Closed 0x20000000000000000000000000000000000000000000000000000000000000000000000000000000000000000000000000000000000000000000000000000000000000000010000 P) {a1 a2 a3} (h3 : P a3) : P (setDirty a1 a2 a3) := by
  unfold setDirty
  have c0 := @modMig_keeps P (hP.mono rfl); have c1 := @set_keeps _ P hP
  exact byKeep

theorem markDirty_keeps (hP : Closed 0x20000000000000000000000000000000000000000000000000000000000000000000000000000000000000000000000000000000000000000000000000000000000000000010000 P) {a1 a2 a3} (h3 : P a3) : P (markDirty a1 a2 a3) := by
  unfold markDirty
  have c0 := @setDirty_keeps P (hP.mono rfl)
  exact byKeep

theorem dirtyWrite_keeps (hP : Closed 0xc0000000000000000000000000000000000000000000000000000000018000000000000000000200000000000000000000000000000000000000000000000000000000a20000010000000000000000000000000000000000000000000000000000000000001e00008c04022140c0 P) {a1 a2 a3} (h3 : P a3) : P (dirtyWrite a1 a2 a3) := by
  unfold dirtyWrite
  have c0 := @forL_keeps _ P hP; have c1 := @setDirty_keeps P (hP.mono rfl); have c2 := @bmWrite_keeps P (hP.mono rfl)
  exact byKeep

theorem sendReq_keeps (hP : Closed 0xc0000000000000000000000000000000000000000000000000000000018000000000000000000200000000000000300000000000000000000000000000000000000000a20000010000000000000000000000000000000000000000000000000000000000001e00008c04022160c4 P) {a1 a2 a3} (h3 : P a3) : P (sendReq a1 a2 a3) := by
  unfold sendReq
  have c0 := @dirtyWrite_keeps P (hP.mono rfl); have c1 := @perf_keeps P (hP.mono rfl); have c2 := @drawTag_keeps P (hP.mono rfl)
  have c3 := @emit_keeps _ P hP; have c4 := @injected_keeps P (hP.mono rfl)
  exact byKeep

theorem handed_keeps (hP : Closed 0xa20000010000000000000000000000000000000000000000000000000000000000001e00008c0402000040 P) {a1 a2 a3} (h3 : P a3) : P (handed a1 a2 a3) := by
  unfold handed
  have c0 := @perf_keeps P (hP.mono rfl); have c1 := @perfView_keeps P (hP.mono rfl); have c2 := @bwTx_keeps P (hP.mono rfl)
  exact byKeep

theorem portHand_keeps (hP : Closed 0xc000000000000000000000000000000000000000000000000000000001800000000000000000020000000000000e300000000000000000000000000000000000000000a20000010000000000000000000000000000000000000000000000000000000000001e00008c04022160c4 P) {a1 a2 a3} (h3 : P a3) : P (portHand a1 a2 a3) := by
  unfold portHand
  have c0 := @handed_keeps P (hP.mono rfl); have c1 := @deadEgress_keeps P (hP.mono rfl); have c2 := @sendRsp_keeps P (hP.mono rfl)
  have c3 := @sendReq_keeps P (hP.mono rfl)
  exact byKeep

theorem takeCredit_keeps (hP : Closed 0x2000 P) {a1 a2 a3} (h3 : P a3) : P (takeCredit a1 a2 a3) := by
  unfold takeCredit
  have c0 := @modPort_keeps P (hP.mono rfl)
  exact byKeep

theorem lostIngress_keeps (hP : Closed 0xc0000000000000000000000000000000000000000000000000000000018000000000000000000000000000000000300000000000000000000000000000000000000000a20000010000000000000000000000000000000000000000000000000000000000001e00008c04022060c4 P) {a1 a2 a3 a4 a5} (h5 : P a5) : P (lostIngress a1 a2 a3 a4 a5) := by
  unfold lostIngress
  have c0 := @closeReq_keeps P (hP.mono rfl); have c1 := @emit_keeps _ P hP; have c2 := @freeTags_keeps P (hP.mono rfl)
  have c3 := @forL_keeps _ P hP; have c4 := @enqueue_keeps P (hP.mono rfl)
  exact byKeep

theorem nextGap_keeps (hP : Closed 0x8 P) {a1} (h1 : P a1) : P (nextGap a1).2 := by
  unfold nextGap
  have c0 := @spend_keeps _ P hP
  exact byKeep

theorem sampleReq_keeps (hP : Closed 0x200000000000000000000000000000000000000000000000000000000000000000000000000002000008 P) {a1 a2 a3 a4 a5 a6 a7 a8} (h8 : P a8) : P (sampleReq a1 a2 a3 a4 a5 a6 a7 a8) := by
  unfold sampleReq
  have c0 := @nextGap_keeps P (hP.mono rfl); have c1 := @bump_keeps _ P hP; have c2 := @set_keeps _ P hP
  exact byKeep

theorem openAs_keeps (hP : Closed 0x4000 P) {a1 a2 a3 a4 a5 a6 a7 a8 a9} (h9 : P a9) : P (openAs a1 a2 a3 a4 a5 a6 a7 a8 a9) := by
  unfold openAs
  exact byKeep

theorem hmapMiss_keeps (hP : Closed 0x10000000000000000000000000000000000000000000000000000000000000000000000000000000000000000000000000000000000000000000000000000000001e00008c04000400c0 P) {a1 a2 a3 a4 a5} (h5 : P a5) : P (hmapMiss a1 a2 a3 a4 a5) := by
  unfold hmapMiss
  have c0 := @homeFlag_keeps P (hP.mono rfl); have c1 := @report_keeps P (hP.mono rfl); have c2 := @set_keeps _ P hP
  exact byKeep

theorem freshId_keeps (hP : Closed 0x4000 P) {a1} (h1 : P a1) : P (freshId a1).2 := by
  unfold freshId
  exact byKeep

theorem toHome_keeps (hP : Closed 0xc0000000000000000000000000000000000000000000000000000000018000000000000000000000000000000000000000000000000000000000000000000000000000a20000010000000000000000000000000000000000000000000000000000000000001e00008c04022440c0 P) {a1 a2 a3 a4 a5 a6 a7 a8 a9 a10} (h10 : P a10) : P (toHome a1 a2 a3 a4 a5 a6 a7 a8 a9 a10) := by
  unfold toHome
  have c0 := @openAs_keeps P (hP.mono rfl); have c1 := @forN_keeps _ P hP; have c2 := @freshId_keeps P (hP.mono rfl)
  have c3 := @enqueue_keeps P (hP.mono rfl)
  exact byKeep

theorem toPool_keeps (hP : Closed 0xc0000000000000000000000000000000000000000000000000000000018000000000000000000000000000000000000000000000000000000000000000000000000000a20000010000000000000000000000000000000000000000000000000000000000001e00008c04022040c0 P) {a1 a2 a3 a4 a5 a6 a7 a8 a9} (h9 : P a9) : P (toPool a1 a2 a3 a4 a5 a6 a7 a8 a9) := by
  unfold toPool
  have c0 := @openAs_keeps P (hP.mono rfl); have c1 := @enqueue_keeps P (hP.mono rfl)
  exact byKeep

theorem toRemote_keeps (hP : Closed 0xc0000000000000000000000000000000000000000000000000000000018000000000000000000000000000000000300000000000000000000000000000000000000000a20000010000000000000000000000000000000000000000000000000000000000001e00008c04122060c4 P) {a1 a2 a3 a4 a5 a6 a7 a8 a9} (h9 : P a9) : P (toRemote a1 a2 a3 a4 a5 a6 a7 a8 a9) := by
  unfold toRemote
  have c0 := @openAs_keeps P (hP.mono rfl); have c1 := @enqueue_keeps P (hP.mono rfl); have c2 := @lostIngress_keeps P (hP.mono rfl)
  exact byKeep

theorem privateAtom_keeps (hP : Closed 0xc0000000000000000000000000000000000000000000000000000000018000000000000000000000000000000000000000000000000000000000000000000000000000a20000010000000000000000000000000000000000000000000000000000000000001e00008c04022040c0 P) {a1 a2 a3 a4} (h4 : P a4) : P (privateAtom a1 a2 a3 a4) := by
  unfold privateAtom
  have c0 := @enqueue_keeps P (hP.mono rfl); have c1 := @closeReq_keeps P (hP.mono rfl)
  exact byKeep

theorem routeLd_keeps (hP : Closed 0xc0000000000000000000000000000000000000000000000000000000018000000000000010000000000000000000300000000000000000000000000000000000000000a20000010000000000000000000000000000000000000000000000000000000000001e00008c04122460c4 P) {a1 a2 a3 a4 a5 a6 a7 a8 a9 a10 a11} (h11 : P a11) : P (routeLd a1 a2 a3 a4 a5 a6 a7 a8 a9 a10 a11) := by
  unfold routeLd
  have c0 := @toRemote_keeps P (hP.mono rfl); have c1 := @toPool_keeps P (hP.mono rfl); have c2 := @privateAtom_keeps P (hP.mono rfl)
  have c3 := @lostIngress_keeps P (hP.mono rfl); have c4 := @hmapMiss_keeps P (hP.mono rfl)
  have c5 := @toHome_keeps P (hP.mono rfl)
  exact byKeep

theorem convSync_keeps (hP : Closed 0x200000000000000000000000000000000000000000000000000000000000000000000000000000000000000000000000000000000000000000000000000000000000000000000000000000000000 P) {a1} (h1 : P a1) : P (convSync a1) := by
  unfold convSync
  have c0 := @set_keeps _ P hP
  exact byKeep

theorem takeAllow_keeps (hP : Closed 0x10000 P) {a1 a2 a3} (h3 : P a3) : P (takeAllow a1 a2 a3) := by
  unfold takeAllow
  have c0 := @modMig_keeps P (hP.mono rfl)
  exact byKeep

theorem stallAt_keeps (hP : Closed 0x10000 P) {a1 a2 a3 a4} (h4 : P a4) : P (stallAt a1 a2 a3 a4) := by
  unfold stallAt
  exact byKeep

theorem dapDenied_keeps (hP : Closed 0x4 P) {a1 a2} (h2 : P a2) : P (dapDenied a1 a2) := by
  unfold dapDenied
  have c0 := @emit_keeps _ P hP
  exact byKeep

theorem cfgRead_keeps (hP : Closed 0x8 P) {a1 a2 a3 a4} (h4 : P a4) : P (cfgRead a1 a2 a3 a4).2 := by
  unfold cfgRead
  have c0 := @spend_keeps _ P hP
  exact byKeep

theorem cfgWrite_keeps (hP : Closed 0x17000000000000000000000000000000000000000000000000000000000000000000000000000000000000000000000000000000000000000001e00008c0400512040 P) {a1 a2 a3 a4 a5} (h5 : P a5) : P (cfgWrite a1 a2 a3 a4 a5) := by
  unfold cfgWrite
  have c0 := @setVppb_keeps P (hP.mono rfl); have c1 := @handshakeDone_keeps P (hP.mono rfl)
  have c2 := @modPort_keeps P (hP.mono rfl)
  exact byKeep

theorem cfgAccess_keeps (hP : Closed 0xc0000000000000000000000000000000000000000000000000000000018000000000000000000000000000017000300000000000000000000000000000000000000000a20000010000000000000000000000000000000000000000000000000000000000001e00008c04027160cc P) {a1 a2 a3 a4 a5 a6} (h6 : P a6) : P (cfgAccess a1 a2 a3 a4 a5 a6) := by
  unfold cfgAccess
  have c0 := @lostIngress_keeps P (hP.mono rfl); have c1 := @cfgRead_keeps P (hP.mono rfl)
  have c2 := @cfgWrite_keeps P (hP.mono rfl); have c3 := @freeTags_keeps P (hP.mono rfl); have c4 := @emit_keeps _ P hP
  have c5 := @closeReq_keeps P (hP.mono rfl)
  exact byKeep

theorem takeLtr_keeps (hP : Closed 0x2004 P) {a1 a2 a3} (h3 : P a3) : P (takeLtr a1 a2 a3) := by
  unfold takeLtr
  have c0 := @modPort_keeps P (hP.mono rfl); have c1 := @emit_keeps _ P hP
  exact byKeep

theorem admitReq_keeps (hP : Closed 0xc000000000000000000000000000000000000000000000000000000001800000200000001000000000000009f000300000000000000000000000000000000000000000a22000010000000000000000000000000000000000000000000000000000000000001e00008c04127560cc P) {a1 a2 a3 a4 a5 a6 a7} (h7 : P a7) : P (admitReq a1 a2 a3 a4 a5 a6 a7) := by
  unfold admitReq
  have c0 := @perfView_keeps P (hP.mono rfl); have c1 := @perf_keeps P (hP.mono rfl); have c2 := @lostIngress_keeps P (hP.mono rfl)
  have c3 := @missed_keeps P (hP.mono rfl); have c4 := @cfgAccess_keeps P (hP.mono rfl); have c5 := @takeLtr_keeps P (hP.mono rfl)
  have c6 := @openAs_keeps P (hP.mono rfl); have c7 := @sampleReq_keeps P (hP.mono rfl); have c8 := @enqueue_keeps P (hP.mono rfl)
  have c9 := @stallAt_keeps P (hP.mono rfl); have c10 := @modMig_keeps P (hP.mono rfl); have c11 := @convSync_keeps P (hP.mono rfl)
  have c12 := @routeLd_keeps P (hP.mono rfl); have c13 := @takeAllow_keeps P (hP.mono rfl)
  exact byKeep

theorem takeIn_keeps (hP : Closed 0xc000000000000000000000000000000000000000000000000000000001800000200000001000000000000009f000300000000000000000000000000000000000000000a22000010000003ffc100000000000000000000000000000000000000000000000001e00008c04127560cc P) {a1 a2 a3 a4 a5} (h5 : P a5) : P (takeIn a1 a2 a3 a4 a5) := by
  unfold takeIn
  have c0 := @stallAt_keeps P (hP.mono rfl); have c1 := @perfView_keeps P (hP.mono rfl); have c2 := @perf_keeps P (hP.mono rfl)
  have c3 := @actDeny_keeps P (hP.mono rfl); have c4 := @dapDenied_keeps P (hP.mono rfl); have c5 := @lostIngress_keeps P (hP.mono rfl)
  have c6 := @admitReq_keeps P (hP.mono rfl)
  exact byKeep

theorem readmit_keeps (hP : Closed 0xc000000000000000000000000000000000000000000000000000000001800000200000001000000000000009f000300000000000000000000000000000000000000000a22000010000003ffc100000000000000000000000000000000000000000000000001e00008c04127560cc P) {a1 a2} (h2 : P a2) : P (readmit a1 a2) := by
  unfold readmit
  have c0 := @forL_keeps _ P hP; have c1 := @takeIn_keeps P (hP.mono rfl)
  exact byKeep

theorem receive_keeps (hP : Closed 0xc000000000000000000000000000000000000000000000000000000001800000200000001000000000000009f000308000000000000000000000000000000000000000a22000010000003ffc100000000000000000000000000000000000000000000000001e00008c04127560cc P) {a1 a2 a3} (h3 : P a3) : P (receive a1 a2 a3) := by
  unfold receive
  have c0 := @modPort_keeps P (hP.mono rfl); have c1 := @freshId_keeps P (hP.mono rfl); have c2 := @takeIn_keeps P (hP.mono rfl)
  have c3 := @flag_keeps P (hP.mono rfl); have c4 := @drawTag_keeps P (hP.mono rfl); have c5 := @set_keeps _ P hP
  exact byKeep

theorem discardStale_keeps (hP : Closed 0xa000000000000000000000000000000000000000000000000000000000000000000000000000000a20000010000000000000000000000000000000000000000000000000000000000001e00008c0402000040 P) {a1 a2} (h2 : P a2) : P (discardStale a1 a2) := by
  unfold discardStale
  have c0 := @perf_keeps P (hP.mono rfl); have c1 := @flagX_keeps P (hP.mono rfl); have c2 := @bump_keeps _ P hP
  have c3 := @set_keeps _ P hP
  exact byKeep

theorem takeWaiting_keeps (hP : Closed 0xc000000000000000000000000000000000000000000000000000000001800000200000001000000000000009f000308000000000000000000000000000000000000000a22000010000003ffc100000000000000000000000000000000000000000000000001e00008c04127560cc P) {a1 a2 a3} (h3 : P a3) : P (takeWaiting a1 a2 a3) := by
  have c0 := @receive_keeps P (hP.mono rfl); have c1 := @modPort_keeps P (hP.mono rfl); have c2 := @set_keeps _ P hP
  have c3 := @setB_keeps _ P hP; have c4 := @bump_keeps _ P hP
  induction a2 generalizing a3 with
  | zero => unfold takeWaiting; exact h3
  | succ n ih => unfold takeWaiting; exact byKeep

theorem leaveQueue_keeps (hP : Closed 0x200000000000000000000000000000000000000000000000000000000000000000000000000000000000000000000000000000000000000000000000000000000000000000000000000000000000000000000000000c000 P) {a1 a2 a3} (h3 : P a3) : P (leaveQueue a1 a2 a3) := by
  unfold leaveQueue
  have c0 := @sampleEg_keeps P (hP.mono rfl); have c1 := @addFreed_keeps P (hP.mono rfl); have c2 := @setEgq_keeps P (hP.mono rfl)
  have c3 := @forN_keeps _ P hP; have c4 := @set_keeps _ P hP; have c5 := @setEg_keeps P (hP.mono rfl)
  exact byKeep

theorem pay_keeps (hP : Closed 0x8000 P) {a1 a2 a3 a4} (h4 : P a4) : P (pay a1 a2 a3 a4) := by
  unfold pay
  have c0 := @setEg_keeps P (hP.mono rfl)
  exact byKeep

theorem noteMisfit_keeps (hP : Closed 0x8000 P) {a1 a2 a3} (h3 : P a3) : P (noteMisfit a1 a2 a3) := by
  unfold noteMisfit
  have c0 := @setEg_keeps P (hP.mono rfl)
  exact byKeep

theorem visit_go_keeps (hP : Closed 0x20000090000000000000000000000000000000000000000000000000000000000000000000000000000000000a20000010000000000000000000000000000000000000000000000000000000000001e00008c040200c040 P) {a1 a2 a3 a4 a5 a6} (h4 : ∀ a t, P t → P (a4 a t)) (h6 : P a6) : P (visit.go a1 a2 a3 a4 a5 a6) := by
  have c0 := @perf_keeps P (hP.mono rfl); have c1 := @noteMisfit_keeps P (hP.mono rfl); have c2 := @flag_keeps P (hP.mono rfl)
  have c3 := @bump_keeps _ P hP; have c4 := @leaveQueue_keeps P (hP.mono rfl); have c5 := @pay_keeps P (hP.mono rfl)
  have c6 := @setEg_keeps P (hP.mono rfl); have c7 := @set_keeps _ P hP
  induction a5 generalizing a6 with
  | zero => unfold visit.go; exact h6
  | succ n ih => unfold visit.go; exact byKeep

theorem visit_keeps (hP : Closed 0x20000090000000000000000000000000000000000000000000000000000000000000000000000000000000000a20000010000000000000000000000000000000000000000000000000000000000001e00008c040200c040 P) {a1 a2 a3 a4 a5} (h4 : ∀ a t, P t → P (a4 a t)) (h5 : P a5) : P (visit a1 a2 a3 a4 a5) := by
  unfold visit
  have c0 := @visit_go_keeps P (hP.mono rfl)
  exact byKeep

theorem gain_keeps (hP : Closed 0x8000 P) {a1 a2 a3} (h3 : P a3) : P (gain a1 a2 a3) := by
  unfold gain
  have c0 := @setEg_keeps P (hP.mono rfl)
  exact byKeep

theorem egressUp_keeps (hP : Closed 0x180000000000000000000000000000000000000000000000000000000000000000000000000000000000000000000000000000000000000000000000000000000000000000000000000000000000000000008000 P) {a1 a2} (h2 : P a2) : P (egressUp a1 a2) := by
  unfold egressUp
  have c0 := @setEg_keeps P (hP.mono rfl); have c1 := @computeUnit_keeps P (hP.mono rfl)
  exact byKeep

theorem execGateSpill_keeps (hP : Closed 0xa0000000000000000000000000000000000000000000000000000000000000000000000000000000000000000000000000000000000000000000000000000000000000000000000000000001e00008c0400000040 P) {a1 a2} (h2 : P a2) : Ans P (execGateSpill a1 a2) := by
  unfold execGateSpill
  have c0 := @flag_keeps P (hP.mono rfl); have c1 := @bump_keeps _ P hP; have c2 := @set_keeps _ P hP
  exact byKeep

theorem execQcfgWrite_keeps (hP : Closed 0xc00002000000000000000000000000000000000000000000000000000000000000000000000000000000000000000000000000000000000000000000000000000000000000000000000000000001e00008c0400000040 P) {a1 a2 a3 a4} (h4 : P a4) : Ans P (execQcfgWrite a1 a2 a3 a4) := by
  unfold execQcfgWrite
  have c0 := @atReg_keeps P (hP.mono rfl); have c1 := @set_keeps _ P hP; have c2 := @flag_keeps P (hP.mono rfl)
  exact byKeep

theorem execShapeWrite_keeps (hP : Closed 0x5000002000000000000000000000000000000000000000000000000000000000000000000000000000000000000000000000000000000000000000000000000000000000000000000000000000001e00008c0400008040 P) {a1 a2 a3 a4} (h4 : P a4) : Ans P (execShapeWrite a1 a2 a3 a4) := by
  unfold execShapeWrite
  have c0 := @atReg_keeps P (hP.mono rfl); have c1 := @set_keeps _ P hP; have c2 := @refill_keeps P (hP.mono rfl)
  have c3 := @flag_keeps P (hP.mono rfl)
  exact byKeep

theorem gclSync_keeps (hP : Closed 0x7c00000000000000000000000000000000000000000000000000000000000000000000000000000000000000000000000000000000000000000000000000000000000000000000000000000000000000000000000000 P) {a1 a2} (h2 : P a2) : P (gclSync a1 a2) := by
  unfold gclSync
  have c0 := @setB_keeps _ P hP; have c1 := @set_keeps _ P hP
  exact byKeep

theorem execGateBoundary_keeps (hP : Closed 0x7c00000000000000000000000000000000000000000000000000000000000000000000000000000000000000000000000000000000000000000000000000000000000000000000000000000000000000000000000002 P) {a1 a2} (h2 : P a2) : Ans P (execGateBoundary a1 a2) := by
  unfold execGateBoundary
  have c0 := @gclSync_keeps P (hP.mono rfl); have c1 := @reach_keeps _ P hP
  exact byKeep

theorem execGclCommit_keeps (hP : Closed 0x7c80c000000000000000000000000000000000000000000000000000000000000000000000000000000000000000000000000000000000000000000000000000000000000000000000000000001e00008c0400008040 P) {a1 a2 a3} (h3 : P a3) : Ans P (execGclCommit a1 a2 a3) := by
  unfold execGclCommit
  have c0 := @atReg_keeps P (hP.mono rfl); have c1 := @set_keeps _ P hP; have c2 := @flag_keeps P (hP.mono rfl)
  have c3 := @gclSync_keeps P (hP.mono rfl); have c4 := @setEg_keeps P (hP.mono rfl)
  exact byKeep

theorem execGclCancel_keeps (hP : Closed 0x7c80000000000000000000000000000000000000000000000000000000000000000000000000000000000000000000000000000000000000000000000000000000000000000000000000000000000000000000008000 P) {a1 a2 a3} (h3 : P a3) : Ans P (execGclCancel a1 a2 a3) := by
  unfold execGclCancel
  have c0 := @atReg_keeps P (hP.mono rfl); have c1 := @set_keeps _ P hP; have c2 := @gclSync_keeps P (hP.mono rfl)
  have c3 := @setEg_keeps P (hP.mono rfl)
  exact byKeep

theorem execPendingListStart_keeps (hP : Closed 0x7c00000000000000000000000000000000000000000000000000000000000000000000000000000000000000000000000000000000000000000000000000000000000000000000000000000000000000000000008002 P) {a1 a2} (h2 : P a2) : Ans P (execPendingListStart a1 a2) := by
  unfold execPendingListStart
  have c0 := @reach_keeps _ P hP; have c1 := @gclSync_keeps P (hP.mono rfl); have c2 := @setEg_keeps P (hP.mono rfl)
  exact byKeep

theorem execGateDisable_keeps (hP : Closed 0x7c0007c000000000000000000000000000000000000000000000000000000000000000000000000000000000000000000000000000000000000000000000000000000000000000000000000000000000000000008000 P) {a1 a2 a3} (h3 : P a3) : Ans P (execGateDisable a1 a2 a3) := by
  unfold execGateDisable
  have c0 := @atReg_keeps P (hP.mono rfl); have c1 := @set_keeps _ P hP; have c2 := @gclSync_keeps P (hP.mono rfl)
  have c3 := @setEg_keeps P (hP.mono rfl)
  exact byKeep

theorem gclStep_keeps (hP : Closed 0x7c040000000000000000000000000000000000000000000000000000000000000000000000000000000000000000000000000000000000000000000000000000000000000000000000000000001e00008c0400008040 P) {a1 a2} (h2 : P a2) : P (gclStep a1 a2) := by
  unfold gclStep
  have c0 := @gclSync_keeps P (hP.mono rfl); have c1 := @flag_keeps P (hP.mono rfl); have c2 := @setEg_keeps P (hP.mono rfl)
  have c3 := @set_keeps _ P hP
  exact byKeep

theorem execEgressSampleWindowEnd_keeps (hP : Closed 0x3e020000000000000000000000000000000000000000000000000000000000000000000000000000000000000000000000000000000000000000000000000000000000000000000000000000000000000000000000008002 P) {a1 a2} (h2 : P a2) : Ans P (execEgressSampleWindowEnd a1 a2) := by
  unfold execEgressSampleWindowEnd
  have c0 := @sampleEg_keeps P (hP.mono rfl); have c1 := @reach_keeps _ P hP; have c2 := @set_keeps _ P hP
  have c3 := @count_keeps _ P hP; have c4 := @forN_keeps _ P hP; have c5 := @setEg_keeps P (hP.mono rfl)
  exact byKeep

theorem gclField_keeps (hP : Closed 0x4000000000000000000000000000000000000000000000000000000000000000000000000000000000000000000000000000000000000000000000000000000000000000000000000000001e00008c0400000040 P) {a1 a2 a3 a4} (h3 : ∀ t, P t → P (a3 t)) (h4 : P a4) : P (gclField a1 a2 a3 a4) := by
  unfold gclField
  have c0 := @flag_keeps P (hP.mono rfl); have c1 := @set_keeps _ P hP
  exact byKeep

theorem errFrom_keeps (hP : Closed 0x200000 P) {a1 a2} (h2 : P a2) : P (errFrom a1 a2) := by
  unfold errFrom
  exact byKeep

theorem setTime_keeps (hP : Closed 0x40000000000000000000000000000000000000000000001e00008c0400200048 P) {a1 a2} (h2 : P a2) : P (setTime a1 a2) := by
  unfold setTime
  have c0 := @errFrom_keeps P (hP.mono rfl); have c1 := @spend_keeps _ P hP; have c2 := @setState_keeps P (hP.mono rfl)
  have c3 := @set_keeps _ P hP
  exact byKeep

theorem timeAlarm_keeps (hP : Closed 0x1e00008c0400000040 P) {a1 a2} (h2 : P a2) : P (timeAlarm a1 a2) := by
  unfold timeAlarm
  have c0 := @raise_keeps P (hP.mono rfl)
  exact byKeep

theorem stepTime_keeps (hP : Closed 0x7c040000000000000000000000000000000000000000000000000000000000000000000000000000000000000000000000000000000200000000000000000000000000000000000000000000001e00008c0400208042 P) {a1 a2} (h2 : P a2) : P (stepTime a1 a2) := by
  unfold stepTime
  have c0 := @forN_keeps _ P hP; have c1 := @gclStep_keeps P (hP.mono rfl); have c2 := @timeAlarm_keeps P (hP.mono rfl)
  have c3 := @set_keeps _ P hP
  exact byKeep

theorem slewTime_keeps (hP : Closed 0x200000 P) {a1 a2} (h2 : P a2) : P (slewTime a1 a2) := by
  unfold slewTime
  exact byKeep

theorem timeCtl_keeps (hP : Closed 0x7c040000000000000000000000000000000000000000000000000000000000000000000000000000000000000000000000000000000667000000000000000000000000000000000000000000001e00008c040020804a P) {a1 a2} (h2 : P a2) : P (timeCtl a1 a2) := by
  unfold timeCtl
  have c0 := @putRw_keeps _ P hP; have c1 := @timeAlarm_keeps P (hP.mono rfl); have c2 := @setTime_keeps P (hP.mono rfl)
  have c3 := @set_keeps _ P hP; have c4 := @stepTime_keeps P (hP.mono rfl); have c5 := @slewTime_keeps P (hP.mono rfl)
  exact byKeep

theorem execTimeStep_keeps (hP : Closed 0x7c040000000000000000000000000000000000000000000000000000000000000000000000000000000000000000000000000000000667000000000000000000000000000000000000000000001e00008c040020804a P) {a1 a2} (h2 : P a2) : Ans P (execTimeStep a1 a2) := by
  unfold execTimeStep
  have c0 := @atReg_keeps P (hP.mono rfl); have c1 := @timeCtl_keeps P (hP.mono rfl); have c2 := @set_keeps _ P hP
  exact byKeep

theorem execTimeSlew_keeps (hP : Closed 0x7c040000000000000000000000000000000000000000000000000000000000000000000000000000000000000000000000000000000667000000000000000000000000000000000000000000001e00008c040020804a P) {a1 a2} (h2 : P a2) : Ans P (execTimeSlew a1 a2) := by
  unfold execTimeSlew
  have c0 := @atReg_keeps P (hP.mono rfl); have c1 := @timeCtl_keeps P (hP.mono rfl); have c2 := @set_keeps _ P hP
  exact byKeep

theorem execTrefLoss_keeps (hP : Closed 0x1c0000000000000000000000000000000000000000000001e00008c0400200048 P) {a1 a2} (h2 : P a2) : Ans P (execTrefLoss a1 a2) := by
  unfold execTrefLoss
  have c0 := @timeAlarm_keeps P (hP.mono rfl); have c1 := @setTime_keeps P (hP.mono rfl); have c2 := @set_keeps _ P hP
  exact byKeep

theorem execTrefLock_keeps (hP : Closed 0xc0000000000000000000000000000000000000000000001e00008c0400200048 P) {a1} (h1 : P a1) : Ans P (execTrefLock a1) := by
  unfold execTrefLock
  have c0 := @set_keeps _ P hP; have c1 := @setTime_keeps P (hP.mono rfl)
  exact byKeep

theorem execPpsEdge_keeps (hP : Closed 0x7c040000000000000000000000000000000000000000000000000000000000000000000000000000000000000000000000000000000340000000000000000000000000000000000000000000001e00008c040020804a P) {a1 a2} (h2 : P a2) : Ans P (execPpsEdge a1 a2) := by
  unfold execPpsEdge
  have c0 := @set_keeps _ P hP; have c1 := @setTime_keeps P (hP.mono rfl); have c2 := @stepTime_keeps P (hP.mono rfl)
  exact byKeep

theorem execPpsOutSecond_keeps (hP : Closed 0x200006 P) {a1} (h1 : P a1) : Ans P (execPpsOutSecond a1) := by
  unfold execPpsOutSecond
  have c0 := @reach_keeps _ P hP; have c1 := @emit_keeps _ P hP
  exact byKeep

theorem execPtmRequest_keeps (hP : Closed 0x4 P) {a1 a2} (h2 : P a2) : Ans P (execPtmRequest a1 a2) := by
  unfold execPtmRequest
  have c0 := @emit_keeps _ P hP
  exact byKeep

end Sys2Proof.Machine
end

