-- ==== Sys2Proof/Laws/KeepBlk.lean ====
section
/-! SUPPORT. What the operations of Beamlinks, conversions and responses may write: each lemma names, as a mask (see Closed), the parts of the state that its operation can change. -/

namespace Sys2Proof.Machine

set_option linter.all false
set_option Elab.async false

variable {P : State → Prop}

theorem setL_keeps (hP : Closed 0x4000000000000000000000000000000000000000000000000000000000000000000000000000000000000000000000000000000000000000000000000000000000000000000000000000000000000001e00008c0400000040 P) {a1 a2 a3} (h3 : P a3) : P (setL a1 a2 a3) := by
  unfold setL
  have c0 := @setState_keeps P (hP.mono rfl); have c1 := @set_keeps _ P hP
  exact byKeep

theorem blkFlag_keeps (hP : Closed 0x1e00008c0400000040 P) {a1 a2 a3} (h1 : ∀ s v i j, P s → P (State.set s a1 v i j)) (h3 : P a3) : P (blkFlag a1 a2 a3) := by
  unfold blkFlag
  have c0 := @flag_keeps P (hP.mono rfl)
  exact byKeep

theorem protoErr_keeps (hP : Closed 0x80 P) {a1 a2} (h2 : P a2) : P (protoErr a1 a2) := by
  unfold protoErr
  have c0 := @report_keeps P (hP.mono rfl)
  exact byKeep

theorem linkReset_keeps (hP : Closed 0x180001e0000000000000000000000000000000000000000000000000000000000000000000000000000000000000000000000000000000000000000000000000000000000000000000000000000000000000000000000000000008000000 P) {a1 a2} (h2 : P a2) : P (linkReset a1 a2) := by
  unfold linkReset
  have c0 := @set_keeps _ P hP; have c1 := @forN_keeps _ P hP; have c2 := @modBlk_keeps P (hP.mono rfl)
  exact byKeep

theorem sendBead_keeps (hP : Closed 0x8000004 P) {a1 a2 a3 a4 a5} (h5 : P a5) : P (sendBead a1 a2 a3 a4 a5) := by
  unfold sendBead
  have c0 := @emit_keeps _ P hP; have c1 := @modBlk_keeps P (hP.mono rfl)
  exact byKeep

theorem takeOut_keeps (hP : Closed 0x10000000000000000000000000000000000000000000000000000000000000000000000000000000000000000000000000000000000000000000000000000000000000000000000000000000000000000000000000000000000008000000 P) {a1 a2 a3} (h3 : P a3) : P (takeOut a1 a2 a3) := by
  unfold takeOut
  have c0 := @set_keeps _ P hP; have c1 := @modBlk_keeps P (hP.mono rfl)
  exact byKeep

theorem sendBeads_keeps (hP : Closed 0xc0000000000000000000000000000000000000200000000000000000000000000000000000000000000000000000000000000000000000000000000000000000000000a20000010000000000000000000000000000000000000000000000000000000000001e00008c040a200044 P) {a1 a2} (h2 : P a2) : P (sendBeads a1 a2) := by
  unfold sendBeads
  have c0 := @modBlk_keeps P (hP.mono rfl); have c1 := @sendBead_keeps P (hP.mono rfl); have c2 := @injected_keeps P (hP.mono rfl)
  have c3 := @set_keeps _ P hP; have c4 := @perf_keeps P (hP.mono rfl); have c5 := @forN_keeps _ P hP
  exact byKeep

theorem sendIdle_keeps (hP : Closed 0x8000004 P) {a1 a2} (h2 : P a2) : P (sendIdle a1 a2) := by
  unfold sendIdle
  have c0 := @sendBead_keeps P (hP.mono rfl)
  exact byKeep

theorem resend_keeps (hP : Closed 0xc0000000000000000000000000000000000040000000000000000000000000000000000000000000000000000000000000000000000000000000000000000000000000a20000010000000000000000000000000000000000000000000000000000000000001e00008c040a200044 P) {a1 a2 a3 a4} (h4 : P a4) : P (resend a1 a2 a3 a4) := by
  unfold resend
  have c0 := @setBlk_keeps P (hP.mono rfl); have c1 := @perf_keeps P (hP.mono rfl); have c2 := @sendBead_keeps P (hP.mono rfl)
  have c3 := @injected_keeps P (hP.mono rfl); have c4 := @bump_keeps _ P hP; have c5 := @set_keeps _ P hP
  exact byKeep

theorem takeAck_keeps (hP : Closed 0xc0000000000000000000000000000000002040408000000000000000000000000000000000000000000000000000000000000000000000000000000000000000000000a20000010000000000000000000000000000000000000000000000000000000000001e00008c040a200044 P) {a1 a2 a3 a4} (h4 : P a4) : P (takeAck a1 a2 a3 a4) := by
  unfold takeAck
  have c0 := @blkFlag_keeps P (hP.mono rfl); have c1 := @bump_keeps _ P hP; have c2 := @set_keeps _ P hP
  have c3 := @modBlk_keeps P (hP.mono rfl); have c4 := @forL_keeps _ P hP; have c5 := @resend_keeps P (hP.mono rfl)
  exact byKeep

theorem takeGrant_keeps (hP : Closed 0x8000000000000000000000000000000000000000000000000000000000000000000000000000000000000000000000000000000000000000000000000000000000000000000000000000000000000000000000000000000000000000000 P) {a1 a2 a3 a4} (h4 : P a4) : P (takeGrant a1 a2 a3 a4) := by
  unfold takeGrant
  have c0 := @set_keeps _ P hP
  exact byKeep

theorem ctrlOut_keeps (hP : Closed 0x8000004 P) {a1 a2 a3 a4} (h4 : P a4) : P (ctrlOut a1 a2 a3 a4) := by
  unfold ctrlOut
  have c0 := @sendBead_keeps P (hP.mono rfl)
  exact byKeep

theorem timeOut_keeps (hP : Closed 0x8000004 P) {a1 a2 a3 a4} (h4 : P a4) : P (timeOut a1 a2 a3 a4) := by
  unfold timeOut
  have c0 := @sendBead_keeps P (hP.mono rfl)
  exact byKeep

theorem sendCtrl_keeps (hP : Closed 0x8000004 P) {a1 a2 a3 a4} (h4 : P a4) : P (sendCtrl a1 a2 a3 a4) := by
  unfold sendCtrl
  have c0 := @modBlk_keeps P (hP.mono rfl); have c1 := @ctrlOut_keeps P (hP.mono rfl)
  exact byKeep

theorem answerCtrl_keeps (hP : Closed 0x8000004 P) {a1 a2 a3 a4} (h4 : P a4) : P (answerCtrl a1 a2 a3 a4) := by
  unfold answerCtrl
  have c0 := @ctrlOut_keeps P (hP.mono rfl)
  exact byKeep

theorem answered_keeps (hP : Closed 0x8000000 P) {a1 a2 a3} (h3 : P a3) : P (answered a1 a2 a3) := by
  unfold answered
  have c0 := @modBlk_keeps P (hP.mono rfl)
  exact byKeep

theorem sendTopo_keeps (hP : Closed 0x8000004 P) {a1} (h1 : P a1) : P (sendTopo a1) := by
  unfold sendTopo
  have c0 := @forL_keeps _ P hP; have c1 := @sendCtrl_keeps P (hP.mono rfl)
  exact byKeep

theorem routeSync_keeps (hP : Closed 0xf0000000000000000000000000000000000000000000000000000000000000000000000000000000000000000000000000000000000000000000000000000000000000000000000000000000000000000000000000000000000000010000000 P) {a1 a2} (h2 : P a2) : P (routeSync a1 a2) := by
  unfold routeSync
  have c0 := @set_keeps _ P hP
  exact byKeep

theorem setTlock_keeps (hP : Closed 0x4000000000000000000000000000000000000000000000000000000000000000000000000000000000000000000000000000000000000000000000000000000000000000000000000000000000000000000000000000000000000000000080 P) {a1 a2 a3} (h3 : P a3) : P (setTlock a1 a2 a3) := by
  unfold setTlock
  have c0 := @protoErr_keeps P (hP.mono rfl); have c1 := @set_keeps _ P hP; have c2 := @setB_keeps _ P hP
  exact byKeep

theorem timeRole_keeps (hP : Closed 0x40000000000000000000000000000000000000000000001e00008c0400200048 P) {a1} (h1 : P a1) : P (timeRole a1) := by
  unfold timeRole
  have c0 := @setTime_keeps P (hP.mono rfl)
  exact byKeep

theorem masterSync_keeps (hP : Closed 0x67000000000000000000000000000000000000000000000000000000000000000000000000000000000000000000000000000000000000000000000000000040000000000000000000000000000000000000000000001e00008c04002000c8 P) {a1} (h1 : P a1) : P (masterSync a1) := by
  unfold masterSync
  have c0 := @set_keeps _ P hP; have c1 := @setB_keeps _ P hP; have c2 := @setTlock_keeps P (hP.mono rfl)
  have c3 := @timeRole_keeps P (hP.mono rfl)
  exact byKeep

theorem relaySync_keeps (hP : Closed 0x4000000000000000000000000000000000000000000000000000000000000000000000000000000000000000000000000000000000000000000000000000000000000000000000000000000000000000000000000000000000 P) {a1} (h1 : P a1) : P (relaySync a1) := by
  unfold relaySync
  have c0 := @forN_keeps _ P hP; have c1 := @setB_keeps _ P hP; have c2 := @set_keeps _ P hP
  exact byKeep

theorem retryHeld_keeps (hP : Closed 0xc000000000000000000000000000000000000000000000000000000001800000200000001000000000000009f000300000000000000000000000000000000000000000a22000010000003ffc100000000000000000000000000000000000000000000000001e00008c04127560cc P) {a1} (h1 : P a1) : P (retryHeld a1) := by
  unfold retryHeld
  have c0 := @readmit_keeps P (hP.mono rfl)
  exact byKeep

theorem cascadeSync_keeps (hP : Closed 0xc0000000000000000000000000000f7f80000000004000000000000001800000200000001000000000000009f000300000000000000000000000000000000000000000a22000010000003ffc100040000000000000000000000000000000000000000000001e00008c041a7560cc P) {a1} (h1 : P a1) : P (cascadeSync a1) := by
  unfold cascadeSync
  have c0 := @forN_keeps _ P hP; have c1 := @routeSync_keeps P (hP.mono rfl); have c2 := @set_keeps _ P hP
  have c3 := @relaySync_keeps P (hP.mono rfl); have c4 := @masterSync_keeps P (hP.mono rfl)
  have c5 := @retryHeld_keeps P (hP.mono rfl); have c6 := @sendTopo_keeps P (hP.mono rfl)
  exact byKeep

theorem blkHand_keeps (hP : Closed 0x100000000000000000000000000000000000000000000000000000000000000000000000000000000000000000000000000000a20000010000000000000000000000000000000000000000000000000000000000001e00008c040a000040 P) {a1 a2 a3} (h3 : P a3) : P (blkHand a1 a2 a3) := by
  unfold blkHand
  have c0 := @takeOut_keeps P (hP.mono rfl); have c1 := @handed_keeps P (hP.mono rfl)
  exact byKeep

theorem blkFlush_keeps (hP : Closed 0xc0000000000000000000000000000000000000200000000000000000000000000000000000000000000000000000000000000000000000000000000000000000000000a20000010000000000000000000000000000000000000000000000000000000000001e00008c040a200044 P) {a1 a2} (h2 : P a2) : P (blkFlush a1 a2) := by
  unfold blkFlush
  have c0 := @sendBeads_keeps P (hP.mono rfl); have c1 := @sendIdle_keeps P (hP.mono rfl)
  exact byKeep

theorem retarget_keeps (hP : Closed 0x4000 P) {a1 a2} (h2 : P a2) : P (retarget a1 a2) := by
  unfold retarget
  have c0 := @forN_keeps _ P hP; have c1 := @setEgq_keeps P (hP.mono rfl); have c2 := @forL_keeps _ P hP
  have c3 := @addAlloc_keeps P (hP.mono rfl); have c4 := @addFreed_keeps P (hP.mono rfl)
  exact byKeep

theorem joinPeer_keeps (hP : Closed 0x10000000 P) {a1 a2} (h2 : P a2) : P (joinPeer a1 a2) := by
  unfold joinPeer
  exact byKeep

theorem fenceDone_keeps (hP : Closed 0xc0000000000000000000000000000f7f80000000004000000000000001800000200000001000000000000009f000300000000000000000000000000000000000000000a22000010000003ffc100040000000000000000000000000000000000000000000001e00008c041a7560cc P) {a1 a2} (h2 : P a2) : P (fenceDone a1 a2) := by
  unfold fenceDone
  have c0 := @retarget_keeps P (hP.mono rfl); have c1 := @cascadeSync_keeps P (hP.mono rfl)
  exact byKeep

theorem becomeActive_keeps (hP : Closed 0xc0000000000000000000000000000f7f80000000004400000000000001800000200000001000000000000009f000300000000000000000000000000000000000000000a22000010000003ffc100040000000000000000000000000000000000000000000001e00008c041a7560cc P) {a1 a2} (h2 : P a2) : P (becomeActive a1 a2) := by
  unfold becomeActive
  have c0 := @joinPeer_keeps P (hP.mono rfl); have c1 := @setL_keeps P (hP.mono rfl); have c2 := @cascadeSync_keeps P (hP.mono rfl)
  have c3 := @retarget_keeps P (hP.mono rfl)
  exact byKeep

theorem linkLeave_keeps (hP : Closed 0xc0000000000000000000000000000f7f980001e0024400000000000001800000200000001000000000000009f000300000000000000000000000000000000000000000a22000010000003ffc100040000000000000000000000000000000000000000000001e00008c041a7560cc P) {a1 a2 a3} (h3 : P a3) : P (linkLeave a1 a2 a3) := by
  unfold linkLeave
  have c0 := @setL_keeps P (hP.mono rfl); have c1 := @linkReset_keeps P (hP.mono rfl); have c2 := @modBlk_keeps P (hP.mono rfl)
  have c3 := @retarget_keeps P (hP.mono rfl); have c4 := @cascadeSync_keeps P (hP.mono rfl)
  have c5 := @blkFlag_keeps P (hP.mono rfl); have c6 := @set_keeps _ P hP
  exact byKeep

theorem attemptFail_keeps (hP : Closed 0xc0000000000000000000000000000f7f980001e0034400000000000001800000200000001000000000000009f000300000000000000000000000000000000000000000a22000010000003ffc100040000000000000000000000000000000000000000000001e00008c041a7560cc P) {a1 a2} (h2 : P a2) : P (attemptFail a1 a2) := by
  unfold attemptFail
  have c0 := @linkLeave_keeps P (hP.mono rfl); have c1 := @bump_keeps _ P hP; have c2 := @set_keeps _ P hP
  exact byKeep

theorem trainStart_keeps (hP : Closed 0x180001e00004000000000000000000000000000000000000000000000000000000000000000000000000000000000000000000000000000000000000000000000000000000000000000000000000000000000000001e00008c0408000040 P) {a1 a2} (h2 : P a2) : P (trainStart a1 a2) := by
  unfold trainStart
  have c0 := @setL_keeps P (hP.mono rfl); have c1 := @linkReset_keeps P (hP.mono rfl)
  exact byKeep

theorem enterHello_keeps (hP : Closed 0x180001e00004000000000000000000000000000000000000000000000000000000000000000000000000000000000000000000000000000000000000000000000000000000000000000000000000000000000000001e00008c040800004c P) {a1 a2} (h2 : P a2) : P (enterHello a1 a2) := by
  unfold enterHello
  have c0 := @linkReset_keeps P (hP.mono rfl); have c1 := @setL_keeps P (hP.mono rfl); have c2 := @modBlk_keeps P (hP.mono rfl)
  have c3 := @sendCtrl_keeps P (hP.mono rfl); have c4 := @spend_keeps _ P hP
  exact byKeep

theorem sendDepart_keeps (hP : Closed 0x18000004 P) {a1 a2} (h2 : P a2) : P (sendDepart a1 a2) := by
  unfold sendDepart
  have c0 := @forL_keeps _ P hP; have c1 := @sendCtrl_keeps P (hP.mono rfl)
  exact byKeep

theorem relayLost_keeps (hP : Closed 0xc0000000000000000000000000000000000000000000000000000000018000000000000000000000000000000000000000000000000000000000000000000000000000a20000010000000000000000000000000000000000000000000000000000000000001e00008c04022040c0 P) {a1 a2 a3 a4} (h4 : P a4) : P (relayLost a1 a2 a3 a4) := by
  unfold relayLost
  have c0 := @forL_keeps _ P hP; have c1 := @enqueue_keeps P (hP.mono rfl); have c2 := @report_keeps P (hP.mono rfl)
  exact byKeep

theorem relayOn_keeps (hP : Closed 0xc0000000000000000000000000000000000000000000000000000000018000000000000000000000000000000000000000000000000000000000000000000000000000a20000010000000000000000000000000000000000000000000000000000000000001e00008c04022040c0 P) {a1 a2 a3} (h3 : P a3) : P (relayOn a1 a2 a3) := by
  unfold relayOn
  have c0 := @relayLost_keeps P (hP.mono rfl); have c1 := @perf_keeps P (hP.mono rfl); have c2 := @enqueue_keeps P (hP.mono rfl)
  exact byKeep

theorem rspIn_keeps (hP : Closed 0xc0000000000000000000000000000000000000000000000000000000018000000000000000000000000000000000000000000000000000000000000000000000000000a20000010000000000000000000000000000000000000000000000000000000000001e00008c04022040c0 P) {a1 a2 a3} (h3 : P a3) : P (rspIn a1 a2 a3) := by
  unfold rspIn
  have c0 := @enqueue_keeps P (hP.mono rfl)
  exact byKeep

theorem homeIn_keeps (hP : Closed 0xc0000000000000000000000000000000000000000000000000000000018000000000000000000000000000000000000000000000000000000000000000000000000000a20000010000000000000000000000000000000000000000000000000000000000001e00008c04022040c0 P) {a1 a2 a3 a4} (h4 : P a4) : P (homeIn a1 a2 a3 a4) := by
  unfold homeIn
  have c0 := @enqueue_keeps P (hP.mono rfl)
  exact byKeep

theorem snoopIn_keeps (hP : Closed 0xc0000000000000000000000000000000000000000000000000000000018000000000000000000000000000000000000000000000000000000000000000000000000000a20000010000000000000000000000000000000000000000000000000000000000001e00008c04022040c0 P) {a1 a2 a3} (h3 : P a3) : P (snoopIn a1 a2 a3) := by
  unfold snoopIn
  have c0 := @enqueue_keeps P (hP.mono rfl)
  exact byKeep

theorem seeHost_keeps (hP : Closed 0x40000 P) {a1 a2 a3 a4 a5} (h5 : P a5) : P (seeHost a1 a2 a3 a4 a5) := by
  unfold seeHost
  exact byKeep

theorem requestIn_keeps (hP : Closed 0xc000000000000000000000000000000000000000000000000000000001800000200000001000000000000009f000300000000000000000000000000000000000000000a22000010000003ffc100000000000000000000000000000000000000000000000001e00008c04127560cc P) {a1 a2 a3} (h3 : P a3) : P (requestIn a1 a2 a3) := by
  unfold requestIn
  have c0 := @freshId_keeps P (hP.mono rfl); have c1 := @seeHost_keeps P (hP.mono rfl); have c2 := @routeLd_keeps P (hP.mono rfl)
  have c3 := @homeIn_keeps P (hP.mono rfl); have c4 := @takeIn_keeps P (hP.mono rfl)
  exact byKeep

theorem blkIngress_keeps (hP : Closed 0xc000000000000000000000000000000000000000000000000000000a01800000200000001000000000000009f000300000000000000000000000000000000000000000a22000010000003ffc100000000000000000000000000000000000000000000000001e00008c04127560cc P) {a1 a2 a3} (h3 : P a3) : P (blkIngress a1 a2 a3) := by
  unfold blkIngress
  have c0 := @discardStale_keeps P (hP.mono rfl); have c1 := @relayOn_keeps P (hP.mono rfl)
  have c2 := @homeIn_keeps P (hP.mono rfl); have c3 := @rspIn_keeps P (hP.mono rfl); have c4 := @snoopIn_keeps P (hP.mono rfl)
  have c5 := @requestIn_keeps P (hP.mono rfl)
  exact byKeep

theorem seeMaster_keeps (hP : Closed 0xc0000000000000000000000000000f7f80000000004000000000000001800000200000001000000000000009f000300000000000000000000000000000000000000000a22000010000003ffc100040000000000000000000000000000000000000000000001e00008c041a7560cc P) {a1 a2} (h2 : P a2) : P (seeMaster a1 a2) := by
  unfold seeMaster
  have c0 := @cascadeSync_keeps P (hP.mono rfl); have c1 := @set_keeps _ P hP
  exact byKeep

theorem takeHeader_keeps (hP : Closed 0xc0000000000000000000000000000f7f88204040804000000000000001800000200000001000000000000009f000300000000000000000000000000000000000000000a22000010000003ffc100040000000000000000000000000000000000000000000001e00008c041a7560cc P) {a1 a2 a3} (h3 : P a3) : P (takeHeader a1 a2 a3) := by
  unfold takeHeader
  have c0 := @seeMaster_keeps P (hP.mono rfl); have c1 := @takeGrant_keeps P (hP.mono rfl)
  have c2 := @takeAck_keeps P (hP.mono rfl)
  exact byKeep

theorem extract_keeps (hP : Closed 0xc000000000000000000000000000000000000080000000000000000a01800000200000001000000000000009f000300000000000000000000000000000000000000000a22000010000003ffc100000000000000000000000000000000000000000000000001e00008c041a7560cc P) {a1 a2 a3} (h3 : P a3) : P (extract a1 a2 a3) := by
  have c0 := @setBlk_keeps P (hP.mono rfl); have c1 := @forL_keeps _ P hP; have c2 := @blkIngress_keeps P (hP.mono rfl)
  have c3 := @set_keeps _ P hP; have c4 := @setB_keeps _ P hP; have c5 := @bump_keeps _ P hP
  induction a2 generalizing a3 with
  | zero => unfold extract; exact h3
  | succ n ih => unfold extract; exact byKeep

theorem heldSync_keeps (hP : Closed 0x100000000000000000000000000000000000000000000000000000000000000000000000000000000000000000000000000000000000000000000000000000000000000000000000000000000000000000000000000000000000000 P) {a1 a2} (h2 : P a2) : P (heldSync a1 a2) := by
  unfold heldSync
  have c0 := @set_keeps _ P hP
  exact byKeep

theorem placeBead_keeps (hP : Closed 0xc000000000000000000000000000000000108180080000000000000a01800000200000001000000000000009f000300000000000000000000000000000000000000000a22000010000003ffc100000000000000000000000000000000000000000000000001e00008c041a7560cc P) {a1 a2 a3 a4} (h4 : P a4) : P (placeBead a1 a2 a3 a4) := by
  unfold placeBead
  have c0 := @perf_keeps P (hP.mono rfl); have c1 := @bump_keeps _ P hP; have c2 := @setBlk_keeps P (hP.mono rfl)
  have c3 := @heldSync_keeps P (hP.mono rfl); have c4 := @extract_keeps P (hP.mono rfl); have c5 := @protoErr_keeps P (hP.mono rfl)
  have c6 := @blkFlag_keeps P (hP.mono rfl); have c7 := @set_keeps _ P hP
  exact byKeep

theorem execDataBead_keeps (hP : Closed 0xc0000000000000000000000000000f7f8830c1c0884000000000000a01800000200000001000000000000009f000300000000000000000000000000000000000000000a22000010000003ffc100040000000000000000000000000000000000000000000001e00008c041a7560cc P) {a1 a2 a3 a4} (h4 : P a4) : Ans P (execDataBead a1 a2 a3 a4) := by
  unfold execDataBead
  have c0 := @takeHeader_keeps P (hP.mono rfl); have c1 := @placeBead_keeps P (hP.mono rfl)
  exact byKeep

theorem execBeadCrcFail_keeps (hP : Closed 0x10000000000000000000000000000000000000000000000000000000000000000000000000000000000000000000000000000000000000000000000000000000000000000000000000000000000000000000000000000000000000000 P) {a1 a2} (h2 : P a2) : Ans P (execBeadCrcFail a1 a2) := by
  unfold execBeadCrcFail
  have c0 := @bump_keeps _ P hP; have c1 := @set_keeps _ P hP
  exact byKeep

theorem execIdleBead_keeps (hP : Closed 0xc0000000000000000000000000000f7f88204040804000000000000001800000200000001000000000000009f000300000000000000000000000000000000000000000a22000010000003ffc100040000000000000000000000000000000000000000000001e00008c041a7560cc P) {a1 a2 a3 a4} (h4 : P a4) : Ans P (execIdleBead a1 a2 a3 a4) := by
  unfold execIdleBead
  have c0 := @takeHeader_keeps P (hP.mono rfl); have c1 := @forL_keeps _ P hP; have c2 := @takeGrant_keeps P (hP.mono rfl)
  exact byKeep

theorem spareSync_keeps (hP : Closed 0x2000000000000000000000000000000000000000000000000000000000000000000000000000000000000000000000000000000000000000000000000000000000000000000000000000000000000000000000000000000000 P) {a1 a2} (h2 : P a2) : P (spareSync a1 a2) := by
  unfold spareSync
  have c0 := @setB_keeps _ P hP; have c1 := @set_keeps _ P hP
  exact byKeep

theorem laneSwitch_keeps (hP : Closed 0x4000000000000000000000000000000001c0000020200000000000000000000000000000000000000000000000000000000000000000000000000000000000000000000000000000000000000000000000000000000000000007000000000000e0000000001e00008c04082000c0 P) {a1 a2 a3 a4 a5} (h5 : P a5) : P (laneSwitch a1 a2 a3 a4 a5) := by
  unfold laneSwitch
  have c0 := @bringIn_keeps P (hP.mono rfl); have c1 := @set_keeps _ P hP; have c2 := @blkFlag_keeps P (hP.mono rfl)
  have c3 := @spareSync_keeps P (hP.mono rfl); have c4 := @modBlk_keeps P (hP.mono rfl)
  exact byKeep

theorem laneSubStart_keeps (hP : Closed 0x8000004 P) {a1 a2 a3} (h3 : P a3) : P (laneSubStart a1 a2 a3) := by
  unfold laneSubStart
  have c0 := @sendCtrl_keeps P (hP.mono rfl); have c1 := @setBlk_keeps P (hP.mono rfl)
  exact byKeep

theorem linkFailRecord_keeps (hP : Closed 0x80 P) {a1 a2} (h2 : P a2) : P (linkFailRecord a1 a2) := by
  unfold linkFailRecord
  have c0 := @report_keeps P (hP.mono rfl)
  exact byKeep

theorem startHandoff_keeps (hP : Closed 0x8000004 P) {a1 a2} (h2 : P a2) : P (startHandoff a1 a2) := by
  unfold startHandoff
  have c0 := @sendCtrl_keeps P (hP.mono rfl); have c1 := @modBlk_keeps P (hP.mono rfl)
  exact byKeep

theorem moveStream_keeps (hP : Closed 0xc0000000000000000000000000000000000000004004000000000020018000000000000000000000000000000000000000000000000000000000000000000000000000a200000100000000000000000000000000000000000007000000000000e0000000001e00008c040a2040c0 P) {a1 a2 a3} (h3 : P a3) : P (moveStream a1 a2 a3) := by
  unfold moveStream
  have c0 := @modBlk_keeps P (hP.mono rfl); have c1 := @relayLost_keeps P (hP.mono rfl); have c2 := @forL_keeps _ P hP
  have c3 := @addAlloc_keeps P (hP.mono rfl); have c4 := @addFreed_keeps P (hP.mono rfl); have c5 := @setEgq_keeps P (hP.mono rfl)
  have c6 := @bringIn_keeps P (hP.mono rfl); have c7 := @set_keeps _ P hP; have c8 := @retarget_keeps P (hP.mono rfl)
  have c9 := @blkFlag_keeps P (hP.mono rfl); have c10 := @setL_keeps P (hP.mono rfl)
  exact byKeep

theorem linkDead_keeps (hP : Closed 0xc0000000000000000000000000000f7f80000100024400000000000001800000200000001000000000000009f000300000000000000000000000000000000000000000a22000010000003ffc100040000000000000000000000000001000000000000000041e00008c041a7561cc P) {a1 a2} (h2 : P a2) : P (linkDead a1 a2) := by
  unfold linkDead
  have c0 := @forN_keeps _ P hP; have c1 := @closeDec_keeps P (hP.mono rfl); have c2 := @blkFlag_keeps P (hP.mono rfl)
  have c3 := @setL_keeps P (hP.mono rfl); have c4 := @heldSync_keeps P (hP.mono rfl); have c5 := @modBlk_keeps P (hP.mono rfl)
  have c6 := @startHandoff_keeps P (hP.mono rfl); have c7 := @cascadeSync_keeps P (hP.mono rfl)
  have c8 := @forL_keeps _ P hP; have c9 := @set_keeps _ P hP
  exact byKeep

theorem linkFail_keeps (hP : Closed 0xc0000000000000000000000000000f7f980001e0034400000000000001800000200000001000000000000009f000300000000000000000000000000000000000000000a22000010000003ffc100040000000000000000000000000001000000000000000041e00008c041a7561cc P) {a1 a2} (h2 : P a2) : P (linkFail a1 a2) := by
  unfold linkFail
  have c0 := @attemptFail_keeps P (hP.mono rfl); have c1 := @linkDead_keeps P (hP.mono rfl)
  have c2 := @linkFailRecord_keeps P (hP.mono rfl)
  exact byKeep

theorem handoffRetry_keeps (hP : Closed 0x8000004 P) {a1} (h1 : P a1) : P (handoffRetry a1) := by
  unfold handoffRetry
  have c0 := @forL_keeps _ P hP; have c1 := @startHandoff_keeps P (hP.mono rfl)
  exact byKeep

theorem laneDead_keeps (hP : Closed 0xc0000000000000000000000000000f7f984001e0034400000000000001800000200000001000000000000009f000300000000000000000000000000000000000000000a22000010000003ffc100040000000000000000000000000001000000040000000041e00008c041a7561cc P) {a1 a2 a3} (h3 : P a3) : P (laneDead a1 a2 a3) := by
  unfold laneDead
  have c0 := @closeDec_keeps P (hP.mono rfl); have c1 := @linkFail_keeps P (hP.mono rfl); have c2 := @fenceUnit_keeps P (hP.mono rfl)
  have c3 := @set_keeps _ P hP; have c4 := @laneSubStart_keeps P (hP.mono rfl)
  exact byKeep

theorem laneHard_keeps (hP : Closed 0xc0000000000000000000000000000f7f984001e0034400000000000001800000200000001000000000000009f000300000000000000000000000000000000000000000a22000010000003ffc100040000000000000000000000000001000000040000000041e00008c041a7561cc P) {a1 a2 a3} (h3 : P a3) : P (laneHard a1 a2 a3) := by
  unfold laneHard
  have c0 := @laneDead_keeps P (hP.mono rfl); have c1 := @report_keeps P (hP.mono rfl)
  exact byKeep

theorem spareDead_keeps (hP : Closed 0xc0000000000000000000000000000f7f984001e0036400000000000001800000200000001000000000000009f000300000000000000000000000000000000000000000a22000010000003ffc100040000000000000000000000000001000000041d80000041e00008c041a7561cc P) {a1 a2} (h2 : P a2) : P (spareDead a1 a2) := by
  unfold spareDead
  have c0 := @fenceUnit_keeps P (hP.mono rfl); have c1 := @set_keeps _ P hP; have c2 := @noteSpare_keeps P (hP.mono rfl)
  have c3 := @setSpare_keeps P (hP.mono rfl); have c4 := @spareSync_keeps P (hP.mono rfl)
  have c5 := @linkFail_keeps P (hP.mono rfl); have c6 := @modBlk_keeps P (hP.mono rfl)
  exact byKeep

theorem spareFail_keeps (hP : Closed 0xc0000000000000000000000000000f7f984001e0036400000000000001800000200000001000000000000009f000300000000000000000000000000000000000000000a22000010000003ffc100040000000000000000000000000001000000041d80000041e00008c041a7561cc P) {a1 a2} (h2 : P a2) : P (spareFail a1 a2) := by
  unfold spareFail
  have c0 := @spareDead_keeps P (hP.mono rfl); have c1 := @report_keeps P (hP.mono rfl)
  exact byKeep

theorem execCodewordReceived_keeps (hP : Closed 0xc0000000000000000000000000000f7f9dc601e0336400000000000001800000200000001000000000000009f000300000000000000000000000000000000000000000a22000010000003ffc1000400000000000000000000007000010000000e0000000041e00008c041a7561cc P) {a1 a2 a3 a4} (h4 : P a4) : Ans P (execCodewordReceived a1 a2 a3 a4) := by
  unfold execCodewordReceived
  have c0 := @modBlk_keeps P (hP.mono rfl); have c1 := @laneSwitch_keeps P (hP.mono rfl); have c2 := @bump_keeps _ P hP
  have c3 := @perf_keeps P (hP.mono rfl); have c4 := @forL_keeps _ P hP; have c5 := @blkFlag_keeps P (hP.mono rfl)
  have c6 := @linkFail_keeps P (hP.mono rfl); have c7 := @set_keeps _ P hP
  exact byKeep

theorem execRetransmitTimeout_keeps (hP : Closed 0xc0000000000000000000000000000f7f980841e0074400000000000001800000200000001000000000000009f000300000000000000000000000000000000000000000a22000010000003ffc100040000000000000000000000000001000000000000000041e00008c041a7561ce P) {a1 a2} (h2 : P a2) : Ans P (execRetransmitTimeout a1 a2) := by
  unfold execRetransmitTimeout
  have c0 := @reach_keeps _ P hP; have c1 := @blkFlag_keeps P (hP.mono rfl); have c2 := @bump_keeps _ P hP
  have c3 := @resend_keeps P (hP.mono rfl); have c4 := @modBlk_keeps P (hP.mono rfl); have c5 := @linkFail_keeps P (hP.mono rfl)
  have c6 := @set_keeps _ P hP
  exact byKeep

theorem helloFail_keeps (hP : Closed 0x10084000000000000000000000000000000000000000000000000000000000000000000000000000000000000000000000000000000000000000000000000000000000000000000000000000000000000001e00008c04080000c0 P) {a1 a2 a3} (h3 : P a3) : P (helloFail a1 a2 a3) := by
  unfold helloFail
  have c0 := @protoErr_keeps P (hP.mono rfl); have c1 := @blkFlag_keeps P (hP.mono rfl); have c2 := @setL_keeps P (hP.mono rfl)
  have c3 := @modBlk_keeps P (hP.mono rfl); have c4 := @set_keeps _ P hP
  exact byKeep

theorem execHello_keeps (hP : Closed 0xc0000000000000000000000000000f7f8000000100dc00000000000001800000200000001000000000000009f000300000000000000000000000000000000000000000a22000010000003ffc100040000000000000000000000000000000000000000000001e00008c041a7560cc P) {a1 a2 a3 a4 a5 a6 a7 a8 a9 a10 a11} (h11 : P a11) : Ans P (execHello a1 a2 a3 a4 a5 a6 a7 a8 a9 a10 a11) := by
  unfold execHello
  have c0 := @answerCtrl_keeps P (hP.mono rfl); have c1 := @helloFail_keeps P (hP.mono rfl)
  have c2 := @set_keeps _ P hP; have c3 := @modBlk_keeps P (hP.mono rfl); have c4 := @handoffRetry_keeps P (hP.mono rfl)
  have c5 := @becomeActive_keeps P (hP.mono rfl)
  exact byKeep

theorem execHelloAck_keeps (hP : Closed 0xc0000000000000000000000000000f7f8000000100c400000000000001800000200000001000000000000009f000300000000000000000000000000000000000000000a22000010000003ffc100040000000000000000000000000000000000000000000001e00008c041a7560cc P) {a1 a2 a3 a4} (h4 : P a4) : Ans P (execHelloAck a1 a2 a3 a4) := by
  unfold execHelloAck
  have c0 := @answered_keeps P (hP.mono rfl); have c1 := @helloFail_keeps P (hP.mono rfl)
  have c2 := @modBlk_keeps P (hP.mono rfl); have c3 := @handoffRetry_keeps P (hP.mono rfl)
  have c4 := @becomeActive_keeps P (hP.mono rfl)
  exact byKeep

theorem execLaneSub_keeps (hP : Closed 0x8000004 P) {a1 a2 a3 a4 a5} (h5 : P a5) : Ans P (execLaneSub a1 a2 a3 a4 a5) := by
  unfold execLaneSub
  have c0 := @answerCtrl_keeps P (hP.mono rfl); have c1 := @modBlk_keeps P (hP.mono rfl)
  exact byKeep

theorem execLaneSubAck_keeps (hP : Closed 0x8000000 P) {a1 a2 a3 a4 a5} (h5 : P a5) : Ans P (execLaneSubAck a1 a2 a3 a4 a5) := by
  unfold execLaneSubAck
  have c0 := @modBlk_keeps P (hP.mono rfl); have c1 := @answered_keeps P (hP.mono rfl)
  exact byKeep

theorem execHandoff_keeps (hP : Closed 0xc0000000000000000000000000000f7f980001e0434400000000002001800000200000001000000000000009f000300000000000000000000000000000000000000000a22000010000003ffc1000400000000000000000000007000010000000e0000000041e00008c041a7561cc P) {a1 a2 a3 a4 a5} (h5 : P a5) : Ans P (execHandoff a1 a2 a3 a4 a5) := by
  unfold execHandoff
  have c0 := @linkFail_keeps P (hP.mono rfl); have c1 := @answerCtrl_keeps P (hP.mono rfl)
  have c2 := @moveStream_keeps P (hP.mono rfl)
  exact byKeep

theorem execHandoffAck_keeps (hP : Closed 0xc0000000000000000000000000000000000000004004000000000020018000000000000000000000000000000000000000000000000000000000000000000000000000a200000100000000000000000000000000000000000007000000000000e0000000001e00008c040a2040c0 P) {a1 a2 a3 a4 a5} (h5 : P a5) : Ans P (execHandoffAck a1 a2 a3 a4 a5) := by
  unfold execHandoffAck
  have c0 := @answered_keeps P (hP.mono rfl); have c1 := @moveStream_keeps P (hP.mono rfl)
  exact byKeep

theorem execTopo_keeps (hP : Closed 0xc0000000000000000000000000000f7f80000000004000000000000001800000200000001000000000000009f000300000000000000000000000000000000000000000a22000010000003ffc100040000000000000000000000000000000000000000000001e00008c041a7560cc P) {a1 a2 a3} (h3 : P a3) : Ans P (execTopo a1 a2 a3) := by
  unfold execTopo
  have c0 := @handoffRetry_keeps P (hP.mono rfl); have c1 := @cascadeSync_keeps P (hP.mono rfl)
  exact byKeep

theorem execDepart_keeps (hP : Closed 0xc000000000000000000000000000000000000000000000000000000001800000001fe0000f9c0000000000000000000000000000000000000000000000000000000000a20000010000000000000000000000000000000000000000003000000000000000041e00008c042a2743c4 P) {a1 a2 a3 a4} (h4 : P a4) : Ans P (execDepart a1 a2 a3 a4) := by
  unfold execDepart
  have c0 := @departEnd_keeps P (hP.mono rfl); have c1 := @departHost_keeps P (hP.mono rfl)
  have c2 := @answerCtrl_keeps P (hP.mono rfl); have c3 := @modBlk_keeps P (hP.mono rfl)
  exact byKeep

theorem execMasterXfer_keeps (hP : Closed 0x18000004 P) {a1 a2 a3 a4 a5} (h5 : P a5) : Ans P (execMasterXfer a1 a2 a3 a4 a5) := by
  unfold execMasterXfer
  have c0 := @answered_keeps P (hP.mono rfl); have c1 := @answerCtrl_keeps P (hP.mono rfl)
  exact byKeep

theorem execMasterChange_keeps (hP : Closed 0xc0000000000000000000000000000f7f80000000004000000000000001800000200000001000000000000009f000300000000000000000000000000000000000000000a22000010000003ffc100040000000000000000000000000000000000000000000001e00008c041a7560ce P) {a1} (h1 : P a1) : Ans P (execMasterChange a1) := by
  unfold execMasterChange
  have c0 := @reach_keeps _ P hP; have c1 := @cascadeSync_keeps P (hP.mono rfl); have c2 := @setB_keeps _ P hP
  have c3 := @set_keeps _ P hP
  exact byKeep

theorem execSync_keeps (hP : Closed 0x4000000000000000007c040000000000000000000000000000000000000000000000000000000000000000000000000000000000000000000000000000000200000000000000000000000000000000000000000000001e00008c04002080c2 P) {a1 a2 a3} (h3 : P a3) : Ans P (execSync a1 a2 a3) := by
  unfold execSync
  have c0 := @stepTime_keeps P (hP.mono rfl); have c1 := @setTlock_keeps P (hP.mono rfl)
  exact byKeep

theorem execDreq_keeps (hP : Closed 0x18000004 P) {a1 a2 a3} (h3 : P a3) : Ans P (execDreq a1 a2 a3) := by
  unfold execDreq
  have c0 := @timeOut_keeps P (hP.mono rfl); have c1 := @forL_keeps _ P hP; have c2 := @sendCtrl_keeps P (hP.mono rfl)
  exact byKeep

theorem execDrsp_keeps (hP : Closed 0x8000000 P) {a1 a2 a3} (h3 : P a3) : Ans P (execDrsp a1 a2 a3) := by
  unfold execDrsp
  have c0 := @setBlk_keeps P (hP.mono rfl)
  exact byKeep

theorem execTimeBeadSend_keeps (hP : Closed 0x8000004 P) {a1 a2} (h2 : P a2) : Ans P (execTimeBeadSend a1 a2) := by
  unfold execTimeBeadSend
  have c0 := @timeOut_keeps P (hP.mono rfl); have c1 := @setBlk_keeps P (hP.mono rfl)
  exact byKeep

theorem execTopoSend_keeps (hP : Closed 0x8000004 P) {a1} (h1 : P a1) : Ans P (execTopoSend a1) := by
  unfold execTopoSend
  have c0 := @sendTopo_keeps P (hP.mono rfl)
  exact byKeep

theorem execCtrlResend_keeps (hP : Closed 0x8000004 P) {a1 a2} (h2 : P a2) : Ans P (execCtrlResend a1 a2) := by
  unfold execCtrlResend
  have c0 := @forL_keeps _ P hP; have c1 := @ctrlOut_keeps P (hP.mono rfl)
  exact byKeep

theorem execCtrlTimeout_keeps (hP : Closed 0xc0000000000000000000000000000f7f980001e0034400000000000001800000200000001000000000000009f000300000000000000000000000000000000000000000a22000010000003ffc100040000000000000000000000000001000000000000000041e00008c041a7561ce P) {a1 a2} (h2 : P a2) : Ans P (execCtrlTimeout a1 a2) := by
  unfold execCtrlTimeout
  have c0 := @linkFail_keeps P (hP.mono rfl); have c1 := @reach_keeps _ P hP
  exact byKeep

theorem execBlkEnable_keeps (hP : Closed 0xc0000000000000000000000000000f7f980001e002c7c0000000000001800000200000001000000000000009f000300000000000000000000000000000000000000000a22000010000003ffc100040000000000000000000000700000000000000000000001e00008c041a7560cc P) {a1 a2 a3} (h3 : P a3) : Ans P (execBlkEnable a1 a2 a3) := by
  unfold execBlkEnable
  have c0 := @atDomain_keeps P (hP.mono rfl); have c1 := @putRw_keeps _ P hP; have c2 := @trainStart_keeps P (hP.mono rfl)
  have c3 := @set_keeps _ P hP; have c4 := @linkLeave_keeps P (hP.mono rfl)
  exact byKeep

theorem execTrainComplete_keeps (hP : Closed 0xc0000000000000000000000000000f7f9bc001e0236400000000000001800000200000001000000000000009f000300000000000000000000000000000000000000000a22000010000003ffc1000400000000000000000000007000000000000e0000000001e00008c041a7560cc P) {a1 a2 a3} (h3 : P a3) : Ans P (execTrainComplete a1 a2 a3) := by
  unfold execTrainComplete
  have c0 := @forN_keeps _ P hP; have c1 := @setB_keeps _ P hP; have c2 := @enterHello_keeps P (hP.mono rfl)
  have c3 := @report_keeps P (hP.mono rfl); have c4 := @laneSwitch_keeps P (hP.mono rfl); have c5 := @attemptFail_keeps P (hP.mono rfl)
  have c6 := @set_keeps _ P hP
  exact byKeep

theorem execBlkStateTimeout_keeps (hP : Closed 0xc0000000000000000000000000000f7f980001e003c400000000000001800000200000001000000000000009f000300000000000000000000000000000000000000000a22000010000003ffc100040000000000000000000000000000000000000000000001e00008c041a7560cc P) {a1 a2} (h2 : P a2) : Ans P (execBlkStateTimeout a1 a2) := by
  unfold execBlkStateTimeout
  have c0 := @attemptFail_keeps P (hP.mono rfl); have c1 := @set_keeps _ P hP
  exact byKeep

theorem execBlkRetryInterval_keeps (hP : Closed 0x180001e00004000000000000000000000000000000000000000000000000000000000000000000000000000000000000000000000000000000000000000000000000000000000000000000000000000000000000001e00008c0408000040 P) {a1 a2} (h2 : P a2) : Ans P (execBlkRetryInterval a1 a2) := by
  unfold execBlkRetryInterval
  have c0 := @trainStart_keeps P (hP.mono rfl)
  exact byKeep

theorem execLaneLockLoss_keeps (hP : Closed 0xc0000000000000000000000000000f7f9a4001e0036400000000000001800000200000001000000000000009f000300000000000000000000000000000000000000000a22000010000003ffc100040000000000000000000000000001000000041d80000041e00008c041a7561cc P) {a1 a2 a3} (h3 : P a3) : Ans P (execLaneLockLoss a1 a2 a3) := by
  unfold execLaneLockLoss
  have c0 := @set_keeps _ P hP; have c1 := @attemptFail_keeps P (hP.mono rfl); have c2 := @spareFail_keeps P (hP.mono rfl)
  have c3 := @laneHard_keeps P (hP.mono rfl)
  exact byKeep

theorem execLaneErrorWindow_keeps (hP : Closed 0x3000000000000000041e00008c04080003c6 P) {a1 a2 a3} (h3 : P a3) : Ans P (execLaneErrorWindow a1 a2 a3) := by
  unfold execLaneErrorWindow
  have c0 := @reach_keeps _ P hP; have c1 := @modBlk_keeps P (hP.mono rfl); have c2 := @report_keeps P (hP.mono rfl)
  have c3 := @reachPoint_keeps P (hP.mono rfl); have c4 := @laneSubStart_keeps P (hP.mono rfl)
  exact byKeep

theorem lctlWrite_keeps (hP : Closed 0xc0000000000000000000000000000f7f980003e2034400000000000001800000200000001000000000000009f000300000000000000000000000000000000000000000a22000010000003ffc100040000000000000000000000000001000000000000000041e00008c041a7561cc P) {a1 a2 a3} (h3 : P a3) : P (lctlWrite a1 a2 a3) := by
  unfold lctlWrite
  have c0 := @set_keeps _ P hP; have c1 := @laneSubStart_keeps P (hP.mono rfl); have c2 := @blkFlag_keeps P (hP.mono rfl)
  have c3 := @linkFail_keeps P (hP.mono rfl)
  exact byKeep

theorem execLaneSubCommand_keeps (hP : Closed 0xc0000000000000000000000000000f7f980003e2034400000000000001800000200000001000000000000009f000300000000000000000000000000000000000000000a22000010000003ffc100040000000000000000000000700001000000000000000041e00008c041a7561cc P) {a1 a2 a3} (h3 : P a3) : Ans P (execLaneSubCommand a1 a2 a3) := by
  unfold execLaneSubCommand
  have c0 := @atDomain_keeps P (hP.mono rfl); have c1 := @lctlWrite_keeps P (hP.mono rfl)
  have c2 := @set_keeps _ P hP
  exact byKeep

theorem execSpareLaneFail_keeps (hP : Closed 0xc0000000000000000000000000000f7f984001e0036400000000000001800000200000001000000000000009f000300000000000000000000000000000000000000000a22000010000003ffc100040000000000000000000000000001000000041d80000041e00008c041a7561cc P) {a1 a2} (h2 : P a2) : Ans P (execSpareLaneFail a1 a2) := by
  unfold execSpareLaneFail
  have c0 := @spareFail_keeps P (hP.mono rfl)
  exact byKeep

theorem execLinkHandoffCommand_keeps (hP : Closed 0xc0000000000000000000000000000f7f980003e2034400000000000001800000200000001000000000000009f000300000000000000000000000000000000000000000a22000010000003ffc100040000000000000000000000700001000000000000000041e00008c041a7561cc P) {a1 a2 a3} (h3 : P a3) : Ans P (execLinkHandoffCommand a1 a2 a3) := by
  unfold execLinkHandoffCommand
  have c0 := @atDomain_keeps P (hP.mono rfl); have c1 := @lctlWrite_keeps P (hP.mono rfl)
  have c2 := @set_keeps _ P hP
  exact byKeep

theorem execLinkSetFenceDone_keeps (hP : Closed 0xc0000000000000000000000000000f7f80000000004000000000000001800000200000001000000000000009f000300000000000000000000000000000000000000000a22000010000003ffc100040000000000000000000000000000000000000000000001e00008c041a7560cc P) {a1 a2} (h2 : P a2) : Ans P (execLinkSetFenceDone a1 a2) := by
  unfold execLinkSetFenceDone
  have c0 := @fenceDone_keeps P (hP.mono rfl)
  exact byKeep

theorem completeLost_keeps (hP : Closed 0xc0000000000000000000000000000000000000000000000000000000018000000000000000000000000000000000300000000000000000000000000000000000000000a20000010000000000000000000000000000000000000000000000000000000000001e00008c04122060c4 P) {a1 a2} (h2 : P a2) : P (completeLost a1 a2) := by
  unfold completeLost
  have c0 := @forL_keeps _ P hP; have c1 := @lostIngress_keeps P (hP.mono rfl); have c2 := @forN_keeps _ P hP
  have c3 := @addFreed_keeps P (hP.mono rfl); have c4 := @setEgq_keeps P (hP.mono rfl); have c5 := @closeReq_keeps P (hP.mono rfl)
  have c6 := @reply_keeps P (hP.mono rfl)
  exact byKeep

theorem execUnreachableTimeout_keeps (hP : Closed 0xc0000000000000000000000000000f7f80000000004000000000000001800000201fe0001f9c000000000009f000300000000000000000000000000000000000000000a22000010000003ffc100040000000000000000000000000003000000000000000041e00008c043a7763ce P) {a1 a2} (h2 : P a2) : Ans P (execUnreachableTimeout a1 a2) := by
  unfold execUnreachableTimeout
  have c0 := @reach_keeps _ P hP; have c1 := @set_keeps _ P hP; have c2 := @completeLost_keeps P (hP.mono rfl)
  have c3 := @forL_keeps _ P hP; have c4 := @departEnd_keeps P (hP.mono rfl); have c5 := @departHost_keeps P (hP.mono rfl)
  have c6 := @cascadeSync_keeps P (hP.mono rfl); have c7 := @report_keeps P (hP.mono rfl)
  exact byKeep

theorem rfRefuse_keeps (hP : Closed 0x1000000020000000000000000000000000000000000000000000000000000000000000000000000000000000000000000000000000000000000000000000000000000000001e00008c0400000040 P) {a1 a2} (h2 : P a2) : P (rfRefuse a1 a2) := by
  unfold rfRefuse
  have c0 := @flag_keeps P (hP.mono rfl); have c1 := @set_keeps _ P hP
  exact byKeep

theorem setConv_keeps (hP : Closed 0x200000000000000000000000000000000000000000000000000000000000000000000000000000000000000000000000000000000000000000000000000000000000000000000000000000040000 P) {a1 a2} (h2 : P a2) : P (setConv a1 a2) := by
  unfold setConv
  have c0 := @convSync_keeps P (hP.mono rfl)
  exact byKeep

theorem execRfConvert_keeps (hP : Closed 0x3980000020000000000000000000000000000000000000000000000000000000000000000000000000000000000000000000000000000000000000000000000000000000001e00008c0400440040 P) {a1 a2} (h2 : P a2) : Ans P (execRfConvert a1 a2) := by
  unfold execRfConvert
  have c0 := @atReg_keeps P (hP.mono rfl); have c1 := @setB_keeps _ P hP; have c2 := @set_keeps _ P hP
  have c3 := @rfRefuse_keeps P (hP.mono rfl); have c4 := @request_keeps P (hP.mono rfl); have c5 := @setConv_keeps P (hP.mono rfl)
  exact byKeep

theorem clearShare_keeps (hP : Closed 0xc000000000000000000000000000000000000000000000000000000001800000001fe0000f1c0000000000000000000000000000000000000000000000000000000000a20000010000000000000000000000000000000000000000003000000000000000041e00008c042a2643c4 P) {a1 a2 a3} (h3 : P a3) : P (clearShare a1 a2 a3) := by
  unfold clearShare
  have c0 := @homeAct_keeps P (hP.mono rfl); have c1 := @forL_keeps _ P hP; have c2 := @boardOut_keeps P (hP.mono rfl)
  have c3 := @evict_keeps P (hP.mono rfl)
  exact byKeep

theorem snoopLines_keeps (hP : Closed 0xc0000000000000000000000000000000000000000000000000000000018000000000800000000000000000000000000000000000000000000000000000000000000000a20000010000000000000000000000000000000000000000000000000000000000001e00008c04022440c0 P) {a1 a2} (h2 : P a2) : P (snoopLines a1 a2) := by
  have c0 := @forL_keeps _ P hP; have c1 := @sendSnoop_keeps P (hP.mono rfl); have c2 := @set_keeps _ P hP
  have c3 := @setB_keeps _ P hP; have c4 := @bump_keeps _ P hP
  induction a1 generalizing a2 with
  | zero => unfold snoopLines; exact h2
  | succ n ih => unfold snoopLines; exact byKeep

theorem convStep_keeps (hP : Closed 0xc000000000000000000000000000000000000000000000000000000001800000201fe0000f1c0000000000000000000000000000000000000000000000000000000000a20000010000000000000000000000000000000000000000003000000000000000041e00008c042a2643c4 P) {a1} (h1 : P a1) : P (convStep a1) := by
  unfold convStep
  have c0 := @snoopLines_keeps P (hP.mono rfl); have c1 := @setConv_keeps P (hP.mono rfl)
  have c2 := @forN_keeps _ P hP; have c3 := @clearShare_keeps P (hP.mono rfl)
  exact byKeep

theorem dropConv_keeps (hP : Closed 0xc000000000000000000000000000000000000000000000000000000001800000380000003000000000000009f000300000000000000000000000000000000000000000a22000010000003ffc100000000000000000000000000000000000000000000000001e00008c04127560cc P) {a1} (h1 : P a1) : P (dropConv a1) := by
  unfold dropConv
  have c0 := @readmit_keeps P (hP.mono rfl); have c1 := @rfRefuse_keeps P (hP.mono rfl); have c2 := @setConv_keeps P (hP.mono rfl)
  have c3 := @set_keeps _ P hP
  exact byKeep

theorem rfSealed_keeps (hP : Closed 0xc000000000000000000000000000000000000000000000000000000001800000381fe0003f1c000000000009f000300000000000000000000000000000000000000000a22000010000003ffc100000000000000000000000000000003000000000000000041e00008c043a7763cc P) {a1 a2} (h2 : P a2) : P (rfSealed a1 a2) := by
  unfold rfSealed
  have c0 := @convStep_keeps P (hP.mono rfl); have c1 := @setConv_keeps P (hP.mono rfl); have c2 := @dropConv_keeps P (hP.mono rfl)
  exact byKeep

theorem execRfConvertDone_keeps (hP : Closed 0xc000000000000000000000000000000000000000000000000000000001800002381fe0001f1c000000000009f000300000000000000000000000000000000000000000a22000010000003ffc100000000000000000000000000000003000000000000000041e00008c043a7763cc P) {a1} (h1 : P a1) : Ans P (execRfConvertDone a1) := by
  unfold execRfConvertDone
  have c0 := @convStep_keeps P (hP.mono rfl); have c1 := @set_keeps _ P hP; have c2 := @markBody_keeps P (hP.mono rfl)
  have c3 := @readmit_keeps P (hP.mono rfl); have c4 := @setConv_keeps P (hP.mono rfl)
  exact byKeep

theorem snoopRsp_keeps (hP : Closed 0xc0000000000000000000000000000000000000000000000000000000018000000000000000000000000000000000000000000000000000000000000000000000000000a20000010000000000000000000000000000000000000000000000000000000000001e00008c04022040c0 P) {a1 a2 a3 a4} (h4 : P a4) : P (snoopRsp a1 a2 a3 a4) := by
  unfold snoopRsp
  have c0 := @enqueue_keeps P (hP.mono rfl)
  exact byKeep

theorem mergeBack_keeps (hP : Closed 0xc0000000000000000000000000000000000000000000000000000000018000000000000000000200000000000000000000000000000000000000000000000000000000a20000010000000000000000000000000000000000000000000000000000000000001e00008c04022160c4 P) {a1 a2 a3 a4 a5 a6 a7} (h7 : P a7) : P (mergeBack a1 a2 a3 a4 a5 a6 a7) := by
  unfold mergeBack
  have c0 := @dirtyWrite_keeps P (hP.mono rfl); have c1 := @modPort_keeps P (hP.mono rfl)
  have c2 := @perf_keeps P (hP.mono rfl); have c3 := @emit_keeps _ P hP; have c4 := @injected_keeps P (hP.mono rfl)
  exact byKeep

theorem freeSent_keeps (hP : Closed 0x30000000000000000000000000000000000000000000000000000000000000000000000000000000000000000000000000000000000000000000000000002000 P) {a1 a2 a3} (h3 : P a3) : P (freeSent a1 a2 a3) := by
  unfold freeSent
  have c0 := @freeTags_keeps P (hP.mono rfl)
  exact byKeep

theorem forward_keeps (hP : Closed 0xc0000000000000000000000000000000000000000000000000000000018000000000000000000000000000000000300000000000000000000000000000000000000000a20000010000000000000000000000000000000000000000000000000000000000001e00008c04022060c0 P) {a1 a2 a3 a4 a5} (h5 : P a5) : P (forward a1 a2 a3 a4 a5) := by
  unfold forward
  have c0 := @perf_keeps P (hP.mono rfl); have c1 := @freeSent_keeps P (hP.mono rfl); have c2 := @answerReq_keeps P (hP.mono rfl)
  have c3 := @noticeHome_keeps P (hP.mono rfl); have c4 := @parkFor_keeps P (hP.mono rfl)
  have c5 := @closeReq_keeps P (hP.mono rfl); have c6 := @reply_keeps P (hP.mono rfl)
  exact byKeep

theorem portRsp_keeps (hP : Closed 0xc0000000000000000000000000000000000000000000000000000000018000000000000000000200000000000020304000000000000000000000000000000000000000a20000010000000000000000000000000000000000000000000000000000000000001e00008c04022160c4 P) {a1 a2 a3} (h3 : P a3) : P (portRsp a1 a2 a3) := by
  unfold portRsp
  have c0 := @flag_keeps P (hP.mono rfl); have c1 := @bump_keeps _ P hP; have c2 := @freeSent_keeps P (hP.mono rfl)
  have c3 := @snoopRsp_keeps P (hP.mono rfl); have c4 := @mergeBack_keeps P (hP.mono rfl)
  have c5 := @forward_keeps P (hP.mono rfl); have c6 := @set_keeps _ P hP
  exact byKeep

theorem execLinkResponse_keeps (hP : Closed 0xc000000000000000000000000000000000000000000000000000000a01800000201fe0000f1c0200000000000020304000000000000000000000000000000000000000a20000010000000000000000000000000000000000000000003000000000000000041e00008c042a2763c4 P) {a1 a2 a3} (h3 : P a3) : Ans P (execLinkResponse a1 a2 a3) := by
  unfold execLinkResponse
  have c0 := @convStep_keeps P (hP.mono rfl); have c1 := @portRsp_keeps P (hP.mono rfl); have c2 := @bwRx_keeps P (hP.mono rfl)
  have c3 := @discardStale_keeps P (hP.mono rfl); have c4 := @reply_keeps P (hP.mono rfl)
  exact byKeep

theorem execLinkCreditUpdate_keeps (hP : Closed 0x2000 P) {a1 a2 a3 a4 a5} (h5 : P a5) : Ans P (execLinkCreditUpdate a1 a2 a3 a4 a5) := by
  unfold execLinkCreditUpdate
  have c0 := @modPort_keeps P (hP.mono rfl)
  exact byKeep

end Sys2Proof.Machine
end

