-- ==== Sys2Proof/Laws/KeepSum.lean ====
section
/-! SUPPORT. What the operations of sum engines, migration, the data mover and binding commits may write: each lemma names, as a mask (see Closed), the parts of the state that its operation can change. -/

namespace Sys2Proof.Machine

set_option linter.all false
set_option Elab.async false

variable {P : State → Prop}

theorem moveWin_keeps (hP : Closed 0x2fc000000000000000000000000000000000000000000000000000000000000000000000000000000000000000000000000000000000000000000000000000000000000000000000000000000000000000000000000000000000000000000000000000000 P) {a1 a2 a3} (h3 : P a3) : P (moveWin a1 a2 a3) := by
  unfold moveWin
  have c0 := @set_keeps _ P hP
  exact byKeep

theorem sumFlag_keeps (hP : Closed 0x1e00008c0400000040 P) {a1 a2 a3} (h1 : ∀ s v i j, P s → P (State.set s a1 v i j)) (h3 : P a3) : P (sumFlag a1 a2 a3) := by
  unfold sumFlag
  have c0 := @flag_keeps P (hP.mono rfl)
  exact byKeep

theorem sumStray_keeps (hP : Closed 0x1008000000000000000000000000000000000000000000000000000000000000000000000000000000000000000000000000000000000000000000000000000000000000000000000000000000000000000000000000000000001e00008c0400000040 P) {a1 a2} (h2 : P a2) : P (sumStray a1 a2) := by
  unfold sumStray
  have c0 := @bump_keeps _ P hP; have c1 := @sumFlag_keeps P (hP.mono rfl); have c2 := @set_keeps _ P hP
  exact byKeep

theorem sumForm_keeps (hP : Closed 0x1010000000000000000000000000000000000000000000000000000000000000000000000000000000000000000000000000000000000000000000000000000000000000000000000000000000000000000000000000000000001e00008c0400000040 P) {a1 a2} (h2 : P a2) : P (sumForm a1 a2) := by
  unfold sumForm
  have c0 := @sumFlag_keeps P (hP.mono rfl); have c1 := @bump_keeps _ P hP; have c2 := @set_keeps _ P hP
  exact byKeep

theorem setWin_keeps (hP : Closed 0x2fc0000000000000000000000000000000000000000000000000000000000000000000000000000000000000000000000000000000000000000000000000000000000000000000000000000000000000000000000000000000000001e00008c0400800040 P) {a1 a2 a3} (h3 : P a3) : P (setWin a1 a2 a3) := by
  unfold setWin
  have c0 := @setState_keeps P (hP.mono rfl); have c1 := @moveWin_keeps P (hP.mono rfl); have c2 := @set_keeps _ P hP
  exact byKeep

theorem winSet_keeps (hP : Closed 0x0 P) {a1 a2 a3 a4} (h1 : ∀ s v i j, P s → P (State.set s a1 v i j)) (h4 : P a4) : P (winSet a1 a2 a3 a4) := by
  unfold winSet
  exact byKeep

theorem putWin_keeps (hP : Closed 0x800000 P) {a1 a2 a3} (h3 : P a3) : P (putWin a1 a2 a3) := by
  unfold putWin
  exact byKeep

theorem winSync_keeps (hP : Closed 0xd0000000000000000000000000000000000000000000000000000000000000000000000000000000000000000000000000000000000000000000000000000000000000000000000000000000000000000000000000000000000000000000000000000000 P) {a1 a2 a3} (h3 : P a3) : P (winSync a1 a2 a3) := by
  unfold winSync
  have c0 := @winSet_keeps P (hP.mono rfl); have c1 := @set_keeps _ P hP
  exact byKeep

theorem sumSync_keeps (hP : Closed 0x2000000c0000000000000000000000000000000000000000000000000000000000000000000000000000000000000000000000000000000000000000000000000000000000000000000000000000000000000000000000000000000000000000000000000 P) {a1 a2} (h2 : P a2) : P (sumSync a1 a2) := by
  unfold sumSync
  have c0 := @set_keeps _ P hP
  exact byKeep

theorem winDesc_keeps (hP : Closed 0x2fc1038c00000000000000000000000000000000000000000000000000000000000000000000000000000000000000000000000000000000000a20000010000000000000000000000000000000000000000000000000000000000001e00008c0402800040 P) {a1 a2 a3 a4 a5} (h5 : P a5) : P (winDesc a1 a2 a3 a4 a5) := by
  unfold winDesc
  have c0 := @sumStray_keeps P (hP.mono rfl); have c1 := @sumForm_keeps P (hP.mono rfl); have c2 := @winSet_keeps P (hP.mono rfl)
  have c3 := @sumFlag_keeps P (hP.mono rfl); have c4 := @putWin_keeps P (hP.mono rfl); have c5 := @sumSync_keeps P (hP.mono rfl)
  have c6 := @setWin_keeps P (hP.mono rfl); have c7 := @winSync_keeps P (hP.mono rfl); have c8 := @perf_keeps P (hP.mono rfl)
  have c9 := @set_keeps _ P hP
  exact byKeep

theorem execWindowDescriptor_keeps (hP : Closed 0x2fc1038c00000000000000000000000000000000000000000000000000000000000000000000000000000000000000000000000000000000000a20000010000000000000000000000000000000000000700000000000000000000001e00008c0402a00040 P) {a1 a2 a3 a4 a5} (h5 : P a5) : Ans P (execWindowDescriptor a1 a2 a3 a4 a5) := by
  unfold execWindowDescriptor
  have c0 := @toUnit_keeps P (hP.mono rfl); have c1 := @winDesc_keeps P (hP.mono rfl)
  exact byKeep

theorem hostWrite_keeps (hP : Closed 0xc0000000000000000000000000000000000000000000000000000000018000000000000000000000000000000000000000000000000000000000000000000000000000a20000010000000000000000000000000000000000000000000000000000000000001e00008c04022040c0 P) {a1 a2 a3 a4 a5 a6 a7 a8 a9 a10} (h10 : P a10) : P (hostWrite a1 a2 a3 a4 a5 a6 a7 a8 a9 a10) := by
  unfold hostWrite
  have c0 := @enqueue_keeps P (hP.mono rfl)
  exact byKeep

theorem completion_keeps (hP : Closed 0xc0000000000000000000000000000000000000000000000000000000018000000000000000000000000000000000000000000000000000000000000000000000000000a20000010000000000000000000000000000000000000000000000000000000000001e00008c04022040c0 P) {a1 a2 a3 a4 a5 a6 a7} (h7 : P a7) : P (completion a1 a2 a3 a4 a5 a6 a7) := by
  unfold completion
  have c0 := @hostWrite_keeps P (hP.mono rfl)
  exact byKeep

theorem toSignal_keeps (hP : Closed 0xc0000000000000000002fc8000c00000000000000000000000000000018000000000000000000000000000000000000000000000000000000000000000000000000000a20000010000000000000000000000000000000000000000000000000000000000001e00008c0402a040c0 P) {a1 a2 a3} (h3 : P a3) : P (toSignal a1 a2 a3) := by
  unfold toSignal
  have c0 := @bump_keeps _ P hP; have c1 := @setWin_keeps P (hP.mono rfl); have c2 := @forL_keeps _ P hP
  have c3 := @completion_keeps P (hP.mono rfl); have c4 := @winSync_keeps P (hP.mono rfl)
  have c5 := @winSet_keeps P (hP.mono rfl); have c6 := @putWin_keeps P (hP.mono rfl); have c7 := @sumSync_keeps P (hP.mono rfl)
  have c8 := @set_keeps _ P hP
  exact byKeep

theorem resultWrite_keeps (hP : Closed 0xc000000000000000000000000000000000000000000000000000000001800000200000001000000000000009f000300000000000000000000000000000000000000000a22000010000000000000000000000000000000000000000000000000000000000001e00008c04127560cc P) {a1 a2 a3 a4 a5} (h5 : P a5) : P (resultWrite a1 a2 a3 a4 a5) := by
  unfold resultWrite
  have c0 := @freshId_keeps P (hP.mono rfl); have c1 := @admitReq_keeps P (hP.mono rfl)
  exact byKeep

theorem publish_keeps (hP : Closed 0xc0000000000000000002fca100c0000000000000000000000000000001800000200000001000000000000009f000300000000000000000000000000000000000000000a22000010000000000000000000000000000000000000000000000000000000000001e00008c0412f560cc P) {a1 a2 a3} (h3 : P a3) : P (publish a1 a2 a3) := by
  unfold publish
  have c0 := @setWin_keeps P (hP.mono rfl); have c1 := @toSignal_keeps P (hP.mono rfl); have c2 := @sumFlag_keeps P (hP.mono rfl)
  have c3 := @putWin_keeps P (hP.mono rfl); have c4 := @forL_keeps _ P hP; have c5 := @resultWrite_keeps P (hP.mono rfl)
  have c6 := @perf_keeps P (hP.mono rfl); have c7 := @bump_keeps _ P hP; have c8 := @set_keeps _ P hP
  exact byKeep

theorem lossAction_keeps (hP : Closed 0xc0000000000000000002fca100c0000000000000000000000000000001800000200000001000000000000009f000300000000000000000000000000000000000000000a22000010000000000000000000000000000000000000000000000000000000000001e00008c0412f560cc P) {a1 a2 a3} (h3 : P a3) : P (lossAction a1 a2 a3) := by
  unfold lossAction
  have c0 := @publish_keeps P (hP.mono rfl); have c1 := @toSignal_keeps P (hP.mono rfl)
  exact byKeep

theorem toHeld_keeps (hP : Closed 0xc0000000000000000002fca180c0000000000000000000000000000001800000200000001000000000000009f000300000000000000000000000000000000000000000a22000010000000000000000000000000000000000000000003000000000000000041e00008c0412f563cc P) {a1 a2} (h2 : P a2) : P (toHeld a1 a2) := by
  unfold toHeld
  have c0 := @sumFlag_keeps P (hP.mono rfl); have c1 := @setWin_keeps P (hP.mono rfl); have c2 := @putWin_keeps P (hP.mono rfl)
  have c3 := @reachPoint_keeps P (hP.mono rfl); have c4 := @lossAction_keeps P (hP.mono rfl)
  have c5 := @set_keeps _ P hP
  exact byKeep

theorem winCheck_keeps (hP : Closed 0xc0000000000000000002fca180c0000000000000000000000000000001800000200000001000000000000009f000300000000000000000000000000000000000000000a22000010000000000000000000000000000000000000000003000000000000000041e00008c0412f563cc P) {a1 a2} (h2 : P a2) : P (winCheck a1 a2) := by
  unfold winCheck
  have c0 := @publish_keeps P (hP.mono rfl); have c1 := @closeDec_keeps P (hP.mono rfl); have c2 := @toHeld_keeps P (hP.mono rfl)
  exact byKeep

theorem winClose_keeps (hP : Closed 0xc0000000000000000002fc9008c00000000000000000000000000000018000000000000000000000000000000000000000000000000000000000000000000000000000a20000010000000000000000000000000000000000000000000000000000000000001e00008c0402a041c0 P) {a1 a2 a3} (h3 : P a3) : P (winClose a1 a2 a3) := by
  unfold winClose
  have c0 := @toSignal_keeps P (hP.mono rfl); have c1 := @voidDec_keeps P (hP.mono rfl); have c2 := @putWin_keeps P (hP.mono rfl)
  have c3 := @sumStray_keeps P (hP.mono rfl)
  exact byKeep

theorem execCloseDoorbell_keeps (hP : Closed 0xc0000000000000000002fc9008c00000000000000000000000000000018000000000000000000000000000000000000000000000000000000000000000000000000000a20000010000000000000000000000000000000000000700000000000000000000001e00008c0402a041c0 P) {a1 a2 a3} (h3 : P a3) : Ans P (execCloseDoorbell a1 a2 a3) := by
  unfold execCloseDoorbell
  have c0 := @toUnit_keeps P (hP.mono rfl); have c1 := @winClose_keeps P (hP.mono rfl)
  exact byKeep

theorem slotReg_keeps (hP : Closed 0xd01008000000000000000000000000000000000000000000000000000000000000000000000000000000000000000000000000000000000000000000000000000000000000000000000000000000000000000000000000000000001e00008c0400800040 P) {a1 a2 a3 a4 a5 a6} (h6 : P a6) : P (slotReg a1 a2 a3 a4 a5 a6) := by
  unfold slotReg
  have c0 := @winSync_keeps P (hP.mono rfl); have c1 := @putWin_keeps P (hP.mono rfl); have c2 := @sumStray_keeps P (hP.mono rfl)
  exact byKeep

theorem execSlotRegistration_keeps (hP : Closed 0xd01008000000000000000000000000000000000000000000000000000000000000000000000000000000000000000000000000000000000000000000000000000000000000000000000000000000000700000000000000000000001e00008c0400a00040 P) {a1 a2 a3 a4 a5 a6} (h6 : P a6) : Ans P (execSlotRegistration a1 a2 a3 a4 a5 a6) := by
  unfold execSlotRegistration
  have c0 := @toUnit_keeps P (hP.mono rfl); have c1 := @slotReg_keeps P (hP.mono rfl)
  exact byKeep

theorem takeLine_keeps (hP : Closed 0xc0000000000000000000d01c0c000000000000000000000000000000000000000000000000000000000000000000000000000000000000000000000000000000000000a20000010000000000000000000000000000000000000000000000000000000000001e00008c0402a000c0 P) {a1 a2 a3 a4 a5 a6 a7} (h7 : P a7) : P (takeLine a1 a2 a3 a4 a5 a6 a7) := by
  unfold takeLine
  have c0 := @sumStray_keeps P (hP.mono rfl); have c1 := @sumFlag_keeps P (hP.mono rfl); have c2 := @bump_keeps _ P hP
  have c3 := @report_keeps P (hP.mono rfl); have c4 := @perf_keeps P (hP.mono rfl); have c5 := @injected_keeps P (hP.mono rfl)
  have c6 := @winSync_keeps P (hP.mono rfl); have c7 := @putWin_keeps P (hP.mono rfl); have c8 := @set_keeps _ P hP
  exact byKeep

theorem contribute_keeps (hP : Closed 0xc0000000000000000002fcbd9cc0000000000000000000000000000001800000200000001000000000000009f000300000000000000000000000000000000000000000a22000010000000000000000000000000000000000000000003000000000000000041e00008c0412f563cc P) {a1 a2 a3 a4 a5 a6 a7 a8} (h8 : P a8) : P (contribute a1 a2 a3 a4 a5 a6 a7 a8) := by
  unfold contribute
  have c0 := @sumStray_keeps P (hP.mono rfl); have c1 := @sumForm_keeps P (hP.mono rfl); have c2 := @winCheck_keeps P (hP.mono rfl)
  have c3 := @forL_keeps _ P hP; have c4 := @takeLine_keeps P (hP.mono rfl)
  exact byKeep

theorem execContribution_keeps (hP : Closed 0xc0000000000000000002fcbd9cc0000000000000000000000000000001800000200000001000000000000009f000300000000000000000000000000000000000000000a22000010000000000000000000000000000000000000700003000000000000000041e00008c0412f563cc P) {a1 a2 a3 a4 a5 a6 a7 a8} (h8 : P a8) : Ans P (execContribution a1 a2 a3 a4 a5 a6 a7 a8) := by
  unfold execContribution
  have c0 := @toUnit_keeps P (hP.mono rfl); have c1 := @contribute_keeps P (hP.mono rfl)
  exact byKeep

theorem execBar2StrayWrite_keeps (hP : Closed 0x1008000000000000000000000000000000000000000000000000000000000000000000000000000000000000000000000000000000000000000000000000000000000000000000000000000000000700000000000000000000001e00008c0400200040 P) {a1 a2 a3} (h3 : P a3) : Ans P (execBar2StrayWrite a1 a2 a3) := by
  unfold execBar2StrayWrite
  have c0 := @toUnit_keeps P (hP.mono rfl); have c1 := @sumStray_keeps P (hP.mono rfl)
  exact byKeep

theorem execResultWritesDone_keeps (hP : Closed 0xc0000000000000000002fc8000c00000000000000000000000000000018000000000000000000000000000000000000000000000000000000000000000000000000000a20000010000000000000000000000000000000000000000000000000000000000001e00008c0402a040c0 P) {a1 a2} (h2 : P a2) : Ans P (execResultWritesDone a1 a2) := by
  unfold execResultWritesDone
  have c0 := @toSignal_keeps P (hP.mono rfl)
  exact byKeep

theorem execWindowTimerExpiry_keeps (hP : Closed 0xc0000000000000000002fce1c0c0000000000000000000000000000001800000200000001000000000000009f000300000000000000000000000000000000000000000a22000010000000000000000000000000000000000000000003000000000000000041e00008c0412f563ce P) {a1 a2} (h2 : P a2) : Ans P (execWindowTimerExpiry a1 a2) := by
  unfold execWindowTimerExpiry
  have c0 := @bump_keeps _ P hP; have c1 := @reach_keeps _ P hP; have c2 := @toHeld_keeps P (hP.mono rfl)
  have c3 := @sumFlag_keeps P (hP.mono rfl); have c4 := @perf_keeps P (hP.mono rfl); have c5 := @set_keeps _ P hP
  exact byKeep

theorem execSumExtend_keeps (hP : Closed 0x2fc0000000000000000000000000000000000000000000000000000000000000000000000000000000000000000000000000000000000000000a20000010000000000000000000000000000000000000000001000000000000000041e00008c04028001c4 P) {a1 a2 a3} (h3 : P a3) : Ans P (execSumExtend a1 a2 a3) := by
  unfold execSumExtend
  have c0 := @answer_keeps P (hP.mono rfl); have c1 := @setWin_keeps P (hP.mono rfl); have c2 := @putWin_keeps P (hP.mono rfl)
  exact byKeep

theorem execSumPublish_keeps (hP : Closed 0xc0000000000000000002fca100c0000000000000000000000000000001800000200000001000000000000009f000300000000000000000000000000000000000000000a22000010000000000000000000000000000000000000000001000000000000000041e00008c0412f561cc P) {a1 a2} (h2 : P a2) : Ans P (execSumPublish a1 a2) := by
  unfold execSumPublish
  have c0 := @answer_keeps P (hP.mono rfl); have c1 := @publish_keeps P (hP.mono rfl)
  exact byKeep

theorem execSumAbort_keeps (hP : Closed 0xc0000000000000000002fc8000c00000000000000000000000000000018000000000000000000000000000000000000000000000000000000000000000000000000000a20000010000000000000000000000000000000000000000001000000000000000041e00008c0402a041c4 P) {a1 a2} (h2 : P a2) : Ans P (execSumAbort a1 a2) := by
  unfold execSumAbort
  have c0 := @answer_keeps P (hP.mono rfl); have c1 := @toSignal_keeps P (hP.mono rfl)
  exact byKeep

theorem sumLost_keeps (hP : Closed 0xc0000000000000000002fca180c0000000000000000000000000000001800000200000001000000000000009f000300000000000000000000000000000000000000000a22000010000000000000000000000000000000000000000003000000000000000041e00008c0412f563cc P) {a1 a2} (h2 : P a2) : P (sumLost a1 a2) := by
  unfold sumLost
  have c0 := @forL_keeps _ P hP; have c1 := @winCheck_keeps P (hP.mono rfl); have c2 := @winSync_keeps P (hP.mono rfl)
  have c3 := @putWin_keeps P (hP.mono rfl)
  exact byKeep

theorem sumHostLost_keeps (hP : Closed 0xc0000000000000000002fca180c0000000000000000000000000000001800000200000001000000000000009f000300000000000000000000000000000000000000000a22000010000000000000000000000000000000000000000003000000000000000041e00008c0412f563cc P) {a1 a2} (h2 : P a2) : P (sumHostLost a1 a2) := by
  unfold sumHostLost
  have c0 := @sumLost_keeps P (hP.mono rfl)
  exact byKeep

theorem engineTakeover_keeps (hP : Closed 0xc0000000000000000002fc0003c00000000000000000000000000000018000000000000000000000000000000000000000000000000000000000000000000000000000a20000010000000000000000000000000000000000000000000000000000000000001e00008c0402a041c0 P) {a1 a2} (h2 : P a2) : P (engineTakeover a1 a2) := by
  unfold engineTakeover
  have c0 := @forL_keeps _ P hP; have c1 := @moveWin_keeps P (hP.mono rfl); have c2 := @set_keeps _ P hP
  have c3 := @voidDec_keeps P (hP.mono rfl); have c4 := @completion_keeps P (hP.mono rfl)
  have c5 := @setWin_keeps P (hP.mono rfl); have c6 := @winSync_keeps P (hP.mono rfl); have c7 := @winSet_keeps P (hP.mono rfl)
  have c8 := @putWin_keeps P (hP.mono rfl); have c9 := @sumSync_keeps P (hP.mono rfl)
  exact byKeep

theorem setFn_keeps (hP : Closed 0x1000000 P) {a1 a2 a3} (h3 : P a3) : P (setFn a1 a2 a3) := by
  unfold setFn
  exact byKeep

theorem modFn_keeps (hP : Closed 0x1000000 P) {a1 a2 a3} (h3 : P a3) : P (modFn a1 a2 a3) := by
  unfold modFn
  have c0 := @setFn_keeps P (hP.mono rfl)
  exact byKeep

theorem modDesc_keeps (hP : Closed 0x1000000 P) {a1 a2 a3 a4 a5} (h5 : P a5) : P (modDesc a1 a2 a3 a4 a5) := by
  unfold modDesc
  have c0 := @modFn_keeps P (hP.mono rfl)
  exact byKeep

theorem atomVerdict_keeps (hP : Closed 0x1000000 P) {a1 a2 a3 a4} (h4 : P a4) : P (atomVerdict a1 a2 a3 a4) := by
  unfold atomVerdict
  have c0 := @modDesc_keeps P (hP.mono rfl)
  exact byKeep

theorem atomAnswer_keeps (hP : Closed 0xc0000000000000000000020200000000000000000000000000000000018000000000000000000000000000000000000000000000000000000000000000000000000000a20000010000000000000000000000000000000000000000000000000000000000001e00008c04032040c0 P) {a1 a2 a3 a4} (h4 : P a4) : P (atomAnswer a1 a2 a3 a4) := by
  unfold atomAnswer
  have c0 := @sumFlag_keeps P (hP.mono rfl); have c1 := @bump_keeps _ P hP; have c2 := @atomVerdict_keeps P (hP.mono rfl)
  have c3 := @hostWrite_keeps P (hP.mono rfl); have c4 := @set_keeps _ P hP
  exact byKeep

theorem farAtomic_keeps (hP : Closed 0xc000000000000000000003020000000000000000000000000000000001800000200000001000000000000009f000300000000000000000000000000000000000000000a22000010000003ffc100000000000000000000000000000000000000000000000001e00008c0413f560cc P) {a1 a2 a3 a4 a5 a6} (h6 : P a6) : P (farAtomic a1 a2 a3 a4 a5 a6) := by
  unfold farAtomic
  have c0 := @atomAnswer_keeps P (hP.mono rfl); have c1 := @actDeny_keeps P (hP.mono rfl)
  have c2 := @perf_keeps P (hP.mono rfl); have c3 := @bump_keeps _ P hP; have c4 := @freshId_keeps P (hP.mono rfl)
  have c5 := @takeIn_keeps P (hP.mono rfl); have c6 := @set_keeps _ P hP
  exact byKeep

theorem atomReply_keeps (hP : Closed 0xc0000000000000000000020200000000000000000000000000000000018000000000000000000000000000000000000000000000000000000000000000000000000000a20000010000000000000000000000000000000000000000000000000000000000001e00008c0403a040c0 P) {a1 a2} (h2 : P a2) : P (atomReply a1 a2) := by
  unfold atomReply
  have c0 := @atomAnswer_keeps P (hP.mono rfl)
  exact byKeep

theorem bar2Write_keeps (hP : Closed 0xc0000000000000000002ffbfbcc0000000000000000000000000000001800000200000001000000000000009f000300000000000000000000000000000000000000000a22000010000003ffc100000000000000000000000000000003000000000000000041e00008c0413f563cc P) {a1 a2 a3} (h3 : P a3) : P (bar2Write a1 a2 a3) := by
  unfold bar2Write
  have c0 := @contribute_keeps P (hP.mono rfl); have c1 := @winDesc_keeps P (hP.mono rfl)
  have c2 := @winClose_keeps P (hP.mono rfl); have c3 := @sumStray_keeps P (hP.mono rfl); have c4 := @slotReg_keeps P (hP.mono rfl)
  have c5 := @farAtomic_keeps P (hP.mono rfl)
  exact byKeep

theorem sumAccess_keeps (hP : Closed 0xc0000000000000000002ffbfbcc0000000000000000000000000000001800000200000001000000000000009f000300000000000000000000000000000000000000000a22000010000003ffc100000000000000000000000000000003000000000000000041e00008c0413f563cc P) {a1 a2 a3} (h3 : P a3) : P (sumAccess a1 a2 a3) := by
  unfold sumAccess
  have c0 := @atomReply_keeps P (hP.mono rfl); have c1 := @bar2Write_keeps P (hP.mono rfl)
  have c2 := @reply_keeps P (hP.mono rfl)
  exact byKeep

theorem execFarAtomicCommand_keeps (hP : Closed 0xc000000000000000000003020000000000000000000000000000000001800000200000001000000000000009f000300000000000000000000000000000000000000000a22000010000003ffc100000000000000000000000000700000000000000000000001e00008c0413f560cc P) {a1 a2 a3 a4 a5} (h5 : P a5) : Ans P (execFarAtomicCommand a1 a2 a3 a4 a5) := by
  unfold execFarAtomicCommand
  have c0 := @toUnit_keeps P (hP.mono rfl); have c1 := @farAtomic_keeps P (hP.mono rfl)
  exact byKeep

theorem pauseRot_keeps (hP : Closed 0x100000 P) {a1 a2 a3} (h3 : P a3) : P (pauseRot a1 a2 a3) := by
  unfold pauseRot
  have c0 := @setRot_keeps P (hP.mono rfl)
  exact byKeep

theorem mdirtySync_keeps (hP : Closed 0x20000000000000000000000000000000000000000000000000000000000000000000000000000000000000000000000000000000000000000000000000000000000000000000000 P) {a1 a2} (h2 : P a2) : P (mdirtySync a1 a2) := by
  unfold mdirtySync
  have c0 := @set_keeps _ P hP
  exact byKeep

theorem bmInit_keeps (hP : Closed 0x10004 P) {a1 a2 a3} (h3 : P a3) : P (bmInit a1 a2 a3) := by
  unfold bmInit
  have c0 := @emit_keeps _ P hP; have c1 := @modMig_keeps P (hP.mono rfl)
  exact byKeep

theorem migBegin_keeps (hP : Closed 0x8000000000000000000000000000000000000000000000000000000000000000000000000000000000000000000000000000000000000000000000000000000000000000510004 P) {a1 a2} (h2 : P a2) : P (migBegin a1 a2) := by
  unfold migBegin
  have c0 := @set_keeps _ P hP; have c1 := @newKey_keeps P (hP.mono rfl); have c2 := @request_keeps P (hP.mono rfl)
  have c3 := @setMig_keeps P (hP.mono rfl); have c4 := @bmInit_keeps P (hP.mono rfl); have c5 := @emit_keeps _ P hP
  exact byKeep

theorem askAbort_keeps (hP : Closed 0x410000 P) {a1 a2} (h2 : P a2) : P (askAbort a1 a2) := by
  unfold askAbort
  have c0 := @request_keeps P (hP.mono rfl); have c1 := @modMig_keeps P (hP.mono rfl)
  exact byKeep

theorem migEnter_keeps (hP : Closed 0x370000010000000000000000000000000000000000000000000000000000000000000000000000000000000000000000000000000000000000000000000001e00008c0400510040 P) {a1 a2 a3} (h3 : P a3) : P (migEnter a1 a2 a3) := by
  unfold migEnter
  have c0 := @modMig_keeps P (hP.mono rfl); have c1 := @set_keeps _ P hP; have c2 := @mdirtySync_keeps P (hP.mono rfl)
  have c3 := @pauseRot_keeps P (hP.mono rfl); have c4 := @setPhase_keeps P (hP.mono rfl); have c5 := @askAbort_keeps P (hP.mono rfl)
  exact byKeep

theorem releaseMig_keeps (hP : Closed 0xc000000000000000000000000000000000000000000000000000000001800000200000001000000000000009f000300000000000000000000000000000000000000000a22000010000003ffc100000000000000000000000000000000000000000000000001e00008c04127560cc P) {a1 a2} (h2 : P a2) : P (releaseMig a1 a2) := by
  unfold releaseMig
  have c0 := @readmit_keeps P (hP.mono rfl); have c1 := @setMig_keeps P (hP.mono rfl)
  exact byKeep

theorem quiesceEnd_keeps (hP : Closed 0xc0000000000000000000000000000000000000000000000000000000018000002000000010000c500000000bf000300000000000000000000000000000000000000000a22000010000003ffc100000000000000000000000000000000000000000000000001e00008c04127560cc P) {a1 a2 a3} (h3 : P a3) : P (quiesceEnd a1 a2 a3) := by
  unfold quiesceEnd
  have c0 := @set_keeps _ P hP; have c1 := @flag_keeps P (hP.mono rfl); have c2 := @bump_keeps _ P hP
  have c3 := @modMig_keeps P (hP.mono rfl); have c4 := @releaseMig_keeps P (hP.mono rfl); have c5 := @setPhase_keeps P (hP.mono rfl)
  exact byKeep

theorem quiesceBegin_keeps (hP : Closed 0x10000000000000000000000000000000000000000000000000000000000000000000000000000000000000000000000000000000000000000000000000001e00008c0400010040 P) {a1 a2} (h2 : P a2) : P (quiesceBegin a1 a2) := by
  unfold quiesceBegin
  have c0 := @modMig_keeps P (hP.mono rfl); have c1 := @setPhase_keeps P (hP.mono rfl)
  exact byKeep

theorem nextPass_keeps (hP : Closed 0x130000000000000000000000000000000000000000000000000000000000000000000000000000000000000000000000000000000000000000000000000001e00008c0400410040 P) {a1 a2} (h2 : P a2) : P (nextPass a1 a2) := by
  unfold nextPass
  have c0 := @set_keeps _ P hP; have c1 := @bump_keeps _ P hP; have c2 := @modMig_keeps P (hP.mono rfl)
  have c3 := @setPhase_keeps P (hP.mono rfl); have c4 := @request_keeps P (hP.mono rfl)
  exact byKeep

theorem abortDone_keeps (hP : Closed 0xc000000000000000000000000000000000000000000000000000000001800000200000001000037000001009f000300000000000000000000000000000000000000000a22000010000003ffc100000000000000000000000000000000000000000000000001e00008c04127560cc P) {a1 a2} (h2 : P a2) : P (abortDone a1 a2) := by
  unfold abortDone
  have c0 := @set_keeps _ P hP; have c1 := @setPhase_keeps P (hP.mono rfl); have c2 := @setMig_keeps P (hP.mono rfl)
  have c3 := @readmit_keeps P (hP.mono rfl); have c4 := @pauseRot_keeps P (hP.mono rfl); have c5 := @restate_keeps P (hP.mono rfl)
  have c6 := @mdirtySync_keeps P (hP.mono rfl)
  exact byKeep

theorem retryAborts_keeps (hP : Closed 0x410000 P) {a1} (h1 : P a1) : P (retryAborts a1) := by
  unfold retryAborts
  have c0 := @forN_keeps _ P hP; have c1 := @askAbort_keeps P (hP.mono rfl)
  exact byKeep

theorem migAbort_keeps (hP : Closed 0xc0000000000000000000000000000000000000000000000000000000018000002000000010000c500000000bf000300000000000000000000000000000000000000000a22000010000003ffc100000000000000000000000000000000000000000000000001e00008c04127561cc P) {a1 a2} (h2 : P a2) : P (migAbort a1 a2) := by
  unfold migAbort
  have c0 := @modMig_keeps P (hP.mono rfl); have c1 := @voidDec_keeps P (hP.mono rfl); have c2 := @quiesceEnd_keeps P (hP.mono rfl)
  have c3 := @setPhase_keeps P (hP.mono rfl); have c4 := @askAbort_keeps P (hP.mono rfl)
  exact byKeep

theorem mctlWrite_keeps (hP : Closed 0xc0000000000000000000000000000000000000000000000000000000018000002000000010000cd01c00000bf000300000000000000000000000000000000000000000a22000010000003ffc100000000000000000000000000000000000000000000000001e00008c04127561cc P) {a1 a2 a3} (h3 : P a3) : P (mctlWrite a1 a2 a3) := by
  unfold mctlWrite
  have c0 := @set_keeps _ P hP; have c1 := @migBegin_keeps P (hP.mono rfl); have c2 := @migAbort_keeps P (hP.mono rfl)
  exact byKeep

theorem execMigStart_keeps (hP : Closed 0xc0000000000000000000000000000000000000000000000000000000018000002000000010000cd01c00000bf000300000000000000000000000000000000000000000a22000010000003ffc100000000000000000000000000000000000000000000000001e00008c04127561cc P) {a1 a2 a3} (h3 : P a3) : Ans P (execMigStart a1 a2 a3) := by
  unfold execMigStart
  have c0 := @atReg_keeps P (hP.mono rfl); have c1 := @mctlWrite_keeps P (hP.mono rfl); have c2 := @set_keeps _ P hP
  exact byKeep

theorem execMctlAbort_keeps (hP : Closed 0xc0000000000000000000000000000000000000000000000000000000018000002000000010000cd01c00000bf000300000000000000000000000000000000000000000a22000010000003ffc100000000000000000000000000000000000000000000000001e00008c04127561cc P) {a1 a2 a3} (h3 : P a3) : Ans P (execMctlAbort a1 a2 a3) := by
  unfold execMctlAbort
  have c0 := @atReg_keeps P (hP.mono rfl); have c1 := @mctlWrite_keeps P (hP.mono rfl); have c2 := @set_keeps _ P hP
  exact byKeep

theorem execCopyPassEnd_keeps (hP : Closed 0x170000000000000000000000000000000000000000000000000000000000000000000000000000000000000000000000000000000003000000000000000041e00008c04004103c0 P) {a1 a2} (h2 : P a2) : Ans P (execCopyPassEnd a1 a2) := by
  unfold execCopyPassEnd
  have c0 := @reachPoint_keeps P (hP.mono rfl); have c1 := @modMig_keeps P (hP.mono rfl); have c2 := @setPhase_keeps P (hP.mono rfl)
  have c3 := @quiesceBegin_keeps P (hP.mono rfl); have c4 := @set_keeps _ P hP; have c5 := @nextPass_keeps P (hP.mono rfl)
  exact byKeep

theorem execMigCheckpoint_keeps (hP : Closed 0x400000 P) {a1 a2} (h2 : P a2) : Ans P (execMigCheckpoint a1 a2) := by
  unfold execMigCheckpoint
  have c0 := @request_keeps P (hP.mono rfl)
  exact byKeep

theorem execQuiesceCopyDone_keeps (hP : Closed 0xc0000000000000000000000000000000000000000000000000000000018000002000000010000e500000000bf000300000000000000000000000000000000000000000a22000010000003ffc100000000000000000000000000000000000000000000000001e00008c04127561ce P) {a1 a2 a3} (h3 : P a3) : Ans P (execQuiesceCopyDone a1 a2 a3) := by
  unfold execQuiesceCopyDone
  have c0 := @set_keeps _ P hP; have c1 := @reach_keeps _ P hP; have c2 := @mdirtySync_keeps P (hP.mono rfl)
  have c3 := @modMig_keeps P (hP.mono rfl); have c4 := @releaseMig_keeps P (hP.mono rfl); have c5 := @setPhase_keeps P (hP.mono rfl)
  have c6 := @request_keeps P (hP.mono rfl); have c7 := @migAbort_keeps P (hP.mono rfl)
  exact byKeep

theorem execQuiesceTimeout_keeps (hP : Closed 0xc0000000000000000000000000000000000000000000000000000000018000002000000010000c500000000bf000300000000000000000000000000000000000000000a22000010000003ffc100000000000000000000000000000000000000000000000001e00008c04127560ce P) {a1 a2} (h2 : P a2) : Ans P (execQuiesceTimeout a1 a2) := by
  unfold execQuiesceTimeout
  have c0 := @quiesceEnd_keeps P (hP.mono rfl); have c1 := @reach_keeps _ P hP
  exact byKeep

theorem execMigrate_keeps (hP : Closed 0xc000000000000000000000000000000000000000000000000000000001800000200000001000030000000009f000300000000000000000000000000000000000000000a22000010000003ffc100000000000000000000000000700000000000000000000001e00008c04127560cc P) {a1 a2 a3 a4} (h4 : P a4) : Ans P (execMigrate a1 a2 a3 a4) := by
  unfold execMigrate
  have c0 := @pdWake_keeps P (hP.mono rfl); have c1 := @mdirtySync_keeps P (hP.mono rfl); have c2 := @modMig_keeps P (hP.mono rfl)
  have c3 := @bmWrite_keeps P (hP.mono rfl); have c4 := @set_keeps _ P hP; have c5 := @readmit_keeps P (hP.mono rfl)
  have c6 := @forN_keeps _ P hP; have c7 := @openReq_keeps P (hP.mono rfl); have c8 := @enqueue_keeps P (hP.mono rfl)
  exact byKeep

theorem migLines_keeps (hP : Closed 0xc0000000000000000000000000000000000000000000000000000000018000000000000000000000000000000000000000000000000000000000000000000000000000a20000010000000000000000000000000000000000000000000000000000000000001e00008c04022140c0 P) {a1 a2 a3 a4} (h4 : P a4) : P (migLines a1 a2 a3 a4) := by
  unfold migLines
  have c0 := @modMig_keeps P (hP.mono rfl); have c1 := @openReq_keeps P (hP.mono rfl); have c2 := @perf_keeps P (hP.mono rfl)
  have c3 := @enqueue_keeps P (hP.mono rfl)
  exact byKeep

theorem migSealed_keeps (hP : Closed 0xc0000000000000000000000000000000000000000000000000000000018000002000000010000ff00000100bf000300000000000000000000000000000000000000000a22000010000003ffc100000000000000000000000000000000000000000000000001e00008c04127561cc P) {a1 a2 a3 a4 a5} (h5 : P a5) : P (migSealed a1 a2 a3 a4 a5) := by
  unfold migSealed
  have c0 := @migEnter_keeps P (hP.mono rfl); have c1 := @abortDone_keeps P (hP.mono rfl)
  have c2 := @set_keeps _ P hP; have c3 := @modMig_keeps P (hP.mono rfl); have c4 := @migAbort_keeps P (hP.mono rfl)
  have c5 := @retryAborts_keeps P (hP.mono rfl)
  exact byKeep

theorem execMigGo_keeps (hP : Closed 0x10000000000000000000000000000000000000000000000000000000a20000010000000000000000000000000000000000000000001000000000000000041e00008c04020101c4 P) {a1 a2} (h2 : P a2) : Ans P (execMigGo a1 a2) := by
  unfold execMigGo
  have c0 := @answer_keeps P (hP.mono rfl); have c1 := @quiesceBegin_keeps P (hP.mono rfl)
  exact byKeep

theorem execMigPass_keeps (hP : Closed 0x130000000000000000000000000000000000000000000000000000000a20000010000000000000000000000000000000000000000001000000000000000041e00008c04024101c4 P) {a1 a2} (h2 : P a2) : Ans P (execMigPass a1 a2) := by
  unfold execMigPass
  have c0 := @answer_keeps P (hP.mono rfl); have c1 := @modMig_keeps P (hP.mono rfl); have c2 := @nextPass_keeps P (hP.mono rfl)
  exact byKeep

theorem execMigAbort_keeps (hP : Closed 0xc0000000000000000000000000000000000000000000000000000000018000002000000010000c500000000bf000300000000000000000000000000000000000000000a22000010000003ffc100000000000000000000000000000001000000000000000041e00008c04127561cc P) {a1 a2} (h2 : P a2) : Ans P (execMigAbort a1 a2) := by
  unfold execMigAbort
  have c0 := @answer_keeps P (hP.mono rfl); have c1 := @migAbort_keeps P (hP.mono rfl)
  exact byKeep

theorem setFnState_keeps (hP : Closed 0x200000000000000000000000000000000000000000000000000000000000000000000000000000000000000000000000000000000000000000000000000000000000000000000000000000000000000000000000000000000000000000000001e00008c0400000040 P) {a1 a2 a3} (h3 : P a3) : P (setFnState a1 a2 a3) := by
  unfold setFnState
  have c0 := @setState_keeps P (hP.mono rfl); have c1 := @set_keeps _ P hP
  exact byKeep

theorem fnSync_keeps (hP : Closed 0x200000000000000000000000000000000000000000000000000000000000000000000000000000000000000000000000000000000000000000000000000000000000000000000000000000000000000000000000000000000000000000000001e00008c0400000040 P) {a1 a2} (h2 : P a2) : P (fnSync a1 a2) := by
  unfold fnSync
  have c0 := @setFnState_keeps P (hP.mono rfl)
  exact byKeep

theorem cqSync_keeps (hP : Closed 0x1004000000000000000000000000000000000000000000000000000000000000000000000000000000000000000000000000000000000000000000000000000000000000000000000000000000000000000000000000000000000000000000000000000000000000000000 P) {a1 a2} (h2 : P a2) : P (cqSync a1 a2) := by
  unfold cqSync
  have c0 := @setB_keeps _ P hP; have c1 := @set_keeps _ P hP
  exact byKeep

theorem fnWrite_keeps (hP : Closed 0xc0000000000000000000000000000000000000000000000000000000018000000000000000000000000000000000000000000000000000000000000000000000000000a20000010000000000000000000000000000000000000000000000000000000000001e00008c04022040c0 P) {a1 a2 a3 a4 a5 a6} (h6 : P a6) : P (fnWrite a1 a2 a3 a4 a5 a6) := by
  unfold fnWrite
  have c0 := @hostWrite_keeps P (hP.mono rfl)
  exact byKeep

theorem fnVector_keeps (hP : Closed 0xc0000000000000000000000000000000000000000000000000000000018000000000000000000000000000000000000000000000000000000000000000000000000000a20000010000000000000000000000000000000000000000000000000000000000001e00008c04032040c0 P) {a1 a2 a3} (h3 : P a3) : P (fnVector a1 a2 a3) := by
  unfold fnVector
  have c0 := @setFn_keeps P (hP.mono rfl); have c1 := @fnWrite_keeps P (hP.mono rfl)
  exact byKeep

theorem pendingVectors_keeps (hP : Closed 0xc0000000000000000000000000000000000000000000000000000000018000000000000000000000000000000000000000000000000000000000000000000000000000a20000010000000000000000000000000000000000000000000000000000000000001e00008c04032040c0 P) {a1 a2} (h2 : P a2) : P (pendingVectors a1 a2) := by
  unfold pendingVectors
  have c0 := @forL_keeps _ P hP; have c1 := @fnVector_keeps P (hP.mono rfl); have c2 := @modFn_keeps P (hP.mono rfl)
  exact byKeep

theorem fnEvent_keeps (hP : Closed 0xc0000000000000000000000000000000000000000000000000000000018000000000000000000000000000000000000000000000000000000000000000000000000000a20000010000000000000000000000000000000000000000000000000000000000001e00008c04032040c0 P) {a1 a2 a3} (h1 : ∀ s v i j, P s → P (State.set s a1 v i j)) (h3 : P a3) : P (fnEvent a1 a2 a3) := by
  unfold fnEvent
  have c0 := @fnVector_keeps P (hP.mono rfl)
  exact byKeep

theorem stopSync_keeps (hP : Closed 0x200000000000000000000000000000000000000000000000000000000000000000000000000000000000000000000000000000000000000000000000000000000000000000000000000000000000000000000000000000000000000000000000000000000000000000000 P) {a1 a2} (h2 : P a2) : P (stopSync a1 a2) := by
  unfold stopSync
  have c0 := @forN_keeps _ P hP; have c1 := @set_keeps _ P hP
  exact byKeep

theorem dmvReq_keeps (hP : Closed 0xc000000000000000000000000000000000000000000000000000000001800000200000001000000000000009f000300000000000000000000000000000000000000000a22000010000003ffc100000000000000000000000000000000000000000000000001e00008c04127560cc P) {a1 a2 a3 a4 a5 a6 a7 a8 a9 a10} (h10 : P a10) : P (dmvReq a1 a2 a3 a4 a5 a6 a7 a8 a9 a10).2 := by
  unfold dmvReq
  have c0 := @freshId_keeps P (hP.mono rfl); have c1 := @takeIn_keeps P (hP.mono rfl)
  exact byKeep

theorem dmvRead_keeps (hP : Closed 0xc000000000000000000000000000000000000000000000000000000001800000200000001000000000000009f000300000000000000000000000000000000000000000a22000010000003ffc100000000000000000000000000000000000000000000000001e00008c04127560cc P) {a1 a2 a3 a4 a5} (h5 : P a5) : P (dmvRead a1 a2 a3 a4 a5).2 := by
  unfold dmvRead
  have c0 := @dmvReq_keeps P (hP.mono rfl)
  exact byKeep

theorem dmvStore_keeps (hP : Closed 0xc000000000000000000000000000000000000000000000000000000001800000200000001000000000000009f000300000000000000000000000000000000000000000a22000010000003ffc100000000000000000000000000000000000000000000000001e00008c04127560cc P) {a1 a2 a3 a4 a5 a6 a7 a8} (h8 : P a8) : P (dmvStore a1 a2 a3 a4 a5 a6 a7 a8).2 := by
  unfold dmvStore
  have c0 := @dmvReq_keeps P (hP.mono rfl)
  exact byKeep

theorem sqDoorbell_keeps (hP : Closed 0xc0000002000400000000000000000000000000000000000000000000018000000000000000000000000000000000000000000000000000000000000000000000000000a20000010000000000000000000000000000000000000000000000000000000000001e00008c04032040c0 P) {a1 a2 a3 a4} (h4 : P a4) : P (sqDoorbell a1 a2 a3 a4) := by
  unfold sqDoorbell
  have c0 := @fnEvent_keeps P (hP.mono rfl); have c1 := @set_keeps _ P hP; have c2 := @modFn_keeps P (hP.mono rfl)
  exact byKeep

theorem execSqDoorbell_keeps (hP : Closed 0xc0000002000400000000000000000000000000000000000000000000018000000000000000000000000000000000000000000000000000000000000000000000000000a20000010000000000000000000000000000000000000700000000000000000000001e00008c04032040c0 P) {a1 a2 a3 a4} (h4 : P a4) : Ans P (execSqDoorbell a1 a2 a3 a4) := by
  unfold execSqDoorbell
  have c0 := @toUnit_keeps P (hP.mono rfl); have c1 := @sqDoorbell_keeps P (hP.mono rfl)
  exact byKeep

theorem cqDoorbell_keeps (hP : Closed 0xc0000010041000000000000000000000000000000000000000000000018000000000000000000000000000000000000000000000000000000000000000000000000000a20000010000000000000000000000000000000000000000000000000000000000001e00008c04032040c0 P) {a1 a2 a3} (h3 : P a3) : P (cqDoorbell a1 a2 a3) := by
  unfold cqDoorbell
  have c0 := @fnEvent_keeps P (hP.mono rfl); have c1 := @cqSync_keeps P (hP.mono rfl); have c2 := @setFn_keeps P (hP.mono rfl)
  have c3 := @set_keeps _ P hP
  exact byKeep

theorem execCqDoorbell_keeps (hP : Closed 0xc0000010041000000000000000000000000000000000000000000000018000000000000000000000000000000000000000000000000000000000000000000000000000a20000010000000000000000000000000000000000000700000000000000000000001e00008c04032040c0 P) {a1 a2 a3} (h3 : P a3) : Ans P (execCqDoorbell a1 a2 a3) := by
  unfold execCqDoorbell
  have c0 := @toUnit_keeps P (hP.mono rfl); have c1 := @cqDoorbell_keeps P (hP.mono rfl)
  exact byKeep

theorem execDescriptorFetch_keeps (hP : Closed 0xc000000100000000000000000000000000000000000000000000000001800000200000001000000000000009f000300000000000000000000000000000000000000000a22000010000003ffc100000000000000000000000000000000000000000000000001e00008c04137560cc P) {a1 a2 a3 a4} (h4 : P a4) : Ans P (execDescriptorFetch a1 a2 a3 a4) := by
  unfold execDescriptorFetch
  have c0 := @dmvReq_keeps P (hP.mono rfl); have c1 := @set_keeps _ P hP; have c2 := @modFn_keeps P (hP.mono rfl)
  exact byKeep

theorem noteErr_keeps (hP : Closed 0x1000000 P) {a1 a2 a3 a4 a5} (h5 : P a5) : P (noteErr a1 a2 a3 a4 a5) := by
  unfold noteErr
  have c0 := @modDesc_keeps P (hP.mono rfl)
  exact byKeep

theorem dmvPut_keeps (hP : Closed 0xc000000000000000000000000000000000000000000000000000000001800000200000001000000000000009f000300000000000000000000000000000000000000000a22000010000003ffc100000000000000000000000000000000000000000000000001e00008c04137560cc P) {a1 a2 a3 a4 a5 a6} (h6 : P a6) : P (dmvPut a1 a2 a3 a4 a5 a6) := by
  unfold dmvPut
  have c0 := @noteErr_keeps P (hP.mono rfl); have c1 := @dmvStore_keeps P (hP.mono rfl); have c2 := @perf_keeps P (hP.mono rfl)
  exact byKeep

theorem execCopy_keeps (hP : Closed 0xc000000000000000000000000000000000000000000000000000000001800000200000001000000000000009f000300000000000000000000000000000000000000000a22000010000003ffc100000000000000000000000000000000000000000000000001e00008c04137560cc P) {a1 a2 a3 a4 a5 a6} (h6 : P a6) : Ans P (execCopy a1 a2 a3 a4 a5 a6) := by
  unfold execCopy
  have c0 := @noteErr_keeps P (hP.mono rfl); have c1 := @dmvRead_keeps P (hP.mono rfl); have c2 := @dmvPut_keeps P (hP.mono rfl)
  have c3 := @modDesc_keeps P (hP.mono rfl)
  exact byKeep

theorem execFill_keeps (hP : Closed 0xc000000000000000000000000000000000000000000000000000000001800000200000001000000000000009f000300000000000000000000000000000000000000000a22000010000003ffc100000000000000000000000000000000000000000000000001e00008c04137560cc P) {a1 a2 a3 a4} (h4 : P a4) : Ans P (execFill a1 a2 a3 a4) := by
  unfold execFill
  have c0 := @dmvPut_keeps P (hP.mono rfl)
  exact byKeep

theorem execZero_keeps (hP : Closed 0xc000000000000000000000000000000000000000000000000000000001800000200000001000000000000009f000300000000000000000000000000000000000000000a22000010000003ffc100000000000000000000000000000000000000000000000001e00008c04137560cc P) {a1 a2 a3 a4} (h4 : P a4) : Ans P (execZero a1 a2 a3 a4) := by
  unfold execZero
  have c0 := @dmvPut_keeps P (hP.mono rfl)
  exact byKeep

theorem execCrc_keeps (hP : Closed 0xc000000000000000000000000000000000000000000000000000000001800000200000001000000000000009f000300000000000000000000000000000000000000000a22000010000003ffc100000000000000000000000000000000000000000000000001e00008c04137560cc P) {a1 a2 a3 a4 a5} (h5 : P a5) : Ans P (execCrc a1 a2 a3 a4 a5) := by
  unfold execCrc
  have c0 := @noteErr_keeps P (hP.mono rfl); have c1 := @dmvRead_keeps P (hP.mono rfl); have c2 := @perf_keeps P (hP.mono rfl)
  have c3 := @modDesc_keeps P (hP.mono rfl)
  exact byKeep

theorem execCompare_keeps (hP : Closed 0xc000000000000000000000000000000000000000000000000000000001800000200000001000000000000009f000300000000000000000000000000000000000000000a22000010000003ffc100000000000000000000000000000000000000000000000001e00008c04137560cc P) {a1 a2 a3 a4 a5 a6} (h6 : P a6) : Ans P (execCompare a1 a2 a3 a4 a5 a6) := by
  unfold execCompare
  have c0 := @dmvRead_keeps P (hP.mono rfl); have c1 := @noteErr_keeps P (hP.mono rfl); have c2 := @perf_keeps P (hP.mono rfl)
  have c3 := @modDesc_keeps P (hP.mono rfl)
  exact byKeep

theorem execAtomic_keeps (hP : Closed 0xc000000000000000000003020000000000000000000000000000000001800000200000001000000000000009f000300000000000000000000000000000000000000000a22000010000003ffc100000000000000000000000000000000000000000000000001e00008c0413f560cc P) {a1 a2 a3 a4} (h4 : P a4) : Ans P (execAtomic a1 a2 a3 a4) := by
  unfold execAtomic
  have c0 := @farAtomic_keeps P (hP.mono rfl); have c1 := @modDesc_keeps P (hP.mono rfl)
  exact byKeep

theorem execDescriptorDone_keeps (hP : Closed 0x2000000020000000000000000000000000000000000000000000000000000000000000000000000000000000000000000000000000000000000000000000000a20000010000000000000000000000000000000000000000000000000000000000001e00008c0403000040 P) {a1 a2 a3 a4 a5 a6} (h6 : P a6) : Ans P (execDescriptorDone a1 a2 a3 a4 a5 a6) := by
  unfold execDescriptorDone
  have c0 := @perf_keeps P (hP.mono rfl); have c1 := @bump_keeps _ P hP; have c2 := @modDesc_keeps P (hP.mono rfl)
  have c3 := @stopSync_keeps P (hP.mono rfl); have c4 := @modFn_keeps P (hP.mono rfl); have c5 := @set_keeps _ P hP
  exact byKeep

theorem putEntry_keeps (hP : Closed 0xc000001c04000000000000000000000000000000000000000000000001800000200000001000000000000009f000300000000000000000000000000000000000000000a22000010000003ffc100000000000000000000000000000000000000000000000001e00008c04137560cc P) {a1 a2 a3 a4} (h4 : P a4) : P (putEntry a1 a2 a3 a4) := by
  unfold putEntry
  have c0 := @dmvReq_keeps P (hP.mono rfl); have c1 := @set_keeps _ P hP; have c2 := @modFn_keeps P (hP.mono rfl)
  have c3 := @fnVector_keeps P (hP.mono rfl); have c4 := @cqSync_keeps P (hP.mono rfl); have c5 := @setFn_keeps P (hP.mono rfl)
  exact byKeep

theorem writeEntry_keeps (hP : Closed 0xc000001e04000000000000000000000000000000000000000000000001800000200000001000000000000009f000300000000000000000000000000000000000000000a22000010000003ffc100000000000000000000000000000000000000000000000001e00008c04137560cc P) {a1 a2} (h2 : P a2) : P (writeEntry a1 a2) := by
  unfold writeEntry
  have c0 := @putEntry_keeps P (hP.mono rfl); have c1 := @setFn_keeps P (hP.mono rfl); have c2 := @stopSync_keeps P (hP.mono rfl)
  exact byKeep

theorem execCqEntryWrite_keeps (hP : Closed 0xc000001e04000000000000000000000000000000000000000000000001800000200000001000000000000009f000300000000000000000000000000000000000000000a22000010000003ffc100000000000000000000000000000000000000000000000001e00008c04137560cc P) {a1 a2} (h2 : P a2) : Ans P (execCqEntryWrite a1 a2) := by
  unfold execCqEntryWrite
  have c0 := @writeEntry_keeps P (hP.mono rfl)
  exact byKeep

theorem execCqCoalesceTimeout_keeps (hP : Closed 0xc0000000000000000000000000000000000000000000000000000000018000000000000000000000000000000000000000000000000000000000000000000000000000a20000010000000000000000000000000000000000000000000000000000000000001e00008c04032040c2 P) {a1 a2} (h2 : P a2) : Ans P (execCqCoalesceTimeout a1 a2) := by
  unfold execCqCoalesceTimeout
  have c0 := @reach_keeps _ P hP; have c1 := @fnVector_keeps P (hP.mono rfl); have c2 := @modFn_keeps P (hP.mono rfl)
  exact byKeep

theorem sqCfg_keeps (hP : Closed 0x30a0200000000000000000000000000000000000000000000000000000000000000000000000000000000000000000000000000000000000000000000000000000000000000000000000000000000000000000000000000000000000000000000001e00008c0401000040 P) {a1 a2 a3 a4} (h4 : P a4) : P (sqCfg a1 a2 a3 a4) := by
  unfold sqCfg
  have c0 := @set_keeps _ P hP; have c1 := @fnSync_keeps P (hP.mono rfl); have c2 := @modFn_keeps P (hP.mono rfl)
  exact byKeep

theorem cqCfg_keeps (hP : Closed 0x1cf40200000000000000000000000000000000000000000000000000000000000000000000000000000000000000000000000000000000000000000000000000000000000000000000000000000000000000000000000000000000000000000000001e00008c0401000040 P) {a1 a2 a3} (h3 : P a3) : P (cqCfg a1 a2 a3) := by
  unfold cqCfg
  have c0 := @set_keeps _ P hP; have c1 := @cqSync_keeps P (hP.mono rfl); have c2 := @fnSync_keeps P (hP.mono rfl)
  have c3 := @modFn_keeps P (hP.mono rfl)
  exact byKeep

theorem execQueueEnable_keeps (hP : Closed 0x1ffe0200000000000000000000000000000000000000000000000000000000000000000000000000000000000000000000000000000000000000000000000000000000000000000000000000000000000000000000000700000000000000000000001e00008c0401200040 P) {a1 a2 a3 a4} (h4 : P a4) : Ans P (execQueueEnable a1 a2 a3 a4) := by
  unfold execQueueEnable
  have c0 := @toUnit_keeps P (hP.mono rfl); have c1 := @sqCfg_keeps P (hP.mono rfl); have c2 := @cqCfg_keeps P (hP.mono rfl)
  exact byKeep

theorem execFcfgWrite_keeps (hP : Closed 0xc00000020008001c0000000000000000000000000000000000000000018000000000000000000000000000000000000000000000000000000000000000000000000000a20000010000000000000000000000000000000000000700000000000000000000001e00008c04032040c0 P) {a1 a2 a3} (h3 : P a3) : Ans P (execFcfgWrite a1 a2 a3) := by
  unfold execFcfgWrite
  have c0 := @atDomain_keeps P (hP.mono rfl); have c1 := @set_keeps _ P hP; have c2 := @stopSync_keeps P (hP.mono rfl)
  have c3 := @fnEvent_keeps P (hP.mono rfl)
  exact byKeep

theorem frzResult_keeps (hP : Closed 0x40000000000000000000000000000000000000000000000000000000000000000000000000000000000000000000000000000000000000000000000000000000000000000000000000000000000000000000000000000000000000000000000000000000000 P) {a1 a2} (h2 : P a2) : P (frzResult a1 a2) := by
  unfold frzResult
  have c0 := @set_keeps _ P hP
  exact byKeep

theorem frzBusy_keeps (hP : Closed 0x200000000000000000000000000000000000000000000000000000000000000000000000000000000000000000000000000000000000000000000000000000000000000000000000000000000000000000000000000000000000000001e00008c0400000040 P) {a1 a2} (h2 : P a2) : P (frzBusy a1 a2) := by
  unfold frzBusy
  have c0 := @setState_keeps P (hP.mono rfl); have c1 := @set_keeps _ P hP
  exact byKeep

theorem freezeFn_keeps (hP : Closed 0x200000600000000000000000000000000000000000000000000000000000000000000000000000000000000000000000000000000000000000000000000000000000000000000000000000000000000000000000000000000000000000000001e00008c0401000040 P) {a1 a2} (h2 : P a2) : P (freezeFn a1 a2) := by
  unfold freezeFn
  have c0 := @frzResult_keeps P (hP.mono rfl); have c1 := @modFn_keeps P (hP.mono rfl); have c2 := @setFnState_keeps P (hP.mono rfl)
  have c3 := @frzBusy_keeps P (hP.mono rfl)
  exact byKeep

theorem saveFn_keeps (hP : Closed 0x40000000000000000000000000000000000000000000000000000000000000000000000000000000000000000000000000000000000000000000000000000000000000000000000000000000000000000000000000000000000000000000000000000000004 P) {a1 a2} (h2 : P a2) : P (saveFn a1 a2) := by
  unfold saveFn
  have c0 := @frzResult_keeps P (hP.mono rfl); have c1 := @emit_keeps _ P hP
  exact byKeep

theorem restoreFn_keeps (hP : Closed 0x1fffa200000400000000000000000000000000000000000000000000000000000000000000000000000000000000000000000000000000000000000000000000000000000000000000000000000000000000000000000000000000000000000000001e00008c0401000040 P) {a1 a2 a3} (h3 : P a3) : P (restoreFn a1 a2 a3) := by
  unfold restoreFn
  have c0 := @frzResult_keeps P (hP.mono rfl); have c1 := @forN_keeps _ P hP; have c2 := @set_keeps _ P hP
  have c3 := @setB_keeps _ P hP; have c4 := @putWord_keeps _ P hP; have c5 := @setFnState_keeps P (hP.mono rfl)
  have c6 := @cqSync_keeps P (hP.mono rfl); have c7 := @setFn_keeps P (hP.mono rfl)
  exact byKeep

theorem unfreezeFn_keeps (hP : Closed 0xc000001e04020000040000000000000000000000000000000000000001800000200000001000000000000009f000300000000000000000000000000000000000000000a22000010000003ffc100000000000000000000000000000000000000000000000001e00008c04137560cc P) {a1 a2} (h2 : P a2) : P (unfreezeFn a1 a2) := by
  unfold unfreezeFn
  have c0 := @frzResult_keeps P (hP.mono rfl); have c1 := @modFn_keeps P (hP.mono rfl); have c2 := @setFnState_keeps P (hP.mono rfl)
  have c3 := @stopSync_keeps P (hP.mono rfl); have c4 := @pendingVectors_keeps P (hP.mono rfl)
  have c5 := @forN_keeps _ P hP; have c6 := @writeEntry_keeps P (hP.mono rfl)
  exact byKeep

theorem clearFn_keeps (hP : Closed 0x7fffffc0000000000000000000000000000000000000000000000000000000000000000000000000000000000000000000000000000000000000000000000000000000000000000000000000000000000000000000000000000000000000000000001e00008c0401000040 P) {a1 a2} (h2 : P a2) : P (clearFn a1 a2) := by
  unfold clearFn
  have h := setFnState_keeps (hP.mono rfl) (a1 := a1) (a2 := fIdle) h2
  refine hP.other bySides (filter_keeps hP (fun e he hk i j v => ?_) h)
  have hlt : e.last < FN.CAP.FNUM.base ∧ e.ni ≠ 0 ∧ e.nj ≠ 0 := by
    have := List.all_eq_true.1 (show tabAll.all (fun e => (0x7fffffc000000000000000000000000000000000000000000000000000000000000000000000000000000000000000000000000000000000000000000000000000000000000000000000000000000000000000000000000000000000000000000000000000000000000000).testBit (fieldBit e) || (decide (e.last < FN.CAP.FNUM.base) && e.ni != 0 && e.nj != 0)) = true by decide +kernel) e he
    have hk' : (0x7fffffc000000000000000000000000000000000000000000000000000000000000000000000000000000000000000000000000000000000000000000000000000000000000000000000000000000000000000000000000000000000000000000000000000000000000000).testBit (fieldBit e) = false := testBit_false_of_land rfl hk
    rw [hk'] at this
    simpa [and_assoc] using this
  have := key_range hlt.2.1 hlt.2.2 i j
  simp only [Bool.not_eq_true', Bool.and_eq_false_iff, decide_eq_false_iff_not]
  omega

theorem discardFn_keeps (hP : Closed 0x7fffffc0000400000000000000000000000000000000000000000000000000000000000000000000000000000000000000000000000000000000000000000000000000000000000000000000000000000000000000000000000000000000000000001e00008c0401000040 P) {a1 a2} (h2 : P a2) : P (discardFn a1 a2) := by
  unfold discardFn
  have c0 := @frzResult_keeps P (hP.mono rfl); have c1 := @clearFn_keeps P (hP.mono rfl)
  exact byKeep

theorem frzWrite_keeps (hP : Closed 0xc000007fffffc00006c000000000000000000000000000000000000001800000200000001000000000000009f000300000000000000000000000000000000000000000a22000010000003ffc100000000000000000000000000000000000000000000000001e00008c04137560cc P) {a1 a2 a3} (h3 : P a3) : P (frzWrite a1 a2 a3) := by
  unfold frzWrite
  have c0 := @set_keeps _ P hP; have c1 := @frzResult_keeps P (hP.mono rfl); have c2 := @freezeFn_keeps P (hP.mono rfl)
  have c3 := @saveFn_keeps P (hP.mono rfl); have c4 := @restoreFn_keeps P (hP.mono rfl); have c5 := @unfreezeFn_keeps P (hP.mono rfl)
  have c6 := @discardFn_keeps P (hP.mono rfl)
  exact byKeep

theorem execFreeze_keeps (hP : Closed 0xc000007fffffc00006c000000000000000000000000000000000000001800000200000001000000000000009f000300000000000000000000000000000000000000000a22000010000003ffc100000000000000000000000000700000000000000000000001e00008c04137560cc P) {a1 a2} (h2 : P a2) : Ans P (execFreeze a1 a2) := by
  unfold execFreeze
  have c0 := @atDomain_keeps P (hP.mono rfl); have c1 := @frzWrite_keeps P (hP.mono rfl); have c2 := @set_keeps _ P hP
  exact byKeep

theorem execSave_keeps (hP : Closed 0xc000007fffffc00006c000000000000000000000000000000000000001800000200000001000000000000009f000300000000000000000000000000000000000000000a22000010000003ffc100000000000000000000000000700000000000000000000001e00008c04137560cc P) {a1 a2} (h2 : P a2) : Ans P (execSave a1 a2) := by
  unfold execSave
  have c0 := @atDomain_keeps P (hP.mono rfl); have c1 := @frzWrite_keeps P (hP.mono rfl); have c2 := @set_keeps _ P hP
  exact byKeep

theorem execRestore_keeps (hP : Closed 0xc000007fffffc00006c000000000000000000000000000000000000001800000200000001000000000000009f000300000000000000000000000000000000000000000a22000010000003ffc100000000000000000000000000700000000000000000000001e00008c04137560cc P) {a1 a2 a3} (h3 : P a3) : Ans P (execRestore a1 a2 a3) := by
  unfold execRestore
  have c0 := @atDomain_keeps P (hP.mono rfl); have c1 := @frzWrite_keeps P (hP.mono rfl); have c2 := @set_keeps _ P hP
  exact byKeep

theorem execUnfreeze_keeps (hP : Closed 0xc000007fffffc00006c000000000000000000000000000000000000001800000200000001000000000000009f000300000000000000000000000000000000000000000a22000010000003ffc100000000000000000000000000700000000000000000000001e00008c04137560cc P) {a1 a2} (h2 : P a2) : Ans P (execUnfreeze a1 a2) := by
  unfold execUnfreeze
  have c0 := @atDomain_keeps P (hP.mono rfl); have c1 := @frzWrite_keeps P (hP.mono rfl); have c2 := @set_keeps _ P hP
  exact byKeep

theorem execFreezeDiscard_keeps (hP : Closed 0xc000007fffffc00006c000000000000000000000000000000000000001800000200000001000000000000009f000300000000000000000000000000000000000000000a22000010000003ffc100000000000000000000000000700000000000000000000001e00008c04137560cc P) {a1 a2} (h2 : P a2) : Ans P (execFreezeDiscard a1 a2) := by
  unfold execFreezeDiscard
  have c0 := @atDomain_keeps P (hP.mono rfl); have c1 := @frzWrite_keeps P (hP.mono rfl); have c2 := @set_keeps _ P hP
  exact byKeep

theorem execFreezeComplete_keeps (hP : Closed 0xc000001e04020000060000000000000000000000000000000000000001800000200000001000000000000009f000300000000000000000000000000000000000000000a22000010000003ffc100000000000000000000000000000000000000000000000001e00008c04137560cc P) {a1} (h1 : P a1) : Ans P (execFreezeComplete a1) := by
  unfold execFreezeComplete
  have c0 := @forN_keeps _ P hP; have c1 := @writeEntry_keeps P (hP.mono rfl); have c2 := @setFnState_keeps P (hP.mono rfl)
  have c3 := @frzBusy_keeps P (hP.mono rfl); have c4 := @frzResult_keeps P (hP.mono rfl)
  exact byKeep

theorem resetFn_keeps (hP : Closed 0x7fffffc0020600000000000000000000000000000000000000000000000000000000000000000000000000000000000000000000000000000000000000000000000000000000000000000000000000000000000000000000000000000000000000001e00008c0401000040 P) {a1 a2} (h2 : P a2) : P (resetFn a1 a2) := by
  unfold resetFn
  have c0 := @bump_keeps _ P hP; have c1 := @frzBusy_keeps P (hP.mono rfl); have c2 := @frzResult_keeps P (hP.mono rfl)
  have c3 := @clearFn_keeps P (hP.mono rfl); have c4 := @set_keeps _ P hP
  exact byKeep

theorem execFunctionReset_keeps (hP : Closed 0x7fffffc0020600000000000000000000000000000000000000000000000000000000000000000000000000000000000000000000000000000000000000000000000000000000000000000000000000000000000000000700000000000000000000001e00008c0401200040 P) {a1 a2 a3} (h3 : P a3) : Ans P (execFunctionReset a1 a2 a3) := by
  unfold execFunctionReset
  have c0 := @toUnit_keeps P (hP.mono rfl); have c1 := @resetFn_keeps P (hP.mono rfl); have c2 := @set_keeps _ P hP
  exact byKeep

theorem dmvHostLost_keeps (hP : Closed 0x7fffffc0020600000000000000000000000000000000000000000000000000000000000000000000000000000000000000000000000000000000000000000000000000000000000000000000000000000000000000000000000000000000000000001e00008c0401000040 P) {a1 a2} (h2 : P a2) : P (dmvHostLost a1 a2) := by
  unfold dmvHostLost
  have c0 := @forN_keeps _ P hP; have c1 := @resetFn_keeps P (hP.mono rfl); have c2 := @modFn_keeps P (hP.mono rfl)
  have c3 := @bump_keeps _ P hP; have c4 := @set_keeps _ P hP
  exact byKeep

theorem eraseBusy_keeps (hP : Closed 0x8000000000000000000000000000000000000000000000000000000000000000000000000000000000000000000000000000000000000000000000000000000000000000000000000000000000000000000000000000000000000000001e00008c0400000040 P) {a1 a2} (h2 : P a2) : P (eraseBusy a1 a2) := by
  unfold eraseBusy
  have c0 := @setState_keeps P (hP.mono rfl); have c1 := @set_keeps _ P hP
  exact byKeep

theorem eraseWrite_keeps (hP : Closed 0x1b000000000000000000000000000000000000000000000000000000000000000000000000000000000000000000000000000000000000000000000000000000000000000000000000000000000000000000000000000000000000000001e00008c0401500040 P) {a1 a2} (h2 : P a2) : P (eraseWrite a1 a2) := by
  unfold eraseWrite
  have c0 := @set_keeps _ P hP; have c1 := @newKey_keeps P (hP.mono rfl); have c2 := @request_keeps P (hP.mono rfl)
  have c3 := @eraseBusy_keeps P (hP.mono rfl)
  exact byKeep

theorem execCryptoErase_keeps (hP : Closed 0x1b000000000000000000000000000000000000000000000000000000000000000000000000000000000000000000000000000000000000000000000000000000000000000000000000000000000000000000700000000000000000000001e00008c0401700040 P) {a1 a2} (h2 : P a2) : Ans P (execCryptoErase a1 a2) := by
  unfold execCryptoErase
  have c0 := @atDomain_keeps P (hP.mono rfl); have c1 := @eraseWrite_keeps P (hP.mono rfl)
  have c2 := @set_keeps _ P hP
  exact byKeep

theorem execEraseZeroDone_keeps (hP : Closed 0x8000000000000000000000000000000000000000000000000000000000000000000000000000000000000000000000000000000000000000000000000000000000000000000000000000000000000000000000000000000000000000001e00008c0401000040 P) {a1} (h1 : P a1) : Ans P (execEraseZeroDone a1) := by
  unfold execEraseZeroDone
  have c0 := @eraseBusy_keeps P (hP.mono rfl)
  exact byKeep

theorem dmvRsp_keeps (hP : Closed 0xc0000000000000000000000000000000000000000000000000000000018000000000000000000000000000000000000000000000000000000000000000000000000000a20000010000000000000000000000000000000000000000000000000000000000001e00008c04032140c0 P) {a1 a2} (h2 : P a2) : P (dmvRsp a1 a2) := by
  unfold dmvRsp
  have c0 := @migLines_keeps P (hP.mono rfl); have c1 := @modDesc_keeps P (hP.mono rfl)
  exact byKeep

theorem vppbGone_keeps (hP : Closed 0x10004 P) {a1 a2 a3} (h3 : P a3) : P (vppbGone a1 a2 a3) := by
  unfold vppbGone
  have c0 := @slotEvent_keeps P (hP.mono rfl); have c1 := @emit_keeps _ P hP
  exact byKeep

theorem vppbHere_keeps (hP : Closed 0x10004 P) {a1 a2 a3} (h3 : P a3) : P (vppbHere a1 a2 a3) := by
  unfold vppbHere
  have c0 := @slotEvent_keeps P (hP.mono rfl); have c1 := @emit_keeps _ P hP
  exact byKeep

theorem bindingGone_keeps (hP : Closed 0xc0000000000000000002fca180c0000000000000000000000000000001800000201fe0001f1c000000000009f000300000000000000000000000000000000000000000a22000010000000000000000000000000000000000000000003000000000000000041e00008c043af763cc P) {a1 a2 a3 a4 a5 a6} (h6 : P a6) : P (bindingGone a1 a2 a3 a4 a5 a6) := by
  unfold bindingGone
  have c0 := @departLd_keeps P (hP.mono rfl); have c1 := @sumLost_keeps P (hP.mono rfl)
  exact byKeep

theorem nextBindEpoch_keeps (hP : Closed 0xc00000000000000000000000000000000000000000000a20000010000000000000000000000000000000000000000000000000000000000001e00008c0402000040 P) {a1} (h1 : P a1) : P (nextBindEpoch a1) := by
  unfold nextBindEpoch
  have c0 := @perf_keeps P (hP.mono rfl); have c1 := @raise_keeps P (hP.mono rfl); have c2 := @set_keeps _ P hP
  exact byKeep

theorem noteSuspended_keeps (hP : Closed 0x10000000000000000000000000000000000000000000000000000000000000000000000000000000000000000000000000000000000001e00008c04000020c0 P) {a1 a2} (h2 : P a2) : P (noteSuspended a1 a2) := by
  unfold noteSuspended
  have c0 := @forL_keeps _ P hP; have c1 := @reportEach_keeps P (hP.mono rfl); have c2 := @flag_keeps P (hP.mono rfl)
  have c3 := @modPort_keeps P (hP.mono rfl); have c4 := @set_keeps _ P hP
  exact byKeep

theorem wakeQuiesce_keeps (hP : Closed 0x10000000000000000000000000000000000000000000000000000000000000000000000000000000000000000000000000000000000000000000000000001e00008c0400010040 P) {a1} (h1 : P a1) : P (wakeQuiesce a1) := by
  unfold wakeQuiesce
  have c0 := @forN_keeps _ P hP; have c1 := @quiesceBegin_keeps P (hP.mono rfl)
  exact byKeep

theorem rotEnter_keeps (hP : Closed 0x404200000000000000000000000000000000000000001e00008c0400000040 P) {a1 a2} (h2 : P a2) : P (rotEnter a1 a2) := by
  unfold rotEnter
  have c0 := @setRotPhase_keeps P (hP.mono rfl); have c1 := @set_keeps _ P hP
  exact byKeep

theorem commitEnd_keeps (hP : Closed 0x10000000000000000000000000000000000000000000000000000000000000000000000000000000404200000000000000000000000000000000000000001e00008c0400010040 P) {a1} (h1 : P a1) : P (commitEnd a1) := by
  unfold commitEnd
  have c0 := @rotEnter_keeps P (hP.mono rfl); have c1 := @wakeQuiesce_keeps P (hP.mono rfl)
  exact byKeep

theorem hostReady_keeps (hP : Closed 0x10000000017000000000000000000000000000000000000000000000000000000000000000000000404200000000000000000000000000000000000000001e00008c0400510040 P) {a1 a2} (h2 : P a2) : P (hostReady a1 a2) := by
  unfold hostReady
  have c0 := @commitEnd_keeps P (hP.mono rfl); have c1 := @handshakeDone_keeps P (hP.mono rfl)
  exact byKeep

theorem execHostSlotPowerOff_keeps (hP : Closed 0x10000000017000000000000000000000000000000000000000000000000000000000000000000000404200000000000000000000000000000000000000001e00008c0400510040 P) {a1 a2 a3} (h3 : P a3) : Ans P (execHostSlotPowerOff a1 a2 a3) := by
  unfold execHostSlotPowerOff
  have c0 := @hostReady_keeps P (hP.mono rfl)
  exact byKeep

theorem dropChange_keeps (hP : Closed 0x10000000017000000000000000000000000000000000000000000000000000000000000000000000404200000000000000000000000000000000000000001e00008c0400010040 P) {a1 a2} (h2 : P a2) : P (dropChange a1 a2) := by
  unfold dropChange
  have c0 := @commitEnd_keeps P (hP.mono rfl); have c1 := @refuse_keeps P (hP.mono rfl); have c2 := @set_keeps _ P hP
  exact byKeep

theorem execUnbindTimeout_keeps (hP : Closed 0x10000000017000000000000000000000000000000000000000000000000000000000000000000000404200000000000000000000000000000000000000001e00008c0400010042 P) {a1} (h1 : P a1) : Ans P (execUnbindTimeout a1) := by
  unfold execUnbindTimeout
  have c0 := @dropChange_keeps P (hP.mono rfl); have c1 := @reach_keeps _ P hP
  exact byKeep

theorem mendLd_keeps (hP : Closed 0x1000000000000000000000000000000000000000000000000000000000000000000000000000000000000000000000000000000000000000000000000000000000010000 P) {a1 a2} (h2 : P a2) : P (mendLd a1 a2) := by
  unfold mendLd
  have c0 := @set_keeps _ P hP
  exact byKeep

theorem changePoint_keeps (hP : Closed 0xc0000000000000000002fca180c0000000000000000000000000000001800000201fe0001f1c00100007fff9fc00310088000000000000000000000000000000000000a22000010000000000000000e04200300000000000000000003000000000000000041e00008c043af763cc P) {a1 a2} (h2 : P a2) : P (changePoint a1 a2) := by
  unfold changePoint
  have c0 := @nextBindEpoch_keeps P (hP.mono rfl); have c1 := @forL_keeps _ P hP; have c2 := @stgWrite_keeps P (hP.mono rfl)
  have c3 := @set_keeps _ P hP; have c4 := @takeLdKey_keeps P (hP.mono rfl); have c5 := @mendLd_keeps P (hP.mono rfl)
  have c6 := @restateAll_keeps P (hP.mono rfl); have c7 := @vppbGone_keeps P (hP.mono rfl)
  have c8 := @vppbHere_keeps P (hP.mono rfl); have c9 := @bindingGone_keeps P (hP.mono rfl)
  have c10 := @cacheTrim_keeps P (hP.mono rfl); have c11 := @noteSuspended_keeps P (hP.mono rfl)
  have c12 := @commitEnd_keeps P (hP.mono rfl)
  exact byKeep

theorem keepFormer_keeps (hP : Closed 0x10000 P) {a1 a2} (h2 : P a2) : P (keepFormer a1 a2) := by
  unfold keepFormer
  exact byKeep

theorem endRot_keeps (hP : Closed 0x400600000000000000000000000000000000000000001e00008c0400100040 P) {a1 a2 a3} (h3 : P a3) : P (endRot a1 a2 a3) := by
  unfold endRot
  have c0 := @set_keeps _ P hP; have c1 := @setRotPhase_keeps P (hP.mono rfl); have c2 := @setRot_keeps P (hP.mono rfl)
  exact byKeep

theorem erasePoint_keeps (hP : Closed 0xc00000000000000000000000000000000000000000000a20000010000000000000000e00600300000000000000000000000000000000000001e00008c0403510040 P) {a1 a2} (h2 : P a2) : P (erasePoint a1 a2) := by
  unfold erasePoint
  have c0 := @endRot_keeps P (hP.mono rfl); have c1 := @takeLdKey_keeps P (hP.mono rfl); have c2 := @keepFormer_keeps P (hP.mono rfl)
  have c3 := @note_keeps P (hP.mono rfl); have c4 := @nextBindEpoch_keeps P (hP.mono rfl)
  exact byKeep

theorem execCommitPoint_keeps (hP : Closed 0xc0000000000000000002fca180c0000000000000000000000000000001800000201fe0001f1c00100007fff9fc00310088000000000000000000000000000000000000a22000010000000000000000e04600300000000000000000003000000000000000041e00008c043bf763cc P) {a1} (h1 : P a1) : Ans P (execCommitPoint a1) := by
  unfold execCommitPoint
  have c0 := @changePoint_keeps P (hP.mono rfl); have c1 := @markApplied_keeps P (hP.mono rfl)
  have c2 := @erasePoint_keeps P (hP.mono rfl); have c3 := @markBody_keeps P (hP.mono rfl)
  exact byKeep

theorem execMigCommit_keeps (hP : Closed 0x100002e0002c00000000000000000000000000000000000000000000a20000010000000000000000a00600300000000000000000000000000000000000001e00008c0402510040 P) {a1 a2} (h2 : P a2) : Ans P (execMigCommit a1 a2) := by
  unfold execMigCommit
  have c0 := @keepFormer_keeps P (hP.mono rfl); have c1 := @markBody_keeps P (hP.mono rfl)
  have c2 := @set_keeps _ P hP; have c3 := @setB_keeps _ P hP; have c4 := @takeLdKey_keeps P (hP.mono rfl)
  have c5 := @setRotPhase_keeps P (hP.mono rfl); have c6 := @setRot_keeps P (hP.mono rfl)
  have c7 := @setPhase_keeps P (hP.mono rfl); have c8 := @nextBindEpoch_keeps P (hP.mono rfl)
  exact byKeep

theorem migDrained_keeps (hP : Closed 0x370000010000000000000000000000000000000000000000000000000000000000000000000000000400600000000000000000000000000000000000000001e00008c0400110040 P) {a1 a2} (h2 : P a2) : P (migDrained a1 a2) := by
  unfold migDrained
  have c0 := @forN_keeps _ P hP; have c1 := @endRot_keeps P (hP.mono rfl); have c2 := @set_keeps _ P hP
  have c3 := @setPhase_keeps P (hP.mono rfl); have c4 := @setMig_keeps P (hP.mono rfl); have c5 := @restate_keeps P (hP.mono rfl)
  have c6 := @mdirtySync_keeps P (hP.mono rfl)
  exact byKeep

theorem bindDone_keeps (hP : Closed 0x8000000000000000000000000000000000000000000000000000000000000370000010000800000000000000000000000000000000000000000000000000000000000000000000600600300000000000000000000000000000000000001e00008c0401510044 P) {a1} (h1 : P a1) : P (bindDone a1) := by
  unfold bindDone
  have c0 := @set_keeps _ P hP; have c1 := @forL_keeps _ P hP; have c2 := @dropLdKey_keeps P (hP.mono rfl)
  have c3 := @note_keeps P (hP.mono rfl); have c4 := @migDrained_keeps P (hP.mono rfl); have c5 := @emit_keeps _ P hP
  have c6 := @eraseBusy_keeps P (hP.mono rfl)
  exact byKeep

theorem execBindDrainDone_keeps (hP : Closed 0x8000000000000000000000000000000000000000000000000000000000000370000010000800000000000000000000000000000000000000000000000000000000000000000000600600300000000000000000000000000000000000001e00008c0401510044 P) {a1} (h1 : P a1) : Ans P (execBindDrainDone a1) := by
  unfold execBindDrainDone
  have c0 := @bindDone_keeps P (hP.mono rfl)
  exact byKeep

theorem bindSealed_keeps (hP : Closed 0x10000000017000000000000000000000000000000000000000000000000000000000000000000000404200000000000000000000000000000000000000001e00008c0400010040 P) {a1 a2 a3} (h3 : P a3) : P (bindSealed a1 a2 a3) := by
  unfold bindSealed
  have c0 := @dropChange_keeps P (hP.mono rfl)
  exact byKeep

theorem eraseSealed_keeps (hP : Closed 0x18000000000000000000000000000000000000000000000000000000000000000000000000000000000000000000000000000000000000000000000000000000000000000000000000000000000000000000000000000000000000000001e00008c0401000040 P) {a1 a2} (h2 : P a2) : P (eraseSealed a1 a2) := by
  unfold eraseSealed
  have c0 := @eraseBusy_keeps P (hP.mono rfl); have c1 := @set_keeps _ P hP
  exact byKeep

theorem execLinkRequest_keeps (hP : Closed 0xc000000000000000000000000000000000000000000000000000000a01800000200000001000001000000009f002308000000000000000000000000000000000000000a22000010000003ffc100000404200000000000000000000000000000000000000001e00008c04127560cc P) {a1 a2 a3} (h3 : P a3) : Ans P (execLinkRequest a1 a2 a3) := by
  unfold execLinkRequest
  have c0 := @commitEnd_keeps P (hP.mono rfl); have c1 := @perfView_keeps P (hP.mono rfl)
  have c2 := @bwRx_keeps P (hP.mono rfl); have c3 := @freshId_keeps P (hP.mono rfl); have c4 := @lostIngress_keeps P (hP.mono rfl)
  have c5 := @receive_keeps P (hP.mono rfl); have c6 := @bump_keeps _ P hP; have c7 := @discardStale_keeps P (hP.mono rfl)
  have c8 := @takeIn_keeps P (hP.mono rfl); have c9 := @set_keeps _ P hP
  exact byKeep

theorem execTagAvailable_keeps (hP : Closed 0xc000000000000000000000000000000000000000000000000000000001800000200000001000001000000009f000308000000000000000000000000000000000000000a22000010000003ffc100000404200000000000000000000000000000000000000001e00008c04127560cc P) {a1 a2} (h2 : P a2) : Ans P (execTagAvailable a1 a2) := by
  unfold execTagAvailable
  have c0 := @commitEnd_keeps P (hP.mono rfl); have c1 := @takeWaiting_keeps P (hP.mono rfl)
  exact byKeep

end Sys2Proof.Machine
end

