-- ==== Sys2Proof/Laws/KeepPort.lean ====
section
/-! SUPPORT. What the operations of register access, counters, ports, security and slots may write: each lemma names, as a mask (see Closed), the parts of the state that its operation can change. -/

namespace Sys2Proof.Machine

set_option linter.all false
set_option Elab.async false

variable {P : State → Prop}

theorem forall_ite_mem {c : Prop} [Decidable c] {l r : List Ent} {Q : Ent → Prop} (hl : ∀ e ∈ l, Q e) (hr : ∀ e ∈ r, Q e) :
    ∀ e ∈ (if c then l else r), Q e := by split <;> assumption

theorem okSet_tab {m : Nat} (hm : tabAll.all (fun e => okSet m e) = true) (a : Nat) : ∀ e ∈ tabAt a, okSet m e = true := by
  have h : ∀ e ∈ tabAt a, e ∈ tabAll := by
    unfold tabAt
    repeat' apply forall_ite_mem
    all_goals first | exact (fun e he => absurd he List.not_mem_nil) | (unfold tabAll; simp only [List.mem_append]; tauto)
  exact fun e he => List.all_eq_true.1 hm e (h e he)

theorem State_wr_keeps (hP : Closed 0xffffffffffffffffffffffffffffffffffffffffffffffffffffffffffffffffffffffffffffffffffffffffffffffffffffffffffffffffffffffffffffffffffffffffffffffffffffffffffffffffffffffffffffffffffffffffffffffffffffffffffffffffffffc0000000 P) {a1 a2 a3} (h1 : P a1) : P (State.wr a1 a2 a3) := by
  unfold State.wr
  refine forL_keeps hP (fun e he t ht => ?_) h1
  have hs : ∀ v i j, P (t.set e v i j) := fun v i j => set_keeps hP (okSet_tab (by decide +kernel) _ e he) ht
  split
  · exact ht
  · dsimp only
    split
    all_goals first | exact ht | exact hs _ _ _

theorem State_clearRc_keeps (hP : Closed 0xffffffffffffffffffffffffffffffffffffffffffffffffffffffffffffffffffffffffffffffffffffffffffffffffffffffffffffffffffffffffffffffffffffffffffffffffffffffffffffffffffffffffffffffffffffffffffffffffffffffffffffffffffffc0000000 P) {a1 a2} (h1 : P a1) : P (State.clearRc a1 a2) := by
  unfold State.clearRc
  refine forL_keeps hP (fun e he t ht => ?_) h1
  split
  · exact ht
  · exact set_keeps hP (okSet_tab (by decide +kernel) _ e (List.mem_of_mem_filter he)) ht

theorem perfSel_keeps (hP : Closed 0x9fc000020000000000000000000000000000000000000000000000000000000000001e00008c0400000040 P) {a1 a2 a3 a4} (h4 : P a4) : P (perfSel a1 a2 a3 a4) := by
  unfold perfSel
  have c0 := @set_keeps _ P hP; have c1 := @flag_keeps P (hP.mono rfl)
  exact byKeep

theorem execPerfSelWrite_keeps (hP : Closed 0x9fc000020000000000000000000000000000000000000000000000000000000000001e00008c0400000040 P) {a1 a2 a3 a4} (h4 : P a4) : Ans P (execPerfSelWrite a1 a2 a3 a4) := by
  unfold execPerfSelWrite
  have c0 := @atReg_keeps P (hP.mono rfl); have c1 := @perfSel_keeps P (hP.mono rfl); have c2 := @set_keeps _ P hP
  exact byKeep

theorem perfCtl_keeps (hP : Closed 0xc0000000000000000000000000000000000000000000000000000000000000000000002000000 P) {a1 a2} (h2 : P a2) : P (perfCtl a1 a2) := by
  unfold perfCtl
  have c0 := @set_keeps _ P hP
  exact byKeep

theorem execPerfFreeze_keeps (hP : Closed 0xc0000000000000000000000000000000000000000000000000000000000000000000002000000 P) {a1 a2} (h2 : P a2) : Ans P (execPerfFreeze a1 a2) := by
  unfold execPerfFreeze
  have c0 := @atReg_keeps P (hP.mono rfl); have c1 := @perfCtl_keeps P (hP.mono rfl); have c2 := @set_keeps _ P hP
  exact byKeep

theorem execFreezeBoundary_keeps (hP : Closed 0x8100000000000000000000000000000000000000000000000000000000000000000000002000002 P) {a1} (h1 : P a1) : Ans P (execFreezeBoundary a1) := by
  unfold execFreezeBoundary
  have c0 := @reach_keeps _ P hP; have c1 := @setB_keeps _ P hP; have c2 := @set_keeps _ P hP
  exact byKeep

theorem execSnapshot_keeps (hP : Closed 0x1e0000610000000000000000000000000000000000000000000000000000000000000000000000000000002 P) {a1} (h1 : P a1) : Ans P (execSnapshot a1) := by
  unfold execSnapshot
  have c0 := @reach_keeps _ P hP; have c1 := @forN_keeps _ P hP; have c2 := @set_keeps _ P hP
  have c3 := @count_keeps _ P hP
  exact byKeep

theorem execBwWindowEnd_keeps (hP : Closed 0x1c000000000000000000000000000000000000000000000000000000000000000000000000000000002000002 P) {a1} (h1 : P a1) : Ans P (execBwWindowEnd a1) := by
  unfold execBwWindowEnd
  have c0 := @reach_keeps _ P hP; have c1 := @set_keeps _ P hP; have c2 := @count_keeps _ P hP
  have c3 := @forN_keeps _ P hP
  exact byKeep

theorem execSampleRecord_keeps (hP : Closed 0x20000000004e000000000000000000000000000000000000700000000000000000000001e00008c0402200040 P) {a1 a2 a3 a4 a5} (h5 : P a5) : Ans P (execSampleRecord a1 a2 a3 a4 a5) := by
  unfold execSampleRecord
  have c0 := @pdWake_keeps P (hP.mono rfl); have c1 := @set_keeps _ P hP; have c2 := @flag_keeps P (hP.mono rfl)
  exact byKeep

theorem tsWrite_keeps (hP : Closed 0x7f000e000000000000000000000000000000000000700000000000000000000001e00008c0402200048 P) {a1 a2} (h2 : P a2) : P (tsWrite a1 a2) := by
  unfold tsWrite
  have c0 := @putWord_keeps _ P hP; have c1 := @nextGap_keeps P (hP.mono rfl); have c2 := @set_keeps _ P hP
  have c3 := @pdWake_keeps P (hP.mono rfl)
  exact byKeep

theorem execTsEnable_keeps (hP : Closed 0x7f000e000000000000000000000000000000000000700000000000000000000001e00008c0402200048 P) {a1 a2} (h2 : P a2) : Ans P (execTsEnable a1 a2) := by
  unfold execTsEnable
  have c0 := @atReg_keeps P (hP.mono rfl); have c1 := @tsWrite_keeps P (hP.mono rfl); have c2 := @set_keeps _ P hP
  exact byKeep

theorem viewRead_keeps (hP : Closed 0x1 P) {a1 a2 a3} (h3 : P a3) : P (viewRead a1 a2 a3).2 := by
  unfold viewRead
  exact byKeep

theorem clearAll_keeps (hP : Closed 0x0 P) {a1 a2 a3 a4} (h1 : ∀ e ∈ a1, ∀ s v i j, P s → P (State.set s e v i j)) (h4 : P a4) : P (clearAll a1 a2 a3 a4) := by
  unfold clearAll
  have eclear : ∀ e ∈ a1, ∀ s i j, P s → P (State.clear s e i j) := fun e he _ _ _ h => h1 e he _ _ _ _ h
  have c0 := @forL_keeps _ P hP
  exact byKeep

theorem portLinkReset_keeps (hP : Closed 0x180000000000000000000000000003f8000000003000000007bff01f020000000000000000000000000000000000000000000000000b800000000000000000000000000000000000000000000000000000113000 P) {a1 a2} (h2 : P a2) : P (portLinkReset a1 a2) := by
  unfold portLinkReset
  have c0 := @laneLinkReset_keeps P (hP.mono rfl); have c1 := @forN_keeps _ P hP; have c2 := @clearAll_keeps P (hP.mono rfl)
  have c3 := @modPort_keeps P (hP.mono rfl); have c4 := @set_keeps _ P hP
  exact byKeep

theorem recoverLd_keeps (hP : Closed 0x1000000000000000000000000000000000000000000000000000000000000000000000000000000000000000000000000000000000000000000000000000000000010000 P) {a1 a2} (h2 : P a2) : P (recoverLd a1 a2) := by
  unfold recoverLd
  have c0 := @set_keeps _ P hP; have c1 := @restate_keeps P (hP.mono rfl)
  exact byKeep

theorem recoverLds_keeps (hP : Closed 0x1000000000000000000000000000000000000000000000000000000000000000000000000000000000000000000000000000000000000000000000000000000000010000 P) {a1 a2} (h2 : P a2) : P (recoverLds a1 a2) := by
  unfold recoverLds
  have c0 := @forL_keeps _ P hP; have c1 := @recoverLd_keeps P (hP.mono rfl)
  exact byKeep

theorem settleTrain_keeps (hP : Closed 0x400000000100000400000000000000000000000000000000000000000000000000000000000000000000000000000000000000001e00008c0400003040 P) {a1 a2} (h2 : P a2) : P (settleTrain a1 a2) := by
  unfold settleTrain
  have c0 := @settle_keeps P (hP.mono rfl); have c1 := @detect_keeps P (hP.mono rfl); have c2 := @modPort_keeps P (hP.mono rfl)
  exact byKeep

theorem keepPort_keeps (hP : Closed 0x100400000000100000000000000000000000000000000000000000000000000000000000000000000000000000000000000000000001e00008c0400000040 P) {a1 a2} (h2 : P a2) : P (keepPort a1 a2) := by
  unfold keepPort
  have c0 := @settle_keeps P (hP.mono rfl); have c1 := @set_keeps _ P hP
  exact byKeep

theorem ucAct_keeps (hP : Closed 0x1000000000000000000000000000000000000000000000000000000000000000000000000000000000000000000000000000000000000000000000000000000000010000 P) {a1 a2} (h2 : P a2) : P (ucAct a1 a2) := by
  unfold ucAct
  have c0 := @recoverLds_keeps P (hP.mono rfl)
  exact byKeep

theorem ucHold_keeps (hP : Closed 0x100400000000100000000000000000000000000000000000000000000000000000000000000000000000000000000000000000000001e00008c0400000040 P) {a1 a2} (h2 : P a2) : P (ucHold a1 a2) := by
  unfold ucHold
  have c0 := @keepPort_keeps P (hP.mono rfl)
  exact byKeep

theorem enterDown_keeps (hP : Closed 0x180000000000000000000000000003f8000000003000004007bff01f020004000000000000000000000000000000000000000000000b8000000000000000000000003000000000000000041e00008c04001133c0 P) {a1 a2} (h2 : P a2) : P (enterDown a1 a2) := by
  unfold enterDown
  have c0 := @tagSync_keeps P (hP.mono rfl); have c1 := @modPort_keeps P (hP.mono rfl); have c2 := @portLinkReset_keeps P (hP.mono rfl)
  have c3 := @setPstate_keeps P (hP.mono rfl); have c4 := @forL_keeps _ P hP; have c5 := @ldRecord_keeps P (hP.mono rfl)
  have c6 := @reachPoint_keeps P (hP.mono rfl); have c7 := @detect_keeps P (hP.mono rfl)
  exact byKeep

theorem drainEgress_keeps (hP : Closed 0xc000000000000000000000000000000000000000000002000000000001800000000000000000000000000000000e300000000000000000000000000000000000000000a20000010000000000000000000000000000000000000000000000000000000000001e00008c040221e0c0 P) {a1 a2} (h2 : P a2) : P (drainEgress a1 a2) := by
  unfold drainEgress
  have c0 := @forL_keeps _ P hP; have c1 := @deadEgress_keeps P (hP.mono rfl); have c2 := @leaveQueue_keeps P (hP.mono rfl)
  exact byKeep

theorem drainTags_keeps (hP : Closed 0xc000000000000000000000000000000000000000000000000000000001800000000000000000000000000000000e300000000000000000000000000000000000000000a20000010000000000000000000000000000000000000000000000000000000000001e00008c04022160c0 P) {a1 a2} (h2 : P a2) : P (drainTags a1 a2) := by
  unfold drainTags
  have c0 := @freeTags_keeps P (hP.mono rfl); have c1 := @forL_keeps _ P hP; have c2 := @deadEgress_keeps P (hP.mono rfl)
  have c3 := @mark_keeps P (hP.mono rfl)
  exact byKeep

theorem discardReq_keeps (hP : Closed 0xc0000000000000000000000000000000000000000000000000000000018000000000000000000000000000000002300000000000000000000000000000000000000000a20000010000000000000000000000000000000000000000000000000000000000001e00008c04022060c0 P) {a1 a2 a3} (h3 : P a3) : P (discardReq a1 a2 a3) := by
  unfold discardReq
  have c0 := @perf_keeps P (hP.mono rfl); have c1 := @bump_keeps _ P hP; have c2 := @mark_keeps P (hP.mono rfl)
  have c3 := @freeTags_keeps P (hP.mono rfl); have c4 := @closeReq_keeps P (hP.mono rfl); have c5 := @set_keeps _ P hP
  exact byKeep

theorem drainIngress_keeps (hP : Closed 0xc0000000000000000000000000000000000000000000000000000000018000000000000000000000000000000002300000000000000000000000000000000000000000a20000010000000000000000000000000000000000000000000000000000000000001e00008c04122560c0 P) {a1 a2} (h2 : P a2) : P (drainIngress a1 a2) := by
  unfold drainIngress
  have c0 := @forL_keeps _ P hP; have c1 := @setVoq_keeps P (hP.mono rfl); have c2 := @bufSync_keeps P (hP.mono rfl)
  have c3 := @discardReq_keeps P (hP.mono rfl); have c4 := @modPort_keeps P (hP.mono rfl)
  have c5 := @bump_keeps _ P hP; have c6 := @forN_keeps _ P hP; have c7 := @setMig_keeps P (hP.mono rfl)
  have c8 := @set_keeps _ P hP
  exact byKeep

theorem poolLost_keeps (hP : Closed 0xc0000000000000000000000000000000000000000000000000000000018000002000000010000c500000100ff000300000000000000000000000000000000000000000a22000010000003ffc100000000000000000000000000000001000000000000000041e00008c04127561cc P) {a1 a2} (h2 : P a2) : P (poolLost a1 a2) := by
  unfold poolLost
  have c0 := @closeDec_keeps P (hP.mono rfl); have c1 := @forN_keeps _ P hP; have c2 := @report_keeps P (hP.mono rfl)
  have c3 := @migAbort_keeps P (hP.mono rfl); have c4 := @flag_keeps P (hP.mono rfl); have c5 := @forL_keeps _ P hP
  have c6 := @failLd_keeps P (hP.mono rfl); have c7 := @set_keeps _ P hP
  exact byKeep

theorem hostLost_keeps (hP : Closed 0xc000007fffffc0020602fca180c0000000000000000000000000000001800000201fe0001f9c001000001009f000300020000000000000000000000000000000000000a22000010000000000000000404200000000000000000000003000000000000000041e00008c043bf763cc P) {a1 a2} (h2 : P a2) : P (hostLost a1 a2) := by
  unfold hostLost
  have c0 := @modPort_keeps P (hP.mono rfl); have c1 := @set_keeps _ P hP; have c2 := @sendDepart_keeps P (hP.mono rfl)
  have c3 := @departHost_keeps P (hP.mono rfl); have c4 := @dmvHostLost_keeps P (hP.mono rfl)
  have c5 := @sumHostLost_keeps P (hP.mono rfl); have c6 := @restateAll_keeps P (hP.mono rfl)
  have c7 := @hostReady_keeps P (hP.mono rfl)
  exact byKeep

theorem lose_keeps (hP : Closed 0xc000007fffffc0020602fca180c0000000000000000002000000000001800000201fe0001f9c0c500000100ff00e301c20400000000002000000000000000000000000a22000010000003ffc100000404200000000000000000000003000000000000000041e00008c043bf7f3cc P) {a1 a2 a3 a4 a5} (h5 : P a5) : P (lose a1 a2 a3 a4 a5) := by
  unfold lose
  have c0 := @report_keeps P (hP.mono rfl); have c1 := @flag_keeps P (hP.mono rfl); have c2 := @voidDec_keeps P (hP.mono rfl)
  have c3 := @quickEnd_keeps P (hP.mono rfl); have c4 := @scanLost_keeps P (hP.mono rfl); have c5 := @setPstate_keeps P (hP.mono rfl)
  have c6 := @modPort_keeps P (hP.mono rfl); have c7 := @drainIngress_keeps P (hP.mono rfl)
  have c8 := @drainEgress_keeps P (hP.mono rfl); have c9 := @drainTags_keeps P (hP.mono rfl)
  have c10 := @hostLost_keeps P (hP.mono rfl); have c11 := @poolLost_keeps P (hP.mono rfl)
  have c12 := @set_keeps _ P hP
  exact byKeep

theorem loseIn_keeps (hP : Closed 0xc000007fffffc0020602fca180c0000000000000000002000000000001800000201fe0001f9c0c500000100ff00e301c20400000000102000000000000000000000000a22000010000003ffc100000404200000000000000000000003000000000000000041e00008c043bf7f3cc P) {a1 a2 a3} (h3 : P a3) : P (loseIn a1 a2 a3) := by
  unfold loseIn
  have c0 := @setLtssm_keeps P (hP.mono rfl); have c1 := @lose_keeps P (hP.mono rfl)
  exact byKeep

theorem resetOut_keeps (hP : Closed 0xc000007fffffc0020602fca180c0000000000000000002000000000001800000201fe0001f9c0c500000100ff00e301c20400000000102000000000000000000000000a22000010000003ffc100000404200000000000000000000003000000000000000041e00008c043bf7f3cc P) {a1 a2} (h2 : P a2) : P (resetOut a1 a2) := by
  unfold resetOut
  have c0 := @loseIn_keeps P (hP.mono rfl); have c1 := @emit_keeps _ P hP
  exact byKeep

theorem hotResetPort_keeps (hP : Closed 0xc000007fffffc0020602fca180c0000000000000000002000000000001800000201fe0001f9c0c500000100ff00e301c20400000000102000000000000000000000000a22000010000003ffc100000404200000000000000000000003000000000000000041e00008c043bf7f3cc P) {a1 a2} (h2 : P a2) : P (hotResetPort a1 a2) := by
  unfold hotResetPort
  have c0 := @loseIn_keeps P (hP.mono rfl); have c1 := @forL_keeps _ P hP; have c2 := @resetOut_keeps P (hP.mono rfl)
  exact byKeep

theorem execDlDown_keeps (hP : Closed 0xc000007fffffc0020602fca180c0000000000000000002000000000001800000201fe0001f9c0c500000100ff00e301c20400000000002000000000000000000000000a22000010000003ffc100000404200000000000000000000003000000000000000041e00008c043bf7f3cc P) {a1 a2} (h2 : P a2) : Ans P (execDlDown a1 a2) := by
  unfold execDlDown
  have c0 := @lose_keeps P (hP.mono rfl)
  exact byKeep

theorem execHotReset_keeps (hP : Closed 0xc000007fffffc0020602fca180c0000000000000000002000000000001800000201fe0001f9c0c500000100ff00e301c20400000000102000000000000000000000000a22000010000003ffc100000404200000000000000000000003000000000000000041e00008c043bf7f3cc P) {a1 a2} (h2 : P a2) : Ans P (execHotReset a1 a2) := by
  unfold execHotReset
  have c0 := @hotResetPort_keeps P (hP.mono rfl); have c1 := @resetOut_keeps P (hP.mono rfl)
  have c2 := @loseIn_keeps P (hP.mono rfl)
  exact byKeep

theorem execDpcTrigger_keeps (hP : Closed 0xc000007fffffc0020602fca180c0000000000000000002000000000001800000201fe0001f9c0c500000100ff00e301c20400000000002000000000000000000000000a22000010000003ffc100000404200000000000000000000003000000000000000041e00008c043bf7f3cc P) {a1 a2 a3} (h3 : P a3) : Ans P (execDpcTrigger a1 a2 a3) := by
  unfold execDpcTrigger
  have c0 := @lose_keeps P (hP.mono rfl)
  exact byKeep

theorem portCtl_keeps (hP : Closed 0xc000007fffffc0020602fca180c0000000000000000002000000000001800000201fe0001f9c0c500000100ff00e301d20400000000102000400000000000000000000a22000010000003ffc100000404200000000000000000000003000000000000000041e00008c043bf7f3cc P) {a1 a2 a3} (h3 : P a3) : P (portCtl a1 a2 a3) := by
  unfold portCtl
  have c0 := @set_keeps _ P hP; have c1 := @loseIn_keeps P (hP.mono rfl); have c2 := @lose_keeps P (hP.mono rfl)
  have c3 := @settleTrain_keeps P (hP.mono rfl)
  exact byKeep

theorem execPortDisable_keeps (hP : Closed 0xc000007fffffc0020602fca180c0000000000000000002000000000001800000201fe0001f9c0c500000100ff00e301d20400000000102000400000000000000000000a22000010000003ffc100000404200000000000000000000003000000000000000041e00008c043bf7f3cc P) {a1 a2 a3} (h3 : P a3) : Ans P (execPortDisable a1 a2 a3) := by
  unfold execPortDisable
  have c0 := @atReg_keeps P (hP.mono rfl); have c1 := @portCtl_keeps P (hP.mono rfl); have c2 := @set_keeps _ P hP
  exact byKeep

theorem execForceDown_keeps (hP : Closed 0xc000007fffffc0020602fca180c0000000000000000002000000000001800000201fe0001f9c0c500000100ff00e301d20400000000102000400000000000000000000a22000010000003ffc100000404200000000000000000000003000000000000000041e00008c043bf7f3cc P) {a1 a2 a3} (h3 : P a3) : Ans P (execForceDown a1 a2 a3) := by
  unfold execForceDown
  have c0 := @atReg_keeps P (hP.mono rfl); have c1 := @portCtl_keeps P (hP.mono rfl); have c2 := @set_keeps _ P hP
  exact byKeep

theorem leaveFlush_keeps (hP : Closed 0x180000000000000000000000000003f8000000003000204007bff01f020004000000000000000000000000000000000000000000000b8000000000000000000000003000000000000000041e00008c04001133c0 P) {a1 a2} (h2 : P a2) : P (leaveFlush a1 a2) := by
  unfold leaveFlush
  have c0 := @set_keeps _ P hP; have c1 := @enterDown_keeps P (hP.mono rfl)
  exact byKeep

theorem execFlushComplete_keeps (hP : Closed 0xc000000000000000000000000000000000000000000002000000180001800000000000000000000003f80000000e3000204007bff01f02000400000000000000000000a200000100000000000000000b8000000000000000000000003000000000000000041e00008c040231f3c0 P) {a1 a2} (h2 : P a2) : Ans P (execFlushComplete a1 a2) := by
  unfold execFlushComplete
  have c0 := @leaveFlush_keeps P (hP.mono rfl); have c1 := @modPort_keeps P (hP.mono rfl)
  have c2 := @drainEgress_keeps P (hP.mono rfl); have c3 := @drainTags_keeps P (hP.mono rfl)
  exact byKeep

theorem execDepartureSweepDone_keeps (hP : Closed 0xc000000000000000000000000000000000000000000000000000180001800000001fe0000f9c000003f8000000003000204007bff01f02000400000000000000000000a200000100000000000000000b8000000000000000000000003000000000000000041e00008c042a3773c4 P) {a1 a2} (h2 : P a2) : Ans P (execDepartureSweepDone a1 a2) := by
  unfold execDepartureSweepDone
  have c0 := @leaveFlush_keeps P (hP.mono rfl); have c1 := @modPort_keeps P (hP.mono rfl)
  have c2 := @departEnd_keeps P (hP.mono rfl)
  exact byKeep

theorem execDepartDone_keeps (hP : Closed 0x180000000000000000000000000003f8000000003000204007bff01f020004000000000000000000000000000000000000000000000b8000000000000000000000003000000000000000041e00008c04181133c0 P) {a1 a2 a3 a4} (h4 : P a4) : Ans P (execDepartDone a1 a2 a3 a4) := by
  unfold execDepartDone
  have c0 := @answered_keeps P (hP.mono rfl); have c1 := @leaveFlush_keeps P (hP.mono rfl)
  exact byKeep

theorem execCtoExpiry_keeps (hP : Closed 0xc000007fffffc0020602fca180c0000000000000000002000000000001800000201fe0001f9c0c500000100ff01e303c20400000000002000000000000000000000000a22000010000003ffc100000404200000000000000000000003000000000000000041e00008c043bf7f3ce P) {a1 a2 a3} (h3 : P a3) : Ans P (execCtoExpiry a1 a2 a3) := by
  unfold execCtoExpiry
  have c0 := @reach_keeps _ P hP; have c1 := @lose_keeps P (hP.mono rfl); have c2 := @modPort_keeps P (hP.mono rfl)
  have c3 := @report_keeps P (hP.mono rfl); have c4 := @flag_keeps P (hP.mono rfl); have c5 := @bump_keeps _ P hP
  have c6 := @set_keeps _ P hP; have c7 := @lostReply_keeps P (hP.mono rfl)
  exact byKeep

theorem execTagQuarantineExpiry_keeps (hP : Closed 0x30000000000000000000000000000000000000000000000000000000000000000000000000000000000000000000000000000000000000000000000000002002 P) {a1 a2 a3} (h3 : P a3) : Ans P (execTagQuarantineExpiry a1 a2 a3) := by
  unfold execTagQuarantineExpiry
  have c0 := @freeTags_keeps P (hP.mono rfl); have c1 := @reach_keeps _ P hP
  exact byKeep

theorem showNeg_keeps (hP : Closed 0x9f854000000000000000000000000000000000000000000000000000000000000000000000000000000000000000000000000000001e00008c0400000040 P) {a1 a2 a3} (h3 : P a3) : P (showNeg a1 a2 a3) := by
  unfold showNeg
  have c0 := @setB_keeps _ P hP; have c1 := @set_keeps _ P hP; have c2 := @cacheDenied_keeps P (hP.mono rfl)
  exact byKeep

theorem poolUp_keeps (hP : Closed 0x10000000000000000000000000000000000000000000000000000000000000000000000000000000000000000000000000003000000000000000041e00008c04000103c4 P) {a1 a2 a3} (h3 : P a3) : P (poolUp a1 a2 a3) := by
  unfold poolUp
  have c0 := @forL_keeps _ P hP; have c1 := @ldRecord_keeps P (hP.mono rfl); have c2 := @placementCheck_keeps P (hP.mono rfl)
  have c3 := @emit_keeps _ P hP; have c4 := @reachPoint_keeps P (hP.mono rfl); have c5 := @recoverLds_keeps P (hP.mono rfl)
  exact byKeep

theorem showTrained_keeps (hP : Closed 0x1004e2000000000000000000000000000000000000000000000000000000000000000000000000000000000000000000000000000000000000000 P) {a1 a2 a3 a4} (h4 : P a4) : P (showTrained a1 a2 a3 a4) := by
  unfold showTrained
  have c0 := @setTrn_keeps P (hP.mono rfl); have c1 := @forL_keeps _ P hP; have c2 := @setB_keeps _ P hP
  have c3 := @set_keeps _ P hP
  exact byKeep

theorem advertise_keeps (hP : Closed 0x4 P) {a1 a2} (h2 : P a2) : P (advertise a1 a2) := by
  unfold advertise
  have c0 := @forL_keeps _ P hP; have c1 := @emit_keeps _ P hP
  exact byKeep

theorem portUp_keeps (hP : Closed 0x180000000000000000000000000000001000000001009fc5403bf04f22000000000000000000000000000000000000000000000000000000000000000000000000003000000000000000041e00008c040001b3cc P) {a1 a2 a3 a4} (h4 : P a4) : P (portUp a1 a2 a3 a4) := by
  unfold portUp
  have c0 := @showNeg_keeps P (hP.mono rfl); have c1 := @showTrained_keeps P (hP.mono rfl)
  have c2 := @modPort_keeps P (hP.mono rfl); have c3 := @egressUp_keeps P (hP.mono rfl); have c4 := @setPstate_keeps P (hP.mono rfl)
  have c5 := @toL0_keeps P (hP.mono rfl); have c6 := @advertise_keeps P (hP.mono rfl); have c7 := @emit_keeps _ P hP
  have c8 := @quickStart_keeps P (hP.mono rfl); have c9 := @noteSuspended_keeps P (hP.mono rfl)
  have c10 := @restateAll_keeps P (hP.mono rfl); have c11 := @poolUp_keeps P (hP.mono rfl)
  exact byKeep

theorem execPortUp_keeps (hP : Closed 0x180000000000000000000000000000001000000001009fc5403bf04f22000000000000000000000000000000000000000000000000000000000000000000000000003000000000000000041e00008c040001b3cc P) {a1 a2 a3} (h3 : P a3) : Ans P (execPortUp a1 a2 a3) := by
  unfold execPortUp
  have c0 := @portUp_keeps P (hP.mono rfl)
  exact byKeep

theorem idleLanes_keeps (hP : Closed 0x2000000200000000000000000000000000000000000000000000000000000000000000000000000000000000000000000000000000000000001000 P) {a1 a2 a3} (h3 : P a3) : P (idleLanes a1 a2 a3) := by
  unfold idleLanes
  have c0 := @freeze_keeps P (hP.mono rfl); have c1 := @endScan_keeps P (hP.mono rfl)
  exact byKeep

theorem execLinkPowerStateChange_keeps (hP : Closed 0x180000000000000000000000000000000000000000000000003af001020000000000000000000000000000000000000000000000000000000000000000000000000000000000000000000000000000000000100c P) {a1 a2 a3} (h3 : P a3) : Ans P (execLinkPowerStateChange a1 a2 a3) := by
  unfold execLinkPowerStateChange
  have c0 := @emit_keeps _ P hP; have c1 := @toL0_keeps P (hP.mono rfl); have c2 := @idleLanes_keeps P (hP.mono rfl)
  have c3 := @setLtssm_keeps P (hP.mono rfl)
  exact byKeep

theorem execLinkRecovery_keeps (hP : Closed 0x180000000000000000000000000000000000000000000000003af00102000000000000000000000000a20000010000000000000000000000000000000000000000000000000000000000001e00008c0402001048 P) {a1 a2 a3} (h3 : P a3) : Ans P (execLinkRecovery a1 a2 a3) := by
  unfold execLinkRecovery
  have c0 := @toRecovery_keeps P (hP.mono rfl); have c1 := @toL0_keeps P (hP.mono rfl)
  exact byKeep

theorem trnWrite_keeps (hP : Closed 0xc000007fffffc0020602fca180c0000000000000000002000000000001800000201fe0001f9c0c500000100ff00e301c204000000001ea000400000000000000000000a22000010000003ffc100000404200000000000000000000003000000000000000041e00008c043bf7f3cc P) {a1 a2 a3 a4} (h4 : P a4) : P (trnWrite a1 a2 a3 a4) := by
  unfold trnWrite
  have c0 := @set_keeps _ P hP; have c1 := @settleTrain_keeps P (hP.mono rfl); have c2 := @modPort_keeps P (hP.mono rfl)
  have c3 := @lose_keeps P (hP.mono rfl); have c4 := @setLtssm_keeps P (hP.mono rfl); have c5 := @detect_keeps P (hP.mono rfl)
  exact byKeep

theorem execRetrain_keeps (hP : Closed 0xc000007fffffc0020602fca180c0000000000000000002000000000001800000201fe0001f9c0c500000100ff00e301c204000000001ea000400000000000000000000a22000010000003ffc100000404200000000000000000000003000000000000000041e00008c043bf7f3cc P) {a1 a2 a3 a4} (h4 : P a4) : Ans P (execRetrain a1 a2 a3 a4) := by
  unfold execRetrain
  have c0 := @atReg_keeps P (hP.mono rfl); have c1 := @trnWrite_keeps P (hP.mono rfl); have c2 := @set_keeps _ P hP
  exact byKeep

theorem portCfg_keeps (hP : Closed 0x407fc000000100000400000000000000000000000000000000000000000000000000000000000000000000000000000000000000001e00008c0400003040 P) {a1 a2 a3} (h3 : P a3) : P (portCfg a1 a2 a3) := by
  unfold portCfg
  have c0 := @set_keeps _ P hP; have c1 := @settleTrain_keeps P (hP.mono rfl); have c2 := @putWord_keeps _ P hP
  exact byKeep

theorem execPortCfgWrite_keeps (hP : Closed 0x407fc000000100000400000000000000000000000000000000000000000000000000000000000000000000000000000000000000001e00008c0400003040 P) {a1 a2 a3} (h3 : P a3) : Ans P (execPortCfgWrite a1 a2 a3) := by
  unfold execPortCfgWrite
  have c0 := @atReg_keeps P (hP.mono rfl); have c1 := @portCfg_keeps P (hP.mono rfl); have c2 := @set_keeps _ P hP
  exact byKeep

theorem tagCfg_keeps (hP : Closed 0xe004000000000000000000000000000000000000000000000000000000000000000000000000000000000000000000000000000000000000000000000000000 P) {a1 a2 a3} (h3 : P a3) : P (tagCfg a1 a2 a3) := by
  unfold tagCfg
  have c0 := @set_keeps _ P hP
  exact byKeep

theorem execTagcfgWrite_keeps (hP : Closed 0xe004000000000000000000000000000000000000000000000000000000000000000000000000000000000000000000000000000000000000000000000000000 P) {a1 a2 a3} (h3 : P a3) : Ans P (execTagcfgWrite a1 a2 a3) := by
  unfold execTagcfgWrite
  have c0 := @atReg_keeps P (hP.mono rfl); have c1 := @tagCfg_keeps P (hP.mono rfl); have c2 := @set_keeps _ P hP
  exact byKeep

theorem execUcRecover_keeps (hP : Closed 0x10000000000000000000000000000000000000000000000000a20000010000000000000000000000000000000000000000001000000000000000041e00008c04020101c4 P) {a1 a2} (h2 : P a2) : Ans P (execUcRecover a1 a2) := by
  unfold execUcRecover
  have c0 := @answer_keeps P (hP.mono rfl); have c1 := @ucAct_keeps P (hP.mono rfl)
  exact byKeep

theorem execUcKeep_keeps (hP : Closed 0x100400000000100000000000000000000000000a20000010000000000000000000000000000000000000000001000000000000000041e00008c04020001c4 P) {a1 a2} (h2 : P a2) : Ans P (execUcKeep a1 a2) := by
  unfold execUcKeep
  have c0 := @answer_keeps P (hP.mono rfl); have c1 := @ucHold_keeps P (hP.mono rfl)
  exact byKeep

theorem execUcRecoverNodec_keeps (hP : Closed 0x10000000000000000000000000000000000000000000000000a20000010000000000000000000000000000000000000000000000000000000000001e00008c0402010044 P) {a1 a2 a3} (h3 : P a3) : Ans P (execUcRecoverNodec a1 a2 a3) := by
  unfold execUcRecoverNodec
  have c0 := @recoverLd_keeps P (hP.mono rfl); have c1 := @mailbox_keeps P (hP.mono rfl)
  exact byKeep

theorem execNoiseSourceFail_keeps (hP : Closed 0x40000000000000000000000000000000000000000000000000100080 P) {a1 a2} (h2 : P a2) : Ans P (execNoiseSourceFail a1 a2) := by
  unfold execNoiseSourceFail
  have c0 := @report_keeps P (hP.mono rfl); have c1 := @set_keeps _ P hP
  exact byKeep

theorem spdmErr_keeps (hP : Closed 0x4 P) {a1 a2 a3} (h3 : P a3) : P (spdmErr a1 a2 a3) := by
  unfold spdmErr
  have c0 := @emit_keeps _ P hP
  exact byKeep

theorem execKeyExchange_keeps (hP : Closed 0x100004 P) {a1 a2} (h2 : P a2) : Ans P (execKeyExchange a1 a2) := by
  unfold execKeyExchange
  have c0 := @spdmErr_keeps P (hP.mono rfl); have c1 := @emit_keeps _ P hP
  exact byKeep

theorem endSession_keeps (hP : Closed 0x100000 P) {a1 a2} (h2 : P a2) : P (endSession a1 a2) := by
  unfold endSession
  exact byKeep

theorem execEndSession_keeps (hP : Closed 0x100004 P) {a1 a2} (h2 : P a2) : Ans P (execEndSession a1 a2) := by
  unfold execEndSession
  have c0 := @emit_keeps _ P hP; have c1 := @endSession_keeps P (hP.mono rfl)
  exact byKeep

theorem execHeartbeatTimeout_keeps (hP : Closed 0x100000 P) {a1 a2} (h2 : P a2) : Ans P (execHeartbeatTimeout a1 a2) := by
  unfold execHeartbeatTimeout
  have c0 := @endSession_keeps P (hP.mono rfl)
  exact byKeep

theorem execGetMeasurements_keeps (hP : Closed 0x4 P) {a1 a2 a3} (h3 : P a3) : Ans P (execGetMeasurements a1 a2 a3) := by
  unfold execGetMeasurements
  have c0 := @emit_keeps _ P hP; have c1 := @spdmErr_keeps P (hP.mono rfl)
  exact byKeep

theorem execSpdmRequest_keeps (hP : Closed 0x4 P) {a1 a2 a3} (h3 : P a3) : Ans P (execSpdmRequest a1 a2 a3) := by
  unfold execSpdmRequest
  have c0 := @emit_keeps _ P hP; have c1 := @spdmErr_keeps P (hP.mono rfl)
  exact byKeep

theorem execDomainKeySet_keeps (hP : Closed 0x30000000000000000000000000000000000000000000000000500004 P) {a1 a2 a3} (h3 : P a3) : Ans P (execDomainKeySet a1 a2 a3) := by
  unfold execDomainKeySet
  have c0 := @request_keeps P (hP.mono rfl); have c1 := @emit_keeps _ P hP; have c2 := @keySync_keeps P (hP.mono rfl)
  have c3 := @spdmErr_keeps P (hP.mono rfl)
  exact byKeep

theorem execIdeKm_keeps (hP : Closed 0x1800000000000000000000000000000000000000000000000000000100000 P) {a1 a2 a3 a4 a5 a6} (h6 : P a6) : Ans P (execIdeKm a1 a2 a3 a4 a5 a6) := by
  unfold execIdeKm
  have c0 := @set_keeps _ P hP
  exact byKeep

theorem execKSetGo_keeps (hP : Closed 0x3800000000000000000000000000000000000000000000000000000000000 P) {a1 a2 a3 a4} (h4 : P a4) : Ans P (execKSetGo a1 a2 a3 a4) := by
  unfold execKSetGo
  have c0 := @setB_keeps _ P hP; have c1 := @set_keeps _ P hP
  exact byKeep

theorem execIdeCheckFail_keeps (hP : Closed 0xc000007fffffc0020602fca180c0000000000000000002000000000001800000201fe0001f9c0c500000100ff00e301c20400000000002000000000000000000000000a22000010000003ffc10000049c202000000000000000000003000000000000000041e00008c043bf7f3cc P) {a1 a2 a3} (h3 : P a3) : Ans P (execIdeCheckFail a1 a2 a3) := by
  unfold execIdeCheckFail
  have c0 := @bump_keeps _ P hP; have c1 := @set_keeps _ P hP; have c2 := @lose_keeps P (hP.mono rfl)
  have c3 := @report_keeps P (hP.mono rfl); have c4 := @flag_keeps P (hP.mono rfl)
  exact byKeep

theorem rotResult_keeps (hP : Closed 0x40000000000000000000000000000000000000000000000000000000000 P) {a1 a2 a3} (h3 : P a3) : P (rotResult a1 a2 a3) := by
  unfold rotResult
  have c0 := @set_keeps _ P hP
  exact byKeep

theorem rotIdle_keeps (hP : Closed 0x200000000000000000000000000000000000000001e00008c0400100140 P) {a1 a2} (h2 : P a2) : P (rotIdle a1 a2) := by
  unfold rotIdle
  have c0 := @setRotPhase_keeps P (hP.mono rfl); have c1 := @setRot_keeps P (hP.mono rfl)
  have c2 := @voidDec_keeps P (hP.mono rfl)
  exact byKeep

theorem rctlWrite_keeps (hP : Closed 0x660000000000000000000000000000000000000001e00008c0400100140 P) {a1 a2 a3} (h3 : P a3) : P (rctlWrite a1 a2 a3) := by
  unfold rctlWrite
  have c0 := @set_keeps _ P hP; have c1 := @rotIdle_keeps P (hP.mono rfl); have c2 := @rotResult_keeps P (hP.mono rfl)
  have c3 := @setRotPhase_keeps P (hP.mono rfl); have c4 := @setRot_keeps P (hP.mono rfl)
  exact byKeep

theorem execRotArm_keeps (hP : Closed 0x660000000000000000000000000000000000000001e00008c0400100140 P) {a1 a2 a3} (h3 : P a3) : Ans P (execRotArm a1 a2 a3) := by
  unfold execRotArm
  have c0 := @atReg_keeps P (hP.mono rfl); have c1 := @rctlWrite_keeps P (hP.mono rfl); have c2 := @set_keeps _ P hP
  exact byKeep

theorem execRctlCancel_keeps (hP : Closed 0x660000000000000000000000000000000000000001e00008c0400100140 P) {a1 a2 a3} (h3 : P a3) : Ans P (execRctlCancel a1 a2 a3) := by
  unfold execRctlCancel
  have c0 := @atReg_keeps P (hP.mono rfl); have c1 := @rctlWrite_keeps P (hP.mono rfl); have c2 := @set_keeps _ P hP
  exact byKeep

theorem rotGo_keeps (hP : Closed 0x600000000000000000000000000000000000000001e00008c0400500140 P) {a1 a2} (h2 : P a2) : P (rotGo a1 a2) := by
  unfold rotGo
  have c0 := @newKey_keeps P (hP.mono rfl); have c1 := @request_keeps P (hP.mono rfl); have c2 := @setRot_keeps P (hP.mono rfl)
  have c3 := @rotResult_keeps P (hP.mono rfl); have c4 := @rotIdle_keeps P (hP.mono rfl)
  exact byKeep

theorem execRotTimeReached_keeps (hP : Closed 0x600000000000000000000003000000000000000041e00008c04005003c2 P) {a1 a2} (h2 : P a2) : Ans P (execRotTimeReached a1 a2) := by
  unfold execRotTimeReached
  have c0 := @setRotPhase_keeps P (hP.mono rfl); have c1 := @reach_keeps _ P hP; have c2 := @reachPoint_keeps P (hP.mono rfl)
  have c3 := @rotGo_keeps P (hP.mono rfl)
  exact byKeep

theorem execRotGo_keeps (hP : Closed 0xa20000010000000000000000000600000000000000000000001000000000000000041e00008c04025001c4 P) {a1 a2} (h2 : P a2) : Ans P (execRotGo a1 a2) := by
  unfold execRotGo
  have c0 := @answer_keeps P (hP.mono rfl); have c1 := @rotGo_keeps P (hP.mono rfl)
  exact byKeep

theorem execRotDefer_keeps (hP : Closed 0xa20000010000000000000000000a00000000000000000000001000000000000000041e00008c04020001c4 P) {a1 a2 a3} (h3 : P a3) : Ans P (execRotDefer a1 a2 a3) := by
  unfold execRotDefer
  have c0 := @answer_keeps P (hP.mono rfl); have c1 := @setRotPhase_keeps P (hP.mono rfl)
  have c2 := @set_keeps _ P hP
  exact byKeep

theorem execRotCancel_keeps (hP : Closed 0xa20000010000000000000000000600000000000000000000001000000000000000041e00008c04021001c4 P) {a1 a2} (h2 : P a2) : Ans P (execRotCancel a1 a2) := by
  unfold execRotCancel
  have c0 := @answer_keeps P (hP.mono rfl); have c1 := @rotResult_keeps P (hP.mono rfl); have c2 := @rotIdle_keeps P (hP.mono rfl)
  exact byKeep

theorem copyOut_keeps (hP : Closed 0xc0000000000000000000000000000000000000000000000000000000018000000000000000000000000000000000000000000000000000000000000000000000000000a20000010000000000000000000000000000000000000000000000000000000000001e00008c04022040c0 P) {a1 a2 a3 a4 a5 a6} (h6 : P a6) : P (copyOut a1 a2 a3 a4 a5 a6) := by
  unfold copyOut
  have c0 := @forL_keeps _ P hP; have c1 := @openReq_keeps P (hP.mono rfl); have c2 := @perf_keeps P (hP.mono rfl)
  have c3 := @enqueue_keeps P (hP.mono rfl)
  exact byKeep

theorem execReKey_keeps (hP : Closed 0xc0000000000000000000000000000000000000000000000000000000018000000000000000000000000000000000000000000000000000000000000000000000000000a20000010000000000000000000000000000000000000700000000000000000000001e00008c04023040c0 P) {a1 a2 a3} (h3 : P a3) : Ans P (execReKey a1 a2 a3) := by
  unfold execReKey
  have c0 := @pdWake_keeps P (hP.mono rfl); have c1 := @setRot_keeps P (hP.mono rfl); have c2 := @forN_keeps _ P hP
  have c3 := @openReq_keeps P (hP.mono rfl); have c4 := @enqueue_keeps P (hP.mono rfl)
  exact byKeep

theorem rotAdvance_keeps (hP : Closed 0xc0000000000000000000000000000000000000000000000000000000018000000000000000000000000000000000000000000000000000000000000000000000000000a20000010000000000000000000000000000000000000000000000000000000000001e00008c04023040c0 P) {a1 a2} (h2 : P a2) : P (rotAdvance a1 a2) := by
  unfold rotAdvance
  have c0 := @setRot_keeps P (hP.mono rfl); have c1 := @copyOut_keeps P (hP.mono rfl)
  exact byKeep

theorem rotRsp_keeps (hP : Closed 0xc0000000000000000000000000000000000000000000000000000000018000000000000000000000000000000000000000000000000000000000000000000000000000a20000010000000000000000000000000000000000000000000000000000000000001e00008c04023040c0 P) {a1 a2} (h2 : P a2) : P (rotRsp a1 a2) := by
  unfold rotRsp
  have c0 := @forN_keeps _ P hP; have c1 := @setRot_keeps P (hP.mono rfl); have c2 := @rotAdvance_keeps P (hP.mono rfl)
  exact byKeep

theorem execRekeyBlockDone_keeps (hP : Closed 0xc0000000000000000000000000000000000000000000000000000000018000000000000000000000000000000000000000000000000000000000000000000000000000a20000010000000000000000004400000000000000000000000000000000000000001e00008c04027040c0 P) {a1 a2} (h2 : P a2) : Ans P (execRekeyBlockDone a1 a2) := by
  unfold execRekeyBlockDone
  have c0 := @request_keeps P (hP.mono rfl); have c1 := @setRot_keeps P (hP.mono rfl); have c2 := @rotResult_keeps P (hP.mono rfl)
  have c3 := @set_keeps _ P hP; have c4 := @copyOut_keeps P (hP.mono rfl)
  exact byKeep

theorem rotSealed_keeps (hP : Closed 0xe04600300000000000000000000000000000000000001e00008c0400100140 P) {a1 a2 a3 a4 a5} (h5 : P a5) : P (rotSealed a1 a2 a3 a4 a5) := by
  unfold rotSealed
  have c0 := @rotEnter_keeps P (hP.mono rfl); have c1 := @setRot_keeps P (hP.mono rfl); have c2 := @rotResult_keeps P (hP.mono rfl)
  have c3 := @rotIdle_keeps P (hP.mono rfl); have c4 := @setRotPhase_keeps P (hP.mono rfl)
  have c5 := @takeLdKey_keeps P (hP.mono rfl)
  exact byKeep

theorem execRotDrainDone_keeps (hP : Closed 0x400600000000000000000000000000000000000000001e00008c0400100040 P) {a1 a2} (h2 : P a2) : Ans P (execRotDrainDone a1 a2) := by
  unfold execRotDrainDone
  have c0 := @endRot_keeps P (hP.mono rfl)
  exact byKeep

theorem fuseSync_keeps (hP : Closed 0x10000000060000000000000000000000000000000000000000000000000000 P) {a1} (h1 : P a1) : P (fuseSync a1) := by
  unfold fuseSync
  have c0 := @setB_keeps _ P hP; have c1 := @set_keeps _ P hP; have c2 := @forN_keeps _ P hP
  exact byKeep

theorem fuseFail_keeps (hP : Closed 0x80 P) {a1} (h1 : P a1) : P (fuseFail a1) := by
  unfold fuseFail
  have c0 := @report_keeps P (hP.mono rfl)
  exact byKeep

theorem wipe1_keeps (hP : Closed 0x7fffffc0000000000000000000000000000000000000000000018000000000000000000010000010000000000000000000000000000000000000000000000000000000000000000000000000300200300600000000000000000000000000000000001e00008c0401934050 P) {a1} (h1 : P a1) : P (wipe1 a1) := by
  unfold wipe1
  have c0 := @forL_keeps _ P hP; have c1 := @dropLdKey_keeps P (hP.mono rfl); have c2 := @forN_keeps _ P hP
  have c3 := @setRotPhase_keeps P (hP.mono rfl); have c4 := @set_keeps _ P hP; have c5 := @setPhase_keeps P (hP.mono rfl)
  have c6 := @setMig_keeps P (hP.mono rfl); have c7 := @bufSync_keeps P (hP.mono rfl); have c8 := @fuseSync_keeps P (hP.mono rfl)
  have c9 := @keySync_keeps P (hP.mono rfl); have c10 := @clearFn_keeps P (hP.mono rfl)
  exact byKeep

theorem wipe2_keeps (hP : Closed 0x7fffffc0000000000000000000000000000000000000000000018000000000000000000010000010000000000000000000000000000000000000000000000000000000000000000000000000300200300600000400000000000000000000000000001e00008c0401d34050 P) {a1} (h1 : P a1) : P (wipe2 a1) := by
  unfold wipe2
  have c0 := @wipe1_keeps P (hP.mono rfl); have c1 := @fillSync_keeps P (hP.mono rfl)
  exact byKeep

theorem wipeFor_keeps (hP : Closed 0x7fffffc0000000000000000000000000000000000000000000018000000000000000000010000010000000000000000000000000000000000000000000000000000000000000000000000000300200300600000400000000000000000000000000001e00008c0401d34050 P) {a1 a2} (h2 : P a2) : P (wipeFor a1 a2) := by
  unfold wipeFor
  have c0 := @wipe1_keeps P (hP.mono rfl); have c1 := @wipe2_keeps P (hP.mono rfl)
  exact byKeep

theorem tstOff_keeps (hP : Closed 0xffffff8000000000000000000000000000000000000000000000000000000000000000000000000000000000000000000000000000000000000000000000000000000000000000000000000000000000000000000000000000000000000000000000000000000000000000000000 P) {a1} (h1 : P a1) : P (tstOff a1) := by
  unfold tstOff
  refine range_keeps hP (lo := 8 * 0xA00000) (hi := 8 * 0xB00000) (by decide +kernel) (fun k v hk => ?_) h1
  simp only [Bool.not_eq_true', Bool.and_eq_false_iff, decide_eq_false_iff_not]
  omega

theorem lcGo_keeps (hP : Closed 0xffffffffffffc0020602fca180c00f7f980001e0034402000000000001800000201fe0001f9c0c500000100ff00e301c20400000000002000000000000000000000000a22000010000003ffc100040704200304700000400000000003000000000000000041e00008c043bf7f3dc P) {a1 a2 a3} (h3 : P a3) : P (lcGo a1 a2 a3) := by
  unfold lcGo
  have c0 := @set_keeps _ P hP; have c1 := @tstOff_keeps P (hP.mono rfl); have c2 := @forN_keeps _ P hP
  have c3 := @lose_keeps P (hP.mono rfl); have c4 := @linkFail_keeps P (hP.mono rfl); have c5 := @fuseFail_keeps P (hP.mono rfl)
  have c6 := @wipeFor_keeps P (hP.mono rfl)
  exact byKeep

theorem lcWrite_keeps (hP : Closed 0xffffffffffffc0020602fca180c00f7f980001e0034402000000000001800000201fe0001f9c0c500000100ff00e301c20400000000002000000000000000000000000a22000010000003ffc100040704200314f00000400000000003000000000000000041e00008c043bf7f3dc P) {a1 a2 a3 a4 a5} (h5 : P a5) : P (lcWrite a1 a2 a3 a4 a5) := by
  unfold lcWrite
  have c0 := @set_keeps _ P hP; have c1 := @spend_keeps _ P hP; have c2 := @lcGo_keeps P (hP.mono rfl)
  exact byKeep

theorem execLcArm_keeps (hP : Closed 0xffffffffffffc0020602fca180c00f7f980001e0034402000000000001800000201fe0001f9c0c500000100ff00e301c20400000000002000000000000000000000000a22000010000003ffc100040704200314f00000400000000003000000000000000041e00008c043bf7f3dc P) {a1 a2 a3} (h3 : P a3) : Ans P (execLcArm a1 a2 a3) := by
  unfold execLcArm
  have c0 := @atReg_keeps P (hP.mono rfl); have c1 := @lcWrite_keeps P (hP.mono rfl); have c2 := @set_keeps _ P hP
  exact byKeep

theorem execLcArmExpiry_keeps (hP : Closed 0x100002 P) {a1} (h1 : P a1) : Ans P (execLcArmExpiry a1) := by
  unfold execLcArmExpiry
  have c0 := @reach_keeps _ P hP
  exact byKeep

theorem execLcGo_keeps (hP : Closed 0xffffffffffffc0020602fca180c00f7f980001e0034402000000000001800000201fe0001f9c0c500000100ff00e301c20400000000002000000000000000000000000a22000010000003ffc100040704200314f00000400000000003000000000000000041e00008c043bf7f3dc P) {a1 a2 a3 a4 a5} (h5 : P a5) : Ans P (execLcGo a1 a2 a3 a4 a5) := by
  unfold execLcGo
  have c0 := @atReg_keeps P (hP.mono rfl); have c1 := @lcWrite_keeps P (hP.mono rfl); have c2 := @set_keeps _ P hP
  exact byKeep

theorem execOwnerKeySet_keeps (hP : Closed 0xa20000010000000000000000100000000600000000000000000000000000000000001e00008c04020000d4 P) {a1 a2 a3 a4} (h4 : P a4) : Ans P (execOwnerKeySet a1 a2 a3 a4) := by
  unfold execOwnerKeySet
  have c0 := @mailbox_keeps P (hP.mono rfl); have c1 := @fuseFail_keeps P (hP.mono rfl); have c2 := @fuseSync_keeps P (hP.mono rfl)
  exact byKeep

theorem policyEnd_keeps (hP : Closed 0xc00000000000000000000000000000000000000000000400000 P) {a1 a2} (h2 : P a2) : P (policyEnd a1 a2) := by
  unfold policyEnd
  have c0 := @set_keeps _ P hP
  exact byKeep

theorem policySealed_keeps (hP : Closed 0xc00000000000000000000000000000000000000000000400000 P) {a1 a2} (h2 : P a2) : P (policySealed a1 a2) := by
  unfold policySealed
  have c0 := @set_keeps _ P hP; have c1 := @policyEnd_keeps P (hP.mono rfl)
  exact byKeep

theorem cutDone_keeps (hP : Closed 0x80000000000000000000000000000000000000000400000 P) {a1 a2 a3 a4} (h4 : P a4) : P (cutDone a1 a2 a3 a4) := by
  unfold cutDone
  have c0 := @set_keeps _ P hP
  exact byKeep

theorem jnlDone_keeps (hP : Closed 0xc000000000000001800000000000000000000000000000000000000001800000381fe0003f1c0ff00000100bf000300000000000000000000000000000000000000000a22000010000003ffe900000e0460030000c000800000000003000000000000000041e00008c043b7f63cc P) {a1 a2 a3 a4 a5} (h5 : P a5) : P (jnlDone a1 a2 a3 a4 a5) := by
  unfold jnlDone
  have c0 := @bindSealed_keeps P (hP.mono rfl); have c1 := @actSealed_keeps P (hP.mono rfl)
  have c2 := @migSealed_keeps P (hP.mono rfl); have c3 := @rotSealed_keeps P (hP.mono rfl)
  have c4 := @rfSealed_keeps P (hP.mono rfl); have c5 := @eraseSealed_keeps P (hP.mono rfl)
  have c6 := @policySealed_keeps P (hP.mono rfl); have c7 := @cutDone_keeps P (hP.mono rfl)
  exact byKeep

theorem mirrorLine_keeps (hP : Closed 0xc000000000000000000000000000000000000000000000000000000001800000200000001000000000000009f000300000000000000000000000000000000000000000a22000010000003ffc100000000000000000000000000000000000000000000000001e00008c04127560cc P) {a1 a2 a3 a4} (h4 : P a4) : P (mirrorLine a1 a2 a3 a4) := by
  unfold mirrorLine
  have c0 := @freshId_keeps P (hP.mono rfl); have c1 := @takeIn_keeps P (hP.mono rfl)
  exact byKeep

theorem mirrorOut_keeps (hP : Closed 0xc000000000000000000000000000000000000000000000000000000001800000200000001000000000000009f000300000000000000000000000000000000000000000a22000010000003ffc100000000000000000000000000000000000000000000000001e00008c04127560cc P) {a1 a2 a3 a4 a5} (h5 : P a5) : P (mirrorOut a1 a2 a3 a4 a5) := by
  unfold mirrorOut
  have c0 := @forN_keeps _ P hP; have c1 := @mirrorLine_keeps P (hP.mono rfl); have c2 := @spend_keeps _ P hP
  exact byKeep

theorem mirrorTake_keeps (hP : Closed 0xc000000000000000000000000000000000000000000000000000000001800000200000001000000000000009f000300000000000000000000000000000000000000000a22000010000003ffc100000000000000000000040000000000000000000000000001e00008c04127560cc P) {a1 a2} (h2 : P a2) : P (mirrorTake a1 a2) := by
  unfold mirrorTake
  have c0 := @flag_keeps P (hP.mono rfl); have c1 := @mirrorOut_keeps P (hP.mono rfl); have c2 := @set_keeps _ P hP
  exact byKeep

theorem voidNote_keeps (hP : Closed 0x4000000000000000000000000001e00008c0400000040 P) {a1 a2} (h2 : P a2) : P (voidNote a1 a2) := by
  unfold voidNote
  have c0 := @raise_keeps P (hP.mono rfl); have c1 := @set_keeps _ P hP
  exact byKeep

theorem sealRec_keeps (hP : Closed 0xc000000000000001800000000000000000000000000000000000000001800000381fe0003f1c0ff00000100bf000300000000000000000000000000000000000000000a22000010000003ffe900000e0460030000c004844000000003000000000000000041e00008c043b7f63cc P) {a1 a2} (h2 : P a2) : P (sealRec a1 a2) := by
  unfold sealRec
  have c0 := @set_keeps _ P hP; have c1 := @markApplied_keeps P (hP.mono rfl); have c2 := @startNext_keeps P (hP.mono rfl)
  have c3 := @jnlDone_keeps P (hP.mono rfl); have c4 := @voidNote_keeps P (hP.mono rfl); have c5 := @mirrorTake_keeps P (hP.mono rfl)
  exact byKeep

theorem putRec_keeps (hP : Closed 0x40000000000000000000000000000000000000000400000 P) {a1 a2 a3} (h3 : P a3) : P (putRec a1 a2 a3) := by
  unfold putRec
  have c0 := @fillSync_keeps P (hP.mono rfl); have c1 := @setActive_keeps P (hP.mono rfl)
  exact byKeep

theorem stopJournal_keeps (hP : Closed 0xc000000000000001800000000000000000000000000000000000000001800000381fe0003f1c0ff00000100bf000300000000000000000000000000000000000000000a22000010000003ffe900000e0460030000c000802040000003000000000000000041e00008c043b7f63cc P) {a1} (h1 : P a1) : P (stopJournal a1) := by
  unfold stopJournal
  have c0 := @flag_keeps P (hP.mono rfl); have c1 := @set_keeps _ P hP; have c2 := @jnlDone_keeps P (hP.mono rfl)
  exact byKeep

theorem pageDone_keeps (hP : Closed 0xc000000000000001800000000000000000000000000000000000000001800000381fe0003f1c0ff00000100bf000300000000000000000000000000000000000000000a22000010000003ffe900000e0460030000c004c46040000003000000000000000041e00008c043b7f63cc P) {a1} (h1 : P a1) : P (pageDone a1) := by
  unfold pageDone
  have c0 := @putRec_keeps P (hP.mono rfl); have c1 := @stopJournal_keeps P (hP.mono rfl)
  have c2 := @sealRec_keeps P (hP.mono rfl)
  exact byKeep

theorem jnlFail_keeps (hP : Closed 0xc000000000000001800000000000000000000000000000000000000001800000381fe0003f1c0ff00000100bf000300000000000000000000000000000000000000000a22000010000003ffe900000e0460030000c000801000000003000000000000000041e00008c043b7f63cc P) {a1 a2} (h2 : P a2) : P (jnlFail a1 a2) := by
  unfold jnlFail
  have c0 := @report_keeps P (hP.mono rfl); have c1 := @flag_keeps P (hP.mono rfl); have c2 := @note_keeps P (hP.mono rfl)
  have c3 := @startNext_keeps P (hP.mono rfl); have c4 := @jnlDone_keeps P (hP.mono rfl); have c5 := @set_keeps _ P hP
  exact byKeep

theorem readBack_keeps (hP : Closed 0xc000000000000001800000000000000000000000000000000000000001800000381fe0003f1c0ff00000100bf000300000000000000000000000000000000000000000a22000010000003ffe900000e0460030000c004c45000000003000000000000000041e00008c043b7f63cc P) {a1 a2} (h2 : P a2) : P (readBack a1 a2) := by
  unfold readBack
  have c0 := @sealRec_keeps P (hP.mono rfl); have c1 := @spend_keeps _ P hP; have c2 := @putRec_keeps P (hP.mono rfl)
  have c3 := @jnlFail_keeps P (hP.mono rfl)
  exact byKeep

theorem eraseBegin_keeps (hP : Closed 0x18020000000000000000000000000001e00008c0400400040 P) {a1 a2} (h2 : P a2) : P (eraseBegin a1 a2) := by
  unfold eraseBegin
  have c0 := @bump_keeps _ P hP; have c1 := @flag_keeps P (hP.mono rfl); have c2 := @set_keeps _ P hP
  exact byKeep

theorem cutAsk_keeps (hP : Closed 0x80000000000000000000000000000000000000000400000 P) {a1} (h1 : P a1) : P (cutAsk a1) := by
  unfold cutAsk
  have c0 := @request_keeps P (hP.mono rfl); have c1 := @set_keeps _ P hP
  exact byKeep

theorem compactBegin_keeps (hP : Closed 0x18820000000000000000000000000001e00008c0400400040 P) {a1} (h1 : P a1) : P (compactBegin a1) := by
  unfold compactBegin
  have c0 := @cutAsk_keeps P (hP.mono rfl); have c1 := @eraseBegin_keeps P (hP.mono rfl); have c2 := @set_keeps _ P hP
  exact byKeep

theorem execCompactionStart_keeps (hP : Closed 0x18820000000000000000000000000001e00008c0400400040 P) {a1} (h1 : P a1) : Ans P (execCompactionStart a1) := by
  unfold execCompactionStart
  have c0 := @compactBegin_keeps P (hP.mono rfl)
  exact byKeep

theorem compactWrite_keeps (hP : Closed 0x18820000000000000000000000000001e00008c0400400040 P) {a1 a2} (h2 : P a2) : P (compactWrite a1 a2) := by
  unfold compactWrite
  have c0 := @compactBegin_keeps P (hP.mono rfl)
  exact byKeep

theorem execBlockEraseDone_keeps (hP : Closed 0x80000000000000000000000000000000000000000400000 P) {a1} (h1 : P a1) : Ans P (execBlockEraseDone a1) := by
  unfold execBlockEraseDone
  have c0 := @cutAsk_keeps P (hP.mono rfl); have c1 := @set_keeps _ P hP
  exact byKeep

theorem renumber_keeps (hP : Closed 0x110004 P) {a1 a2} (h2 : P a2) : P (renumber a1 a2) := by
  unfold renumber
  have c0 := @forL_keeps _ P hP; have c1 := @bmInit_keeps P (hP.mono rfl); have c2 := @modMig_keeps P (hP.mono rfl)
  have c3 := @setRot_keeps P (hP.mono rfl)
  exact byKeep

theorem execCompactionSwitch_keeps (hP : Closed 0x19c20008000000000000000000000001e00008c0400510044 P) {a1} (h1 : P a1) : Ans P (execCompactionSwitch a1) := by
  unfold execCompactionSwitch
  have c0 := @set_keeps _ P hP; have c1 := @setActive_keeps P (hP.mono rfl); have c2 := @eraseBegin_keeps P (hP.mono rfl)
  have c3 := @retryAborts_keeps P (hP.mono rfl); have c4 := @startNext_keeps P (hP.mono rfl)
  have c5 := @fillSync_keeps P (hP.mono rfl); have c6 := @renumber_keeps P (hP.mono rfl)
  exact byKeep

theorem refuseAll_keeps (hP : Closed 0xc000000000000001800000000000000000000000000000000000000001800000381fe0003f1c0ff00000100bf000300000000000000000000000000000000000000000a22000010000003ffe900000e0460030000c000800000000003000000000000000041e00008c043b7f63cc P) {a1} (h1 : P a1) : P (refuseAll a1) := by
  unfold refuseAll
  have c0 := @set_keeps _ P hP; have c1 := @dropChange_keeps P (hP.mono rfl); have c2 := @forN_keeps _ P hP
  have c3 := @migAbort_keeps P (hP.mono rfl); have c4 := @setMig_keeps P (hP.mono rfl); have c5 := @rotResult_keeps P (hP.mono rfl)
  have c6 := @rotIdle_keeps P (hP.mono rfl); have c7 := @setRot_keeps P (hP.mono rfl); have c8 := @eraseBusy_keeps P (hP.mono rfl)
  have c9 := @dropConv_keeps P (hP.mono rfl); have c10 := @policyEnd_keeps P (hP.mono rfl)
  have c11 := @forL_keeps _ P hP; have c12 := @jnlDone_keeps P (hP.mono rfl)
  exact byKeep

theorem pwrfail_keeps (hP : Closed 0xc000000000000001800000000000000000000000000000000000000001800000381fe0003f1c0ff00000100bf000300000000000000000000000000000000000000000a22000010000003ffe900000e0460030000c004846040000003000000000000000041e00008c043b7f63cc P) {a1 a2} (h2 : P a2) : P (pwrfail a1 a2) := by
  unfold pwrfail
  have c0 := @raise_keeps P (hP.mono rfl); have c1 := @refuseAll_keeps P (hP.mono rfl); have c2 := @stopJournal_keeps P (hP.mono rfl)
  have c3 := @sealRec_keeps P (hP.mono rfl)
  exact byKeep

theorem execPwrfail_keeps (hP : Closed 0xc000000000000001800000000000000000000000000000000000000001800000381fe0003f1c0ff00000100bf000300000000000000000000000000000000000000000a22000010000003ffe900000e0460030000c004846040000003000000000000000041e00008c043b7f63cc P) {a1} (h1 : P a1) : Ans P (execPwrfail a1) := by
  unfold execPwrfail
  have c0 := @pwrfail_keeps P (hP.mono rfl)
  exact byKeep

theorem sealFree_keeps (hP : Closed 0x318820040000000000000000000000001e00008c0400410040 P) {a1} (h1 : P a1) : P (sealFree a1) := by
  unfold sealFree
  have c0 := @set_keeps _ P hP; have c1 := @forL_keeps _ P hP; have c2 := @note_keeps P (hP.mono rfl)
  have c3 := @retryAborts_keeps P (hP.mono rfl); have c4 := @compactBegin_keeps P (hP.mono rfl)
  exact byKeep

theorem slotShow_keeps (hP : Closed 0x1fc0000000000000000000000000000000000000000000000000000000000000000000000000000000000004000000 P) {a1 a2 a3} (h3 : P a3) : P (slotShow a1 a2 a3) := by
  unfold slotShow
  have c0 := @setB_keeps _ P hP; have c1 := @set_keeps _ P hP
  exact byKeep

theorem putSlot_keeps (hP : Closed 0x1fe00000000000000000000000000000000000000000000000000000000000000000000000001e00008c0404000040 P) {a1 a2 a3} (h3 : P a3) : P (putSlot a1 a2 a3) := by
  unfold putSlot
  have c0 := @setState_keeps P (hP.mono rfl); have c1 := @slotShow_keeps P (hP.mono rfl); have c2 := @set_keeps _ P hP
  exact byKeep

theorem modSlot_keeps (hP : Closed 0x1fe00000000000000000000000000000000000000000000000000000000000000000000000001e00008c0404000040 P) {a1 a2 a3} (h3 : P a3) : P (modSlot a1 a2 a3) := by
  unfold modSlot
  have c0 := @putSlot_keeps P (hP.mono rfl)
  exact byKeep

theorem slotFlag_keeps (hP : Closed 0x1e00008c0400000040 P) {a1 a2 a3} (h1 : ∀ s v i j, P s → P (State.set s a1 v i j)) (h3 : P a3) : P (slotFlag a1 a2 a3) := by
  unfold slotFlag
  have c0 := @flag_keeps P (hP.mono rfl)
  exact byKeep

theorem lineEdge_keeps (hP : Closed 0x2aa02000000000000000084 P) {a1 a2} (h2 : P a2) : P (lineEdge a1 a2).2 := by
  unfold lineEdge
  have c0 := @set_keeps _ P hP; have c1 := @assertFaultN_keeps P (hP.mono rfl)
  split
  · exact h2
  · lift_lets +implicits -underBinder
    intro s
    refine cutP (A := P s) ?_ ?_
    rotate_left; clear_value s; intro hs
    · intro s2
      refine cutP (A := P s2) ?_ ?_
      rotate_left; clear_value s2; intro hs
      · exact hs
      unfold s2; clear s2
      apply iteP
      exact c1 hs
      exact hs
    unfold s; clear s
    apply iteP
    exact c0 (by decide +kernel) h2
    apply iteP
    exact c0 (by decide +kernel) h2
    apply iteP
    exact c0 (by decide +kernel) h2
    apply iteP
    exact c0 (by decide +kernel) h2
    exact c0 (by decide +kernel) h2

theorem lineReport_keeps (hP : Closed 0xc000000000000000000000000000000000000000000000000000000000000000000000000000000000000000000000000000000000000000000000000000000000000000000000000000000000000000000000000000000000000000000000e0180002ab3a1e00008c04002000c4 P) {a1 a2 a3} (h3 : P a3) : P (lineReport a1 a2 a3) := by
  have h := lineEdge_keeps (hP.mono rfl) (a1 := a1) h3
  unfold lineReport
  generalize lineEdge a1 a3 = e at h ⊢
  exact iteP (collect_keeps (hP.mono rfl) h) h

theorem slotLine_keeps (hP : Closed 0xc000000000000000000000000000000000000000000000000000000000000000000000000000000000000000000000000000000000000000000000000000000000000000000000000000000000000000000000000000000000000000000000e0180002ab3a1e00008c04002000c4 P) {a1 a2} (h2 : P a2) : P (slotLine a1 a2) := by
  unfold slotLine
  have c0 := @lineReport_keeps P (hP.mono rfl)
  exact byKeep

theorem boardLost_keeps (hP : Closed 0xc000007fffffc0020602fca180c0000000000000000002000000000001800000201fe0001f9c0c500000100ff00e301c20400000000002000000000000000000000000a22000010000003ffc100000404200000000000000000000003000000000000000041e00008c043bf7f3cc P) {a1 a2} (h2 : P a2) : P (boardLost a1 a2) := by
  unfold boardLost
  have c0 := @lose_keeps P (hP.mono rfl)
  exact byKeep

theorem slotTrip_keeps (hP : Closed 0xc000007fffffc0020602fca180c0000000000000000002000000000001800000201fe0001f9c0c500000100ff00e301c204000000000020000000004000043ffe00000a22000010000003ffc10000040420000000000000000000000300000e0180002ab3e1e00008c043ff7f3cc P) {a1 a2 a3} (h3 : P a3) : P (slotTrip a1 a2 a3) := by
  unfold slotTrip
  have c0 := @slotFlag_keeps P (hP.mono rfl); have c1 := @bump_keeps _ P hP; have c2 := @slotLine_keeps P (hP.mono rfl)
  have c3 := @boardLost_keeps P (hP.mono rfl); have c4 := @putSlot_keeps P (hP.mono rfl); have c5 := @set_keeps _ P hP
  exact byKeep

theorem inputTrip_keeps (hP : Closed 0xc000007fffffc0020602fca180c0000000000000000002000000000001800000201fe0001f9c0c500000100ff00e301c2040000000000200000000040000401fe00000a22000010000003ffc10000040420000000000000000000000300000e0180002ab3e1e00008c043ff7f3cc P) {a1 a2} (h2 : P a2) : P (inputTrip a1 a2) := by
  unfold inputTrip
  have c0 := @slotFlag_keeps P (hP.mono rfl); have c1 := @bump_keeps _ P hP; have c2 := @slotLine_keeps P (hP.mono rfl)
  have c3 := @boardLost_keeps P (hP.mono rfl); have c4 := @putSlot_keeps P (hP.mono rfl); have c5 := @set_keeps _ P hP
  exact byKeep

theorem enterInrush_keeps (hP : Closed 0x1fe00000000000000000000000000000000000000000000000000000000000000000000000001e00008c0404000040 P) {a1 a2} (h2 : P a2) : P (enterInrush a1 a2) := by
  unfold enterInrush
  have c0 := @modSlot_keeps P (hP.mono rfl)
  exact byKeep

theorem slotGo_keeps (hP : Closed 0x1fe00000000000000000000000000000000000000000000000000000000000000000000000001e00008c0404000040 P) {a1 a2} (h2 : P a2) : P (slotGo a1 a2) := by
  unfold slotGo
  have c0 := @enterInrush_keeps P (hP.mono rfl)
  exact byKeep

theorem slotDecide_keeps (hP : Closed 0x1fe00000000000000000000000000000000000000000000000000000003000000000000000041e00008c04040003c0 P) {a1 a2} (h2 : P a2) : P (slotDecide a1 a2) := by
  unfold slotDecide
  have c0 := @modSlot_keeps P (hP.mono rfl); have c1 := @reachPoint_keeps P (hP.mono rfl)
  have c2 := @enterInrush_keeps P (hP.mono rfl)
  exact byKeep

theorem insertDone_keeps (hP : Closed 0x1fe00000000000000000000000000000000000000000000000000000003000000000000000041e00008c04040003c0 P) {a1 a2} (h2 : P a2) : P (insertDone a1 a2) := by
  unfold insertDone
  have c0 := @slotDecide_keeps P (hP.mono rfl); have c1 := @putSlot_keeps P (hP.mono rfl)
  exact byKeep

theorem retryGo_keeps (hP : Closed 0x1fe00000000000000000000000000000000000000000000000000000003000000000000000041e00008c04040003c0 P) {a1 a2} (h2 : P a2) : P (retryGo a1 a2) := by
  unfold retryGo
  have c0 := @slotDecide_keeps P (hP.mono rfl); have c1 := @enterInrush_keeps P (hP.mono rfl)
  exact byKeep

theorem retryEnd_keeps (hP : Closed 0x1fe00000000000000000000000000000000000000000000000000000003000000000000000041e00008c04040003c0 P) {a1 a2} (h2 : P a2) : P (retryEnd a1 a2) := by
  unfold retryEnd
  have c0 := @retryGo_keeps P (hP.mono rfl); have c1 := @putSlot_keeps P (hP.mono rfl)
  exact byKeep

theorem dischargeEnd_keeps (hP : Closed 0xc000000000000000000000000000000000000000000000000000000000000000000000000000000000000000000000000000000000000000000000000000201fe0000000000000000000000000000000000000000000000000000000300000e0180002ab3e1e00008c04042003c4 P) {a1 a2} (h2 : P a2) : P (dischargeEnd a1 a2) := by
  unfold dischargeEnd
  have c0 := @putSlot_keeps P (hP.mono rfl); have c1 := @slotLine_keeps P (hP.mono rfl); have c2 := @slotFlag_keeps P (hP.mono rfl)
  have c3 := @retryGo_keeps P (hP.mono rfl); have c4 := @set_keeps _ P hP
  exact byKeep

theorem offNow_keeps (hP : Closed 0xc000000000000000000000000000000000000000000000000000000000000000000000000000000000000000000000000000000000000000000000040000003fe0000000000000000000000000000000000000000000000000000000000000e0180002ab3a1e00008c04042000c4 P) {a1 a2 a3 a4} (h4 : P a4) : P (offNow a1 a2 a3 a4) := by
  unfold offNow
  have c0 := @slotLine_keeps P (hP.mono rfl); have c1 := @putSlot_keeps P (hP.mono rfl); have c2 := @slotFlag_keeps P (hP.mono rfl)
  have c3 := @bump_keeps _ P hP; have c4 := @set_keeps _ P hP
  exact byKeep

theorem seatLoss_keeps (hP : Closed 0xc000007fffffc0020602fca180c0000000000000000002000000000001800000201fe0001f9c0c500000100ff00e301c2040000000000200000000040000003fe00000a22000010000003ffc10000040420000000000000000000000300000e0180002ab3e1e00008c043ff7f3cc P) {a1 a2} (h2 : P a2) : P (seatLoss a1 a2) := by
  unfold seatLoss
  have c0 := @voidDec_keeps P (hP.mono rfl); have c1 := @putSlot_keeps P (hP.mono rfl); have c2 := @boardLost_keeps P (hP.mono rfl)
  have c3 := @offNow_keeps P (hP.mono rfl)
  exact byKeep

theorem seatOn_keeps (hP : Closed 0x80000101fe00000000000000000000000000000000000000000000000000000000000000000000000001e00008c0404000040 P) {a1 a2} (h2 : P a2) : P (seatOn a1 a2) := by
  unfold seatOn
  have c0 := @putSlot_keeps P (hP.mono rfl); have c1 := @raise_keeps P (hP.mono rfl); have c2 := @slotFlag_keeps P (hP.mono rfl)
  have c3 := @bump_keeps _ P hP; have c4 := @modSlot_keeps P (hP.mono rfl); have c5 := @set_keeps _ P hP
  exact byKeep

theorem qualified_keeps (hP : Closed 0x1fe00000000000000000000000000000000000000000000000000000000000000000000000001e00008c0404000040 P) {a1 a2} (h2 : P a2) : P (qualified a1 a2) := by
  unfold qualified
  have c0 := @putSlot_keeps P (hP.mono rfl)
  exact byKeep

theorem slotOff_keeps (hP : Closed 0xc000000000000000000000000000000000000000000000000000000000000000000000000000000000000000000000000000000000000000000000040000003fe0000000000000000000000000000000000000000000000000000000000000e0180002ab3a1e00008c04042001c4 P) {a1 a2} (h2 : P a2) : P (slotOff a1 a2) := by
  unfold slotOff
  have c0 := @putSlot_keeps P (hP.mono rfl); have c1 := @voidDec_keeps P (hP.mono rfl); have c2 := @offNow_keeps P (hP.mono rfl)
  exact byKeep

theorem slotOffCmd_keeps (hP : Closed 0xc000007fffffc0020602fca180c0000000000000000002000000000001800000201fe0001f9c0c500000100ff00e301c2040000000000200000000040000003fe00000a22000010000003ffc10000040420000000000000000000000300000e0180002ab3e1e00008c043ff7f3cc P) {a1 a2} (h2 : P a2) : P (slotOffCmd a1 a2) := by
  unfold slotOffCmd
  have c0 := @putSlot_keeps P (hP.mono rfl); have c1 := @lose_keeps P (hP.mono rfl); have c2 := @slotOff_keeps P (hP.mono rfl)
  exact byKeep

theorem vinTake_keeps (hP : Closed 0x110000000000000000000000000000000000000000000000000000000000000000000000000000000000000000000000004000000 P) {a1 a2} (h2 : P a2) : P (vinTake a1 a2) := by
  unfold vinTake
  have c0 := @setB_keeps _ P hP; have c1 := @set_keeps _ P hP
  exact byKeep

theorem vinWarn_keeps (hP : Closed 0xc000000000000001800000000000000000000000000000000000000001800000381fe0003f1c0ff00000100bf000300000000000000000000002200000000000000000a22000010000003ffe900000e0460030000c00484604000000300000e0180002ab3e1e00008c043b7f63cc P) {a1} (h1 : P a1) : P (vinWarn a1) := by
  unfold vinWarn
  have c0 := @flag_keeps P (hP.mono rfl); have c1 := @set_keeps _ P hP; have c2 := @lineReport_keeps P (hP.mono rfl)
  have c3 := @pwrfail_keeps P (hP.mono rfl)
  exact byKeep

theorem vinLock_keeps (hP : Closed 0xc000007fffffc0020602fca180c0000000000000000002000000000001800000201fe0001f9c0c500000100ff00e301c2040000000000200000cc0040000401fe00000a22000010000003ffc10000040420000000000000000000000300000e0180002ab3e1e00008c043ff7f3cc P) {a1 a2} (h2 : P a2) : P (vinLock a1 a2) := by
  unfold vinLock
  have c0 := @forN_keeps _ P hP; have c1 := @inputTrip_keeps P (hP.mono rfl); have c2 := @flag_keeps P (hP.mono rfl)
  have c3 := @set_keeps _ P hP; have c4 := @lineReport_keeps P (hP.mono rfl)
  exact byKeep

theorem vinSample_keeps (hP : Closed 0xc000007fffffc0038602fca180c0000000000000000002000000000001800000381fe0003f9c0ff00000100ff00e301c2040000000000200000ff0040000401fe00000a22000010000003ffe900000e0460030000c00484604000000300000e0180002ab3e1e00008c043ffff3cc P) {a1 a2} (h2 : P a2) : P (vinSample a1 a2) := by
  unfold vinSample
  have c0 := @vinTake_keeps P (hP.mono rfl); have c1 := @vinWarn_keeps P (hP.mono rfl); have c2 := @set_keeps _ P hP
  have c3 := @vinLock_keeps P (hP.mono rfl)
  exact byKeep

theorem tickSeat_keeps (hP : Closed 0xc000007fffffc0020602fca180c0000000000000000002000000000001800000201fe0001f9c0c500000100ff00e301c20400000000002000000000c0000103fe00000a22000010000003ffc10000040420000000000000000000000300000e0180002ab3e1e00008c043ff7f3cc P) {a1 a2 a3} (h3 : P a3) : P (tickSeat a1 a2 a3) := by
  unfold tickSeat
  have c0 := @putSlot_keeps P (hP.mono rfl); have c1 := @seatLoss_keeps P (hP.mono rfl); have c2 := @seatOn_keeps P (hP.mono rfl)
  exact byKeep

theorem tickCmd_keeps (hP : Closed 0xc000000000000000000000000000000000000000000000000000000000000000000000000000000000000000000000000000000000000000000000040000003fe0000000000000000000000000000000000000000000000000000000000000e0180002ab3a1e00008c04042001c4 P) {a1 a2} (h2 : P a2) : P (tickCmd a1 a2) := by
  unfold tickCmd
  have c0 := @slotOff_keeps P (hP.mono rfl); have c1 := @putSlot_keeps P (hP.mono rfl); have c2 := @enterInrush_keeps P (hP.mono rfl)
  exact byKeep

theorem tickTimer_keeps (hP : Closed 0x1fe00000000000000000000000000000000000000000000000000000000000000000000000001e00008c0404000040 P) {a1 a2 a3} (h3 : P a3) : P (tickTimer a1 a2 a3) := by
  unfold tickTimer
  have c0 := @putSlot_keeps P (hP.mono rfl)
  exact byKeep

theorem tickEnergy_keeps (hP : Closed 0x30000001fe00000000000000000000000000000000000000000000000000000000000000000000000001e00008c0404000040 P) {a1 a2 a3} (h3 : P a3) : P (tickEnergy a1 a2 a3) := by
  unfold tickEnergy
  have c0 := @putSlot_keeps P (hP.mono rfl); have c1 := @set_keeps _ P hP
  exact byKeep

theorem fetFail_keeps (hP : Closed 0xc000000000000000000000000000000000000000000000000000000000000000000000000000000000000000000000000000000000000000000000000000041fe0000000000000000000000000000000000000000000000000000000000000e0180002ab3a1e00008c04042001c4 P) {a1 a2} (h2 : P a2) : P (fetFail a1 a2) := by
  unfold fetFail
  have c0 := @voidDec_keeps P (hP.mono rfl); have c1 := @putSlot_keeps P (hP.mono rfl); have c2 := @slotLine_keeps P (hP.mono rfl)
  have c3 := @slotFlag_keeps P (hP.mono rfl); have c4 := @set_keeps _ P hP
  exact byKeep

theorem tickMove_keeps (hP : Closed 0xc000007fffffc0020602fca180c0000000000000000002000000000001800000201fe0001f9c0c500000100ff00e301c20400000000002000000000400006fffe00000a22000010000003ffc10000040420000000000000000000000300000e0180002ab3e1e00008c043ff7f3cc P) {a1 a2 a3} (h3 : P a3) : P (tickMove a1 a2 a3) := by
  unfold tickMove
  have c0 := @slotTrip_keeps P (hP.mono rfl); have c1 := @slotFlag_keeps P (hP.mono rfl); have c2 := @fetFail_keeps P (hP.mono rfl)
  have c3 := @putSlot_keeps P (hP.mono rfl); have c4 := @qualified_keeps P (hP.mono rfl); have c5 := @insertDone_keeps P (hP.mono rfl)
  have c6 := @dischargeEnd_keeps P (hP.mono rfl); have c7 := @retryGo_keeps P (hP.mono rfl)
  have c8 := @set_keeps _ P hP
  exact byKeep

theorem tickRetry_keeps (hP : Closed 0x1fe00000000000000000000000000000000000000000000000000000003000000000000000041e00008c04040003c0 P) {a1 a2} (h2 : P a2) : P (tickRetry a1 a2) := by
  unfold tickRetry
  have c0 := @retryEnd_keeps P (hP.mono rfl)
  exact byKeep

theorem pgOn_keeps (hP : Closed 0x1fe00000000000000000000000000000000000000000000000000000000000000000000000001e00008c0404000040 P) {a1 a2} (h2 : P a2) : P (pgOn a1 a2) := by
  unfold pgOn
  have c0 := @modSlot_keeps P (hP.mono rfl)
  exact byKeep

theorem warnOff_keeps (hP : Closed 0x1fe00000000000000000000000000000000000000000000000000000000000000000000000001e00008c0404000040 P) {a1 a2} (h2 : P a2) : P (warnOff a1 a2) := by
  unfold warnOff
  have c0 := @modSlot_keeps P (hP.mono rfl)
  exact byKeep

theorem retriesZero_keeps (hP : Closed 0x1fe00000000000000000000000000000000000000000000000000000000000000000000000001e00008c0404000040 P) {a1 a2} (h2 : P a2) : P (retriesZero a1 a2) := by
  unfold retriesZero
  have c0 := @modSlot_keeps P (hP.mono rfl)
  exact byKeep

theorem tickOut_keeps (hP : Closed 0x1fe00000000000000000000000000000000000000000000000000000000000000000000000001e00008c0404000040 P) {a1 a2} (h2 : P a2) : P (tickOut a1 a2) := by
  unfold tickOut
  have c0 := @pgOn_keeps P (hP.mono rfl); have c1 := @warnOff_keeps P (hP.mono rfl); have c2 := @retriesZero_keeps P (hP.mono rfl)
  exact byKeep

theorem nextTick_keeps (hP : Closed 0x1fe00000000000000000000000000000000000000000000000000000000000000000000000001e00008c0404000042 P) {a1 a2} (h2 : P a2) : P (nextTick a1 a2) := by
  unfold nextTick
  have c0 := @reach_keeps _ P hP; have c1 := @putSlot_keeps P (hP.mono rfl)
  exact byKeep

theorem execSlotTick_keeps (hP : Closed 0xc000007fffffc0038602fca180c0000000000000000002000000000001800000381fe0003f9c0ff00000100ff00e301c2040000000000200000ff00fc0007fffe00000a22000010000003ffe900000e0460030000c00484604000000300000e0180002ab3e1e00008c043ffff3ce P) {a1 a2 a3} (h3 : P a3) : Ans P (execSlotTick a1 a2 a3) := by
  unfold execSlotTick
  have c0 := @vinSample_keeps P (hP.mono rfl); have c1 := @nextTick_keeps P (hP.mono rfl)
  have c2 := @set_keeps _ P hP; have c3 := @tickCmd_keeps P (hP.mono rfl); have c4 := @tickSeat_keeps P (hP.mono rfl)
  have c5 := @tickEnergy_keeps P (hP.mono rfl); have c6 := @tickTimer_keeps P (hP.mono rfl)
  have c7 := @tickOut_keeps P (hP.mono rfl); have c8 := @tickRetry_keeps P (hP.mono rfl); have c9 := @tickMove_keeps P (hP.mono rfl)
  exact byKeep

theorem atTick_keeps (hP : Closed 0x1fe00000000000000000000000000000000000000000000000000000000000000000000000001e00008c0404000040 P) {a1 a2 a3} (h3 : P a3) : P (atTick a1 a2 a3) := by
  unfold atTick
  have c0 := @modSlot_keeps P (hP.mono rfl)
  exact byKeep

theorem execSeatingDetected_keeps (hP : Closed 0x80000101fe00000000000000000000000000000000000000000000000000000000000000000000000001e00008c0404000040 P) {a1 a2} (h2 : P a2) : Ans P (execSeatingDetected a1 a2) := by
  unfold execSeatingDetected
  have c0 := @seatOn_keeps P (hP.mono rfl)
  exact byKeep

theorem execQualifyComplete_keeps (hP : Closed 0x1fe00000000000000000000000000000000000000000000000000000000000000000000000001e00008c0404000040 P) {a1 a2} (h2 : P a2) : Ans P (execQualifyComplete a1 a2) := by
  unfold execQualifyComplete
  have c0 := @qualified_keeps P (hP.mono rfl); have c1 := @atTick_keeps P (hP.mono rfl)
  exact byKeep

theorem execInsertionDelayEnd_keeps (hP : Closed 0x1fe00000000000000000000000000000000000000000000000000000003000000000000000041e00008c04040003c0 P) {a1 a2} (h2 : P a2) : Ans P (execInsertionDelayEnd a1 a2) := by
  unfold execInsertionDelayEnd
  have c0 := @insertDone_keeps P (hP.mono rfl); have c1 := @atTick_keeps P (hP.mono rfl)
  exact byKeep

theorem execSeatingLost_keeps (hP : Closed 0xc000007fffffc0020602fca180c0000000000000000002000000000001800000201fe0001f9c0c500000100ff00e301c2040000000000200000000040000003fe00000a22000010000003ffc10000040420000000000000000000000300000e0180002ab3e1e00008c043ff7f3cc P) {a1 a2} (h2 : P a2) : Ans P (execSeatingLost a1 a2) := by
  unfold execSeatingLost
  have c0 := @seatLoss_keeps P (hP.mono rfl); have c1 := @modSlot_keeps P (hP.mono rfl)
  exact byKeep

theorem execInrushTimeout_keeps (hP : Closed 0xc000007fffffc0020602fca180c0000000000000000002000000000001800000201fe0001f9c0c500000100ff00e301c204000000000020000000004000043ffe00000a22000010000003ffc10000040420000000000000000000000300000e0180002ab3e1e00008c043ff7f3cc P) {a1 a2} (h2 : P a2) : Ans P (execInrushTimeout a1 a2) := by
  unfold execInrushTimeout
  have c0 := @slotTrip_keeps P (hP.mono rfl); have c1 := @atTick_keeps P (hP.mono rfl)
  exact byKeep

theorem execFaultTimerExpiry_keeps (hP : Closed 0xc000007fffffc0020602fca180c0000000000000000002000000000001800000201fe0001f9c0c500000100ff00e301c204000000000020000000004000043ffe00000a22000010000003ffc10000040420000000000000000000000300000e0180002ab3e1e00008c043ff7f3cc P) {a1 a2} (h2 : P a2) : Ans P (execFaultTimerExpiry a1 a2) := by
  unfold execFaultTimerExpiry
  have c0 := @slotTrip_keeps P (hP.mono rfl); have c1 := @atTick_keeps P (hP.mono rfl)
  exact byKeep

theorem execFastTrip_keeps (hP : Closed 0xc000007fffffc0020602fca180c0000000000000000002000000000001800000201fe0001f9c0c500000100ff00e301c204000000000020000000004000043ffe00000a22000010000003ffc10000040420000000000000000000000300000e0180002ab3e1e00008c043ff7f3cc P) {a1 a2} (h2 : P a2) : Ans P (execFastTrip a1 a2) := by
  unfold execFastTrip
  have c0 := @slotTrip_keeps P (hP.mono rfl)
  exact byKeep

theorem execRetryTimerEnd_keeps (hP : Closed 0x1fe00000000000000000000000000000000000000000000000000000003000000000000000041e00008c04040003c0 P) {a1 a2} (h2 : P a2) : Ans P (execRetryTimerEnd a1 a2) := by
  unfold execRetryTimerEnd
  have c0 := @retryEnd_keeps P (hP.mono rfl); have c1 := @atTick_keeps P (hP.mono rfl)
  exact byKeep

theorem execPgDelayEnd_keeps (hP : Closed 0x1fe00000000000000000000000000000000000000000000000000000000000000000000000001e00008c0404000040 P) {a1 a2} (h2 : P a2) : Ans P (execPgDelayEnd a1 a2) := by
  unfold execPgDelayEnd
  have c0 := @pgOn_keeps P (hP.mono rfl); have c1 := @atTick_keeps P (hP.mono rfl)
  exact byKeep

theorem execWarnClear_keeps (hP : Closed 0x1fe00000000000000000000000000000000000000000000000000000000000000000000000001e00008c0404000040 P) {a1 a2} (h2 : P a2) : Ans P (execWarnClear a1 a2) := by
  unfold execWarnClear
  have c0 := @warnOff_keeps P (hP.mono rfl); have c1 := @atTick_keeps P (hP.mono rfl)
  exact byKeep

theorem execRetriesClear_keeps (hP : Closed 0x1fe00000000000000000000000000000000000000000000000000000000000000000000000001e00008c0404000040 P) {a1 a2} (h2 : P a2) : Ans P (execRetriesClear a1 a2) := by
  unfold execRetriesClear
  have c0 := @retriesZero_keeps P (hP.mono rfl); have c1 := @atTick_keeps P (hP.mono rfl)
  exact byKeep

theorem execEnergyLimit_keeps (hP : Closed 0xc000007fffffc0020602fca180c0000000000000000002000000000001800000201fe0001f9c0c500000100ff00e301c204000000000020000000004000043ffe00000a22000010000003ffc10000040420000000000000000000000300000e0180002ab3e1e00008c043ff7f3cc P) {a1 a2} (h2 : P a2) : Ans P (execEnergyLimit a1 a2) := by
  unfold execEnergyLimit
  have c0 := @slotTrip_keeps P (hP.mono rfl)
  exact byKeep

theorem execFetDegraded_keeps (hP : Closed 0xc000007fffffc0020602fca180c0000000000000000002000000000001800000201fe0001f9c0c500000100ff00e301c204000000000020000000004000043ffe00000a22000010000003ffc10000040420000000000000000000000300000e0180002ab3e1e00008c043ff7f3cc P) {a1 a2} (h2 : P a2) : Ans P (execFetDegraded a1 a2) := by
  unfold execFetDegraded
  have c0 := @slotTrip_keeps P (hP.mono rfl)
  exact byKeep

theorem execFetShort_keeps (hP : Closed 0xc000000000000000000000000000000000000000000000000000000000000000000000000000000000000000000000000000000000000000000000000000041fe0000000000000000000000000000000000000000000000000000000000000e0180002ab3a1e00008c04042001c4 P) {a1 a2} (h2 : P a2) : Ans P (execFetShort a1 a2) := by
  unfold execFetShort
  have c0 := @fetFail_keeps P (hP.mono rfl)
  exact byKeep

theorem execDischargeTimeout_keeps (hP : Closed 0xc000000000000000000000000000000000000000000000000000000000000000000000000000000000000000000000000000000000000000000000000000281fe0000000000000000000000000000000000000000000000000000000300000e0180002ab3e1e00008c04042003c4 P) {a1 a2} (h2 : P a2) : Ans P (execDischargeTimeout a1 a2) := by
  unfold execDischargeTimeout
  have c0 := @dischargeEnd_keeps P (hP.mono rfl); have c1 := @slotFlag_keeps P (hP.mono rfl)
  have c2 := @atTick_keeps P (hP.mono rfl); have c3 := @set_keeps _ P hP
  exact byKeep

theorem slotApply_keeps (hP : Closed 0x801fe00000000000000000000000000000000000000000000000000000000000000000000000001e00008c0404000040 P) {a1 a2} (h2 : P a2) : P (slotApply a1 a2) := by
  unfold slotApply
  have c0 := @slotFlag_keeps P (hP.mono rfl); have c1 := @modSlot_keeps P (hP.mono rfl); have c2 := @set_keeps _ P hP
  exact byKeep

theorem slotClear_keeps (hP : Closed 0x1fe00000000000000000000000000000000000000000000000000000000000000000000000001e00008c0404000040 P) {a1 a2} (h2 : P a2) : P (slotClear a1 a2) := by
  unfold slotClear
  have c0 := @putSlot_keeps P (hP.mono rfl)
  exact byKeep

theorem slotCtl_keeps (hP : Closed 0xc000007fffffc0020602fca180c0000000000000000002000000000001800000201fe0001f9c0c500000100ff00e301c2040000000000200000000040000803fe00000a22000010000003ffc10000040420000000000000000000000300000e0180002ab3e1e00008c043ff7f3cc P) {a1 a2 a3} (h3 : P a3) : P (slotCtl a1 a2 a3) := by
  unfold slotCtl
  have c0 := @slotApply_keeps P (hP.mono rfl); have c1 := @slotClear_keeps P (hP.mono rfl)
  have c2 := @modSlot_keeps P (hP.mono rfl); have c3 := @slotOffCmd_keeps P (hP.mono rfl)
  exact byKeep

theorem execSlotOn_keeps (hP : Closed 0xc000007fffffc0020602fca180c0000000000000000002000000000001800000201fe0001f9c0c500000100ff00e301c2040000000000200000000040000803fe00000a22000010000003ffc10000040420000000000000000000000300000e0180002ab3e1e00008c043ff7f3cc P) {a1 a2 a3} (h3 : P a3) : Ans P (execSlotOn a1 a2 a3) := by
  unfold execSlotOn
  have c0 := @atReg_keeps P (hP.mono rfl); have c1 := @slotCtl_keeps P (hP.mono rfl); have c2 := @set_keeps _ P hP
  exact byKeep

theorem execSlotOnAt_keeps (hP : Closed 0xc000007fffffc0020602fca180c0000000000000000002000000000001800000201fe0001f9c0c500000100ff00e301c2040000000000200000000040000803fe00000a22000010000003ffc10000040420000000000000000000000300000e0180002ab3e1e00008c043ff7f3cc P) {a1 a2 a3} (h3 : P a3) : Ans P (execSlotOnAt a1 a2 a3) := by
  unfold execSlotOnAt
  have c0 := @atReg_keeps P (hP.mono rfl); have c1 := @slotCtl_keeps P (hP.mono rfl); have c2 := @set_keeps _ P hP
  exact byKeep

theorem execSlotOff_keeps (hP : Closed 0xc000007fffffc0020602fca180c0000000000000000002000000000001800000201fe0001f9c0c500000100ff00e301c2040000000000200000000040000803fe00000a22000010000003ffc10000040420000000000000000000000300000e0180002ab3e1e00008c043ff7f3cc P) {a1 a2 a3} (h3 : P a3) : Ans P (execSlotOff a1 a2 a3) := by
  unfold execSlotOff
  have c0 := @atReg_keeps P (hP.mono rfl); have c1 := @slotCtl_keeps P (hP.mono rfl); have c2 := @set_keeps _ P hP
  exact byKeep

theorem execSlotClear_keeps (hP : Closed 0xc000007fffffc0020602fca180c0000000000000000002000000000001800000201fe0001f9c0c500000100ff00e301c2040000000000200000000040000803fe00000a22000010000003ffc10000040420000000000000000000000300000e0180002ab3e1e00008c043ff7f3cc P) {a1 a2 a3} (h3 : P a3) : Ans P (execSlotClear a1 a2 a3) := by
  unfold execSlotClear
  have c0 := @atReg_keeps P (hP.mono rfl); have c1 := @slotCtl_keeps P (hP.mono rfl); have c2 := @set_keeps _ P hP
  exact byKeep

theorem execSlotApply_keeps (hP : Closed 0xc000007fffffc0020602fca180c0000000000000000002000000000001800000201fe0001f9c0c500000100ff00e301c2040000000000200000000040000803fe00000a22000010000003ffc10000040420000000000000000000000300000e0180002ab3e1e00008c043ff7f3cc P) {a1 a2 a3} (h3 : P a3) : Ans P (execSlotApply a1 a2 a3) := by
  unfold execSlotApply
  have c0 := @atReg_keeps P (hP.mono rfl); have c1 := @slotCtl_keeps P (hP.mono rfl); have c2 := @set_keeps _ P hP
  exact byKeep

theorem execOnatReached_keeps (hP : Closed 0x1fe00000000000000000000000000000000000000000000000000000000000000000000000001e00008c0404000042 P) {a1 a2} (h2 : P a2) : Ans P (execOnatReached a1 a2) := by
  unfold execOnatReached
  have c0 := @enterInrush_keeps P (hP.mono rfl); have c1 := @reach_keeps _ P hP
  exact byKeep

theorem execVinEarlyWarning_keeps (hP : Closed 0xc000000000000001800000000000000000000000000000000000000001800000381fe0003f1c0ff00000100bf000300000000000000000000003300000000000000000a22000010000003ffe900000e0460030000c00484604000000300000e0180002ab3e1e00008c043f7f63cc P) {a1 a2} (h2 : P a2) : Ans P (execVinEarlyWarning a1 a2) := by
  unfold execVinEarlyWarning
  have c0 := @vinWarn_keeps P (hP.mono rfl); have c1 := @vinTake_keeps P (hP.mono rfl)
  exact byKeep

theorem execVinLockout_keeps (hP : Closed 0xc000007fffffc0020602fca180c0000000000000000002000000000001800000201fe0001f9c0c500000100ff00e301c2040000000000200000dd0040000401fe00000a22000010000003ffc10000040420000000000000000000000300000e0180002ab3e1e00008c043ff7f3cc P) {a1 a2} (h2 : P a2) : Ans P (execVinLockout a1 a2) := by
  unfold execVinLockout
  have c0 := @vinTake_keeps P (hP.mono rfl); have c1 := @vinLock_keeps P (hP.mono rfl)
  exact byKeep

theorem execSlotDiePowerOn_keeps (hP : Closed 0x150000000001fe00000000000000000000000000000000000000000000000000000000000000000000000001e00008c0404000140 P) {a1 a2} (h2 : P a2) : Ans P (execSlotDiePowerOn a1 a2) := by
  unfold execSlotDiePowerOn
  have c0 := @set_keeps _ P hP; have c1 := @vinTake_keeps P (hP.mono rfl); have c2 := @forN_keeps _ P hP
  have c3 := @putSlot_keeps P (hP.mono rfl); have c4 := @voidDec_keeps P (hP.mono rfl)
  exact byKeep

theorem thrWrite_keeps (hP : Closed 0x100f8000000000000000000000000000000000000000000000000000000000000000000000000000000000001e00008c0400000040 P) {a1 a2 a3} (h3 : P a3) : P (thrWrite a1 a2 a3) := by
  unfold thrWrite
  have c0 := @set_keeps _ P hP; have c1 := @flag_keeps P (hP.mono rfl)
  exact byKeep

theorem execThresholdWrite_keeps (hP : Closed 0x100f8000000000000000000000000000000000000000000000000000000000000000000000000000000000001e00008c0400000040 P) {a1 a2 a3} (h3 : P a3) : Ans P (execThresholdWrite a1 a2 a3) := by
  unfold execThresholdWrite
  have c0 := @atReg_keeps P (hP.mono rfl); have c1 := @thrWrite_keeps P (hP.mono rfl); have c2 := @set_keeps _ P hP
  exact byKeep

theorem execSlotGo_keeps (hP : Closed 0x1fe00000a20000010000000000000000000000000000000000000000001000000000000000041e00008c04060001c4 P) {a1 a2} (h2 : P a2) : Ans P (execSlotGo a1 a2) := by
  unfold execSlotGo
  have c0 := @answer_keeps P (hP.mono rfl); have c1 := @slotGo_keeps P (hP.mono rfl)
  exact byKeep

theorem execSlotDeny_keeps (hP : Closed 0x1fe00000a20000010000000000000000000000000000000000000000001000000000000000041e00008c04060001c4 P) {a1 a2} (h2 : P a2) : Ans P (execSlotDeny a1 a2) := by
  unfold execSlotDeny
  have c0 := @answer_keeps P (hP.mono rfl); have c1 := @modSlot_keeps P (hP.mono rfl)
  exact byKeep

theorem slotsRun_keeps (hP : Closed 0x1fe00000000000000000000000000000000000000000000000000000003000000000000000041e00008c04040003c0 P) {a1} (h1 : P a1) : P (slotsRun a1) := by
  unfold slotsRun
  have c0 := @forN_keeps _ P hP; have c1 := @slotDecide_keeps P (hP.mono rfl); have c2 := @retryGo_keeps P (hP.mono rfl)
  exact byKeep

end Sys2Proof.Machine
end

