-- ==== Sys2Proof/Laws/KeepBoot.lean ====
section
/-! SUPPORT. What the operations of egress visits, reactions, images, replay and boot may write: each lemma names, as a mask (see Closed), the parts of the state that its operation can change. -/

namespace Sys2Proof.Machine

set_option linter.all false
set_option Elab.async false

variable {P : State → Prop}

theorem fnRegWrite_keeps (hP : Closed 0xffffffffffffffffffffffffffffffffffffffffffffffffffffffffffffffffffffffffffffffffffffffffffffffffffffffffffffffffffffffffffffffffffffffffffffffffffffffffffffffffffffffffffffffffffffffffffffffffffffffffffffffffffffc32040c0 P) {a1 a2 a3 a4} (h4 : P a4) : P (fnRegWrite a1 a2 a3 a4) := by
  unfold fnRegWrite
  have c0 := @resetFn_keeps P (hP.mono rfl); have c1 := @set_keeps _ P hP; have c2 := @sqCfg_keeps P (hP.mono rfl)
  have c3 := @cqCfg_keeps P (hP.mono rfl); have c4 := @sqDoorbell_keeps P (hP.mono rfl); have c5 := @cqDoorbell_keeps P (hP.mono rfl)
  have c6 := @modFn_keeps P (hP.mono rfl); have c7 := @pendingVectors_keeps P (hP.mono rfl)
  have c8 := @State_wr_keeps P (hP.mono rfl)
  exact byKeep

theorem fnRegRead_keeps (hP : Closed 0x1 P) {a1 a2 a3} (h3 : P a3) : P (fnRegRead a1 a2 a3).2 := by
  unfold fnRegRead
  have c0 := @viewRead_keeps P (hP.mono rfl)
  exact byKeep

theorem fnConfig_keeps (hP : Closed 0x8 P) {a1 a2} (h2 : P a2) : P (fnConfig a1 a2).2 := by
  unfold fnConfig
  have c0 := @spend_keeps _ P hP
  exact byKeep

theorem readWords_keeps (hP : Closed 0x1 P) {a1 a2 a3 a4} (h4 : P a4) : P (readWords a1 a2 a3 a4).2 := by
  unfold readWords
  have c0 := @fnRegRead_keeps P (hP.mono rfl)
  exact byKeep

theorem fnAccess_keeps (hP : Closed 0xffffffffffffffffffffffffffffffffffffffffffffffffffffffffffffffffffffffffffffffffffffffffffffffffffffffffffffffffffffffffffffffffffffffffffffffffffffffffffffffffffffffffffffffffffffffffffffffffffffffffffffffffffffc32040c9 P) {a1 a2} (h2 : P a2) : P (fnAccess a1 a2) := by
  unfold fnAccess
  have c0 := @reply_keeps P (hP.mono rfl); have c1 := @forN_keeps _ P hP; have c2 := @fnRegWrite_keeps P (hP.mono rfl)
  have c3 := @readWords_keeps P (hP.mono rfl); have c4 := @fnConfig_keeps P (hP.mono rfl)
  exact byKeep

theorem unitTake_keeps (hP : Closed 0xffffffffffffffffffffffffffffffffffffffffffffffffffffffffffffffffffffffffffffffffffffffffffffffffffffffffffffffffffffffffffffffffffffffffffffffffffffffffffffffffffffffffffffffffffffffffffffffffffffffffffffffffffffd3f563cd P) {a1 a2 a3} (h3 : P a3) : P (unitTake a1 a2 a3) := by
  unfold unitTake
  have c0 := @flag_keeps P (hP.mono rfl); have c1 := @setInbox_keeps P (hP.mono rfl); have c2 := @sumAccess_keeps P (hP.mono rfl)
  have c3 := @fnAccess_keeps P (hP.mono rfl); have c4 := @rotRsp_keeps P (hP.mono rfl); have c5 := @dmvRsp_keeps P (hP.mono rfl)
  have c6 := @emit_keeps _ P hP; have c7 := @set_keeps _ P hP
  exact byKeep

theorem unitVisit_keeps (hP : Closed 0xffffffffffffffffffffffffffffffffffffffffffffffffffffffffffffffffffffffffffffffffffffffffffffffffffffffffffffffffffffffffffffffffffffffffffffffffffffffffffffffffffffffffffffffffffffffffffffffffffffffffffffffffffffd3f5e3cd P) {a1 a2} (h2 : P a2) : P (unitVisit a1 a2) := by
  unfold unitVisit
  have c0 := @setEg_keeps P (hP.mono rfl); have c1 := @unitTake_keeps P (hP.mono rfl); have c2 := @handed_keeps P (hP.mono rfl)
  have c3 := @leaveQueue_keeps P (hP.mono rfl)
  exact byKeep

theorem blkVisit_send_keeps (hP : Closed 0x100000000000020000000000000000000000000000000000000000000000000000000000000000000000000000000000000000a20000010000000000000000000000000000000000000000000000000000000000001e00008c040a00c040 P) {a1 a2 a3 a4} (h4 : P a4) : P (blkVisit.send a1 a2 a3 a4) := by
  have c0 := @blkHand_keeps P (hP.mono rfl); have c1 := @leaveQueue_keeps P (hP.mono rfl)
  induction a3 generalizing a4 with
  | nil => unfold blkVisit.send; exact h4
  | cons x l ih => unfold blkVisit.send; exact byKeep

theorem blkVisit_go_keeps (hP : Closed 0x100000000000020000000000000000000000000000000000000000000000000000000000000000000000000000000000000000a20000010000000000000000000000000000000000000000000000000000000000001e00008c040a00c040 P) {a1 a2 a3 a4 a5 a6} (h6 : P a6) : P (blkVisit.go a1 a2 a3 a4 a5 a6) := by
  have c0 := @blkHand_keeps P (hP.mono rfl); have c1 := @leaveQueue_keeps P (hP.mono rfl)
  have c2 := @setEg_keeps P (hP.mono rfl)
  induction a5 generalizing a6 with
  | zero => unfold blkVisit.go; exact h6
  | succ n ih => unfold blkVisit.go; exact byKeep

theorem blkVisit_keeps (hP : Closed 0xc0000000000000000000000000000000100000200000020000000000000000000000000000000000000000000000000000000000000000000000000000000000000000a20000010000000000000000000000000000000000000000000000000000000000001e00008c040a20c044 P) {a1 a2} (h2 : P a2) : P (blkVisit a1 a2) := by
  unfold blkVisit
  have c0 := @blkVisit_send_keeps P (hP.mono rfl); have c1 := @setEg_keeps P (hP.mono rfl)
  have c2 := @blkFlush_keeps P (hP.mono rfl); have c3 := @blkVisit_go_keeps P (hP.mono rfl)
  exact byKeep

theorem execEgressVisit_keeps (hP : Closed 0xfffffffffffffffffffffffffffffffffffffffffffffffffffffffffffffffffffffffffffffffffffffffffffffffffffffffffffffffffffffffffffffffffffffffffffffffffffffffffffffffffffffffffffffffffffffffffffffffffffffffffffffffffffffbf7e3cd P) {a1 a2} (h2 : P a2) : Ans P (execEgressVisit a1 a2) := by
  unfold execEgressVisit
  have c0 := @flag_keeps P (hP.mono rfl); have c1 := @visit_keeps P (hP.mono rfl); have c2 := @portHand_keeps P (hP.mono rfl)
  have c3 := @takeCredit_keeps P (hP.mono rfl); have c4 := @gain_keeps P (hP.mono rfl); have c5 := @refill_keeps P (hP.mono rfl)
  have c6 := @convStep_keeps P (hP.mono rfl); have c7 := @blkVisit_keeps P (hP.mono rfl); have c8 := @unitVisit_keeps P (hP.mono rfl)
  have c9 := @pdWake_keeps P (hP.mono rfl); have c10 := @set_keeps _ P hP
  exact byKeep

theorem forcePort_keeps (hP : Closed 0xc000007fffffc0020602fca180c0000000000000000002000000000001800000201fe0001f9c0c500000100ff00e301c20400000000002000000000000000000000000a22000010000003ffc100000404200000000000000000000003000000000000000041e00008c043bf7f3cc P) {a1 a2} (h2 : P a2) : P (forcePort a1 a2) := by
  unfold forcePort
  have c0 := @lose_keeps P (hP.mono rfl)
  exact byKeep

theorem dropNotices_keeps (hP : Closed 0x1800000000000000000000000000000000000000000000000000000000000000000000000000000000000000000000000000000000000000000000000000000000000000000000000000000000008004004 P) {a1 a2} (h2 : P a2) : P (dropNotices a1 a2) := by
  unfold dropNotices
  have c0 := @forN_keeps _ P hP; have c1 := @bufSync_keeps P (hP.mono rfl); have c2 := @setStalled_keeps P (hP.mono rfl)
  have c3 := @setVoq_keeps P (hP.mono rfl); have c4 := @setCross_keeps P (hP.mono rfl); have c5 := @forL_keeps _ P hP
  have c6 := @addFreed_keeps P (hP.mono rfl); have c7 := @setEgq_keeps P (hP.mono rfl); have c8 := @unpark_keeps P (hP.mono rfl)
  have c9 := @setInbox_keeps P (hP.mono rfl)
  exact byKeep

theorem sliceMove_keeps (hP : Closed 0xc0000000000000000000000000000000000000000000000000000000018000000000000000000000000000000000000000000000000000000000000000000000000000a20000010000000000000000000000000000000000000000000000000000000000001e00008c040a2040c4 P) {a1 a2} (h2 : P a2) : P (sliceMove a1 a2) := by
  unfold sliceMove
  have c0 := @forL_keeps _ P hP; have c1 := @closeReq_keeps P (hP.mono rfl); have c2 := @dropNotices_keeps P (hP.mono rfl)
  have c3 := @forN_keeps _ P hP; have c4 := @addAlloc_keeps P (hP.mono rfl); have c5 := @addFreed_keeps P (hP.mono rfl)
  have c6 := @setEgq_keeps P (hP.mono rfl); have c7 := @setInbox_keeps P (hP.mono rfl)
  exact byKeep

theorem sliceFail_keeps (hP : Closed 0xc000000000000000000000000000000000000000000000000000002001800000001fe0000f7c0000000000000000000000000000000000000000000000000000000000a200000100000000000000000000000000000000000007000030000000e0000000041e00008c042a2643c4 P) {a1 a2} (h2 : P a2) : P (sliceFail a1 a2) := by
  unfold sliceFail
  have c0 := @report_keeps P (hP.mono rfl); have c1 := @fenceUnit_keeps P (hP.mono rfl); have c2 := @bringIn_keeps P (hP.mono rfl)
  have c3 := @set_keeps _ P hP; have c4 := @takeover_keeps P (hP.mono rfl); have c5 := @sliceMove_keeps P (hP.mono rfl)
  exact byKeep

theorem engineFail_keeps (hP : Closed 0xc0000000000000000002fc0003c00000000000000000000000000020018000000000000000000000000000000000000000000000000000000000000000000000000000a200000100000000000000000000000000000000000007000000000000e0000000001e00008c0402a041c0 P) {a1 a2} (h2 : P a2) : P (engineFail a1 a2) := by
  unfold engineFail
  have c0 := @report_keeps P (hP.mono rfl); have c1 := @fenceUnit_keeps P (hP.mono rfl); have c2 := @bringIn_keeps P (hP.mono rfl)
  have c3 := @set_keeps _ P hP; have c4 := @engineTakeover_keeps P (hP.mono rfl)
  exact byKeep

theorem coreFail_keeps (hP : Closed 0x400000000000000000000000000000000000000000000000000000000000000000000000000000000000000000000000000000000000000000000000000000000000000000000000000000000000000000000000000000000007000010000000e1d80000041e00008c04006001c0 P) {a1 a2} (h2 : P a2) : P (coreFail a1 a2) := by
  unfold coreFail
  have c0 := @closeDec_keeps P (hP.mono rfl); have c1 := @startNext_keeps P (hP.mono rfl)
  have c2 := @fenceUnit_keeps P (hP.mono rfl); have c3 := @bringIn_keeps P (hP.mono rfl); have c4 := @noteSpare_keeps P (hP.mono rfl)
  have c5 := @setSpare_keeps P (hP.mono rfl)
  exact byKeep

theorem planeDead_keeps (hP : Closed 0x4000000000000000000000000000000000000000000000000000000000205ff000000000000000000000000000000000000000000000000000000000000000000000000000000000000000000000000000000000000000000007000010000000e1d80000041e00008c04006041c0 P) {a1 a2} (h2 : P a2) : P (planeDead a1 a2) := by
  unfold planeDead
  have c0 := @halfRate_keeps P (hP.mono rfl); have c1 := @fenceUnit_keeps P (hP.mono rfl)
  have c2 := @set_keeps _ P hP; have c3 := @planeFail_keeps P (hP.mono rfl); have c4 := @fenceSpare_keeps P (hP.mono rfl)
  exact byKeep

theorem laneGone_keeps (hP : Closed 0xc0000000000000000000000000000f7f984001e0036400000000000001800000200000001000000000000009f000300000000000000000000000000000000000000000a22000010000003ffc100040000000000000000000000000001000000041d80000041e00008c041a7561cc P) {a1 a2} (h2 : P a2) : P (laneGone a1 a2) := by
  unfold laneGone
  have c0 := @spareDead_keeps P (hP.mono rfl); have c1 := @laneDead_keeps P (hP.mono rfl)
  exact byKeep

theorem unitFail_keeps (hP : Closed 0xc0000000000000000002fc0003c00f7f984001e0036400000000002001a05ff0201fe0001f7c000000000009f000300000000000000000000000000000000000000000a22000010000003ffc1000400000000000000000000007000030000000e1d80000041e00008c043af763cc P) {a1 a2 a3} (h3 : P a3) : P (unitFail a1 a2 a3) := by
  unfold unitFail
  have c0 := @planeDead_keeps P (hP.mono rfl); have c1 := @coreFail_keeps P (hP.mono rfl)
  have c2 := @laneGone_keeps P (hP.mono rfl); have c3 := @linkDead_keeps P (hP.mono rfl); have c4 := @sliceFail_keeps P (hP.mono rfl)
  have c5 := @engineFail_keeps P (hP.mono rfl)
  exact byKeep

theorem uncorr_keeps (hP : Closed 0xc000007fffffc0020602fca183c00f7f984001e0036402000000002001a05ff0201fe0001ffc0c500000100ff00e301c20400000000002000000000000000000000000a22000010000003ffc1000404042000000000000000007000030000000e1d80000041e00008c043bf7f3cc P) {a1 a2 a3} (h3 : P a3) : P (uncorr a1 a2 a3) := by
  unfold uncorr
  have c0 := @unitFail_keeps P (hP.mono rfl); have c1 := @forcePort_keeps P (hP.mono rfl)
  have c2 := @forL_keeps _ P hP
  exact byKeep

theorem coreCorrected_keeps (hP : Closed 0xc000000000000000000000000000000000000000000000000000000000000000000000000000000000000000000000000000000000000000000000000000000000000000000000000000000000000000000000000000000000070000300000e0f9d800013e1e00008c04006003c4 P) {a1 a2 a3} (h3 : P a3) : P (coreCorrected a1 a2 a3) := by
  unfold coreCorrected
  have c0 := @collect_keeps P (hP.mono rfl); have c1 := @reachPoint_keeps P (hP.mono rfl)
  have c2 := @coreFail_keeps P (hP.mono rfl)
  exact byKeep

theorem safeState_keeps (hP : Closed 0xc000007fffffc0020602fca180c0000000000000000402000000180001800000201fe0001f9c0c5003f8100ff00e301c204007bff01f0200000000040000003fe00000a22000010000003ffc1000004bc20000000000000000000000300000e0180002ab3f1e00008c043ff7f3cc P) {a1} (h1 : P a1) : P (safeState a1) := by
  unfold safeState
  have c0 := @assertFaultN_keeps P (hP.mono rfl); have c1 := @set_keeps _ P hP; have c2 := @forN_keeps _ P hP
  have c3 := @setPstate_keeps P (hP.mono rfl); have c4 := @setLtssm_keeps P (hP.mono rfl)
  have c5 := @portLinkReset_keeps P (hP.mono rfl); have c6 := @scanLost_keeps P (hP.mono rfl)
  have c7 := @setL_keeps P (hP.mono rfl); have c8 := @slotOffCmd_keeps P (hP.mono rfl)
  exact byKeep

theorem selfReset_keeps (hP : Closed 0x1f00003d5400e00000000000000000 P) {a1 a2} (h2 : P a2) : P (selfReset a1 a2) := by
  unfold selfReset
  have c0 := @forL_keeps _ P hP; have c1 := @clear_keeps _ P hP; have c2 := @set_keeps _ P hP
  exact byKeep

theorem react_keeps (hP : Closed 0xc000007fffffc0038602fca183c00f7f984001e0036402000000182001a05ff0381fe0183ffc0ff003f8100ff00e301c204007bff01f0200000000040000003fe00000a22000010000003ffe900040ebc60030000c00484604070000300000fff9f83fff3ffe00008c043ffff3cc P) {a1 a2} (h2 : P a2) : P (react a1 a2) := by
  unfold react
  have c0 := @selfReset_keeps P (hP.mono rfl); have c1 := @countRow_keeps P (hP.mono rfl)
  have c2 := @substRow_keeps P (hP.mono rfl); have c3 := @fenceSpare_keeps P (hP.mono rfl)
  have c4 := @spareDead_keeps P (hP.mono rfl); have c5 := @unitFail_keeps P (hP.mono rfl)
  have c6 := @linkDead_keeps P (hP.mono rfl); have c7 := @pwrfail_keeps P (hP.mono rfl); have c8 := @uncorr_keeps P (hP.mono rfl)
  have c9 := @coreCorrected_keeps P (hP.mono rfl); have c10 := @safeState_keeps P (hP.mono rfl)
  exact byKeep

theorem detected_keeps (hP : Closed 0x6000001000000000000000000000000000000000000000000000000000000000000a20000010000000000000000000000000000000000000000000000000000000000001e00008c0402020040 P) {a1 a2} (h2 : P a2) : P (detected a1 a2) := by
  unfold detected
  have c0 := @tallyHit_keeps P (hP.mono rfl)
  exact byKeep

theorem deliver_keeps (hP : Closed 0xc000007fffffc0038602fca183c00f7f984001e0036402000000182001a05ff0381fe0183ffc0ff003f8100ff00e301c204007bff01f0200000000040000003fe00000a22000010000003ffe900040ebc60030000c00484604070000300000fff9f83fff3ffe00008c043ffff3cc P) {a1 a2} (h2 : P a2) : P (deliver a1 a2) := by
  unfold deliver
  have c0 := @nextOwed_keeps P (hP.mono rfl); have c1 := @react_keeps P (hP.mono rfl); have c2 := @collect_keeps P (hP.mono rfl)
  have c3 := @detected_keeps P (hP.mono rfl)
  exact byKeep

theorem execErrorRecord_keeps (hP : Closed 0xc000007fffffc0038602fca183c00f7f984001e0036402000000182001a05ff0381fe0183ffc0ff003f8100ff00e301c204007bff01f0200000000040000003fe00000a22000010000003ffe900040ebc60030000c00484604070000300000fff9f83fff3ffe00008c043ffff3cc P) {a1 a2} (h2 : P a2) : Ans P (execErrorRecord a1 a2) := by
  unfold execErrorRecord
  have c0 := @deliver_keeps P (hP.mono rfl)
  exact byKeep

theorem lineRecord_keeps (hP : Closed 0x8 P) {a1 a2 a3} (h3 : P a3) : P (lineRecord a1 a2 a3).2 := by
  unfold lineRecord
  have c0 := @spend_keeps _ P hP
  exact byKeep

theorem execHeartbeatLoss_keeps (hP : Closed 0xc000000000000000000000000000000000000000000000000000000000000000000000000000000000000000000000000000000000000000000000000000000000000000000000000000000000000000000000000000000000070000100000e0f9d800013e1e00008c04006001c6 P) {a1 a2} (h2 : P a2) : Ans P (execHeartbeatLoss a1 a2) := by
  unfold execHeartbeatLoss
  have c0 := @reach_keeps _ P hP; have c1 := @coreFail_keeps P (hP.mono rfl); have c2 := @collect_keeps P (hP.mono rfl)
  exact byKeep

theorem execBringInComplete_keeps (hP : Closed 0xc0000000000000000000000000000000000000000000000000000000000000000000000000000000000000000000000000000000000000000000000000000000000000000000000000000000000000000000000000000000000700000000000019d800013a1e00008c04006000c4 P) {a1 a2 a3} (h3 : P a3) : Ans P (execBringInComplete a1 a2 a3) := by
  unfold execBringInComplete
  have c0 := @pdWake_keeps P (hP.mono rfl); have c1 := @bringInDone_keeps P (hP.mono rfl)
  exact byKeep

theorem fenceWrite_keeps (hP : Closed 0x180001e0000400000000000000000000000000000000000000000000000000000000000000000000000000000000000000000000000000000000000000000000000000000000000000000000000000000006c000001e00008c04080000c0 P) {a1 a2} (h2 : P a2) : P (fenceWrite a1 a2) := by
  unfold fenceWrite
  have c0 := @set_keeps _ P hP; have c1 := @trainStart_keeps P (hP.mono rfl)
  exact byKeep

theorem execFenceRelease_keeps (hP : Closed 0x180001e0000400000000000000000000000000000000000000000000000000000000000000000000000000000000000000000000000000000000000000000000000000000000000000000000000000000006c000001e00008c04080000c0 P) {a1 a2} (h2 : P a2) : Ans P (execFenceRelease a1 a2) := by
  unfold execFenceRelease
  have c0 := @atReg_keeps P (hP.mono rfl); have c1 := @fenceWrite_keeps P (hP.mono rfl); have c2 := @set_keeps _ P hP
  exact byKeep

theorem released_keeps (hP : Closed 0x40000000000000000002fc0003000000014000000020000000000020002057f000000000006000000000000000000000000000000000000000000000000000000000000000000000000000000000000000000000000000000007000000000000e1d80000001e00008c0400e040c0 P) {a1 a2 a3} (h3 : P a3) : P (released a1 a2 a3) := by
  unfold released
  have c0 := @nextEpoch_keeps P (hP.mono rfl); have c1 := @set_keeps _ P hP; have c2 := @setPlane_keeps P (hP.mono rfl)
  have c3 := @setSpare_keeps P (hP.mono rfl); have c4 := @startSubst_keeps P (hP.mono rfl)
  have c5 := @noteSpare_keeps P (hP.mono rfl); have c6 := @spareSync_keeps P (hP.mono rfl)
  have c7 := @forL_keeps _ P hP; have c8 := @moveWin_keeps P (hP.mono rfl)
  exact byKeep

theorem releaseEnd_keeps (hP : Closed 0x40000000000000000002fc0003000000014000000024000000000020002057f000000000006000000000000000000000000000000000000000000000000000000000000000000000000000000000000000000000000000000007000000000000e1de0000001e00008c0400e040c0 P) {a1 a2} (h2 : P a2) : P (releaseEnd a1 a2) := by
  unfold releaseEnd
  have c0 := @set_keeps _ P hP; have c1 := @released_keeps P (hP.mono rfl); have c2 := @setL_keeps P (hP.mono rfl)
  exact byKeep

theorem execReleaseTestDone_keeps (hP : Closed 0x40000000000000000002fc0003000000014000000024000000000020002057f000000000006000000000000000000000000000000000000000000000000000000000000000000000000000000000000000000000000000000007000000000000e1de0000001e00008c0400e040c0 P) {a1 a2} (h2 : P a2) : Ans P (execReleaseTestDone a1 a2) := by
  unfold execReleaseTestDone
  have c0 := @releaseEnd_keeps P (hP.mono rfl)
  exact byKeep

theorem execReleaseTimeout_keeps (hP : Closed 0x40000000000000000002fc0003000000014000000024000000000020002057f000000000006000000000000000000000000000000000000000000000000000000000000000000000000000000000000000000000000000000007000000000000e1de0000001e00008c0400e040c0 P) {a1} (h1 : P a1) : Ans P (execReleaseTimeout a1) := by
  unfold execReleaseTimeout
  have c0 := @releaseEnd_keeps P (hP.mono rfl)
  exact byKeep

theorem spareGo_keeps (hP : Closed 0x4000000000000000000000000000000000000000000000000000000000205bf000000018000000000000000000000000000000000000000000000000000000000000000000000000000000000000000000000000000000000007000010000000e1f80000041e00008c04086241c4 P) {a1 a2} (h2 : P a2) : P (spareGo a1 a2) := by
  unfold spareGo
  have c0 := @forL_keeps _ P hP; have c1 := @substRow_keeps P (hP.mono rfl); have c2 := @planeFail_keeps P (hP.mono rfl)
  have c3 := @coreFail_keeps P (hP.mono rfl); have c4 := @laneSubStart_keeps P (hP.mono rfl)
  exact byKeep

theorem spareHold_keeps (hP : Closed 0x100000000000000000000000000000000000000000000000000000000000000000000000000000000000000000000000000000000000000000000000000000000000000000000000000000000008020080 P) {a1 a2} (h2 : P a2) : P (spareHold a1 a2) := by
  unfold spareHold
  have c0 := @modHome_keeps P (hP.mono rfl); have c1 := @set_keeps _ P hP; have c2 := @modBlk_keeps P (hP.mono rfl)
  exact byKeep

theorem execSpareGo_keeps (hP : Closed 0x4000000000000000000000000000000000000000000000000000000000205bf00000001800000000000000000000000000000000000000000000000000000000000000a200000100000000000000000000000000000000000007000010000000e1f80000041e00008c040a6241c4 P) {a1 a2} (h2 : P a2) : Ans P (execSpareGo a1 a2) := by
  unfold execSpareGo
  have c0 := @answer_keeps P (hP.mono rfl); have c1 := @spareGo_keeps P (hP.mono rfl)
  exact byKeep

theorem execSpareHold_keeps (hP : Closed 0x1000000000000000000000000000000000000000000000000000000000000000000000000000a20000010000000000000000000000000000000000000000001000000000000000041e00008c040a0201c4 P) {a1 a2} (h2 : P a2) : Ans P (execSpareHold a1 a2) := by
  unfold execSpareHold
  have c0 := @answer_keeps P (hP.mono rfl); have c1 := @spareHold_keeps P (hP.mono rfl)
  exact byKeep

theorem defaultSync_keeps (hP : Closed 0xc000000000000000000000000000000000000000000000000000000000000000000 P) {a1} (h1 : P a1) : P (defaultSync a1) := by
  unfold defaultSync
  have c0 := @set_keeps _ P hP
  exact byKeep

theorem imageWrite_keeps (hP : Closed 0xffffffffffffffffffffffffffffffffffffffffffffffffffffffffffffffffffffffffffffffffffffffffffffffffffffffffffffffffffffffffffffffffffffffffffffffffffffffffffffffffffffffffffffffffffffffffffffffffffffffffffffffffffffc0000000 P) {a1 a2 a3} (h3 : P a3) : P (imageWrite a1 a2 a3) := by
  unfold imageWrite
  refine forL_keeps hP (fun e he t ht => ?_) (State_wr_keeps (hP.mono rfl) h3)
  split
  · exact ht
  · exact set_keeps hP (okSet_tab (by decide +kernel) _ e (List.mem_of_mem_filter he)) ht

theorem imageClear_keeps (hP : Closed 0xffffffffffffffffffffffffffffffffffffffffffffffffffffffffffffffffffffffffffffffffffffffffffffffffffffffffffffffffffffffffffffffffffffffffffffffffffffffffffffffffffffffffffffffffffffffffffffffffffffffffffffffffffffc0000000 P) {a1} (h1 : P a1) : P (imageClear a1) := by
  unfold imageClear
  exact regs_keeps hP (by decide +kernel) (fun a b => ⟨rising_filter a, noZero_filter b⟩) h1

theorem imageLoad_keeps (hP : Closed 0xffffffffffffffffffffffffffffffffffffffffffffffffffffffffffffffffffffffffffffffffffffffffffffffffffffffffffffffffffffffffffffffffffffffffffffffffffffffffffffffffffffffffffffffffffffffffffffffffffffffffffffffffffffc0001000 P) {a1 a2} (h2 : P a2) : P (imageLoad a1 a2) := by
  unfold imageLoad
  have c0 := @defaultSync_keeps P (hP.mono rfl); have c1 := @forL_keeps _ P hP; have c2 := @imageWrite_keeps P (hP.mono rfl)
  have c3 := @forN_keeps _ P hP; have c4 := @setCol_keeps P (hP.mono rfl)
  exact byKeep

theorem pickImage_keeps (hP : Closed 0x10000000000000000000000000001e00008c0400000040 P) {a1 a2 a3 a4} (h4 : P a4) : P (pickImage a1 a2 a3 a4).2 := by
  unfold pickImage
  have c0 := @flag_keeps P (hP.mono rfl); have c1 := @set_keeps _ P hP
  exact byKeep

theorem installKey_keeps (hP : Closed 0xa0000030000000000000000000000000000000000000000000000000110000 P) {a1 a2 a3 a4} (h4 : P a4) : P (installKey a1 a2 a3 a4) := by
  unfold installKey
  have c0 := @keySync_keeps P (hP.mono rfl); have c1 := @set_keeps _ P hP
  exact byKeep

theorem unsealFail_keeps (hP : Closed 0xa00001300000000000000000000000000000000000001e00008c0400110040 P) {a1 a2} (h2 : P a2) : P (unsealFail a1 a2) := by
  unfold unsealFail
  have c0 := @flag_keeps P (hP.mono rfl); have c1 := @set_keeps _ P hP; have c2 := @dropLdKey_keeps P (hP.mono rfl)
  exact byKeep

theorem applyKey_keeps (hP : Closed 0xa00001300000000000000000000000000000000000001e00008c0400110040 P) {a1 a2} (h2 : P a2) : P (applyKey a1 a2) := by
  unfold applyKey
  have c0 := @unsealFail_keeps P (hP.mono rfl); have c1 := @installKey_keeps P (hP.mono rfl)
  have c2 := @keySync_keeps P (hP.mono rfl)
  exact byKeep

theorem applyCells_keeps (hP : Closed 0x18000000000000000000000000000000000000000000000000000000000000000000000000000000000000000000000000000000000000000000000000e000000000000000000000020080 P) {a1 a2} (h2 : P a2) : P (applyCells a1 a2) := by
  unfold applyCells
  have c0 := @forN_keeps _ P hP; have c1 := @set_keeps _ P hP; have c2 := @setB_keeps _ P hP
  have c3 := @setHome_keeps P (hP.mono rfl)
  exact byKeep

theorem applyRegion_keeps (hP : Closed 0x2000000000000000000000000000000000000000000000000000000000000000000000000000000000000000000000000000000000000000000000000000000000000000000000000000000000000 P) {a1 a2 a3 a4} (h4 : P a4) : P (applyRegion a1 a2 a3 a4) := by
  unfold applyRegion
  have c0 := @set_keeps _ P hP
  exact byKeep

theorem applyEntries_keeps (hP : Closed 0x7fff0000000000000000000000000000000000000000000000000000000000000000000000000000000000000000000000000000000000000000000000000000000000000 P) {a1 a2} (h2 : P a2) : P (applyEntries a1 a2) := by
  unfold applyEntries
  have c0 := @forL_keeps _ P hP; have c1 := @set_keeps _ P hP; have c2 := @stgWrite_keeps P (hP.mono rfl)
  exact byKeep

theorem slotIdle_keeps (hP : Closed 0x1000000000000000000000000000000000000000000000000000000000000000000000000000000000000000000000000000000000000000000000000000000000010000 P) {a1 a2} (h2 : P a2) : P (slotIdle a1 a2) := by
  unfold slotIdle
  have c0 := @setMig_keeps P (hP.mono rfl); have c1 := @set_keeps _ P hP
  exact byKeep

theorem applyRec_keeps (hP : Closed 0xffffffffffffffffffffffffffffffffffffffffffffffffffffffffffffffffffffffffffffffffffffffffffffffffffffffffffffffffffffffffffffffffffffffffffffffffffffffffffffffffffffffffffffffffffffffffffffffffffffffffffffffffffffc01300c0 P) {a1 a2} (h2 : P a2) : P (applyRec a1 a2) := by
  unfold applyRec
  have c0 := @forL_keeps _ P hP; have c1 := @applyKey_keeps P (hP.mono rfl); have c2 := @applyEntries_keeps P (hP.mono rfl)
  have c3 := @applyRegion_keeps P (hP.mono rfl); have c4 := @dropLdKey_keeps P (hP.mono rfl)
  have c5 := @setMig_keeps P (hP.mono rfl); have c6 := @set_keeps _ P hP; have c7 := @modMig_keeps P (hP.mono rfl)
  have c8 := @setB_keeps _ P hP; have c9 := @installKey_keeps P (hP.mono rfl); have c10 := @forN_keeps _ P hP
  have c11 := @setRot_keeps P (hP.mono rfl); have c12 := @slotIdle_keeps P (hP.mono rfl); have c13 := @putWord_keeps _ P hP
  have c14 := @defaultSync_keeps P (hP.mono rfl); have c15 := @stgDown_keeps _ P hP; have c16 := @applyCells_keeps P (hP.mono rfl)
  have c17 := @imageWrite_keeps P (hP.mono rfl)
  exact byKeep

theorem failUnsealed_keeps (hP : Closed 0x1000000000000000000000000000000000000000000000000000000000000000000000000000000000000000000000000000000000000000000000000000000000010080 P) {a1 a2} (h2 : P a2) : P (failUnsealed a1 a2) := by
  unfold failUnsealed
  have c0 := @reportEach_keeps P (hP.mono rfl); have c1 := @set_keeps _ P hP
  exact byKeep

theorem freshKeys_keeps (hP : Closed 0xa0000030000000000000000000000000000000000000000000000000500000 P) {a1} (h1 : P a1) : P (freshKeys a1) := by
  unfold freshKeys
  have c0 := @forL_keeps _ P hP; have c1 := @newKey_keeps P (hP.mono rfl); have c2 := @takeLdKey_keeps P (hP.mono rfl)
  have c3 := @note_keeps P (hP.mono rfl)
  exact byKeep

theorem migResume_keeps (hP : Closed 0x3300000100000000000000000000000000000000000000000000000000000000000000000000000000000000000000000000000000000000000000000000000000000000041000c P) {a1 a2} (h2 : P a2) : P (migResume a1 a2) := by
  unfold migResume
  have c0 := @modMig_keeps P (hP.mono rfl); have c1 := @slotIdle_keeps P (hP.mono rfl); have c2 := @note_keeps P (hP.mono rfl)
  have c3 := @spend_keeps _ P hP; have c4 := @set_keeps _ P hP; have c5 := @bmInit_keeps P (hP.mono rfl)
  have c6 := @mdirtySync_keeps P (hP.mono rfl)
  exact byKeep

theorem rotResume_keeps (hP : Closed 0x40420000000000000000000000000000000000000000000000000000100088 P) {a1 a2} (h2 : P a2) : P (rotResume a1 a2) := by
  unfold rotResume
  have c0 := @set_keeps _ P hP; have c1 := @setRot_keeps P (hP.mono rfl); have c2 := @spend_keeps _ P hP
  have c3 := @reportEach_keeps P (hP.mono rfl)
  exact byKeep

theorem replayEnd_keeps (hP : Closed 0x3300000100000000000000000000000000000000000000000000000000000000002aaaa8000000000e042003000000000000000000000000000000000000000000000000051008c P) {a1} (h1 : P a1) : P (replayEnd a1) := by
  unfold replayEnd
  have c0 := @forL_keeps _ P hP; have c1 := @dropLdKey_keeps P (hP.mono rfl); have c2 := @failUnsealed_keeps P (hP.mono rfl)
  have c3 := @freshKeys_keeps P (hP.mono rfl); have c4 := @restateAll_keeps P (hP.mono rfl)
  have c5 := @rotResume_keeps P (hP.mono rfl); have c6 := @migResume_keeps P (hP.mono rfl)
  exact byKeep

theorem restorePlanes_keeps (hP : Closed 0x204ff0000000000000000000000000000000000000000000000000000000000000000000000000000000000000000000000000000000000000000000000000000000006000000000000000000000000000 P) {a1} (h1 : P a1) : P (restorePlanes a1) := by
  unfold restorePlanes
  have c0 := @forN_keeps _ P hP; have c1 := @set_keeps _ P hP; have c2 := @setPlane_keeps P (hP.mono rfl)
  have c3 := @setMap_keeps P (hP.mono rfl); have c4 := @setB_keeps _ P hP
  exact byKeep

theorem restoreLanes_keeps (hP : Closed 0x1c0000000200000000000000000000000000000000000000000000000000000000000000000000000000000000000000000000000000000000000000000000000000000000000000000000000000000a000000000000000000000000000 P) {a1 a2} (h2 : P a2) : P (restoreLanes a1 a2) := by
  unfold restoreLanes
  have c0 := @spareSync_keeps P (hP.mono rfl); have c1 := @forN_keeps _ P hP; have c2 := @set_keeps _ P hP
  exact byKeep

theorem restoreUnits_keeps (hP : Closed 0x300000001c00000002000000000002000204ff000000000006000000000000000000000000000000000000000000000000000000000000000000000000000000000000000000000000000000000000000000000e1f8000000000000000000000080 P) {a1} (h1 : P a1) : P (restoreUnits a1) := by
  unfold restoreUnits
  have c0 := @forN_keeps _ P hP; have c1 := @restoreLanes_keeps P (hP.mono rfl); have c2 := @restorePlanes_keeps P (hP.mono rfl)
  have c3 := @set_keeps _ P hP; have c4 := @setB_keeps _ P hP; have c5 := @setSpare_keeps P (hP.mono rfl)
  exact byKeep

theorem settlePage_keeps (hP : Closed 0x40000000000000000000000000000000000000000400000 P) {a1} (h1 : P a1) : P (settlePage a1) := by
  unfold settlePage
  have c0 := @putRec_keeps P (hP.mono rfl)
  exact byKeep

theorem fuseLoad_keeps (hP : Closed 0x8000000000000000000000000080000000000000000000000000000000000000000000000000000000000000000000000000000000000000000000000000000000000000000000000000000010000000060000000008000000000000000000000000000000000000000000 P) {a1} (h1 : P a1) : P (fuseLoad a1) := by
  unfold fuseLoad
  have c0 := @fuseSync_keeps P (hP.mono rfl); have c1 := @set_keeps _ P hP; have c2 := @setB_keeps _ P hP
  exact byKeep

theorem coldBase_keeps (hP : Closed 0xffffffffffffffffffffffffffffffffffffffffffffffffffffffffffffffffffffffffffffffffffffffffffffffffffffffffffffffffffffffffffffffffffffffffffffffffffffffffffffffffffffffffffffffffffffffffffffffffffffffffffffffffffffffffffff P) {a1 a2 a3} (h3 : P a3) : P (coldBase a1 a2 a3) := by
  unfold coldBase
  have c2 := @forL_keeps _ P hP; have c3 := @slotShow_keeps P (hP.mono rfl); have c4 := @fuseLoad_keeps P (hP.mono rfl)
  have h := settlePage_keeps (hP.mono rfl) h3
  revert h
  generalize settlePage a3 = s
  intro h
  lift_lets +implicits -underBinder
  intro s0 r was e1 e2 e3 e4 t m t1 t2 v w
  have ht : P t := hP.other bySides (regs_keeps hP (by decide +kernel) (r := State.reset.regs) (fun _ _ => ⟨rfl, rfl⟩) h)
  have ht1 : P t1 := hP.other bySides ht
  have ht2 : P t2 := set_keeps hP (by decide +kernel) (set_keeps hP (by decide +kernel) ht1)
  have hv : P v := c2 (fun _ _ _ h => set_keeps hP (by decide +kernel) (c3 h)) ht2
  have hw : P w := setB_keeps hP rfl (set_keeps hP (by decide +kernel) hv)
  exact c4 (iteP (emit_keeps hP rfl hw) hw)

theorem bootFail_keeps (hP : Closed 0xc000000000000000000000000000000000000000000000000000000000000000000000000000000000000000000000000000000000000000000000000000000000000000000000000000000000000000000000000000000000180000000000e0180000013a1e00008c04002000c4 P) {a1 a2 a3} (h3 : P a3) : P (bootFail a1 a2 a3) := by
  unfold bootFail
  have c0 := @set_keeps _ P hP; have c1 := @collect_keeps P (hP.mono rfl); have c2 := @assertFaultN_keeps P (hP.mono rfl)
  have c3 := @setState_keeps P (hP.mono rfl)
  exact byKeep

theorem planesDue_keeps (hP : Closed 0x4000000000000000000000000000000000000000000000000000000000205bf000000000000000000000000000000000000000000000000000000000000000000000000000000000000000000000000000000000000000000007000030000000e1d80000041e00008c04006043c0 P) {a1} (h1 : P a1) : P (planesDue a1) := by
  unfold planesDue
  have c0 := @forN_keeps _ P hP; have c1 := @planePredict_keeps P (hP.mono rfl)
  exact byKeep

theorem runEnter_keeps (hP : Closed 0xc0000000000000000000000000000f7f980001e0004400000000000001a05bf0200000001000000000000009f00030000040000000010000040000000000001fe00000a22000010000003ffc100040000000000000000000000f000030000000e1d80000041e00008c041e7573cc P) {a1} (h1 : P a1) : P (runEnter a1) := by
  unfold runEnter
  have c0 := @setState_keeps P (hP.mono rfl); have c1 := @planesDue_keeps P (hP.mono rfl)
  have c2 := @forN_keeps _ P hP; have c3 := @detect_keeps P (hP.mono rfl); have c4 := @settle_keeps P (hP.mono rfl)
  have c5 := @setL_keeps P (hP.mono rfl); have c6 := @trainStart_keeps P (hP.mono rfl); have c7 := @slotsRun_keeps P (hP.mono rfl)
  have c8 := @cascadeSync_keeps P (hP.mono rfl); have c9 := @set_keeps _ P hP
  exact byKeep

theorem colsTake_keeps (hP : Closed 0x400000000100003c00000000000000000000000000000000000000000000000000000000000000000000000000000000000000001e00008c0400001040 P) {a1} (h1 : P a1) : P (colsTake a1) := by
  unfold colsTake
  have c0 := @forN_keeps _ P hP; have c1 := @colTake_keeps P (hP.mono rfl); have c2 := @set_keeps _ P hP
  exact byKeep

theorem presenceInit_keeps (hP : Closed 0x10000 P) {a1} (h1 : P a1) : P (presenceInit a1) := by
  unfold presenceInit
  exact byKeep

theorem bootEnd_keeps (hP : Closed 0xc0000000000000000000000000000f7f980001e0004400000000000001a05bf0200000001000000000000009f00030000040000000010000040000000000001fe00000a22000010000003ffc100040000000000000000000000f000030000000e1d80000041e00008c041e7573cc P) {a1} (h1 : P a1) : P (bootEnd a1) := by
  unfold bootEnd
  have c0 := @setState_keeps P (hP.mono rfl); have c1 := @runEnter_keeps P (hP.mono rfl); have c2 := @set_keeps _ P hP
  exact byKeep

theorem bootApply_keeps (hP : Closed 0xc0000000000000000000000003000f7f99c001e0006400000000002001a05ff0200000001060000000000009f000300000400000000100003c0000000000801fe00000a22000010000003ffc100040000000000000000000000f000030000000e1f80000041e00008c041e7573cc P) {a1} (h1 : P a1) : P (bootApply a1) := by
  unfold bootApply
  have c0 := @presenceInit_keeps P (hP.mono rfl); have c1 := @restoreUnits_keeps P (hP.mono rfl)
  have c2 := @forN_keeps _ P hP; have c3 := @slotApply_keeps P (hP.mono rfl); have c4 := @colsTake_keeps P (hP.mono rfl)
  have c5 := @bootEnd_keeps P (hP.mono rfl)
  exact byKeep

theorem openHalf_keeps (hP : Closed 0x180000800000000000000000000000000000000000400000 P) {a1 a2 a3} (h3 : P a3) : P (openHalf a1 a2 a3) := by
  unfold openHalf
  have c0 := @set_keeps _ P hP; have c1 := @setB_keeps _ P hP
  exact byKeep

theorem newJournal_keeps (hP : Closed 0x5c0000800000000000000000000000000000000000400000 P) {a1} (h1 : P a1) : P (newJournal a1) := by
  unfold newJournal
  have c0 := @fillSync_keeps P (hP.mono rfl); have c1 := @set_keeps _ P hP; have c2 := @openHalf_keeps P (hP.mono rfl)
  exact byKeep

theorem noteGap_keeps (hP : Closed 0xc000000000000000000000000000000000000000000000000000000000000000000000000000000000000000000000000000000000000000000000000000000000000000000000000000000000000000000000000000000801000000000000e0180000013a1e00008c04002000c4 P) {a1 a2} (h2 : P a2) : P (noteGap a1 a2) := by
  unfold noteGap
  have c0 := @collect_keeps P (hP.mono rfl); have c1 := @flag_keeps P (hP.mono rfl); have c2 := @set_keeps _ P hP
  exact byKeep

theorem bootReplay_keeps (hP : Closed 0xffffffffffffffffffffffffffffffffffffffffffffffffffffffffffffffffffffffffffffffffffffffffffffffffffffffffffffffffffffffffffffffffffffffffffffffffffffffffffffffffffffffffffffffffffffffffffffffffffffffffffffffffffffde7773cc P) {a1} (h1 : P a1) : P (bootReplay a1) := by
  unfold bootReplay
  have c0 := @forL_keeps _ P hP; have c1 := @noteGap_keeps P (hP.mono rfl); have c2 := @applyRec_keeps P (hP.mono rfl)
  have c3 := @set_keeps _ P hP; have c4 := @replayEnd_keeps P (hP.mono rfl); have c5 := @fillSync_keeps P (hP.mono rfl)
  have c6 := @note_keeps P (hP.mono rfl); have c7 := @bootApply_keeps P (hP.mono rfl)
  exact byKeep

theorem bootJournal_keeps (hP : Closed 0xffffffffffffffffffffffffffffffffffffffffffffffffffffffffffffffffffffffffffffffffffffffffffffffffffffffffffffffffffffffffffffffffffffffffffffffffffffffffffffffffffffffffffffffffffffffffffffffffffffffffffffffffffffde7773cc P) {a1} (h1 : P a1) : P (bootJournal a1) := by
  unfold bootJournal
  have c0 := @bootFail_keeps P (hP.mono rfl); have c1 := @bootReplay_keeps P (hP.mono rfl)
  have c2 := @newJournal_keeps P (hP.mono rfl); have c3 := @openHalf_keeps P (hP.mono rfl)
  exact byKeep

theorem bootImages_keeps (hP : Closed 0xffffffffffffffffffffffffffffffffffffffffffffffffffffffffffffffffffffffffffffffffffffffffffffffffffffffffffffffffffffffffffffffffffffffffffffffffffffffffffffffffffffffffffffffffffffffffffffffffffffffffffffffffffffde7773cc P) {a1 a2} (h2 : P a2) : P (bootImages a1 a2) := by
  unfold bootImages
  have c0 := @pickImage_keeps P (hP.mono rfl); have c1 := @bootFail_keeps P (hP.mono rfl)
  have c2 := @setB_keeps _ P hP; have c3 := @setState_keeps P (hP.mono rfl); have c4 := @imageLoad_keeps P (hP.mono rfl)
  have c5 := @bootJournal_keeps P (hP.mono rfl); have c6 := @flag_keeps P (hP.mono rfl); have c7 := @set_keeps _ P hP
  exact byKeep

theorem bootFuses_keeps (hP : Closed 0xffffffffffffffffffffffffffffffffffffffffffffffffffffffffffffffffffffffffffffffffffffffffffffffffffffffffffffffffffffffffffffffffffffffffffffffffffffffffffffffffffffffffffffffffffffffffffffffffffffffffffffffffffffdff773dc P) {a1} (h1 : P a1) : P (bootFuses a1) := by
  unfold bootFuses
  have c0 := @flag_keeps P (hP.mono rfl); have c1 := @wipeFor_keeps P (hP.mono rfl); have c2 := @bootFail_keeps P (hP.mono rfl)
  have c3 := @bootImages_keeps P (hP.mono rfl); have c4 := @set_keeps _ P hP
  exact byKeep

theorem execColdReset_keeps (hP : Closed 0xffffffffffffffffffffffffffffffffffffffffffffffffffffffffffffffffffffffffffffffffffffffffffffffffffffffffffffffffffffffffffffffffffffffffffffffffffffffffffffffffffffffffffffffffffffffffffffffffffffffffffffffffffffffffffff P) {a1 a2 a3} (h3 : P a3) : Ans P (execColdReset a1 a2 a3) := by
  unfold execColdReset
  have c0 := @coldBase_keeps P (hP.mono rfl); have c1 := @bootFuses_keeps P (hP.mono rfl)
  exact byKeep

theorem warmRegs_keeps (hP : Closed 0xffffffffffffffffffffffffffffffffffffffffffffffffffffffffffffffffffffffffffffffffffffffffffffffffffffffffffffffffffffffffffffffffffffffffffffffffffffffffffffffffffffffffffffffffffffffffffffffffffffffffffffffffffffc0000001 P) {a1} (h1 : P a1) : P (warmRegs a1) := by
  unfold warmRegs
  exact hP.other bySides (regs_keeps hP (by decide +kernel) (fun a b => ⟨rising_filter a, noZero_filter b⟩) h1)

theorem keepRegs_keeps (hP : Closed 0x0 P) {a1 a2 a3 a4} (h1 : ∀ e ∈ a1, ∀ s v i j, P s → P (State.set s e v i j)) (h3 : P a3) (h4 : P a4) : P (keepRegs a1 a2 a3 a4) := by
  unfold keepRegs
  have c0 := @forL_keeps _ P hP
  exact byKeep

theorem boardFlush_keeps (hP : Closed 0x20000000000000000000000000000000000000000000000000000000000000000000000000000000000000000000000000000000000000000000000000000000000000000010004 P) {a1} (h1 : P a1) : P (boardFlush a1) := by
  unfold boardFlush
  have c0 := @forN_keeps _ P hP; have c1 := @forL_keeps _ P hP; have c2 := @markDirty_keeps P (hP.mono rfl)
  have c3 := @emit_keeps _ P hP; have c4 := @loseWrite_keeps P (hP.mono rfl)
  exact byKeep

theorem warmJournal_keeps (hP : Closed 0x40004000000000000000000000000000000000000480000 P) {a1} (h1 : P a1) : P (warmJournal a1) := by
  unfold warmJournal
  have c0 := @settlePage_keeps P (hP.mono rfl); have c1 := @set_keeps _ P hP
  exact byKeep

theorem warmMoves_keeps (hP : Closed 0x370000010000000000000000000000000000000000000000000000000000000000000000000000000400600000000000000000000000000000000000000001e00008c0400110040 P) {a1} (h1 : P a1) : P (warmMoves a1) := by
  unfold warmMoves
  have c0 := @migDrained_keeps P (hP.mono rfl); have c1 := @forN_keeps _ P hP; have c2 := @slotIdle_keeps P (hP.mono rfl)
  have c3 := @set_keeps _ P hP; have c4 := @setRot_keeps P (hP.mono rfl)
  exact byKeep

theorem warmUnits_keeps (hP : Closed 0x3fffffff P) {a1} (h1 : P a1) : P (warmUnits a1) := by
  unfold warmUnits
  lift_lets +implicits -underBinder
  intros
  exact hP.other bySides (hP.out (o := lostReads a1) rfl h1)

theorem endBringIns_keeps (hP : Closed 0x40000000000000000000000000000000000000000000000000000014002e5ff000000000000000000000000000000000000000000000000000000000000000000000000000000000000000000000000000000000000000000007000030000000e1d80000041e00008c04006043c8 P) {a1} (h1 : P a1) : P (endBringIns a1) := by
  unfold endBringIns
  have c0 := @substDone_keeps P (hP.mono rfl); have c1 := @spend_keeps _ P hP; have c2 := @noteSpare_keeps P (hP.mono rfl)
  have c3 := @forL_keeps _ P hP; have c4 := @setSpare_keeps P (hP.mono rfl); have c5 := @set_keeps _ P hP
  exact byKeep

theorem sharedLost_keeps (hP : Closed 0x80 P) {a1} (h1 : P a1) : P (sharedLost a1) := by
  unfold sharedLost
  have c0 := @forL_keeps _ P hP; have c1 := @reportEach_keeps P (hP.mono rfl)
  exact byKeep

theorem warmCols_keeps (hP : Closed 0x400000000100003c00000000000000000000000000000000000000000000000000000000000000000000000000000000000000001e00008c0400001040 P) {a1 a2} (h2 : P a2) : P (warmCols a1 a2) := by
  unfold warmCols
  have c0 := @forL_keeps _ P hP; have c1 := @set_keeps _ P hP; have c2 := @colTake_keeps P (hP.mono rfl)
  exact byKeep

theorem catchUp_keeps (hP : Closed 0xffffffffffffffffffffffffffffffffffffffffffffffffffffffffffffffffffffffffffffffffffffffffffffffffffffffffffffffffffffffffffffffffffffffffffffffffffffffffffffffffffffffffffffffffffffffffffffffffffffffffffffffffffffc01300c0 P) {a1 a2} (h2 : P a2) : P (catchUp a1 a2) := by
  unfold catchUp
  have c0 := @applyRec_keeps P (hP.mono rfl)
  exact byKeep

theorem warmBoot_keeps (hP : Closed 0xffffffffffffffffffffffffffffffffffffffffffffffffffffffffffffffffffffffffffffffffffffffffffffffffffffffffffffffffffffffffffffffffffffffffffffffffffffffffffffffffffffffffffffffffffffffffffffffffffffffffffffffffffffde7773cc P) {a1} (h1 : P a1) : P (warmBoot a1) := by
  unfold warmBoot
  have c0 := @forL_keeps _ P hP; have c1 := @catchUp_keeps P (hP.mono rfl); have c2 := @set_keeps _ P hP
  have c3 := @replayEnd_keeps P (hP.mono rfl); have c4 := @fillSync_keeps P (hP.mono rfl)
  have c5 := @warmCols_keeps P (hP.mono rfl); have c6 := @restoreUnits_keeps P (hP.mono rfl)
  have c7 := @bootEnd_keeps P (hP.mono rfl); have c8 := @startNext_keeps P (hP.mono rfl); have c9 := @presenceInit_keeps P (hP.mono rfl)
  have c10 := @forN_keeps _ P hP; have c11 := @slotApply_keeps P (hP.mono rfl)
  exact byKeep

theorem warmReset_keeps (hP : Closed 0xffffffffffffffffffffffffffffffffffffffffffffffffffffffffffffffffffffffffffffffffffffffffffffffffffffffffffffffffffffffffffffffffffffffffffffffffffffffffffffffffffffffffffffffffffffffffffffffffffffffffffffffffffffffffffff P) {a1 a2} (h2 : P a2) : P (warmReset a1 a2) := by
  unfold warmReset
  have c0 := @endBringIns_keeps P (hP.mono rfl); have c1 := @boardFlush_keeps P (hP.mono rfl)
  have c2 := @warmMoves_keeps P (hP.mono rfl); have c3 := @warmJournal_keeps P (hP.mono rfl)
  have c4 := @warmUnits_keeps P (hP.mono rfl); have c5 := @warmRegs_keeps P (hP.mono rfl)
  have c6 := @forN_keeps _ P hP; have c7 := @keepRegs_keeps P (hP.mono rfl); have c8 := @fuseLoad_keeps P (hP.mono rfl)
  have c9 := @set_keeps _ P hP; have c10 := @stgDown_keeps _ P hP; have c11 := @setB_keeps _ P hP
  have c12 := @forL_keeps _ P hP; have c13 := @dropLdKey_keeps P (hP.mono rfl); have c14 := @note_keeps P (hP.mono rfl)
  have c15 := @sharedLost_keeps P (hP.mono rfl); have c16 := @assertFaultN_keeps P (hP.mono rfl)
  have c17 := @emit_keeps _ P hP; have c18 := @setState_keeps P (hP.mono rfl); have c19 := @warmBoot_keeps P (hP.mono rfl)
  exact byKeep

theorem execWarmReset_keeps (hP : Closed 0xffffffffffffffffffffffffffffffffffffffffffffffffffffffffffffffffffffffffffffffffffffffffffffffffffffffffffffffffffffffffffffffffffffffffffffffffffffffffffffffffffffffffffffffffffffffffffffffffffffffffffffffffffffffffffff P) {a1} (h1 : P a1) : Ans P (execWarmReset a1) := by
  unfold execWarmReset
  have c0 := @warmReset_keeps P (hP.mono rfl)
  exact byKeep

theorem bootRelease_keeps (hP : Closed 0xc0000000000000000000000000000f7f980001e0004400000000000001a05bf0200000001000000000000009f00030000040000000010000040000000000001fe00000a22000010000003ffc100040000000000000000000000f000030000000e1d80000041e00008c041e7573cc P) {a1 a2} (h2 : P a2) : P (bootRelease a1 a2) := by
  unfold bootRelease
  have c0 := @runEnter_keeps P (hP.mono rfl)
  exact byKeep

theorem jreset_keeps (hP : Closed 0xffffffffffffffffffffffffffffffffffffffffffffffffffffffffffffffffffffffffffffffffffffffffffffffffffffffffffffffffffffffffffffffffffffffffffffffffffffffffffffffffffffffffffffffffffffffffffffffffffffffffffffffffffffde7773cc P) {a1 a2} (h2 : P a2) : P (jreset a1 a2) := by
  unfold jreset
  have c0 := @bootReplay_keeps P (hP.mono rfl); have c1 := @newJournal_keeps P (hP.mono rfl)
  have c2 := @set_keeps _ P hP
  exact byKeep

theorem bootCtl_keeps (hP : Closed 0xffffffffffffffffffffffffffffffffffffffffffffffffffffffffffffffffffffffffffffffffffffffffffffffffffffffffffffffffffffffffffffffffffffffffffffffffffffffffffffffffffffffffffffffffffffffffffffffffffffffffffffffffffffde7773cc P) {a1 a2} (h2 : P a2) : P (bootCtl a1 a2) := by
  unfold bootCtl
  have c0 := @compactWrite_keeps P (hP.mono rfl); have c1 := @jreset_keeps P (hP.mono rfl)
  have c2 := @bootRelease_keeps P (hP.mono rfl)
  exact byKeep

theorem execBootRelease_keeps (hP : Closed 0xffffffffffffffffffffffffffffffffffffffffffffffffffffffffffffffffffffffffffffffffffffffffffffffffffffffffffffffffffffffffffffffffffffffffffffffffffffffffffffffffffffffffffffffffffffffffffffffffffffffffffffffffffffde7773cc P) {a1 a2} (h2 : P a2) : Ans P (execBootRelease a1 a2) := by
  unfold execBootRelease
  have c0 := @atReg_keeps P (hP.mono rfl); have c1 := @bootCtl_keeps P (hP.mono rfl); have c2 := @set_keeps _ P hP
  exact byKeep

theorem execJreset_keeps (hP : Closed 0xffffffffffffffffffffffffffffffffffffffffffffffffffffffffffffffffffffffffffffffffffffffffffffffffffffffffffffffffffffffffffffffffffffffffffffffffffffffffffffffffffffffffffffffffffffffffffffffffffffffffffffffffffffde7773cc P) {a1 a2} (h2 : P a2) : Ans P (execJreset a1 a2) := by
  unfold execJreset
  have c0 := @atReg_keeps P (hP.mono rfl); have c1 := @bootCtl_keeps P (hP.mono rfl); have c2 := @set_keeps _ P hP
  exact byKeep

theorem execCompact_keeps (hP : Closed 0xffffffffffffffffffffffffffffffffffffffffffffffffffffffffffffffffffffffffffffffffffffffffffffffffffffffffffffffffffffffffffffffffffffffffffffffffffffffffffffffffffffffffffffffffffffffffffffffffffffffffffffffffffffde7773cc P) {a1 a2} (h2 : P a2) : Ans P (execCompact a1 a2) := by
  unfold execCompact
  have c0 := @atReg_keeps P (hP.mono rfl); have c1 := @bootCtl_keeps P (hP.mono rfl); have c2 := @set_keeps _ P hP
  exact byKeep

theorem execSealRelease_keeps (hP : Closed 0xffffffffffffffffffffffffffffffffffffffffffffffffffffffffffffffffffffffffffffffffffffffffffffffffffffffffffffffffffffffffffffffffffffffffffffffffffffffffffffffffffffffffffffffffffffffffffffffffffffffffffffffffffffde7773cc P) {a1} (h1 : P a1) : Ans P (execSealRelease a1) := by
  unfold execSealRelease
  have c0 := @sealFree_keeps P (hP.mono rfl); have c1 := @warmBoot_keeps P (hP.mono rfl)
  exact byKeep

theorem updResult_keeps (hP : Closed 0x30000000000000000000000000000000000000000000000000 P) {a1 a2} (h2 : P a2) : P (updResult a1 a2) := by
  unfold updResult
  have c0 := @set_keeps _ P hP
  exact byKeep

theorem execUpdate_keeps (hP : Closed 0x34000000000000000000000000000000000000000000400000 P) {a1 a2 a3} (h3 : P a3) : Ans P (execUpdate a1 a2 a3) := by
  unfold execUpdate
  have c0 := @atReg_keeps P (hP.mono rfl); have c1 := @setB_keeps _ P hP; have c2 := @set_keeps _ P hP
  have c3 := @updResult_keeps P (hP.mono rfl)
  exact byKeep

theorem execUpdateDone_keeps (hP : Closed 0x30000000000000000000000000000000000000000000400000 P) {a1 a2} (h2 : P a2) : Ans P (execUpdateDone a1 a2) := by
  unfold execUpdateDone
  have c0 := @updResult_keeps P (hP.mono rfl)
  exact byKeep

end Sys2Proof.Machine
end

