-- ==== Sys2Proof/Laws/KeepSpace.lean ====
section
/-! SUPPORT. What the operations of management, test, the management space and every command may write: each lemma names, as a mask (see Closed), the parts of the state that its operation can change. -/

namespace Sys2Proof.Machine

set_option linter.all false
set_option Elab.async false

variable {P : State → Prop}

theorem dirUnheld_keeps (hP : Closed 0x10000000000000000000000000000000000000000000000000000000000000000000000000000000000000000000000000000000000000000000000000000000000000000000000000 P) {a1 a2} (h2 : P a2) : P (dirUnheld a1 a2) := by
  unfold dirUnheld
  have c0 := @set_keeps _ P hP
  exact byKeep

theorem hardware_keeps (hP : Closed 0xc0000000000000000002fca100c0000000000000000000000000000001a05bf0200000181010001000001009f000300000000006f0110200000000000000001fe00000a220000100000000000000000006000000000000000007000010000000e1f80000041e00008c041ef771cc P) {a1 a2 a3} (h3 : P a3) : P (hardware a1 a2 a3) := by
  unfold hardware
  have c0 := @dirUnheld_keeps P (hP.mono rfl); have c1 := @slotGo_keeps P (hP.mono rfl); have c2 := @eqHardware_keeps P (hP.mono rfl)
  have c3 := @ucAct_keeps P (hP.mono rfl); have c4 := @quiesceBegin_keeps P (hP.mono rfl)
  have c5 := @spareGo_keeps P (hP.mono rfl); have c6 := @rotGo_keeps P (hP.mono rfl); have c7 := @lossAction_keeps P (hP.mono rfl)
  exact byKeep

theorem lapse_keeps (hP : Closed 0xc0000000000000000002fca100c0000000000000000000000000000001a05bf0200000181010001000001009f000300000000006f0110200000000000000001fe00000a220000100000000000000000006000000000000000007000010000000e1f80000041e00008c041ef771cc P) {a1 a2 a3} (h3 : P a3) : P (lapse a1 a2 a3) := by
  unfold lapse
  have c0 := @decEnd_keeps P (hP.mono rfl); have c1 := @hardware_keeps P (hP.mono rfl)
  exact byKeep

theorem execDecisionTimeout_keeps (hP : Closed 0xc0000000000000000002fca100c0000000000000000000000000000001a05bf0200000181010001000001009f000300000000006f0110200000000000000001fe00000a220000100000000000000000006000000000000000007000010000000e1f80000041e00008c041ef771ce P) {a1 a2} (h2 : P a2) : Ans P (execDecisionTimeout a1 a2) := by
  unfold execDecisionTimeout
  have c0 := @lapse_keeps P (hP.mono rfl); have c1 := @reach_keeps _ P hP
  exact byKeep

theorem assistWrite_keeps (hP : Closed 0xc0000000000000000002fca100c0000000000000000000000000000001a05bf0200000181010001000001009f000300000000006f0110200000000000000001fe00000a220000100000000000000000006000000000000000007000018000000e1f80000041e00008c041ef771cc P) {a1 a2} (h2 : P a2) : P (assistWrite a1 a2) := by
  unfold assistWrite
  have c0 := @forL_keeps _ P hP; have c1 := @lapse_keeps P (hP.mono rfl); have c2 := @set_keeps _ P hP
  exact byKeep

theorem execAssistWrite_keeps (hP : Closed 0xc0000000000000000002fca100c0000000000000000000000000000001a05bf0200000181010001000001009f000300000000006f0110200000000000000001fe00000a220000100000000000000000006000000000000000007000018000000e1f80000041e00008c041ef771cc P) {a1 a2} (h2 : P a2) : Ans P (execAssistWrite a1 a2) := by
  unfold execAssistWrite
  have c0 := @atReg_keeps P (hP.mono rfl); have c1 := @assistWrite_keeps P (hP.mono rfl); have c2 := @set_keeps _ P hP
  exact byKeep

theorem orphan_keeps (hP : Closed 0xc0000000000000000002fca100c0000000000000000000000000000001a05bf0200000181010001000001009f000300000000006f0110200000000000000001fe00000a220000100000000000000000006000000000000000007000010000000e1f80000041e00008c041ef771cc P) {a1} (h1 : P a1) : P (orphan a1) := by
  unfold orphan
  have c0 := @forL_keeps _ P hP; have c1 := @lapse_keeps P (hP.mono rfl)
  exact byKeep

theorem execFmPortLinkDown_keeps (hP : Closed 0xc0000000000000000002fca100c0000000000000000000000000000001a05bf0200000181010001000001009f000300000000006f0110200000000000000001fe00000a220000100000000000000000006000000000000000007000010000000e1f80000041e00008c041ef775cc P) {a1} (h1 : P a1) : Ans P (execFmPortLinkDown a1) := by
  unfold execFmPortLinkDown
  have c0 := @orphan_keeps P (hP.mono rfl)
  exact byKeep

theorem execFmPerst_keeps (hP : Closed 0xc0000000000000000002fca100c0000000000000000000000000000001a05bf0200000181010001000001009f000300000000006f0110200000000000000001fe00000a220000100000000000000000006000000000000000007000010000000e1f80000041e00008c041ef775cc P) {a1} (h1 : P a1) : Ans P (execFmPerst a1) := by
  unfold execFmPerst
  have c0 := @orphan_keeps P (hP.mono rfl)
  exact byKeep

theorem execFmPortLinkUp_keeps (hP : Closed 0x400 P) {a1} (h1 : P a1) : Ans P (execFmPortLinkUp a1) := by
  unfold execFmPortLinkUp
  exact byKeep

theorem columnUnclocked_keeps (hP : Closed 0xc000007fffffc0020602fca180c0000000000000000002000000000001800000201fe0001f9c0c500000100ff00e301c20400000000102000c00000000000000000000a22000010000003ffc100000404200000000000000000000003000000000000000041e00008c043bf7f3cc P) {a1 a2} (h2 : P a2) : P (columnUnclocked a1 a2) := by
  unfold columnUnclocked
  have c0 := @forL_keeps _ P hP; have c1 := @setPstate_keeps P (hP.mono rfl); have c2 := @setLtssm_keeps P (hP.mono rfl)
  have c3 := @scanLost_keeps P (hP.mono rfl); have c4 := @lose_keeps P (hP.mono rfl); have c5 := @set_keeps _ P hP
  have c6 := @setCstate_keeps P (hP.mono rfl)
  exact byKeep

theorem clockLost_keeps (hP : Closed 0xc000007fffffc0020602fca180c00f7f980001e0034402000000000001a05bf0201fe0181f9c0c500000100ff00e301c20400006f01102000c0000000000001fe00000a22000010000003ffc1000404046000000000000000007000030000000e1f80000041e00008c043ff7f7cc P) {a1 a2} (h2 : P a2) : P (clockLost a1 a2) := by
  unfold clockLost
  have c0 := @forN_keeps _ P hP; have c1 := @columnUnclocked_keeps P (hP.mono rfl); have c2 := @linkFail_keeps P (hP.mono rfl)
  have c3 := @orphan_keeps P (hP.mono rfl)
  exact byKeep

theorem execErrorLineEdge_keeps (hP : Closed 0xc000007fffffc0038602fca183c00f7f984001e0036402000000182001a05ff0381fe0183ffc0ff003f8100ff00e301c204007bff01f02000c0000040000003fe00000a22000010000003ffe900040ebc60030000c00484604070000300000fff9f83fff3ffe00008c043ffff7cc P) {a1 a2 a3} (h3 : P a3) : Ans P (execErrorLineEdge a1 a2 a3) := by
  have h := lineEdge_keeps (hP.mono rfl) (a1 := a1.val) h3
  unfold execErrorLineEdge
  generalize lineEdge a1.val a3 = e at h ⊢
  have hp := lineRecord_keeps (hP.mono rfl) (a1 := a1.val) (a2 := a2) h
  generalize hq : lineRecord a1.val a2 e.2 = p at hp
  have hs : P (if e.1 then react p.1 (collect p.1 p.2.ns p.2) else e.2) := iteP (react_keeps (hP.mono rfl) (collect_keeps (hP.mono rfl) hp)) h
  subst hq
  exact nextP (iteP (clockLost_keeps (hP.mono rfl) hs) hs)

theorem execMctpMessage_keeps (hP : Closed 0x200800 P) {a1 a2} (h2 : P a2) : Ans P (execMctpMessage a1 a2) := by
  unfold execMctpMessage
  exact byKeep

theorem execMctpSessionExpiry_keeps (hP : Closed 0xc0000000000000000002fca100c0000000000000000000000000000001a05bf0200000181010001000001009f000300000000006f0110200000000000000001fe00000a220000100000000000000000006000000000000000007000010000000e1f80000041e00008c041ef779ce P) {a1} (h1 : P a1) : Ans P (execMctpSessionExpiry a1) := by
  unfold execMctpSessionExpiry
  have c0 := @orphan_keeps P (hP.mono rfl); have c1 := @reach_keeps _ P hP
  exact byKeep

theorem execFmApiCommand_keeps (hP : Closed 0xa20000010000000000000000000000000000000000000000000000000000000000001e00008c0402000044 P) {a1 a2} (h2 : P a2) : Ans P (execFmApiCommand a1 a2) := by
  unfold execFmApiCommand
  have c0 := @fmDone_keeps P (hP.mono rfl); have c1 := @emit_keeps _ P hP
  exact byKeep

theorem execDirQueue_keeps (hP : Closed 0x100000000000000000000000000000000000000000000000000000000000a20000010000000000000000000000000000000000000000001000000000000000041e00008c04020001c4 P) {a1 a2} (h2 : P a2) : Ans P (execDirQueue a1 a2) := by
  unfold execDirQueue
  have c0 := @answer_keeps P (hP.mono rfl); have c1 := @dirUnheld_keeps P (hP.mono rfl)
  exact byKeep

theorem execDirThrottle_keeps (hP : Closed 0x100000000000000000000000000000000000000000000000000000000000a20000010000000000000000000000000000000000000000001000000000000000041e00008c04220001c4 P) {a1 a2 a3} (h3 : P a3) : Ans P (execDirThrottle a1 a2 a3) := by
  unfold execDirThrottle
  have c0 := @answer_keeps P (hP.mono rfl); have c1 := @dirUnheld_keeps P (hP.mono rfl)
  exact byKeep

theorem execEqAccept_keeps (hP : Closed 0x4001000000000000000000000000000a20000010000000000000000000000000000000000000000001000000000000000041e00008c04020021c4 P) {a1 a2} (h2 : P a2) : Ans P (execEqAccept a1 a2) := by
  unfold execEqAccept
  have c0 := @answer_keeps P (hP.mono rfl); have c1 := @recordFinal_keeps P (hP.mono rfl)
  exact byKeep

theorem execEqRedo_keeps (hP : Closed 0x2001102000000000000000000000000a20000010000000000000000000000000000000000000000001000000000000000041e00008c04020031c4 P) {a1 a2 a3} (h3 : P a3) : Ans P (execEqRedo a1 a2 a3) := by
  unfold execEqRedo
  have c0 := @answer_keeps P (hP.mono rfl); have c1 := @redoEq_keeps P (hP.mono rfl)
  exact byKeep

theorem execEqOverride_keeps (hP : Closed 0x4f39000000000000000000000000000a20000010000000000000000000000000000000000000000001000000000000000041e00008c04020031c4 P) {a1 a2 a3} (h3 : P a3) : Ans P (execEqOverride a1 a2 a3) := by
  unfold execEqOverride
  have c0 := @answer_keeps P (hP.mono rfl); have c1 := @recordFinal_keeps P (hP.mono rfl)
  have c2 := @forL_keeps _ P hP; have c3 := @applyOvr_keeps P (hP.mono rfl); have c4 := @set_keeps _ P hP
  exact byKeep

theorem nocEnter_keeps (hP : Closed 0xa20000010000000000000000000000000000000000000000000000000000000000001e00008c0402200044 P) {a1 a2 a3} (h3 : P a3) : P (nocEnter a1 a2 a3) := by
  unfold nocEnter
  have c0 := @perf_keeps P (hP.mono rfl); have c1 := @emit_keeps _ P hP
  exact byKeep

theorem nocDrain_keeps (hP : Closed 0xa20000010000000000000000000000000000000000000000000000000000000000001e00008c0402200044 P) {a1} (h1 : P a1) : P (nocDrain a1) := by
  unfold nocDrain
  have c0 := @nocEnter_keeps P (hP.mono rfl)
  exact byKeep

theorem execNocRequestInject_keeps (hP : Closed 0xa20000010000000000000000000000000000000000000001000000000002000000001e00008c0402200044 P) {a1 a2 a3} (h3 : P a3) : Ans P (execNocRequestInject a1 a2 a3) := by
  unfold execNocRequestInject
  have c0 := @nocDiscard_keeps P (hP.mono rfl); have c1 := @nocDrain_keeps P (hP.mono rfl)
  exact byKeep

theorem nocSink_keeps (hP : Closed 0x200004 P) {a1} (h1 : P a1) : P (nocSink a1) := by
  unfold nocSink
  have c0 := @forL_keeps _ P hP; have c1 := @emit_keeps _ P hP
  exact byKeep

theorem idle_keeps (hP : Closed 0x100000000000000000000000000a20000010000000000000000000000000000000000000000000000000000000000001e00008c040220004e P) {a1} (h1 : P a1) : P (idle a1) := by
  unfold idle
  have c0 := @nocSink_keeps P (hP.mono rfl); have c1 := @trainTick_keeps P (hP.mono rfl); have c2 := @tick_keeps _ P hP
  have c3 := @nocDrain_keeps P (hP.mono rfl)
  exact byKeep

theorem execCdcOverrun_keeps (hP : Closed 0x6800000000000000000001e00008c04000000c0 P) {a1 a2 a3} (h3 : P a3) : Ans P (execCdcOverrun a1 a2 a3) := by
  unfold execCdcOverrun
  have c0 := @set_keeps _ P hP; have c1 := @flag_keeps P (hP.mono rfl); have c2 := @bump_keeps _ P hP
  have c3 := @report_keeps P (hP.mono rfl)
  exact byKeep

theorem execPowerDownStart_keeps (hP : Closed 0x100000000000000000000001e00008c0400000040 P) {a1 a2} (h2 : P a2) : Ans P (execPowerDownStart a1 a2) := by
  unfold execPowerDownStart
  have c0 := @setPdState_keeps P (hP.mono rfl)
  exact byKeep

theorem execPowerDownAbort_keeps (hP : Closed 0x700000000000000000000001e00008c0400200040 P) {a1 a2} (h2 : P a2) : Ans P (execPowerDownAbort a1 a2) := by
  unfold execPowerDownAbort
  have c0 := @pdWake_keeps P (hP.mono rfl)
  exact byKeep

theorem execPointOfNoReturn_keeps (hP : Closed 0x300000000000000000000001e00008c0400200040 P) {a1 a2} (h2 : P a2) : Ans P (execPointOfNoReturn a1 a2) := by
  unfold execPointOfNoReturn
  have c0 := @setPdState_keeps P (hP.mono rfl); have c1 := @setPd_keeps P (hP.mono rfl)
  exact byKeep

theorem execMinOffExpiry_keeps (hP : Closed 0x100000000000000000000001e00008c0400000042 P) {a1 a2} (h2 : P a2) : Ans P (execMinOffExpiry a1 a2) := by
  unfold execMinOffExpiry
  have c0 := @setPdState_keeps P (hP.mono rfl); have c1 := @reach_keeps _ P hP
  exact byKeep

theorem pdCtl_keeps (hP : Closed 0x760000000000000000000001e00008c0400200040 P) {a1 a2 a3} (h3 : P a3) : P (pdCtl a1 a2 a3) := by
  unfold pdCtl
  have c0 := @putRw_keeps _ P hP; have c1 := @pdWake_keeps P (hP.mono rfl); have c2 := @set_keeps _ P hP
  exact byKeep

theorem execDomainWake_keeps (hP : Closed 0x760000000000000000000001e00008c0400200040 P) {a1 a2 a3} (h3 : P a3) : Ans P (execDomainWake a1 a2 a3) := by
  unfold execDomainWake
  have c0 := @atReg_keeps P (hP.mono rfl); have c1 := @pdCtl_keeps P (hP.mono rfl); have c2 := @set_keeps _ P hP
  exact byKeep

theorem dapSelect_keeps (hP : Closed 0x80000000000000000000000000000000000001e00008c0400000040 P) {a1 a2} (h2 : P a2) : P (dapSelect a1 a2) := by
  unfold dapSelect
  have c0 := @raise_keeps P (hP.mono rfl); have c1 := @setB_keeps _ P hP; have c2 := @set_keeps _ P hP
  exact byKeep

theorem pinsTaken_keeps (hP : Closed 0xc000007fffffc0020602fca180c00f7f980001e0034402000000000001a05bf0201fe0181f9c0c500000100ff00e301c20400006f0110200000000000000001fe00000a22000010000003ffc1000404046000000000000000007000030000000e1f80000041e00008c043ff7f7cc P) {a1} (h1 : P a1) : P (pinsTaken a1) := by
  unfold pinsTaken
  have c0 := @forN_keeps _ P hP; have c1 := @lose_keeps P (hP.mono rfl); have c2 := @linkFail_keeps P (hP.mono rfl)
  have c3 := @orphan_keeps P (hP.mono rfl)
  exact byKeep

theorem jtagSelect_keeps (hP : Closed 0xffffffffffffffffffffffffffffffffffffffffffffffffffffffffffffffffffffffffffffffffffffffffffffffffffffffffffffffffffffffffffffffffffffffffffffffffffffffffffffffffffffffffffffffffffffffffffffffffffffffffffffffffffffffffffff P) {a1 a2} (h2 : P a2) : P (jtagSelect a1 a2) := by
  unfold jtagSelect
  have c0 := @bootFuses_keeps P (hP.mono rfl); have c1 := @warmReset_keeps P (hP.mono rfl)
  have c2 := @spend_keeps _ P hP; have c3 := @dapSelect_keeps P (hP.mono rfl); have c4 := @pinsTaken_keeps P (hP.mono rfl)
  exact byKeep

theorem boundaryScan_keeps (hP : Closed 0x20000c P) {a1} (h1 : P a1) : P (boundaryScan a1) := by
  unfold boundaryScan
  have c0 := @emit_keeps _ P hP
  exact byKeep

theorem drivePins_keeps (hP : Closed 0x4 P) {a1} (h1 : P a1) : P (drivePins a1) := by
  unfold drivePins
  have c0 := @emit_keeps _ P hP
  exact byKeep

theorem extestWith_keeps (hP : Closed 0xffffffffffffffffffffffffffffffffffffffffffffffffffffffffffffffffffffffffffffffffffffffffffffffffffffffffffffffffffffffffffffffffffffffffffffffffffffffffffffffffffffffffffffffffffffffffffffffffffffffffffffffffffffffffffff P) {a1 a2} (h2 : P a2) : P (extestWith a1 a2) := by
  unfold extestWith
  have c0 := @drivePins_keeps P (hP.mono rfl); have c1 := @boundaryScan_keeps P (hP.mono rfl)
  have c2 := @jtagSelect_keeps P (hP.mono rfl)
  exact byKeep

theorem execExtest_keeps (hP : Closed 0xffffffffffffffffffffffffffffffffffffffffffffffffffffffffffffffffffffffffffffffffffffffffffffffffffffffffffffffffffffffffffffffffffffffffffffffffffffffffffffffffffffffffffffffffffffffffffffffffffffffffffffffffffffffffffff P) {a1} (h1 : P a1) : Ans P (execExtest a1) := by
  unfold execExtest
  have c0 := @extestWith_keeps P (hP.mono rfl)
  exact byKeep

theorem execClamp_keeps (hP : Closed 0xffffffffffffffffffffffffffffffffffffffffffffffffffffffffffffffffffffffffffffffffffffffffffffffffffffffffffffffffffffffffffffffffffffffffffffffffffffffffffffffffffffffffffffffffffffffffffffffffffffffffffffffffffffffffffff P) {a1} (h1 : P a1) : Ans P (execClamp a1) := by
  unfold execClamp
  have c0 := @drivePins_keeps P (hP.mono rfl); have c1 := @jtagSelect_keeps P (hP.mono rfl)
  exact byKeep

theorem execHighz_keeps (hP : Closed 0xffffffffffffffffffffffffffffffffffffffffffffffffffffffffffffffffffffffffffffffffffffffffffffffffffffffffffffffffffffffffffffffffffffffffffffffffffffffffffffffffffffffffffffffffffffffffffffffffffffffffffffffffffffffffffff P) {a1} (h1 : P a1) : Ans P (execHighz a1) := by
  unfold execHighz
  have c0 := @emit_keeps _ P hP; have c1 := @jtagSelect_keeps P (hP.mono rfl)
  exact byKeep

theorem execExtestPulse_keeps (hP : Closed 0xffffffffffffffffffffffffffffffffffffffffffffffffffffffffffffffffffffffffffffffffffffffffffffffffffffffffffffffffffffffffffffffffffffffffffffffffffffffffffffffffffffffffffffffffffffffffffffffffffffffffffffffffffffffffffff P) {a1} (h1 : P a1) : Ans P (execExtestPulse a1) := by
  unfold execExtestPulse
  have c0 := @extestWith_keeps P (hP.mono rfl)
  exact byKeep

theorem execExtestTrain_keeps (hP : Closed 0xffffffffffffffffffffffffffffffffffffffffffffffffffffffffffffffffffffffffffffffffffffffffffffffffffffffffffffffffffffffffffffffffffffffffffffffffffffffffffffffffffffffffffffffffffffffffffffffffffffffffffffffffffffffffffff P) {a1} (h1 : P a1) : Ans P (execExtestTrain a1) := by
  unfold execExtestTrain
  have c0 := @extestWith_keeps P (hP.mono rfl)
  exact byKeep

theorem execIdcode_keeps (hP : Closed 0xffffffffffffffffffffffffffffffffffffffffffffffffffffffffffffffffffffffffffffffffffffffffffffffffffffffffffffffffffffffffffffffffffffffffffffffffffffffffffffffffffffffffffffffffffffffffffffffffffffffffffffffffffffffffffff P) {a1} (h1 : P a1) : Ans P (execIdcode a1) := by
  unfold execIdcode
  have c0 := @emit_keeps _ P hP; have c1 := @jtagSelect_keeps P (hP.mono rfl)
  exact byKeep

theorem execSamplePreload_keeps (hP : Closed 0xffffffffffffffffffffffffffffffffffffffffffffffffffffffffffffffffffffffffffffffffffffffffffffffffffffffffffffffffffffffffffffffffffffffffffffffffffffffffffffffffffffffffffffffffffffffffffffffffffffffffffffffffffffffffffff P) {a1} (h1 : P a1) : Ans P (execSamplePreload a1) := by
  unfold execSamplePreload
  have c0 := @boundaryScan_keeps P (hP.mono rfl); have c1 := @jtagSelect_keeps P (hP.mono rfl)
  exact byKeep

theorem execDapacc_keeps (hP : Closed 0xffffffffffffffffffffffffffffffffffffffffffffffffffffffffffffffffffffffffffffffffffffffffffffffffffffffffffffffffffffffffffffffffffffffffffffffffffffffffffffffffffffffffffffffffffffffffffffffffffffffffffffffffffffffffffff P) {a1} (h1 : P a1) : Ans P (execDapacc a1) := by
  unfold execDapacc
  have c0 := @jtagSelect_keeps P (hP.mono rfl)
  exact byKeep

theorem execBypass_keeps (hP : Closed 0xffffffffffffffffffffffffffffffffffffffffffffffffffffffffffffffffffffffffffffffffffffffffffffffffffffffffffffffffffffffffffffffffffffffffffffffffffffffffffffffffffffffffffffffffffffffffffffffffffffffffffffffffffffffffffff P) {a1} (h1 : P a1) : Ans P (execBypass a1) := by
  unfold execBypass
  have c0 := @jtagSelect_keeps P (hP.mono rfl)
  exact byKeep

theorem execJtagDeselect_keeps (hP : Closed 0xffffffffffffffffffffffffffffffffffffffffffffffffffffffffffffffffffffffffffffffffffffffffffffffffffffffffffffffffffffffffffffffffffffffffffffffffffffffffffffffffffffffffffffffffffffffffffffffffffffffffffffffffffffffffffff P) {a1} (h1 : P a1) : Ans P (execJtagDeselect a1) := by
  unfold execJtagDeselect
  have c0 := @jtagSelect_keeps P (hP.mono rfl)
  exact byKeep

theorem lbWrite_keeps (hP : Closed 0xc002fc7fffffc0020602fca180c00000180001e0000402000000000001800000201fe0001f9c0c500000100ff00e301c20400000000102000400000000000000000000a22000010000003ffc100000404200000000000000000000003000000000000000041e00008c043bf7f3cc P) {a1 a2 a3} (h3 : P a3) : P (lbWrite a1 a2 a3) := by
  unfold lbWrite
  have c0 := @set_keeps _ P hP; have c1 := @putRw_keeps _ P hP; have c2 := @forN_keeps _ P hP
  have c3 := @lose_keeps P (hP.mono rfl); have c4 := @setLtssm_keeps P (hP.mono rfl); have c5 := @scanLost_keeps P (hP.mono rfl)
  have c6 := @forL_keeps _ P hP; have c7 := @detect_keeps P (hP.mono rfl); have c8 := @trainStart_keeps P (hP.mono rfl)
  exact byKeep

theorem execLoopbackNear_keeps (hP : Closed 0xc002fc7fffffc0020602fca180c00000180001e0000402000000000001800000201fe0001f9c0c500000100ff00e301c20400000000102000400000000000000000000a22000010000003ffc100000404200000000000000000000003000000000000000041e00008c043bf7f3cc P) {a1 a2 a3} (h3 : P a3) : Ans P (execLoopbackNear a1 a2 a3) := by
  unfold execLoopbackNear
  have c0 := @atReg_keeps P (hP.mono rfl); have c1 := @lbWrite_keeps P (hP.mono rfl); have c2 := @set_keeps _ P hP
  exact byKeep

theorem execLoopbackFar_keeps (hP : Closed 0xc002fc7fffffc0020602fca180c00000180001e0000402000000000001800000201fe0001f9c0c500000100ff00e301c20400000000102000400000000000000000000a22000010000003ffc100000404200000000000000000000003000000000000000041e00008c043bf7f3cc P) {a1 a2 a3} (h3 : P a3) : Ans P (execLoopbackFar a1 a2 a3) := by
  unfold execLoopbackFar
  have c0 := @atReg_keeps P (hP.mono rfl); have c1 := @lbWrite_keeps P (hP.mono rfl); have c2 := @set_keeps _ P hP
  exact byKeep

theorem execLoopbackLead_keeps (hP : Closed 0xc002fc7fffffc0020602fca180c00000180001e0000402000000000001800000201fe0001f9c0c500000100ff00e301c20400000000102000400000000000000000000a22000010000003ffc100000404200000000000000000000003000000000000000041e00008c043bf7f3cc P) {a1 a2 a3} (h3 : P a3) : Ans P (execLoopbackLead a1 a2 a3) := by
  unfold execLoopbackLead
  have c0 := @atReg_keeps P (hP.mono rfl); have c1 := @lbWrite_keeps P (hP.mono rfl); have c2 := @set_keeps _ P hP
  exact byKeep

theorem execPatternControl_keeps (hP : Closed 0xc002fc7fffffc0020602fca180c00000180001e0000402000000000001800000201fe0001f9c0c500000100ff00e301c20400000000102000400000000000000000000a22000010000003ffc100000404200000000000000000000003000000000000000041e00008c043bf7f3cc P) {a1 a2 a3} (h3 : P a3) : Ans P (execPatternControl a1 a2 a3) := by
  unfold execPatternControl
  have c0 := @atReg_keeps P (hP.mono rfl); have c1 := @lbWrite_keeps P (hP.mono rfl); have c2 := @set_keeps _ P hP
  exact byKeep

theorem execPatternCheckLock_keeps (hP : Closed 0x2000000000000000000000000000000000000000000000000000000000000000000000000000000000000000000000000000000000000000000000000000000000000000000000000000000000000000000000000000000000000000000000000000000000000000000000000 P) {a1 a2 a3 a4} (h4 : P a4) : Ans P (execPatternCheckLock a1 a2 a3 a4) := by
  unfold execPatternCheckLock
  have c0 := @setB_keeps _ P hP; have c1 := @set_keeps _ P hP
  exact byKeep

theorem injWrite_keeps (hP : Closed 0xdf00040000000000000000000000000000000000000000000000000000000000000000000000000000000000000000000000000000000000000000000000000000000000000000000000000000000000000000000000000000000000000000000000000000000000000000200000 P) {a1 a2} (h2 : P a2) : P (injWrite a1 a2) := by
  unfold injWrite
  have c0 := @putRw_keeps _ P hP; have c1 := @set_keeps _ P hP
  exact byKeep

theorem execInjectArm_keeps (hP : Closed 0xdf00040000000000000000000000000000000000000000000000000000000000000000000000000000000000000000000000000000000000000000000000000000000000000000000000000000000000000000000000000000000000000000000000000000000000000000200000 P) {a1 a2} (h2 : P a2) : Ans P (execInjectArm a1 a2) := by
  unfold execInjectArm
  have c0 := @atReg_keeps P (hP.mono rfl); have c1 := @injWrite_keeps P (hP.mono rfl); have c2 := @set_keeps _ P hP
  exact byKeep

theorem run_keeps (hP : Closed 0x0 P) {r : Result} {s : State} (hr : Ans P r) (h : P s) : P (run r s) := by
  unfold run
  cases r with
  | next t => exact hr
  | fault f => exact h
  | refused x => exact h

theorem latchHigh_keeps (hP : Closed 0xffffffffffffffffffffffffffffffffffffffffffffffffffffffffffffffffffffffffffffffffffffffffffffffffffffffffffffffffffffffffffffffffffffffffffffffffffffffffffffffffffffffffffffffffffffffffffffffffffffffffffffffffffffc0000001 P) {a1 a2} (h2 : P a2) : P (latchHigh a1 a2) := by
  unfold latchHigh
  have c0 := @set_keeps _ P hP; have c1 := @State_clearRc_keeps P (hP.mono rfl)
  exact byKeep

theorem tagPeak_keeps (hP : Closed 0x30000000000000000000000000000000000000000000000000000000000000000000000000000000000000000000000000000000000000000000000000000000 P) {a1 a2} (h2 : P a2) : P (tagPeak a1 a2) := by
  unfold tagPeak
  have c0 := @tagSync_keeps P (hP.mono rfl)
  exact byKeep

theorem coreClaim_keeps (hP : Closed 0xa20000010000000000000000000000000000000000000000000000000000000000001e03008c0402000040 P) {a1 a2} (h2 : P a2) : P (coreClaim a1 a2).2 := by
  unfold coreClaim
  have c0 := @evClaim_keeps P (hP.mono rfl); have c1 := @perf_keeps P (hP.mono rfl)
  exact byKeep

theorem execClaim_keeps (hP : Closed 0xa20000010000000000000000000000000000000000000001000000000002000000001e03008c0402000044 P) {a1 a2 a3} (h3 : P a3) : Ans P (execClaim a1 a2 a3) := by
  unfold execClaim
  have c0 := @nocDiscard_keeps P (hP.mono rfl); have c1 := @coreClaim_keeps P (hP.mono rfl)
  have c2 := @emit_keeps _ P hP
  exact byKeep

theorem readWord_keeps (hP : Closed 0xffffffffffffffffffffffffffffffffffffffffffffffffffffffffffffffffffffffffffffffffffffffffffffffffffffffffffffffffffffffffffffffffffffffffffffffffffffffffffffffffffffffffffffffffffffffffffffffffffffffffffffffffffffc20000c1 P) {a1 a2 a3} (h3 : P a3) : P (readWord a1 a2 a3).2 := by
  unfold readWord
  have c0 := @coreClaim_keeps P (hP.mono rfl); have c1 := @ringCheck_keeps P (hP.mono rfl)
  have c2 := @tagPeak_keeps P (hP.mono rfl); have c3 := @latchHigh_keeps P (hP.mono rfl); have c4 := @State_clearRc_keeps P (hP.mono rfl)
  exact byKeep

theorem atAddr_keeps (hP : Closed 0x700000000000000000000001e00008c0400200040 P) {a1 a2 a3 a4} (h3 : ∀ t, P t → Ans P (a3 t)) (h4 : P a4) : Ans P (atAddr a1 a2 a3 a4) := by
  unfold atAddr
  have c0 := @toDomain_keeps P (hP.mono rfl)
  exact byKeep

theorem badForm_keeps (hP : Closed 0x10000000000000000000000000000000004 P) {a1 a2 a3 a4} (h4 : P a4) : P (badForm a1 a2 a3 a4) := by
  unfold badForm
  have c0 := @set_keeps _ P hP; have c1 := @emit_keeps _ P hP
  exact byKeep

theorem busRead_keeps (hP : Closed 0xffffffffffffffffffffffffffffffffffffffffffffffffffffffffffffffffffffffffffffffffffffffffffffffffffffffffffffffffffffffffffffffffffffffffffffffffffffffffffffffffffffffffffffffffffffffffffffffffffffffffffffffffffffc22000c5 P) {a1 a2 a3 a4} (h4 : P a4) : Ans P (busRead a1 a2 a3 a4) := by
  unfold busRead
  have c0 := @nocDiscard_keeps P (hP.mono rfl); have c1 := @badForm_keeps P (hP.mono rfl)
  have c2 := @atAddr_keeps P (hP.mono rfl); have c3 := @emit_keeps _ P hP; have c4 := @readWord_keeps P (hP.mono rfl)
  exact byKeep

theorem blockRegs_keeps (hP : Closed 0xffffffffffffffffffffffffffffffffffffffffffffffffffffffffffffffffffffffffffffffffffffffffffffffffffffffffffffffffffffffffffffffffffffffffffffffffffffffffffffffffffffffffffffffffffffffffffffffffffffffffffffffffffffc0000000 P) {a1 a2 a3 a4} (h4 : P a4) : P (blockRegs a1 a2 a3 a4) := by
  unfold blockRegs
  exact regs_keeps hP (by decide +kernel) (fun a b => ⟨rising_filter a, noZero_filter b⟩) h4

theorem brstWrite_keeps (hP : Closed 0xffffffffffffffffffffffffffffffffffffffffffffffffffffffffffffffffffffffffffffffffffffffffffffffffffffffffffffffffffffffffffffffffffffffffffffffffffffffffffffffffffffffffffffffffffffffffffffffffffffffffffffffffffffc0113000 P) {a1 a2} (h2 : P a2) : P (brstWrite a1 a2) := by
  unfold brstWrite
  have c0 := @set_keeps _ P hP; have c1 := @portLinkReset_keeps P (hP.mono rfl); have c2 := @blockRegs_keeps P (hP.mono rfl)
  exact byKeep

theorem rstWrite_keeps (hP : Closed 0xffffffffffffffffffffffffffffffffffffffffffffffffffffffffffffffffffffffffffffffffffffffffffffffffffffffffffffffffffffffffffffffffffffffffffffffffffffffffffffffffffffffffffffffffffffffffffffffffffffffffffffffffffffffffffff P) {a1 a2} (h2 : P a2) : P (rstWrite a1 a2) := by
  unfold rstWrite
  have c0 := @warmReset_keeps P (hP.mono rfl); have c1 := @set_keeps _ P hP
  exact byKeep

theorem polWrite_keeps (hP : Closed 0x1d00000000000000000000000000000000000000000000400000 P) {a1 a2} (h2 : P a2) : P (polWrite a1 a2) := by
  unfold polWrite
  have c0 := @set_keeps _ P hP; have c1 := @request_keeps P (hP.mono rfl)
  exact byKeep

theorem linesWrite_keeps (hP : Closed 0xffffffffffffffffffffffffffffffffffffffffffffffffffffffffffffffffffffffffffffffffffffffffffffffffffffffffffffffffffffffffffffffffffffffffffffffffffffffffffffffffffffffffffffffffffffffffffffffffffffffffffffffffffffc0000084 P) {a1 a2 a3} (h3 : P a3) : P (linesWrite a1 a2 a3) := by
  unfold linesWrite
  have c0 := @State_wr_keeps P (hP.mono rfl); have c1 := @assertFaultN_keeps P (hP.mono rfl)
  have c2 := @condNote_keeps P (hP.mono rfl)
  exact byKeep

theorem bankWrite_keeps (hP : Closed 0xffffffffffffffffffffffffffffffffffffffffffffffffffffffffffffffffffffffffffffffffffffffffffffffffffffffffffffffffffffffffffffffffffffffffffffffffffffffffffffffffffffffffffffffffffffffffffffffffffffffffffffffffffffc0000000 P) {a1 a2 a3} (h3 : P a3) : P (bankWrite a1 a2 a3) := by
  unfold bankWrite
  have c0 := @defaultSync_keeps P (hP.mono rfl); have c1 := @State_wr_keeps P (hP.mono rfl)
  exact byKeep

theorem eyeWrite_keeps (hP : Closed 0x20000000067c000000000000000000000000000000000000000000000000000000000000000000000000000000000000000000000000000000001000 P) {a1 a2 a3} (h3 : P a3) : P (eyeWrite a1 a2 a3) := by
  unfold eyeWrite
  have c0 := @run_keeps P (hP.mono rfl); have c1 := @execEyeScanAbort_keeps P (hP.mono rfl)
  have c2 := @execEyeScanStart_keeps P (hP.mono rfl)
  exact byKeep

theorem gclWrite_keeps (hP : Closed 0x7c80c000000000000000000000000000000000000000000000000000000000000000000000000000000000000000000000000000000000000000000000000000000000000000000000000000001e00008c0400008040 P) {a1 a2 a3} (h3 : P a3) : P (gclWrite a1 a2 a3) := by
  unfold gclWrite
  have c0 := @run_keeps P (hP.mono rfl); have c1 := @execGclCommit_keeps P (hP.mono rfl); have c2 := @execGclCancel_keeps P (hP.mono rfl)
  exact byKeep

theorem lcFree_keeps (hP : Closed 0xffffffffffffc0020602fca180c00f7f980001e0034402000000000001800000201fe0001f9c0c500000100ff00e301c20400000000002000000000000000000000000a22000010000003ffc100040704200314f00000400000000003000000000000000041e00008c043bf7f3dc P) {a1 a2 a3} (h3 : P a3) : P (lcFree a1 a2 a3) := by
  unfold lcFree
  have c0 := @lcWrite_keeps P (hP.mono rfl); have c1 := @spend_keeps _ P hP
  exact byKeep


theorem handlersGlobal_keeps (hP : Closed 0xffffffffffffffffffffffffffffffffffffffffffffffffffffffffffffffffffffffffffffffffffffffffffffffffffffffffffffffffffffffffffffffffffffffffffffffffffffffffffffffffffffffffffffffffffffffffffffffffffffffffffffffffffffffffffff P) : ∀ h ∈ handlersGlobal, ∀ m i j a v s, P s → P (h.2 m i j a v s) := by
  unfold handlersGlobal
  have c0 := @assistWrite_keeps P (hP.mono rfl); have c1 := @rstWrite_keeps P (hP.mono rfl)
  have c2 := @brstWrite_keeps P (hP.mono rfl); have c3 := @bootCtl_keeps P (hP.mono rfl); have c4 := @run_keeps P (hP.mono rfl)
  have c5 := @execUpdate_keeps P (hP.mono rfl); have c6 := @polWrite_keeps P (hP.mono rfl)
  have c7 := @execFltRheadWrite_keeps P (hP.mono rfl); have c8 := @fenceWrite_keeps P (hP.mono rfl)
  have c9 := @execFaultnClr_keeps P (hP.mono rfl); have c10 := @linesWrite_keeps P (hP.mono rfl)
  have c11 := @State_wr_keeps P (hP.mono rfl); have c12 := @spend_keeps _ P hP
  simp only [List.forall_mem_cons, List.not_mem_nil, false_implies, implies_true, and_true]
  refine ⟨?_, ?_, ?_, ?_, ?_, ?_, ?_, ?_, ?_, ?_, ?_, ?_, ?_⟩ <;> intro m i j a v s h0 <;> exact byKeep

theorem handlersMgmt_keeps (hP : Closed 0xffffffffffffffffffffffffffffffffffffffffffffffffffffffffffffffffffffffffffffffffffffffffffffffffffffffffffffffffffffffffffffffffffffffffffffffffffffffffffffffffffffffffffffffffffffffffffffffffffffffffffffffffffffffffffff P) : ∀ h ∈ handlersMgmt, ∀ m i j a v s, P s → P (h.2 m i j a v s) := by
  unfold handlersMgmt
  have c0 := @evCtlWrite_keeps P (hP.mono rfl); have c1 := @evHeadWrite_keeps P (hP.mono rfl)
  have c2 := @evComplete_keeps P (hP.mono rfl); have c3 := @evRouteAll_keeps P (hP.mono rfl)
  have c4 := @perfSel_keeps P (hP.mono rfl); have c5 := @perfCtl_keeps P (hP.mono rfl); have c6 := @tsWrite_keeps P (hP.mono rfl)
  have c7 := @timeCtl_keeps P (hP.mono rfl); have c8 := @pdCtl_keeps P (hP.mono rfl); have c9 := @State_wr_keeps P (hP.mono rfl)
  have c10 := @spend_keeps _ P hP
  simp only [List.forall_mem_cons, List.not_mem_nil, false_implies, implies_true, and_true]
  refine ⟨?_, ?_, ?_, ?_, ?_, ?_, ?_, ?_, ?_, ?_⟩ <;> intro m i j a v s h0 <;> exact byKeep

theorem handlersSec_keeps (hP : Closed 0xffffffffffffffffffffffffffffffffffffffffffffffffffffffffffffffffffffffffffffffffffffffffffffffffffffffffffffffffffffffffffffffffffffffffffffffffffffffffffffffffffffffffffffffffffffffffffffffffffffffffffffffffffffffffffff P) : ∀ h ∈ handlersSec, ∀ m i j a v s, P s → P (h.2 m i j a v s) := by
  unfold handlersSec
  have c0 := @rctlWrite_keeps P (hP.mono rfl); have c1 := @lcFree_keeps P (hP.mono rfl); have c2 := @run_keeps P (hP.mono rfl)
  have c3 := @execActCommit_keeps P (hP.mono rfl); have c4 := @execFvClear_keeps P (hP.mono rfl)
  have c5 := @bankWrite_keeps P (hP.mono rfl); have c6 := @slotCtl_keeps P (hP.mono rfl); have c7 := @thrWrite_keeps P (hP.mono rfl)
  have c8 := @State_wr_keeps P (hP.mono rfl); have c9 := @spend_keeps _ P hP
  simp only [List.forall_mem_cons, List.not_mem_nil, false_implies, implies_true, and_true]
  refine ⟨?_, ?_, ?_, ?_, ?_, ?_, ?_, ?_, ?_⟩ <;> intro m i j a v s h0 <;> exact byKeep

theorem handlersLink_keeps (hP : Closed 0xffffffffffffffffffffffffffffffffffffffffffffffffffffffffffffffffffffffffffffffffffffffffffffffffffffffffffffffffffffffffffffffffffffffffffffffffffffffffffffffffffffffffffffffffffffffffffffffffffffffffffffffffffffffffffff P) : ∀ h ∈ handlersLink, ∀ m i j a v s, P s → P (h.2 m i j a v s) := by
  unfold handlersLink
  have c0 := @run_keeps P (hP.mono rfl); have c1 := @execColApply_keeps P (hP.mono rfl); have c2 := @eyeWrite_keeps P (hP.mono rfl)
  have c3 := @execOvrApply_keeps P (hP.mono rfl); have c4 := @trnWrite_keeps P (hP.mono rfl)
  have c5 := @portCfg_keeps P (hP.mono rfl); have c6 := @portCtl_keeps P (hP.mono rfl); have c7 := @tagCfg_keeps P (hP.mono rfl)
  have c8 := @execBlkEnable_keeps P (hP.mono rfl); have c9 := @lctlWrite_keeps P (hP.mono rfl)
  have c10 := @cascadeSync_keeps P (hP.mono rfl); have c11 := @State_wr_keeps P (hP.mono rfl)
  have c12 := @spend_keeps _ P hP
  simp only [List.forall_mem_cons, List.not_mem_nil, false_implies, implies_true, and_true]
  refine ⟨?_, ?_, ?_, ?_, ?_, ?_, ?_, ?_, ?_, ?_⟩ <;> intro m i j a v s h0 <;> exact byKeep

theorem handlersFrame_keeps (hP : Closed 0xffffffffffffffffffffffffffffffffffffffffffffffffffffffffffffffffffffffffffffffffffffffffffffffffffffffffffffffffffffffffffffffffffffffffffffffffffffffffffffffffffffffffffffffffffffffffffffffffffffffffffffffffffffffffffff P) : ∀ h ∈ handlersFrame, ∀ m i j a v s, P s → P (h.2 m i j a v s) := by
  unfold handlersFrame
  have c0 := @run_keeps P (hP.mono rfl); have c1 := @execPlaneSubCommand_keeps P (hP.mono rfl)
  have c2 := @execTcshareWrite_keeps P (hP.mono rfl); have c3 := @execEgqWrite_keeps P (hP.mono rfl)
  have c4 := @execCmarkWrite_keeps P (hP.mono rfl); have c5 := @execGateDisable_keeps P (hP.mono rfl)
  have c6 := @gclWrite_keeps P (hP.mono rfl); have c7 := @gclField_keeps P (hP.mono rfl); have c8 := @execQcfgWrite_keeps P (hP.mono rfl)
  have c9 := @execShapeWrite_keeps P (hP.mono rfl); have c10 := @refill_keeps P (hP.mono rfl)
  have c11 := @State_wr_keeps P (hP.mono rfl); have c12 := @spend_keeps _ P hP
  simp only [List.forall_mem_cons, List.not_mem_nil, false_implies, implies_true, and_true]
  refine ⟨?_, ?_, ?_, ?_, ?_, ?_, ?_, ?_, ?_, ?_, ?_, ?_, ?_⟩ <;> intro m i j a v s h0 <;> exact byKeep

theorem handlersUnit_keeps (hP : Closed 0xffffffffffffffffffffffffffffffffffffffffffffffffffffffffffffffffffffffffffffffffffffffffffffffffffffffffffffffffffffffffffffffffffffffffffffffffffffffffffffffffffffffffffffffffffffffffffffffffffffffffffffffffffffffffffff P) : ∀ h ∈ handlersUnit, ∀ m i j a v s, P s → P (h.2 m i j a v s) := by
  unfold handlersUnit
  have c0 := @run_keeps P (hP.mono rfl); have c1 := @execBindCommit_keeps P (hP.mono rfl)
  have c2 := @mctlWrite_keeps P (hP.mono rfl); have c3 := @execHmapWrite_keeps P (hP.mono rfl)
  have c4 := @scrubCfg_keeps P (hP.mono rfl); have c5 := @execRfConvert_keeps P (hP.mono rfl)
  have c6 := @execTallyProbe_keeps P (hP.mono rfl); have c7 := @frzWrite_keeps P (hP.mono rfl)
  have c8 := @eraseWrite_keeps P (hP.mono rfl); have c9 := @execFcfgWrite_keeps P (hP.mono rfl)
  have c10 := @lbWrite_keeps P (hP.mono rfl); have c11 := @injWrite_keeps P (hP.mono rfl)
  have c12 := @State_wr_keeps P (hP.mono rfl); have c13 := @spend_keeps _ P hP
  simp only [List.forall_mem_cons, List.not_mem_nil, false_implies, implies_true, and_true]
  refine ⟨?_, ?_, ?_, ?_, ?_, ?_, ?_, ?_, ?_, ?_, ?_⟩ <;> intro m i j a v s h0 <;> exact byKeep

theorem handlersAt_keeps (hP : Closed 0xffffffffffffffffffffffffffffffffffffffffffffffffffffffffffffffffffffffffffffffffffffffffffffffffffffffffffffffffffffffffffffffffffffffffffffffffffffffffffffffffffffffffffffffffffffffffffffffffffffffffffffffffffffffffffff P) {b} : ∀ h ∈ handlersAt b, ∀ m i j a v s, P s → P (h.2 m i j a v s) := by
  have c0 := handlersGlobal_keeps (hP.mono rfl); have c1 := handlersMgmt_keeps (hP.mono rfl); have c2 := handlersSec_keeps (hP.mono rfl)
  have c3 := handlersLink_keeps (hP.mono rfl); have c4 := handlersFrame_keeps (hP.mono rfl); have c5 := handlersUnit_keeps (hP.mono rfl)
  unfold handlersAt
  repeat' split
  all_goals assumption

theorem handlerOf_keeps (hP : Closed 0xffffffffffffffffffffffffffffffffffffffffffffffffffffffffffffffffffffffffffffffffffffffffffffffffffffffffffffffffffffffffffffffffffffffffffffffffffffffffffffffffffffffffffffffffffffffffffffffffffffffffffffffffffffffffffff P) {a f} (hf : handlerOf a = some f) : ∀ m s v, P s → P (f m s v) := by
  unfold handlerOf at hf
  obtain ⟨h, hm, hh⟩ := List.exists_of_findSome?_eq_some hf
  split at hh
  · cases hh
    intro m s v h0
    exact handlersAt_keeps (hP.mono rfl) h hm m _ _ a v s h0
  · cases hh
theorem regWrite_keeps (hP : Closed 0xffffffffffffffffffffffffffffffffffffffffffffffffffffffffffffffffffffffffffffffffffffffffffffffffffffffffffffffffffffffffffffffffffffffffffffffffffffffffffffffffffffffffffffffffffffffffffffffffffffffffffffffffffffffffffff P) {a1 a2 a3 a4} (h4 : P a4) : P (regWrite a1 a2 a3 a4) := by
  have c0 := @bankWrite_keeps P (hP.mono rfl); have c1 := @State_wr_keeps P (hP.mono rfl)
  unfold regWrite
  refine iteP h4 (iteP (c0 h4) ?_)
  split
  · next f hf => exact handlerOf_keeps (hP.mono rfl) hf _ _ _ h4
  · exact c1 h4

theorem busWrite_keeps (hP : Closed 0xffffffffffffffffffffffffffffffffffffffffffffffffffffffffffffffffffffffffffffffffffffffffffffffffffffffffffffffffffffffffffffffffffffffffffffffffffffffffffffffffffffffffffffffffffffffffffffffffffffffffffffffffffffffffffff P) {a1 a2 a3 a4 a5} (h5 : P a5) : Ans P (busWrite a1 a2 a3 a4 a5) := by
  unfold busWrite
  have c0 := @nocDiscard_keeps P (hP.mono rfl); have c1 := @badForm_keeps P (hP.mono rfl)
  have c2 := @atAddr_keeps P (hP.mono rfl); have c3 := @regWrite_keeps P (hP.mono rfl)
  exact byKeep

theorem policyRun_keeps (hP : Closed 0xffffffffffffffffffffffffffffffffffffffffffffffffffffffffffffffffffffffffffffffffffffffffffffffffffffffffffffffffffffffffffffffffffffffffffffffffffffffffffffffffffffffffffffffffffffffffffffffffffffffffffffffffffffffffffff P) {a1} (h1 : P a1) : P (policyRun a1) := by
  unfold policyRun
  have c0 := @forL_keeps _ P hP; have c1 := @regWrite_keeps P (hP.mono rfl)
  exact byKeep

theorem execPageProgramDone_keeps (hP : Closed 0xffffffffffffffffffffffffffffffffffffffffffffffffffffffffffffffffffffffffffffffffffffffffffffffffffffffffffffffffffffffffffffffffffffffffffffffffffffffffffffffffffffffffffffffffffffffffffffffffffffffffffffffffffffffffffff P) {a1} (h1 : P a1) : Ans P (execPageProgramDone a1) := by
  unfold execPageProgramDone
  have c0 := @policyRun_keeps P (hP.mono rfl); have c1 := @pageDone_keeps P (hP.mono rfl)
  exact byKeep

theorem execRecordReadback_keeps (hP : Closed 0xffffffffffffffffffffffffffffffffffffffffffffffffffffffffffffffffffffffffffffffffffffffffffffffffffffffffffffffffffffffffffffffffffffffffffffffffffffffffffffffffffffffffffffffffffffffffffffffffffffffffffffffffffffffffffff P) {a1 a2} (h2 : P a2) : Ans P (execRecordReadback a1 a2) := by
  unfold execRecordReadback
  have c0 := @policyRun_keeps P (hP.mono rfl); have c1 := @readBack_keeps P (hP.mono rfl)
  exact byKeep

theorem execGctlRst_keeps (hP : Closed 0xffffffffffffffffffffffffffffffffffffffffffffffffffffffffffffffffffffffffffffffffffffffffffffffffffffffffffffffffffffffffffffffffffffffffffffffffffffffffffffffffffffffffffffffffffffffffffffffffffffffffffffffffffffffffffff P) {a1 a2} (h2 : P a2) : Ans P (execGctlRst a1 a2) := by
  unfold execGctlRst
  have c0 := @atReg_keeps P (hP.mono rfl); have c1 := @rstWrite_keeps P (hP.mono rfl); have c2 := @set_keeps _ P hP
  exact byKeep

theorem execGctlBrst_keeps (hP : Closed 0xffffffffffffffffffffffffffffffffffffffffffffffffffffffffffffffffffffffffffffffffffffffffffffffffffffffffffffffffffffffffffffffffffffffffffffffffffffffffffffffffffffffffffffffffffffffffffffffffffffffffffffffffffffc0113000 P) {a1 a2} (h2 : P a2) : Ans P (execGctlBrst a1 a2) := by
  unfold execGctlBrst
  have c0 := @atReg_keeps P (hP.mono rfl); have c1 := @brstWrite_keeps P (hP.mono rfl); have c2 := @set_keeps _ P hP
  exact byKeep

theorem execRegisterWrite_keeps (hP : Closed 0xffffffffffffffffffffffffffffffffffffffffffffffffffffffffffffffffffffffffffffffffffffffffffffffffffffffffffffffffffffffffffffffffffffffffffffffffffffffffffffffffffffffffffffffffffffffffffffffffffffffffffffffffffffffffffff P) {a1 a2 a3 a4} (h4 : P a4) : Ans P (execRegisterWrite a1 a2 a3 a4) := by
  unfold execRegisterWrite
  have c0 := @busWrite_keeps P (hP.mono rfl)
  exact byKeep

theorem execReadClear_keeps (hP : Closed 0xffffffffffffffffffffffffffffffffffffffffffffffffffffffffffffffffffffffffffffffffffffffffffffffffffffffffffffffffffffffffffffffffffffffffffffffffffffffffffffffffffffffffffffffffffffffffffffffffffffffffffffffffffffc22000c5 P) {a1 a2 a3} (h3 : P a3) : Ans P (execReadClear a1 a2 a3) := by
  unfold execReadClear
  have c0 := @busRead_keeps P (hP.mono rfl)
  exact byKeep

theorem execLowWordRead_keeps (hP : Closed 0xffffffffffffffffffffffffffffffffffffffffffffffffffffffffffffffffffffffffffffffffffffffffffffffffffffffffffffffffffffffffffffffffffffffffffffffffffffffffffffffffffffffffffffffffffffffffffffffffffffffffffffffffffffc22000c5 P) {a1 a2 a3} (h3 : P a3) : Ans P (execLowWordRead a1 a2 a3) := by
  unfold execLowWordRead
  have c0 := @busRead_keeps P (hP.mono rfl)
  exact byKeep

theorem execHighWordRead_keeps (hP : Closed 0xffffffffffffffffffffffffffffffffffffffffffffffffffffffffffffffffffffffffffffffffffffffffffffffffffffffffffffffffffffffffffffffffffffffffffffffffffffffffffffffffffffffffffffffffffffffffffffffffffffffffffffffffffffc22000c5 P) {a1 a2 a3} (h3 : P a3) : Ans P (execHighWordRead a1 a2 a3) := by
  unfold execHighWordRead
  have c0 := @busRead_keeps P (hP.mono rfl)
  exact byKeep

theorem execBadFormAccess_keeps (hP : Closed 0x1000100000002000000001e00008c0400000044 P) {a1 a2 a3 a4} (h4 : P a4) : Ans P (execBadFormAccess a1 a2 a3 a4) := by
  unfold execBadFormAccess
  have c0 := @nocDiscard_keeps P (hP.mono rfl); have c1 := @badForm_keeps P (hP.mono rfl)
  exact byKeep

theorem execPolicySubmit_keeps (hP : Closed 0x1d00000000000000000000000000000000000000000000400000 P) {a1 a2} (h2 : P a2) : Ans P (execPolicySubmit a1 a2) := by
  unfold execPolicySubmit
  have c0 := @atReg_keeps P (hP.mono rfl); have c1 := @polWrite_keeps P (hP.mono rfl); have c2 := @set_keeps _ P hP
  exact byKeep

theorem dapMgmt_keeps (hP : Closed 0xffffffffffffffffffffffffffffffffffffffffffffffffffffffffffffffffffffffffffffffffffffffffffffffffffffffffffffffffffffffffffffffffffffffffffffffffffffffffffffffffffffffffffffffffffffffffffffffffffffffffffffffffffffffffffff P) {a1 a2 a3 a4} (h4 : P a4) : Ans P (dapMgmt a1 a2 a3 a4) := by
  unfold dapMgmt
  have c0 := @perf_keeps P (hP.mono rfl); have c1 := @actDeny_keeps P (hP.mono rfl); have c2 := @emit_keeps _ P hP
  have c3 := @busWrite_keeps P (hP.mono rfl); have c4 := @busRead_keeps P (hP.mono rfl)
  exact byKeep

theorem dapPool_keeps (hP : Closed 0xc000000000000000000000000000000000000000000000000000000001800000200000001000000000000009f000300000000000000000000000000000000000000000a22000010000003ffc100000000000000000000000000000000000000000000000001e00008c04127560cc P) {a1 a2 a3 a4 a5} (h5 : P a5) : P (dapPool a1 a2 a3 a4 a5) := by
  unfold dapPool
  have c0 := @freshId_keeps P (hP.mono rfl); have c1 := @takeIn_keeps P (hP.mono rfl)
  exact byKeep

theorem execDapAccess_keeps (hP : Closed 0xffffffffffffffffffffffffffffffffffffffffffffffffffffffffffffffffffffffffffffffffffffffffffffffffffffffffffffffffffffffffffffffffffffffffffffffffffffffffffffffffffffffffffffffffffffffffffffffffffffffffffffffffffffffffffff P) {a1 a2 a3 a4 a5 a6} (h6 : P a6) : Ans P (execDapAccess a1 a2 a3 a4 a5 a6) := by
  unfold execDapAccess
  have c0 := @dapPool_keeps P (hP.mono rfl); have c1 := @dapMgmt_keeps P (hP.mono rfl)
  exact byKeep

theorem wakeDeliver_keeps (hP : Closed 0xffffffffffffffffffffffffffffffffffffffffffffffffffffffffffffffffffffffffffffffffffffffffffffffffffffffffffffffffffffffffffffffffffffffffffffffffffffffffffffffffffffffffffffffffffffffffffffffffffffffffffffffffffffffffffff P) {a1 a2} (h2 : P a2) : P (wakeDeliver a1 a2) := by
  unfold wakeDeliver
  have c0 := @run_keeps P (hP.mono rfl); have c1 := @execRegisterWrite_keeps P (hP.mono rfl)
  have c2 := @execReadClear_keeps P (hP.mono rfl); have c3 := @execLowWordRead_keeps P (hP.mono rfl)
  have c4 := @execHighWordRead_keeps P (hP.mono rfl); have c5 := @execBlkEnable_keeps P (hP.mono rfl)
  have c6 := @execLaneSubCommand_keeps P (hP.mono rfl); have c7 := @execLinkHandoffCommand_keeps P (hP.mono rfl)
  have c8 := @execFreeze_keeps P (hP.mono rfl); have c9 := @execSave_keeps P (hP.mono rfl)
  have c10 := @execRestore_keeps P (hP.mono rfl); have c11 := @execUnfreeze_keeps P (hP.mono rfl)
  have c12 := @execFreezeDiscard_keeps P (hP.mono rfl); have c13 := @execCryptoErase_keeps P (hP.mono rfl)
  have c14 := @execFcfgWrite_keeps P (hP.mono rfl); have c15 := @execSqDoorbell_keeps P (hP.mono rfl)
  have c16 := @execCqDoorbell_keeps P (hP.mono rfl); have c17 := @execQueueEnable_keeps P (hP.mono rfl)
  have c18 := @execFunctionReset_keeps P (hP.mono rfl); have c19 := @execWindowDescriptor_keeps P (hP.mono rfl)
  have c20 := @execCloseDoorbell_keeps P (hP.mono rfl); have c21 := @execSlotRegistration_keeps P (hP.mono rfl)
  have c22 := @execContribution_keeps P (hP.mono rfl); have c23 := @execBar2StrayWrite_keeps P (hP.mono rfl)
  have c24 := @execFarAtomicCommand_keeps P (hP.mono rfl)
  exact byKeep

theorem execDomainOn_keeps (hP : Closed 0xffffffffffffffffffffffffffffffffffffffffffffffffffffffffffffffffffffffffffffffffffffffffffffffffffffffffffffffffffffffffffffffffffffffffffffffffffffffffffffffffffffffffffffffffffffffffffffffffffffffffffffffffffffffffffff P) {a1 a2} (h2 : P a2) : Ans P (execDomainOn a1 a2) := by
  unfold execDomainOn
  have c0 := @forL_keeps _ P hP; have c1 := @wakeDeliver_keeps P (hP.mono rfl); have c2 := @setPd_keeps P (hP.mono rfl)
  have c3 := @setPdState_keeps P (hP.mono rfl)
  exact byKeep

theorem exec_keeps (hP : Closed 0xffffffffffffffffffffffffffffffffffffffffffffffffffffffffffffffffffffffffffffffffffffffffffffffffffffffffffffffffffffffffffffffffffffffffffffffffffffffffffffffffffffffffffffffffffffffffffffffffffffffffffffffffffffffffffff P) {c s} (hS : P s) : Ans P (exec c s) := by
  cases c with
  | coldReset straps flash => exact execColdReset_keeps (hP.mono rfl) hS
  | warmReset => exact execWarmReset_keeps (hP.mono rfl) hS
  | gctlRst v => exact execGctlRst_keeps (hP.mono rfl) hS
  | gctlBrst v => exact execGctlBrst_keeps (hP.mono rfl) hS
  | registerWrite m addr v => exact execRegisterWrite_keeps (hP.mono rfl) hS
  | readClear m addr => exact execReadClear_keeps (hP.mono rfl) hS
  | lowWordRead m addr => exact execLowWordRead_keeps (hP.mono rfl) hS
  | highWordRead m addr => exact execHighWordRead_keeps (hP.mono rfl) hS
  | badFormAccess m write addr => exact execBadFormAccess_keeps (hP.mono rfl) hS
  | assistWrite v => exact execAssistWrite_keeps (hP.mono rfl) hS
  | decisionTimeout decid => exact execDecisionTimeout_keeps (hP.mono rfl) hS
  | fmPortLinkDown => exact execFmPortLinkDown_keeps (hP.mono rfl) hS
  | mctpSessionExpiry => exact execMctpSessionExpiry_keeps (hP.mono rfl) hS
  | colApply c v => exact execColApply_keeps (hP.mono rfl) hS
  | receiveSymbolError c l => exact execReceiveSymbolError_keeps (hP.mono rfl) hS
  | elasticBufferOverrun c l => exact execElasticBufferOverrun_keeps (hP.mono rfl) hS
  | coeffRequest c l r => exact execCoeffRequest_keeps (hP.mono rfl) hS
  | ovrApply c l v => exact execOvrApply_keeps (hP.mono rfl) hS
  | eyeScanStart c v => exact execEyeScanStart_keeps (hP.mono rfl) hS
  | eyeScanAbort c v => exact execEyeScanAbort_keeps (hP.mono rfl) hS
  | eyePointDone c mismatches => exact execEyePointDone_keeps (hP.mono rfl) hS
  | marginCommand c l m => exact execMarginCommand_keeps (hP.mono rfl) hS
  | eqComplete p e => exact execEqComplete_keeps (hP.mono rfl) hS
  | eqFail p rate => exact execEqFail_keeps (hP.mono rfl) hS
  | quickEyeDone p eyes => exact execQuickEyeDone_keeps (hP.mono rfl) hS
  | trainingAttemptFail p => exact execTrainingAttemptFail_keeps (hP.mono rfl) hS
  | retryIntervalExpiry p => exact execRetryIntervalExpiry_keeps (hP.mono rfl) hS
  | retrain c k v => exact execRetrain_keeps (hP.mono rfl) hS
  | linkPowerStateChange p pw => exact execLinkPowerStateChange_keeps (hP.mono rfl) hS
  | columnSleepEntry c => exact execColumnSleepEntry_keeps (hP.mono rfl) hS
  | columnWake c p => exact execColumnWake_keeps (hP.mono rfl) hS
  | portCfgWrite p v => exact execPortCfgWrite_keeps (hP.mono rfl) hS
  | tagcfgWrite p v => exact execTagcfgWrite_keeps (hP.mono rfl) hS
  | portUp p n => exact execPortUp_keeps (hP.mono rfl) hS
  | dlDown p => exact execDlDown_keeps (hP.mono rfl) hS
  | hotReset r => exact execHotReset_keeps (hP.mono rfl) hS
  | dpcTrigger p reason => exact execDpcTrigger_keeps (hP.mono rfl) hS
  | portDisable p v => exact execPortDisable_keeps (hP.mono rfl) hS
  | forceDown p v => exact execForceDown_keeps (hP.mono rfl) hS
  | flushComplete p => exact execFlushComplete_keeps (hP.mono rfl) hS
  | ctoExpiry p tag => exact execCtoExpiry_keeps (hP.mono rfl) hS
  | tagQuarantineExpiry p tag => exact execTagQuarantineExpiry_keeps (hP.mono rfl) hS
  | tagAvailable p => exact execTagAvailable_keeps (hP.mono rfl) hS
  | linkRequest x r => exact execLinkRequest_keeps (hP.mono rfl) hS
  | linkResponse x r => exact execLinkResponse_keeps (hP.mono rfl) hS
  | flitCheckFail p => exact execFlitCheckFail_keeps (hP.mono rfl) hS
  | sharedPoolMove x t => exact execSharedPoolMove_keeps (hP.mono rfl) hS
  | schedulerSlot => exact execSchedulerSlot_keeps (hP.mono rfl) hS
  | crossingComplete i0 => exact execCrossingComplete_keeps (hP.mono rfl) hS
  | crossingError i0 plane stale => exact execCrossingError_keeps (hP.mono rfl) hS
  | replayRequest i0 e t => exact execReplayRequest_keeps (hP.mono rfl) hS
  | sparePlaneCheck ok => exact execSparePlaneCheck_keeps (hP.mono rfl) hS
  | planeSubCommand v => exact execPlaneSubCommand_keeps (hP.mono rfl) hS
  | substitutionComplete stallNs => exact execSubstitutionComplete_keeps (hP.mono rfl) hS
  | tcshareWrite x t v => exact execTcshareWrite_keeps (hP.mono rfl) hS
  | egqWrite x t v => exact execEgqWrite_keeps (hP.mono rfl) hS
  | cmarkWrite x v => exact execCmarkWrite_keeps (hP.mono rfl) hS
  | egressVisit x => exact execEgressVisit_keeps (hP.mono rfl) hS
  | gateSpill p => exact execGateSpill_keeps (hP.mono rfl) hS
  | qcfgWrite p t v => exact execQcfgWrite_keeps (hP.mono rfl) hS
  | shapeWrite p t v => exact execShapeWrite_keeps (hP.mono rfl) hS
  | gateBoundary p => exact execGateBoundary_keeps (hP.mono rfl) hS
  | gclCommit p v => exact execGclCommit_keeps (hP.mono rfl) hS
  | gclCancel p v => exact execGclCancel_keeps (hP.mono rfl) hS
  | pendingListStart p => exact execPendingListStart_keeps (hP.mono rfl) hS
  | gateDisable p v => exact execGateDisable_keeps (hP.mono rfl) hS
  | egressSampleWindowEnd p => exact execEgressSampleWindowEnd_keeps (hP.mono rfl) hS
  | hdmCommit p t g => exact execHdmCommit_keeps (hP.mono rfl) hS
  | bindCommit v => exact execBindCommit_keeps (hP.mono rfl) hS
  | bindDiscard v => exact execBindDiscard_keeps (hP.mono rfl) hS
  | hostSlotPowerOff p vppb => exact execHostSlotPowerOff_keeps (hP.mono rfl) hS
  | unbindTimeout => exact execUnbindTimeout_keeps (hP.mono rfl) hS
  | commitPoint => exact execCommitPoint_keeps (hP.mono rfl) hS
  | bindDrainDone => exact execBindDrainDone_keeps (hP.mono rfl) hS
  | bindVppb index host vppb kind target => exact execBindVppb_keeps (hP.mono rfl) hS
  | unbindVppb host vppb mode => exact execUnbindVppb_keeps (hP.mono rfl) hS
  | setLdAllocations p allocs => exact execSetLdAllocations_keeps (hP.mono rfl) hS
  | fmApiCommand c => exact execFmApiCommand_keeps (hP.mono rfl) hS
  | migStart m v => exact execMigStart_keeps (hP.mono rfl) hS
  | mctlAbort m v => exact execMctlAbort_keeps (hP.mono rfl) hS
  | copyPassEnd m => exact execCopyPassEnd_keeps (hP.mono rfl) hS
  | migCheckpoint m => exact execMigCheckpoint_keeps (hP.mono rfl) hS
  | quiesceCopyDone m lenNs => exact execQuiesceCopyDone_keeps (hP.mono rfl) hS
  | quiesceTimeout m => exact execQuiesceTimeout_keeps (hP.mono rfl) hS
  | migCommit m => exact execMigCommit_keeps (hP.mono rfl) hS
  | homeRequestAccept n => exact execHomeRequestAccept_keeps (hP.mono rfl) hS
  | rdS n m => exact execRdS_keeps (hP.mono rfl) hS
  | rdA n m => exact execRdA_keeps (hP.mono rfl) hS
  | rdI n m => exact execRdI_keeps (hP.mono rfl) hS
  | invA n m => exact execInvA_keeps (hP.mono rfl) hS
  | wb n m => exact execWb_keeps (hP.mono rfl) hS
  | wr n m => exact execWr_keeps (hP.mono rfl) hS
  | cln n m => exact execCln_keeps (hP.mono rfl) hS
  | nop n m => exact execNop_keeps (hP.mono rfl) hS
  | atom n m => exact execAtom_keeps (hP.mono rfl) hS
  | conf n m => exact execConf_keeps (hP.mono rfl) hS
  | rsp n m => exact execRsp_keeps (hP.mono rfl) hS
  | pd n m => exact execPd_keeps (hP.mono rfl) hS
  | pc n m => exact execPc_keeps (hP.mono rfl) hS
  | requestOrdered n lk => exact execRequestOrdered_keeps (hP.mono rfl) hS
  | carryQueueAllocate n set => exact execCarryQueueAllocate_keeps (hP.mono rfl) hS
  | hmapWrite n b v => exact execHmapWrite_keeps (hP.mono rfl) hS
  | rfConvert v => exact execRfConvert_keeps (hP.mono rfl) hS
  | rfConvertDone => exact execRfConvertDone_keeps (hP.mono rfl) hS
  | scrubPass n errs => exact execScrubPass_keeps (hP.mono rfl) hS
  | departureSweepDone p => exact execDepartureSweepDone_keeps (hP.mono rfl) hS
  | atomicDone n lk => exact execAtomicDone_keeps (hP.mono rfl) hS
  | atomBoardIdle n lk => exact execAtomBoardIdle_keeps (hP.mono rfl) hS
  | tallyProbe n v => exact execTallyProbe_keeps (hP.mono rfl) hS
  | windowDescriptor f w aligned d => exact execWindowDescriptor_keeps (hP.mono rfl) hS
  | closeDoorbell f w => exact execCloseDoorbell_keeps (hP.mono rfl) hS
  | slotRegistration f w s0 whole d => exact execSlotRegistration_keeps (hP.mono rfl) hS
  | contribution f w s0 first whole poison lines => exact execContribution_keeps (hP.mono rfl) hS
  | bar2StrayWrite f offset => exact execBar2StrayWrite_keeps (hP.mono rfl) hS
  | resultWritesDone w => exact execResultWritesDone_keeps (hP.mono rfl) hS
  | windowTimerExpiry w => exact execWindowTimerExpiry_keeps (hP.mono rfl) hS
  | farAtomicCommand f engine1 aligned d => exact execFarAtomicCommand_keeps (hP.mono rfl) hS
  | sqDoorbell f q v => exact execSqDoorbell_keeps (hP.mono rfl) hS
  | cqDoorbell f v => exact execCqDoorbell_keeps (hP.mono rfl) hS
  | descriptorFetch f q ds => exact execDescriptorFetch_keeps (hP.mono rfl) hS
  | copy f q idx src bad => exact execCopy_keeps (hP.mono rfl) hS
  | fill f q idx => exact execFill_keeps (hP.mono rfl) hS
  | zero f q idx => exact execZero_keeps (hP.mono rfl) hS
  | crc f q idx src => exact execCrc_keeps (hP.mono rfl) hS
  | compare f q idx src dst => exact execCompare_keeps (hP.mono rfl) hS
  | atomic f q idx => exact execAtomic_keeps (hP.mono rfl) hS
  | reKey r tc => exact execReKey_keeps (hP.mono rfl) hS
  | migrate m block tc => exact execMigrate_keeps (hP.mono rfl) hS
  | descriptorDone f q idx status bytes => exact execDescriptorDone_keeps (hP.mono rfl) hS
  | cqEntryWrite f => exact execCqEntryWrite_keeps (hP.mono rfl) hS
  | cqCoalesceTimeout f => exact execCqCoalesceTimeout_keeps (hP.mono rfl) hS
  | queueEnable f q v => exact execQueueEnable_keeps (hP.mono rfl) hS
  | fcfgWrite f v => exact execFcfgWrite_keeps (hP.mono rfl) hS
  | freeze v => exact execFreeze_keeps (hP.mono rfl) hS
  | freezeComplete => exact execFreezeComplete_keeps (hP.mono rfl) hS
  | save v => exact execSave_keeps (hP.mono rfl) hS
  | restore v b => exact execRestore_keeps (hP.mono rfl) hS
  | unfreeze v => exact execUnfreeze_keeps (hP.mono rfl) hS
  | freezeDiscard v => exact execFreezeDiscard_keeps (hP.mono rfl) hS
  | functionReset f c => exact execFunctionReset_keeps (hP.mono rfl) hS
  | cryptoErase v => exact execCryptoErase_keeps (hP.mono rfl) hS
  | eraseZeroDone => exact execEraseZeroDone_keeps (hP.mono rfl) hS
  | codewordReceived n correctable corrected => exact execCodewordReceived_keeps (hP.mono rfl) hS
  | dataBead n h pkts => exact execDataBead_keeps (hP.mono rfl) hS
  | beadCrcFail n => exact execBeadCrcFail_keeps (hP.mono rfl) hS
  | idleBead n h credits => exact execIdleBead_keeps (hP.mono rfl) hS
  | retransmitTimeout n => exact execRetransmitTimeout_keeps (hP.mono rfl) hS
  | hello n cseq id link stepping domain mcand coarse hmapCrc nonce => exact execHello_keeps (hP.mono rfl) hS
  | helloAck n cseq macOk => exact execHelloAck_keeps (hP.mono rfl) hS
  | laneSub n cseq pos cwcnt => exact execLaneSub_keeps (hP.mono rfl) hS
  | laneSubAck n cseq pos cwcnt => exact execLaneSubAck_keeps (hP.mono rfl) hS
  | handoff n cseq failed rxexp => exact execHandoff_keeps (hP.mono rfl) hS
  | handoffAck n cseq failed rxexp => exact execHandoffAck_keeps (hP.mono rfl) hS
  | topo n bitmap => exact execTopo_keeps (hP.mono rfl) hS
  | depart n cseq dhn => exact execDepart_keeps (hP.mono rfl) hS
  | departDone n cseq dhn => exact execDepartDone_keeps (hP.mono rfl) hS
  | masterXfer n cseq id time => exact execMasterXfer_keeps (hP.mono rfl) hS
  | masterChange => exact execMasterChange_keeps (hP.mono rfl) hS
  | sync n t => exact execSync_keeps (hP.mono rfl) hS
  | dreq n t => exact execDreq_keeps (hP.mono rfl) hS
  | drsp n t => exact execDrsp_keeps (hP.mono rfl) hS
  | timeBeadSend n => exact execTimeBeadSend_keeps (hP.mono rfl) hS
  | topoSend => exact execTopoSend_keeps (hP.mono rfl) hS
  | ctrlResend n => exact execCtrlResend_keeps (hP.mono rfl) hS
  | ctrlTimeout n => exact execCtrlTimeout_keeps (hP.mono rfl) hS
  | blkEnable n v => exact execBlkEnable_keeps (hP.mono rfl) hS
  | trainComplete n locked => exact execTrainComplete_keeps (hP.mono rfl) hS
  | blkStateTimeout n => exact execBlkStateTimeout_keeps (hP.mono rfl) hS
  | blkRetryInterval n => exact execBlkRetryInterval_keeps (hP.mono rfl) hS
  | laneLockLoss n l => exact execLaneLockLoss_keeps (hP.mono rfl) hS
  | laneErrorWindow n l => exact execLaneErrorWindow_keeps (hP.mono rfl) hS
  | laneSubCommand n v => exact execLaneSubCommand_keeps (hP.mono rfl) hS
  | spareLaneFail n => exact execSpareLaneFail_keeps (hP.mono rfl) hS
  | linkHandoffCommand n v => exact execLinkHandoffCommand_keeps (hP.mono rfl) hS
  | linkSetFenceDone d => exact execLinkSetFenceDone_keeps (hP.mono rfl) hS
  | unreachableTimeout d => exact execUnreachableTimeout_keeps (hP.mono rfl) hS
  | noiseSourceFail src1 => exact execNoiseSourceFail_keeps (hP.mono rfl) hS
  | domainKeySet session key => exact execDomainKeySet_keeps (hP.mono rfl) hS
  | rotArm r v => exact execRotArm_keeps (hP.mono rfl) hS
  | rctlCancel r v => exact execRctlCancel_keeps (hP.mono rfl) hS
  | rotTimeReached r => exact execRotTimeReached_keeps (hP.mono rfl) hS
  | rekeyBlockDone r => exact execRekeyBlockDone_keeps (hP.mono rfl) hS
  | rotDrainDone r => exact execRotDrainDone_keeps (hP.mono rfl) hS
  | ideKm p session cachemem kset key => exact execIdeKm_keeps (hP.mono rfl) hS
  | kSetGo p cachemem kset => exact execKSetGo_keeps (hP.mono rfl) hS
  | ideCheckFail p cachemem => exact execIdeCheckFail_keeps (hP.mono rfl) hS
  | keyExchange doe => exact execKeyExchange_keeps (hP.mono rfl) hS
  | getMeasurements doe index => exact execGetMeasurements_keeps (hP.mono rfl) hS
  | spdmRequest doe code => exact execSpdmRequest_keeps (hP.mono rfl) hS
  | endSession session => exact execEndSession_keeps (hP.mono rfl) hS
  | heartbeatTimeout session => exact execHeartbeatTimeout_keeps (hP.mono rfl) hS
  | fvClear v => exact execFvClear_keeps (hP.mono rfl) hS
  | actCommit v => exact execActCommit_keeps (hP.mono rfl) hS
  | stagingReloadDone => exact execStagingReloadDone_keeps (hP.mono rfl) hS
  | actDrainDone => exact execActDrainDone_keeps (hP.mono rfl) hS
  | lcArm m v => exact execLcArm_keeps (hP.mono rfl) hS
  | lcArmExpiry => exact execLcArmExpiry_keeps (hP.mono rfl) hS
  | lcGo m v token fuseOk => exact execLcGo_keeps (hP.mono rfl) hS
  | dapAccess write pool ld addr v => exact execDapAccess_keeps (hP.mono rfl) hS
  | slotTick n s0 => exact execSlotTick_keeps (hP.mono rfl) hS
  | seatingDetected n => exact execSeatingDetected_keeps (hP.mono rfl) hS
  | qualifyComplete n => exact execQualifyComplete_keeps (hP.mono rfl) hS
  | insertionDelayEnd n => exact execInsertionDelayEnd_keeps (hP.mono rfl) hS
  | seatingLost n => exact execSeatingLost_keeps (hP.mono rfl) hS
  | inrushTimeout n => exact execInrushTimeout_keeps (hP.mono rfl) hS
  | faultTimerExpiry n => exact execFaultTimerExpiry_keeps (hP.mono rfl) hS
  | fastTrip n => exact execFastTrip_keeps (hP.mono rfl) hS
  | retryTimerEnd n => exact execRetryTimerEnd_keeps (hP.mono rfl) hS
  | pgDelayEnd n => exact execPgDelayEnd_keeps (hP.mono rfl) hS
  | warnClear n => exact execWarnClear_keeps (hP.mono rfl) hS
  | retriesClear n => exact execRetriesClear_keeps (hP.mono rfl) hS
  | energyLimit n => exact execEnergyLimit_keeps (hP.mono rfl) hS
  | fetDegraded n => exact execFetDegraded_keeps (hP.mono rfl) hS
  | fetShort n => exact execFetShort_keeps (hP.mono rfl) hS
  | dischargeTimeout n => exact execDischargeTimeout_keeps (hP.mono rfl) hS
  | slotOn n v => exact execSlotOn_keeps (hP.mono rfl) hS
  | slotOnAt n v => exact execSlotOnAt_keeps (hP.mono rfl) hS
  | onatReached n => exact execOnatReached_keeps (hP.mono rfl) hS
  | slotOff n v => exact execSlotOff_keeps (hP.mono rfl) hS
  | slotClear n v => exact execSlotClear_keeps (hP.mono rfl) hS
  | slotApply n v => exact execSlotApply_keeps (hP.mono rfl) hS
  | vinEarlyWarning vin => exact execVinEarlyWarning_keeps (hP.mono rfl) hS
  | vinLockout vin => exact execVinLockout_keeps (hP.mono rfl) hS
  | slotDiePowerOn vin => exact execSlotDiePowerOn_keeps (hP.mono rfl) hS
  | thresholdWrite thr1 v => exact execThresholdWrite_keeps (hP.mono rfl) hS
  | errorRecord r => exact execErrorRecord_keeps (hP.mono rfl) hS
  | recordMerge r => exact execRecordMerge_keeps (hP.mono rfl) hS
  | errorLineEdge line why => exact execErrorLineEdge_keeps (hP.mono rfl) hS
  | stormEnd src => exact execStormEnd_keeps (hP.mono rfl) hS
  | faultnQuietRelease => exact execFaultnQuietRelease_keeps (hP.mono rfl) hS
  | faultnClr v => exact execFaultnClr_keeps (hP.mono rfl) hS
  | fltRheadWrite v => exact execFltRheadWrite_keeps (hP.mono rfl) hS
  | coreHeartbeat c => exact execCoreHeartbeat_keeps (hP.mono rfl) hS
  | heartbeatLoss c => exact execHeartbeatLoss_keeps (hP.mono rfl) hS
  | bringInComplete cls i0 => exact execBringInComplete_keeps (hP.mono rfl) hS
  | fenceRelease v => exact execFenceRelease_keeps (hP.mono rfl) hS
  | releaseTestDone pass => exact execReleaseTestDone_keeps (hP.mono rfl) hS
  | releaseTimeout => exact execReleaseTimeout_keeps (hP.mono rfl) hS
  | eventRaised src cause payload => exact execEventRaised_keeps (hP.mono rfl) hS
  | claim m c => exact execClaim_keeps (hP.mono rfl) hS
  | complete m c v => exact execComplete_keeps (hP.mono rfl) hS
  | ringRecordWrite => exact execRingRecordWrite_keeps (hP.mono rfl) hS
  | ringHeadWrite v => exact execRingHeadWrite_keeps (hP.mono rfl) hS
  | ringCtlWrite v => exact execRingCtlWrite_keeps (hP.mono rfl) hS
  | holdoffEnd g ring => exact execHoldoffEnd_keeps (hP.mono rfl) hS
  | wakeEdge line stopped => exact execWakeEdge_keeps (hP.mono rfl) hS
  | wakeEvent line => exact execWakeEvent_keeps (hP.mono rfl) hS
  | perfSelWrite i0 k v => exact execPerfSelWrite_keeps (hP.mono rfl) hS
  | counterOverflow i0 k => exact execCounterOverflow_keeps (hP.mono rfl) hS
  | perfFreeze v => exact execPerfFreeze_keeps (hP.mono rfl) hS
  | freezeBoundary => exact execFreezeBoundary_keeps (hP.mono rfl) hS
  | snapshot => exact execSnapshot_keeps (hP.mono rfl) hS
  | bwWindowEnd => exact execBwWindowEnd_keeps (hP.mono rfl) hS
  | sampleRecord req latNs homeLat poolLat => exact execSampleRecord_keeps (hP.mono rfl) hS
  | tsEnable v => exact execTsEnable_keeps (hP.mono rfl) hS
  | bootRelease v => exact execBootRelease_keeps (hP.mono rfl) hS
  | jreset v => exact execJreset_keeps (hP.mono rfl) hS
  | pageProgramDone => exact execPageProgramDone_keeps (hP.mono rfl) hS
  | recordReadback matches_ => exact execRecordReadback_keeps (hP.mono rfl) hS
  | compactionStart => exact execCompactionStart_keeps (hP.mono rfl) hS
  | compact v => exact execCompact_keeps (hP.mono rfl) hS
  | compactionSwitch => exact execCompactionSwitch_keeps (hP.mono rfl) hS
  | pwrfail => exact execPwrfail_keeps (hP.mono rfl) hS
  | sealRelease => exact execSealRelease_keeps (hP.mono rfl) hS
  | policySubmit v => exact execPolicySubmit_keeps (hP.mono rfl) hS
  | update v img => exact execUpdate_keeps (hP.mono rfl) hS
  | updateDone ok => exact execUpdateDone_keeps (hP.mono rfl) hS
  | dirQueue d => exact execDirQueue_keeps (hP.mono rfl) hS
  | dirThrottle d mask => exact execDirThrottle_keeps (hP.mono rfl) hS
  | slotGo d => exact execSlotGo_keeps (hP.mono rfl) hS
  | slotDeny d => exact execSlotDeny_keeps (hP.mono rfl) hS
  | eqAccept d => exact execEqAccept_keeps (hP.mono rfl) hS
  | eqRedo d preset => exact execEqRedo_keeps (hP.mono rfl) hS
  | eqOverride d taps => exact execEqOverride_keeps (hP.mono rfl) hS
  | ucRecover d => exact execUcRecover_keeps (hP.mono rfl) hS
  | ucRecoverNodec via ld => exact execUcRecoverNodec_keeps (hP.mono rfl) hS
  | ucKeep d => exact execUcKeep_keeps (hP.mono rfl) hS
  | migGo d => exact execMigGo_keeps (hP.mono rfl) hS
  | migPass d => exact execMigPass_keeps (hP.mono rfl) hS
  | migAbort d => exact execMigAbort_keeps (hP.mono rfl) hS
  | spareGo d => exact execSpareGo_keeps (hP.mono rfl) hS
  | spareHold d => exact execSpareHold_keeps (hP.mono rfl) hS
  | rotGo d => exact execRotGo_keeps (hP.mono rfl) hS
  | rotDefer d time => exact execRotDefer_keeps (hP.mono rfl) hS
  | rotCancel d => exact execRotCancel_keeps (hP.mono rfl) hS
  | sumExtend d us => exact execSumExtend_keeps (hP.mono rfl) hS
  | sumPublish d => exact execSumPublish_keeps (hP.mono rfl) hS
  | sumAbort d => exact execSumAbort_keeps (hP.mono rfl) hS
  | ownerKeySet via hash fuseOk => exact execOwnerKeySet_keeps (hP.mono rfl) hS
  | mctpMessage fmApi => exact execMctpMessage_keeps (hP.mono rfl) hS
  | nocRequestInject r q => exact execNocRequestInject_keeps (hP.mono rfl) hS
  | cdcOverrun crossing unit => exact execCdcOverrun_keeps (hP.mono rfl) hS
  | powerDownStart d => exact execPowerDownStart_keeps (hP.mono rfl) hS
  | powerDownAbort d => exact execPowerDownAbort_keeps (hP.mono rfl) hS
  | pointOfNoReturn d => exact execPointOfNoReturn_keeps (hP.mono rfl) hS
  | minOffExpiry d => exact execMinOffExpiry_keeps (hP.mono rfl) hS
  | domainOn d => exact execDomainOn_keeps (hP.mono rfl) hS
  | domainWake d v => exact execDomainWake_keeps (hP.mono rfl) hS
  | trefLoss pps => exact execTrefLoss_keeps (hP.mono rfl) hS
  | trefLock => exact execTrefLock_keeps (hP.mono rfl) hS
  | ppsEdge second => exact execPpsEdge_keeps (hP.mono rfl) hS
  | timeStep v => exact execTimeStep_keeps (hP.mono rfl) hS
  | timeSlew v => exact execTimeSlew_keeps (hP.mono rfl) hS
  | ppsOutSecond => exact execPpsOutSecond_keeps (hP.mono rfl) hS
  | ptmRequest p => exact execPtmRequest_keeps (hP.mono rfl) hS
  | fmPerst => exact execFmPerst_keeps (hP.mono rfl) hS
  | extest => exact execExtest_keeps (hP.mono rfl) hS
  | idcode => exact execIdcode_keeps (hP.mono rfl) hS
  | samplePreload => exact execSamplePreload_keeps (hP.mono rfl) hS
  | clamp => exact execClamp_keeps (hP.mono rfl) hS
  | highz => exact execHighz_keeps (hP.mono rfl) hS
  | extestPulse => exact execExtestPulse_keeps (hP.mono rfl) hS
  | extestTrain => exact execExtestTrain_keeps (hP.mono rfl) hS
  | dapacc => exact execDapacc_keeps (hP.mono rfl) hS
  | bypass => exact execBypass_keeps (hP.mono rfl) hS
  | jtagDeselect => exact execJtagDeselect_keeps (hP.mono rfl) hS
  | loopbackNear u v => exact execLoopbackNear_keeps (hP.mono rfl) hS
  | loopbackFar u v => exact execLoopbackFar_keeps (hP.mono rfl) hS
  | loopbackLead u v => exact execLoopbackLead_keeps (hP.mono rfl) hS
  | patternControl u v => exact execPatternControl_keeps (hP.mono rfl) hS
  | injectArm v => exact execInjectArm_keeps (hP.mono rfl) hS
  | linkRecovery p move => exact execLinkRecovery_keeps (hP.mono rfl) hS
  | columnPllLock c => exact execColumnPllLock_keeps (hP.mono rfl) hS
  | fmPortLinkUp => exact execFmPortLinkUp_keeps (hP.mono rfl) hS
  | blockEraseDone => exact execBlockEraseDone_keeps (hP.mono rfl) hS
  | linkCreditUpdate p list hdr data => exact execLinkCreditUpdate_keeps (hP.mono rfl) hS
  | patternCheckLock u l lock => exact execPatternCheckLock_keeps (hP.mono rfl) hS

/-- A property that is closed over every part, whatever waits in the queue, survives every step. -/
theorem step_keeps (hP : Closed 0xffffffffffffffffffffffffffffffffffffffffffffffffffffffffffffffffffffffffffffffffffffffffffffffffffffffffffffffffffffffffffffffffffffffffffffffffffffffffffffffffffffffffffffffffffffffffffffffffffffffffffffffffffffffffffff P) (hq : ∀ {s q}, P s → P { s with pending := q }) {s} (h : P s) : Ans P (step s) := by
  unfold step
  split
  · exact idle_keeps (hP.mono rfl) h
  · exact exec_keeps (hP.mono rfl) (hq h)

end Sys2Proof.Machine
end

