-- ==== Sys2Proof/Laws/Frame.lean ====
section
/-! SUPPORT. From the masks of the library to the frames of the claims. -/

namespace Sys2Proof.Machine

/-- The bit of a part in a mask. -/
def Part.bit : Part → Nat := Part.ctorIdx

/-- The mask that a list of fields and a list of parts spell. -/
def maskOf (ws : List Ent) (ps : List Part) : Nat :=
  ws.foldl (fun a e => a ||| 2 ^ fieldBit e) 0 ||| ps.foldl (fun a p => a ||| 2 ^ p.bit) 0

theorem testBit_foldl_or {α : Type} {f : α → Nat} (l : List α) {n : Nat} : ∀ a, (l.foldl (fun a x => a ||| 2 ^ f x) a).testBit n = true →
    a.testBit n = true ∨ ∃ x ∈ l, f x = n := by
  induction l with
  | nil => exact fun a h => .inl h
  | cons x l ih =>
    intro a h
    rcases ih _ h with h | ⟨y, hy, h⟩
    · rw [Nat.testBit_or, Bool.or_eq_true] at h
      rcases h with h | h
      · exact .inl h
      · refine .inr ⟨x, List.mem_cons_self, ?_⟩
        rw [Nat.testBit_two_pow] at h
        simpa using h
    · exact .inr ⟨y, List.mem_cons_of_mem _ hy, h⟩

theorem part_bit_lt (p : Part) : p.bit < 30 := by cases p <;> decide

theorem part_bit_inj {p q : Part} (h : p.bit = q.bit) : p = q := by
  cases p <;> cases q <;> first | rfl | (revert h; decide)

/-- Fields of the map with one number are one field. -/
theorem field_eq {a b : Ent} (ha : a ∈ tabAll) (hb : okSet (2 ^ 1000 - 1) b = true) (h : fieldBit a = fieldBit b) : a = b := by
  have hi : ∀ e ∈ tabAll, (tabOf e.ix).1[e.ix - (tabOf e.ix).2]? = some e := by
    intro e he
    have := List.all_eq_true.1 (show tabAll.all (fun e => (tabOf e.ix).1[e.ix - (tabOf e.ix).2]? == some e) = true by decide +kernel) e he
    simpa using this
  have e1 := hi a ha
  have e2 : (tabOf b.ix).1[b.ix - (tabOf b.ix).2]? = some b := by
    simp only [okSet, Bool.and_eq_true, beq_iff_eq] at hb
    exact hb.1
  have : a.ix = b.ix := by unfold fieldBit at h; omega
  rw [this, e2] at e1
  exact (Option.some.inj e1).symm

/-- A part outside the mask is as it was. -/
theorem agree_part {m : Nat} {s t : State} (h : agree m s t) (p : Part) (hb : m.testBit p.bit = false) : p.same s t := by
  obtain ⟨_, ho, _, h0, h1, h2, h3, h4, h5, h6, h7, h8, h9, h10, h11, h12, h13, h14, h15, h16, h17, h18, h19, h20, h21, h22, h23, h24, h25, h26, h27, h28⟩ := h
  cases p <;> first | exact ho hb | exact h0 hb | exact h1 hb | exact h2 hb | exact h3 hb | exact h4 hb | exact h5 hb | exact h6 hb | exact h7 hb | exact h8 hb | exact h9 hb | exact h10 hb | exact h11 hb | exact h12 hb | exact h13 hb | exact h14 hb | exact h15 hb | exact h16 hb | exact h17 hb | exact h18 hb | exact h19 hb | exact h20 hb | exact h21 hb | exact h22 hb | exact h23 hb | exact h24 hb | exact h25 hb | exact h26 hb | exact h27 hb | exact h28 hb

/-- States that agree outside a mask satisfy the frame of every list that covers it. -/
theorem agree_onlyWrites {m : Nat} {ws : List Ent} {ps : List Part} {s t : State} (h : agree m s t)
    (hw : ws.all (okSet (2 ^ 1000 - 1)) = true) (hm : m &&& maskOf ws ps = m) : onlyWrites ws ps s t := by
  have hf : ∀ e ∈ tabAll, e ∉ ws → m.testBit (fieldBit e) = false := by
    intro e he hn
    refine testBit_false_of_land hm ?_
    by_contra hc
    rw [Bool.not_eq_false, maskOf, Nat.testBit_or, Bool.or_eq_true] at hc
    rcases hc with hc | hc
    · rcases testBit_foldl_or _ _ hc with h0 | ⟨x, hx, hh⟩
      · simp at h0
      · exact hn (field_eq he (List.all_eq_true.1 hw x hx) hh.symm ▸ hx)
    · rcases testBit_foldl_or _ _ hc with h0 | ⟨p, _, hh⟩
      · simp at h0
      · have := part_bit_lt p
        unfold fieldBit at hh
        omega
  have hp : ∀ p : Part, p ∉ ps → m.testBit p.bit = false := by
    intro p hn
    refine testBit_false_of_land hm ?_
    by_contra hc
    rw [Bool.not_eq_false, maskOf, Nat.testBit_or, Bool.or_eq_true] at hc
    rcases hc with hc | hc
    · rcases testBit_foldl_or _ _ hc with h0 | ⟨x, _, hh⟩
      · simp at h0
      · have := part_bit_lt p
        unfold fieldBit at hh
        omega
    · rcases testBit_foldl_or _ _ hc with h0 | ⟨q, hq, hh⟩
      · simp at h0
      · exact hn (part_bit_inj hh ▸ hq)
  refine ⟨fun e he hn i j => ?_, fun p hn => ?_, h.2.2.1⟩
  · simp only [State.get, h.1 e he (hf e he hn) i j]
  · exact agree_part h p (hp p hn)

/-- The frame of a meaning, from its lemma in the library. -/
theorem frame_of {m : Nat} {ws : List Ent} {ps : List Part} {s t : State} {r : Result} (h : Closed m (agree m s) → Ans (agree m s) r)
    (hw : ws.all (okSet (2 ^ 1000 - 1)) = true) (hm : m &&& maskOf ws ps = m) (hr : r = .next t) : onlyWrites ws ps s t := by
  have := h (agree_closed m s)
  rw [hr] at this
  exact agree_onlyWrites this hw hm

/-- Two fields of the map that are not one. -/
def distinct (e e' : Ent) : Bool := okSet (2 ^ 1000 - 1) e && okSet (2 ^ 1000 - 1) e' && e != e'

theorem distinct_key {e e' : Ent} (h : distinct e e' = true) (i j i' j' : Nat) : e.key i j ≠ e'.key i' j' := by
  simp only [distinct, Bool.and_eq_true, bne_iff_ne] at h
  exact fields_apart (okSet_tabAll h.1.1).1 (okSet_tabAll h.1.2).1 h.2 i j i' j'

/-- A field reads as before where another field of the map is written. -/
theorem get_set_field {s : State} {e e' : Ent} {v i j i' j' : Nat} (h : distinct e' e = true) : (s.set e v i j).get e' i' j' = s.get e' i' j' :=
  get_set_other (distinct_key h i' j' i j)
theorem get_setB_field {s : State} {e e' : Ent} {b : Bool} {i j i' j' : Nat} (h : distinct e' e = true) : (s.setB e b i j).get e' i' j' = s.get e' i' j' :=
  get_set_field h
theorem get_bump_field {s : State} {e e' : Ent} {v i j i' j' : Nat} (h : distinct e' e = true) : (s.bump e v i j).get e' i' j' = s.get e' i' j' :=
  get_set_field h
theorem get_count_field {s : State} {e e' : Ent} {v i j i' j' : Nat} (h : distinct e' e = true) : (s.count e v i j).get e' i' j' = s.get e' i' j' :=
  get_set_field h
theorem get_clear_field {s : State} {e e' : Ent} {i j i' j' : Nat} (h : distinct e' e = true) : (s.clear e i j).get e' i' j' = s.get e' i' j' :=
  get_set_field h

/-- The field is one of the map, and the mask does not name it. -/
def outside (m : Nat) (e : Ent) : Bool := okSet (2 ^ 1000 - 1) e && !m.testBit (fieldBit e)

/-- A field outside the mask keeps every property of its value. -/
theorem field_closed {m : Nat} {e : Ent} (h : outside m e = true) (i j : Nat) (Q : Nat → Prop) : Closed m (fun t => Q (t.get e i j)) := by
  simp only [outside, Bool.and_eq_true, Bool.not_eq_true'] at h
  exact get_closed (okSet_tabAll h.1).1 h.2

/-- A field outside the mask reads as before. -/
theorem agree_get {m : Nat} {s t : State} (h : agree m s t) {e : Ent} (he : outside m e = true) (i j : Nat) : t.get e i j = s.get e i j := by
  simp only [outside, Bool.and_eq_true, Bool.not_eq_true'] at he
  simp only [State.get, h.1 e (okSet_tabAll he.1).1 he.2 i j]

/-- What raising an event may write. -/
abbrev raiseMask : Nat := 0x1e00008c0400000040

theorem get_raise {s : State} {src cause payload : Nat} {e : Ent} (he : outside raiseMask e = true) (i j : Nat) :
    (raise src cause payload s).get e i j = s.get e i j :=
  agree_get (raise_keeps (agree_closed _ s) (agree_refl _ _)) he i j

theorem get_setState_same {s : State} {e : Ent} {v src i j : Nat} (he : outside raiseMask e = true) :
    (setState e v src s i j).get e i j = v % 2 ^ e.w := by
  unfold setState
  dsimp only
  split
  · assumption
  · rw [get_raise he, get_set_same]

theorem get_setState_other {s : State} {e e' : Ent} {v src i j i' j' : Nat} (he : outside raiseMask e' = true) (hd : distinct e' e = true) :
    (setState e v src s i j).get e' i' j' = s.get e' i' j' := by
  unfold setState
  dsimp only
  split
  · rfl
  · rw [get_raise he, get_set_field hd]

theorem get_flag_same {s : State} {e : Ent} {src i payload : Nat} (he : outside raiseMask e = true) (hw : e.w = 1) (hs : s.get e i < 2) :
    (flag e src s i payload).get e i = 1 := by
  unfold flag
  split
  · next h => unfold State.on at h; simp only [bne_iff_ne] at h; omega
  · rw [get_raise he, get_set_same, hw]; rfl

theorem get_flag_other {s : State} {e e' : Ent} {src i payload i' j' : Nat} (he : outside raiseMask e' = true) (hd : distinct e' e = true) :
    (flag e src s i payload).get e' i' j' = s.get e' i' j' := by
  unfold flag
  split
  · rfl
  · rw [get_raise he, get_set_field hd]

end Sys2Proof.Machine
end

