-- ==== Sys2Proof/Laws/Units.lean ====
section
/-! SUPPORT. Laws of the tables of units: a unit's state reads back as it was written, and other units keep theirs. -/

namespace Sys2Proof.Machine

theorem lookD_put {α : Type} (l : List (Nat × α)) (k k' : Nat) (v d : α) : lookD (put l k v) k' d = if k' = k then v else lookD l k' d := by
  split
  · next h => subst h; exact lookD_put_same ..
  · next h => exact lookD_put_other h

theorem colSt_setCol (c c' : Nat) (x : ColSt) (s : State) : colSt (setCol c x s) c' = if c' = c then x else colSt s c' := lookD_put ..
theorem portSt_setPort (p p' : Nat) (x : PortSt) (s : State) : portSt (setPort p x s) p' = if p' = p then x else portSt s p' := lookD_put ..
theorem portSt_modPort (p p' : Nat) (f : PortSt → PortSt) (s : State) : portSt (modPort p f s) p' = if p' = p then f (portSt s p) else portSt s p' := lookD_put ..
theorem egSt_setEg (x x' : Nat) (g : EgSt) (s : State) : egSt (setEg x g s) x' = if x' = x then g else egSt s x' := lookD_put ..
theorem blkSt_setBlk (n n' : Nat) (b : BlkSt) (s : State) : blkSt (setBlk n b s) n' = if n' = n then b else blkSt s n' := lookD_put ..
theorem homeSt_setHome (k k' : Nat) (h : HomeSt) (s : State) : homeSt (setHome k h s) k' = if k' = k then h else homeSt s k' := lookD_put ..
theorem fnSt_setFn (f f' : Nat) (x : FnSt) (s : State) : fnSt (setFn f x s) f' = if f' = f then x else fnSt s f' := lookD_put ..
theorem pdSt_setPd (d d' : Nat) (x : PdSt) (s : State) : pdSt (setPd d x s) d' = if d' = d then x else pdSt s d' := lookD_put ..

theorem colSt_of {s t : State} (h : t.cols = s.cols) (c : Nat) : colSt t c = colSt s c := by simp only [colSt, h]
theorem portSt_of {s t : State} (h : t.ports = s.ports) (p : Nat) : portSt t p = portSt s p := by simp only [portSt, h]
theorem egSt_of {s t : State} (h : t.egs = s.egs) (x : Nat) : egSt t x = egSt s x := by simp only [egSt, h]
theorem blkSt_of {s t : State} (h : t.blks = s.blks) (n : Nat) : blkSt t n = blkSt s n := by simp only [blkSt, h]
theorem homeSt_of {s t : State} (h : t.homes = s.homes) (k : Nat) : homeSt t k = homeSt s k := by simp only [homeSt, h]
theorem fnSt_of {s t : State} (h : t.dmv = s.dmv) (f : Nat) : fnSt t f = fnSt s f := by simp only [fnSt, h]
theorem pdSt_of {s t : State} (h : t.mgmt = s.mgmt) (d : Nat) : pdSt t d = pdSt s d := by simp only [pdSt, h]
theorem slotSt_of {s t : State} (h : t.die = s.die) (n : Nat) : slotSt t n = slotSt s n := by simp only [slotSt, h]

end Sys2Proof.Machine
end

