-- ==== Sys2Proof/WellFormed.lean ====
section
/-! DEFINITION. Well-formed commands: the operands whose types allow more than the spec does stay in the spec's ranges. Meanings are total: they take ill-formed commands too. -/

namespace Sys2Proof

/-- A request asks for or carries at most 4 KiB, its address and identity fit, and its payload, where it has one, fills whole lines (R85, R86). -/
def LinkReq.wf (r : LinkReq) : Bool :=
  1 ≤ r.len && r.len ≤ 4096 && (r.data.isEmpty || r.data.length == (r.len + 63) / 64)

/-- A response carries at most 4 KiB (R85). -/
def LinkRsp.wf (r : LinkRsp) : Bool := r.data.length ≤ 64

/-- A link has 1, 2, 4, 8 or 16 lanes, and a pool device reports at most 16 logical devices (R37, R130). -/
def LinkNeg.wf (n : LinkNeg) : Bool := [1, 2, 4, 8, 16].contains n.width && n.pool.allocs.length ≤ 16

/-- A decoder has at most 16 targets (R127). -/
def HdmProg.wf (g : HdmProg) : Bool := g.targets.length ≤ 16

/-- Coefficients are 6-bit codes (R42). -/
def CoeffReq.wf : CoeffReq → Bool
  | .preset _ => true
  | .taps a b c => a < 64 && b < 64 && c < 64

/-- A record's fields fit its layout (R317). -/
def ErrRec.wf (r : ErrRec) : Bool :=
  r.src < 2 ^ 12 && r.kind < 2 ^ 8 && r.epoch < 2 ^ 8 && r.addr < 2 ^ 52 && r.akind ≤ 4 && r.syndrome < 2 ^ 32 && r.obj < 2 ^ 12
    && r.detail < 2 ^ 20 && r.suppr < 2 ^ 16

/-- A DECIDE's OBJ is 16 bits wide (R391). -/
def Decide.wf (d : Decide) : Bool := d.obj < 2 ^ 16

/-- A slot's readings fit MEAS, and VIN its 12 bits (R295, R310). -/
def SlotSample.wf (m : SlotSample) : Bool := m.vsns < 2 ^ 16 && m.vout < 2 ^ 16 && m.vin < 4096

/-- A blob holds at most 4 queues, 64 unfinished descriptors and 8 MSI-X entries (R214, R218). -/
def VfBlob.wf (b : VfBlob) : Bool := b.sqs.length ≤ 4 && b.unfinished.length ≤ 64 && b.msix.length ≤ 8

/-- Offsets of an image are 28 bits wide (R369). -/
def Image.wf (i : Image) : Bool := i.regs.all (fun q => q.1 < 2 ^ 28)

/-- A link packet has at most 1,024 B of payload, in whole lines (R85, R231). -/
def LinkPkt.wf (k : LinkPkt) : Bool := k.data.length ≤ 16

/-- A command is well-formed: every list and number among its operands is in the spec's range. -/
def Instr.wf (i : Instr) : Bool :=
  match i with
  | .coeffRequest _ _ r => r.wf
  | .quickEyeDone _ eyes => eyes.length ≤ 16
  | .portUp _ n => n.wf
  | .dpcTrigger _ reason => reason < 4
  | .linkRequest _ r => r.wf
  | .linkResponse _ r => r.wf
  | .hdmCommit _ _ g => g.wf
  | .setLdAllocations _ allocs => allocs.length ≤ 16
  | .scrubPass _ errs => errs.all (fun e => e.set < 2 ^ 18)
  | .contribution _ _ _ _ _ _ lines => lines.length ≤ 8
  | .descriptorFetch _ _ ds => ds.length ≤ 8
  | .copy _ _ _ src _ => src.length ≤ 4096
  | .crc _ _ _ src => src.length ≤ 4096
  | .compare _ _ _ src dst => src.length ≤ 4096 && src.length == dst.length
  | .restore _ b => b.wf
  | .dataBead _ _ pkts => pkts.all LinkPkt.wf
  | .idleBead _ _ credits => credits.length ≤ 18
  | .errorRecord r => r.wf
  | .recordMerge r => r.wf
  | .cdcOverrun _ r => r.wf
  | .slotTick _ m => m.wf
  | .update _ img => img.wf
  | .dirQueue d => d.wf
  | .dirThrottle d _ => d.wf
  | .slotGo d => d.wf
  | .slotDeny d => d.wf
  | .eqAccept d => d.wf
  | .eqRedo d _ => d.wf
  | .eqOverride d taps => d.wf && taps.length ≤ 16
  | .ucRecover d => d.wf
  | .ucRecoverNodec _ ld => ld < 4096
  | .ucKeep d => d.wf
  | .migGo d => d.wf
  | .migPass d => d.wf
  | .migAbort d => d.wf
  | .spareGo d => d.wf
  | .spareHold d => d.wf
  | .rotGo d => d.wf
  | .rotDefer d _ => d.wf
  | .rotCancel d => d.wf
  | .sumExtend d _ => d.wf
  | .sumPublish d => d.wf
  | .sumAbort d => d.wf
  | .nocRequestInject _ q => 1 ≤ q.flits
  | .bringInComplete _ u => u < 128
  | _ => true

end Sys2Proof
end

