-- ==== Sys2Proof/Tests/Slice0.lean ====
section
/-! SUPPORT. Tests on fixed values, worked out by hand from the spec, and for every statement with hypotheses a state and operands that meet all of them. -/

open Sys2Proof Sys2Proof.Machine

section Slice0Tests

set_option Elab.async false

/-- A state whose boot is done, so that register writes are served. -/
def w0 : State := State.reset.set BOOT.STAT.PHASE 8

/-- A small request. -/
def wMsg : LinkReq := ⟨.pcieMsg, 0, 0, .noOp, .port 0, 0, 0, 0, 4, [], 0, false, false, false, 0, true, true, false⟩

/-- A small response. -/
def wRsp : LinkRsp := ⟨.pcieCpl, 0, .ok, .noOp, [], false, none, 0⟩

/-- A small error record. -/
def wRec : ErrRec := ⟨0, 0, 0, 0, 0, 0, 0, 0, 0, 0⟩

/-- A small packet. -/
def wPkt : Pkt := ⟨0, .memWr, 0, 0, 0, 0, 0, 0, 0, 0, 0, 0, 0, false, false, 0, 0, 0, .noOp, [], 0, 0, 0, false, false, .ok, none, none, 0, 0, false, false, none, 0, 0, false, 0, false⟩

/-- A state whose journal has room. -/
def wJ : State := { w0 with boot := { w0.boot with flash := { w0.boot.flash with halfA := ⟨some (1, 0, 0), []⟩, halfPages := 64 } } }

/-- A migration in progress. -/
def wMig : MigSt := ⟨5, 1, 9, 0, 0, false, 1, [], 0, 0, [], 0, false, false, false, false, 1, none, [], 0, false⟩

/-- A small message at a home slice. -/
def wHm : HomeMsg := ⟨.memRd, 0, 0, 0, 7, .noOp, 0, some 0, 0, false, false, 0, 0, 9, none⟩

/-- An open transaction at a home slice. -/
def wTx : HomeTx := ⟨0, .rdI, wHm, none, 0, 0, [], [], false, false, none, false, false, 0, none, true, false, none⟩

/-- A state whose first home slice holds this. -/
def wHome (f : HomeSt → HomeSt) : State := modHome 0 f w0

/-- Host 1 reaches LD 5 and owns function 3, which is granted Sum windows and far atomics. -/
def wBound : State :=
  let s := (((w0.set BIND.BT.VALID 1 0).set BIND.BT.HOST 1 0).set BIND.BT.TARGET 5 0)
  let s := ((((s.set BIND.BT.VALID 1 1).set BIND.BT.HOST 1 1).set BIND.BT.VPPB 1 1).set BIND.BT.KIND 2 1).set BIND.BT.TARGET 3 1
  let s := ((s.set BIND.LD.VALID 1 5).set BIND.LD.SIZE 1 5).set BIND.LD.POOL 9 5
  let s := (s.set BIND.DEC.COMMITTED 1 1 0).set BIND.DEC.SIZE 1 1 0
  let s := ((s.set SUM.GRANT.WCNT 8 3).set SUM.GRANT.OPEN 1 3).set SUM.GRANT.ATOM 1 3
  let s := s.set ACT.CFG.DEFAULT 0xFFFF
  { s with bind := { s.bind with fnDec := [(4096, ⟨0, 0x10000000, 1, 256, [], false, true⟩)] } }

/-- A Sum window of one line and one slot. -/
def wWin : SumWin := ⟨0, 0, false, false, false, 1, 1, 0, 0, 0, 3, [], [], none, 0, 0, 0, 0, 0⟩

/-- A state whose Sum window 0 is open. -/
def wOpened (x : SumWin) : State := (putWin 0 x wBound).set SUM.WIN.STATE 1 0 0

/-- Function 3 of host 1 runs, with this descriptor at the head of queue 0; host 1's link is up. -/
def wFn (e : DmvDesc) : State := modFn 3 (fun x => { x with exec := [e] }) ((wBound.set PORT.STAT.PSTATE 3 1).set FN.STAT.STATE 1 3)

/-- Beamlink 0 is active, to device 1. -/
def wLink : State := (((w0.set BLK.STAT.LSTATE 4 0).set BLK.STAT.PEER 1 0).set BLK.CFG.EN 1 0)

/-- The header of a bead that acknowledges nothing. -/
def wHdr : BeadHdr := ⟨false, 0, 0, 0, 31, 0, 1, false⟩

/-- A state whose slot 3 holds this. -/
def wSlot (f : SlotSt → SlotSt) : State := putSlot 3 (f { slotNew 0 0 with seated := true }) w0

/-- A state in which decision 4 of a function is held on an object. -/
def wDec (f obj : Nat) (s : State) : State := { s with decs := [(4, ⟨f, obj, 100, .held, false⟩)] }

/-- The state after a command, for tests on one field of it. -/
def after (c : Instr) (s : State) : State :=
  match exec c s with
  | .next t => t
  | _ => s

theorem test_wf_refuses_coeffRequest : Instr.wf (.coeffRequest 0 0 (.taps 64 0 0)) = false := by decide +kernel

theorem test_wf_refuses_quickEyeDone : Instr.wf (.quickEyeDone 0 (List.replicate 17 ⟨⟨0, 0⟩, ⟨0, 0⟩, ⟨0, 0⟩⟩)) = false := by decide +kernel

theorem test_wf_refuses_portUp : Instr.wf (.portUp 0 ⟨3, true, true, true, false, true, 5, 3, [], [], false, false, false, false, ⟨0, 0, false, []⟩⟩) = false := by decide +kernel

theorem test_wf_refuses_dpcTrigger : Instr.wf (.dpcTrigger 0 4) = false := by decide +kernel

theorem test_wf_refuses_linkRequest : Instr.wf (.linkRequest 0 { wMsg with len := 0 }) = false := by decide +kernel

theorem test_wf_refuses_linkResponse : Instr.wf (.linkResponse 0 { wRsp with data := List.replicate 65 ⟨0, 0, 0⟩ }) = false := by decide +kernel

theorem test_wf_refuses_hdmCommit : Instr.wf (.hdmCommit 0 (.upstream 0) ⟨0, 0, 1, 0, List.replicate 17 (0, 0), false, true⟩) = false := by decide +kernel

theorem test_wf_refuses_setLdAllocations : Instr.wf (.setLdAllocations 0 (List.replicate 17 0)) = false := by decide +kernel

theorem test_wf_refuses_scrubPass : Instr.wf (.scrubPass 0 [⟨2 ^ 18, 0, false⟩]) = false := by decide +kernel

theorem test_wf_refuses_contribution : Instr.wf (.contribution 0 0 0 0 true false (List.replicate 9 0)) = false := by decide +kernel

theorem test_wf_refuses_descriptorFetch : Instr.wf (.descriptorFetch 0 0 (List.replicate 9 0)) = false := by decide +kernel

theorem test_wf_refuses_copy : Instr.wf (.copy 0 0 0 (List.replicate 4097 0) []) = false := by decide +kernel

theorem test_wf_refuses_crc : Instr.wf (.crc 0 0 0 (List.replicate 4097 0)) = false := by decide +kernel

theorem test_wf_refuses_compare : Instr.wf (.compare 0 0 0 [0, 1] [0]) = false := by decide +kernel

theorem test_wf_refuses_restore : Instr.wf (.restore 0 { (default : VfBlob) with sqs := List.replicate 5 (0, 0, 0, 0, 0) }) = false := by decide +kernel

theorem test_wf_refuses_dataBead : Instr.wf (.dataBead 0 ⟨false, 0, 0, 0, 0, 0, 0, false⟩ [⟨0, 0, 0, 0, false, .memWr, 0, 0, 0, 0, 0, false, false, 0, 0, 0, .noOp, List.replicate 17 0, 0, false, 0⟩]) = false := by decide +kernel

theorem test_wf_refuses_idleBead : Instr.wf (.idleBead 0 ⟨false, 0, 0, 0, 0, 0, 0, false⟩ (List.replicate 19 0)) = false := by decide +kernel

theorem test_wf_refuses_errorRecord : Instr.wf (.errorRecord { wRec with src := 2 ^ 12 }) = false := by decide +kernel

theorem test_wf_refuses_recordMerge : Instr.wf (.recordMerge { wRec with detail := 2 ^ 20 }) = false := by decide +kernel

theorem test_wf_refuses_cdcOverrun : Instr.wf (.cdcOverrun 0 { wRec with addr := 2 ^ 52 }) = false := by decide +kernel

theorem test_wf_refuses_slotTick : Instr.wf (.slotTick 0 ⟨false, false, 0, 0, 0, false, 4096⟩) = false := by decide +kernel

theorem test_wf_refuses_update : Instr.wf (.update 0 { (default : Image) with regs := [(2 ^ 28, 0)] }) = false := by decide +kernel

theorem test_wf_refuses_dirQueue : Instr.wf (.dirQueue ⟨.fm, 0, 0x10000⟩) = false := by decide +kernel

theorem test_wf_refuses_dirThrottle : Instr.wf (.dirThrottle ⟨.fm, 0, 0x10000⟩ 0) = false := by decide +kernel

theorem test_wf_refuses_slotGo : Instr.wf (.slotGo ⟨.fm, 0, 0x10000⟩) = false := by decide +kernel

theorem test_wf_refuses_slotDeny : Instr.wf (.slotDeny ⟨.fm, 0, 0x10000⟩) = false := by decide +kernel

theorem test_wf_refuses_eqAccept : Instr.wf (.eqAccept ⟨.fm, 0, 0x10000⟩) = false := by decide +kernel

theorem test_wf_refuses_eqRedo : Instr.wf (.eqRedo ⟨.fm, 0, 0x10000⟩ 0) = false := by decide +kernel

theorem test_wf_refuses_eqOverride : Instr.wf (.eqOverride ⟨.fm, 0, 0x10000⟩ []) = false := by decide +kernel

theorem test_wf_refuses_ucRecover : Instr.wf (.ucRecover ⟨.fm, 0, 0x10000⟩) = false := by decide +kernel

theorem test_wf_refuses_ucKeep : Instr.wf (.ucKeep ⟨.fm, 0, 0x10000⟩) = false := by decide +kernel

theorem test_wf_refuses_migGo : Instr.wf (.migGo ⟨.fm, 0, 0x10000⟩) = false := by decide +kernel

theorem test_wf_refuses_migPass : Instr.wf (.migPass ⟨.fm, 0, 0x10000⟩) = false := by decide +kernel

theorem test_wf_refuses_migAbort : Instr.wf (.migAbort ⟨.fm, 0, 0x10000⟩) = false := by decide +kernel

theorem test_wf_refuses_spareGo : Instr.wf (.spareGo ⟨.fm, 0, 0x10000⟩) = false := by decide +kernel

theorem test_wf_refuses_spareHold : Instr.wf (.spareHold ⟨.fm, 0, 0x10000⟩) = false := by decide +kernel

theorem test_wf_refuses_rotGo : Instr.wf (.rotGo ⟨.fm, 0, 0x10000⟩) = false := by decide +kernel

theorem test_wf_refuses_rotDefer : Instr.wf (.rotDefer ⟨.fm, 0, 0x10000⟩ 0) = false := by decide +kernel

theorem test_wf_refuses_rotCancel : Instr.wf (.rotCancel ⟨.fm, 0, 0x10000⟩) = false := by decide +kernel

theorem test_wf_refuses_sumExtend : Instr.wf (.sumExtend ⟨.fm, 0, 0x10000⟩ 0) = false := by decide +kernel

theorem test_wf_refuses_sumPublish : Instr.wf (.sumPublish ⟨.fm, 0, 0x10000⟩) = false := by decide +kernel

theorem test_wf_refuses_sumAbort : Instr.wf (.sumAbort ⟨.fm, 0, 0x10000⟩) = false := by decide +kernel

theorem test_wf_refuses_eqOverride_taps : Instr.wf (.eqOverride ⟨.fm, 0, 0⟩ (List.replicate 17 (0, 0))) = false := by decide +kernel

theorem test_wf_refuses_ucRecoverNodec : Instr.wf (.ucRecoverNodec .fm 4096) = false := by decide +kernel

theorem test_wf_refuses_nocRequestInject : Instr.wf (.nocRequestInject 0 ⟨0, none⟩) = false := by decide +kernel

theorem test_wf_refuses_bringInComplete : Instr.wf (.bringInComplete 0 128) = false := by decide +kernel

theorem test_wf_accepts : Instr.wf (.linkRequest 0 wMsg) = true ∧ Instr.wf (.coeffRequest 0 0 (.taps 63 0 0)) = true ∧ Instr.wf (.dpcTrigger 0 3) = true := by decide +kernel

/- One command on a small state. The expected values are the spec's. -/

/-- R39: CODE_ERR stops at 0xFFFF. -/
theorem test_code_err_saturates : (after (.receiveSymbolError 3 ⟨5, false⟩) (w0.set COL.LANE.LERR.CODE_ERR 0xFFFF 3 5)).get COL.LANE.LERR.CODE_ERR 3 5 = 0xFFFF := by decide +kernel

/-- R38: a received FTS is ignored. -/
theorem test_fts_ignored : (after (.receiveSymbolError 3 ⟨5, true⟩) w0).get COL.LANE.LERR.CODE_ERR 3 5 = 0 := by decide +kernel

/-- R42: taps that add up to 64 within the limits are taken. -/
theorem test_coeff_taken : (after (.coeffRequest 0 0 (.taps 10 44 10)) ((setCol 0 ⟨2, none, false, [], []⟩ w0).set COL.TRN.TRNSTAT.LTSSM 5 0 0)).get COL.LANE.LSTAT.MAIN 0 0 = 44 := by decide +kernel

/-- The pair of a step and an idle clock: time passes by 0.5 ns. -/
theorem test_idle_clock : (match step w0 with | .next t => t.now == 0x8000 | _ => false) = true := by decide +kernel

/-! Each statement with hypotheses is about something. -/

theorem witness_StepRunsFront : ({ w0 with pending := [.fmPortLinkDown, .warmReset] } : State).pending = .fmPortLinkDown :: [.warmReset] := by rfl

theorem witness_StepIdle : w0.pending = [] := by rfl

theorem witness_CanonicalKept : w0.canonical = true ∧ ∃ t, step w0 = .next t := by
  refine ⟨by decide +kernel, ?_⟩
  generalize h : step w0 = o
  have e : (match step w0 with | .next _ => true | _ => false) = true := by decide +kernel
  rw [h] at e
  cases o with
  | next t => exact ⟨t, rfl⟩
  | fault f => simp at e
  | refused r => simp at e

theorem witness_SymbolErrorCounted_c8b10b : portOfLane (setCol 0 ⟨2, none, false, [], []⟩ w0) (0 : ColId) (0 : Fin 16) = some 0 ∧
    codingOf (laneRate (setCol 0 ⟨2, none, false, [], []⟩ w0) (0 : ColId) (0 : Fin 16)) = .c8b10b := by decide +kernel

theorem witness_SymbolErrorCounted_c128b130b : portOfLane ((setCol 0 ⟨2, none, false, [], []⟩ w0).set COL.TRN.TRNSTAT.RATE 4 0 0) (0 : ColId) (0 : Fin 16) = some 0 ∧
    codingOf (laneRate ((setCol 0 ⟨2, none, false, [], []⟩ w0).set COL.TRN.TRNSTAT.RATE 4 0 0) (0 : ColId) (0 : Fin 16)) = .c128b130b := by decide +kernel

theorem witness_SymbolErrorCounted_pam4 : codingOf (laneRate ((setCol 0 ⟨2, none, false, [], []⟩ w0).set COL.TRN.TRNSTAT.RATE 5 0 0) (0 : ColId) (0 : Fin 16)) = .pam4 := by decide +kernel

theorem witness_CompleteSource_own : coreFenced (w0.set EVT.SRC.STATE 2 5) 0 = false ∧ 2 ≤ (w0.set EVT.SRC.STATE 2 5).get EVT.SRC.STATE 5
    ∧ (w0.set EVT.SRC.STATE 2 5).get EVT.SRC.CORE 5 = 0 ∧ evReserved 5 = false := by decide +kernel

theorem witness_CompleteSource_bad : coreFenced w0 4 = false ∧ w0.get EVT.SRC.STATE 2047 < 2 := by decide +kernel

theorem witness_CompleteSource_other : Master.fm ≠ .core 0 := by decide

theorem witness_Frames : ∃ t, exec (.receiveSymbolError 0 ⟨0, false⟩) w0 = .next t := ⟨_, rfl⟩


/-- The worked example of R416: lane 5 of column 20. -/
theorem test_ball_map : ballAt 87 45 = some (.fab false 20 5 false) ∧ ballAt 87 44 = some (.fab false 20 5 true) ∧ ballAt 83 45 = some (.fab true 20 5 false) ∧
    ballAt 83 44 = some (.fab true 20 5 true) ∧ ballPlace (.side .thermDn) = some (14, 42) ∧ ballAt 0 1 = none := by decide +kernel

theorem witness_BallMap : (1 ≤ 87 ∧ 87 ≤ 88 ∧ 1 ≤ 45 ∧ 45 ≤ 88) ∧ (ballAt 87 45 = some (.fab false 20 5 false) ∧ (Ball.fab false 20 5 false).signal = true) ∧
    (20 < 32 ∧ 5 < 16) ∧ (7 < 8 ∧ 8 < 9) ∧ 15 < 16 ∧ 63 < 64 ∧ (31 < 32 ∧ 8 < 9) := by decide

theorem witness_colApply : (let s : State := w0; (served s (COL.CFG.APPLY.base / 8) = true)) := by decide +kernel

theorem witness_coeffRequest : (let c : ColId := 0; let l : Fin 16 := 0; let pre : Nat := 16; let main : Nat := 40; let post : Nat := 8; let p : Nat := 0; let s : State := (setCol 0 ⟨2, none, false, [], []⟩ w0).set COL.TRN.TRNSTAT.LTSSM 5 0 0; (portOfLane s c l = some p) ∧ (ltssm s p = 5) ∧ (s.on COL.LANE.LCTL.OVR_EN c l = false) ∧ (coeffOk pre post = true) ∧ (main + pre + post = 64)) := by decide +kernel

theorem witness_ovrApply : (let s : State := w0; (served s (COL.LANE.LCTL.OVR_APPLY.base / 8) = true)) := by decide +kernel

theorem witness_eyeScanStart : (let c : ColId := 0; let v : Word := 0x8000; let p : Nat := 0; let s : State := (setCol 0 ⟨2, none, false, [], []⟩ w0).set COL.TRN.TRNSTAT.LTSSM 6 0 0; (served s (COL.EYECTL.START.base / 8) = true) ∧ (bitOf v.toNat 15 = true) ∧ ((colSt s c).scan = none) ∧ (portOfLane s c (bitsOf v.toNat 0 4) = some p) ∧ (ltssm s p = 6) ∧ (bitsOf v.toNat 4 2 = 0)) := by decide +kernel

theorem witness_eyeScanAbort : (let c : ColId := 0; let v : Word := 0x10000; let s : State := setCol 0 ⟨2, some ⟨0, 1, 1, 0, 0, []⟩, false, [], []⟩ w0; (served s (COL.EYECTL.ABORT.base / 8) = true) ∧ (bitOf v.toNat 16 = true) ∧ ((colSt s c).scan.isSome = true)) := by decide +kernel

theorem witness_eyePointDone : (let c : ColId := 0; let x : Scan := ⟨0, 1, 1, 0, 127, []⟩; let s : State := setCol 0 ⟨2, some ⟨0, 1, 1, 0, 127, []⟩, false, [], []⟩ w0; ((colSt s c).scan = some x) ∧ (x.paused = [])) := by decide +kernel

theorem witness_marginCommand : (let n : Nat := 32; (n ≤ 32)) := by decide +kernel

theorem witness_columnSleepEntry : (let c : ColId := 0; let s : State := setCol 0 ⟨4, none, false, [], []⟩ ((w0.set COL.STAT.CSTATE 3 0).set COL.STAT.PLL_LOCK 1 0); (s.get COL.STAT.CSTATE c = 3) ∧ (s.on COL.STAT.PLL_LOCK c = true) ∧ (sleepReady s c = true)) := by decide +kernel

theorem witness_columnWake : (let c : ColId := 0; let s : State := w0.set COL.STAT.CSTATE 4 0; (s.get COL.STAT.CSTATE c = 4)) := by decide +kernel

theorem witness_columnPllLock : (let c : ColId := 31; let s : State := w0.set COL.STAT.CSTATE 1 31; (s.get COL.STAT.CSTATE c = 1 ∨ s.get COL.STAT.CSTATE c = 5)) := by decide +kernel

theorem witness_receiveSymbolError : (let c : ColId := 0; let l : LaneSymbol := ⟨0, false⟩; let s : State := w0; (l.fts = false ∨ codingOf (laneRate s c l.lane) ≠ .c8b10b)) := by decide +kernel

theorem witness_eqComplete : (let p : PortId := 0; let e : EqDone := ⟨5, [], false⟩; let s : State := modPort 0 (fun x => { x with neg := some ⟨3, true, true, true, false, true, 5, 4, [], [], false, true, true, true, ⟨0, 0, false, []⟩⟩ }) ((setCol 0 ⟨42, none, false, [], []⟩ (w0.set PORT.STAT.PSTATE 3 0)).set COL.TRN.TRNSTAT.LTSSM 5 0 0); (pstate s p = 3) ∧ (ltssm s p = 5) ∧ (e.rate.val ≤ topRate s p)) := by decide +kernel

theorem witness_eqFail : (let p : PortId := 0; let s : State := w0.set PORT.STAT.PSTATE 3 0; (pstate s p = 3)) := by decide +kernel

theorem witness_quickEyeDone : (let p : PortId := 0; let s : State := modPort 0 (fun x => { x with quickEye := true }) w0; ((portSt s p).quickEye = true) ∧ ((lanesOf s p).any (fun q => (colSt s q.1).margined.contains q.2) = false) ∧ (heldDec s 2 p = none)) := by decide +kernel

theorem witness_trainingAttemptFail : (let p : PortId := 0; let s : State := w0.set PORT.STAT.PSTATE 2 0; (pstate s p = 2)) := by decide +kernel

theorem witness_retryIntervalExpiry : (let p : PortId := 0; let s : State := modPort 0 (fun x => { x with waitRetry := true }) ((setCol 0 ⟨2, none, false, [], []⟩ w0).set PORT.STAT.PSTATE 1 0); (pstate s p = 1) ∧ ((portSt s p).waitRetry = true) ∧ (heldDec s 3 p = none) ∧ (getTrn s COL.TRN.TRNCTL.RETRY_INT p ≠ 0)) := by decide +kernel

theorem witness_retrain : (let s : State := (setCol 0 ⟨2, none, false, [], []⟩ w0).set PORT.STAT.PSTATE 3 0; (served s (COL.TRN.TRNCTL.RETRAIN.base / 8) = true)) := by decide +kernel

theorem witness_linkRecovery : (let p : PortId := 0; let s : State := ((setCol 0 ⟨2, none, false, [], []⟩ w0).set COL.TRN.TRNSTAT.LTSSM 6 0 0).set PORT.STAT.PSTATE 3 0; (isUp s p = true) ∧ (ltssm s p = 6)) := by decide +kernel

theorem witness_linkRecovery_b : (let p : PortId := 0; let s : State := ((setCol 0 ⟨2, none, false, [], []⟩ w0).set COL.TRN.TRNSTAT.LTSSM 4 0 0).set PORT.STAT.PSTATE 3 0; (isUp s p = true) ∧ (ltssm s p = 4)) := by decide +kernel

theorem witness_linkPowerStateChange : (let p : PortId := 0; let g : LinkNeg := ⟨3, true, true, true, false, true, 5, 4, [], [], false, true, true, true, ⟨0, 0, false, []⟩⟩; let s : State := modPort 0 (fun x => { x with neg := some ⟨3, true, true, true, false, true, 5, 4, [], [], false, true, true, true, ⟨0, 0, false, []⟩⟩ }) (((setCol 0 ⟨2, none, false, [], []⟩ w0).set COL.TRN.TRNSTAT.LTSSM 6 0 0).set PORT.STAT.PSTATE 3 0); (isUp s p = true) ∧ (ltssm s p = 6) ∧ ((portSt s p).neg = some g)) := by decide +kernel

theorem witness_portCfgWrite : (let p : PortId := 0; let s : State := w0; (served s (PORT.CFG.ROLE.base / 8) = true) ∧ (behindX16 s p = false)) := by decide +kernel

theorem witness_tagcfgWrite : (let p : PortId := 0; let s : State := w0; (served s (PORT.TAGCFG.RSV_IO.base / 8) = true) ∧ (behindX16 s p = false)) := by decide +kernel

theorem witness_portUp : (let p : PortId := 0; let n : LinkNeg := ⟨3, true, true, true, false, true, 5, 4, [], [], false, true, true, true, ⟨0, 0, false, []⟩⟩; let s : State := setCol 0 ⟨2, none, false, [], []⟩ (w0.set PORT.STAT.PSTATE 2 0); (pstate s p = 2) ∧ (s.safe = false) ∧ (s.live = true) ∧ (trainLanes (lanesOf s p) n ≠ [])) := by decide +kernel

theorem witness_dlDown : (let p : PortId := 0; let s : State := w0.set PORT.STAT.PSTATE 3 0; (isUp s p = true)) := by decide +kernel

theorem witness_hotReset : (let r : PortReset := ⟨63, .received⟩; let s : State := w0.set PORT.STAT.PSTATE 3 63; (isUp s r.port = true)) := by decide +kernel

theorem witness_dpcTrigger : (let p : PortId := 0; let s : State := (w0.set PORT.STAT.PSTATE 3 0).set PORT.CFG.ROLE 2 0; (isUp s p = true) ∧ (s.get PORT.CFG.ROLE p = 2)) := by decide +kernel

theorem witness_portDisable : (let p : PortId := 0; let v : Word := 1; let s : State := w0.set PORT.STAT.PSTATE 3 0; (served s (PORT.CTL.DISABLE.base / 8) = true) ∧ (behindX16 s p = false) ∧ (isUp s p = true) ∧ (bitOf v.toNat 0 = true)) := by decide +kernel

theorem witness_forceDown : (let p : PortId := 0; let v : Word := 2; let s : State := w0.set PORT.STAT.PSTATE 3 0; (served s (PORT.CTL.FORCE_DOWN.base / 8) = true) ∧ (behindX16 s p = false) ∧ (isUp s p = true) ∧ (bitOf v.toNat 1 = true)) := by decide +kernel

theorem witness_flushComplete : (let p : PortId := 0; let s : State := w0.set PORT.STAT.PSTATE 4 0; (pstate s p = 4) ∧ (s.frame.subst = none)) := by decide +kernel

theorem witness_ctoExpiry : (let p : PortId := 0; let tag : Fin 1024 := 5; let e : TagEnt := ⟨5, true, 1, 0, 0, false, none, .memRd, some { pkt0 with op := .memRd }, 0⟩; let k : Pkt := { pkt0 with op := .memRd }; let s : State := modPort 0 (fun x => { x with tags := [⟨5, true, 1, 0, 0, false, none, .memRd, some { pkt0 with op := .memRd }, 0⟩] }) (w0.set PORT.STAT.PSTATE 3 0); (isUp s p = true) ∧ ((portSt s p).tags.find? (fun e => e.sent && e.tag == tag.val && !e.quar) = some e) ∧ (e.pkt = some k) ∧ (k.op = .memRd ∨ k.op = .memWr)) := by decide +kernel

theorem witness_tagQuarantineExpiry : (let p : PortId := 0; let tag : Fin 1024 := 5; let e : TagEnt := ⟨5, true, 1, 0, 0, true, none, .memRd, none, 0⟩; let s : State := modPort 0 (fun x => { x with tags := [⟨5, true, 1, 0, 0, true, none, .memRd, none, 0⟩] }) w0; ((portSt s p).tags.find? (fun e => e.sent && e.tag == tag.val && e.quar) = some e)) := by decide +kernel

theorem witness_tagAvailable : (let p : PortId := 0; let r : LinkReq := wMsg; let q : PortId := 0; let s : State := modPort 0 (fun x => { x with waiting := [wMsg] }) ((w0.set PORT.STAT.PSTATE 3 0).set PORT.CFG.ROLE 1 0); (isUp s p = true) ∧ (s.safe = false) ∧ ((portSt s p).waiting = [r]) ∧ (holdFull s p r = false) ∧ (trackerFull s p r = false) ∧ (s.bind.backlog = []) ∧ (r.op = .pcieMsg) ∧ (resolve s (midAt s p r) r = .port q)) := by decide +kernel

theorem witness_linkRequest : (let x : XId := 76; let r : LinkReq := wMsg; let q : PortId := 0; let s : State := w0; (s.safe = false) ∧ (64 ≤ x.val) ∧ (staleUnit s x r.unitEp.toNat = false) ∧ (s.bind.backlog = []) ∧ (r.op = .pcieMsg) ∧ (resolve s r.mid.toNat r = .port q)) := by decide +kernel

theorem witness_coldReset : (let straps : Straps := { State.reset.straps with bootMode := 3 }; let flash : Option Flash := none; let s : State := w0; (straps.bootMode = 3) ∧ (debugOpen (coldBase straps flash s) = true)) := by decide +kernel

theorem witness_registerWrite : (let m : Master := .fm; let addr : BitVec 28 := 0x10; let s : State := w0; (fencedMaster m s = false ∧ addr.toNat % 4 = 0) ∧ (served s addr.toNat = true) ∧ (regDomain addr.toNat = none ∨ s.safe = true)) := by decide +kernel

theorem witness_readClear : (let m : Master := .fm; let addr : BitVec 28 := 0x10; let s : State := w0; (fencedMaster m s = false ∧ addr.toNat % 4 = 0) ∧ (regDomain addr.toNat = none ∨ s.safe = true)) := by decide +kernel

theorem witness_lowWordRead : (let m : Master := .fm; let addr : BitVec 28 := 0x500008; let s : State := w0; (fencedMaster m s = false ∧ addr.toNat % 4 = 0) ∧ (regDomain addr.toNat = none ∨ s.safe = true) ∧ (closedWord s addr.toNat = none ∧ hits EVT.CORE.CLAIM.SRC addr.toNat = none) ∧ (look s.latch addr.toNat = none ∧ wideLow addr.toNat = true)) := by decide +kernel

theorem witness_highWordRead : (let m : Master := .fm; let addr : BitVec 28 := 0x500004; let v : Nat := 9; let s : State := { w0 with latch := [(0x500004, 9)] }; (fencedMaster m s = false ∧ addr.toNat % 4 = 0) ∧ (regDomain addr.toNat = none ∨ s.safe = true) ∧ (closedWord s addr.toNat = none ∧ hits EVT.CORE.CLAIM.SRC addr.toNat = none) ∧ (look s.latch addr.toNat = some v)) := by decide +kernel

theorem witness_gctlRst : (let v : Word := 0x57520001; let s : State := w0; (served s (GCTL.RST.WARM.base / 8) = true) ∧ (bitOf v.toNat 0 = true ∧ bitsOf v.toNat 16 16 = 0x5752)) := by decide +kernel

theorem witness_gctlBrst : (let v : Word := 0x1002; let lo : Nat := ((blockRange 2 0).getD (0, 0)).1; let n : Nat := ((blockRange 2 0).getD (0, 0)).2; let s : State := w0; (served s (GCTL.BRST.UNIT.base / 8) = true) ∧ (bitOf v.toNat 12 = true) ∧ (blockRange (bitsOf v.toNat 0 5) (bitsOf v.toNat 5 7) = some (lo, n)) ∧ (bitsOf v.toNat 0 5 ≠ 1)) := by decide +kernel

theorem witness_badFormAccess : (let m : Master := .fm; let write : Bool := false; let s : State := w0; (fencedMaster m s = false) ∧ (write = false)) := by decide +kernel

theorem witness_assistWrite : (let s : State := w0; (served s (GCTL.ASSIST.MODE.base / 8) = true) ∧ (s.decs = [])) := by decide +kernel

theorem witness_decisionTimeout : (let decid : BitVec 16 := 4; let x : Dec := ⟨3, 3, 100, .held, false⟩; let s : State := wDec 3 3 w0; (look s.decs decid.toNat = some x) ∧ (x.stat = .held)) := by decide +kernel

theorem witness_fmPortLinkDown : (let s : State := { w0 with fmUp := true }; (s.decs = [])) := by decide +kernel

theorem witness_fmPerst : (let s : State := { w0 with fmUp := true }; (s.decs = [])) := by decide +kernel

theorem witness_mctpSessionExpiry : (let s : State := { w0 with mctpOpen := true }; (s.mctpOpen = true) ∧ (s.decs = [])) := by decide +kernel

theorem witness_fmApiCommand : (let p : PortId := 3; let s : State := (w0.set PORT.STAT.PSTATE 3 3).set PORT.CFG.POOL 1 3; (isUp s p = true) ∧ (s.on PORT.CFG.POOL p = true)) := by decide +kernel

theorem witness_dirQueue : (let d : Decide := ⟨.mctp, 4, 1⟩; let x : Dec := ⟨0, 1, 100, .held, false⟩; let s : State := wDec 0 1 (w0.set HOME.STAT.CQ_HELD 1 1); (look s.decs d.decid.toNat = some x) ∧ (judge 0 d (decide (d.obj < 4)) s = stAccepted)) := by decide +kernel

theorem witness_dirThrottle : (let d : Decide := ⟨.mctp, 4, 1⟩; let x : Dec := ⟨0, 1, 100, .held, false⟩; let s : State := wDec 0 1 (modHome 1 (fun h => { h with carry := List.range 65 }) (w0.set HOME.STAT.CQ_HELD 1 1)); (look s.decs d.decid.toNat = some x) ∧ (judge 0 d (decide (d.obj < 4)) s = stAccepted) ∧ (64 < carryLen s x.obj)) := by decide +kernel

theorem witness_slotGo : (let d : Decide := ⟨.mctp, 4, 3⟩; let x : Dec := ⟨1, 3, 100, .held, false⟩; let s : State := wDec 1 3 (wSlot (fun y => { y with state := slHeld })); (look s.decs d.decid.toNat = some x) ∧ (judge 1 d (decide (d.obj < 32)) s = stAccepted) ∧ ((slotSt s x.obj).state = slHeld)) := by decide +kernel

theorem witness_slotDeny : (let d : Decide := ⟨.mctp, 4, 3⟩; let x : Dec := ⟨1, 3, 100, .held, false⟩; let s : State := wDec 1 3 (wSlot (fun y => { y with state := slHeld })); (look s.decs d.decid.toNat = some x) ∧ (judge 1 d (decide (d.obj < 32)) s = stAccepted) ∧ ((slotSt s x.obj).state = slHeld)) := by decide +kernel

theorem witness_eqAccept : (let d : Decide := ⟨.mctp, 4, 3⟩; let x : Dec := ⟨2, 3, 100, .held, false⟩; let s : State := wDec 2 3 (w0); (look s.decs d.decid.toNat = some x) ∧ (judge 2 d (decide (d.obj < 64)) s = stAccepted)) := by decide +kernel

theorem witness_eqRedo : (let d : Decide := ⟨.mctp, 4, 3⟩; let preset : Fin 256 := 4; let x : Dec := ⟨2, 3, 100, .held, false⟩; let s : State := wDec 2 3 (w0); (look s.decs d.decid.toNat = some x) ∧ (judge 2 d (decide (preset.val ≤ 10) || preset.val == 15) s = stAccepted)) := by decide +kernel

theorem witness_eqOverride : (let d : Decide := ⟨.mctp, 4, 3⟩; let taps : List (Nat × Nat) := []; let x : Dec := ⟨2, 3, 100, .held, false⟩; let s : State := wDec 2 3 (w0); (look s.decs d.decid.toNat = some x) ∧ (judge 2 d ((ovrLanes s d.obj taps).all (fun q => coeffOk q.2.1 q.2.2)) s = stAccepted)) := by decide +kernel

theorem witness_ucRecoverNodec : (let ld : Nat := 5; let s : State := let a := ((((wBound.set BIND.LD.STATE 2 5).set PORT.STAT.PSTATE 3 9).set SEC.LDKEY.VALID 1 5).set PORT.CFG.POOL 1 9); { a with bind := { a.bind with failedFrom := [(5, 0)], pools := [(9, ⟨7, 16, false, []⟩)], poolWas := [(9, ⟨7, 16, false, []⟩)] } }; (ld < 4096 ∧ s.on BIND.LD.VALID ld = true ∧ s.get BIND.LD.STATE ld = 2) ∧ (isUp s (s.get BIND.LD.POOL ld) = true ∧ samePool s (s.get BIND.LD.POOL ld) = true) ∧ (heldDec s 3 (s.get BIND.LD.POOL ld) = none) ∧ (look s.bind.failedFrom ld = some 0 ∧ placedOk s ld = true) ∧ (s.on SEC.LDKEY.VALID ld = true)) := by decide +kernel

theorem witness_ucKeep : (let d : Decide := ⟨.mctp, 4, 3⟩; let x : Dec := ⟨3, 3, 100, .held, false⟩; let s : State := wDec 3 3 (w0.set PORT.STAT.PSTATE 3 3); (look s.decs d.decid.toNat = some x) ∧ (judge 3 d (decide (d.obj < 64)) s = stAccepted) ∧ (isUp s x.obj = true)) := by decide +kernel

theorem witness_migGo : (let d : Decide := ⟨.mctp, 4, 0⟩; let x : Dec := ⟨4, 0, 100, .held, false⟩; let s : State := wDec 4 0 (setMig 0 (some wMig) (setPhase 0 2 w0)); (look s.decs d.decid.toNat = some x) ∧ (judge 4 d (decide (d.obj < 2)) s = stAccepted) ∧ (migPhase s x.obj = 2) ∧ (committing s = false) ∧ ((migSt s x.obj).isSome = true)) := by decide +kernel

theorem witness_migPass : (let d : Decide := ⟨.mctp, 4, 0⟩; let x : Dec := ⟨4, 0, 100, .held, false⟩; let s : State := wDec 4 0 (setMig 0 (some wMig) (setPhase 0 2 w0)); (look s.decs d.decid.toNat = some x) ∧ (judge 4 d (decide (d.obj < 2)) s = stAccepted) ∧ (migPhase s x.obj = 2)) := by decide +kernel

theorem witness_migAbort : (let d : Decide := ⟨.mctp, 4, 0⟩; let x : Dec := ⟨4, 0, 100, .held, false⟩; let s : State := wDec 4 0 (setMig 0 (some wMig) (setPhase 0 2 w0)); (look s.decs d.decid.toNat = some x) ∧ (judge 4 d (decide (d.obj < 2)) s = stAccepted) ∧ ((migSt s x.obj).any (fun y => !y.sealed_ && !y.aborting) = true) ∧ (migPhase s x.obj = 2) ∧ (sealedOff s = false)) := by decide +kernel

theorem witness_spareGo : (let d : Decide := ⟨.mctp, 4, unitIndex (unitSrc 1 2)⟩; let x : Dec := ⟨5, (unitSrc 1 2), 100, .held, false⟩; let s : State := wDec 5 (unitSrc 1 2) (w0.set FLT.UNIT.STATE 2 1 4); (look s.decs d.decid.toNat = some x) ∧ (judge 5 d true s = stAccepted) ∧ (srcUnit x.obj = some (1, 2) ∧ eSum ≤ x.obj) ∧ (s.get FLT.UNIT.STATE 1 2 = 0 ∧ s.flt.bringIns = [] ∧ spareCore s = none)) := by decide +kernel

theorem witness_spareHold : (let d : Decide := ⟨.mctp, 4, unitIndex (unitSrc 1 2)⟩; let x : Dec := ⟨5, (unitSrc 1 2), 100, .held, false⟩; let s : State := wDec 5 (unitSrc 1 2) (w0); (look s.decs d.decid.toNat = some x) ∧ (judge 5 d true s = stAccepted) ∧ (srcUnit x.obj = some (1, 2) ∧ eSum ≤ x.obj)) := by decide +kernel

theorem witness_rotGo : (let d : Decide := ⟨.mctp, 4, 0⟩; let x : Dec := ⟨6, 0, 100, .held, false⟩; let y : RotSt := ⟨5, 0, 0, false, 0, none, false, false⟩; let s : State := wDec 6 0 (setRot 0 (some ⟨5, 0, 0, false, 0, none, false, false⟩) (setRotPhase 0 2 wJ)); (look s.decs d.decid.toNat = some x) ∧ (judge 6 d (decide (d.obj < 2)) s = stAccepted) ∧ (rotSt s x.obj = some y ∧ y.key = 0 ∧ rotPhase s x.obj = 2) ∧ (sealedOff s = false ∧ (activeHalf s).header.isSome = true) ∧ (halfUsed (activeHalf s) + pagesOwed s + recPages (.rotStart x.obj y.ld [(0, s.get SEC.ROT.RCTL.RATE x.obj), (1, s.get SEC.ROT.RRESCUE.RLD x.obj), (2, s.get SEC.ROT.RRESCUE.OFFSET x.obj)]) [sealKey s (.rot x.obj) (s.sec.draws + 1) 0] ≤ s.boot.flash.halfPages) ∧ (x.obj < 2)) := by decide +kernel

theorem witness_rotDefer : (let d : Decide := ⟨.mctp, 4, 0⟩; let x : Dec := ⟨6, 0, 100, .held, false⟩; let s : State := wDec 6 0 (setRot 0 (some ⟨5, 0, 0, false, 0, none, false, false⟩) (setRotPhase 0 2 w0)); (look s.decs d.decid.toNat = some x) ∧ (judge 6 d (decide (d.obj < 2)) s = stAccepted)) := by decide +kernel

theorem witness_rotCancel : (let d : Decide := ⟨.mctp, 4, 0⟩; let x : Dec := ⟨6, 0, 100, .held, false⟩; let s : State := wDec 6 0 (setRot 0 (some ⟨5, 0, 0, false, 0, none, false, false⟩) (setRotPhase 0 2 w0)); (look s.decs d.decid.toNat = some x) ∧ (judge 6 d (decide (d.obj < 2)) s = stAccepted)) := by decide +kernel

theorem witness_sumExtend : (let d : Decide := ⟨.mctp, 4, 0⟩; let us : Nat := 100; let x : Dec := ⟨7, 0, 100, .held, false⟩; let s : State := wDec 7 0 (setWin 0 wHeld (wOpened wWin)); (look s.decs d.decid.toNat = some x) ∧ (judge 7 d (decide (1 ≤ us) && decide (us ≤ 1000000)) s = stAccepted) ∧ ((winOf s x.obj).isSome = true) ∧ (winState s x.obj = wHeld) ∧ (s.sum.away.contains x.obj = false)) := by decide +kernel

theorem witness_sumPublish : (let d : Decide := ⟨.mctp, 4, 0⟩; let x : Dec := ⟨7, 0, 100, .held, false⟩; let s : State := wDec 7 0 (setWin 0 wHeld (wOpened wWin)); (look s.decs d.decid.toNat = some x) ∧ (judge 7 d true s = stAccepted) ∧ ((winOf s x.obj).isSome = true) ∧ (winState s x.obj = wHeld)) := by decide +kernel

theorem witness_sumAbort : (let d : Decide := ⟨.mctp, 4, 0⟩; let x : Dec := ⟨7, 0, 100, .held, false⟩; let s : State := wDec 7 0 (setWin 0 wHeld (wOpened wWin)); (look s.decs d.decid.toNat = some x) ∧ (judge 7 d true s = stAccepted) ∧ ((winOf s x.obj).any (fun y => !y.rearm && y.slots.isEmpty) = true) ∧ (winState s x.obj = wHeld) ∧ (s.sum.away.contains x.obj = false)) := by decide +kernel

theorem witness_ownerKeySet : (let via : Via := .fm; let fuseOk : Bool := true; let s : State := { w0 with fuses := { w0.fuses with owner := none } }; (via = .fm) ∧ (s.get SEC.LCSTAT.STATE = 1 ∧ s.fuses.owner = none) ∧ (fuseOk = true)) := by decide +kernel

theorem witness_mctpMessage : (let fmApi : Bool := true; (fmApi = true)) := by decide +kernel

theorem witness_nocRequestInject : (let r : Fin 36 := 0; let q : NocRequest := ⟨4, none⟩; let s : State := w0.set NOC.RATE.RATE 0 0; (nocStale s q.sender = false) ∧ (s.mgmt.noc = []) ∧ (nocFits { s with mgmt := { s.mgmt with noc := [] } } r q.flits = true) ∧ (s.get NOC.RATE.RATE r = 0)) := by decide +kernel

theorem witness_cdcOverrun : (let s : State := w0; (s.get NOC.CDCSTAT.COUNT = 0)) := by decide +kernel

theorem witness_powerDownStart : (let d : Fin 13 := 0; let s : State := (w0.set NOC.PD.CTL.AUTO 1 0).set BLK.CFG.EN 0 0; (pdOn s d = true ∧ s.on NOC.PD.CTL.AUTO d = true) ∧ (pdAllowed s d = true)) := by decide +kernel

theorem witness_powerDownAbort : (let d : Fin 13 := 0; let s : State := w0.set NOC.PD.STAT.STATE 1 0; (pdState s d = 1)) := by decide +kernel

theorem witness_pointOfNoReturn : (let d : Fin 13 := 0; let s : State := (w0.set NOC.PD.STAT.STATE 1 0).set BLK.CFG.EN 0 0; (pdState s d = 1) ∧ (pdAllowed s d = true)) := by decide +kernel

theorem witness_minOffExpiry : (let d : Fin 13 := 0; let s : State := setPd 0 ⟨[], [], true, 0⟩ (w0.set NOC.PD.STAT.STATE 2 0); (pdState s d = 2 ∧ (pdSt s d).wake = true)) := by decide +kernel

theorem witness_domainOn : (let d : Fin 13 := 0; let s : State := setPd 0 ⟨[], [], true, 0⟩ (w0.set NOC.PD.STAT.STATE 3 0); (pdState s d = 3) ∧ ((pdSt s d).held = [] ∧ (pdSt s d).late = [])) := by decide +kernel

theorem witness_domainWake : (let d : Fin 13 := 0; let v : Word := 0x10000; let s : State := w0.set NOC.PD.STAT.STATE 1 0; (served s (NOC.PD.CTL.WAKE.base / 8) = true) ∧ (bitOf v.toNat 16 = true) ∧ (pdState s d = 1)) := by decide +kernel

theorem witness_trefLoss : (let pps : Bool := false; let s : State := w0.set TIME.STAT.TREF_OK 1; (pps = false) ∧ (s.on TIME.STAT.TREF_OK = true) ∧ (s.get TIME.STAT.STATE = 0)) := by decide +kernel

theorem witness_trefLock : (let s : State := w0.set TIME.CTL.TREF_EN 1; (s.on TIME.CTL.TREF_EN = true) ∧ (s.get TIME.STAT.STATE = 0 ∨ s.get TIME.STAT.STATE = 3)) := by decide +kernel

theorem witness_ppsEdge : (let s : State := w0.set TIME.CTL.PPS_EN 0; (s.on TIME.CTL.PPS_EN = false)) := by decide +kernel

theorem witness_timeStep : (let v : Word := 8; let s : State := w0.set TIME.SET.NS 77; (served s (TIME.CTL.STEP.base / 8) = true) ∧ (s.get TIME.STAT.STATE = 0) ∧ (bitOf v.toNat 3 = true ∧ bitOf v.toNat 4 = false)) := by decide +kernel

theorem witness_timeSlew : (let v : Word := 16; let s : State := w0; (served s (TIME.CTL.SLEW.base / 8) = true) ∧ (s.get TIME.STAT.STATE = 0) ∧ (bitOf v.toNat 3 = false ∧ bitOf v.toNat 4 = true)) := by decide +kernel

theorem witness_ppsOutSecond : (let s : State := w0.set TIME.CTL.PPSOUT_EN 1; (s.on TIME.CTL.PPSOUT_EN = true)) := by decide +kernel

theorem witness_ptmRequest : (let p : PortId := 3; let s : State := (w0.set PORT.STAT.PSTATE 3 3).set PORT.CFG.PTM_EN 1 3; (isUp s p = true) ∧ (s.on PORT.CFG.PTM_EN p = true)) := by decide +kernel

theorem witness_linkResponse : (let x : XId := 3; let r : LinkRsp := { wRsp with tag := 5 }; let e : TagEnt := ⟨5, true, 0, 0, 0, false, none, .memRd, none, 0⟩; let s : State := modPort 3 (fun q => { q with tags := [⟨5, true, 0, 0, 0, false, none, .memRd, none, 0⟩] }) (w0.set PORT.STAT.PSTATE 3 3); (s.safe = false ∧ x.val < 64) ∧ (isUp s (ownerPort s x) = true) ∧ (sentTag s (ownerPort s x) r.tag = some e) ∧ (e.quar = false ∧ e.pkt = none)) := by decide +kernel

theorem witness_linkResponse_b : (let x : XId := 3; let r : LinkRsp := { wRsp with tag := 5 }; let e : TagEnt := ⟨5, true, 0, 0, 0, true, none, .memRd, none, 0⟩; let s : State := modPort 3 (fun q => { q with tags := [⟨5, true, 0, 0, 0, true, none, .memRd, none, 0⟩] }) (w0.set PORT.STAT.PSTATE 3 3); (s.safe = false ∧ x.val < 64) ∧ (isUp s (ownerPort s x) = true) ∧ (sentTag s (ownerPort s x) r.tag = some e) ∧ (e.quar = true)) := by decide +kernel

theorem witness_sharedPoolMove : (let x : XId := 0; let tc : TcId := 0; let v : VoqEnt := ⟨wPkt, false, 0, 0, false⟩; let l : List VoqEnt := []; let s : State := setVoq 0 [⟨wPkt, false, 0, 0, false⟩] ((w0.set FRAME.XP.BUFCFG.EXT_EN 1 0).set FRAME.XP.TCSHARE.MAX 64 0 0); (s.on FRAME.XP.BUFCFG.EXT_EN x = true ∨ 64 ≤ x.val) ∧ (x.val < 72) ∧ (stalled s x = []) ∧ (takeFirst (fun v => (!v.ext && v.p.tc == tc.val && (beadClass v.p).1 != 16 && poolRoom s x v.p) && !v.p.own) (voq s x) = some (v, l))) := by decide +kernel

theorem witness_schedulerSlot : (let i : Nat := 72; let e : Nat := 73; let v : VoqEnt := ⟨{ wPkt with dest := 73 }, false, 0, 0, false⟩; let s : State := setVoq 72 [⟨{ wPkt with dest := 73 }, false, 0, 0, false⟩] w0; (s.frame.subst = none) ∧ (s.safe = false) ∧ (s.frame.voq = [(i, [v])]) ∧ (s.frame.cross = []) ∧ (v.p.dest = e) ∧ (s.frame.first = []) ∧ (e < 80) ∧ (v.p.tc < 8) ∧ (egressRoom s (egressOf s e) v.p.tc v.p.lp.isSome = true) ∧ (heldBack s v = false) ∧ (s.frame.replay = []) ∧ (perturbed s i = false) ∧ (i < 80)) := by decide +kernel

theorem witness_crossingComplete : (let i : XId := 72; let c : Cross := ⟨74, 0, 0, [⟨wPkt, false, 0, 0, false⟩], false, 0⟩; let l : List Cross := []; let s : State := setCross 72 [⟨74, 0, 0, [⟨wPkt, false, 0, 0, false⟩], false, 0⟩] w0; (takeFirst (fun c => !c.dead) (crossing s i) = some (c, l)) ∧ (s.frame.replay.contains (i.val, streamKey c.e c.tc) = false)) := by decide +kernel

theorem witness_crossingError : (let i : XId := 72; let c : Cross := ⟨74, 0, 0, [⟨wPkt, false, 0, 0, false⟩], false, 0⟩; let l : List Cross := []; let s : State := setCross 72 [⟨74, 0, 0, [⟨wPkt, false, 0, 0, false⟩], false, 0⟩] w0; (takeFirst (fun c => !c.dead) (crossing s i) = some (c, l))) := by decide +kernel

theorem witness_replayRequest : (let i : XId := 72; let e : XId := 74; let tc : TcId := 0; let s : State := setCross 72 [⟨74, 0, 0, [⟨wPkt, false, 0, 0, false⟩], true, 0⟩] { w0 with frame := { w0.frame with replay := [(72, 74 * 8)] } }; (s.frame.replay.contains (i.val, streamKey e tc) = true)) := by decide +kernel

theorem witness_sparePlaneCheck : (let n : Nat := 4; let s : State := w0; (sparePlane s = some n)) := by decide +kernel

theorem witness_planeSubCommand : (let v : Word := 8; let n : Nat := 4; let pos : Nat := 0; let s : State := w0; (served s (FRAME.PLANECTL.SUB.base / 8) = true) ∧ (bitOf v.toNat 3 = true) ∧ (sparePlane s = some n) ∧ (posOf s (bitsOf v.toNat 0 3) = some pos) ∧ (s.frame.subst = none) ∧ (s.on FRAME.PLANESTAT.NO_SPARE = false) ∧ (bitsOf v.toNat 0 3 < 5) ∧ (planeState s (bitsOf v.toNat 0 3) = 0)) := by decide +kernel

theorem witness_substitutionComplete : (let b : Subst := ⟨0, 4, 0, 0, []⟩; let s : State := { w0 with frame := { w0.frame with subst := some ⟨0, 4, 0, 0, []⟩ } }; (s.frame.subst = some b) ∧ (b.waiting = [])) := by decide +kernel

theorem witness_tcshareWrite : (let x : XId := 3; let tc : TcId := 1; let v : Word := 0x1001; let s : State := w0; (served s (FRAME.XP.TCSHARE.MIN.base / 8) = true) ∧ (((List.range 8).map (fun u => if u = tc.val then bitsOf v.toNat 0 11 else s.get FRAME.XP.TCSHARE.MIN x u)).sum * 16 + rspReserve ≤ (regionUnits s x).2)) := by decide +kernel

theorem witness_egqWrite : (let x : XId := 3; let tc : TcId := 1; let v : Word := 0x1001; let s : State := w0; (served s (FRAME.XP.EGQ.EQMIN.base / 8) = true) ∧ (x.val < 64 → behindX16 s x = false) ∧ (((List.range 8).map (fun u => if u = tc.val then bitsOf v.toNat 0 11 else s.get FRAME.XP.EGQ.EQMIN x u)).sum ≤ capacity s x) ∧ (bitsOf v.toNat 0 11 ≤ bitsOf v.toNat 11 11)) := by decide +kernel

theorem witness_cmarkWrite : (let v : Word := 0x300801; let s : State := w0; (served s (FRAME.XP.CMARK.T1.base / 8) = true) ∧ (bitsOf v.toNat 0 10 ≤ bitsOf v.toNat 10 10 ∧ bitsOf v.toNat 10 10 ≤ bitsOf v.toNat 20 10)) := by decide +kernel

theorem witness_egressVisit : (let x : XId := 75; let e : EgEnt := ⟨wPkt, 0⟩; let s : State := setEgq 75 [⟨wPkt, 0⟩] w0; (s.safe = false) ∧ (72 ≤ x.val ∧ x.val < 76) ∧ (egq s x = [e]) ∧ (e.p.tc < 8) ∧ (s.homeG.conv = none)) := by decide +kernel

theorem witness_qcfgWrite : (let p : PortId := 0; let v : Word := 0x9009; let s : State := w0; (served s (FRAME.EG.Q.QCFG.QUANTUM.base / 8) = true) ∧ (behindX16 s p = false) ∧ (9 ≤ bitsOf v.toNat 0 12) ∧ (bitsOf v.toNat 0 12 ≤ bitsOf v.toNat 12 12)) := by decide +kernel

theorem witness_shapeWrite : (let p : PortId := 0; let v : Word := 0x9FFF; let s : State := w0; (served s (FRAME.EG.Q.SHAPE.RATE.base / 8) = true) ∧ (behindX16 s p = false) ∧ (9 ≤ bitsOf v.toNat 12 12)) := by decide +kernel

theorem witness_gateBoundary : (let p : PortId := 0; let l : Nat := 0; let b : Nat := 0; let s : State := (setEg 0 { egSt w0 0 with run := some (0, 0) } ((w0.set FRAME.EG.GCLCYCLE.CYCLE 1000 0 0).set FRAME.EG.GCLLEN.LEN 1 0 0)); ((egSt s p).run = some (l, b))) := by decide +kernel

theorem witness_gclCommit : (let p : PortId := 0; let v : Word := 2; let s : State := w0; (served s (FRAME.EG.GCLCTL.COMMIT.base / 8) = true) ∧ (behindX16 s p = false) ∧ (bitOf v.toNat 1 = true) ∧ (s.get FRAME.EG.GCLLEN.LEN p (bitsOf v.toNat 0 1) = 0)) := by decide +kernel

theorem witness_gclCommit_b : (let p : PortId := 0; let v : Word := 2; let s : State := ((w0.set FRAME.EG.GCLCYCLE.CYCLE 1000 0 0).set FRAME.EG.GCLLEN.LEN 1 0 0).set FRAME.EG.GCL.INTERVAL 100 0 0; (served s (FRAME.EG.GCLCTL.COMMIT.base / 8) = true) ∧ (behindX16 s p = false) ∧ (bitOf v.toNat 1 = true) ∧ ((egSt s p).run = none) ∧ ((egSt s p).pend = none) ∧ (s.get FRAME.EG.GCLLEN.LEN p (bitsOf v.toNat 0 1) = 1) ∧ (8 ≤ (gclEntry s p (bitsOf v.toNat 0 1) 0).2) ∧ (64 ≤ s.get FRAME.EG.GCLCYCLE.CYCLE p (bitsOf v.toNat 0 1))) := by decide +kernel

theorem witness_gclCancel : (let p : PortId := 0; let v : Word := 4; let s : State := w0; (served s (FRAME.EG.GCLCTL.CANCEL.base / 8) = true) ∧ (behindX16 s p = false) ∧ (bitOf v.toNat 2 = true)) := by decide +kernel

theorem witness_pendingListStart : (let p : PortId := 0; let l : Nat := 0; let st : Nat := 5; let s : State := setEg 0 { egSt w0 0 with pend := some (0, 5) } w0; ((egSt s p).pend = some (l, st))) := by decide +kernel

theorem witness_gateDisable : (let p : PortId := 0; let v : Word := 0x7F8; let s : State := w0; (served s (FRAME.EG.SCHCFG.GATE_EN.base / 8) = true) ∧ (behindX16 s p = false) ∧ (bitOf v.toNat 0 = false)) := by decide +kernel

theorem witness_linkCreditUpdate : (let p : PortId := 0; let s : State := w0; ((portSt s p).credits = [])) := by decide +kernel

theorem witness_hdmCommit : (let p : PortId := 0; let g : HdmProg := ⟨0, 0x10000000, 1, 256, [(0, 0)], true, true⟩; let d : Fin 32 := 31; let s : State := w0.set PORT.CFG.ROLE 1 0; (s.get PORT.CFG.ROLE p = 1) ∧ (s.on BIND.DEC.LOCKED p d = false) ∧ (g.commit = true) ∧ (hdmFieldsOk g = true) ∧ (hdmOverlap s p d g = false) ∧ (g.targets.all (fun q => q.1 == p) = true)) := by decide +kernel

theorem witness_bindCommit : (let v : Word := 0x81; let hst : Nat := 1; let vp : Nat := 0; let s : State := ((((w0.set BIND.BT.VALID 1 7).set BIND.BT.HOST 1 7).set BIND.BT.TARGET 3 7).set BIND.STG.INDEX 7 0).set PORT.STAT.PSTATE 3 1; (served s (BIND.CTL.COMMIT.base / 8) = true) ∧ (bitOf v.toNat 7 = true) ∧ (bitOf v.toNat 8 = false) ∧ (bitsOf v.toNat 0 7 = 1) ∧ (s.on BIND.STAT.DONE = true) ∧ (s.on BIND.STAT.BUSY = false) ∧ (migPhase s 0 = 0 ∧ migPhase s 1 = 0) ∧ (badEntry s [stgEntry s 0] = none) ∧ (managed s (stgEntry s 0) = some (hst, vp))) := by decide +kernel

theorem witness_bindDiscard : (let v : Word := 0x3FF00; let s : State := w0.set BIND.STG.VALUE 9 63; (served s (BIND.CTL.DISCARD.base / 8) = true) ∧ (bitOf v.toNat 7 = false) ∧ (bitOf v.toNat 8 = true)) := by decide +kernel

theorem witness_hostSlotPowerOff : (let s : State := w0; (s.bind.change = none) ∧ (s.bind.mig0 = none ∧ s.bind.mig1 = none) ∧ (s.sec.rot0 = none ∧ s.sec.rot1 = none)) := by decide +kernel

theorem witness_unbindTimeout : (let c : Change := ⟨[], [(1, 0)], false, false, [], 0, 0⟩; let s : State := { w0 with bind := { w0.bind with change := some ⟨[], [(1, 0)], false, false, [], 0, 0⟩ } }; (s.bind.change = some c) ∧ (c.waits ≠ [])) := by decide +kernel

theorem witness_commitPoint : (let c : Change := ⟨[], [], true, true, [], 3, 0⟩; let s : State := { w0 with bind := { w0.bind with change := some ⟨[], [], true, true, [], 3, 0⟩ } }; (s.on BIND.STAT.DONE = true) ∧ (sealedOff s = false) ∧ (s.bind.change = some c) ∧ (c.sealed_ = true)) := by decide +kernel

theorem witness_bindDrainDone : (let s : State := w0.set BIND.STAT.DONE 0; (s.on BIND.STAT.DONE = false) ∧ (bindDrained s = true)) := by decide +kernel

theorem witness_bindVppb : (let index : Fin 4096 := 9; let host : PortId := 2; let vppb : Fin 256 := 3; let kind : Fin 4 := 2; let target : Fin 4096 := 70; let s : State := (((wJ.set PORT.CFG.ROLE 1 2).set BIND.LD.VALID 1 70).set BIND.LD.STATE 1 70).set BIND.LD.SIZE 4 70; (served s (BIND.CTL.COMMIT.base / 8) = true) ∧ (s.on BIND.STAT.DONE = true) ∧ (s.on BIND.STAT.BUSY = false) ∧ (migPhase s 0 = 0 ∧ migPhase s 1 = 0) ∧ (badEntry s [⟨false, index, 1 + host.val * 2 + vppb.val * 2 ^ 7 + kind.val * 2 ^ 15 + target.val * 2 ^ 17⟩] = none) ∧ ((request (.bind [⟨false, index, 1 + host.val * 2 + vppb.val * 2 ^ 7 + kind.val * 2 ^ 15 + target.val * 2 ^ 17⟩] none none) [] .bind s).1 = .taken)) := by decide +kernel

theorem witness_unbindVppb : (let host : PortId := 1; let vppb : Fin 256 := 0; let mode : Fin 4 := 2; let j : Nat := 7; let s : State := ((wJ.set BIND.BT.VALID 1 7).set BIND.BT.HOST 1 7).set BIND.BT.TARGET 3 7; (served s (BIND.CTL.COMMIT.base / 8) = true) ∧ (btOf s host vppb = some j) ∧ (s.on BIND.STAT.DONE = true) ∧ (s.on BIND.STAT.BUSY = false) ∧ (migPhase s 0 = 0 ∧ migPhase s 1 = 0) ∧ (mode.val = 2) ∧ (j < 4096) ∧ (badEntry s [⟨false, j, 2 ^ 30⟩] = none) ∧ ((request (.bind [⟨false, j, 2 ^ 30⟩] none none) [] .bind s).1 = .taken)) := by decide +kernel

theorem witness_setLdAllocations : (let p : PortId := 0; let r : PoolReport := ⟨0, 0, true, []⟩; let s : State := { (w0.set PORT.STAT.PSTATE 3 0) with bind := { w0.bind with pools := [(0, ⟨0, 0, true, []⟩)] } }; (isUp s p = true) ∧ (look s.bind.pools p = some r) ∧ (r.mld = true)) := by decide +kernel

theorem witness_migStart : (let m : Fin 2 := 0; let v : Word := 0x409005; let s : State := (((((wJ.set BIND.LD.VALID 1 5).set BIND.LD.STATE 1 5).set BIND.LD.SIZE 1 5).set PORT.CFG.ROLE 2 9).set PORT.CFG.POOL 1 9).set BIND.MIG.MBM.BASE 0x100000 0; (served s (BIND.MIG.MCTL.START.base / 8) = true) ∧ (bitOf v.toNat 22 = true) ∧ (bitOf v.toNat 23 = false) ∧ (migPhase s m = 0) ∧ (s.on BIND.LD.VALID (bitsOf v.toNat 0 12) = true) ∧ (s.get BIND.LD.STATE (bitsOf v.toNat 0 12) ≤ 1) ∧ (s.on BIND.STAT.BUSY = false) ∧ (destOk s m (bitsOf v.toNat 0 12) (bitsOf v.toNat 12 6) (poolMld s (bitsOf v.toNat 12 6)) (bitsOf v.toNat 18 4) (s.get BIND.MIG.MDEST.DBASE m) = true) ∧ (bitmapOk s m (bitsOf v.toNat 0 12) (bitsOf v.toNat 12 6) (poolMld s (bitsOf v.toNat 12 6)) (s.get BIND.MIG.MDEST.DBASE m) = true) ∧ ((request (.migStart m (bitsOf v.toNat 0 12) (bitsOf v.toNat 12 6) (bitsOf v.toNat 18 4) (s.get BIND.MIG.MDEST.DBASE m) (s.get BIND.MIG.MBM.BASE m)) [sealKey s (.mig m) (s.sec.draws + 1) 0] (.mig m) s).1 = .taken) ∧ (migSt s m = none)) := by decide +kernel

theorem witness_mctlAbort : (let m : Fin 2 := 0; let v : Word := 0x800000; let x : MigSt := wMig; let s : State := (setMig 0 (some wMig) wJ).set BIND.MIG.MSTAT.PHASE 1 0; (served s (BIND.MIG.MCTL.ABORT.base / 8) = true) ∧ (bitOf v.toNat 22 = false) ∧ (bitOf v.toNat 23 = true) ∧ (migSt s m = some x) ∧ (x.sealed_ = false ∧ x.aborting = false) ∧ (migPhase s m = 1) ∧ (heldDec s 4 m = none) ∧ ((request (.migAbort m) [] (.mig m) s).1 = .taken)) := by decide +kernel

theorem witness_copyPassEnd : (let m : Fin 2 := 1; let x : MigSt := { wMig with dirty := [3] }; let s : State := ((setMig 1 (some { wMig with dirty := [3] }) wJ).set BIND.MIG.MSTAT.PHASE 1 1).set BIND.MIG.MCFG.CONV 0 1; (migSt s m = some x) ∧ (migPhase s m = 1) ∧ (x.aborting = false ∧ x.wantQ = false) ∧ (x.once = false) ∧ (scanDone s m x = true) ∧ (4 * s.get BIND.MIG.MCFG.CONV m < x.dirty.length)) := by decide +kernel

theorem witness_migCheckpoint : (let m : Fin 2 := 1; let s : State := { (wJ.set BIND.MIG.MSTAT.PHASE 1 1) with boot := { wJ.boot with cur := some ⟨⟨4, .jmark, [], 1, 0, true, false⟩, .none, false, false⟩ } }; (migPhase s m = 1) ∧ ((request (.migCkpt m (s.get BIND.MIG.MCURSOR.OFFSET m) (s.get BIND.MIG.MSTAT.PASS m)) [] (.mig m) s).1 = .taken) ∧ (s.boot.cur.isSome = true)) := by decide +kernel

theorem witness_quiesceCopyDone : (let m : Fin 2 := 0; let lenNs : Nat := 50000; let x : MigSt := wMig; let s : State := (setMig 0 (some wMig) wJ).set BIND.MIG.MSTAT.PHASE 3 0; (migSt s m = some x) ∧ (migPhase s m = 3) ∧ (lenNs ≤ 50000) ∧ (ldOpen s x.ld = false) ∧ (copyOpen s x.ld = false) ∧ (x.dirty = [] ∧ x.reads = []) ∧ (x.held = []) ∧ ((request (.migCommit m) [] (.mig m) s).1 = .taken)) := by decide +kernel

theorem witness_quiesceTimeout : (let m : Fin 2 := 0; let x : MigSt := wMig; let s : State := (setMig 0 (some wMig) w0).set BIND.MIG.MSTAT.PHASE 3 0; (migSt s m = some x) ∧ (x.held = []) ∧ (migPhase s m = 3)) := by decide +kernel

theorem witness_migCommit : (let m : Fin 2 := 1; let x : MigSt := { wMig with sealed_ := true }; let s : State := (setMig 1 (some { wMig with sealed_ := true }) w0).set BIND.MIG.MSTAT.PHASE 4 1; (migSt s m = some x) ∧ (x.sealed_ = true) ∧ (migPhase s m = 4) ∧ (s.on BIND.STAT.DONE = true) ∧ (sealedOff s = false)) := by decide +kernel

theorem witness_homeRequestAccept : (let n : SliceId := 0; let p : Pkt := { wPkt with lst := 1, home := some { wHm with op := .memInv } }; let m : HomeMsg := { wHm with op := .memInv }; let s : State := setInbox 72 [{ wPkt with lst := 1, home := some { wHm with op := .memInv } }] w0; (inbox s (72 + n.val) = [p]) ∧ (p.lst = 1) ∧ (p.home = some m) ∧ (m.op = .memInv ∧ m.mv = .noOp) ∧ (homeSt s (shareAt s n (msgLk m)) = ⟨[], [], [], [], [], [], [], [], [], [], [], 0, true, []⟩ ∧ waitsAhead s m = false)) := by decide +kernel

theorem witness_rdS : (let n : SliceId := 0; let m : HomeMsg := { wHm with mv := .s }; let s : State := w0; (homeSt s (shareAt s n (msgLk m)) = ⟨[], [], [], [], [], [], [], [], [], [], [], 0, true, []⟩ ∧ waitsAhead s m = false) ∧ (m.op = .memRd)) := by decide +kernel

theorem witness_rdA : (let n : SliceId := 0; let m : HomeMsg := { wHm with mv := .a }; let s : State := w0; (homeSt s (shareAt s n (msgLk m)) = ⟨[], [], [], [], [], [], [], [], [], [], [], 0, true, []⟩ ∧ waitsAhead s m = false) ∧ (m.op = .memRd)) := by decide +kernel

theorem witness_rdI : (let n : SliceId := 0; let m : HomeMsg := wHm; let s : State := w0; (homeSt s (shareAt s n (msgLk m)) = ⟨[], [], [], [], [], [], [], [], [], [], [], 0, true, []⟩ ∧ waitsAhead s m = false) ∧ (m.op = .memRd)) := by decide +kernel

theorem witness_invA : (let n : SliceId := 0; let m : HomeMsg := { wHm with op := .memInv, mv := .a }; let d : Nat := 0; let s : State := w0; (homeSt s (shareAt s n (msgLk m)) = ⟨[], [], [], [], [], [], [], [], [], [], [], 0, true, []⟩ ∧ waitsAhead s m = false) ∧ (m.op = .memInv) ∧ (dhnOf s m.mid.toNat = some d) ∧ (s.homeG.departing = [])) := by decide +kernel

theorem witness_wb : (let n : SliceId := 0; let m : HomeMsg := { wHm with op := .memWr, mv := .i }; let d : Nat := 0; let x : Nat := 0; let e : TallyEnt := ⟨0, 2, 0, false, 0, false⟩; let l : Line := 0; let s : State := wHome (fun h => { h with tally := [(0, ⟨0, 2, 0, false, 0, false⟩)] }); (homeSt s (shareAt s n (msgLk m)) = ⟨[(x, e)], [], [], [], [], [], [], [], [], [], [], 0, true, []⟩) ∧ (waitsAhead s m = false) ∧ (dhnOf s m.mid.toNat = some d) ∧ (tallyFind s (shareAt s n (msgLk m)) (msgLk m) = some (x, e)) ∧ (e.state = 2 ∧ e.sharers = d) ∧ (m.data = some l) ∧ (migOf s (lkLd (msgLk m)) = none) ∧ (isX16 s m.port = false)) := by decide +kernel

theorem witness_wr : (let n : SliceId := 0; let m : HomeMsg := { wHm with op := .memWr }; let l : Line := 0; let s : State := w0; (homeSt s (shareAt s n (msgLk m)) = ⟨[], [], [], [], [], [], [], [], [], [], [], 0, true, []⟩ ∧ waitsAhead s m = false) ∧ (m.data = some l) ∧ (parkedOf s m.req = none) ∧ (migOf s (lkLd (msgLk m)) = none) ∧ (isX16 s m.port = false)) := by decide +kernel

theorem witness_cln : (let n : SliceId := 0; let m : HomeMsg := { wHm with op := .memClnEvct }; let s : State := w0; (homeSt s (shareAt s n (msgLk m)) = ⟨[], [], [], [], [], [], [], [], [], [], [], 0, true, []⟩ ∧ waitsAhead s m = false)) := by decide +kernel

theorem witness_nop : (let n : SliceId := 3; let m : HomeMsg := { wHm with op := .memInv }; let s : State := w0; (homeSt s (shareAt s n (msgLk m)) = ⟨[], [], [], [], [], [], [], [], [], [], [], 0, true, []⟩ ∧ waitsAhead s m = false)) := by decide +kernel

theorem witness_atom : (let n : SliceId := 0; let m : HomeMsg := { wHm with op := .farAtomic, atom := some ⟨1, false, 0, 0, 0⟩ }; let s : State := w0; (homeSt s (shareAt s n (msgLk m)) = ⟨[], [], [], [], [], [], [], [], [], [], [], 0, true, []⟩ ∧ waitsAhead s m = false) ∧ (s.homeG.departing = [])) := by decide +kernel

theorem witness_conf : (let n : SliceId := 0; let m : HomeMsg := { wHm with op := .biConflict }; let s : State := w0; (homeSt s (shareAt s n (msgLk m)) = ⟨[], [], [], [], [], [], [], [], [], [], [], 0, true, []⟩ ∧ waitsAhead s m = false) ∧ (s.frame.reqs = [])) := by decide +kernel

theorem witness_rsp : (let n : SliceId := 0; let m : HomeMsg := { wHm with op := .biRspS }; let d : Nat := 0; let x : HomeTx := { wTx with owed := [0, 5] }; let s : State := wHome (fun h => { h with txs := [{ wTx with owed := [0, 5] }] }); (homeSt s (shareAt s n (msgLk m)) = ⟨[], [x], [], [], [], [], [], [], [], [], [], 0, true, []⟩ ∧ waitsAhead s m = false ∧ x.lk = msgLk m ∧ x.runs = true) ∧ (dhnOf s m.mid.toNat = some d) ∧ (x.owed.contains d = true) ∧ (without d x.owed ≠ [])) := by decide +kernel

theorem witness_pd : (let n : SliceId := 0; let m : HomeMsg := { wHm with op := .parked }; let x : HomeTx := { wTx with owed := [5], rdOut := true }; let l : Line := 0; let s : State := wHome (fun h => { h with txs := [{ wTx with owed := [5], rdOut := true }] }); (homeSt s (shareAt s n (msgLk m)) = ⟨[], [x], [], [], [], [], [], [], [], [], [], 0, true, []⟩ ∧ waitsAhead s m = false ∧ x.lk = msgLk m ∧ x.runs = true) ∧ (x.drop = false ∧ x.rdOut = true) ∧ (x.owed ≠ []) ∧ (m.data = some l) ∧ (parkedOf s m.req = none)) := by decide +kernel

theorem witness_pc : (let n : SliceId := 0; let m : HomeMsg := { wHm with op := .poolWrDone }; let x : HomeTx := { wTx with owed := [5], pcs := 1 }; let s : State := wHome (fun h => { h with txs := [{ wTx with owed := [5], pcs := 1 }] }); (homeSt s (shareAt s n (msgLk m)) = ⟨[], [x], [], [], [], [], [], [], [], [], [], 0, true, []⟩ ∧ waitsAhead s m = false ∧ x.lk = msgLk m ∧ x.runs = true) ∧ (x.owed ≠ [])) := by decide +kernel

theorem witness_requestOrdered : (let n : SliceId := 0; let lk : BitVec 54 := 0; let m : HomeMsg := wHm; let s : State := wHome (fun h => { h with waiting := [(.nop, wHm)] }); (homeSt s (shareAt s n lk.toNat) = ⟨[], [], [(.nop, m)], [], [], [], [], [], [], [], [], 0, true, []⟩) ∧ (m.lk = lk)) := by decide +kernel

theorem witness_carryQueueAllocate : (let n : SliceId := 0; let set : Fin 262144 := 0; let x : HomeTx := wTx; let s : State := wHome (fun h => { h with txs := [wTx], carry := [0] }); (homeSt s n = ⟨[], [x], [], [x.lk], [], [], [], [], [], [], [], 0, true, []⟩) ∧ (setOf x.lk = set.val) ∧ (x.cls = .rdI ∧ x.from_ = 0 ∧ x.owed = []) ∧ (s.on HOME.STAT.DEGR n = false)) := by decide +kernel

theorem witness_hmapWrite : (let v : Word := 0x1FF; let s : State := w0; (served s (HOME.HMAP.DHN.base / 8) = true) ∧ (bitOf v.toNat 9 = false)) := by decide +kernel

theorem witness_rfConvert : (let v : Word := 0x2005; let s : State := (wJ.set BIND.LD.VALID 1 5).set HOME.RFMAP.COUNT 4 5; (served s (HOME.RFCTL.GO.base / 8) = true) ∧ (bitOf v.toNat 13 = true) ∧ (s.homeG.conv = none) ∧ (s.on BIND.STAT.BUSY = false) ∧ (migOf s (bitsOf v.toNat 0 12) = none) ∧ (s.on BIND.LD.VALID (bitsOf v.toNat 0 12) = true) ∧ (s.get HOME.RFREG.REGION < s.get HOME.RFMAP.COUNT (bitsOf v.toNat 0 12)) ∧ ((request (.bind [] (some (bitsOf v.toNat 0 12, s.get HOME.RFREG.REGION, bitOf v.toNat 12)) none) [] .rf s).1 = .taken)) := by decide +kernel

theorem witness_rfConvertDone : (let c : Conv := ⟨5, 0, true, true, true, [], 32768, [], []⟩; let s : State := { w0 with homeG := { w0.homeG with conv := some ⟨5, 0, true, true, true, [], 32768, [], []⟩ } }; (s.homeG.conv = some c) ∧ (c.sealed_ = true ∧ c.cleared = true ∧ c.toShared = true) ∧ (c.owed = [] ∧ c.held = []) ∧ (regionLines ≤ c.next)) := by decide +kernel

theorem witness_scrubPass : (let n : SliceId := 0; let s : State := w0.set HOME.SCRUBCFG.PERIOD 1 0; (s.get HOME.SCRUBCFG.PERIOD n ≠ 0)) := by decide +kernel

theorem witness_departureSweepDone : (let p : PortId := 5; let s : State := modPort 5 (fun x => { x with sweepOwed := true }) { w0 with homeG := { w0.homeG with departing := [(5, none)] } }; ((portSt s p).sweepOwed = true)) := by decide +kernel

theorem witness_atomicDone : (let n : SliceId := 0; let lk : BitVec 54 := 0; let x : HomeTx := { wTx with cls := .atom }; let b : BoardLine := ⟨0, 5, false, 0⟩; let s : State := modHome 0 (fun h => { h with txs := [{ wTx with cls := .atom }], board := [⟨0, 5, false, 0⟩] }) (w0.set HOME.CFG.BOARD_EN 1 0); (txOf s (shareAt s n lk.toNat) lk.toNat = some x) ∧ (x.lk = lk.toNat ∧ msgLk x.msg = lk.toNat) ∧ ((homeSt s (shareAt s n lk.toNat)).txs = [x] ∧ (homeSt s (shareAt s n lk.toNat)).waiting = [] ∧ (homeSt s (shareAt s n lk.toNat)).todo = []) ∧ (x.cls = .atom ∧ x.owed = [] ∧ x.runs = true ∧ x.pay = none ∧ x.wb = none ∧ x.slot = none) ∧ ((homeSt s (shareAt s n lk.toNat)).board = [b]) ∧ (b.lk = lk.toNat) ∧ (s.on HOME.CFG.BOARD_EN (serving s (shareAt s n lk.toNat)) = true)) := by decide +kernel

theorem witness_atomBoardIdle : (let n : SliceId := 0; let lk : BitVec 54 := 0; let b : BoardLine := ⟨0, 5, false, 0⟩; let s : State := wHome (fun h => { h with board := [⟨0, 5, false, 0⟩] }); (homeSt s (shareAt s n lk.toNat) = ⟨[], [], [], [], [], [], [], [b], [], [], [], 0, true, []⟩) ∧ (b.lk = lk.toNat) ∧ (migOf s (lkLd lk.toNat) = none)) := by decide +kernel

theorem witness_tallyProbe : (let n : SliceId := 0; let v : Word := 1; let s : State := w0; (served s (HOME.PROBECTL.GO.base / 8) = true) ∧ (bitOf v.toNat 0 = true) ∧ (serving s (fold2 (s.get HOME.PROBELK.LK n)) = n.val) ∧ (tallyFind s (fold2 (s.get HOME.PROBELK.LK n)) (s.get HOME.PROBELK.LK n) = none)) := by decide +kernel

theorem witness_windowDescriptor : (let f : FnId := 3; let w : WinId := 0; let aligned : Bool := true; let d : Line := 0x500010100; let s : State := wBound; (s.safe = false ∧ pdOn s (10 + sumEng s w) = true) ∧ (sumGranted s f w = true) ∧ (aligned = true) ∧ (openCheck s f w d.toNat = 0)) := by decide +kernel

theorem witness_closeDoorbell : (let f : FnId := 3; let w : WinId := 0; let x : SumWin := wWin; let s : State := wOpened wWin; (s.safe = false ∧ pdOn s (10 + sumEng s w) = true) ∧ (sumGranted s f w = true) ∧ (s.on SUM.GRANT.OPEN f = true) ∧ (winState s w = 1) ∧ (winOf s w = some x) ∧ (x.opener = f.val) ∧ (s.sum.away = [])) := by decide +kernel

theorem witness_slotRegistration : (let f : FnId := 3; let w : WinId := 0; let whole : Bool := true; let d : BitVec 128 := 16; let i : Fin 512 := 0; let x : SumWin := wWin; let s : State := wOpened wWin; (s.safe = false ∧ pdOn s (10 + sumEng s w) = true) ∧ (sumGranted s f w = true) ∧ (whole = true) ∧ (winState s w = 1) ∧ (winOf s w = some x) ∧ (bitsOf d.toNat 96 16 = s.get SUM.WIN.GEN (sumEng s w) w) ∧ (i.val < x.expect) ∧ (look x.slots i = none) ∧ (bitsOf d.toNat 0 4 = 0)) := by decide +kernel

theorem witness_contribution : (let f : FnId := 3; let w : WinId := 0; let first : Fin 64 := 0; let i : Fin 512 := 0; let x : SumWin := { wWin with expect := 2, slots := [(0, ⟨3, 0, 0, 0, false⟩)] }; let z : SumSlot := ⟨3, 0, 0, 0, false⟩; let s : State := wOpened { wWin with expect := 2, slots := [(0, ⟨3, 0, 0, 0, false⟩)] }; (s.safe = false ∧ pdOn s (10 + sumEng s w) = true) ∧ (sumGranted s f w = true) ∧ (winState s w = 1) ∧ (winOf s w = some x) ∧ (look x.slots i = some z) ∧ (z.fn = f.val ∧ z.lost = false) ∧ (first.val < x.lines) ∧ (bitOf z.lines first.val = false) ∧ ((List.range x.expect).all (fun j => slotComplete x j || slotLost x j || j == i.val) = false)) := by decide +kernel

theorem witness_bar2StrayWrite : (let s : State := w0; (s.safe = false ∧ pdOn s (10) = true)) := by decide +kernel

theorem witness_resultWritesDone : (let w : WinId := 0; let x : SumWin := wWin; let s : State := (putWin 0 wWin wBound).set SUM.WIN.STATE 3 0 0; (winOf s w = some x) ∧ (winState s w = 3) ∧ (resultOwed s w = false) ∧ (x.rearm = false) ∧ (s.sum.away = [])) := by decide +kernel

theorem witness_windowTimerExpiry : (let w : WinId := 0; let x : SumWin := { wWin with deadline := some 5 }; let d : Nat := 5; let s : State := { ((wOpened { wWin with deadline := some 5 }).set GCTL.ASSIST.MODE 0x80) with fmUp := true }; (winOf s w = some x) ∧ (x.deadline = some d) ∧ (winState s w = 1) ∧ (bitOf (s.get GCTL.ASSIST.MODE) 7 = true) ∧ (withoutFm s = false)) := by decide +kernel

theorem witness_farAtomicCommand : (let f : FnId := 3; let engine1 : Bool := false; let aligned : Bool := true; let d : Line := 0; let s : State := ((wBound.set BIND.LD.SHARE 1 5).set HOME.RFMAP.COUNT 1 5).set HOME.RFBITS.BITS 1 0; (s.safe = false ∧ pdOn s (10 + sumEng s (b2n engine1)) = true) ∧ (atomCheck s f (sumEng s (b2n engine1)) aligned d.toNat = 0)) := by decide +kernel

theorem witness_sqDoorbell : (let f : FnId := 3; let q : Fin 4 := 3; let v : Word := 15; let s : State := w0.set FN.SQ.STAT.STATE 1 3 3; (s.safe = false ∧ pdOn s (9) = true) ∧ (s.get FN.SQ.STAT.STATE f q = 1) ∧ (v.toNat % 2 ^ 14 < sqSize s f q) ∧ ((fnSt s f).tails.length = 4)) := by decide +kernel

theorem witness_cqDoorbell : (let f : FnId := 3; let v : Word := 15; let s : State := modFn 3 (fun x => { x with used := 15 }) (w0.set FN.CQ.CFG.EN 1 3); (s.safe = false ∧ pdOn s (9) = true) ∧ (s.on FN.CQ.CFG.EN f = true) ∧ (v.toNat % 2 ^ 14 < cqSize s f) ∧ ((v.toNat % 2 ^ 14 + cqSize s f - (fnSt s f).cqHead % cqSize s f) % cqSize s f ≤ (fnSt s f).used)) := by decide +kernel

theorem witness_descriptorFetch : (let f : FnId := 3; let q : Fin 4 := 0; let s : State := modFn 3 (fun x => { x with tails := [1, 0, 0, 0] }) ((wFn ⟨0, 9, 0, 0, 0, 0, none, 0, false, none, false⟩).set FN.SQ.STAT.STATE 1 3 0); (mayFetch s f q = true) ∧ (s.get FN.SQ.CFG.LOGSIZE f q ≤ 12) ∧ (s.get FN.SQ.STAT.HEAD f q < sqSize s f q) ∧ ((nthD (fnSt s f).tails q 0 + sqSize s f q - s.get FN.SQ.STAT.HEAD f q) % sqSize s f q ≠ 0) ∧ ((running_ (fnSt s f) q).length < 16)) := by decide +kernel

theorem witness_copy : (let f : FnId := 3; let q : Fin 4 := 0; let idx : Fin 4096 := 9; let src : List Byte := [1, 2]; let bad : List Nat := []; let e : DmvDesc := ⟨0, 9, 0x2000000002000100000000000200000000000000000000000, 0, 0, 0, none, 0, false, none, false⟩; let a : Nat := 0x20000000; let u : Nat := 3; let b : Nat := 0x20001000; let z : Nat := 3; let s : State := wFn ⟨0, 9, 0x2000000002000100000000000200000000000000000000000, 0, 0, 0, none, 0, false, none, false⟩; (findDesc s f q idx = some e) ∧ (e.q = q.val ∧ e.idx = idx.val) ∧ (mayRun s f e 0 = true) ∧ (min (quota e) src.length ≠ 0) ∧ (spaceOf s f (dSsp e.d) (dSrc e.d) (dLen e.d) false = some (z, a)) ∧ (spaceOf s f (dDsp e.d) (dDst e.d) (dLen e.d) true = some (u, b)) ∧ ((dmvRead z (descTag f q idx) (dTc e.d) (rangeParts (a + e.bytes) (min (quota e) src.length)) s).1 = 0) ∧ ((dmvStore u (descTag f q idx) (dTc e.d) (b + e.bytes) (rangeParts (b + e.bytes) (min (quota e) src.length)) (fun i => (nthD src i 0).toNat) (fun i => bad.contains i) (dmvRead z (descTag f q idx) (dTc e.d) (rangeParts (a + e.bytes) (min (quota e) src.length)) s).2).1 = 0)) := by decide +kernel

theorem witness_fill : (let f : FnId := 3; let q : Fin 4 := 0; let idx : Fin 4096 := 9; let e : DmvDesc := ⟨0, 9, 0x2000000002000100000000000200000000000000000000000 + 1, 0, 0, 0, none, 0, false, none, false⟩; let u : Nat := 3; let b : Nat := 0x20001000; let s : State := wFn ⟨0, 9, 0x2000000002000100000000000200000000000000000000000 + 1, 0, 0, 0, none, 0, false, none, false⟩; (findDesc s f q idx = some e) ∧ (e.q = q.val ∧ e.idx = idx.val) ∧ (mayRun s f e 1 = true) ∧ (quota e ≠ 0) ∧ (spaceOf s f (dDsp e.d) (dDst e.d) (dLen e.d) true = some (u, b)) ∧ ((dmvStore u (descTag f q idx) (dTc e.d) (b + e.bytes) (rangeParts (b + e.bytes) (quota e)) (fun i => bitsOf e.d (256 + 8 * ((e.bytes + i) % 16)) 8) (fun _ => false) s).1 = 0)) := by decide +kernel

theorem witness_zero : (let f : FnId := 3; let q : Fin 4 := 0; let idx : Fin 4096 := 9; let e : DmvDesc := ⟨0, 9, 0x2000000002000100000000000200000000000000000000000 + 2, 0, 0, 0, none, 0, false, none, false⟩; let u : Nat := 3; let b : Nat := 0x20001000; let s : State := wFn ⟨0, 9, 0x2000000002000100000000000200000000000000000000000 + 2, 0, 0, 0, none, 0, false, none, false⟩; (findDesc s f q idx = some e) ∧ (e.q = q.val ∧ e.idx = idx.val) ∧ (mayRun s f e 2 = true) ∧ (quota e ≠ 0) ∧ (spaceOf s f (dDsp e.d) (dDst e.d) (dLen e.d) true = some (u, b)) ∧ ((dmvStore u (descTag f q idx) (dTc e.d) (b + e.bytes) (rangeParts (b + e.bytes) (quota e)) (fun _ => 0) (fun _ => false) s).1 = 0)) := by decide +kernel

theorem witness_crc : (let f : FnId := 3; let q : Fin 4 := 0; let idx : Fin 4096 := 9; let src : List Byte := [1, 2]; let e : DmvDesc := ⟨0, 9, 0x2000000002000100000000000200000000000000000000000 + 3, 0, 0xFFFFFFFF, 0, none, 0, false, none, false⟩; let a : Nat := 0x20000000; let z : Nat := 3; let s : State := wFn ⟨0, 9, 0x2000000002000100000000000200000000000000000000000 + 3, 0, 0xFFFFFFFF, 0, none, 0, false, none, false⟩; (findDesc s f q idx = some e) ∧ (e.q = q.val ∧ e.idx = idx.val) ∧ (mayRun s f e 3 = true) ∧ (min (quota e) src.length ≠ 0) ∧ (spaceOf s f (dSsp e.d) (dSrc e.d) (dLen e.d) false = some (z, a)) ∧ ((dmvRead z (descTag f q idx) (dTc e.d) (rangeParts (a + e.bytes) (min (quota e) src.length)) s).1 = 0)) := by decide +kernel

theorem witness_compare : (let f : FnId := 3; let q : Fin 4 := 0; let idx : Fin 4096 := 9; let src : List Byte := [1, 2]; let e : DmvDesc := ⟨0, 9, 0x2000000002000100000000000200000000000000000000000 + 4, 0, 0, 0, none, 0, false, none, false⟩; let a : Nat := 0x20000000; let u : Nat := 3; let b : Nat := 0x20001000; let z : Nat := 3; let s : State := wFn ⟨0, 9, 0x2000000002000100000000000200000000000000000000000 + 4, 0, 0, 0, none, 0, false, none, false⟩; (findDesc s f q idx = some e) ∧ (e.q = q.val ∧ e.idx = idx.val) ∧ (mayRun s f e 4 = true) ∧ (e.mism = false) ∧ (min (quota e) src.length ≠ 0) ∧ (spaceOf s f (dSsp e.d) (dSrc e.d) (dLen e.d) false = some (z, a)) ∧ (spaceOf s f (dDsp e.d) (dDst e.d) (dLen e.d) false = some (u, b)) ∧ ((dmvRead z (descTag f q idx) (dTc e.d) (rangeParts (a + e.bytes) (min (quota e) src.length)) s).1 = 0) ∧ ((dmvRead u (descTag f q idx) (dTc e.d) (rangeParts (b + e.bytes) (min (quota e) src.length)) (dmvRead z (descTag f q idx) (dTc e.d) (rangeParts (a + e.bytes) (min (quota e) src.length)) s).2).1 = 0)) := by decide +kernel

theorem witness_atomic : (let f : FnId := 3; let q : Fin 4 := 0; let idx : Fin 4096 := 9; let e : DmvDesc := ⟨0, 9, 5, 0, 0, 0, none, 0, false, none, false⟩; let s : State := (((wFn ⟨0, 9, 5, 0, 0, 0, none, 0, false, none, false⟩).set BIND.LD.SHARE 1 5).set HOME.RFMAP.COUNT 1 5).set HOME.RFBITS.BITS 1 0; (findDesc s f q idx = some e) ∧ (mayRun s f e 5 = true) ∧ (e.bytes = 0 ∧ e.limit = none) ∧ (atomCheck s f (sumEng s (dSrc e.d / 64 % 2)) true (atomCommand e.d).toNat = 0)) := by decide +kernel

theorem witness_reKey : (let r : Fin 2 := 0; let x : RotSt := ⟨5, 1, 1, false, 0, none, false, false⟩; let s : State := setRot 0 (some ⟨5, 1, 1, false, 0, none, false, false⟩) (wBound.set SEC.ROT.RSTAT.PHASE 3 0); (rotSt s r = some x) ∧ (rotPhase s r = 3) ∧ (x.paused = false ∧ x.copying = none) ∧ (s.get SEC.ROT.RCURSOR.OFFSET r < ldBytes s x.ld) ∧ (s.get BIND.LD.STATE x.ld ≠ 2) ∧ (s.get SEC.ROT.RCURSOR.OFFSET r + 65536 ≤ x.ckpt + 64 * 2 ^ 20) ∧ (blockOpen s x.ld (s.get SEC.ROT.RCURSOR.OFFSET r) = false) ∧ (dmvPaused s = false) ∧ (pdOn s 9 = true)) := by decide +kernel

theorem witness_migrate : (let m : Fin 2 := 0; let block : Nat := 0; let x : MigSt := wMig; let s : State := (setMig 0 (some wMig) wBound).set BIND.MIG.MSTAT.PHASE 1 0; (migSt s m = some x) ∧ (mayCopy s m x block = true) ∧ (migPhase s m = 1) ∧ (pdOn s 9 = true)) := by decide +kernel

theorem witness_descriptorDone : (let f : FnId := 3; let q : Fin 4 := 0; let idx : Fin 4096 := 9; let e : DmvDesc := ⟨0, 9, 0x2000000002000100000000000200000000000000000000000 + 16, 2, 0, 0, none, 0, false, none, false⟩; let s : State := wFn ⟨0, 9, 0x2000000002000100000000000200000000000000000000000 + 16, 2, 0, 0, none, 0, false, none, false⟩; (findDesc s f q idx = some e) ∧ (e.err = 0 ∧ e.fin = none) ∧ (workDone e = true) ∧ (dOpc e.d ≠ 5) ∧ (fenceOk s f e = true) ∧ (descOpen s (descTag f q idx) = false) ∧ (bitOf e.d 4 = true)) := by decide +kernel

theorem witness_cqEntryWrite : (let f : FnId := 3; let e : DmvDesc := ⟨0, 9, 16, 2, 0, 0, some 0, 0, false, none, false⟩; let s : State := (wFn ⟨0, 9, 16, 2, 0, 0, some 0, 0, false, none, false⟩).set FN.CQ.CFG.EN 1 3; (fnState s f = 1) ∧ (cqRoom s f = true) ∧ ((fnSt s f).heldQ = [] ∧ (fnSt s f).exec = [e]) ∧ (wantsEntry e = true) ∧ (s.get FN.CQ.CFG.LOGSIZE f ≤ 14) ∧ (s.get FN.CQ.STAT.TAIL f < cqSize s f)) := by decide +kernel

theorem witness_cqCoalesceTimeout : (let f : FnId := 3; let a : Nat := 0; let s : State := (modFn 3 (fun x => { x with coal := 2, coalAt := some 0 }) w0).set FN.CQ.CFG.TIME 1 3; ((fnSt s f).coalAt = some a) ∧ (s.get FN.CQ.CFG.TIME f ≠ 0)) := by decide +kernel

theorem witness_queueEnable : (let f : FnId := 3; let v : Word := 25; let q : Fin 4 := 0; let s : State := w0; (s.safe = false ∧ pdOn s (9) = true) ∧ (fnState s f < 2) ∧ (bitOf v.toNat 0 = true) ∧ (s.on FN.SQ.CFG.EN f q = false) ∧ (4 ≤ bitsOf v.toNat 1 4 ∧ bitsOf v.toNat 1 4 ≤ 12) ∧ (q.val < maxSq s f)) := by decide +kernel

theorem witness_fcfgWrite : (let s : State := w0; (served s (DMV.FN.FCFG.MAXSQ.base / 8) = true) ∧ (pdOn s 9 = true)) := by decide +kernel

theorem witness_freeze : (let v : Word := 0x803; let s : State := w0.set FN.STAT.STATE 1 3; (served s (DMV.FRZCTL.GO.base / 8) = true) ∧ (pdOn s 9 = true) ∧ (bitOf v.toNat 11 = true) ∧ (bitsOf v.toNat 8 3 = 0) ∧ (bitsOf v.toNat 0 8 ≠ 0) ∧ (s.on DMV.FRZSTAT.BUSY = false) ∧ (fnState s (bitsOf v.toNat 0 8) = 1)) := by decide +kernel

theorem witness_freezeComplete : (let f : Nat := 3; let s : State := { (w0.set FN.STAT.STATE 2 3) with dmv := { w0.dmv with frz := some 3 } }; (s.dmv.frz = some f) ∧ (fnState s f = 2) ∧ (f < 256) ∧ ((fnSt s f).exec = [])) := by decide +kernel

theorem witness_save : (let v : Word := 0x903; let k : Nat := 7; let s : State := { (w0.set FN.STAT.STATE 3 3) with sec := { w0.sec with domain := some 7 } }; (served s (DMV.FRZCTL.GO.base / 8) = true) ∧ (pdOn s 9 = true) ∧ (bitOf v.toNat 11 = true) ∧ (bitsOf v.toNat 8 3 = 1) ∧ (bitsOf v.toNat 0 8 ≠ 0) ∧ (s.on DMV.FRZSTAT.BUSY = false) ∧ (fnState s (bitsOf v.toNat 0 8) = 3) ∧ (s.sec.domain = some k)) := by decide +kernel

theorem witness_restore : (let v : Word := 0xA03; let b : VfBlob := { (default : VfBlob) with intact := true, version := 1, keyId := 7 }; let s : State := { w0 with sec := { w0.sec with domain := some 7 } }; (served s (DMV.FRZCTL.GO.base / 8) = true) ∧ (pdOn s 9 = true) ∧ (bitOf v.toNat 11 = true) ∧ (bitsOf v.toNat 8 3 = 2) ∧ (bitsOf v.toNat 0 8 ≠ 0) ∧ (s.on DMV.FRZSTAT.BUSY = false) ∧ (fnState s (bitsOf v.toNat 0 8) = 0) ∧ ((fnSt s (bitsOf v.toNat 0 8)).restored = false) ∧ (b.intact = true ∧ b.version = 1 ∧ s.sec.domain = some b.keyId) ∧ ((List.range 4).any (fun q => bitOf b.sqmask.toNat q && maxSq s (bitsOf v.toNat 0 8) ≤ q) = false)) := by decide +kernel

theorem witness_unfreeze : (let v : Word := 0xB03; let s : State := w0.set FN.STAT.STATE 3 3; (served s (DMV.FRZCTL.GO.base / 8) = true) ∧ (pdOn s 9 = true) ∧ (bitOf v.toNat 11 = true) ∧ (bitsOf v.toNat 8 3 = 3) ∧ (bitsOf v.toNat 0 8 ≠ 0) ∧ (s.on DMV.FRZSTAT.BUSY = false) ∧ (fnState s (bitsOf v.toNat 0 8) = 3)) := by decide +kernel

theorem witness_freezeDiscard : (let v : Word := 0xC03; let s : State := w0.set FN.STAT.STATE 3 3; (served s (DMV.FRZCTL.GO.base / 8) = true) ∧ (pdOn s 9 = true) ∧ (bitOf v.toNat 11 = true) ∧ (bitsOf v.toNat 8 3 = 4) ∧ (bitsOf v.toNat 0 8 ≠ 0) ∧ (s.on DMV.FRZSTAT.BUSY = false) ∧ (fnState s (bitsOf v.toNat 0 8) = 3)) := by decide +kernel

theorem witness_functionReset : (let f : FnId := 3; let s : State := wFn ⟨0, 9, 16, 2, 0, 0, none, 0, false, none, false⟩; (s.safe = false ∧ pdOn s (9) = true) ∧ (s.dmv.frz ≠ some f.val)) := by decide +kernel

theorem witness_cryptoErase : (let v : Word := 0x2005; let s : State := wJ.set BIND.LD.VALID 1 5; (served s (DMV.ERASECTL.GO.base / 8) = true) ∧ (pdOn s 9 = true) ∧ (bitOf v.toNat 13 = true) ∧ (s.on BIND.LD.VALID (bitsOf v.toNat 0 12) = true) ∧ (s.get BIND.LD.STATE (bitsOf v.toNat 0 12) = 0) ∧ (s.on BIND.STAT.BUSY = false) ∧ (s.dmv.erase = none) ∧ ((request (.key []) [sealKey s (.ld (bitsOf v.toNat 0 12)) (s.sec.draws + 1) (wrapAdd 16 (s.get SEC.LDKEY.GEN (bitsOf v.toNat 0 12)) 1)] (.erase (bitsOf v.toNat 0 12)) s).1 = .taken)) := by decide +kernel

theorem witness_eraseZeroDone : (let e : Erase := ⟨5, 1, true, 3⟩; let s : State := { (w0.set DMV.ERASESTAT.BUSY 1) with dmv := { w0.dmv with erase := some ⟨5, 1, true, 3⟩ } }; (s.dmv.erase = some e) ∧ (e.stage = 3)) := by decide +kernel

theorem witness_codewordReceived : (let n : BlkId := 0; let s : State := w0; ((blkSt s n).sub = none) ∧ ((blkSt s n).bad < 7)) := by decide +kernel

theorem witness_codewordReceived_b : (let n : BlkId := 0; let s : State := w0; ((blkSt s n).sub = none)) := by decide +kernel

theorem witness_dataBead : (let n : BlkId := 0; let h : BeadHdr := wHdr; let s : State := wLink; (s.safe = false) ∧ (linkUp (takeHeader n h s) n = true) ∧ ((takeHeader n h s).get BLK.RXSTAT.RXEXP n = h.seq.toNat) ∧ ((blkSt (takeHeader n h s) n).slots = [])) := by decide +kernel

theorem witness_idleBead : (let n : BlkId := 0; let h : BeadHdr := wHdr; let c : BitVec 12 := 64; let s : State := wLink; (s.safe = false) ∧ (linkUp (takeHeader n h s) n = true) ∧ (wrapSub 12 c.toNat ((takeHeader n h s).get BLK.CRED.LIMIT n 0) < 2048)) := by decide +kernel

theorem witness_retransmitTimeout : (let n : BlkId := 0; let e : TxBead := ⟨0, [], none⟩; let s : State := modBlk 0 (fun b => { b with win := [⟨0, [], none⟩] }) wLink; ((blkSt s n).win = [e]) ∧ (linkUp s n = true) ∧ ((blkSt s n).expiries + 1 < s.get BLK.RTCFG.FAILN n)) := by decide +kernel

theorem witness_helloAck : (let n : BlkId := 0; let cseq : BitVec 8 := 1; let k : Nat := 7; let s : State := { (modBlk 0 (fun b => { b with waits := [⟨1, .topo 0, 0⟩] }) (w0.set BLK.STAT.LSTATE 3 0)) with sec := { w0.sec with domain := some 7 } }; (lstate s n = 3) ∧ (awaits s n cseq.toNat = true) ∧ (s.sec.domain = some k) ∧ ((blkSt s n).hello = none)) := by decide +kernel

theorem witness_laneSub : (let n : BlkId := 0; let s : State := wLink; (linkUp s n = true)) := by decide +kernel

theorem witness_laneSubAck : (let n : BlkId := 0; let cseq : BitVec 8 := 1; let pos : Fin 8 := 7; let q : LaneSub := ⟨7, 0, 0, false⟩; let s : State := modBlk 0 (fun b => { b with waits := [⟨1, .topo 0, 0⟩], sub := some ⟨7, 0, 0, false⟩ }) wLink; (awaits s n cseq.toNat = true) ∧ ((blkSt s n).sub = some q) ∧ (q.pos = pos.val)) := by decide +kernel

theorem witness_handoff : (let n : BlkId := 0; let failed : Fin 8 := 3; let l : Nat := 1; let s : State := ((wLink.set BLK.STAT.LSTATE 6 1).set BLK.STAT.PEER 1 1).set BLK.STAT.PEERLINK 3 1; (handoffLink s n failed = some l) ∧ (l < 8) ∧ (lstate s l = 6)) := by decide +kernel

theorem witness_handoffAck : (let n : BlkId := 0; let cseq : BitVec 8 := 1; let failed : Fin 8 := 3; let s : State := modBlk 0 (fun b => { b with waits := [⟨1, .topo 0, 0⟩] }) wLink; (awaits s n cseq.toNat = true) ∧ (handoffLink s n failed = none)) := by decide +kernel

theorem witness_topo : (let n : BlkId := 0; let s : State := wLink; (linkUp s n = true)) := by decide +kernel

theorem witness_depart : (let n : BlkId := 0; let cseq : BitVec 8 := 1; let s : State := wLink; (linkUp s n = true) ∧ (lookD (blkSt s n).seen 8 256 ≠ cseq.toNat)) := by decide +kernel

theorem witness_departDone : (let n : BlkId := 0; let cseq : BitVec 8 := 1; let dhn : BitVec 9 := 64; let v : CtrlWait := ⟨1, .depart 64, 0⟩; let s : State := modBlk 0 (fun b => { b with waits := [⟨1, .depart 64, 0⟩] }) wLink; ((blkSt s n).waits = [v]) ∧ (v.cseq = cseq.toNat ∧ v.msg = .depart dhn.toNat) ∧ (dhn.toNat / 64 ≠ me s)) := by decide +kernel

theorem witness_masterXfer : (let n : BlkId := 0; let cseq : BitVec 8 := 1; let s : State := wLink; (linkUp s n = true) ∧ (awaits s n cseq.toNat = false)) := by decide +kernel

theorem witness_masterChange : (let d : Nat := 0; let x : Nat := 100; let s : State := { wLink with blkG := { wLink.blkG with xfer := some (0, 100) } }; (s.blkG.xfer = some (d, x))) := by decide +kernel

theorem witness_sync : (let n : BlkId := 0; let b : TimeBead := ⟨1, 100, 0, 105⟩; let d : Nat := 5; let s : State := modBlk 0 (fun b => { b with delay := some 5 }) (wLink.set BLKC.CSTAT.TSRC 0); (linkUp s n = true) ∧ (s.get BLKC.CSTAT.TSRC = n.val) ∧ ((blkSt s n).delay = some d) ∧ (b.stamp + d = b.arrival)) := by decide +kernel

theorem witness_dreq : (let n : BlkId := 0; let s : State := wLink; (linkUp s n = true) ∧ (s.on BLKC.CSTAT.IS_MASTER = false)) := by decide +kernel

theorem witness_drsp : (let n : BlkId := 0; let b : TimeBead := ⟨0, 100, 0, 205⟩; let s : State := wLink; (linkUp s n = true) ∧ ((blkSt s n).xid = b.xid)) := by decide +kernel

theorem witness_timeBeadSend : (let n : BlkId := 0; let s : State := wLink; (linkUp s n = true) ∧ (s.get BLKC.CSTAT.TSRC ≠ n.val)) := by decide +kernel

theorem witness_timeBeadSend_b : (let n : BlkId := 0; let s : State := wLink.set BLKC.CSTAT.TSRC 0; (linkUp s n = true) ∧ (s.get BLKC.CSTAT.TSRC = n.val)) := by decide +kernel

theorem witness_topoSend : (let n : Nat := 0; let s : State := wLink; ((List.range 8).filter (linkUp s) = [n])) := by decide +kernel

theorem witness_ctrlResend : (let n : BlkId := 0; let v : CtrlWait := ⟨1, .depart 64, 0⟩; let s : State := modBlk 0 (fun b => { b with waits := [⟨1, .depart 64, 0⟩] }) wLink; ((blkSt s n).waits = [v])) := by decide +kernel

theorem witness_ctrlTimeout : (let n : BlkId := 0; let v : CtrlWait := ⟨1, .depart 64, 0⟩; let s : State := modBlk 0 (fun b => { b with waits := [⟨1, .depart 64, 0⟩] }) (w0.set BLK.STAT.LSTATE 3 0); ((blkSt s n).waits = [v]) ∧ (lstate s n = 3)) := by decide +kernel

theorem witness_blkEnable : (let n : BlkId := 0; let v : Word := 0x21; let s : State := w0; (served s (BLK.CFG.EN.base / 8) = true) ∧ (pdOn s n = true) ∧ (bitOf v.toNat 0 = true) ∧ (lstate s n = 0) ∧ (s.live = true ∧ s.safe = false) ∧ (s.get TST.LB.CTL.MODE (32 + n) = 0)) := by decide +kernel

theorem witness_trainComplete : (let n : BlkId := 0; let s : State := w0.set BLK.STAT.LSTATE 2 0; (lstate s n = 2)) := by decide +kernel

theorem witness_blkStateTimeout : (let n : BlkId := 0; let s : State := w0.set BLK.STAT.LSTATE 2 0; (lstate s n = 2)) := by decide +kernel

theorem witness_blkRetryInterval : (let n : BlkId := 0; let s : State := (w0.set BLK.STAT.LSTATE 1 0).set BLK.CFG.EN 1 0; (lstate s n = 1) ∧ (s.on BLK.CFG.EN n = true) ∧ (s.live = true ∧ s.safe = false) ∧ (s.get TST.LB.CTL.MODE (32 + n) = 0)) := by decide +kernel

theorem witness_laneLockLoss : (let n : BlkId := 0; let s : State := w0.set BLK.STAT.LSTATE 3 0; (lstate s n = 3)) := by decide +kernel

theorem witness_laneErrorWindow : (let n : BlkId := 0; let s : State := (modBlk 0 (fun b => { b with winErr := [(8, 4)] }) w0).set BLK.LSPCFG.SUB_THRESH 0 0; (s.get BLK.LSPCFG.SUB_THRESH n = 0)) := by decide +kernel

theorem witness_laneSubCommand : (let n : BlkId := 0; let v : Word := 0x13; let w : Nat := 8; let s : State := wLink; (served s (BLK.LCTL.SUB.base / 8) = true) ∧ (pdOn s n = true) ∧ (bitOf v.toNat 4 = true ∧ bitOf v.toNat 5 = false) ∧ (linkUp s n = true) ∧ (bitsOf v.toNat 0 4 < 9) ∧ (laneState s n (bitsOf v.toNat 0 4) = 0) ∧ (spareLane s n = some w) ∧ ((blkSt s n).sub = none)) := by decide +kernel

theorem witness_spareLaneFail : (let n : BlkId := 0; let l : Nat := 8; let s : State := wLink; (spareLane s n = some l) ∧ ((blkSt s n).sub = none)) := by decide +kernel

theorem witness_linkHandoffCommand : (let n : BlkId := 0; let v : Word := 0x20; let s : State := wLink; (served s (BLK.LCTL.HANDOFF.base / 8) = true) ∧ (pdOn s n = true) ∧ (bitOf v.toNat 4 = false ∧ bitOf v.toNat 5 = true) ∧ (lstate s n = 4)) := by decide +kernel

theorem witness_linkSetFenceDone : (let d : Fin 8 := 1; let s : State := { wLink with blkG := { wLink.blkG with fences := [1] } }; (s.blkG.fences.contains d.val = true) ∧ ((linksTo s d ++ linksTo s (if s.on BLKC.ROUTE.RELAY d then s.get BLKC.ROUTE.VIA d else d.val)).all (fun l => (blkSt s l).win.isEmpty) = true)) := by decide +kernel

theorem witness_unreachableTimeout : (let d : Fin 8 := 2; let x : Nat := 0; let s : State := { (wLink.set BLKC.ROUTE.REACH 1 2) with blkG := { wLink.blkG with lostAt := [(2, 0)] } }; (look s.blkG.lostAt d = some x) ∧ (d.val ≠ me s) ∧ (linksTo s d = []) ∧ (relayFor s d = none)) := by decide +kernel

theorem witness_noiseSourceFail : (let src1 : Bool := true; let s : State := w0; ((if src1 then s.sec.noise1 else s.sec.noise0) < 2)) := by decide +kernel

theorem witness_domainKeySet : (let session : Nat := 2; let key : BitVec 256 := 9; let s : State := { wJ with sec := { wJ.sec with sessions := [(2, 64)] } }; (look s.sec.sessions session = some fmDoe) ∧ ((request (.key []) [sealKey s .domain key.toNat 0] .none s).1 = .taken)) := by decide +kernel

theorem witness_rotArm : (let r : Fin 2 := 0; let v : Word := 0x10005; let s : State := ((wBound.set BIND.LD.VALID 1 6).set BIND.LD.SIZE 1 6).set SEC.ROT.RRESCUE.RLD 6 0; (served s (SEC.ROT.RCTL.ARM.base / 8) = true) ∧ (bitOf v.toNat 16 = true ∧ bitOf v.toNat 17 = false) ∧ (armState ((s.set SEC.ROT.RCTL.LD (bitsOf v.toNat 0 12) r).set SEC.ROT.RCTL.RATE (bitsOf v.toNat 12 4) r) r (bitsOf v.toNat 0 12) = false) ∧ (s.dmv.erase = none)) := by decide +kernel

theorem witness_rctlCancel : (let r : Fin 2 := 1; let v : Word := 0x20005; let x : RotSt := ⟨5, 0, 0, false, 0, none, false, false⟩; let s : State := setRot 1 (some ⟨5, 0, 0, false, 0, none, false, false⟩) (setRotPhase 1 1 w0); (served s (SEC.ROT.RCTL.CANCEL.base / 8) = true) ∧ (bitOf v.toNat 16 = false ∧ bitOf v.toNat 17 = true) ∧ (rotSt s r = some x ∧ x.key = 0)) := by decide +kernel

theorem witness_rotTimeReached : (let r : Fin 2 := 0; let s : State := { (setRot 0 (some ⟨5, 0, 0, false, 0, none, false, false⟩) (setRotPhase 0 1 ((w0.set GCTL.ASSIST.MODE 64)))) with fmUp := true }; (rotPhase s r = 1 ∧ bitOf (s.get GCTL.ASSIST.MODE) 6 = true) ∧ (withoutFm s = false)) := by decide +kernel

theorem witness_rekeyBlockDone : (let r : Fin 2 := 0; let x : RotSt := ⟨5, 2, 0, false, 0, some ⟨0, 4, false, 0, [], []⟩, false, false⟩; let k : RotBlk := ⟨0, 4, false, 0, [], []⟩; let s : State := setRot 0 (some ⟨5, 2, 0, false, 0, some ⟨0, 4, false, 0, [], []⟩, false, false⟩) (setRotPhase 0 3 (((wBound.set BIND.LD.VALID 1 6).set BIND.LD.SIZE 1 6).set SEC.ROT.RRESCUE.RLD 6 0)); (rotSt s r = some x ∧ x.copying = some k) ∧ (rotPhase s r = 3 ∧ k.stage = 4) ∧ (copiesDone s x.ld = true ∧ copiesDone s (rescueAt s r).1 = true) ∧ ((k.b + 65536) % (64 * 2 ^ 20) ≠ 0) ∧ (k.b + 65536 < ldBytes s x.ld ∧ k.b + 65536 < 2 ^ 64)) := by decide +kernel

theorem witness_rotDrainDone : (let r : Fin 2 := 0; let x : RotSt := ⟨5, 2, 0, false, 0, none, true, false⟩; let s : State := setRot 0 (some ⟨5, 2, 0, false, 0, none, true, false⟩) (setRotPhase 0 4 wBound); (rotSt s r = some x ∧ x.migDone = false) ∧ (rotPhase s r = 4) ∧ (oldKeyOpen s x.ld = false)) := by decide +kernel

theorem witness_ideKm : (let p : PortId := 3; let session : Nat := 2; let cachemem : Bool := true; let s : State := let a := w0.set PORT.STAT.PSTATE 3 3; { a with sec := { a.sec with sessions := [(2, ideDoe a 3)] } }; (look s.sec.sessions session = some (ideDoe s p)) ∧ (isUp s p = true) ∧ (s.get (ideEnt cachemem) p ≠ 2)) := by decide +kernel

theorem witness_kSetGo : (let p : PortId := 3; let cachemem : Bool := false; let kset : Bool := true; let s : State := let a := w0.set PORT.STAT.PSTATE 3 3; { a with sec := { a.sec with linkKeys := [(49, 7)] } }; ((look s.sec.linkKeys (p.val * 16 + 2 * b2n cachemem + b2n kset)).isSome = true) ∧ (isUp s p = true)) := by decide +kernel

theorem witness_ideCheckFail : (let p : PortId := 3; let cachemem : Bool := false; let s : State := (w0.set PORT.STAT.PSTATE 3 3).set SEC.IDE.IO_STATE 2 3; (isUp s p = true) ∧ (s.get (ideEnt cachemem) p ≠ 0)) := by decide +kernel

theorem witness_keyExchange : (let doe : Nat := 64; let s : State := w0; (doeServed s doe = true) ∧ ((s.sec.sessions.filter (fun q => q.2 == doe)).length < 4)) := by decide +kernel

theorem witness_getMeasurements : (let doe : Nat := 64; let index : Nat := 5; let l : List Nat := [w0.boot.nextSeq - 1]; let s : State := w0; (doeServed s doe = true) ∧ (index ≠ 0 ∧ index ≠ 255) ∧ (measure s doe index = some l)) := by decide +kernel

theorem witness_spdmRequest : (let doe : Nat := 64; let code : Nat := 0x84; let s : State := w0; (doeServed s doe = true) ∧ (code ≠ 0x81) ∧ (spdmKnown code = true)) := by decide +kernel

theorem witness_endSession : (let session : Nat := 2; let doe : Nat := 64; let s : State := { w0 with sec := { w0.sec with sessions := [(2, 64)] } }; (look s.sec.sessions session = some doe)) := by decide +kernel

theorem witness_fvClear : (let v : Word := 3; let s : State := (w0.set ACT.FVSTAT.VALID 1).set ACT.FVMID.MID 7; (served s (ACT.FVSTAT.VALID.base / 8) = true) ∧ (bitOf v.toNat 0 = true ∧ bitOf v.toNat 1 = true)) := by decide +kernel

theorem witness_actCommit : (let v : Word := 0x100; let s : State := ((wJ.set ACT.COMMIT.DONE 1).set ACT.STGCFG.DEFAULT 5); (served s (ACT.COMMIT.DONE.base / 8) = true) ∧ (bitOf v.toNat 8 = true) ∧ (s.on ACT.COMMIT.DONE = true ∧ s.on ACT.COMMIT.STG_BUSY = false) ∧ (s.act.failed = false) ∧ ((activeHalf s).header.isSome = true) ∧ (sealedOff s = false) ∧ (s.boot.flash.halfPages ≥ halfUsed (activeHalf s) + pagesOwed s + recPages (.act (s.get ACT.STGCFG.DEFAULT) (actChanged s)) [])) := by decide +kernel

theorem witness_stagingReloadDone : (let s : State := (w0.set ACT.COMMIT.STG_BUSY 1).set ACT.CFG.DEFAULT 9; (s.on ACT.COMMIT.STG_BUSY = true)) := by decide +kernel

theorem witness_actDrainDone : (let s : State := w0.set ACT.COMMIT.DONE 0; (actDrained s = true)) := by decide +kernel

theorem witness_lcArm : (let m : Master := .fm; let v : Word := 0x0A; let s : State := w0; (served s (SEC.LCCTL.ARM.base / 8) = true) ∧ (m ≠ .dap) ∧ (bitOf v.toNat 3 = true ∧ bitOf v.toNat 4 = false)) := by decide +kernel

theorem witness_lcArmExpiry : (let x : Nat := 5; let s : State := { w0 with sec := { w0.sec with armed := some 5 } }; (s.sec.armed = some x)) := by decide +kernel

theorem witness_lcGo : (let m : Master := .fm; let v : Word := 0x11; let token : Bool := true; let fuseOk : Bool := true; let x : Nat := 5; let s : State := let a := w0.set SEC.LCSTAT.STATE 0; { a with sec := { a.sec with armed := some 5 } }; (served s (SEC.LCCTL.GO.base / 8) = true) ∧ (m ≠ .dap) ∧ (bitOf v.toNat 3 = false ∧ bitOf v.toNat 4 = true) ∧ (s.sec.armed = some x ∧ s.ns ≤ x) ∧ (s.on SEC.LCSTAT.HELD = false) ∧ (lcCheck ({ s with sec := { s.sec with armed := none } }.set SEC.LCCTL.TARGET (bitsOf v.toNat 0 3)) (bitsOf v.toNat 0 3) token = 0) ∧ (fuseOk = true)) := by decide +kernel

theorem witness_dapAccess : (let write : Bool := false; let pool : Bool := false; let addr : BitVec 52 := 0; let a : Nat := 0; let s1 : State := perf 276 0x10 1 none (let a := (w0.set SEC.DBGCTL.EN 1).set SEC.LCSTAT.STATE 0; { a with mgmt := { a.mgmt with jtag := 0x10 } }); let s : State := (let a := (w0.set SEC.DBGCTL.EN 1).set SEC.LCSTAT.STATE 0; { a with mgmt := { a.mgmt with jtag := 0x10 } }); (s.mgmt.jtag = 0x10) ∧ (s.on SEC.DBGCTL.EN = true) ∧ (ended s = false) ∧ (write = false ∧ pool = false) ∧ (a = addr.toNat % 2 ^ 28 ∧ s1 = perf 276 0x10 1 none s ∧ a % 4 = 0) ∧ (dapCheck s1 a 0 = none) ∧ (regDomain a = none ∨ s1.safe = true)) := by decide +kernel

theorem witness_dapacc : (let s : State := w0; (s.mgmt.jtag ≠ 0x10) ∧ (s.scan = false ∧ romWaits s = false)) := by decide +kernel

theorem witness_seatingDetected : (let n : SlotId := 3; let s : State := w0; ((slotSt s n).lost = false) ∧ ((slotSt s n).state = slEmpty)) := by decide +kernel

theorem witness_qualifyComplete : (let n : SlotId := 3; let s : State := wSlot (fun x => { x with state := slQualify, cfg := { slotCfg0 with mode := 1 } }); ((slotSt s n).state = slQualify ∧ (slotSt s n).seated = true) ∧ ((slotSt s n).cfg.mode = 1 ∨ (slotSt s n).cfg.mode = 2)) := by decide +kernel

theorem witness_insertionDelayEnd : (let n : SlotId := 3; let a : Nat := 5; let s : State := wSlot (fun x => { x with state := slInsert, insert := some 5, cfg := { slotCfg0 with mode := 1 } }); ((slotSt s n).insert = some a) ∧ ((slotSt s n).state = slInsert) ∧ ((slotSt s n).cfg.mode = 1)) := by decide +kernel

theorem witness_seatingLost : (let n : SlotId := 3; let s : State := wSlot (fun x => { x with state := slReady }); ((slotSt s n).lost = false ∧ (slotSt s n).state ≠ slEmpty) ∧ ((slotSt s n).state ≠ slFetFail ∧ gateOn (slotSt s n) = false ∧ (slotSt s n).state ≠ slDischarge)) := by decide +kernel

theorem witness_inrushTimeout : (let n : SlotId := 3; let s : State := wSlot (fun x => { x with state := slInrush }); ((slotSt s n).state = slInrush) ∧ ((slotSt s n).cfg.portEn = false)) := by decide +kernel

theorem witness_faultTimerExpiry : (let n : SlotId := 3; let a : Nat := 7; let s : State := wSlot (fun x => { x with state := slOn, timer := some 7 }); ((slotSt s n).timer = some a) ∧ (gateOn (slotSt s n) = true) ∧ ((slotSt s n).cfg.portEn = false)) := by decide +kernel

theorem witness_fastTrip : (let n : SlotId := 3; let s : State := wSlot (fun x => { x with state := slOn }); (gateOn (slotSt s n) = true) ∧ ((slotSt s n).cfg.portEn = false)) := by decide +kernel

theorem witness_retryTimerEnd : (let n : SlotId := 3; let e : Nat := 7; let s : State := wSlot (fun x => { x with state := slRetry, retry := some 7, cfg := { slotCfg0 with mode := 1 } }); ((slotSt s n).retry = some e) ∧ ((slotSt s n).state = slRetry ∧ (slotSt s n).cfg.mode ≠ 2) ∧ (s.running = true)) := by decide +kernel

theorem witness_pgDelayEnd : (let n : SlotId := 3; let s : State := wSlot (fun x => { x with state := slOn }); ((slotSt s n).state = slOn) ∧ ((slotSt s n).timer = none)) := by decide +kernel

theorem witness_warnClear : (let n : SlotId := 3; let a : Nat := 4; let s : State := wSlot (fun x => { x with state := slOn, calm := some 4, warn := true }); ((slotSt s n).calm = some a) ∧ ((slotSt s n).timer = none ∧ (slotSt s n).state = slOn)) := by decide +kernel

theorem witness_retriesClear : (let n : SlotId := 3; let s : State := wSlot (fun x => { x with state := slOn, pg := true, retries := 3, cfg := { slotCfg0 with rclr := 1 } }); ((slotSt s n).pg = true ∧ (slotSt s n).cfg.rclr ≠ 0)) := by decide +kernel

theorem witness_energyLimit : (let n : SlotId := 3; let s : State := wSlot (fun x => { x with state := slInrush, energy := some 9 }); ((slotSt s n).energy.isSome = true) ∧ (gateOn (slotSt s n) = true) ∧ ((slotSt s n).cfg.portEn = false)) := by decide +kernel

theorem witness_fetDegraded : (let n : SlotId := 3; let s : State := wSlot (fun x => { x with state := slOn }); ((slotSt s n).state = slOn ∧ (slotSt s n).timer = none) ∧ ((slotSt s n).cfg.portEn = false)) := by decide +kernel

theorem witness_fetShort : (let n : SlotId := 3; let s : State := wSlot (fun x => { x with state := slReady }); (gateOn (slotSt s n) = false ∧ (slotSt s n).state ≠ slFetFail)) := by decide +kernel

theorem witness_dischargeTimeout : (let n : SlotId := 3; let s : State := wSlot (fun x => { x with state := slDischarge, next := slReady }); ((slotSt s n).state = slDischarge ∧ (slotSt s n).next = slReady)) := by decide +kernel

theorem witness_slotOn : (let n : SlotId := 3; let v : Word := 1; let s : State := wSlot (fun x => { x with state := slReady }); (served s (SLOT.CTL.ON.base / 8) = true) ∧ (bitsOf v.toNat 0 5 = 1) ∧ ((slotSt s n).state = slReady)) := by decide +kernel

theorem witness_slotOnAt : (let n : SlotId := 3; let v : Word := 2; let s : State := wSlot (fun x => { x with state := slReady }); (served s (SLOT.CTL.ON_AT.base / 8) = true) ∧ (bitsOf v.toNat 0 5 = 2) ∧ ((slotSt s n).state = slReady)) := by decide +kernel

theorem witness_onatReached : (let n : SlotId := 3; let s : State := wSlot (fun x => { x with state := slReady, wantAt := true }); ((slotSt s n).wantAt = true ∧ (slotSt s n).state = slReady)) := by decide +kernel

theorem witness_slotOff : (let n : SlotId := 3; let v : Word := 4; let s : State := wSlot (fun x => { x with state := slOn }); (served s (SLOT.CTL.OFF.base / 8) = true) ∧ (bitsOf v.toNat 0 5 = 4) ∧ (gateOn (slotSt s n) = true) ∧ (portClear s (slotSt s n) = true)) := by decide +kernel

theorem witness_slotClear : (let n : SlotId := 3; let v : Word := 8; let s : State := wSlot (fun x => { x with state := slLatched }); (served s (SLOT.CTL.CLEAR.base / 8) = true) ∧ (bitsOf v.toNat 0 5 = 8) ∧ ((slotSt s n).state = slLatched)) := by decide +kernel

theorem witness_slotApply : (let n : SlotId := 3; let v : Word := 16; let s : State := ((((((w0.set SLOT.ILIM.ILIM 20 3).set SLOT.ILIM.ILIM_IR 20 3).set SLOT.ILIM.RSENSE 5 3).set SLOT.TFLT.TFLT 10 3).set SLOT.TFLT.TINRUSH 1 3).set SLOT.FETCHK.EMAX 100 3).set SLOT.TRETRY.SLEW 1 3; (served s (SLOT.CTL.APPLY.base / 8) = true) ∧ (bitsOf v.toNat 0 5 = 16) ∧ (applyBad s (slotRegs s n) (s.get SLOT.TRETRY.SLEW n) = false)) := by decide +kernel

theorem witness_vinEarlyWarning : (let s : State := w0; (s.on SLOTV.STAT.WARN = false)) := by decide +kernel

theorem witness_vinLockout : (let vin : Fin 4096 := 900; let s : State := w0; (vin.val < thrOf (s.get SLOTV.THR1.UVLO)) ∧ (s.on SLOTV.STAT.UVLO = false)) := by decide +kernel

theorem witness_thresholdWrite : (let thr1 : Bool := true; let v : Word := 1; let s : State := w0; (served s (SLOTV.THR0.OV.base / 8) = true) ∧ (thr1 = true ∧ bitsOf v.toNat 0 8 < s.get SLOTV.THR0.WARN) ∧ (s.get SLOTV.THR0.WARN < s.get SLOTV.THR0.QLO ∧ s.get SLOTV.THR0.QLO < s.get SLOTV.THR0.QHI) ∧ (s.get SLOTV.THR0.QHI < s.get SLOTV.THR0.OV)) := by decide +kernel

theorem witness_errorRecord : (let r : ErrRec := { wRec with src := 3, cls := 1, kind := 5 }; (r.cls = 1) ∧ (r.src < 512)) := by decide +kernel

theorem witness_recordMerge : (let r : ErrRec := { wRec with src := 3, cls := 1, kind := 5 }; let s : State := w0; ((heldBy s r.src).length < 2)) := by decide +kernel

theorem witness_errorLineEdge : (let line : Fin 36 := 33; let why : LineCause := .critical; let s : State := (w0.set FLT.LINEEN.TEMP 1).set FLT.LINEEN.FLTN 0; (line = 33 ∧ why = .critical) ∧ (bitOf (lineBits s) 33 = false ∧ s.get FLT.LINES.TEMP = 0) ∧ (s.on FLT.LINEEN.TEMP = true) ∧ (s.on FLT.LINEEN.FLTN = false)) := by decide +kernel

theorem witness_errorLineEdge_b : (let line : Fin 36 := 35; let why : LineCause := .fmRefclk; (line = 35 ∧ why = .fmRefclk)) := by decide +kernel

theorem witness_stormEnd : (let src : Fin 512 := 3; let st : Storm := ⟨5, 9, 0⟩; let s : State := { w0 with flt := { w0.flt with storms := [(3, ⟨5, 9, 0⟩)] } }; (look s.flt.storms src = some st)) := by decide +kernel

theorem witness_faultnQuietRelease : (let s : State := w0.set FLT.STAT.FAULTN 1; (s.on FLT.STAT.FAULTN = true) ∧ (faultnHeld s = false)) := by decide +kernel

theorem witness_faultnClr : (let v : Word := 1; let s : State := w0.set FLT.STAT.FAULTN 1; (served s (FLT.CTL.FAULTN_CLR.base / 8) = true) ∧ (bitOf v.toNat 0 = true) ∧ (s.on FLT.STAT.FAULTN = true ∧ s.flt.fatal = false)) := by decide +kernel

theorem witness_fltRheadWrite : (let s : State := w0; (served s (FLT.RHEAD.INDEX.base / 8) = true) ∧ (s.get FLT.STAT.DROPS = 0)) := by decide +kernel

theorem witness_coreHeartbeat : (let c : Fin 5 := 2; let s : State := w0; (coreFenced s c = false) ∧ (s.flt.beat.length = 5)) := by decide +kernel

theorem witness_heartbeatLoss : (let c : Fin 5 := 2; let s : State := w0.set FLT.UNIT.STATE 2 1 4; (s.get FLT.UNIT.STATE 1 c = 0) ∧ (s.flt.bringIns = [] ∧ spareCore s = none)) := by decide +kernel

theorem witness_bringInComplete : (let cls : Fin 6 := 1; let i : Nat := 2; let b : BringIn := ⟨1, 2, 3, 2⟩; let s : State := { w0 with flt := { w0.flt with bringIns := [⟨1, 2, 3, 2⟩] } }; (s.flt.bringIns.find? (fun b => b.cls == cls.val && (b.old == i || b.new == i)) = some b) ∧ (cls.val = 1 ∧ b.new ≠ 4)) := by decide +kernel

theorem witness_fenceRelease : (let v : Word := 0x411; let s : State := w0.set FLT.UNIT.STATE 2 1 2; (served s (FLT.FENCE.RELEASE.base / 8) = true) ∧ (bitOf v.toNat 10 = true) ∧ (s.on FLT.FENCE.BUSY = false ∧ classBusy s (bitsOf v.toNat 0 3) = false) ∧ (bitsOf v.toNat 0 3 ≠ 3) ∧ (bitsOf v.toNat 3 7 < unitCount (bitsOf v.toNat 0 3) ∧ s.get FLT.UNIT.STATE (bitsOf v.toNat 0 3) (bitsOf v.toNat 3 7) = 2)) := by decide +kernel

theorem witness_releaseTestDone : (let pass : Bool := true; let c : Nat := 1; let i : Nat := 2; let s : State := { (w0.set FLT.UNIT.STATE 2 1 2).set FLT.FENCE.BUSY 1 with flt := { w0.flt with release := some (1, 2) } }; (s.flt.release = some (c, i)) ∧ (pass = true)) := by decide +kernel

theorem witness_releaseTimeout : (let c : Nat := 1; let i : Nat := 2; let s : State := { (w0.set FLT.UNIT.STATE 2 1 2).set FLT.FENCE.BUSY 1 with flt := { w0.flt with release := some (1, 2) } }; (s.flt.release = some (c, i))) := by decide +kernel

theorem witness_ucRecover : (let d : Decide := ⟨.mctp, 4, 3⟩; let x : Dec := ⟨3, 3, 100, .held, false⟩; let s : State := { w0.set PORT.STAT.PSTATE 3 3 with decs := [(4, ⟨3, 3, 100, .held, false⟩)] }; (look s.decs d.decid.toNat = some x) ∧ (judge 3 d (decide (d.obj < 64)) s = stAccepted) ∧ (x.obj < 64 ∧ isUp s x.obj = true ∧ portLds s x.obj = [])) := by decide +kernel

theorem witness_eventRaised : (let src : Fin 1536 := 3; let cause : Fin 32 := 1; let s : State := w0.set EVT.SRC.PRIO 7 3; (cause ≠ 29 ∧ cause ≠ 30) ∧ (evReserved src = false ∧ s.get EVT.SRC.PRIO src ≠ 0) ∧ (s.evt.held = [] ∧ s.evt.claimed = [])) := by decide +kernel

theorem witness_claim : (let m : Master := .core 0; let c : Fin 5 := 0; let src : Nat := 3; let r : EvRec := ⟨3, 1, false, false, 0, 9⟩; let rest : List EvRec := []; let s : State := raise 3 1 9 (((w0.set EVT.SRC.PRIO 7 3).set EVT.SRC.MASK 0 3).set EVT.CORE.THRESH.THRESH 0 0); (m = .core c ∧ coreFenced s c = false) ∧ (evBest s c = some src) ∧ (lookD s.evt.held src [] = r :: rest)) := by decide +kernel

theorem witness_complete : (let m : Master := .core 1; let c : Fin 5 := 1; let v : Word := 3; let s : State := (w0.set EVT.SRC.STATE 2 3).set EVT.SRC.CORE 1 3; (m = .core c ∧ coreFenced s c = false) ∧ (2 ≤ s.get EVT.SRC.STATE (v.toNat % 2 ^ 11) ∧ s.get EVT.SRC.CORE (v.toNat % 2 ^ 11) = c.val) ∧ (evReserved (v.toNat % 2 ^ 11) = false)) := by decide +kernel

theorem witness_ringRecordWrite : (let r : EvRec := ⟨3, 1, false, false, 0, 9⟩; let rest : List EvRec := []; let s : State := { (w0.set EVT.RING.CTL.EN 1).set EVT.RING.CTL.LOG 6 with fmUp := true, evt := { w0.evt with buf := [⟨3, 1, false, false, 0, 9⟩] } }; (s.evt.buf = r :: rest ∧ s.evt.lost = 0) ∧ (s.on EVT.RING.CTL.EN = true ∧ s.fmUp = true) ∧ (ringFull s = false)) := by decide +kernel

theorem witness_ringHeadWrite : (let v : Word := 1; let s : State := { (w0.set EVT.RING.CTL.EN 1).set EVT.RING.CTL.LOG 6 with fmUp := true, evt := { w0.evt with ring := [2] } }; (served s (EVT.RING.HEAD.INDEX.base / 8) = true) ∧ (v.toNat % 2 ^ 16 < 2 ^ s.get EVT.RING.CTL.LOG) ∧ ((v.toNat % 2 ^ 16 + 2 ^ s.get EVT.RING.CTL.LOG - s.get EVT.RING.HEAD.INDEX % 2 ^ s.get EVT.RING.CTL.LOG) % 2 ^ s.get EVT.RING.CTL.LOG ≤ s.evt.ring.length)) := by decide +kernel

theorem witness_ringCtlWrite : (let v : Word := 0xD; let s : State := w0; (served s (EVT.RING.CTL.EN.base / 8) = true) ∧ (s.on EVT.RING.CTL.EN = false ∧ bitsOf v.toNat 0 1 = 1) ∧ (6 ≤ bitsOf v.toNat 1 5 ∧ bitsOf v.toNat 1 5 ≤ 16)) := by decide +kernel

theorem witness_holdoffEnd : (let ring : Bool := true; let s : State := w0.set EVT.GRP.HOLD_RING 1 3; (ring = true) ∧ (s.evt.ring = [])) := by decide +kernel

theorem witness_wakeEdge : (let line : Fin 37 := 3; let stopped : Bool := true; let s : State := w0.set EVT.WAKEEN.LINE 8; (stopped = true) ∧ (bitOf (s.get EVT.WAKEEN.LINE) line = true)) := by decide +kernel

theorem witness_wakeEvent : (let line : Fin 37 := 3; let s : State := w0.set EVT.WAKELAT.LINE 8; (bitOf (s.get EVT.WAKELAT.LINE) line = true)) := by decide +kernel

theorem witness_fmPortLinkUp : (let s : State := w0; (s.scan = false) ∧ (s.get TST.LB.CTL.MODE 40 = 0)) := by decide +kernel

theorem witness_perfSelWrite : (let i : Fin 384 := 276; let v : Word := 0x110; let s : State := w0; (served s (PERF.CNT.SEL.EVENT.base / 8) = true) ∧ (codeOk i (bitsOf v.toNat 0 8) = true)) := by decide +kernel

theorem witness_counterOverflow : (let i : Fin 384 := 276; let k : Fin 8 := 0; let s : State := w0.set PERF.CNT.SEL.EN 1 276 0; (s.on PERF.CNT.SEL.EN i k = true ∧ s.on PERF.STAT.FROZEN = false) ∧ (s.on PERF.CNT.SEL.CHAIN i k = false) ∧ (k.val % 2 = 0)) := by decide +kernel

theorem witness_perfFreeze : (let s : State := w0; (served s (PERF.CTL.FREEZE.base / 8) = true)) := by decide +kernel

theorem witness_freezeBoundary : (let w : Bool := true; let s : State := { w0 with perf := { w0.perf with want := some true } }; (s.perf.want = some w) ∧ (s.on PERF.FRZAT.ARM = false)) := by decide +kernel

theorem witness_snapshot : (let s : State := w0.set PERF.SNAPCFG.PER 1; (s.on PERF.SNAPCFG.PER = true) ∧ (s.on PERF.SNAPAT.ARM = false)) := by decide +kernel

theorem witness_sampleRecord : (let req : Nat := 5; let x : Sample := ⟨0, 0, 0, 0, false, false, false, false, 0, false, 0, 0, 0, false, 0⟩; let s : State := { w0 with perf := { w0.perf with open_ := [(5, ⟨0, 0, 0, 0, false, false, false, false, 0, false, 0, 0, 0, false, 0⟩)] } }; (look s.perf.open_ req = some x) ∧ (look s.frame.reqs req = none) ∧ (pdOn s 12 = true) ∧ (s.on PERF.STAT.TSFULL = false)) := by decide +kernel

theorem witness_tsEnable : (let v : Word := 1; let s : State := w0.set PERF.TSCFG.EN 0; (served s (PERF.TSCFG.EN.base / 8) = true) ∧ (bitOf v.toNat 0 = true) ∧ (s.on PERF.TSCFG.EN = false)) := by decide +kernel

theorem witness_bootRelease : (let v : Word := 1; let s : State := w0.set BOOT.STAT.PHASE 7; (served s (BOOT.CTL.RELEASE.base / 8) = true) ∧ (bitsOf v.toNat 0 3 = 1) ∧ (s.get BOOT.STAT.PHASE = 7)) := by decide +kernel

theorem witness_jreset : (let v : Word := 2; let s : State := (wJ.set BOOT.STAT.PHASE 9).set BOOT.STAT.RESULT 4; (served s (BOOT.CTL.JRESET.base / 8) = true) ∧ (bitsOf v.toNat 0 3 = 2) ∧ (s.get BOOT.STAT.PHASE = 9 ∧ s.get BOOT.STAT.RESULT = 4)) := by decide +kernel

theorem witness_pageProgramDone : (let c : JCur := ⟨⟨3, .void 1, [], 2, 0, true, false⟩, .none, false, false⟩; let s : State := { wJ with boot := { wJ.boot with cur := some ⟨⟨3, .void 1, [], 2, 0, true, false⟩, .none, false, false⟩ } }; (s.boot.cur = some c ∧ c.reading = false) ∧ (s.on BOOT.STAT.SEALED = false ∧ s.boot.pwrfail = false) ∧ (s.boot.policies = [])) := by decide +kernel

theorem witness_recordReadback : (let matches_ : Bool := true; let c : JCur := ⟨⟨3, .key [], [], 1, 1, true, false⟩, .none, false, true⟩; let s : State := { wJ with boot := { wJ.boot with cur := some ⟨⟨3, .key [], [], 1, 1, true, false⟩, .none, false, true⟩ } }; (s.boot.cur = some c ∧ c.reading = true ∧ c.who = .none) ∧ (matches_ = true) ∧ (s.boot.policies = [] ∧ s.boot.queue = [])) := by decide +kernel

theorem witness_compactionStart : (let s : State := { wJ.set BOOT.JSTAT.FILL 96 with boot := { wJ.boot with halfBlank := false } }; (hiwat s ≤ s.get BOOT.JSTAT.FILL) ∧ (s.get BOOT.JSTAT.COMPACT = 0 ∧ sealedOff s = false ∧ (activeHalf s).header.isSome = true) ∧ (s.boot.halfBlank = false)) := by decide +kernel

theorem witness_compact : (let v : Word := 4; let s : State := { wJ with boot := { wJ.boot with halfBlank := false } }; (served s (BOOT.CTL.COMPACT.base / 8) = true) ∧ (bitsOf v.toNat 0 3 = 4) ∧ (s.get BOOT.JSTAT.COMPACT = 0 ∧ sealedOff s = false ∧ (activeHalf s).header.isSome = true) ∧ (s.boot.halfBlank = false)) := by decide +kernel

theorem witness_compactionSwitch : (let c : Compaction := ⟨4, []⟩; let s : State := { wJ.set BOOT.JSTAT.COMPACT 2 with boot := { wJ.boot with comp := some ⟨4, []⟩ } }; (s.boot.comp = some c) ∧ (s.boot.cur = none ∧ sealedOff s = false) ∧ (s.get BOOT.JSTAT.COMPACT = 2) ∧ (s.boot.unapplied.any (fun q => decide (q ≤ c.cut)) = false)) := by decide +kernel

theorem witness_pwrfail : (let s : State := w0; (s.boot.pwrfail = false)) := by decide +kernel

theorem witness_sealRelease : (let s : State := { w0.set BOOT.STAT.SEALED 1 with boot := { w0.boot with pwrfail := true } }; (s.on BOOT.STAT.SEALED = true ∧ s.get BOOT.STAT.PHASE = 8) ∧ (s.boot.unapplied = [] ∧ s.bind.mig0 = none ∧ s.bind.mig1 = none ∧ s.boot.update = none) ∧ (s.get BOOT.JSTAT.COMPACT = 0)) := by decide +kernel

theorem witness_policySubmit : (let v : Word := 0x81; let s : State := wJ.set BOOT.POL.OFFSET 0x820000 0; (served s (BOOT.POLCTL.CNT.base / 8) = true) ∧ (s.on BOOT.POLSTAT.BUSY = false) ∧ (bitOf v.toNat 7 = true ∧ bitsOf v.toNat 0 7 = 1) ∧ (policyOffset (s.get BOOT.POL.OFFSET 0) = true) ∧ ((request (.policy [(s.get BOOT.POL.OFFSET 0, s.get BOOT.POL.VALUE 0)]) [] .policy (s.set BOOT.POLCTL.CNT 1)).1 = .taken)) := by decide +kernel

theorem witness_update : (let v : Word := 2; let img : Image := ⟨true, (w0.fuses.owner.getD 0), true, 0, 0, [], none, true, 0⟩; let s : State := { w0 with boot := { w0.boot with flash := { w0.boot.flash with answers := true, desc := some ⟨1, false, false, false⟩ } } }; (served s (BOOT.UPDCTL.GO.base / 8) = true) ∧ (bitOf v.toNat 1 = true) ∧ (s.on BOOT.UPDSTAT.BUSY = false ∧ s.get BOOT.JSTAT.COMPACT ≠ 3 ∧ sealedOff s = false) ∧ (s.get BOOT.UPDLEN.LEN ≤ slotBytes (bitOf v.toNat 0) ∧ img.len ≤ slotBytes (bitOf v.toNat 0)) ∧ (s.boot.flash.answers = true ∧ s.boot.flash.desc.isSome = true) ∧ (imageCheck (!bitOf v.toNat 0) (s.get BOOT.SECVER.SECVER) img (s.setB BOOT.UPDCTL.TARGET (bitOf v.toNat 0)) = 0)) := by decide +kernel

theorem witness_updateDone : (let ok : Bool := true; let cfg : Bool := true; let i : Image := ⟨true, 0, true, 0, 0, [], none, true, 0⟩; let s : State := { w0 with boot := { w0.boot with update := some (true, ⟨true, 0, true, 0, 0, [], none, true, 0⟩) } }; (s.boot.update = some (cfg, i)) ∧ (sealedOff s = false) ∧ (ok = true)) := by decide +kernel

theorem witness_blockEraseDone : (let s : State := { w0 with boot := { w0.boot with eraseLeft := 2 } }; (s.boot.eraseLeft ≠ 0) ∧ (sealedOff s = false)) := by decide +kernel

theorem witness_loopbackNear : (let u : Fin 41 := 3; let v : Word := 0x101; let s : State := w0; (served s (TST.LB.CTL.MODE.base / 8) = true) ∧ (tstLive s = true) ∧ (bitsOf v.toNat 0 2 = 1 ∧ s.get TST.LB.CTL.MODE u = 0) ∧ (lbMode s u 1 (bitsOf v.toNat 8 16) = true) ∧ (patBad s u (bitsOf v.toNat 2 4) (bitOf v.toNat 6 || bitOf v.toNat 7) = false)) := by decide +kernel

theorem witness_loopbackFar : (let u : Fin 41 := 3; let v : Word := 0x102; let s : State := w0; (served s (TST.LB.CTL.MODE.base / 8) = true) ∧ (tstLive s = true) ∧ (bitsOf v.toNat 0 2 = 2 ∧ s.get TST.LB.CTL.MODE u = 0) ∧ (lbMode s u 2 (bitsOf v.toNat 8 16) = true) ∧ (patBad s u (bitsOf v.toNat 2 4) (bitOf v.toNat 6 || bitOf v.toNat 7) = false)) := by decide +kernel

theorem witness_loopbackLead : (let u : Fin 41 := 0; let v : Word := 0x103; let s : State := (setCol 0 ⟨2, none, false, [], []⟩ w0).set PORT.STAT.PSTATE 3 0; (served s (TST.LB.CTL.MODE.base / 8) = true) ∧ (tstLive s = true) ∧ (bitsOf v.toNat 0 2 = 3 ∧ s.get TST.LB.CTL.MODE u = 0) ∧ (lbMode s u 3 (bitsOf v.toNat 8 16) = true) ∧ (patBad s u (bitsOf v.toNat 2 4) (bitOf v.toNat 6 || bitOf v.toNat 7) = false)) := by decide +kernel

theorem witness_patternControl : (let u : Fin 41 := 3; let v : Word := 0x0; let s : State := w0; (served s (TST.LB.CTL.GEN.base / 8) = true) ∧ (tstLive s = true) ∧ (bitsOf v.toNat 0 2 = s.get TST.LB.CTL.MODE u ∧ s.get TST.LB.CTL.MODE u ≠ 3) ∧ (patBad s u (bitsOf v.toNat 2 4) (bitOf v.toNat 6 || bitOf v.toNat 7) = false)) := by decide +kernel

theorem witness_injectArm : (let v : Word := 0x40002000; let s : State := w0; (served s (TST.INJCTL.ARM.base / 8) = true) ∧ (tstLive s = true ∧ bitOf v.toNat 30 = true) ∧ (injRefused s (bitsOf v.toNat 0 4) (bitsOf v.toNat 4 7) (bitsOf v.toNat 11 2) (bitsOf v.toNat 13 8) = false)) := by decide +kernel

theorem witness_patternCheckLock : (let u : Fin 41 := 3; let l : Fin 16 := 0; let s : State := (w0.set TST.LB.CTL.CHK 1 3).set TST.LB.CTL.LANES 1 3; (tstLive s = true) ∧ (s.on TST.LB.CTL.CHK u = true) ∧ (bitOf (s.get TST.LB.CTL.LANES u) l = true)) := by decide +kernel

theorem hello_passes (s : State) (h1 : ¬ (1 : Nat) = me s) (h2 : (s.on BLK.CFG.PEER_CHK 0 && s.get BLK.CFG.PEER_ID 0 != 1) = false)
    (h3 : ((1 : Nat) != s.get GCTL.REV.MAJOR) = false) (h4 : ((0 : Nat) != s.get BLKC.DOMAIN.TAG) = false) (h5 : (false != s.homeG.coarse) = false) :
    helloCheck s 0 1 1 0 false (hmapCrc s % 2 ^ 32) = none := by
  unfold helloCheck
  rw [if_neg h1, h2, h3, h4, h5]
  simp

theorem hello_open : ¬ (1 : Nat) = me ((w0.set BLK.STAT.LSTATE 3 0).set GCTL.REV.MAJOR 1) := by decide +kernel

theorem witness_hello : ∃ (n : BlkId) (id : Fin 8) (stepping : Fin 16) (domain hmapCrc : Word) (coarse : Bool) (s : State),
    lstate s n = 3 ∧ helloCheck s n id stepping domain.toNat coarse hmapCrc.toNat = none ∧ (blkSt s n).macIn = false := by
  have h : ∀ s : State, lstate s (0 : BlkId) = 3 → ¬ (1 : Nat) = me s → (s.on BLK.CFG.PEER_CHK 0 && s.get BLK.CFG.PEER_ID 0 != 1) = false →
      ((1 : Nat) != s.get GCTL.REV.MAJOR) = false → ((0 : Nat) != s.get BLKC.DOMAIN.TAG) = false → (false != s.homeG.coarse) = false →
      (blkSt s (0 : BlkId)).macIn = false → ∃ (n : BlkId) (id : Fin 8) (stepping : Fin 16) (domain hmapCrc : Word) (coarse : Bool) (s : State),
        lstate s n = 3 ∧ helloCheck s n id stepping domain.toNat coarse hmapCrc.toNat = none ∧ (blkSt s n).macIn = false := by
    intro s a h1 h2 h3 h4 h5 b
    have e := hello_passes s h1 h2 h3 h4 h5
    refine ⟨0, 1, 1, 0, BitVec.ofNat 32 (hmapCrc s), false, s, a, ?_, b⟩
    rw [BitVec.toNat_ofNat]
    exact e
  exact h ((w0.set BLK.STAT.LSTATE 3 0).set GCTL.REV.MAJOR 1) (by decide +kernel) hello_open (by decide +kernel) (by decide +kernel) (by decide +kernel)
    (by decide +kernel) (by decide +kernel)


end Slice0Tests
end

section
/-! PROOF. What a lane error counts and reports (R38, R39): the count of a performance event leaves the output and the bifurcation alone, so the lane's port and coding, read before the count, say what is reported after it. -/

namespace Sys2Proof.Machine

/-- What counting a performance event may write (R354 to R356). -/
abbrev perfMask : Nat := 0xa20000010000000000000000000000000000000000000000000000000000000000001e00008c0402000040

theorem perf_agree (i code n : Nat) (tc : Option Nat) (s : State) : agree perfMask s (perf i code n tc s) :=
  perf_keeps (agree_closed _ s) (agree_refl _ _)

@[simp] theorem perf_out (i code n : Nat) (tc : Option Nat) (s : State) : (perf i code n tc s).out = s.out :=
  agree_part (perf_agree i code n tc s) .out rfl

@[simp] theorem perf_cols (i code n : Nat) (tc : Option Nat) (s : State) : (perf i code n tc s).cols = s.cols :=
  agree_part (perf_agree i code n tc s) .cols rfl

theorem get_perf {e : Ent} (he : outside perfMask e = true) (i code n : Nat) (tc : Option Nat) (s : State) (i' j' : Nat) :
    (perf i code n tc s).get e i' j' = s.get e i' j' :=
  agree_get (perf_agree i code n tc s) he i' j'

theorem bifur_of {s t : State} (h : t.cols = s.cols) : bifur t = bifur s := by
  funext c
  rw [bifur, colSt_of h, bifur]

theorem slotOf_of {s t : State} (h : t.cols = s.cols) : slotOf t = slotOf s := by
  funext p
  rw [slotOf, bifur_of h, slotOf]

/-- The lanes of a port follow from the bifurcation in force alone (R34). -/
theorem portOfLane_of {s t : State} (h : t.cols = s.cols) (c l : Nat) : portOfLane t c l = portOfLane s c l := by
  rw [portOfLane, colPorts, slotOf_of h, portOfLane, colPorts]

theorem codeErr_out (c l : Nat) (s : State) : (codeErr c l s).out = s.out := by simp [codeErr]

theorem codeErr_cols (c l : Nat) (s : State) : (codeErr c l s).cols = s.cols := by simp [codeErr]

/-- A lane error is counted in the lane's CODE_ERR, which stays at 0xFFFF (R39). -/
theorem codeErr_get (c l : Nat) (s : State) :
    (codeErr c l s).get COL.LANE.LERR.CODE_ERR c l = min 0xFFFF (s.get COL.LANE.LERR.CODE_ERR c l + 1) := by
  rw [codeErr, get_perf (by decide +kernel), get_bump_same]
  rfl

theorem rxError_cols (c l : Nat) (s : State) : (rxError c l s).cols = s.cols := by
  unfold rxError
  split <;> rfl

theorem rxError_get (c l : Nat) (s : State) (e : Ent) (i j : Nat) : (rxError c l s).get e i j = s.get e i j := by
  unfold rxError
  split <;> rfl

theorem rxError_out {c l p : Nat} {s : State} (h : portOfLane s c l = some p) : (rxError c l s).out = s.out ++ [.rxError p] := by
  simp only [rxError, h]
  rfl

theorem badSymbol_get {e : Ent} (he : outside perfMask e = true) (c l : Nat) (s : State) (i j : Nat) :
    (badSymbol c l s).get e i j = s.get e i j := by
  unfold badSymbol
  split
  · rw [get_perf he, emit_get]
  · rfl

theorem badSymbol_out {c l p : Nat} {s : State} (h : portOfLane s c l = some p) : (badSymbol c l s).out = s.out ++ [.linkReplay p] := by
  simp [badSymbol, h]

theorem laneError_of_c8b10b {c l : Nat} {s : State} (h : codingOf (laneRate s c l) = .c8b10b) :
    laneError c l s = badSymbol c l (rxError c l (codeErr c l s)) := by simp only [laneError, h]

theorem laneError_of_c128b130b {c l : Nat} {s : State} (h : codingOf (laneRate s c l) = .c128b130b) :
    laneError c l s = rxError c l (codeErr c l s) := by simp only [laneError, h]

theorem laneError_of_pam4 {c l : Nat} {s : State} (h : codingOf (laneRate s c l) = .pam4) : laneError c l s = codeErr c l s := by
  simp only [laneError, h]

/-- At every coding the lane's error is counted once. -/
theorem laneError_get (c l : Nat) (s : State) :
    (laneError c l s).get COL.LANE.LERR.CODE_ERR c l = min 0xFFFF (s.get COL.LANE.LERR.CODE_ERR c l + 1) := by
  rw [← codeErr_get]
  cases h : codingOf (laneRate s c l) with
  | c8b10b => rw [laneError_of_c8b10b h, badSymbol_get (by decide +kernel), rxError_get]
  | c128b130b => rw [laneError_of_c128b130b h, rxError_get]
  | pam4 => rw [laneError_of_pam4 h]

/-- The Receiver Error that follows a lane's count names the port that the lane served before it. -/
theorem rxError_codeErr_out {c l p : Nat} {s : State} (h : portOfLane s c l = some p) :
    (rxError c l (codeErr c l s)).out = s.out ++ [.rxError p] := by
  rw [rxError_out ((portOfLane_of (codeErr_cols c l s) c l).trans h), codeErr_out]

theorem laneError_out_of_c128b130b {c l p : Nat} {s : State} (hp : portOfLane s c l = some p)
    (h : codingOf (laneRate s c l) = .c128b130b) : (laneError c l s).out = s.out ++ [.rxError p] := by
  rw [laneError_of_c128b130b h, rxError_codeErr_out hp]

theorem laneError_out_of_pam4 {c l : Nat} {s : State} (h : codingOf (laneRate s c l) = .pam4) : (laneError c l s).out = s.out := by
  rw [laneError_of_pam4 h, codeErr_out]

theorem laneError_out_of_c8b10b {c l p : Nat} {s : State} (hp : portOfLane s c l = some p)
    (h : codingOf (laneRate s c l) = .c8b10b) : (laneError c l s).out = s.out ++ [.rxError p, .linkReplay p] := by
  have hcols : (rxError c l (codeErr c l s)).cols = s.cols := (rxError_cols ..).trans (codeErr_cols ..)
  have hport : portOfLane (rxError c l (codeErr c l s)) c l = some p := (portOfLane_of hcols c l).trans hp
  rw [laneError_of_c8b10b h, badSymbol_out hport, rxError_codeErr_out hp, List.append_assoc, List.singleton_append]

/-- RECEIVE_SYMBOL_ERROR without a received FTS is a lane error. -/
theorem exec_receiveSymbolError (c : ColId) (l : Fin 16) (s : State) :
    exec (.receiveSymbolError c ⟨l, false⟩) s = .next (laneError c l s) := rfl

/-- Settles O10: the count of the lane error, then its report by the coding of the lane. -/
theorem symbolErrorCounted : Obligations.SymbolErrorCounted := by
  intro c l s
  exact ⟨laneError c l s, exec_receiveSymbolError c l s, laneError_get c l s, fun _ hp h => laneError_out_of_c128b130b hp h,
    laneError_out_of_pam4, fun _ hp h => laneError_out_of_c8b10b hp h⟩

end Sys2Proof.Machine
end

section
/-! PROOF. The laws that hold of every step: the register file stays canonical, the output only grows, a step takes one command and adds none, no command stops the device, and the fields of the map do not overlap. -/

namespace Sys2Proof.Machine

set_option Elab.async false

/-- What every step keeps of a property that any change of the state outside the queue keeps. -/
theorem keeps_of_step {P : State → Prop} {s t : State} (hP : ∀ m, Closed m P) (hq : ∀ {s q}, P s → P { s with pending := q }) (hs : P s)
    (h : step s = .next t) : P t := by
  have hk := step_keeps (hP _) hq hs
  rw [h] at hk
  exact hk

/-- Settles O5: every update of the register file keeps it canonical, so every step does. -/
theorem canonicalKept : Obligations.CanonicalKept := by
  intro s t hs h
  rw [State.canonical, Bool.and_eq_true] at hs ⊢
  exact keeps_of_step canonical_closed id hs h

/-- To have sent at least what was sent before survives every change. -/
theorem prefix_closed (l : List Out) (m : Nat) : Closed m (fun t => l <+: t.out) where
  regs := fun _ _ hp => hp
  out := fun _ hp => hp.trans (List.prefix_append ..)
  other := fun _ hp => hp

/-- Settles O6. -/
theorem outputGrows : Obligations.OutputGrows := by
  intro s t h
  obtain ⟨l, hl⟩ : s.out <+: t.out := keeps_of_step (prefix_closed s.out) id (List.prefix_refl _) h
  exact ⟨l, hl.symm⟩

/-- No command reaches the queue. -/
theorem pending_closed (q : List Instr) (m : Nat) : Closed m (fun t => t.pending = q) where
  regs := fun _ _ hp => hp
  out := fun _ hp => hp
  other := fun _ hp => hp

theorem idle_pending (s : State) : (idle s).pending = s.pending := idle_keeps (pending_closed _ _) rfl

theorem exec_pending {c : Instr} {s t : State} (h : exec c s = .next t) : t.pending = s.pending := by
  have hk := exec_keeps (pending_closed s.pending _) (c := c) rfl
  rw [h] at hk
  exact hk

/-- Settles O7: an idle clock leaves the empty queue, and a command runs on the rest of the queue. -/
theorem queueTaken : Obligations.QueueTaken := by
  intro s t h
  cases hq : s.pending with
  | nil =>
    rw [step, hq] at h
    obtain rfl := Host.Outcome.next.inj h
    rw [idle_pending, hq, List.tail_nil]
  | cons c q =>
    rw [step, hq] at h
    rw [exec_pending h, List.tail_cons]

/-- The meaning ends in a next state. -/
def Answers (r : Result) : Prop := ∃ t, r = .next t

theorem answers_next (t : State) : Answers (.next t) := ⟨t, rfl⟩

theorem answers_ite {c : Prop} [Decidable c] {a b : Result} (ha : Answers a) (hb : Answers b) : Answers (if c then a else b) := by
  split <;> assumption

theorem answers_atReg {e : Ent} {f : State → Result} (s : State) (h : ∀ t, Answers (f t)) : Answers (atReg e f s) :=
  answers_ite (h s) (answers_next s)

theorem answers_toDomain {d : Nat} {c : Instr} {f : State → Result} (s : State) (h : ∀ t, Answers (f t)) : Answers (toDomain d c f s) :=
  answers_ite (h _) (answers_next _)

theorem answers_atDomain {d : Nat} {e : Ent} {c : Instr} {f : State → Result} (s : State) (h : ∀ t, Answers (f t)) : Answers (atDomain d e c f s) :=
  answers_ite (answers_toDomain s h) (answers_next _)

theorem answers_toUnit {d : Nat} {c : Instr} {f : State → Result} (s : State) (h : ∀ t, Answers (f t)) : Answers (toUnit d c f s) :=
  answers_ite (answers_next s) (answers_ite (h _) (answers_next _))

theorem answers_atAddr {a : Nat} {c : Instr} {f : State → Result} (s : State) (h : ∀ t, Answers (f t)) : Answers (atAddr a c f s) := by
  unfold atAddr
  split
  · exact answers_ite (answers_toDomain s h) (h s)
  · exact h s

theorem answers_busRead (m : Master) (a : Nat) (c : Instr) (s : State) : Answers (busRead m a c s) :=
  answers_ite (answers_next _) (answers_ite (answers_next _) (answers_atAddr s fun _ => answers_next _))

theorem answers_busWrite (m : Master) (a v : Nat) (c : Instr) (s : State) : Answers (busWrite m a v c s) :=
  answers_ite (answers_next _) (answers_ite (answers_next _) (answers_ite (answers_atAddr s fun _ => answers_next _) (answers_next _)))

theorem answers_dapMgmt (write : Bool) (a v : Nat) (s : State) : Answers (dapMgmt write a v s) := by
  unfold dapMgmt
  dsimp only
  split
  · exact answers_next _
  · exact answers_ite (answers_busWrite ..) (answers_busRead ..)

theorem answers_gclCommit (p : PortId) (v : Word) (s : State) : Answers (execGclCommit p v s) := by
  unfold execGclCommit
  refine answers_atReg _ fun t => ?_
  dsimp only
  exact answers_next _

theorem answers_farAtomicCommand (f : FnId) (engine1 aligned : Bool) (d : Line) (s : State) : Answers (execFarAtomicCommand f engine1 aligned d s) := by
  unfold execFarAtomicCommand
  exact answers_toUnit _ fun _ => answers_next _

/-- Every meaning ends in a next state: at once, or behind the register, the power domain or the unit that the command addresses. -/
theorem exec_answers (c : Instr) (s : State) : Answers (exec c s) := by
  cases c with
  | coldReset | warmReset | badFormAccess | decisionTimeout | fmPortLinkDown | mctpSessionExpiry | receiveSymbolError | elasticBufferOverrun
  | coeffRequest | eyePointDone | marginCommand | eqComplete | eqFail | quickEyeDone | trainingAttemptFail | retryIntervalExpiry
  | linkPowerStateChange | columnSleepEntry | columnWake | portUp | dlDown | hotReset | dpcTrigger | flushComplete | ctoExpiry
  | tagQuarantineExpiry | tagAvailable | linkRequest | linkResponse | flitCheckFail | sharedPoolMove | schedulerSlot | crossingComplete
  | crossingError | replayRequest | sparePlaneCheck | substitutionComplete | egressVisit | gateSpill | gateBoundary | pendingListStart
  | egressSampleWindowEnd | hdmCommit | hostSlotPowerOff | unbindTimeout | commitPoint | bindDrainDone | setLdAllocations | fmApiCommand
  | copyPassEnd | migCheckpoint | quiesceCopyDone | quiesceTimeout | migCommit | homeRequestAccept | rdS | rdA | rdI | invA | wb | wr | cln | nop
  | atom | conf | rsp | pd | pc | requestOrdered | carryQueueAllocate | rfConvertDone | scrubPass | departureSweepDone | atomicDone
  | atomBoardIdle | resultWritesDone | windowTimerExpiry | descriptorFetch | copy | fill | zero | crc | compare | atomic | reKey | migrate
  | descriptorDone | cqEntryWrite | cqCoalesceTimeout | freezeComplete | eraseZeroDone | codewordReceived | dataBead | beadCrcFail | idleBead
  | retransmitTimeout | hello | helloAck | laneSub | laneSubAck | handoff | handoffAck | topo | depart | departDone | masterXfer | masterChange
  | sync | dreq | drsp | timeBeadSend | topoSend | ctrlResend | ctrlTimeout | trainComplete | blkStateTimeout | blkRetryInterval | laneLockLoss
  | laneErrorWindow | spareLaneFail | linkSetFenceDone | unreachableTimeout | noiseSourceFail | domainKeySet | rotTimeReached | rekeyBlockDone
  | rotDrainDone | ideKm | kSetGo | ideCheckFail | keyExchange | getMeasurements | spdmRequest | endSession | heartbeatTimeout | stagingReloadDone
  | actDrainDone | lcArmExpiry | slotTick | seatingDetected | qualifyComplete | insertionDelayEnd | seatingLost | inrushTimeout | faultTimerExpiry
  | fastTrip | retryTimerEnd | pgDelayEnd | warnClear | retriesClear | energyLimit | fetDegraded | fetShort | dischargeTimeout | onatReached
  | vinEarlyWarning | vinLockout | slotDiePowerOn | errorRecord | recordMerge | errorLineEdge | stormEnd | faultnQuietRelease | coreHeartbeat
  | heartbeatLoss | bringInComplete | releaseTestDone | releaseTimeout | eventRaised | claim | complete | ringRecordWrite | holdoffEnd | wakeEdge
  | wakeEvent | counterOverflow | freezeBoundary | snapshot | bwWindowEnd | sampleRecord | pageProgramDone | recordReadback | compactionStart
  | compactionSwitch | pwrfail | sealRelease | updateDone | dirQueue | dirThrottle | slotGo | slotDeny | eqAccept | eqRedo | eqOverride
  | ucRecover | ucRecoverNodec | ucKeep | migGo | migPass | migAbort | spareGo | spareHold | rotGo | rotDefer | rotCancel | sumExtend | sumPublish
  | sumAbort | ownerKeySet | mctpMessage | nocRequestInject | cdcOverrun | powerDownStart | powerDownAbort | pointOfNoReturn | minOffExpiry
  | domainOn | trefLoss | trefLock | ppsEdge | ppsOutSecond | ptmRequest | fmPerst | extest | idcode | samplePreload | clamp | highz | extestPulse
  | extestTrain | dapacc | bypass | jtagDeselect | linkRecovery | columnPllLock | fmPortLinkUp | blockEraseDone | linkCreditUpdate
  | patternCheckLock => exact ⟨_, rfl⟩
  | gctlRst | gctlBrst | assistWrite | colApply | ovrApply | eyeScanStart | eyeScanAbort | retrain | portCfgWrite | tagcfgWrite | portDisable
  | forceDown | planeSubCommand | tcshareWrite | egqWrite | cmarkWrite | qcfgWrite | shapeWrite | gclCancel | gateDisable | bindCommit
  | bindDiscard | bindVppb | unbindVppb | migStart | mctlAbort | hmapWrite | rfConvert | tallyProbe | rotArm | rctlCancel | fvClear | actCommit
  | lcArm | lcGo | slotOn | slotOnAt | slotOff | slotClear | slotApply | thresholdWrite | faultnClr | fltRheadWrite | fenceRelease | ringHeadWrite
  | ringCtlWrite | perfSelWrite | perfFreeze | tsEnable | bootRelease | jreset | compact | policySubmit | update | domainWake | timeStep
  | timeSlew | loopbackNear | loopbackFar | loopbackLead | patternControl | injectArm => exact answers_atReg _ fun _ => ⟨_, rfl⟩
  | registerWrite => exact answers_busWrite ..
  | readClear | lowWordRead | highWordRead => exact answers_busRead ..
  | windowDescriptor | closeDoorbell | slotRegistration | contribution | bar2StrayWrite | sqDoorbell | cqDoorbell | queueEnable
  | functionReset => exact answers_toUnit _ fun _ => answers_next _
  | fcfgWrite | freeze | save | restore | unfreeze | freezeDiscard | cryptoErase | blkEnable | laneSubCommand | linkHandoffCommand => exact answers_atDomain _ fun _ => answers_next _
  | dapAccess => exact answers_ite (answers_next _) (answers_ite (answers_next _) (answers_dapMgmt ..))
  | gclCommit => exact answers_gclCommit ..
  | farAtomicCommand => exact answers_farAtomicCommand ..

/-- Settles O8. -/
theorem neverStops : Obligations.NeverStops := by
  refine ⟨exec_answers, fun s => ?_⟩
  unfold step
  split
  · exact answers_next _
  · exact exec_answers ..

/-- Settles O9: distinct fields of the map share no place. -/
theorem fieldsApart : Obligations.FieldsApart :=
  fun _ he _ he' _ i j i' j' _ => ⟨get_set_same .., fun hne => get_set_other (fields_apart he' he hne i' j' i j)⟩

end Sys2Proof.Machine
end

section
/-! PROOF. The frames of the commands: what the lemma of a command in the library says that its meaning may write lies within the fields and parts that the statement names. -/

namespace Sys2Proof.Machine

set_option Elab.async false

/-- The lists name fields of the map, and every field and part of the mask. -/
def covers (m : Nat) (ws : List Ent) (ps : List Part) : Bool := ws.all (okSet (2 ^ 1000 - 1)) && (m &&& maskOf ws ps) == m

/-- A command that writes within its mask leaves everything else as it was; that the lists cover the mask is a computation over the numbers of the fields. -/
theorem frame_exec {m : Nat} {ws : List Ent} {ps : List Part} {r : State → Result} (h : ∀ s, Closed m (agree m s) → Ans (agree m s) (r s))
    (hc : covers m ws ps = true := by decide +kernel) (s t : State) (hr : r s = .next t) : onlyWrites ws ps s t := by
  simp only [covers, Bool.and_eq_true, beq_iff_eq] at hc
  obtain ⟨hw, hm⟩ := hc
  exact frame_of (h s) hw hm hr

/-- Settles O41: the frame of each command of 19_register_map.md covers what its meaning may write. -/
theorem registerMapFrame : Obligations.RegisterMapFrame :=
  fun _ _ _ => frame_exec fun s hP => execBadFormAccess_keeps hP (agree_refl _ s)

/-- Settles O42: the frame of each command of 01_architecture.md covers what its meaning may write. -/
theorem architectureFrame : Obligations.ArchitectureFrame :=
  ⟨fun _ => frame_exec fun s hP => execAssistWrite_keeps hP (agree_refl _ s),
    fun _ => frame_exec fun s hP => execDecisionTimeout_keeps hP (agree_refl _ s),
    frame_exec fun s hP => execFmPortLinkDown_keeps hP (agree_refl _ s)⟩

/-- Settles O43: the frame of each command of 17_management_time_and_domains.md covers what its meaning may write. -/
theorem managementFrame : Obligations.ManagementFrame :=
  ⟨frame_exec fun s hP => execMctpSessionExpiry_keeps hP (agree_refl _ s),
    fun _ => frame_exec fun s hP => execFmApiCommand_keeps hP (agree_refl _ s),
    fun _ => frame_exec fun s hP => execDirQueue_keeps hP (agree_refl _ s),
    fun _ _ => frame_exec fun s hP => execDirThrottle_keeps hP (agree_refl _ s),
    fun _ => frame_exec fun s hP => execSlotGo_keeps hP (agree_refl _ s),
    fun _ => frame_exec fun s hP => execSlotDeny_keeps hP (agree_refl _ s),
    fun _ => frame_exec fun s hP => execEqAccept_keeps hP (agree_refl _ s),
    fun _ _ => frame_exec fun s hP => execEqRedo_keeps hP (agree_refl _ s),
    fun _ _ => frame_exec fun s hP => execEqOverride_keeps hP (agree_refl _ s),
    fun _ _ => frame_exec fun s hP => execUcRecoverNodec_keeps hP (agree_refl _ s),
    fun _ => frame_exec fun s hP => execUcKeep_keeps hP (agree_refl _ s),
    fun _ => frame_exec fun s hP => execMigGo_keeps hP (agree_refl _ s),
    fun _ => frame_exec fun s hP => execMigPass_keeps hP (agree_refl _ s),
    fun _ => frame_exec fun s hP => execMigAbort_keeps hP (agree_refl _ s),
    fun _ => frame_exec fun s hP => execSpareGo_keeps hP (agree_refl _ s),
    fun _ => frame_exec fun s hP => execSpareHold_keeps hP (agree_refl _ s),
    fun _ => frame_exec fun s hP => execRotGo_keeps hP (agree_refl _ s),
    fun _ _ => frame_exec fun s hP => execRotDefer_keeps hP (agree_refl _ s),
    fun _ => frame_exec fun s hP => execRotCancel_keeps hP (agree_refl _ s),
    fun _ _ => frame_exec fun s hP => execSumExtend_keeps hP (agree_refl _ s),
    fun _ => frame_exec fun s hP => execSumPublish_keeps hP (agree_refl _ s),
    fun _ => frame_exec fun s hP => execSumAbort_keeps hP (agree_refl _ s),
    fun _ _ _ => frame_exec fun s hP => execOwnerKeySet_keeps hP (agree_refl _ s),
    fun _ => frame_exec fun s hP => execMctpMessage_keeps hP (agree_refl _ s),
    fun _ _ => frame_exec fun s hP => execNocRequestInject_keeps hP (agree_refl _ s),
    fun _ _ => frame_exec fun s hP => execCdcOverrun_keeps hP (agree_refl _ s),
    fun _ => frame_exec fun s hP => execPowerDownStart_keeps hP (agree_refl _ s),
    fun _ => frame_exec fun s hP => execPowerDownAbort_keeps hP (agree_refl _ s),
    fun _ => frame_exec fun s hP => execPointOfNoReturn_keeps hP (agree_refl _ s),
    fun _ => frame_exec fun s hP => execMinOffExpiry_keeps hP (agree_refl _ s),
    fun _ _ => frame_exec fun s hP => execDomainWake_keeps hP (agree_refl _ s),
    fun _ => frame_exec fun s hP => execTrefLoss_keeps hP (agree_refl _ s),
    frame_exec fun s hP => execTrefLock_keeps hP (agree_refl _ s),
    fun _ => frame_exec fun s hP => execPpsEdge_keeps hP (agree_refl _ s),
    fun _ => frame_exec fun s hP => execTimeStep_keeps hP (agree_refl _ s),
    fun _ => frame_exec fun s hP => execTimeSlew_keeps hP (agree_refl _ s),
    frame_exec fun s hP => execPpsOutSecond_keeps hP (agree_refl _ s),
    fun _ => frame_exec fun s hP => execPtmRequest_keeps hP (agree_refl _ s)⟩

/-- Settles O44: the frame of each command of 02_lane_columns.md covers what its meaning may write. -/
theorem columnsFrame : Obligations.ColumnsFrame :=
  ⟨fun _ _ => frame_exec fun s hP => execColApply_keeps hP (agree_refl _ s),
    fun _ _ => frame_exec fun s hP => execReceiveSymbolError_keeps hP (agree_refl _ s),
    fun _ _ => frame_exec fun s hP => execElasticBufferOverrun_keeps hP (agree_refl _ s),
    fun _ _ _ => frame_exec fun s hP => execCoeffRequest_keeps hP (agree_refl _ s),
    fun _ _ _ => frame_exec fun s hP => execOvrApply_keeps hP (agree_refl _ s),
    fun _ _ => frame_exec fun s hP => execEyeScanStart_keeps hP (agree_refl _ s),
    fun _ _ => frame_exec fun s hP => execEyeScanAbort_keeps hP (agree_refl _ s),
    fun _ _ => frame_exec fun s hP => execEyePointDone_keeps hP (agree_refl _ s),
    fun _ _ _ => frame_exec fun s hP => execMarginCommand_keeps hP (agree_refl _ s),
    fun _ _ => frame_exec fun s hP => execEqComplete_keeps hP (agree_refl _ s),
    fun _ _ => frame_exec fun s hP => execEqFail_keeps hP (agree_refl _ s),
    fun _ _ => frame_exec fun s hP => execQuickEyeDone_keeps hP (agree_refl _ s),
    fun _ => frame_exec fun s hP => execTrainingAttemptFail_keeps hP (agree_refl _ s),
    fun _ => frame_exec fun s hP => execRetryIntervalExpiry_keeps hP (agree_refl _ s),
    fun _ _ _ => frame_exec fun s hP => execRetrain_keeps hP (agree_refl _ s),
    fun _ _ => frame_exec fun s hP => execLinkPowerStateChange_keeps hP (agree_refl _ s),
    fun _ => frame_exec fun s hP => execColumnSleepEntry_keeps hP (agree_refl _ s),
    fun _ _ => frame_exec fun s hP => execColumnWake_keeps hP (agree_refl _ s),
    fun _ _ => frame_exec fun s hP => execLinkRecovery_keeps hP (agree_refl _ s),
    fun _ => frame_exec fun s hP => execColumnPllLock_keeps hP (agree_refl _ s)⟩

/-- Settles O45: the frame of each command of 03_ports_and_protocols.md covers what its meaning may write. -/
theorem portsFrame : Obligations.PortsFrame :=
  ⟨fun _ _ => frame_exec fun s hP => execPortCfgWrite_keeps hP (agree_refl _ s),
    fun _ _ => frame_exec fun s hP => execTagcfgWrite_keeps hP (agree_refl _ s),
    fun _ _ => frame_exec fun s hP => execPortUp_keeps hP (agree_refl _ s),
    fun _ => frame_exec fun s hP => execDlDown_keeps hP (agree_refl _ s),
    fun _ => frame_exec fun s hP => execHotReset_keeps hP (agree_refl _ s),
    fun _ _ => frame_exec fun s hP => execDpcTrigger_keeps hP (agree_refl _ s),
    fun _ _ => frame_exec fun s hP => execPortDisable_keeps hP (agree_refl _ s),
    fun _ _ => frame_exec fun s hP => execForceDown_keeps hP (agree_refl _ s),
    fun _ => frame_exec fun s hP => execFlushComplete_keeps hP (agree_refl _ s),
    fun _ _ => frame_exec fun s hP => execCtoExpiry_keeps hP (agree_refl _ s),
    fun _ _ => frame_exec fun s hP => execTagQuarantineExpiry_keeps hP (agree_refl _ s),
    fun _ => frame_exec fun s hP => execTagAvailable_keeps hP (agree_refl _ s)⟩

/-- Settles O46: the frame of each command of 04_the_frame.md covers what its meaning may write. -/
theorem frameFrame : Obligations.FrameFrame :=
  ⟨fun _ _ => frame_exec fun s hP => execLinkRequest_keeps hP (agree_refl _ s),
    fun _ _ => frame_exec fun s hP => execLinkResponse_keeps hP (agree_refl _ s),
    fun _ => frame_exec fun s hP => execFlitCheckFail_keeps hP (agree_refl _ s),
    fun _ _ => frame_exec fun s hP => execSharedPoolMove_keeps hP (agree_refl _ s),
    frame_exec fun s hP => execSchedulerSlot_keeps hP (agree_refl _ s),
    fun _ => frame_exec fun s hP => execCrossingComplete_keeps hP (agree_refl _ s),
    fun _ _ _ => frame_exec fun s hP => execCrossingError_keeps hP (agree_refl _ s),
    fun _ _ _ => frame_exec fun s hP => execReplayRequest_keeps hP (agree_refl _ s),
    fun _ => frame_exec fun s hP => execSparePlaneCheck_keeps hP (agree_refl _ s),
    fun _ => frame_exec fun s hP => execPlaneSubCommand_keeps hP (agree_refl _ s),
    fun _ => frame_exec fun s hP => execSubstitutionComplete_keeps hP (agree_refl _ s),
    fun _ _ _ => frame_exec fun s hP => execTcshareWrite_keeps hP (agree_refl _ s),
    fun _ _ _ => frame_exec fun s hP => execEgqWrite_keeps hP (agree_refl _ s),
    fun _ _ => frame_exec fun s hP => execCmarkWrite_keeps hP (agree_refl _ s)⟩

/-- Settles O47: the frame of each command of 05_egress_scheduling_and_time_gates.md covers what its meaning may write. -/
theorem egressFrame : Obligations.EgressFrame :=
  ⟨fun _ => frame_exec fun s hP => execGateSpill_keeps hP (agree_refl _ s),
    fun _ _ _ => frame_exec fun s hP => execQcfgWrite_keeps hP (agree_refl _ s),
    fun _ _ _ => frame_exec fun s hP => execShapeWrite_keeps hP (agree_refl _ s),
    fun _ => frame_exec fun s hP => execGateBoundary_keeps hP (agree_refl _ s),
    fun _ _ => frame_exec fun s hP => execGclCommit_keeps hP (agree_refl _ s),
    fun _ _ => frame_exec fun s hP => execGclCancel_keeps hP (agree_refl _ s),
    fun _ => frame_exec fun s hP => execPendingListStart_keeps hP (agree_refl _ s),
    fun _ _ => frame_exec fun s hP => execGateDisable_keeps hP (agree_refl _ s),
    fun _ => frame_exec fun s hP => execEgressSampleWindowEnd_keeps hP (agree_refl _ s),
    fun _ _ _ _ => frame_exec fun s hP => execLinkCreditUpdate_keeps hP (agree_refl _ s)⟩

/-- Settles O48: the frame of each command of 06_binding_and_logical_devices.md covers what its meaning may write. -/
theorem bindingFrame : Obligations.BindingFrame :=
  ⟨fun _ _ _ => frame_exec fun s hP => execHdmCommit_keeps hP (agree_refl _ s),
    fun _ => frame_exec fun s hP => execBindCommit_keeps hP (agree_refl _ s),
    fun _ => frame_exec fun s hP => execBindDiscard_keeps hP (agree_refl _ s),
    fun _ _ => frame_exec fun s hP => execHostSlotPowerOff_keeps hP (agree_refl _ s),
    frame_exec fun s hP => execUnbindTimeout_keeps hP (agree_refl _ s),
    frame_exec fun s hP => execCommitPoint_keeps hP (agree_refl _ s),
    frame_exec fun s hP => execBindDrainDone_keeps hP (agree_refl _ s),
    fun _ _ _ _ _ => frame_exec fun s hP => execBindVppb_keeps hP (agree_refl _ s),
    fun _ _ _ => frame_exec fun s hP => execUnbindVppb_keeps hP (agree_refl _ s),
    fun _ _ => frame_exec fun s hP => execSetLdAllocations_keeps hP (agree_refl _ s),
    fun _ _ => frame_exec fun s hP => execMigStart_keeps hP (agree_refl _ s),
    fun _ _ => frame_exec fun s hP => execMctlAbort_keeps hP (agree_refl _ s),
    fun _ => frame_exec fun s hP => execCopyPassEnd_keeps hP (agree_refl _ s),
    fun _ => frame_exec fun s hP => execMigCheckpoint_keeps hP (agree_refl _ s),
    fun _ _ => frame_exec fun s hP => execQuiesceCopyDone_keeps hP (agree_refl _ s),
    fun _ => frame_exec fun s hP => execQuiesceTimeout_keeps hP (agree_refl _ s),
    fun _ => frame_exec fun s hP => execMigCommit_keeps hP (agree_refl _ s)⟩

/-- Settles O49: the frame of each command of 07_coherence_home_and_tally.md covers what its meaning may write. -/
theorem homeFrame : Obligations.HomeFrame :=
  ⟨fun _ => frame_exec fun s hP => execHomeRequestAccept_keeps hP (agree_refl _ s),
    fun _ _ => frame_exec fun s hP => execRdS_keeps hP (agree_refl _ s),
    fun _ _ => frame_exec fun s hP => execRdA_keeps hP (agree_refl _ s),
    fun _ _ => frame_exec fun s hP => execRdI_keeps hP (agree_refl _ s),
    fun _ _ => frame_exec fun s hP => execInvA_keeps hP (agree_refl _ s),
    fun _ _ => frame_exec fun s hP => execWb_keeps hP (agree_refl _ s),
    fun _ _ => frame_exec fun s hP => execWr_keeps hP (agree_refl _ s),
    fun _ _ => frame_exec fun s hP => execCln_keeps hP (agree_refl _ s),
    fun _ _ => frame_exec fun s hP => execNop_keeps hP (agree_refl _ s),
    fun _ _ => frame_exec fun s hP => execAtom_keeps hP (agree_refl _ s),
    fun _ _ => frame_exec fun s hP => execConf_keeps hP (agree_refl _ s),
    fun _ _ => frame_exec fun s hP => execRsp_keeps hP (agree_refl _ s),
    fun _ _ => frame_exec fun s hP => execPd_keeps hP (agree_refl _ s),
    fun _ _ => frame_exec fun s hP => execPc_keeps hP (agree_refl _ s),
    fun _ _ => frame_exec fun s hP => execRequestOrdered_keeps hP (agree_refl _ s),
    fun _ _ => frame_exec fun s hP => execCarryQueueAllocate_keeps hP (agree_refl _ s),
    fun _ _ _ => frame_exec fun s hP => execHmapWrite_keeps hP (agree_refl _ s),
    fun _ => frame_exec fun s hP => execRfConvert_keeps hP (agree_refl _ s),
    frame_exec fun s hP => execRfConvertDone_keeps hP (agree_refl _ s),
    fun _ _ => frame_exec fun s hP => execScrubPass_keeps hP (agree_refl _ s),
    fun _ => frame_exec fun s hP => execDepartureSweepDone_keeps hP (agree_refl _ s),
    fun _ _ => frame_exec fun s hP => execAtomicDone_keeps hP (agree_refl _ s),
    fun _ _ => frame_exec fun s hP => execAtomBoardIdle_keeps hP (agree_refl _ s),
    fun _ _ => frame_exec fun s hP => execTallyProbe_keeps hP (agree_refl _ s)⟩

/-- Settles O50: the frame of each command of 08_sum_engines.md covers what its meaning may write. -/
theorem sumFrame : Obligations.SumFrame :=
  ⟨fun _ _ _ _ => frame_exec fun s hP => execWindowDescriptor_keeps hP (agree_refl _ s),
    fun _ _ => frame_exec fun s hP => execCloseDoorbell_keeps hP (agree_refl _ s),
    fun _ _ _ _ _ => frame_exec fun s hP => execSlotRegistration_keeps hP (agree_refl _ s),
    fun _ _ _ _ _ _ _ => frame_exec fun s hP => execContribution_keeps hP (agree_refl _ s),
    fun _ _ => frame_exec fun s hP => execBar2StrayWrite_keeps hP (agree_refl _ s),
    fun _ => frame_exec fun s hP => execResultWritesDone_keeps hP (agree_refl _ s),
    fun _ => frame_exec fun s hP => execWindowTimerExpiry_keeps hP (agree_refl _ s),
    fun _ _ _ _ => frame_exec fun s hP => execFarAtomicCommand_keeps hP (agree_refl _ s)⟩

/-- Settles O51: the frame of each command of 09_data_mover_and_functions.md covers what its meaning may write. -/
theorem dataMoverFrame : Obligations.DataMoverFrame :=
  ⟨fun _ _ _ => frame_exec fun s hP => execSqDoorbell_keeps hP (agree_refl _ s),
    fun _ _ => frame_exec fun s hP => execCqDoorbell_keeps hP (agree_refl _ s),
    fun _ _ _ => frame_exec fun s hP => execDescriptorFetch_keeps hP (agree_refl _ s),
    fun _ _ _ _ _ => frame_exec fun s hP => execCopy_keeps hP (agree_refl _ s),
    fun _ _ _ => frame_exec fun s hP => execFill_keeps hP (agree_refl _ s),
    fun _ _ _ => frame_exec fun s hP => execZero_keeps hP (agree_refl _ s),
    fun _ _ _ _ => frame_exec fun s hP => execCrc_keeps hP (agree_refl _ s),
    fun _ _ _ _ _ => frame_exec fun s hP => execCompare_keeps hP (agree_refl _ s),
    fun _ _ _ => frame_exec fun s hP => execAtomic_keeps hP (agree_refl _ s),
    fun _ _ => frame_exec fun s hP => execReKey_keeps hP (agree_refl _ s),
    fun _ _ _ => frame_exec fun s hP => execMigrate_keeps hP (agree_refl _ s),
    fun _ _ _ _ _ => frame_exec fun s hP => execDescriptorDone_keeps hP (agree_refl _ s),
    fun _ => frame_exec fun s hP => execCqEntryWrite_keeps hP (agree_refl _ s),
    fun _ => frame_exec fun s hP => execCqCoalesceTimeout_keeps hP (agree_refl _ s),
    fun _ _ _ => frame_exec fun s hP => execQueueEnable_keeps hP (agree_refl _ s),
    fun _ _ => frame_exec fun s hP => execFcfgWrite_keeps hP (agree_refl _ s),
    fun _ => frame_exec fun s hP => execFreeze_keeps hP (agree_refl _ s),
    frame_exec fun s hP => execFreezeComplete_keeps hP (agree_refl _ s),
    fun _ => frame_exec fun s hP => execSave_keeps hP (agree_refl _ s),
    fun _ _ => frame_exec fun s hP => execRestore_keeps hP (agree_refl _ s),
    fun _ => frame_exec fun s hP => execUnfreeze_keeps hP (agree_refl _ s),
    fun _ => frame_exec fun s hP => execFreezeDiscard_keeps hP (agree_refl _ s),
    fun _ _ => frame_exec fun s hP => execFunctionReset_keeps hP (agree_refl _ s),
    fun _ => frame_exec fun s hP => execCryptoErase_keeps hP (agree_refl _ s),
    frame_exec fun s hP => execEraseZeroDone_keeps hP (agree_refl _ s)⟩

/-- Settles O52: the frame of each command of 10_beamlinks_and_cascade.md covers what its meaning may write. -/
theorem beamlinkFrame : Obligations.BeamlinkFrame :=
  ⟨fun _ _ _ => frame_exec fun s hP => execCodewordReceived_keeps hP (agree_refl _ s),
    fun _ _ _ => frame_exec fun s hP => execDataBead_keeps hP (agree_refl _ s),
    fun _ => frame_exec fun s hP => execBeadCrcFail_keeps hP (agree_refl _ s),
    fun _ _ _ => frame_exec fun s hP => execIdleBead_keeps hP (agree_refl _ s),
    fun _ => frame_exec fun s hP => execRetransmitTimeout_keeps hP (agree_refl _ s),
    fun _ _ _ _ _ _ _ _ _ _ => frame_exec fun s hP => execHello_keeps hP (agree_refl _ s),
    fun _ _ _ => frame_exec fun s hP => execHelloAck_keeps hP (agree_refl _ s),
    fun _ _ _ _ => frame_exec fun s hP => execLaneSub_keeps hP (agree_refl _ s),
    fun _ _ _ _ => frame_exec fun s hP => execLaneSubAck_keeps hP (agree_refl _ s),
    fun _ _ _ _ => frame_exec fun s hP => execHandoff_keeps hP (agree_refl _ s),
    fun _ _ _ _ => frame_exec fun s hP => execHandoffAck_keeps hP (agree_refl _ s),
    fun _ _ => frame_exec fun s hP => execTopo_keeps hP (agree_refl _ s),
    fun _ _ _ => frame_exec fun s hP => execDepart_keeps hP (agree_refl _ s),
    fun _ _ _ => frame_exec fun s hP => execDepartDone_keeps hP (agree_refl _ s),
    fun _ _ _ _ => frame_exec fun s hP => execMasterXfer_keeps hP (agree_refl _ s),
    frame_exec fun s hP => execMasterChange_keeps hP (agree_refl _ s),
    fun _ _ => frame_exec fun s hP => execSync_keeps hP (agree_refl _ s),
    fun _ _ => frame_exec fun s hP => execDreq_keeps hP (agree_refl _ s),
    fun _ _ => frame_exec fun s hP => execDrsp_keeps hP (agree_refl _ s),
    fun _ => frame_exec fun s hP => execTimeBeadSend_keeps hP (agree_refl _ s),
    frame_exec fun s hP => execTopoSend_keeps hP (agree_refl _ s),
    fun _ => frame_exec fun s hP => execCtrlResend_keeps hP (agree_refl _ s),
    fun _ => frame_exec fun s hP => execCtrlTimeout_keeps hP (agree_refl _ s),
    fun _ _ => frame_exec fun s hP => execBlkEnable_keeps hP (agree_refl _ s),
    fun _ _ => frame_exec fun s hP => execTrainComplete_keeps hP (agree_refl _ s),
    fun _ => frame_exec fun s hP => execBlkStateTimeout_keeps hP (agree_refl _ s),
    fun _ => frame_exec fun s hP => execBlkRetryInterval_keeps hP (agree_refl _ s),
    fun _ _ => frame_exec fun s hP => execLaneLockLoss_keeps hP (agree_refl _ s),
    fun _ _ => frame_exec fun s hP => execLaneErrorWindow_keeps hP (agree_refl _ s),
    fun _ _ => frame_exec fun s hP => execLaneSubCommand_keeps hP (agree_refl _ s),
    fun _ => frame_exec fun s hP => execSpareLaneFail_keeps hP (agree_refl _ s),
    fun _ _ => frame_exec fun s hP => execLinkHandoffCommand_keeps hP (agree_refl _ s),
    fun _ => frame_exec fun s hP => execLinkSetFenceDone_keeps hP (agree_refl _ s),
    fun _ => frame_exec fun s hP => execUnreachableTimeout_keeps hP (agree_refl _ s)⟩

/-- Settles O53: the frame of each command of 11_security_and_trust.md covers what its meaning may write. -/
theorem securityFrame : Obligations.SecurityFrame :=
  ⟨fun _ => frame_exec fun s hP => execNoiseSourceFail_keeps hP (agree_refl _ s),
    fun _ _ => frame_exec fun s hP => execDomainKeySet_keeps hP (agree_refl _ s),
    fun _ _ => frame_exec fun s hP => execRotArm_keeps hP (agree_refl _ s),
    fun _ _ => frame_exec fun s hP => execRctlCancel_keeps hP (agree_refl _ s),
    fun _ => frame_exec fun s hP => execRotTimeReached_keeps hP (agree_refl _ s),
    fun _ => frame_exec fun s hP => execRekeyBlockDone_keeps hP (agree_refl _ s),
    fun _ => frame_exec fun s hP => execRotDrainDone_keeps hP (agree_refl _ s),
    fun _ _ _ _ _ => frame_exec fun s hP => execIdeKm_keeps hP (agree_refl _ s),
    fun _ _ _ => frame_exec fun s hP => execKSetGo_keeps hP (agree_refl _ s),
    fun _ _ => frame_exec fun s hP => execIdeCheckFail_keeps hP (agree_refl _ s),
    fun _ => frame_exec fun s hP => execKeyExchange_keeps hP (agree_refl _ s),
    fun _ _ => frame_exec fun s hP => execGetMeasurements_keeps hP (agree_refl _ s),
    fun _ _ => frame_exec fun s hP => execSpdmRequest_keeps hP (agree_refl _ s),
    fun _ => frame_exec fun s hP => execEndSession_keeps hP (agree_refl _ s),
    fun _ => frame_exec fun s hP => execHeartbeatTimeout_keeps hP (agree_refl _ s),
    fun _ => frame_exec fun s hP => execFvClear_keeps hP (agree_refl _ s),
    fun _ => frame_exec fun s hP => execActCommit_keeps hP (agree_refl _ s),
    frame_exec fun s hP => execStagingReloadDone_keeps hP (agree_refl _ s),
    frame_exec fun s hP => execActDrainDone_keeps hP (agree_refl _ s),
    fun _ _ => frame_exec fun s hP => execLcArm_keeps hP (agree_refl _ s),
    frame_exec fun s hP => execLcArmExpiry_keeps hP (agree_refl _ s),
    fun _ _ _ _ => frame_exec fun s hP => execLcGo_keeps hP (agree_refl _ s)⟩

/-- Settles O54: the frame of each command of 12_slot_power.md covers what its meaning may write. -/
theorem slotFrame : Obligations.SlotFrame :=
  ⟨fun _ _ => frame_exec fun s hP => execSlotTick_keeps hP (agree_refl _ s),
    fun _ => frame_exec fun s hP => execSeatingDetected_keeps hP (agree_refl _ s),
    fun _ => frame_exec fun s hP => execQualifyComplete_keeps hP (agree_refl _ s),
    fun _ => frame_exec fun s hP => execInsertionDelayEnd_keeps hP (agree_refl _ s),
    fun _ => frame_exec fun s hP => execSeatingLost_keeps hP (agree_refl _ s),
    fun _ => frame_exec fun s hP => execInrushTimeout_keeps hP (agree_refl _ s),
    fun _ => frame_exec fun s hP => execFaultTimerExpiry_keeps hP (agree_refl _ s),
    fun _ => frame_exec fun s hP => execFastTrip_keeps hP (agree_refl _ s),
    fun _ => frame_exec fun s hP => execRetryTimerEnd_keeps hP (agree_refl _ s),
    fun _ => frame_exec fun s hP => execPgDelayEnd_keeps hP (agree_refl _ s),
    fun _ => frame_exec fun s hP => execWarnClear_keeps hP (agree_refl _ s),
    fun _ => frame_exec fun s hP => execRetriesClear_keeps hP (agree_refl _ s),
    fun _ => frame_exec fun s hP => execEnergyLimit_keeps hP (agree_refl _ s),
    fun _ => frame_exec fun s hP => execFetDegraded_keeps hP (agree_refl _ s),
    fun _ => frame_exec fun s hP => execFetShort_keeps hP (agree_refl _ s),
    fun _ => frame_exec fun s hP => execDischargeTimeout_keeps hP (agree_refl _ s),
    fun _ _ => frame_exec fun s hP => execSlotOn_keeps hP (agree_refl _ s),
    fun _ _ => frame_exec fun s hP => execSlotOnAt_keeps hP (agree_refl _ s),
    fun _ => frame_exec fun s hP => execOnatReached_keeps hP (agree_refl _ s),
    fun _ _ => frame_exec fun s hP => execSlotOff_keeps hP (agree_refl _ s),
    fun _ _ => frame_exec fun s hP => execSlotClear_keeps hP (agree_refl _ s),
    fun _ _ => frame_exec fun s hP => execSlotApply_keeps hP (agree_refl _ s),
    fun _ => frame_exec fun s hP => execVinEarlyWarning_keeps hP (agree_refl _ s),
    fun _ => frame_exec fun s hP => execVinLockout_keeps hP (agree_refl _ s),
    fun _ => frame_exec fun s hP => execSlotDiePowerOn_keeps hP (agree_refl _ s),
    fun _ _ => frame_exec fun s hP => execThresholdWrite_keeps hP (agree_refl _ s)⟩

/-- Settles O55: the frame of each command of 13_faults_and_spares.md covers what its meaning may write. -/
theorem faultFrame : Obligations.FaultFrame :=
  ⟨fun _ => frame_exec fun s hP => execErrorRecord_keeps hP (agree_refl _ s),
    fun _ => frame_exec fun s hP => execRecordMerge_keeps hP (agree_refl _ s),
    fun _ _ => frame_exec fun s hP => execErrorLineEdge_keeps hP (agree_refl _ s),
    fun _ => frame_exec fun s hP => execStormEnd_keeps hP (agree_refl _ s),
    frame_exec fun s hP => execFaultnQuietRelease_keeps hP (agree_refl _ s),
    fun _ => frame_exec fun s hP => execFaultnClr_keeps hP (agree_refl _ s),
    fun _ => frame_exec fun s hP => execFltRheadWrite_keeps hP (agree_refl _ s),
    fun _ => frame_exec fun s hP => execCoreHeartbeat_keeps hP (agree_refl _ s),
    fun _ => frame_exec fun s hP => execHeartbeatLoss_keeps hP (agree_refl _ s),
    fun _ _ => frame_exec fun s hP => execBringInComplete_keeps hP (agree_refl _ s),
    fun _ => frame_exec fun s hP => execFenceRelease_keeps hP (agree_refl _ s),
    fun _ => frame_exec fun s hP => execReleaseTestDone_keeps hP (agree_refl _ s),
    frame_exec fun s hP => execReleaseTimeout_keeps hP (agree_refl _ s),
    fun _ => frame_exec fun s hP => execUcRecover_keeps hP (agree_refl _ s)⟩

/-- Settles O56: the frame of each command of 14_events_and_interrupts.md covers what its meaning may write. -/
theorem eventFrame : Obligations.EventFrame :=
  ⟨fun _ _ _ => frame_exec fun s hP => execEventRaised_keeps hP (agree_refl _ s),
    fun _ _ => frame_exec fun s hP => execClaim_keeps hP (agree_refl _ s),
    fun _ _ _ => frame_exec fun s hP => execComplete_keeps hP (agree_refl _ s),
    frame_exec fun s hP => execRingRecordWrite_keeps hP (agree_refl _ s),
    fun _ => frame_exec fun s hP => execRingHeadWrite_keeps hP (agree_refl _ s),
    fun _ => frame_exec fun s hP => execRingCtlWrite_keeps hP (agree_refl _ s),
    fun _ _ => frame_exec fun s hP => execHoldoffEnd_keeps hP (agree_refl _ s),
    fun _ _ => frame_exec fun s hP => execWakeEdge_keeps hP (agree_refl _ s),
    fun _ => frame_exec fun s hP => execWakeEvent_keeps hP (agree_refl _ s),
    frame_exec fun s hP => execFmPortLinkUp_keeps hP (agree_refl _ s)⟩

/-- Settles O57: the frame of each command of 15_performance_monitoring.md covers what its meaning may write. -/
theorem performanceFrame : Obligations.PerformanceFrame :=
  ⟨fun _ _ _ => frame_exec fun s hP => execPerfSelWrite_keeps hP (agree_refl _ s),
    fun _ _ => frame_exec fun s hP => execCounterOverflow_keeps hP (agree_refl _ s),
    fun _ => frame_exec fun s hP => execPerfFreeze_keeps hP (agree_refl _ s),
    frame_exec fun s hP => execFreezeBoundary_keeps hP (agree_refl _ s),
    frame_exec fun s hP => execSnapshot_keeps hP (agree_refl _ s),
    frame_exec fun s hP => execBwWindowEnd_keeps hP (agree_refl _ s),
    fun _ _ _ _ => frame_exec fun s hP => execSampleRecord_keeps hP (agree_refl _ s),
    fun _ => frame_exec fun s hP => execTsEnable_keeps hP (agree_refl _ s)⟩

/-- Settles O58: the frame of each command of 16_boot_image_and_journal.md covers what its meaning may write. -/
theorem bootFrame : Obligations.BootFrame :=
  ⟨frame_exec fun s hP => execCompactionStart_keeps hP (agree_refl _ s),
    frame_exec fun s hP => execCompactionSwitch_keeps hP (agree_refl _ s),
    frame_exec fun s hP => execPwrfail_keeps hP (agree_refl _ s),
    fun _ => frame_exec fun s hP => execPolicySubmit_keeps hP (agree_refl _ s),
    fun _ _ => frame_exec fun s hP => execUpdate_keeps hP (agree_refl _ s),
    fun _ => frame_exec fun s hP => execUpdateDone_keeps hP (agree_refl _ s),
    frame_exec fun s hP => execBlockEraseDone_keeps hP (agree_refl _ s)⟩

/-- Settles O59: the frame of each command of 18_electrical_and_package.md covers what its meaning may write. -/
theorem packageFrame : Obligations.PackageFrame :=
  frame_exec fun s hP => execFmPerst_keeps hP (agree_refl _ s)

/-- Settles O60: the frame of each command of 20_test_and_perturbation.md covers what its meaning may write. -/
theorem testFrame : Obligations.TestFrame :=
  ⟨fun _ _ => frame_exec fun s hP => execLoopbackNear_keeps hP (agree_refl _ s),
    fun _ _ => frame_exec fun s hP => execLoopbackFar_keeps hP (agree_refl _ s),
    fun _ _ => frame_exec fun s hP => execLoopbackLead_keeps hP (agree_refl _ s),
    fun _ _ => frame_exec fun s hP => execPatternControl_keeps hP (agree_refl _ s),
    fun _ => frame_exec fun s hP => execInjectArm_keeps hP (agree_refl _ s),
    fun _ _ _ => frame_exec fun s hP => execPatternCheckLock_keeps hP (agree_refl _ s)⟩

end Sys2Proof.Machine
end

section
/-! PROOF. The ball map by place and by name (R411 to R416): in each region of the grid a signal is found where its name places it, and the place that a name gives holds the signal. -/

namespace Sys2Proof.Machine

set_option Elab.async false

/-- The four sides of the perimeter band by the number of the tile (R411, R412). -/
theorem tilePlace_eq (c a d : Nat) : tilePlace c a d =
    if c / 8 = 0 then (1 + d, 1 + 10 * (c % 8) + a) else if c / 8 = 1 then (1 + 10 * (c % 8) + a, 88 - d)
    else if c / 8 = 2 then (88 - d, 88 - 10 * (c % 8) - a) else (88 - 10 * (c % 8) - a, 1 + d) := by
  unfold tilePlace
  rcases c / 8 with _ | _ | _ | n <;> simp

/-- A place of the perimeter band lies where its tile puts it. -/
theorem tileOf_some {r c t a d : Nat} (hr : 1 ≤ r ∧ r ≤ 88) (hc : 1 ≤ c ∧ c ≤ 88) (h : tileOf r c = some (t, a, d)) :
    a < 10 ∧ d < 8 ∧ tilePlace t a d = (r, c) := by
  unfold tileOf at h
  split_ifs at h with h1 h2 h3 h4
  all_goals
    simp only [Option.some.injEq, Prod.mk.injEq] at h
    obtain ⟨rfl, rfl, rfl⟩ := h
    refine ⟨by omega, by omega, ?_⟩
    rw [tilePlace_eq]
  · rw [if_pos (by omega)]
    exact Prod.ext (by simp only; omega) (by simp only; omega)
  · rw [if_neg (by omega), if_pos (by omega)]
    exact Prod.ext (by simp only; omega) (by simp only; omega)
  · rw [if_neg (by omega), if_neg (by omega), if_pos (by omega)]
    exact Prod.ext (by simp only; omega) (by simp only; omega)
  · rw [if_neg (by omega), if_neg (by omega), if_neg (by omega)]
    exact Prod.ext (by simp only; omega) (by simp only; omega)

/-- The perimeter band is 8 balls wide (R411). -/
theorem tileOf_eq_none {r c : Nat} (hr : 1 ≤ r ∧ r ≤ 88) (hc : 1 ≤ c ∧ c ≤ 88) : tileOf r c = none ↔ 9 ≤ r ∧ r ≤ 80 ∧ 9 ≤ c ∧ c ≤ 80 := by
  unfold tileOf
  split_ifs <;> simp only [false_iff, true_iff] <;> omega

/-- A place of a tile is one of the grid, and belongs to that tile. -/
theorem tileOf_tilePlace {c a d : Nat} (hc : c < 32) (ha : a < 10) (hd : d < 8) :
    (1 ≤ (tilePlace c a d).1 ∧ (tilePlace c a d).1 ≤ 88) ∧ (1 ≤ (tilePlace c a d).2 ∧ (tilePlace c a d).2 ≤ 88) ∧
    tileOf (tilePlace c a d).1 (tilePlace c a d).2 = some (c, a, d) := by
  rw [tilePlace_eq]
  unfold tileOf
  rcases (by omega : c / 8 = 0 ∨ c / 8 = 1 ∨ c / 8 = 2 ∨ c / 8 = 3) with h | h | h | h <;>
    rw [h] <;> simp only [reduceIte, reduceCtorEq, OfNat.ofNat_ne_zero, OfNat.ofNat_ne_one, one_ne_zero, Nat.succ_ne_self, Nat.reduceEqDiff]
  · rw [if_pos (by omega), Option.some.injEq, Prod.mk.injEq, Prod.mk.injEq]
    omega
  · rw [if_neg (by omega), if_pos (by omega), Option.some.injEq, Prod.mk.injEq, Prod.mk.injEq]
    omega
  · rw [if_neg (by omega), if_neg (by omega), if_pos (by omega), Option.some.injEq, Prod.mk.injEq, Prod.mk.injEq]
    omega
  · rw [if_neg (by omega), if_neg (by omega), if_neg (by omega), if_pos (by omega), Option.some.injEq, Prod.mk.injEq, Prod.mk.injEq]
    omega

theorem ballAt_tile {r c t a d : Nat} (hr : 1 ≤ r ∧ r ≤ 88) (hc : 1 ≤ c ∧ c ≤ 88) (h : tileOf r c = some (t, a, d)) :
    ballAt r c = some (tileBall t a d) := by
  unfold ballAt
  rw [if_neg (by omega), h]

/-- Inside the perimeter band the rows choose the region (R411). -/
theorem ballAt_inner {r c : Nat} (hr : 9 ≤ r ∧ r ≤ 80) (hc : 9 ≤ c ∧ c ≤ 80) : ballAt r c =
    if r ≤ 12 then some (.blk (decide (r ≤ 10)) ((c - 9) / 9) ((c - 9) % 9) (decide (r % 2 = 0)))
    else if r ≤ 16 then some (sideBall r c) else if r ≤ 71 then some (coreBall r c) else some (slotBall r c) := by
  unfold ballAt
  rw [if_neg (by omega), (tileOf_eq_none (by omega) (by omega)).2 (by omega)]

theorem ballAt_isSome {r c : Nat} (hr : 1 ≤ r ∧ r ≤ 88) (hc : 1 ≤ c ∧ c ≤ 88) : ∃ b, ballAt r c = some b := by
  rcases h : tileOf r c with _ | ⟨t, a, d⟩
  · rw [ballAt_inner (by have := (tileOf_eq_none hr hc).1 h; omega) (by have := (tileOf_eq_none hr hc).1 h; omega)]
    split_ifs <;> exact ⟨_, rfl⟩
  · exact ⟨_, ballAt_tile hr hc h⟩

theorem b2n_decide (p : Prop) [Decidable p] : b2n (decide p) = if p then 1 else 0 := by
  by_cases h : p <;> simp [h, b2n]

/-- A lane's ball of a tile lies where the lane's name places it (R412). -/
theorem tileBall_place {t a d : Nat} (ha : a < 10) (hd : d < 8) (h : (tileBall t a d).signal = true) :
    ballPlace (tileBall t a d) = some (tilePlace t a d) := by
  unfold tileBall at h ⊢
  split_ifs at h ⊢ with he
  · cases h
  · have ea : 1 + 2 * ((d % 4 * 4 + (a - 1) / 2) % 4) + b2n (decide ((a - 1) % 2 = 1)) = a := by rw [b2n_decide]; split_ifs <;> omega
    have ed : (d % 4 * 4 + (a - 1) / 2) / 4 + (if 4 ≤ d then 4 else 0) = d := by split_ifs <;> omega
    simp only [ballPlace, decide_eq_true_eq, ea, ed]

/-- Where a sideband row shows a signal, the signal's place is there (R414). -/
theorem sideAt_place {l : List (Option Sideband)} {r c n i : Nat} (hi : i < n) (hl : ∀ i < n, (nthD l i none).all (fun x => sidePlace x = (r, c + i)) = true)
    (h : (sideAt l i).signal = true) : ballPlace (sideAt l i) = some (r, c + i) := by
  have hx := hl i hi
  unfold sideAt at h ⊢
  cases hq : nthD l i none with
  | none => simp only [hq, Ball.signal, Bool.false_eq_true] at h
  | some x =>
    rw [hq, Option.all_some, decide_eq_true_eq] at hx
    exact congrArg some hx

theorem sideBall_place {r c : Nat} (hr : 13 ≤ r ∧ r ≤ 16) (hc : 9 ≤ c ∧ c ≤ 80) (h : (sideBall r c).signal = true) :
    ballPlace (sideBall r c) = some (r, c) := by
  unfold sideBall at h ⊢
  split_ifs at h ⊢ with h13 h72 h14 h42 hodd h40 haon
  · simp only [ballPlace, Option.some.injEq, Prod.mk.injEq]
    omega
  · rw [sideAt_place (r := 13) (c := 73) (n := 8) (by omega) (by decide) h, h13, Nat.add_sub_cancel' (by omega)]
  · rw [sideAt_place (r := 14) (c := 9) (n := 34) (by omega) (by decide) h, h14, Nat.add_sub_cancel' (by omega)]
  · cases h
  · cases h
  · simp only [ballPlace, Option.some.injEq, Prod.mk.injEq, b2n_decide, decide_eq_true_eq]
    split_ifs <;> omega
  · cases h
  · cases h

/-- The supply core carries no signal (R415). -/
theorem coreBall_signal (r c : Nat) : (coreBall r c).signal = false := by
  unfold coreBall
  split_ifs <;> rfl

/-- The pin of a row is the one that R416 lists for it. -/
theorem slotPin_row {k : Nat} (hk : k < 9) :
    ([SlotPin.gate, .snsP, .snsN, .vout, .seatA, .seatB, .pg, .warn].findIdx? (· == slotPin (72 + k))).getD 8 = k := by
  revert k
  decide

theorem slotBall_place {r c : Nat} (hr : 72 ≤ r ∧ r ≤ 80) (hc : 9 ≤ c) (h : (slotBall r c).signal = true) :
    ballPlace (slotBall r c) = some (r, c) := by
  obtain ⟨k, rfl⟩ := Nat.exists_eq_add_of_le hr.1
  unfold slotBall at h ⊢
  split_ifs at h ⊢ with h72 hodd h73 h74
  · simp only [ballPlace, Option.some.injEq, Prod.mk.injEq, slotPin_row (show k < 9 by omega), true_and]
    omega
  · cases h
  · simp only [ballPlace, Option.some.injEq, Prod.mk.injEq]
    omega
  · cases h
  · cases h

/-- The rows of the Beamlinks: transmit pairs in rows 9 and 10, receive pairs in rows 11 and 12 (R413). -/
theorem blkBall_place {r c : Nat} (hr : 9 ≤ r ∧ r ≤ 12) (hc : 9 ≤ c) :
    ballPlace (.blk (decide (r ≤ 10)) ((c - 9) / 9) ((c - 9) % 9) (decide (r % 2 = 0))) = some (r, c) := by
  simp only [ballPlace, Option.some.injEq, Prod.mk.injEq, b2n_decide, decide_eq_true_eq]
  split_ifs <;> omega

/-- A ball that carries a signal lies where the signal's name places it. -/
theorem ballAt_place {r c : Nat} {b : Ball} (h : ballAt r c = some b) (hs : b.signal = true) : ballPlace b = some (r, c) := by
  have hg : (1 ≤ r ∧ r ≤ 88) ∧ 1 ≤ c ∧ c ≤ 88 := by
    unfold ballAt at h
    split at h
    · cases h
    · omega
  obtain ⟨hr, hc⟩ := hg
  rcases ht : tileOf r c with _ | ⟨t, a, d⟩
  · obtain ⟨r1, r2, c1, c2⟩ := (tileOf_eq_none hr hc).1 ht
    rw [ballAt_inner ⟨r1, r2⟩ ⟨c1, c2⟩] at h
    split_ifs at h with h12 h16 h71 <;> obtain rfl := Option.some.inj h
    · exact blkBall_place ⟨r1, h12⟩ c1
    · exact sideBall_place (by omega) ⟨c1, c2⟩ hs
    · rw [coreBall_signal] at hs
      cases hs
    · exact slotBall_place (by omega) c1 hs
  · obtain ⟨ha, hd, hp⟩ := tileOf_some hr hc ht
    obtain rfl := Option.some.inj ((ballAt_tile hr hc ht).symm.trans h)
    rw [tileBall_place ha hd hs, hp]

/-- The pair of a fabric lane is found in its column's tile (R412). -/
theorem ballAt_fab (tx : Bool) {c l : Nat} (neg : Bool) (hc : c < 32) (hl : l < 16) {a d : Nat} (ha : 1 + 2 * (l % 4) + b2n neg = a)
    (hd : l / 4 + (if tx then 4 else 0) = d) : ballAt (tilePlace c a d).1 (tilePlace c a d).2 = some (.fab tx c l neg) := by
  have hn : b2n neg = if neg then 1 else 0 := rfl
  have ha' : a < 10 := by split_ifs at hn <;> omega
  have hd' : d < 8 := by split_ifs at hd <;> omega
  obtain ⟨h1, h2, h3⟩ := tileOf_tilePlace hc ha' hd'
  rw [ballAt_tile h1 h2 h3, tileBall, if_neg (by split_ifs at hn <;> omega), Option.some.injEq, Ball.fab.injEq]
  refine ⟨?_, rfl, ?_, ?_⟩
  · cases tx <;> simp only [Bool.false_eq_true, reduceIte, decide_eq_true_eq, decide_eq_false_iff_not] at hd ⊢ <;> omega
  · split_ifs at hn hd <;> omega
  · cases neg <;> simp only [b2n, Bool.false_eq_true, reduceIte, decide_eq_true_eq, decide_eq_false_iff_not] at ha ⊢ <;> omega

theorem ballAt_blk (tx : Bool) {n l : Nat} (neg : Bool) (hn : n < 8) (hl : l < 9) :
    ballAt (9 + (if tx then 0 else 2) + b2n neg) (9 + 9 * n + l) = some (.blk tx n l neg) := by
  have en : (9 + 9 * n + l - 9) / 9 = n := by omega
  have el : (9 + 9 * n + l - 9) % 9 = l := by omega
  have hr : 9 ≤ 9 + (if tx then 0 else 2) + b2n neg ∧ 9 + (if tx then 0 else 2) + b2n neg ≤ 12 := by cases tx <;> cases neg <;> decide
  rw [ballAt_inner (by omega) (by omega), if_pos hr.2, en, el]
  cases tx <;> cases neg <;> rfl

theorem ballAt_fm (tx : Bool) {l : Nat} (neg : Bool) (hl : l < 16) : ballAt (if tx then 15 else 16) (9 + 2 * l + b2n neg) = some (.fm tx l neg) := by
  have hn : b2n neg = if neg then 1 else 0 := rfl
  have hc : b2n neg ≤ 1 := by cases neg <;> decide
  have el : (9 + 2 * l + b2n neg - 9) / 2 = l := by omega
  have ep : decide ((9 + 2 * l + b2n neg) % 2 = 0) = neg := by
    cases neg <;> simp only [b2n, Bool.false_eq_true, reduceIte, decide_eq_true_eq, decide_eq_false_iff_not] <;> omega
  have side (r : Nat) (h : r = 15 ∨ r = 16) : ballAt r (9 + 2 * l + b2n neg) = some (.fm (decide (r = 15)) l neg) := by
    rw [ballAt_inner (by omega) (by omega), if_neg (by omega), if_pos (by omega), sideBall, if_neg (by omega), if_neg (by omega), if_pos (by omega), el, ep]
  cases tx
  · exact side 16 (.inr rfl)
  · exact side 15 (.inl rfl)

theorem ballAt_clkreqN {p : Nat} (hp : p < 64) : ballAt 13 (9 + p) = some (.clkreqN p) := by
  rw [ballAt_inner (by omega) (by omega), if_neg (by omega), if_pos (by omega), sideBall, if_pos rfl, if_pos (by omega), Nat.add_sub_cancel_left]

theorem ballAt_slot {n k : Nat} (hn : n < 32) (hk : k < 9) : ballAt (72 + k) (9 + 2 * n) = some (.slot (slotPin (72 + k)) n) := by
  rw [ballAt_inner (by omega) (by omega), if_neg (by omega), if_neg (by omega), if_neg (by omega), slotBall, if_pos (by omega), if_pos (by omega),
    Nat.add_sub_cancel_left, Nat.mul_div_cancel_left _ (by decide)]

/-- Settles O12: the region of a place decides its ball, and each region's formulas are the inverse of the rule that places its signals. -/
theorem ballMap : Obligations.BallMap :=
  ⟨fun _ _ r1 r2 c1 c2 => ballAt_isSome ⟨r1, r2⟩ ⟨c1, c2⟩, fun _ _ _ h hs => ballAt_place h hs,
    fun tx _ _ neg hc hl => ballAt_fab tx neg hc hl rfl rfl, fun tx _ _ neg hn hl => ballAt_blk tx neg hn hl, fun tx _ neg hl => ballAt_fm tx neg hl,
    fun _ hp => ballAt_clkreqN hp, fun _ _ hn hk => ballAt_slot hn hk⟩

end Sys2Proof.Machine
end

section
/-! PROOF. Reading fields and parts of the state through the operations of the library: an operation whose mask leaves a field or a part out leaves what it holds. -/

namespace Sys2Proof.Machine

theorem atReg_served {e : Ent} {f : State → Result} {s : State} (h : served s (e.base / 8) = true) : atReg e f s = f s := if_pos h

/-- What an operation outside its mask leaves in a field. -/
theorem get_kept {m : Nat} {e : Ent} {i j : Nat} {s t : State} (h : Closed m (fun u => u.get e i j = s.get e i j) → t.get e i j = s.get e i j)
    (he : outside m e = true := by decide +kernel) : t.get e i j = s.get e i j :=
  h (field_closed he i j (· = s.get e i j))

/-- What an operation outside its mask leaves in a part. -/
theorem part_kept (p : Part) {m : Nat} {s t : State} (h : Closed m (agree m s) → agree m s t) (hb : m.testBit p.bit = false := by decide +kernel) :
    p.same s t :=
  agree_part (h (agree_closed m s)) p hb

/-- A property that states agreeing outside a mask share survives every change within the mask. -/
theorem closed_of_agree {m : Nat} {Q : State → Prop} (h : ∀ {s t}, agree m s t → Q s → Q t) : Closed m Q where
  regs := fun h1 h2 hq => h ((agree_closed m _).regs h1 h2 (agree_refl m _)) hq
  out := fun hb hq => h ((agree_closed m _).out hb (agree_refl m _)) hq
  other := fun hs hq => h ((agree_closed m _).other hs (agree_refl m _)) hq

theorem pstate_closed {m p : Nat} {Q : Nat → Prop} (h : outside m PORT.STAT.PSTATE = true := by decide +kernel) : Closed m (fun u => Q (pstate u p)) :=
  field_closed h p 0 Q

theorem portSt_closed {m p : Nat} {Q : PortSt → Prop} (h : m.testBit 13 = false := by decide +kernel) : Closed m (fun u => Q (portSt u p)) :=
  closed_of_agree fun ha hq => by rwa [portSt_of (agree_part ha .ports h)]

theorem on_of_get {s t : State} {e : Ent} {i j : Nat} (h : t.get e i j = s.get e i j) : t.on e i j = s.on e i j := by simp only [State.on, h]

theorem on_of_get_one {s : State} {e : Ent} {i j : Nat} (h : s.get e i j = 1) : s.on e i j = true := by simp [State.on, h]

theorem bitsOf_lt (v lo n : Nat) : bitsOf v lo n < 2 ^ n := Nat.mod_lt _ (Nat.two_pow_pos n)

/-- A field takes bits of a written word that are no more than its width. -/
theorem get_set_bits {s : State} {e : Ent} {v lo n i j : Nat} (h : n ≤ e.w) : (s.set e (bitsOf v lo n) i j).get e i j = bitsOf v lo n := by
  rw [get_set_same, Nat.mod_eq_of_lt ((bitsOf_lt v lo n).trans_le (Nat.pow_le_pow_right (by decide) h))]

/-- A field takes a value that fits it. -/
theorem get_set_fit {s : State} {e : Ent} {v i j : Nat} (h : v < 2 ^ e.w) : (s.set e v i j).get e i j = v := by
  rw [get_set_same, Nat.mod_eq_of_lt h]

theorem get_bump_sat (s : State) (e : Ent) (n i j : Nat) : (s.bump e n i j).get e i j = satAdd (2 ^ e.w - 1) (s.get e i j) n := get_bump_same ..

theorem on_flag {s : State} {e : Ent} {src i payload : Nat} (he : outside raiseMask e = true) (hw : 0 < e.w) : (flag e src s i payload).on e i = true := by
  unfold flag
  split
  · assumption
  · refine on_of_get_one ?_
    rw [get_raise he, get_set_fit (Nat.one_lt_two_pow hw.ne')]

end Sys2Proof.Machine
end

section
/-! PROOF. The step of the queue, the state at reset and the number of balls of each kind. -/

namespace Sys2Proof.Machine

set_option Elab.async false

/-- Settles O1: the front of the queue is what `step` looks at. -/
theorem stepRunsFront : Obligations.StepRunsFront := by
  unfold Obligations.StepRunsFront
  intro c q s h
  simp only [step, h]

/-- What the idle block writes once time has passed. -/
theorem idle_rest_keeps {P : State → Prop} (hP : Closed 0x100000000000000000000000000a20000010000000000000000000000000000000000000000000000000000000000001e00008c040220004c P) {s : State} (h : P (tick s)) : P (idle s) := by
  have h' : P (nocSink (trainTick (tick s))) := nocSink_keeps (hP.mono rfl) (trainTick_keeps (hP.mono rfl) h)
  exact iteP h' (nocDrain_keeps (hP.mono rfl) h')

theorem idle_now (s : State) : (idle s).now = (tick s).now := part_kept .now fun hP => idle_rest_keeps hP (agree_refl _ _)

/-- Settles O2: a tick advances the time by half a nanosecond and at most 3 units of slew either way. -/
theorem stepIdle : Obligations.StepIdle := by
  unfold Obligations.StepIdle
  intro s h
  refine ⟨idle s, by simp only [step, h], (idle_pending s).trans h, ?_⟩
  rw [idle_now, tick]
  simp only [Int.ofNat_eq_natCast]
  omega

/-- Settles O3: the register file at reset lists one field. -/
theorem resetCanonical : Obligations.ResetCanonical := by
  unfold Obligations.ResetCanonical
  decide

/-- At reset every field but the fuse word of the life cycle holds its reset value. -/
theorem get_reset {e : Ent} (he : e ∈ tabAll) (hne : e ≠ SEC.FUSESH.WORD) (i j : Nat) : State.reset.get e i j = e.reset i j := by
  have hk : e.key i j ≠ 50594624 := fields_apart he (tabOf_mem (n := 214) (by decide +kernel)) hne i j 26 0
  simp [State.get, State.reset, lookD, look, hk]

/-- Settles O4: the Reset column gives each field that the statement names its value. -/
theorem resetRegisters : Obligations.ResetRegisters := by
  unfold Obligations.ResetRegisters
  refine ⟨fun e he hne i j => get_reset he hne i j, fun c => ⟨?_, ?_⟩, ?_, ?_, ?_, rfl, ?_⟩ <;>
    exact get_reset (okSet_tabAll (m := 2 ^ 1000 - 1) (by decide +kernel)).1 (by decide +kernel) _ _

theorem ballCount_fab : ballCount (fun b => match b with | .fab .. => true | _ => false) = 2048 := by decide +kernel

theorem ballCount_blk : ballCount (fun b => match b with | .blk .. => true | _ => false) = 288 := by decide +kernel

theorem ballCount_fm : ballCount (fun b => match b with | .fm .. => true | _ => false) = 64 := by decide +kernel

theorem ballCount_clkreqN : ballCount (fun b => match b with | .clkreqN _ => true | _ => false) = 64 := by decide +kernel

theorem ballCount_side : ballCount (fun b => match b with | .side _ => true | _ => false) = 37 := by decide +kernel

theorem ballCount_slot : ballCount (fun b => match b with | .slot _ _ | .vin12Sns => true | _ => false) = 289 := by decide +kernel

theorem ballCount_vddCore : ballCount (· == .rail .vddCore) = 1184 := by decide +kernel

theorem ballCount_vddDir : ballCount (· == .rail .vddDir) = 192 := by decide +kernel

theorem ballCount_vddLane : ballCount (· == .rail .vddLane) = 357 := by decide +kernel

theorem ballCount_vddaLane : ballCount (· == .rail .vddaLane) = 119 := by decide +kernel

theorem ballCount_vddBeam : ballCount (· == .rail .vddBeam) = 64 := by decide +kernel

theorem ballCount_vddaBeam : ballCount (· == .rail .vddaBeam) = 64 := by decide +kernel

theorem ballCount_vddIo : ballCount (· == .rail .vddIo) = 19 := by decide +kernel

theorem ballCount_vddAon : ballCount (· == .rail .vddAon) = 20 := by decide +kernel

theorem ballCount_vdd12 : ballCount (· == .rail .vdd12) = 18 := by decide +kernel

theorem ballCount_vss : ballCount (· == .vss) = 2917 := by decide +kernel

theorem ballCount_all : ballCount (fun _ => true) = 7744 := by decide +kernel

/-- Settles O13, by counting the grid once for each kind of ball. -/
theorem ballCounts : Obligations.BallCounts := by
  unfold Obligations.BallCounts
  refine ⟨ballCount_fab, ballCount_blk, ballCount_fm, ballCount_clkreqN, ballCount_side, ballCount_slot, ?_, ballCount_vss, ballCount_all⟩
  simp only [List.map, ballCount_vddCore, ballCount_vddDir, ballCount_vddLane, ballCount_vddaLane, ballCount_vddBeam, ballCount_vddaBeam, ballCount_vddIo, ballCount_vddAon, ballCount_vdd12]

end Sys2Proof.Machine
end

section
/-! PROOF. What the commands of a column do (R36, R40, R42 to R47, R54 to R56). -/

namespace Sys2Proof.Machine

set_option Elab.async false

/-- The configuration in force is that of another state in every column; the ports and lanes of a column follow from it (R34). -/
def SameCfg (s t : State) : Prop := ∀ c, (colSt t c).cfg = (colSt s c).cfg

theorem SameCfg.refl (s : State) : SameCfg s s := fun _ => rfl

theorem SameCfg.trans {s t u : State} (h : SameCfg s t) (h' : SameCfg t u) : SameCfg s u := fun c => (h' c).trans (h c)

theorem sameCfg_of {s t : State} (h : t.cols = s.cols) : SameCfg s t := fun c => by rw [colSt_of h]

theorem sameCfg_setCol {c : Nat} {x : ColSt} {s : State} (h : x.cfg = (colSt s c).cfg) : SameCfg s (setCol c x s) := by
  intro c'
  rw [colSt_setCol]
  split
  · next hc => rw [h, hc]
  · rfl

theorem SameCfg.set {s t : State} (h : SameCfg s t) {e : Ent} {v i j : Nat} : SameCfg s (t.set e v i j) := h

theorem sameCfg_forL {α : Type} {f : α → State → State} (hf : ∀ a u, SameCfg u (f a u)) (l : List α) (s : State) : SameCfg s (forL l f s) := by
  induction l generalizing s with
  | nil => exact .refl s
  | cons a l ih => exact (hf a s).trans (ih (f a s))

theorem SameCfg.bifur {s t : State} (h : SameCfg s t) : bifur t = bifur s := by
  funext c
  rw [Machine.bifur, h c, Machine.bifur]

theorem SameCfg.slotOf {s t : State} (h : SameCfg s t) : slotOf t = slotOf s := by
  funext p
  rw [Machine.slotOf, h.bifur, Machine.slotOf]

theorem SameCfg.lanesOf {s t : State} (h : SameCfg s t) (p : Nat) : lanesOf t p = lanesOf s p := by rw [Machine.lanesOf, h.slotOf, Machine.lanesOf]

theorem SameCfg.portOfLane {s t : State} (h : SameCfg s t) (c l : Nat) : portOfLane t c l = portOfLane s c l := by
  rw [Machine.portOfLane, colPorts, h.slotOf, Machine.portOfLane, colPorts]

theorem SameCfg.getTrn {s t : State} (h : SameCfg s t) {e : Ent} (hg : ∀ i j, t.get e i j = s.get e i j) (p : Nat) : getTrn t e p = getTrn s e p := by
  unfold Machine.getTrn
  rw [h.slotOf]
  split
  · exact hg _ _
  · rfl

theorem SameCfg.ltssm {s t : State} (h : SameCfg s t) (hg : ∀ i j, t.get COL.TRN.TRNSTAT.LTSSM i j = s.get COL.TRN.TRNSTAT.LTSSM i j) (p : Nat) :
    ltssm t p = ltssm s p := by
  unfold Machine.ltssm
  rw [h.slotOf]
  split
  · exact hg _ _
  · rfl

theorem sameCfg_ovrRelease (p : Nat) (s : State) : SameCfg s (ovrRelease p s) := by
  refine sameCfg_forL (fun q u => ?_) _ s
  obtain ⟨c, l⟩ := q
  dsimp only
  split
  · exact sameCfg_setCol (s := u) rfl
  · exact .refl u

theorem sameCfg_endScan (c st : Nat) (s : State) : SameCfg s (endScan c st s) := sameCfg_setCol rfl

theorem sameCfg_pauseScan (c : Nat) (why : Pause) (s : State) : SameCfg s (pauseScan c why s) := by
  unfold pauseScan
  dsimp only
  split
  · exact .refl s
  · exact .set (sameCfg_setCol (by rfl))

theorem sameCfg_resumeScan (c : Nat) (why : Pause) (s : State) : SameCfg s (resumeScan c why s) := by
  unfold resumeScan
  dsimp only
  split
  · exact .refl s
  · split
    · exact .set (sameCfg_setCol (by rfl))
    · exact sameCfg_setCol (s := s) rfl

theorem sameCfg_toL0 (p : Nat) (s : State) : SameCfg s (toL0 p s) := by
  have h1 : (setLtssm p 6 s).cols = s.cols := part_kept .cols fun hP => setLtssm_keeps hP (agree_refl _ s)
  have h2 (ls : List (Nat × Nat)) (u : State) : (adapt ls u).cols = u.cols := part_kept .cols fun hP => adapt_keeps hP (agree_refl _ u)
  have h3 (ls : List (Nat × Nat)) (u : State) : (lockLanes true ls u).cols = u.cols := part_kept .cols fun hP => lockLanes_keeps hP (agree_refl _ u)
  have h4 (u : State) : (computeUnit p u).cols = u.cols := part_kept .cols fun hP => computeUnit_keeps hP (agree_refl _ u)
  unfold toL0
  dsimp only
  refine SameCfg.trans ?_ (sameCfg_of (h4 _))
  have h5 (ls : List (Nat × Nat)) : SameCfg s (ovrRelease p (lockLanes true ls (adapt ls (setLtssm p 6 s)))) :=
    (sameCfg_of ((h3 ..).trans ((h2 ..).trans h1))).trans (sameCfg_ovrRelease p _)
  refine (h5 (portSt s p).used).trans ?_
  split
  · exact sameCfg_resumeScan _ _ _
  · exact .refl _

/-- What the entry to L0 writes once the port shows it. -/
theorem toL0_rest_keeps {P : State → Prop} (hP : Closed 0x180000000000000000000000000000000000000000000000003af0000200000000000000000000000000000000000000000000000000000000000000000000000000000000000000000000000000000000001008 P)
    {p : Nat} {s : State} (h : P (setLtssm p 6 s)) : P (toL0 p s) := by
  unfold toL0
  have c0 := @adapt_keeps P (hP.mono rfl); have c1 := @lockLanes_keeps P (hP.mono rfl); have c2 := @ovrRelease_keeps P (hP.mono rfl)
  have c3 := @resumeScan_keeps P (hP.mono rfl); have c4 := @computeUnit_keeps P (hP.mono rfl)
  exact byKeep

/-- In L0 a port shows L0 (R58). -/
theorem ltssm_toL0 {p : Nat} {s : State} (h : (slotOf s p).isSome = true) : ltssm (toL0 p s) p = 6 := by
  obtain ⟨⟨c, k, r⟩, hq⟩ := Option.isSome_iff_exists.1 h
  have h1 : (setLtssm p 6 s).get COL.TRN.TRNSTAT.LTSSM c k = 6 := by
    rw [setLtssm, hq]
    exact get_set_fit (by decide)
  rw [ltssm, (sameCfg_toL0 p s).slotOf, hq]
  exact toL0_rest_keeps (field_closed (by decide +kernel) c k (· = 6)) h1

/-- What a COL_APPLY writes once CFG holds its word (R36). -/
theorem colApply_rest_keeps {P : State → Prop} (hP : Closed 0x400000000100003c00000000000000000000000000000000000000000000000000000000000000000000000000000000000000001e00008c0400001040 P)
    {a b : Prop} [Decidable a] [Decidable b] {c v : Nat} {s : State} (h : P s) :
    P (if a then s else if b then colTake c v s else s.set COL.STAT.CFG_ERR 1 c) :=
  iteP h (iteP (colTake_keeps (hP.mono rfl) h) (set_keeps hP rfl h))

theorem colApply_holds_fields {c : ColId} {v : Word} {s : State} (h : served s (COL.CFG.APPLY.base / 8) = true) :
    ∃ t, exec (.colApply c v) s = .next t ∧ t.get COL.CFG.BIFUR c = bitsOf v.toNat 0 2 ∧ t.get COL.CFG.CSLEEP_EN c = bitsOf v.toNat 2 1 ∧
      t.get COL.CFG.MAXRATE c = bitsOf v.toNat 3 3 ∧ t.get COL.CFG.PRECODE c = bitsOf v.toNat 6 1 := by
  refine ⟨_, (atReg_served h : execColApply c v s = _).trans rfl, ?_, ?_, ?_, ?_⟩ <;> rw [get_kept fun hP => colApply_rest_keeps hP rfl] <;>
    simp (disch := decide +kernel) only [get_set_field, get_set_bits]

end Sys2Proof.Machine
end

section
/-! PROOF. What the commands of a column do, part two. -/

namespace Sys2Proof.Machine

set_option Elab.async false

theorem ltssm_of {s t : State} (hc : t.cols = s.cols) (hg : ∀ i j, t.get COL.TRN.TRNSTAT.LTSSM i j = s.get COL.TRN.TRNSTAT.LTSSM i j) (p : Nat) :
    ltssm t p = ltssm s p :=
  (sameCfg_of hc).ltssm hg p

theorem elasticBufferOverrun_counts (c : ColId) (l : Fin 16) (s : State) : ∃ t, exec (.elasticBufferOverrun c l) s = .next t ∧
    t.get COL.LANE.LERR.CODE_ERR c l = satAdd 0xFFFF (s.get COL.LANE.LERR.CODE_ERR c l) 1 := by
  refine ⟨_, (rfl : execElasticBufferOverrun c l s = _), ?_⟩
  rw [rxError_get, codeErr_get]
  rfl

/-- In equalization the taps of R42 are taken. -/
theorem coeffRequest_takes {c : ColId} {l : Fin 16} {pre main post p : Nat} {s : State} (hp : portOfLane s c l = some p) (hl : ltssm s p = 5)
    (ho : s.on COL.LANE.LCTL.OVR_EN c l = false) (hk : coeffOk pre post = true) (hm : main + pre + post = 64) :
    exec (.coeffRequest c l (.taps pre main post)) s = .next ((setCoeff c l pre post 15 s).emit (.coeff c l true)) := by
  show execCoeffRequest c l (.taps pre main post) s = _
  simp [execCoeffRequest, hp, hl, ho, hk, hm]

/-- Taps that meet R42 fit their fields. -/
theorem setCoeff_reads {c l pre post k : Nat} {s : State} (h : coeffOk pre post = true) :
    (setCoeff c l pre post k s).get COL.LANE.LSTAT.PRE c l = pre ∧ (setCoeff c l pre post k s).get COL.LANE.LSTAT.MAIN c l = 64 - pre - post ∧
      (setCoeff c l pre post k s).get COL.LANE.LSTAT.POST c l = post := by
  simp only [coeffOk, Bool.and_eq_true, decide_eq_true_eq] at h
  obtain ⟨⟨h1, h2⟩, -⟩ := h
  unfold setCoeff
  simp (disch := decide +kernel) only [get_set_field, get_set_same]
  exact ⟨Nat.mod_eq_of_lt (by simp only [COL.LANE.LSTAT.PRE]; omega), Nat.mod_eq_of_lt (by simp only [COL.LANE.LSTAT.MAIN]; omega),
    Nat.mod_eq_of_lt (by simp only [COL.LANE.LSTAT.POST]; omega)⟩

/-- The override fields of a lane as a written word gives them (R43). -/
def ovrFields (c l v : Nat) (s : State) : State :=
  (((s.set COL.LANE.LCTL.POL_FORCE (bitsOf v 0 2) c l).set COL.LANE.LCTL.OVR_EN (bitsOf v 2 1) c l).set COL.LANE.LCTL.OVR_PRE (bitsOf v 3 6) c l).set
    COL.LANE.LCTL.OVR_POST (bitsOf v 9 6) c l

/-- The part of OVR_APPLY behind the fields (R43). -/
def ovrTake (c l v : Nat) (s : State) : State :=
  let s := if bitOf v 16 then s.set COL.LANE.LCTL.OVR_ERR 0 c l else s
  if bitOf v 15 && bitOf v 2 then
    if coeffOk (bitsOf v 3 6) (bitsOf v 9 6) then applyOvr c l (bitsOf v 3 6) (bitsOf v 9 6) s else s.set COL.LANE.LCTL.OVR_ERR 1 c l
  else s

theorem exec_ovrApply {c : ColId} {l : Fin 16} {v : Word} {s : State} (h : served s (COL.LANE.LCTL.OVR_APPLY.base / 8) = true) :
    exec (.ovrApply c l v) s = .next (ovrTake c l v.toNat (ovrFields c l v.toNat s)) :=
  (atReg_served h : execOvrApply c l v s = _).trans rfl

theorem ovrTake_keeps {P : State → Prop} (hP : Closed 0xf8000000000000000000000000000000000000000000000000000000000000000000000000000000000000000000000000000000000000001000 P) {c l v : Nat} {s : State} (h : P s) : P (ovrTake c l v s) := by
  unfold ovrTake
  have c0 := @applyOvr_keeps P (hP.mono rfl); have c1 := @set_keeps _ P hP
  exact byKeep

theorem ovrTake_bad {c l v : Nat} {s : State} (h15 : bitOf v 15 = true) (h2 : bitOf v 2 = true) (hk : coeffOk (bitsOf v 3 6) (bitsOf v 9 6) = false) :
    (ovrTake c l v s).get COL.LANE.LCTL.OVR_ERR c l = 1 := by
  unfold ovrTake
  simp only [h15, h2, hk, Bool.and_self, reduceIte, Bool.false_eq_true]
  exact get_set_fit (by decide)

theorem ovrApply_effect {c : ColId} {l : Fin 16} {v : Word} {s : State} (h : served s (COL.LANE.LCTL.OVR_APPLY.base / 8) = true) :
    ∃ t, exec (.ovrApply c l v) s = .next t ∧ t.get COL.LANE.LCTL.OVR_EN c l = bitsOf v.toNat 2 1 ∧ t.get COL.LANE.LCTL.OVR_PRE c l = bitsOf v.toNat 3 6 ∧
      t.get COL.LANE.LCTL.OVR_POST c l = bitsOf v.toNat 9 6 ∧
      (bitOf v.toNat 15 = true → bitOf v.toNat 2 = true → coeffOk (bitsOf v.toNat 3 6) (bitsOf v.toNat 9 6) = false → t.get COL.LANE.LCTL.OVR_ERR c l = 1) := by
  refine ⟨_, exec_ovrApply h, ?_, ?_, ?_, ovrTake_bad⟩ <;> rw [get_kept fun hP => ovrTake_keeps hP rfl, ovrFields] <;>
    simp (disch := decide +kernel) only [get_set_field, get_set_bits]

/-- EYECTL as a written word gives it (R45). -/
def eyeFields (c v : Nat) (s : State) : State :=
  ((((s.set COL.EYECTL.LANE (bitsOf v 0 4) c).set COL.EYECTL.EYE (bitsOf v 4 2) c).set COL.EYECTL.DWELL (bitsOf v 6 5) c).set
    COL.EYECTL.TDEC (bitsOf v 11 2) c).set COL.EYECTL.VDEC (bitsOf v 13 2) c

/-- A scan at its first point (R45). -/
def eyeFirst (c v : Nat) (s : State) : State :=
  let s := (clearEye c s).set COL.EYESTAT.POINTS 0 c
  (setCol c { colSt s c with scan := some ⟨bitsOf v 0 4, 2 ^ bitsOf v 11 2, 2 ^ bitsOf v 13 2, 0, 0, []⟩ } s).set COL.EYESTAT.STATE 1 c

/-- The part of EYE_SCAN_START behind the fields (R45). -/
def eyeTake (c v : Nat) (s : State) : State :=
  let up := match portOfLane s c (bitsOf v 0 4) with | some p => ltssm s p == 6 | none => false
  if !bitOf v 15 || (colSt s c).scan.isSome then s
  else if !up then ((clearEye c s).set COL.EYESTAT.POINTS 0 c).set COL.EYESTAT.STATE 5 c
  else if bitsOf v 4 2 = 3 || (bitsOf v 4 2 != 0 && laneRate ((clearEye c s).set COL.EYESTAT.POINTS 0 c) c (bitsOf v 0 4) != 5) then
    ((clearEye c s).set COL.EYESTAT.POINTS 0 c).set COL.EYESTAT.STATE 6 c
  else eyeFirst c v s

theorem eyeTake_eq_eyeFirst {c v p : Nat} {s : State} (h15 : bitOf v 15 = true) (hs : (colSt s c).scan = none)
    (hp : portOfLane s c (bitsOf v 0 4) = some p) (hl : ltssm s p = 6) (he : bitsOf v 4 2 = 0) : eyeTake c v s = eyeFirst c v s := by
  simp [eyeTake, h15, hs, hp, hl, he]

/-- A lane whose port is in L0 is scanned with EYE at 0 (R45). -/
theorem exec_eyeScanStart {c : ColId} {v : Word} {p : Nat} {s : State} (h : served s (COL.EYECTL.START.base / 8) = true) (h15 : bitOf v.toNat 15 = true)
    (hs : (colSt s c).scan = none) (hp : portOfLane s c (bitsOf v.toNat 0 4) = some p) (hl : ltssm s p = 6) (he : bitsOf v.toNat 4 2 = 0) :
    exec (.eyeScanStart c v) s = .next (eyeFirst c v.toNat (eyeFields c v.toNat s)) := by
  have hl' : ltssm (eyeFields c v.toNat s) p = 6 :=
    (ltssm_of (by rfl) (fun i j => by unfold eyeFields; simp (disch := decide +kernel) only [get_set_field]) p).trans hl
  rw [← eyeTake_eq_eyeFirst (s := eyeFields c v.toNat s) h15 hs ((portOfLane_of (t := eyeFields c v.toNat s) rfl _ _).trans hp) hl' he]
  exact (atReg_served h : execEyeScanStart c v s = _).trans rfl

theorem eyeScanStart_effect {c : ColId} {v : Word} {p : Nat} {s : State} (h : served s (COL.EYECTL.START.base / 8) = true) (h15 : bitOf v.toNat 15 = true)
    (hs : (colSt s c).scan = none) (hp : portOfLane s c (bitsOf v.toNat 0 4) = some p) (hl : ltssm s p = 6) (he : bitsOf v.toNat 4 2 = 0) :
    ∃ t, exec (.eyeScanStart c v) s = .next t ∧ t.get COL.EYESTAT.STATE c = 1 ∧ t.get COL.EYESTAT.POINTS c = 0 ∧ t.get COL.EYECTL.LANE c = bitsOf v.toNat 0 4 ∧
      (colSt t c).scan = some ⟨bitsOf v.toNat 0 4, 2 ^ bitsOf v.toNat 11 2, 2 ^ bitsOf v.toNat 13 2, 0, 0, []⟩ := by
  have hcol (x : ColSt) (u : State) (e : Ent) : (setCol c x u).get e c = u.get e c := rfl
  have hclr (u : State) : (clearEye c u).get COL.EYECTL.LANE c = u.get COL.EYECTL.LANE c := get_kept fun hP => clearEye_keeps hP rfl
  refine ⟨_, exec_eyeScanStart h h15 hs hp hl he, ?_, ?_, ?_, ?_⟩
  · exact get_set_fit (by decide)
  · unfold eyeFirst
    simp (disch := decide +kernel) only [get_set_field, hcol, get_set_same, Nat.zero_mod]
  · unfold eyeFirst eyeFields
    simp (disch := decide +kernel) only [get_set_field, hcol, hclr, get_set_bits]
  · unfold eyeFirst
    exact congrArg ColSt.scan ((colSt_setCol ..).trans (if_pos rfl))

theorem endScan_reads (c st : Nat) (s : State) : (endScan c st s).get COL.EYESTAT.STATE c = st % 8 ∧ (colSt (endScan c st s) c).scan = none :=
  ⟨get_set_same .., congrArg ColSt.scan ((colSt_setCol c c _ s).trans (if_pos rfl))⟩

theorem eyeScanAbort_effect {c : ColId} {v : Word} {s : State} (h : served s (COL.EYECTL.ABORT.base / 8) = true) (h16 : bitOf v.toNat 16 = true)
    (hs : (colSt s c).scan.isSome = true) :
    ∃ t, exec (.eyeScanAbort c v) s = .next t ∧ t.get COL.EYESTAT.STATE c = 6 ∧ (colSt t c).scan = none := by
  refine ⟨endScan c 6 s, (atReg_served h : execEyeScanAbort c v s = _).trans ?_, endScan_reads ..⟩
  simp only [h16, hs, Bool.and_self, reduceIte]

/-- What a scan writes of its point in progress (R46). -/
def eyePoint (c j m : Nat) (s : State) : State :=
  perf (64 + c) 0x12 1 none ((((s.set COL.EYEDATA.COUNT (min m 0xFFFFFF) c j).setB COL.EYEDATA.SAT (decide (0xFFFFFF < m)) c j).set
    COL.EYEDATA.VALID 1 c j).count COL.EYESTAT.POINTS 1 c)

/-- A scan goes on to its next point, or is done (R46). -/
def eyeNext (c : Nat) (x : Scan) (s : State) : State :=
  if x.v + x.vdec < 128 then setCol c { colSt s c with scan := some { x with v := x.v + x.vdec } } s
  else if x.t + x.tdec < 64 then setCol c { colSt s c with scan := some { x with t := x.t + x.tdec, v := 0 } } s
  else endScan c 3 s

theorem exec_eyePointDone {c : ColId} {m : Nat} {x : Scan} {s : State} (hx : (colSt s c).scan = some x) (hp : x.paused = []) :
    exec (.eyePointDone c m) s = .next (eyeNext c x (eyePoint c (x.t * 128 + x.v) m s)) := by
  show execEyePointDone c m s = _
  simp only [execEyePointDone, hx]
  exact congrArg _ (if_neg (by simp [hp]))

theorem eyeNext_keeps {P : State → Prop} (hP : Closed 0x200000000000000000000000000000000000000000000000000000000000000000000000000000000000000000000000000000000001000 P)
    {c : Nat} {x : Scan} {s : State} (h : P s) : P (eyeNext c x s) := by
  unfold eyeNext
  have c0 := @setCol_keeps P (hP.mono rfl); have c1 := @endScan_keeps P (hP.mono rfl)
  exact byKeep

theorem eyePointDone_effect {c : ColId} {m : Nat} {x : Scan} {s : State} (hx : (colSt s c).scan = some x) (hp : x.paused = []) :
    ∃ t, exec (.eyePointDone c m) s = .next t ∧ t.get COL.EYEDATA.COUNT c (x.t * 128 + x.v) = min m 0xFFFFFF ∧ t.get COL.EYEDATA.VALID c (x.t * 128 + x.v) = 1 ∧
      t.get COL.EYESTAT.POINTS c = (s.get COL.EYESTAT.POINTS c + 1) % 2 ^ 14 := by
  refine ⟨_, exec_eyePointDone hx hp, ?_, ?_, ?_⟩ <;> rw [get_kept fun hP => eyeNext_keeps hP rfl, eyePoint, get_perf (by decide +kernel)] <;>
    simp (disch := decide +kernel) only [get_count_field, get_set_field, get_setB_field, get_count_same]
  · exact get_set_fit (by simp only [COL.EYEDATA.COUNT]; omega)
  · exact get_set_fit (by decide)
  · rfl

@[simp] theorem colSt_setCol_same (c : Nat) (x : ColSt) (s : State) : colSt (setCol c x s) c = x := (colSt_setCol ..).trans (if_pos rfl)

theorem pauseScan_margined (c : Nat) (why : Pause) (s : State) : (colSt (pauseScan c why s) c).margined = (colSt s c).margined := by
  unfold pauseScan
  dsimp only
  split
  · rfl
  · show (colSt (setCol c _ s) c).margined = _
    rw [colSt_setCol_same]

/-- An offset that is answered pauses a scan of the lane and keeps the lane margined (R47). -/
theorem pauseScan_emit {b : Bool} {c l : Nat} {o : Out} {s : State} (h : l ∈ (colSt s c).margined) :
    (((if b = true then pauseScan c .margin s else s).emit o).out = s.out ++ [o]) ∧
      l ∈ (colSt ((if b = true then pauseScan c .margin s else s).emit o) c).margined := by
  cases b with
  | false => exact ⟨rfl, h⟩
  | true =>
    refine ⟨congrArg (· ++ [o]) (part_kept .out fun hP => pauseScan_keeps hP (agree_refl _ s)), ?_⟩
    show l ∈ (colSt (pauseScan c .margin s) c).margined
    rwa [pauseScan_margined]

theorem marginCommand_effect {c : ColId} {l : Fin 16} {right : Bool} {n : Nat} {s : State} (h : n ≤ 32) :
    ∃ t, exec (.marginCommand c l (.timing right n)) s = .next t ∧ t.out = s.out ++ [.margin c l true] ∧ l.val ∈ (colSt t c).margined := by
  refine ⟨_, (rfl : execMarginCommand c l (.timing right n) s = _), ?_⟩
  simp only [h, decide_true, reduceIte]
  exact pauseScan_emit (by rw [colSt_setCol_same]; exact List.mem_cons_self)

theorem columnSleepEntry_effect {c : ColId} {s : State} (h3 : s.get COL.STAT.CSTATE c = 3) (hl : s.on COL.STAT.PLL_LOCK c = true)
    (hr : sleepReady s c = true) :
    ∃ t, exec (.columnSleepEntry c) s = .next t ∧ t.get COL.STAT.PLL_LOCK c = 0 ∧ t.get COL.STAT.CSTATE c = 3 := by
  refine ⟨s.set COL.STAT.PLL_LOCK 0 c, ?_, get_set_fit (by decide), (get_set_field (by decide +kernel)).trans h3⟩
  show execColumnSleepEntry c s = _
  simp [execColumnSleepEntry, h3, hl, hr]

theorem get_setCstate (c v : Nat) (s : State) : (setCstate c v s).get COL.STAT.CSTATE c = v % 8 := get_setState_same (by decide +kernel)

theorem setCstate_ports (c v : Nat) (s : State) : (setCstate c v s).ports = s.ports := part_kept .ports fun hP => setCstate_keeps hP (agree_refl _ s)

theorem columnWake_effect {c : ColId} {p : PortId} {s : State} (h : s.get COL.STAT.CSTATE c = 4) :
    ∃ t, exec (.columnWake c p) s = .next t ∧ t.get COL.STAT.CSTATE c = 5 ∧ (portSt t p).wantTrain = true := by
  refine ⟨setCstate c 5 (wantLane p s), ?_, get_setCstate .., ?_⟩
  · show execColumnWake c p s = _
    simp only [execColumnWake, h]
  · rw [portSt_of (setCstate_ports ..), wantLane, portSt_modPort, if_pos rfl]

/-- What a port of a column does when the column becomes ACTIVE (R55, R56). -/
def pllPort (p : Nat) (s : State) : State :=
  let s := if ltssm s p = 11 then setLtssm p 10 s else s
  let x := portSt s p
  let s := if x.wantTrain then leaveL12 p (setPort p { x with wantTrain := false } s) else s
  detect p (settle p s)

theorem exec_columnPllLock {c : ColId} {s : State} (h : s.get COL.STAT.CSTATE c = 1 ∨ s.get COL.STAT.CSTATE c = 5) :
    exec (.columnPllLock c) s =
      .next (forL (colPorts ((setCstate c 2 s).set COL.STAT.PLL_LOCK 1 c) c) pllPort ((setCstate c 2 s).set COL.STAT.PLL_LOCK 1 c)) := by
  show execColumnPllLock c s = _
  simp only [execColumnPllLock, h, reduceIte]
  rfl

/-- A column is ACTIVE and has its PLL, with the configuration in force that `u` shows. -/
structure ColOn (c : Nat) (u s : State) : Prop where
  cfg : SameCfg u s
  active : s.get COL.STAT.CSTATE c = 2
  lock : s.get COL.STAT.PLL_LOCK c = 1

/-- The mask leaves the configuration in force, CSTATE and PLL_LOCK out. -/
def colOnMask (m : Nat) : Bool := outside m COL.STAT.CSTATE && outside m COL.STAT.PLL_LOCK && !m.testBit 12

theorem colOn_closed {m c : Nat} {u : State} (h : colOnMask m = true) : Closed m (ColOn c u) := by
  simp only [colOnMask, Bool.and_eq_true, Bool.not_eq_true'] at h
  obtain ⟨⟨ha, hl⟩, hb⟩ := h
  exact closed_of_agree fun hs hu => ⟨hu.cfg.trans (sameCfg_of (agree_part hs .cols hb)), (agree_get hs ha ..).trans hu.active, (agree_get hs hl ..).trans hu.lock⟩

/-- In an ACTIVE column a port that may train does so at once (R49). -/
theorem detect_of_active {c p : Nat} {q : Nat × Nat × Nat} {s : State} (hp : slotOf s p = some (c, q)) (h : s.get COL.STAT.CSTATE c = 2) :
    detect p s = s ∨
      detect p s = setPstate p 2 (setLtssm p 1 (modPort p (fun x => { x with carved := some (s.get PORT.CFG.ROLE p, s.on PORT.CFG.POOL p) }) s)) := by
  unfold detect
  split
  · refine .inr ?_
    simp only [hp, h]
  · exact .inl rfl

theorem sameCfg_leaveL12 (p : Nat) (s : State) : SameCfg s (leaveL12 p s) := by
  unfold leaveL12
  split
  · exact sameCfg_toL0 p (s.emit (.clkreq p true))
  · exact .refl s

theorem ColOn.leaveL12 {c p : Nat} {u s : State} (h : ColOn c u s) : ColOn c u (leaveL12 p s) :=
  ⟨h.cfg.trans (sameCfg_leaveL12 p s), (get_kept fun hP => leaveL12_keeps hP rfl).trans h.active, (get_kept fun hP => leaveL12_keeps hP rfl).trans h.lock⟩

theorem ColOn.pllPort {c p : Nat} {q : Nat × Nat × Nat} {u s : State} (h : ColOn c u s) (hp : slotOf u p = some (c, q)) : ColOn c u (pllPort p s) := by
  have hx (x : PortSt) {s : State} (h : ColOn c u s) : ColOn c u (setPort p x s) := ⟨h.cfg, h.active, h.lock⟩
  have hd {s : State} (h : ColOn c u s) : ColOn c u (detect p s) := by
    rcases detect_of_active (by rw [h.cfg.slotOf]; exact hp) h.active with e | e <;> rw [e]
    · exact h
    · exact setPstate_keeps (colOn_closed (by decide +kernel)) (setLtssm_keeps (colOn_closed (by decide +kernel)) (hx _ h))
  have h10 : ColOn c u (if ltssm s p = 11 then setLtssm p 10 s else s) := iteP (setLtssm_keeps (colOn_closed (by decide +kernel)) h) h
  exact hd (settle_keeps (colOn_closed (by decide +kernel)) (iteP (ColOn.leaveL12 (hx _ h10)) h10))

theorem ColOn.forL_pllPort {c : Nat} {u s : State} {l : List Nat} (hl : ∀ p ∈ l, ∃ q, slotOf u p = some (c, q)) (h : ColOn c u s) :
    ColOn c u (forL l Machine.pllPort s) := by
  induction l generalizing s with
  | nil => exact h
  | cons p l ih =>
    obtain ⟨q, hq⟩ := hl p List.mem_cons_self
    exact ih (fun p hp => hl p (List.mem_cons_of_mem _ hp)) (h.pllPort hq)

/-- The ports of a column lie in it (R34). -/
theorem slotOf_of_mem_colPorts {s : State} {c p : Nat} (h : p ∈ colPorts s c) : ∃ q, slotOf s p = some (c, q) := by
  have := (List.mem_filter.1 h).2
  split at this
  · next c' q hq =>
    rw [beq_iff_eq] at this
    exact ⟨q, this ▸ hq⟩
  · cases this

theorem columnPllLock_effect {c : ColId} {s : State} (h : s.get COL.STAT.CSTATE c = 1 ∨ s.get COL.STAT.CSTATE c = 5) :
    ∃ t, exec (.columnPllLock c) s = .next t ∧ t.get COL.STAT.CSTATE c = 2 ∧ t.get COL.STAT.PLL_LOCK c = 1 := by
  have h0 : ColOn c ((setCstate c 2 s).set COL.STAT.PLL_LOCK 1 c) ((setCstate c 2 s).set COL.STAT.PLL_LOCK 1 c) :=
    ⟨.refl _, by rw [get_set_field (by decide +kernel), get_setCstate], get_set_fit (by decide)⟩
  obtain ⟨-, hc, hl⟩ := h0.forL_pllPort fun p hp => slotOf_of_mem_colPorts hp
  exact ⟨_, exec_columnPllLock h, hc, hl⟩

/-- Settles O14, command by command. -/
theorem columnEffects : Obligations.ColumnEffects :=
  ⟨fun _ _ _ h => colApply_holds_fields h, elasticBufferOverrun_counts,
    fun _ _ _ _ _ _ _ hp hl ho hk hm =>
      have r := setCoeff_reads hk
      ⟨_, coeffRequest_takes hp hl ho hk hm, r.1, r.2.1.trans (by omega), r.2.2, rfl⟩,
    fun _ _ _ _ h => ovrApply_effect h, fun _ _ _ _ h h15 hs hp hl he => eyeScanStart_effect h h15 hs hp hl he,
    fun _ _ _ h h16 hs => eyeScanAbort_effect h h16 hs, fun _ _ _ _ hx hp => eyePointDone_effect hx hp, fun _ _ _ _ _ h => marginCommand_effect h,
    fun _ _ h3 hl hr => columnSleepEntry_effect h3 hl hr, fun _ _ _ h => columnWake_effect h, fun _ _ h => columnPllLock_effect h⟩

end Sys2Proof.Machine
end

section
/-! PROOF. What training commands do (R38, R41, R47 to R53), and that a port that is lost flushes (R74). -/

namespace Sys2Proof.Machine

set_option Elab.async false

theorem get_setPstate (p v : Nat) (s : State) : pstate (setPstate p v s) p = v % 8 := get_setState_same (by decide +kernel)

theorem setPstate_portSt (p v p' : Nat) (s : State) : portSt (setPstate p v s) p' = portSt s p' :=
  portSt_of (part_kept .ports fun hP => setPstate_keeps hP (agree_refl _ s)) p'

theorem pstate_of_isUp {s : State} {p : Nat} (h : isUp s p = true) : pstate s p = 3 := by simpa [isUp] using h

/-- A port that is UP is FLUSHING once it is lost (R74). -/
theorem pstate_lose {s : State} {p : Nat} (h : isUp s p = true) (why : Loss) (detail : Nat) (r : Bool) : pstate (lose p why detail r s) p = 4 := by
  have h4 (u : State) : pstate (voidDec 2 p (quickEnd p (scanLost p (setPstate p 4 u)))) p = 4 :=
    voidDec_keeps (pstate_closed (Q := (· = 4))) (quickEnd_keeps (pstate_closed (Q := (· = 4))) (scanLost_keeps (pstate_closed (Q := (· = 4))) (get_setPstate p 4 u)))
  have hm {f : PortSt → PortSt} {u : State} (hu : pstate u p = 4) : pstate (drainIngress p (drainEgress p (drainTags p (modPort p f u)))) p = 4 :=
    drainIngress_keeps (pstate_closed (Q := (· = 4))) (drainEgress_keeps (pstate_closed (Q := (· = 4))) (drainTags_keeps (pstate_closed (Q := (· = 4))) hu))
  unfold lose
  rw [if_neg (by simp [h])]
  refine iteP (P := fun u => pstate u p = 4) (hostLost_keeps (pstate_closed (Q := (· = 4))) (hm (h4 _))) ?_
  exact iteP (P := fun u => pstate u p = 4) (poolLost_keeps (pstate_closed (Q := (· = 4))) (hm (h4 _))) (hm (h4 _))

theorem receiveSymbolError_counts {c : ColId} {l : LaneSymbol} {s : State} (h : l.fts = false ∨ codingOf (laneRate s c l.lane) ≠ .c8b10b) :
    ∃ t, exec (.receiveSymbolError c l) s = .next t ∧ t.get COL.LANE.LERR.CODE_ERR c l.lane = satAdd 0xFFFF (s.get COL.LANE.LERR.CODE_ERR c l.lane) 1 := by
  refine ⟨laneError c l.lane s, ?_, laneError_get ..⟩
  show execReceiveSymbolError c l s = _
  unfold execReceiveSymbolError
  rw [if_neg (by rcases h with h | h <;> simp [h])]

theorem setLtssm_cols (p v : Nat) (s : State) : (setLtssm p v s).cols = s.cols := part_kept .cols fun hP => setLtssm_keeps hP (agree_refl _ s)

theorem slotOf_of_ltssm {s : State} {p : Nat} (h : ltssm s p ≠ 0) : (slotOf s p).isSome = true := by
  unfold ltssm at h
  split at h
  · next hq => rw [hq]; rfl
  · exact absurd rfl h

/-- A port shows the LTSSM state that it enters. -/
theorem ltssm_setLtssm {p v : Nat} {s : State} (h : (slotOf s p).isSome = true) : ltssm (setLtssm p v s) p = v % 2 ^ COL.TRN.TRNSTAT.LTSSM.w := by
  obtain ⟨⟨c, k, r⟩, hq⟩ := Option.isSome_iff_exists.1 h
  rw [ltssm, (sameCfg_of (setLtssm_cols p v s)).slotOf, hq, setLtssm, hq]
  exact get_set_same ..

/-- A property of the LTSSM state that a port shows survives what leaves the configuration in force and LTSSM alone. -/
theorem ltssm_closed {m p : Nat} {Q : Nat → Prop} (hb : m.testBit 12 = false := by decide +kernel)
    (h : outside m COL.TRN.TRNSTAT.LTSSM = true := by decide +kernel) : Closed m (fun u => Q (ltssm u p)) :=
  closed_of_agree fun ha hq => by rwa [ltssm_of (agree_part ha .cols hb) (agree_get ha h)]

theorem ltssm_pauseScan (c : Nat) (why : Pause) (s : State) (p : Nat) : ltssm (pauseScan c why s) p = ltssm s p :=
  (sameCfg_pauseScan c why s).ltssm (fun _ _ => get_kept fun hP => pauseScan_keeps hP rfl) p

/-- What follows the new LTSSM state on the way to Recovery. -/
theorem toRecovery_rest {P : State → Prop} {p v : Nat} {s : State} (c0 : ∀ {i u}, P u → P (perf i 0x11 1 none u))
    (c1 : ∀ {ls u}, P u → P (lockLanes false ls u)) (c2 : ∀ {c u}, P u → P (pauseScan c .recovery u)) (h : P (setLtssm p v s)) : P (toRecovery p v s) := by
  unfold toRecovery
  exact byKeep

theorem ltssm_toRecovery {p v : Nat} {s : State} (h : (slotOf s p).isSome = true) (hv : v < 2 ^ COL.TRN.TRNSTAT.LTSSM.w) : ltssm (toRecovery p v s) p = v :=
  toRecovery_rest (P := fun u => ltssm u p = v) (perf_keeps (ltssm_closed (Q := (· = v)))) (lockLanes_keeps (ltssm_closed (Q := (· = v))))
    (fun h => (ltssm_pauseScan ..).trans h) ((ltssm_setLtssm h).trans (Nat.mod_eq_of_lt hv))

theorem linkRecovery_enters {p : PortId} {s : State} (hu : isUp s p = true) (hl : ltssm s p = 6) :
    ∃ t, exec (.linkRecovery p .enter) s = .next t ∧ ltssm t p = 4 := by
  refine ⟨toRecovery p 4 s, ?_, ltssm_toRecovery (slotOf_of_ltssm (by simp [hl])) (by decide)⟩
  show execLinkRecovery p .enter s = _
  simp [execLinkRecovery, hu, hl]

theorem linkRecovery_equalizes {p : PortId} {s : State} (hu : isUp s p = true) (hl : ltssm s p = 4) :
    ∃ t, exec (.linkRecovery p .equalize) s = .next t ∧ ltssm t p = 5 := by
  refine ⟨toRecovery p 5 s, ?_, ltssm_toRecovery (slotOf_of_ltssm (by simp [hl])) (by decide)⟩
  show execLinkRecovery p .equalize s = _
  simp [execLinkRecovery, hu, hl]

/-- Lanes at rest keep the LTSSM state of their port. -/
theorem ltssm_idleLanes (p w : Nat) (s : State) : ltssm (idleLanes p w s) p = ltssm s p := by
  have hc : SameCfg s (idleLanes p w s) := by
    have h1 : SameCfg s (freeze ((portSt s p).used.drop w) s) := sameCfg_of (part_kept .cols fun hP => freeze_keeps hP (agree_refl _ s))
    unfold idleLanes
    dsimp only
    split
    · split
      · split
        · exact h1.trans (sameCfg_endScan _ _ _)
        · exact h1
      · exact h1
    · exact h1
  exact hc.ltssm (fun _ _ => get_kept fun hP => idleLanes_keeps hP rfl) p

theorem linkPowerStateChange_enters {p : PortId} {g : LinkNeg} {s : State} (hu : isUp s p = true) (hl : ltssm s p = 6) (hg : (portSt s p).neg = some g) :
    ∃ t, exec (.linkPowerStateChange p .l1) s = .next t ∧ ltssm t p = 8 := by
  refine ⟨idleLanes p 0 (setLtssm p 8 s), ?_, ?_⟩
  · show execLinkPowerStateChange p .l1 s = _
    simp [execLinkPowerStateChange, hu, hl, powerAllowed, hg]
  · rw [ltssm_idleLanes]
    exact ltssm_setLtssm (slotOf_of_ltssm (by simp [hl]))

theorem eqFail_notes {p : PortId} {rate : Fin 6} {s : State} (h : pstate s p = 3) :
    ∃ t, exec (.eqFail p rate) s = .next t ∧
      ((portSt s p).eqFails.contains rate.val = false → (portSt t p).eqFails = rate.val :: (portSt s p).eqFails) ∧
      ((portSt s p).eqFails.contains rate.val = true → (portSt t p).rateCap = some (rate.val - 1)) := by
  refine ⟨_, (rfl : execEqFail p rate s = _), ?_, ?_⟩ <;> intro hr <;> simp only [h, hr, bne_self_eq_false, Bool.false_eq_true, reduceIte]
  · simp only [portSt_setPort, reduceIte]
  · refine report_keeps (portSt_closed (Q := fun x => x.rateCap = _)) (setTrn_keeps (portSt_closed (Q := fun x => x.rateCap = _)) (fun _ _ _ _ h => h) ?_)
    simp only [portSt_setPort, reduceIte]

theorem trainingAttemptFail_waits {p : PortId} {s : State} (h : pstate s p = 2) :
    ∃ t, exec (.trainingAttemptFail p) s = .next t ∧ pstate t p = 1 ∧ (portSt t p).waitRetry = true := by
  refine ⟨_, (rfl : execTrainingAttemptFail p s = _), ?_⟩
  simp only [h, reduceIte]
  exact ⟨get_setPstate .., by rw [setPstate_portSt, portSt_modPort, if_pos rfl]⟩

/-- A port that enters Detect, or waits for its column, still waits for no retry. -/
theorem detect_waitRetry {p : Nat} {s : State} (h : (portSt s p).waitRetry = false) : (portSt (detect p s) p).waitRetry = false := by
  have hc {m : Nat} (hb : m.testBit 13 = false) : Closed m (fun u => (portSt u p).waitRetry = false) := portSt_closed (Q := (·.waitRetry = false)) hb
  have hw {u : State} (h : (portSt u p).waitRetry = false) : (portSt (wantLane p u) p).waitRetry = false := by
    rw [wantLane, portSt_modPort, if_pos rfl]
    exact h
  have hgo {u : State} (h : (portSt u p).waitRetry = false) (f : State → PortSt → PortSt) (hf : ∀ x, (f u x).waitRetry = x.waitRetry) :
      (portSt (setPstate p 2 (setLtssm p 1 (modPort p (f u) u))) p).waitRetry = false := by
    refine setPstate_keeps (hc rfl) (setLtssm_keeps (hc rfl) ?_)
    rw [portSt_modPort, if_pos rfl, hf]
    exact h
  unfold detect
  split
  · split
    · exact h
    · dsimp only
      split
      · exact hgo h (fun u x => { x with carved := some (u.get PORT.CFG.ROLE p, u.on PORT.CFG.POOL p) }) fun _ => rfl
      · split
        · exact hgo (setCstate_keeps (hc rfl) h) (fun u x => { x with carved := some (u.get PORT.CFG.ROLE p, u.on PORT.CFG.POOL p) }) fun _ => rfl
        · exact hw h
      · exact hw (setCstate_keeps (hc rfl) h)
      · exact hw h
  · exact h

theorem retryIntervalExpiry_ends {p : PortId} {s : State} (h1 : pstate s p = 1) (hw : (portSt s p).waitRetry = true) (hd : heldDec s 3 p = none)
    (hr : getTrn s COL.TRN.TRNCTL.RETRY_INT p ≠ 0) :
    ∃ t, exec (.retryIntervalExpiry p) s = .next t ∧ (portSt t p).waitRetry = false := by
  refine ⟨_, (rfl : execRetryIntervalExpiry p s = _), ?_⟩
  simp only [h1, hw, hd, bne_iff_ne.2 hr, decide_true, Option.isNone_none, Bool.and_self, reduceIte]
  exact detect_waitRetry (by rw [portSt_modPort, if_pos rfl])

/-- No quick eye scan of a port is under way (R47). -/
def quiet (p : Nat) (s : State) : Prop := (portSt s p).quickEye = false

theorem quiet_closed {m p : Nat} (h : m.testBit 13 = false := by decide +kernel) : Closed m (quiet p) := portSt_closed (Q := (·.quickEye = false)) h

theorem quiet_modPort {p : Nat} {f : PortSt → PortSt} {s : State} (h : quiet p s) (hf : ∀ x, (f x).quickEye = x.quickEye) : quiet p (modPort p f s) := by
  rw [quiet, portSt_modPort, if_pos rfl, hf]
  exact h

theorem quiet_setTrn {p v : Nat} {e : Ent} {s : State} (h : quiet p s) : quiet p (setTrn e p v s) :=
  setTrn_keeps quiet_closed (fun _ _ _ _ h => h) h

theorem quiet_emit {p : Nat} {o : Out} {s : State} (h : quiet p s) : quiet p (s.emit o) := h

theorem quiet_recordFinal {p : Nat} {s : State} (h : quiet p s) : quiet p (recordFinal p s) := by
  unfold recordFinal
  refine quiet_setTrn (quiet_modPort ?_ fun _ => rfl)
  exact forL_keeps (m := 0) quiet_closed (fun _ _ _ h => h) h

theorem quiet_redoEq {p : Nat} {k : Option Nat} {s : State} (h : quiet p s) : quiet p (redoEq p k s) := by
  have h1 : quiet p (setTrn COL.TRN.TRNSTAT.EQ_HELD p 0 (toRecovery p 5 (setPort p { portSt s p with redos := (portSt s p).redos + 1 } s))) := by
    refine quiet_setTrn (toRecovery_keeps quiet_closed ?_)
    rw [quiet, portSt_setPort, if_pos rfl]
    exact h
  unfold redoEq
  dsimp only
  split
  · exact quiet_emit h1
  · exact quiet_emit h1
  · exact h1

theorem quiet_eqHardware {p : Nat} {s : State} (h : quiet p s) : quiet p (eqHardware p s) := by
  have h1 : quiet p (modPort p (fun x => { x with tried := x.tried ++ [eqSet s p] }) s) := quiet_modPort h fun _ => rfl
  unfold eqHardware
  exact iteP (quiet_recordFinal h) (iteP (quiet_redoEq h1) (report_keeps quiet_closed (quiet_recordFinal (takeSet_keeps quiet_closed h1))))

theorem quiet_quickEnd (p : Nat) (s : State) : quiet p (quickEnd p s) := by
  have h : quiet p (modPort p (fun x => { x with quickEye := false }) s) := by rw [quiet, portSt_modPort, if_pos rfl]
  unfold quickEnd
  dsimp only
  split
  · exact resumeScan_keeps quiet_closed h
  · exact h

theorem quickEyeDone_ends {p : PortId} {eyes : List EyeResult} {s : State} (hq : (portSt s p).quickEye = true)
    (hm : (lanesOf s p).any (fun q => (colSt s q.1).margined.contains q.2) = false) :
    ∃ t, exec (.quickEyeDone p eyes) s = .next t ∧ (portSt t p).quickEye = false := by
  refine ⟨_, (rfl : execQuickEyeDone p eyes s = _), ?_⟩
  simp only [hq, hm, Bool.not_true, Bool.or_self, Bool.false_eq_true, reduceIte]
  exact iteP (P := quiet p) (quiet_setTrn (reachPoint_keeps quiet_closed (quiet_quickEnd ..)))
    (quiet_eqHardware (reachPoint_keeps quiet_closed (quiet_quickEnd ..)))

/-- A port UP that a write of TRNCTL retrains in its own slot (R50). -/
theorem settleTrain_of_up {p : Nat} {s : State} (h : pstate s p = 3) : settleTrain p s = s := by
  have h1 : settle p s = s := by simp [settle, h]
  simp [settleTrain, h1, h]

/-- TRNCTL as a written word gives it (R50). -/
def trnFields (c k v : Nat) (s : State) : State :=
  (((s.set COL.TRN.TRNCTL.EN (bitsOf v 0 1) c k).set COL.TRN.TRNCTL.REV_FORCE (bitsOf v 2 2) c k).set COL.TRN.TRNCTL.SRIS (bitsOf v 4 1) c k).set
    COL.TRN.TRNCTL.RETRY_INT (bitsOf v 5 8) c k

/-- A write of TRNCTL beyond its fields (R50). -/
def trnTake (c k v : Nat) (s : State) : State :=
  let p := portOfSlot c k
  match slotOf s p with
  | none => s
  | some (c', k', _) =>
    if c' != c || k' != k then s
    else
      let s := settleTrain p s
      if !bitOf v 1 then s
      else if isUp s p then modPort p (fun x => { x with retrain := true }) (lose p .orderly 0 false s)
      else if pstate s p = 4 then modPort p (fun x => { x with retrain := true }) s
      else
        let s := modPort p (fun x => { x with rateCap := none, waitRetry := false }) s
        if pstate s p = 2 then setLtssm p 1 s else detect p s

theorem trnWrite_eq (c k v : Nat) (s : State) : trnWrite c k v s = trnTake c k v (trnFields c k v s) := rfl

theorem trnTake_keeps {P : State → Prop} (hP : Closed 0xc000007fffffc0020602fca180c0000000000000000002000000000001800000201fe0001f9c0c500000100ff00e301c20400000000102000400000000000000000000a22000010000003ffc100000404200000000000000000000003000000000000000041e00008c043bf7f3cc P) {c k v : Nat} {s : State} (h : P s) : P (trnTake c k v s) := by
  unfold trnTake
  have c0 := @settleTrain_keeps P (hP.mono rfl); have c1 := @lose_keeps P (hP.mono rfl); have c2 := @modPort_keeps P (hP.mono rfl)
  have c3 := @setLtssm_keeps P (hP.mono rfl); have c4 := @detect_keeps P (hP.mono rfl)
  exact byKeep

theorem trnWrite_fields (c k v : Nat) (s : State) : (trnWrite c k v s).get COL.TRN.TRNCTL.EN c k = bitsOf v 0 1 ∧
    (trnWrite c k v s).get COL.TRN.TRNCTL.REV_FORCE c k = bitsOf v 2 2 ∧ (trnWrite c k v s).get COL.TRN.TRNCTL.SRIS c k = bitsOf v 4 1 ∧
    (trnWrite c k v s).get COL.TRN.TRNCTL.RETRY_INT c k = bitsOf v 5 8 := by
  have hr {e : Ent} {x : Nat} (he : outside 0xc000007fffffc0020602fca180c0000000000000000002000000000001800000201fe0001f9c0c500000100ff00e301c20400000000102000400000000000000000000a22000010000003ffc100000404200000000000000000000003000000000000000041e00008c043bf7f3cc e = true) (h : (trnFields c k v s).get e c k = x) : (trnWrite c k v s).get e c k = x :=
    trnTake_keeps (field_closed he c k (· = x)) h
  refine ⟨hr (by decide +kernel) ?_, hr (by decide +kernel) ?_, hr (by decide +kernel) ?_, hr (by decide +kernel) ?_⟩ <;> unfold trnFields <;>
    simp (disch := decide +kernel) only [get_set_field, get_set_bits]

theorem trnWrite_retrains {c k v : Nat} {q : Nat × Nat} {s : State} (hu : isUp s (portOfSlot c k) = true) (hq : slotOf s (portOfSlot c k) = some (c, k, q))
    (h1 : bitOf v 1 = true) :
    (portSt (trnWrite c k v s) (portOfSlot c k)).retrain = true ∧ pstate (trnWrite c k v s) (portOfSlot c k) = 4 := by
  have hu' : isUp (trnFields c k v s) (portOfSlot c k) = true := by
    rw [isUp, pstate, trnFields]
    simp (disch := decide +kernel) only [get_set_field]
    exact hu
  have he : trnWrite c k v s = modPort (portOfSlot c k) (fun x => { x with retrain := true }) (lose (portOfSlot c k) .orderly 0 false (trnFields c k v s)) := by
    have hq' : slotOf (trnFields c k v s) (portOfSlot c k) = some (c, k, q) := hq
    simp [trnWrite_eq, trnTake, hq', settleTrain_of_up (pstate_of_isUp hu'), h1, hu']
  rw [he]
  exact ⟨by rw [portSt_modPort, if_pos rfl], pstate_lose hu' ..⟩

/-- The entry to L0 at a rate (R49). -/
theorem toL0_at_rate {p r : Nat} {s : State} (h : (slotOf s p).isSome = true) (hr : r < 2 ^ COL.TRN.TRNSTAT.RATE.w) :
    SameCfg s (toL0 p (setTrn COL.TRN.TRNSTAT.RATE p r s)) ∧ getTrn (toL0 p (setTrn COL.TRN.TRNSTAT.RATE p r s)) COL.TRN.TRNSTAT.RATE p = r ∧
      ltssm (toL0 p (setTrn COL.TRN.TRNSTAT.RATE p r s)) p = 6 ∧ portSt (toL0 p (setTrn COL.TRN.TRNSTAT.RATE p r s)) p = portSt s p := by
  have hset : SameCfg s (setTrn COL.TRN.TRNSTAT.RATE p r s) := sameCfg_of (part_kept .cols (m := 2 ^ fieldBit COL.TRN.TRNSTAT.RATE) fun hP =>
    setTrn_keeps (hP.mono (by decide +kernel)) (fun _ _ _ _ => set_keeps hP (by decide +kernel)) (agree_refl _ s))
  have hports : portSt (setTrn COL.TRN.TRNSTAT.RATE p r s) p = portSt s p := portSt_of (part_kept .ports (m := 2 ^ fieldBit COL.TRN.TRNSTAT.RATE) fun hP =>
    setTrn_keeps (hP.mono (by decide +kernel)) (fun _ _ _ _ => set_keeps hP (by decide +kernel)) (agree_refl _ s)) p
  have hc := hset.trans (sameCfg_toL0 p _)
  refine ⟨hc, ?_, ltssm_toL0 (by rwa [hset.slotOf]), ?_⟩
  · obtain ⟨⟨c, k, q⟩, hq⟩ := Option.isSome_iff_exists.1 h
    rw [getTrn, hc.slotOf, hq]
    refine toL0_keeps (field_closed (by decide +kernel) c k (· = r)) ?_
    rw [setTrn, hq]
    exact get_set_fit hr
  · exact (portSt_of (part_kept .ports fun hP => toL0_keeps hP (agree_refl _ _)) p).trans hports

theorem sameCfg_quickStart (p : Nat) (s : State) : SameCfg s (quickStart p s) := by
  unfold quickStart
  dsimp only
  split
  · exact sameCfg_pauseScan _ _ (modPort p _ s)
  · exact .refl s

theorem portSt_quickStart (p : Nat) (s : State) : portSt (quickStart p s) p = { portSt s p with quickEye := true } := by
  have h1 : portSt (modPort p (fun x => { x with quickEye := true }) s) p = { portSt s p with quickEye := true } := by rw [portSt_modPort, if_pos rfl]
  unfold quickStart
  dsimp only
  split
  · exact (portSt_of (part_kept .ports fun hP => pauseScan_keeps hP (agree_refl _ _)) p).trans h1
  · exact h1

theorem topRate_of {s t : State} (h : SameCfg s t) {p : Nat} (hn : (portSt t p).neg = (portSt s p).neg) (hr : (portSt t p).rateCap = (portSt s p).rateCap) :
    topRate t p = topRate s p := by
  unfold topRate maxRate
  rw [hn, hr, h.slotOf]
  split
  · rfl
  · rw [h]

/-- The port as EQ_COMPLETE leaves it before L0 (R49). -/
def eqDone (p : Nat) (e : EqDone) (s : State) : State :=
  let x := portSt s p
  let kept := finalKept s p && x.finalRate == e.rate.val
  let tx := decide (4 ≤ e.rate.val) && e.precode
  let rx := e.rate.val == 5 && (match slotOf s p with | some (c, _) => bitOf (colSt s c).cfg 6 | none => false)
  let s := setPort p { x with eqFails := x.eqFails.filter (· != e.rate.val), ranking := if kept then x.ranking else e.ranking.map (·.val),
                              precodeTx := tx, precodeRx := rx } s
  if 4 ≤ e.rate.val then s.emit (.precoding p tx rx) else s

theorem eqDone_port (p : Nat) (e : EqDone) (s : State) : SameCfg s (eqDone p e s) ∧ e.rate.val ∉ (portSt (eqDone p e s) p).eqFails ∧
    (portSt (eqDone p e s) p).neg = (portSt s p).neg ∧ (portSt (eqDone p e s) p).rateCap = (portSt s p).rateCap := by
  unfold eqDone
  dsimp only
  have h {x : PortSt} {o : Out} : portSt (if 4 ≤ e.rate.val then (setPort p x s).emit o else setPort p x s) p = x :=
    iteP (P := fun u => portSt u p = x) ((portSt_setPort ..).trans (if_pos rfl)) ((portSt_setPort ..).trans (if_pos rfl))
  rw [h]
  exact ⟨iteP (P := SameCfg s) (.refl s) (.refl s), by simp, rfl, rfl⟩

theorem exec_eqComplete {p : PortId} {e : EqDone} {s : State} (hu : pstate s p = 3) (hl : ltssm s p = 5) (hr : e.rate.val ≤ topRate s p) :
    exec (.eqComplete p e) s =
      .next (if e.rate.val = topRate (toL0 p (setTrn COL.TRN.TRNSTAT.RATE p e.rate (eqDone p e s))) p && !(finalKept s p && (portSt s p).finalRate == e.rate.val)
        then quickStart p (toL0 p (setTrn COL.TRN.TRNSTAT.RATE p e.rate (eqDone p e s))) else toL0 p (setTrn COL.TRN.TRNSTAT.RATE p e.rate (eqDone p e s))) := by
  show execEqComplete p e s = _
  unfold execEqComplete
  dsimp only
  rw [if_neg (by simp [hu, hl, hr])]
  rfl

theorem eqComplete_enters {p : PortId} {e : EqDone} {s : State} (hu : pstate s p = 3) (hl : ltssm s p = 5) (hr : e.rate.val ≤ topRate s p) :
    ∃ t, exec (.eqComplete p e) s = .next t ∧ getTrn t COL.TRN.TRNSTAT.RATE p = e.rate ∧ ltssm t p = 6 ∧ e.rate.val ∉ (portSt t p).eqFails ∧
      (e.rate.val = topRate s p → finalKept s p = false → (portSt t p).quickEye = true) := by
  obtain ⟨hd, hf, hn, hcap⟩ := eqDone_port p e s
  have hs : (slotOf (eqDone p e s) p).isSome = true := by rw [hd.slotOf]; exact slotOf_of_ltssm (by simp [hl])
  obtain ⟨hc, hrate, hl6, hp⟩ := toL0_at_rate (r := e.rate) hs (e.rate.isLt.trans (by decide))
  refine ⟨_, exec_eqComplete hu hl hr, ?_⟩
  rw [topRate_of (hd.trans hc) (by rw [hp, hn]) (by rw [hp, hcap])]
  rw [← hp] at hf
  revert hrate hl6 hf
  generalize toL0 p (setTrn COL.TRN.TRNSTAT.RATE p e.rate (eqDone p e s)) = u
  intro hf hrate hl6
  split
  · refine ⟨?_, ?_, ?_, fun _ _ => ?_⟩
    · rwa [(sameCfg_quickStart p u).getTrn fun _ _ => get_kept fun hP => quickStart_keeps hP rfl]
    · rwa [(sameCfg_quickStart p u).ltssm fun _ _ => get_kept fun hP => quickStart_keeps hP rfl]
    · rwa [portSt_quickStart]
    · rw [portSt_quickStart]
  · next hq =>
    refine ⟨hrate, hl6, hf, fun h1 h2 => absurd ?_ hq⟩
    simp [h1, h2]

/-- Settles O15, command by command. -/
theorem trainingEffects : Obligations.TrainingEffects :=
  ⟨fun _ _ _ h => receiveSymbolError_counts h, fun _ _ _ hu hl hr => eqComplete_enters hu hl hr, fun _ _ _ h => eqFail_notes h,
    fun _ _ _ hq hm _ => quickEyeDone_ends hq hm, fun _ _ h => trainingAttemptFail_waits h, fun _ _ h1 hw hd hr => retryIntervalExpiry_ends h1 hw hd hr,
    fun c k v s h =>
      have f := trnWrite_fields c k v.toNat s
      ⟨trnWrite c k v.toNat s, (atReg_served h : execRetrain c k v s = _).trans rfl, f.1, f.2.1, f.2.2.1, f.2.2.2, fun hu hq h1 => trnWrite_retrains hu hq h1⟩,
    fun _ _ hu hl => linkRecovery_enters hu hl, fun _ _ hu hl => linkRecovery_equalizes hu hl, fun _ _ _ hu hl hg => linkPowerStateChange_enters hu hl hg⟩

end Sys2Proof.Machine
end

section
/-! PROOF. What port commands do beside the ingress pipeline (R61, R70, R71, R74, R76). -/

namespace Sys2Proof.Machine

set_option Elab.async false

theorem portCfgWrite_effect {p : PortId} {v : Word} {s : State} (hs : served s (PORT.CFG.ROLE.base / 8) = true) (hx : behindX16 s p = false) :
    ∃ t, exec (.portCfgWrite p v) s = .next t ∧
      (cfgBad s p v.toNat = true → t.get PORT.STAT.CFG_ERR p = 1 ∧ t.get PORT.CFG.ROLE p = s.get PORT.CFG.ROLE p) ∧
      (cfgBad s p v.toNat = false → t.get PORT.CFG.ROLE p = bitsOf v.toNat 0 2 ∧ t.get PORT.CFG.CXL_EN p = bitsOf v.toNat 2 1 ∧
        t.get PORT.CFG.POOL p = bitsOf v.toNat 8 1) := by
  refine ⟨portCfg p v.toNat s, (atReg_served hs : execPortCfgWrite p v s = _).trans rfl, ?_, ?_⟩ <;> intro hb <;>
    simp only [portCfg, hx, hb, Bool.false_eq_true, reduceIte]
  · exact ⟨get_set_fit (by decide), get_set_field (by decide +kernel)⟩
  · refine ⟨?_, ?_, ?_⟩ <;> rw [get_kept fun hP => settleTrain_keeps hP rfl] <;> simp only [putWord, forL, List.foldl] <;>
      simp (disch := decide +kernel) only [get_set_field, get_set_same] <;> exact Nat.mod_eq_of_lt (bitsOf_lt ..)

theorem tagcfgWrite_effect {p : PortId} {v : Word} {s : State} (hs : served s (PORT.TAGCFG.RSV_IO.base / 8) = true) (hx : behindX16 s p = false) :
    ∃ t, exec (.tagcfgWrite p v) s = .next t ∧
      (992 < bitsOf v.toNat 0 10 + bitsOf v.toNat 10 10 + bitsOf v.toNat 20 10 →
        t.get PORT.STAT.CFG_ERR p = 1 ∧ t.get PORT.TAGCFG.RSV_IO p = s.get PORT.TAGCFG.RSV_IO p) ∧
      (bitsOf v.toNat 0 10 + bitsOf v.toNat 10 10 + bitsOf v.toNat 20 10 ≤ 992 → t.get PORT.TAGCFG.RSV_IO p = bitsOf v.toNat 0 10 ∧
        t.get PORT.TAGCFG.RSV_MEM p = bitsOf v.toNat 10 10 ∧ t.get PORT.TAGCFG.RSV_CACHE p = bitsOf v.toNat 20 10) := by
  refine ⟨tagCfg p v.toNat s, (atReg_served hs : execTagcfgWrite p v s = _).trans rfl, ?_, ?_⟩ <;> intro hb
  · simp only [tagCfg, hx, hb, Bool.false_eq_true, reduceIte]
    exact ⟨get_set_fit (by decide), get_set_field (by decide +kernel)⟩
  · simp only [tagCfg, hx, Nat.not_lt.2 hb, Bool.false_eq_true, reduceIte]
    refine ⟨?_, ?_, ?_⟩ <;> simp (disch := decide +kernel) only [get_set_field, get_set_bits]

/-- What a port does once it shows UP leaves it UP (R74). -/
theorem pstate_portUp (p : Nat) (n : LinkNeg) (us : List (Nat × Nat)) (s : State) : pstate (portUp p n us s) p = 3 := by
  unfold portUp
  have c0 := @egressUp_keeps (fun u => pstate u p = 3) (pstate_closed (Q := (· = 3)))
  have c1 := @advertise_keeps (fun u => pstate u p = 3) (pstate_closed (Q := (· = 3)))
  have c2 := @quickStart_keeps (fun u => pstate u p = 3) (pstate_closed (Q := (· = 3)))
  have c3 := @restateAll_keeps (fun u => pstate u p = 3) (pstate_closed (Q := (· = 3)))
  have c4 := @noteSuspended_keeps (fun u => pstate u p = 3) (pstate_closed (Q := (· = 3)))
  have c5 := @poolUp_keeps (fun u => pstate u p = 3) (pstate_closed (Q := (· = 3)))
  have c6 := @modPort_keeps (fun u => pstate u p = 3) (pstate_closed (Q := (· = 3)))
  have h (u : State) : pstate (advertise p ((egressUp p (setPstate p 3 u)).emit (.tPowerOn p (powerOnUs (egressUp p (setPstate p 3 u)) p)))) p = 3 :=
    c1 (c0 (get_setPstate p 3 u))
  have h' {b : Prop} [Decidable b] {u : State} (hu : pstate u p = 3) : pstate (if b then quickStart p u else u) p = 3 :=
    iteP (P := fun u => pstate u p = 3) (c2 hu) hu
  refine iteP (P := fun u => pstate u p = 3) (c4 (c3 (iteP (P := fun u => pstate u p = 3) (c6 (h' (h _))) (h' (h _))))) ?_
  exact iteP (P := fun u => pstate u p = 3) (c5 (h' (h _))) (h' (h _))

theorem portUp_effect {p : PortId} {n : LinkNeg} {s : State} (h2 : pstate s p = 2) (hs : s.safe = false) (hl : s.live = true)
    (ht : trainLanes (lanesOf s p) n ≠ []) : ∃ t, exec (.portUp p n) s = .next t ∧ pstate t p = 3 := by
  obtain ⟨u, us, he⟩ := List.exists_cons_of_ne_nil ht
  refine ⟨portUp p n (u :: us) s, ?_, pstate_portUp ..⟩
  show execPortUp p n s = _
  simp [execPortUp, h2, hs, hl, he]

/-- A port that is UP or FLUSHING is FLUSHING after a loss. -/
theorem pstate_lose_of {s : State} {p : Nat} (h : pstate s p = 3 ∨ pstate s p = 4) (why : Loss) (detail : Nat) (r : Bool) : pstate (lose p why detail r s) p = 4 := by
  rcases h with h | h
  · exact pstate_lose (by simp [isUp, h]) ..
  · unfold lose
    rwa [if_pos (by simp [isUp, h])]

theorem pstate_loseIn {s : State} {p : Nat} (h : pstate s p = 3 ∨ pstate s p = 4) (v : Nat) : pstate (loseIn v p s) p = 4 := by
  rcases h with h | h
  · rw [loseIn, if_pos (by simp [isUp, h])]
    exact setLtssm_keeps (pstate_closed (Q := (· = 4))) (pstate_lose_of (.inl h) ..)
  · rw [loseIn, if_neg (by simp [isUp, h])]
    exact h

/-- PSTATE of one port is FLUSHING where another goes there: two port numbers name one register or two. -/
theorem pstate_set {s : State} {p : Nat} (h : pstate s p = 4) (q : Nat) : pstate (s.set PORT.STAT.PSTATE 4 q) p = 4 := by
  by_cases hk : PORT.STAT.PSTATE.key p 0 = PORT.STAT.PSTATE.key q 0
  · have hr : PORT.STAT.PSTATE.reset p 0 = PORT.STAT.PSTATE.reset q 0 := rfl
    have := get_set_same s PORT.STAT.PSTATE 4 q 0
    rwa [State.get, ← hk, ← hr] at this
  · exact (get_set_other hk).trans h

theorem pstate_setPstate {s : State} {p : Nat} (h : pstate s p = 4) (q : Nat) : pstate (setPstate q 4 s) p = 4 := by
  unfold setPstate setState
  exact iteP (P := fun u => pstate u p = 4) h (raise_keeps (pstate_closed (Q := (· = 4))) (pstate_set h q))

/-- A property that the loss of port q leaves alone, if only q's FLUSHING does. -/
theorem lose_rest_keeps {P : State → Prop} (hP : Closed 0xc000007fffffc0020602fca180c0000000000000000002000000000001800000201fe0001f9c0c500000100ff00e301c20000000000002000000000000000000000000a22000010000003ffc100000404200000000000000000000003000000000000000041e00008c043bf7f3cc P) {q : Nat}
    (c0 : ∀ {u}, P u → P (setPstate q 4 u)) {why : Loss} {detail : Nat} {r : Bool} {s : State} (h : P s) : P (lose q why detail r s) := by
  unfold lose
  have c1 := @flag_keeps P (hP.mono rfl); have c2 := @voidDec_keeps P (hP.mono rfl); have c3 := @quickEnd_keeps P (hP.mono rfl)
  have c4 := @scanLost_keeps P (hP.mono rfl); have c5 := @report_keeps P (hP.mono rfl); have c6 := @modPort_keeps P (hP.mono rfl)
  have c7 := @drainIngress_keeps P (hP.mono rfl); have c8 := @drainEgress_keeps P (hP.mono rfl); have c9 := @drainTags_keeps P (hP.mono rfl)
  have c10 := @hostLost_keeps P (hP.mono rfl); have c11 := @poolLost_keeps P (hP.mono rfl); have c12 := @set_keeps _ P hP
  exact byKeep

/-- A port that is FLUSHING goes on flushing when any port is lost. -/
theorem flushing_resetOut {s : State} {p : Nat} (h : pstate s p = 4) (q : Nat) : pstate (resetOut q s) p = 4 := by
  have hl : pstate (lose q .orderly 0 false (s.emit (.hotReset q))) p = 4 :=
    lose_rest_keeps (pstate_closed (Q := (· = 4))) (fun hu => pstate_setPstate hu q) h
  exact iteP (P := fun u => pstate u p = 4) (setLtssm_keeps (pstate_closed (Q := (· = 4))) hl) h

theorem pstate_hotResetPort {s : State} {p : Nat} (h : pstate s p = 3) : pstate (hotResetPort p s) p = 4 :=
  iteP (P := fun u => pstate u p = 4)
    (forL_keeps (m := 0) (pstate_closed (Q := (· = 4))) (fun q _ _ hu => flushing_resetOut hu q) (pstate_loseIn (.inl h) 0x0C)) (pstate_loseIn (.inl h) 0x0C)

theorem hotReset_effect {r : PortReset} {s : State} (h : isUp s r.port = true) : ∃ t, exec (.hotReset r) s = .next t ∧ pstate t r.port = 4 := by
  refine ⟨_, (rfl : execHotReset r s = _), ?_⟩
  split
  · exact pstate_hotResetPort (pstate_of_isUp h)
  · exact pstate_loseIn (s := s.emit (.hotReset r.port)) (.inl (pstate_of_isUp h)) 0x0C
  · exact pstate_loseIn (.inl (pstate_of_isUp h)) 0x0D

theorem dpcTrigger_effect {p : PortId} {n : Nat} {s : State} (h : isUp s p = true) (hr : s.get PORT.CFG.ROLE p = 2) :
    ∃ t, exec (.dpcTrigger p n) s = .next t ∧ pstate t p = 4 := by
  refine ⟨lose p .surprise n false s, ?_, pstate_lose h ..⟩
  show execDpcTrigger p n s = _
  simp [execDpcTrigger, hr]

theorem settleTrain_of_flushing {p : Nat} {s : State} (h : pstate s p = 4) : settleTrain p s = s := by
  have h1 : settle p s = s := by simp [settle, h]
  simp [settleTrain, h1, h]

/-- Either bit of a write of CTL takes a port that is UP down (R74, R79, R80). -/
theorem pstate_portCtl {p v : Nat} {s : State} (hx : behindX16 s p = false) (h : pstate s p = 3) (hv : bitOf v 0 = true ∨ bitOf v 1 = true) :
    pstate (portCtl p v s) p = 4 := by
  have h3 : pstate (s.set PORT.CTL.DISABLE (bitsOf v 0 1) p) p = 3 := (get_set_field (by decide +kernel)).trans h
  have h4 : pstate (if bitOf v 1 then lose p .forced 0 false (if bitOf v 0 then loseIn 0x0D p (s.set PORT.CTL.DISABLE (bitsOf v 0 1) p)
      else s.set PORT.CTL.DISABLE (bitsOf v 0 1) p) else if bitOf v 0 then loseIn 0x0D p (s.set PORT.CTL.DISABLE (bitsOf v 0 1) p)
      else s.set PORT.CTL.DISABLE (bitsOf v 0 1) p) p = 4 := by
    cases h0 : bitOf v 0 <;> cases h1 : bitOf v 1 <;> simp only [Bool.false_eq_true, reduceIte]
    · simp [h0, h1] at hv
    · exact pstate_lose_of (.inl h3) ..
    · exact pstate_loseIn (.inl h3) _
    · exact pstate_lose_of (.inr (pstate_loseIn (.inl h3) _)) ..
  simp only [portCtl, hx, Bool.false_eq_true, reduceIte]
  rwa [settleTrain_of_flushing h4]

theorem portDisable_effect {p : PortId} {v : Word} {s : State} (hs : served s (PORT.CTL.DISABLE.base / 8) = true) (hx : behindX16 s p = false)
    (h : isUp s p = true) (h0 : bitOf v.toNat 0 = true) : ∃ t, exec (.portDisable p v) s = .next t ∧ pstate t p = 4 :=
  ⟨portCtl p v.toNat s, (atReg_served hs : execPortDisable p v s = _).trans rfl, pstate_portCtl hx (pstate_of_isUp h) (.inl h0)⟩

theorem forceDown_effect {p : PortId} {v : Word} {s : State} (hs : served s (PORT.CTL.FORCE_DOWN.base / 8) = true) (hx : behindX16 s p = false)
    (h : isUp s p = true) (h1 : bitOf v.toNat 1 = true) : ∃ t, exec (.forceDown p v) s = .next t ∧ pstate t p = 4 :=
  ⟨portCtl p v.toNat s, (atReg_served hs : execForceDown p v s = _).trans rfl, pstate_portCtl hx (pstate_of_isUp h) (.inr h1)⟩

/-- A port that is at rest, or trains, may enter Detect and is then TRAINING at most (R74). -/
theorem pstate_detect {p : Nat} {s : State} (h : pstate s p ≤ 2) : pstate (detect p s) p ≤ 2 := by
  have hw {u : State} (h : pstate u p ≤ 2) : pstate (wantLane p u) p ≤ 2 := wantLane_keeps (pstate_closed (Q := (· ≤ 2))) h
  have hgo (u : State) : pstate (setPstate p 2 u) p ≤ 2 := (get_setPstate p 2 u).le
  unfold detect
  split
  · split
    · exact h
    · dsimp only
      split
      · exact hgo _
      · split
        · exact hgo _
        · exact hw (setCol_keeps (pstate_closed (Q := (· ≤ 2))) h)
      · exact hw (setCstate_keeps (pstate_closed (Q := (· ≤ 2))) h)
      · exact hw h
  · exact h

theorem pstate_enterDown (p : Nat) (s : State) : pstate (enterDown p s) p ≤ 2 := by
  have hr (u : State) : pstate (setPstate p (restState u p) u) p ≤ 2 := by
    rw [get_setPstate]
    unfold restState
    split <;> decide
  have hl {b : Prop} [Decidable b] (u : State) : pstate (if b then forL (portLds (setPstate p (restState u p) u) p) (fun n t => ldRecord p n t)
      (setPstate p (restState u p) u) else setPstate p (restState u p) u) p ≤ 2 :=
    iteP (P := fun u => pstate u p ≤ 2) (forL_keeps (m := 0) (pstate_closed (Q := (· ≤ 2))) (fun _ _ _ h => ldRecord_keeps (pstate_closed (Q := (· ≤ 2))) h) (hr u)) (hr u)
  unfold enterDown
  exact iteP (P := fun u => pstate u p ≤ 2) (reachPoint_keeps (pstate_closed (Q := (· ≤ 2))) (hl _))
    (iteP (P := fun u => pstate u p ≤ 2) (pstate_detect (hl _)) (hl _))

theorem flushComplete_effect {p : PortId} {s : State} (h : pstate s p = 4) (hf : s.frame.subst = none) :
    ∃ t, exec (.flushComplete p) s = .next t ∧ (((portSt t p).flushed = true ∧ pstate t p = 4) ∨ pstate t p ≤ 2) := by
  refine ⟨leaveFlush p (modPort p (fun x => { x with flushed := true }) (drainEgress p (drainTags p s))), ?_, ?_⟩
  · show execFlushComplete p s = _
    simp [execFlushComplete, h, hf]
  · have h1 : pstate (drainEgress p (drainTags p s)) p = 4 :=
      drainEgress_keeps (pstate_closed (Q := (· = 4))) (drainTags_keeps (pstate_closed (Q := (· = 4))) h)
    have h2 : (portSt (modPort p (fun x => { x with flushed := true }) (drainEgress p (drainTags p s))) p).flushed = true := by rw [portSt_modPort, if_pos rfl]
    have h3 {b : Prop} [Decidable b] {u : State} (hu : (portSt u p).flushed = true ∧ pstate u p = 4) :
        (portSt (if b then u else u.set PORT.STAT.SWEEP 0 p) p).flushed = true ∧ pstate (if b then u else u.set PORT.STAT.SWEEP 0 p) p = 4 := by
      split
      · exact hu
      · exact ⟨hu.1, (get_set_field (by decide +kernel)).trans hu.2⟩
    exact iteP (P := fun t => ((portSt t p).flushed = true ∧ pstate t p = 4) ∨ pstate t p ≤ 2) (.inr (pstate_enterDown ..)) (.inl (h3 ⟨h2, h1⟩))

theorem ctoExpiry_effect {p : PortId} {tag : Fin 1024} {e : TagEnt} {k : Pkt} {s : State} (hu : isUp s p = true)
    (he : (portSt s p).tags.find? (fun e => e.sent && e.tag == tag.val && !e.quar) = some e) (hk : e.pkt = some k) (ho : k.op = .memRd ∨ k.op = .memWr) :
    ∃ t, exec (.ctoExpiry p tag) s = .next t ∧ t.get PORT.CTOCNT.COUNT p = satAdd 0xFFFFFFFF (s.get PORT.CTOCNT.COUNT p) 1 := by
  refine ⟨_, (rfl : execCtoExpiry p tag s = _), ?_⟩
  have hb : (k.op == .biSnpInv || k.op == .biSnpData) = false := by rcases ho with ho | ho <;> rw [ho] <;> rfl
  simp only [he, hk, hu, hb, Bool.not_true, Bool.false_eq_true, reduceIte]
  rw [get_set_field (by decide +kernel), get_kept fun hP => lostReply_keeps hP rfl, get_kept fun hP => report_keeps hP rfl,
    get_flag_other (by decide +kernel) (by decide +kernel), get_bump_sat]
  rfl

theorem tagQuarantineExpiry_effect {p : PortId} {tag : Fin 1024} {e : TagEnt} {s : State}
    (he : (portSt s p).tags.find? (fun e => e.sent && e.tag == tag.val && e.quar) = some e) :
    ∃ t, exec (.tagQuarantineExpiry p tag) s = .next t ∧ (portSt t p).tags = (portSt s p).tags.filter (fun t => !(t.sent && t.tag == tag.val)) := by
  refine ⟨freeTags p (fun t => t.sent && t.tag == tag.val) (s.reach e.deadline), ?_, ?_⟩
  · show execTagQuarantineExpiry p tag s = _
    simp only [execTagQuarantineExpiry, he]
  · unfold freeTags
    rw [portSt_of (part_kept .ports fun hP => tagSync_keeps hP (agree_refl _ _)), portSt_modPort, if_pos rfl]
    rfl

end Sys2Proof.Machine
end

section
/-! PROOF. Binding translation looks at the binding and decoder registers alone (R64, R129), so counting an event does not change where a request goes; a PCIe message to a port is recorded with its number (R86, R88). -/

namespace Sys2Proof.Machine

set_option Elab.async false

/-- The index that a register's place gives a field, as `State.idxOn` lists it. -/
def idxAt (e : Ent) (r : Nat × Nat) : Option Nat :=
  if e.base ≤ r.1 && (r.1 - e.base) % e.si = 0 && (r.1 - e.base) / e.si < e.ni then some ((r.1 - e.base) / e.si) else none

theorem idxOn_eq (s : State) (e : Ent) : s.idxOn e = s.regs.filterMap (idxAt e) := rfl

/-- Only a field's own places give it an index. -/
theorem idxAt_eq_none {e : Ent} {r : Nat × Nat} (h : ∀ i, e.key i 0 ≠ r.1) : idxAt e r = none := by
  unfold idxAt
  refine if_neg fun hc => ?_
  simp only [Bool.and_eq_true, decide_eq_true_eq] at hc
  obtain ⟨⟨hb, hm⟩, hi⟩ := hc
  refine h ((r.1 - e.base) / e.si) ?_
  have := Nat.div_add_mod (r.1 - e.base) e.si
  rw [Ent.key, Nat.mod_eq_of_lt hi, Nat.zero_mod]
  omega

theorem filterMap_del {f : Nat × Nat → Option Nat} {k : Nat} (hf : ∀ v, f (k, v) = none) (l : List (Nat × Nat)) : (del l k).filterMap f = l.filterMap f := by
  induction l with
  | nil => rfl
  | cons c l ih =>
    obtain ⟨a, b⟩ := c
    unfold del at *
    by_cases hk : a = k
    · subst hk; simp [hf, ih]
    · simp [hk, List.filterMap_cons, ih]

theorem filterMap_put {f : Nat × Nat → Option Nat} {k v : Nat} (hf : ∀ v, f (k, v) = none) (l : List (Nat × Nat)) : (put l k v).filterMap f = l.filterMap f := by
  induction l with
  | nil => simp [put, hf]
  | cons c l ih =>
    obtain ⟨a, b⟩ := c
    unfold put
    split
    · simp [hf]
    · split
      · next hk => subst hk; simp [hf]
      · simp [List.filterMap_cons, ih]

/-- The indexes at which a field is on stay when a field outside the mask's complement is written. -/
theorem idxOn_set {e e' : Ent} {v i j : Nat} {s : State} (h : distinct e e' = true) : (s.set e' v i j).idxOn e = s.idxOn e := by
  have hf (x : Nat) : idxAt e (e'.key i j, x) = none := idxAt_eq_none fun i' => distinct_key h i' 0 i j
  rw [idxOn_eq, idxOn_eq, State.set, putNZ]
  dsimp only
  split
  · exact filterMap_del hf _
  · exact filterMap_put hf _

theorem idxOn_of_regs {s t : State} (h : t.regs = s.regs) (e : Ent) : t.idxOn e = s.idxOn e := by rw [idxOn_eq, idxOn_eq, h]

/-- The valid binding entries as a register file shows them. -/
def btOn (r : List (Nat × Nat)) : List Nat := r.filterMap (idxAt BIND.BT.VALID)

theorem validBt_eq (s : State) : validBt s = btOn s.regs := rfl

theorem btOn_set {e : Ent} {v i j : Nat} {s : State} (h : distinct BIND.BT.VALID e = true) : btOn (s.set e v i j).regs = btOn s.regs := idxOn_set h

theorem btOn_ite {c : Prop} [Decidable c] (s t : State) : btOn (if c then s else t).regs = if c then btOn s.regs else btOn t.regs :=
  apply_ite (fun u : State => btOn u.regs) ..

theorem btOn_evSync (n : Nat) (s : State) : btOn (evSync n s).regs = btOn s.regs := by
  unfold evSync
  simp (disch := decide +kernel) only [btOn_ite, btOn_set, ite_self]

theorem btOn_evAssign (n c : Nat) (s : State) : btOn (evAssign n c s).regs = btOn s.regs := by
  unfold evAssign
  simp (disch := decide +kernel) only [btOn_set]

theorem btOn_evRoute (n : Nat) (s : State) : btOn (evRoute n s).regs = btOn s.regs := by
  unfold evRoute
  dsimp only
  repeat' split
  all_goals simp (disch := decide +kernel) only [btOn_set, btOn_evAssign]

theorem btOn_evHold (r : EvRec) (s : State) : btOn (evHold r s).regs = btOn s.regs := by
  unfold evHold State.bump
  dsimp only
  repeat' split
  all_goals simp (disch := decide +kernel) only [btOn_set, btOn_evRoute, btOn_evSync]

theorem btOn_evLost (s : State) : btOn (evLost s).regs = btOn s.regs := by
  unfold evLost evBufSync
  dsimp only
  split <;> simp (disch := decide +kernel) only [btOn_set]

theorem btOn_evToRing (r : EvRec) (s : State) : btOn (evToRing r s).regs = btOn s.regs := by
  unfold evToRing evBufSync State.bump
  dsimp only
  repeat' split
  all_goals simp (disch := decide +kernel) only [btOn_set, btOn_evLost]

theorem btOn_raise (n c p : Nat) (s : State) : btOn (raise n c p s).regs = btOn s.regs := by
  unfold raise evAccept
  split <;> simp only [btOn_evToRing, btOn_evHold]

theorem btOn_perfOvf (i k : Nat) (s : State) : btOn (perfOvf i k s).regs = btOn s.regs := by
  unfold perfOvf flag
  dsimp only
  repeat' split
  all_goals simp (disch := decide +kernel) only [btOn_set, btOn_raise]

theorem btOn_perfSat (i k n : Nat) (s : State) : btOn (perfSat i k n s).regs = btOn s.regs := by
  unfold perfSat
  dsimp only
  repeat' split
  all_goals simp (disch := decide +kernel) only [btOn_set, btOn_perfOvf]

theorem btOn_perfStep (i k n : Nat) (s : State) : btOn (perfStep i k n s).regs = btOn s.regs := by
  unfold perfStep
  dsimp only
  repeat' split
  all_goals simp (disch := decide +kernel) only [btOn_set, btOn_perfOvf, btOn_perfSat]

/-- Counting an event leaves the list of valid bindings alone. -/
theorem validBt_perf (i code n : Nat) (tc : Option Nat) (s : State) : validBt (perf i code n tc s) = validBt s := by
  unfold perf
  split
  · rfl
  · have step (k : Nat) (u : State) : validBt (if perfCounts u i k code tc then perfStep i k n u else u) = validBt u := by
      split
      · exact btOn_perfStep ..
      · rfl
    have loop (l : List Nat) (u : State) : validBt (l.foldl (fun u k => if perfCounts u i k code tc then perfStep i k n u else u) u) = validBt u := by
      induction l generalizing u with
      | nil => rfl
      | cons k l ih => exact (ih _).trans (step k u)
    exact loop _ s

/-- What binding translation looks at is the same in two states. -/
structure SameBinding (s t : State) : Prop where
  valid : validBt t = validBt s
  bind : t.bind = s.bind
  get : ∀ e ∈ [BIND.BT.KIND, BIND.BT.TARGET, BIND.BT.HOST, BIND.BT.VPPB, BIND.DEC.COMMITTED, BIND.DEC.BASE, BIND.DEC.SIZE, BIND.DEC.IG, BIND.DEC.IW,
    BIND.DEC.TARGET, BIND.LD.VALID, BIND.LD.SIZE], ∀ i j, t.get e i j = s.get e i j

theorem sameBinding_of {s t : State} (hr : t.regs = s.regs) (hb : t.bind = s.bind) : SameBinding s t :=
  ⟨idxOn_of_regs hr _, hb, fun e _ i j => get_of_regs hr e i j⟩

theorem sameBinding_perf (i code n : Nat) (tc : Option Nat) (s : State) : SameBinding s (perf i code n tc s) := by
  refine ⟨validBt_perf .., part_kept .bind fun hP => perf_keeps hP (agree_refl _ s), fun e he i' j => ?_⟩
  have : (outside perfMask e) = true := by
    revert e
    decide +kernel
  exact get_perf this ..

theorem fnDpa_go {s t : State} (h : t.bind = s.bind) (hst v a b : Nat) (l : List Nat) : fnDpa.go t hst v a b l = fnDpa.go s hst v a b l := by
  induction l generalizing b with
  | nil => rfl
  | cons d l ih => simp only [fnDpa.go, h, ih]

section
variable {s t : State} (h : SameBinding s t)
include h

theorem SameBinding.on {e : Ent} (he : e = BIND.DEC.COMMITTED ∨ e = BIND.LD.VALID) (i j : Nat) : t.on e i j = s.on e i j :=
  on_of_get (h.get e (by rcases he with rfl | rfl <;> simp) i j)

theorem SameBinding.portHost (p : Nat) : portHost t p = portHost s p := by
  simp only [Machine.portHost, h.valid, h.get BIND.BT.KIND (by simp), h.get BIND.BT.TARGET (by simp), h.get BIND.BT.HOST (by simp)]

theorem SameBinding.portSlot (p : Nat) : portSlot t p = portSlot s p := by
  simp only [Machine.portSlot, h.valid, h.get BIND.BT.KIND (by simp), h.get BIND.BT.TARGET (by simp), h.get BIND.BT.HOST (by simp), h.get BIND.BT.VPPB (by simp)]

theorem SameBinding.fnBinding (f : Nat) : fnBinding t f = fnBinding s f := by
  simp only [Machine.fnBinding, h.valid, h.get BIND.BT.KIND (by simp), h.get BIND.BT.TARGET (by simp), h.get BIND.BT.HOST (by simp), h.get BIND.BT.VPPB (by simp)]

theorem SameBinding.btOf (k v : Nat) : btOf t k v = btOf s k v := by
  simp only [Machine.btOf, h.valid, h.get BIND.BT.HOST (by simp), h.get BIND.BT.VPPB (by simp)]

theorem SameBinding.masterHost (mid : Nat) : masterHost t mid = masterHost s mid := by
  simp only [Machine.masterHost, h.portHost, h.fnBinding]

theorem SameBinding.upClaim (k a : Nat) : upClaim t k a = upClaim s k a := by
  simp only [Machine.upClaim, decRange, h.on (.inl rfl), h.get BIND.DEC.BASE (by simp), h.get BIND.DEC.SIZE (by simp), h.get BIND.DEC.IG (by simp),
    h.get BIND.DEC.IW (by simp), h.get BIND.DEC.TARGET (by simp)]
  rfl

theorem SameBinding.translate (k a : Nat) : translate t k a = translate s k a := by
  simp only [Machine.translate, h.upClaim, h.btOf, fnDpa, fnDpa_go h.bind, h.get BIND.BT.KIND (by simp), h.get BIND.BT.TARGET (by simp), h.get BIND.LD.SIZE (by simp)]

theorem SameBinding.vppbOf (k v : Nat) : vppbOf t k v = vppbOf s k v := by rw [Machine.vppbOf, h.bind, Machine.vppbOf]

theorem SameBinding.acsDest (mid : Nat) (r : LinkReq) (d : Dest) : acsDest t mid r d = acsDest s mid r d := by
  unfold Machine.acsDest
  simp only [h.vppbOf, h.portSlot]

/-- Where a request goes is decided by the binding and decoder registers and by the hosts' own tables (R64, R129). -/
theorem SameBinding.resolve (mid : Nat) (r : LinkReq) : resolve t mid r = resolve s mid r := by
  simp only [Machine.resolve, sameVcs, h.acsDest, h.masterHost, h.portHost, h.fnBinding, h.translate, h.upClaim, h.on (.inr rfl), h.get BIND.LD.SIZE (by simp)]
  rfl

end

theorem sameBinding_trans {s t u : State} (h : SameBinding s t) (h' : SameBinding t u) : SameBinding s u :=
  ⟨h'.valid.trans h.valid, h'.bind.trans h.bind, fun e he i j => (h'.get e he i j).trans (h.get e he i j)⟩

/-- The open requests as they stand. -/
def reqsAre (l : List (Nat × Req)) (s : State) : Prop := s.frame.reqs = l

theorem reqsAre_closed {m : Nat} {l : List (Nat × Req)} (h : m.testBit 14 = false := by decide +kernel) : Closed m (reqsAre l) :=
  closed_of_agree fun ha hq => by rwa [reqsAre, agree_part ha .frame h]

theorem reqsAre_unstall {l : List (Nat × Req)} {i : Nat} {s : State} (h : reqsAre l s) : reqsAre l (unstall i s) := by
  unfold unstall
  have loop (ps : List Pkt) (u : State) (hu : reqsAre l u) : reqsAre l (ps.foldl (fun s p =>
      if unitRoom s i p && (stalled s i).all (fun o => o.lst != p.lst || o.tc != p.tc) then setVoq i (voq s i ++ [⟨p, true, 0, 0, true⟩]) s
      else setStalled i (stalled s i ++ [p]) s) u) := by
    induction ps generalizing u with
    | nil => exact hu
    | cons p ps ih => exact ih _ (iteP (P := reqsAre l) hu hu)
  exact loop _ (setStalled i [] s) h

theorem reqsAre_bufSync {l : List (Nat × Req)} {i : Nat} {s : State} (h : reqsAre l s) : reqsAre l (bufSync i s) :=
  iteP (P := reqsAre l) h (reqsAre_unstall h)

/-- A packet that enters an ingress buffer opens and closes no request (R88). -/
theorem enqueue_reqs (p : Pkt) (s : State) : (enqueue p s).frame.reqs = s.frame.reqs := by
  unfold enqueue
  have h {i n : Nat} {p : Pkt} : reqsAre s.frame.reqs (injected 2 i n (bufErr p i s)) :=
    injected_keeps reqsAre_closed (bufErr_keeps reqsAre_closed (rfl : reqsAre s.frame.reqs s))
  refine reqsAre_bufSync ?_
  refine iteP (P := reqsAre s.frame.reqs) ?_ ?_ <;> exact perf_keeps (P := reqsAre s.frame.reqs) reqsAre_closed (perf_keeps reqsAre_closed h)

/-- A PCIe message takes no sample (R361). -/
theorem sampleReq_pcieMsg {x rid dxp mid : Nat} {r : LinkReq} {ld : Option (Nat × Nat)} {b : Bool} {s : State} (h : r.op = .pcieMsg) :
    sampleReq x rid dxp mid r ld b s = s := by
  simp [sampleReq, h, opcClass]

/-- What an opened request shows of itself. -/
def opened (s : State) (rid : Nat) : Option (Opc × Nat × Nat) := (look s.frame.reqs rid).map (fun e => (e.op, e.x, e.tag))

theorem opened_openAs (x rid : Nat) (r : LinkReq) (mid ruleEp bindEp : Nat) (ld : Option (Nat × Nat)) (left : Nat) (s : State) :
    opened (openAs x rid r mid ruleEp bindEp ld left s) rid = some (r.op, x, r.tag) := by
  simp [opened, openAs]

/-- Stages 3 to 6 of R86 for a PCIe message to a port. -/
theorem admitReq_port {x rid q ruleEp bindEp : Nat} {r : LinkReq} {s : State} (ho : r.op = .pcieMsg) (hd : resolve s (midAt s x r) r = .port q) :
    opened (admitReq x rid r ruleEp bindEp none s) rid = some (.pcieMsg, x, r.tag) := by
  have hs : SameBinding s (if r.route = .mem && kindOf (midAt s x r) = 0 then perf 275 0x10 1 none s else s) :=
    iteP (P := SameBinding s) (sameBinding_perf ..) (sameBinding_of rfl rfl)
  have hd' := (hs.resolve (midAt s x r) r).trans hd
  unfold admitReq
  dsimp only
  rw [hd']
  dsimp only
  rw [sampleReq_pcieMsg ho, opened, enqueue_reqs, ← ho]
  exact opened_openAs ..

/-- No stalled request is ahead of it, and no access check applies to a message. -/
theorem takeIn_pcieMsg {x rid : Nat} {r : LinkReq} {s : State} (hb : s.bind.backlog = []) (ho : r.op = .pcieMsg) :
    takeIn x rid r none s = admitReq x rid r (s.get ACT.COMMIT.EPOCH) (s.get BIND.STAT.EPOCH) none s := by
  simp [takeIn, hb, ho, needOf]

/-- A request resolves alike where registers and hosts' tables are the same. -/
theorem resolve_of_regs {s t : State} {x : Nat} {r : LinkReq} {d : Dest} (hr : t.regs = s.regs) (hb : t.bind = s.bind)
    (h : resolve s (midAt s x r) r = d) : resolve t (midAt t x r) r = d := by
  have hm : midAt t x r = midAt s x r := by rw [midAt, midAt, get_of_regs hr]
  rw [hm, (sameBinding_of hr hb).resolve]
  exact h

theorem opened_takeIn {x rid q : Nat} {r : LinkReq} {s : State} (hb : s.bind.backlog = []) (ho : r.op = .pcieMsg)
    (hd : resolve s (midAt s x r) r = .port q) : opened (takeIn x rid r none s) rid = some (.pcieMsg, x, r.tag) := by
  rw [takeIn_pcieMsg hb ho]
  exact admitReq_port ho hd

/-- A request's number is drawn before it goes in. -/
theorem resolve_freshId {x : Nat} {r : LinkReq} {d : Dest} {s : State} (h : resolve s (midAt s x r) r = d) :
    resolve (freshId s).2 (midAt (freshId s).2 x r) r = d :=
  resolve_of_regs (s := s) rfl rfl h

theorem linkRequest_effect {x : XId} {r : LinkReq} {q : PortId} {s : State} (hs : s.safe = false) (hx : 64 ≤ x.val) (hu : staleUnit s x r.unitEp.toNat = false)
    (hb : s.bind.backlog = []) (ho : r.op = .pcieMsg) (hd : resolve s r.mid.toNat r = .port q) :
    ∃ t, exec (.linkRequest x r) s = .next t ∧ (look t.frame.reqs s.frame.nextId).map (fun e => (e.op, e.x, e.tag)) = some (.pcieMsg, x.val, r.tag) := by
  refine ⟨takeIn x (freshId s).1 r none (freshId s).2, ?_, opened_takeIn (s := (freshId s).2) (q := q) hb ho (resolve_freshId ?_)⟩
  · show execLinkRequest x r s = _
    simp [execLinkRequest, hs, Nat.not_lt.2 hx, hu]
  · rwa [midAt, if_pos hx]

/-- A PCIe message neither waits nor draws a tag (R70). -/
theorem receive_pcieMsg {p q : Nat} {r : LinkReq} {s : State} (ho : r.op = .pcieMsg) (hd : resolve s (midAt s p r) r = .port q) :
    receive p r s = takeIn p (freshId s).1 r none (freshId s).2 := by
  have h1 : holdFull s p r = false := by simp [holdFull, hd]
  have h2 : trackerFull s p r = false := by simp [trackerFull, ho, isWrite]
  simp [receive, h1, h2, ho, expects]

/-- The wait of a port ends for its only request. -/
theorem takeWaiting_one {p : Nat} {r : LinkReq} {s : State} (hw : (portSt s p).waiting = [r]) (h1 : holdFull s p r = false) (h2 : trackerFull s p r = false)
    (ho : r.op = .pcieMsg) :
    takeWaiting p (portSt s p).waiting.length s = receive p r (modPort p (fun x => { x with waiting := [] }) s) := by
  simp [hw, takeWaiting, h1, h2, ho, expects]

theorem enqueue_ports (p : Pkt) (s : State) : (enqueue p s).ports = s.ports := part_kept .ports fun hP => enqueue_keeps hP (agree_refl _ s)

theorem admitReq_port_ports {x rid q ruleEp bindEp : Nat} {r : LinkReq} {s : State} (ho : r.op = .pcieMsg) (hd : resolve s (midAt s x r) r = .port q) :
    (admitReq x rid r ruleEp bindEp none s).ports = s.ports := by
  have hs : SameBinding s (if r.route = .mem && kindOf (midAt s x r) = 0 then perf 275 0x10 1 none s else s) :=
    iteP (P := SameBinding s) (sameBinding_perf ..) (sameBinding_of rfl rfl)
  have hd' := (hs.resolve (midAt s x r) r).trans hd
  have hp : (if r.route = .mem && kindOf (midAt s x r) = 0 then perf 275 0x10 1 none s else s).ports = s.ports :=
    iteP (P := fun u => u.ports = s.ports) (part_kept .ports fun hP => perf_keeps hP (agree_refl _ s)) rfl
  unfold admitReq
  dsimp only
  rw [hd']
  dsimp only
  rw [sampleReq_pcieMsg ho, enqueue_ports]
  exact hp

theorem takeIn_pcieMsg_ports {x rid q : Nat} {r : LinkReq} {s : State} (hb : s.bind.backlog = []) (ho : r.op = .pcieMsg)
    (hd : resolve s (midAt s x r) r = .port q) : (takeIn x rid r none s).ports = s.ports := by
  rw [takeIn_pcieMsg hb ho]
  exact admitReq_port_ports ho hd

theorem receive_pcieMsg_effect {p q : Nat} {r : LinkReq} {s : State} (hb : s.bind.backlog = []) (ho : r.op = .pcieMsg)
    (hd : resolve s (midAt s p r) r = .port q) :
    (receive p r s).ports = s.ports ∧ opened (receive p r s) s.frame.nextId = some (.pcieMsg, p, r.tag) := by
  rw [receive_pcieMsg ho hd]
  exact ⟨takeIn_pcieMsg_ports (s := (freshId s).2) hb ho (resolve_freshId hd),
    opened_takeIn (rid := (freshId s).1) (s := (freshId s).2) hb ho (resolve_freshId hd)⟩

theorem tagAvailable_effect {p : PortId} {r : LinkReq} {q : PortId} {s : State} (hu : isUp s p = true) (hs : s.safe = false) (hw : (portSt s p).waiting = [r])
    (h1 : holdFull s p r = false) (h2 : trackerFull s p r = false) (hb : s.bind.backlog = []) (ho : r.op = .pcieMsg) (hd : resolve s (midAt s p r) r = .port q) :
    ∃ t, exec (.tagAvailable p) s = .next t ∧ (portSt t p).waiting = [] ∧
      (look t.frame.reqs s.frame.nextId).map (fun e => (e.op, e.tag)) = some (.pcieMsg, r.tag) := by
  refine ⟨commitEnd (takeWaiting p (portSt s p).waiting.length s), ?_, ?_⟩
  · show execTagAvailable p s = _
    simp [execTagAvailable, hu, hs]
  have hf (u : State) : (commitEnd u).frame = u.frame := part_kept .frame fun hP => commitEnd_keeps hP (agree_refl _ _)
  have hp (u : State) : (commitEnd u).ports = u.ports := part_kept .ports fun hP => commitEnd_keeps hP (agree_refl _ _)
  have hm : (portSt (modPort p (fun x => { x with waiting := [] }) s) p).waiting = [] := by rw [portSt_modPort, if_pos rfl]
  obtain ⟨e1, e2⟩ := receive_pcieMsg_effect (s := modPort p (fun x => { x with waiting := [] }) s) hb ho (resolve_of_regs (s := s) rfl rfl hd)
  rw [takeWaiting_one hw h1 h2 ho]
  refine ⟨by rw [portSt_of (hp _), portSt_of e1, hm], ?_⟩
  rw [hf]
  have h := congrArg (Option.map fun e : Opc × Nat × Nat => (e.1, e.2.2)) e2
  rwa [opened, Option.map_map] at h

/-- Settles O16, command by command. -/
theorem portEffects : Obligations.PortEffects :=
  ⟨fun _ _ _ hs hx => portCfgWrite_effect hs hx, fun _ _ _ hs hx => tagcfgWrite_effect hs hx, fun _ _ _ h2 hs hl ht => portUp_effect h2 hs hl ht,
    fun p s h => ⟨lose p .surprise 0 false s, rfl, pstate_lose h ..⟩, fun _ _ h => hotReset_effect h, fun _ _ _ h hr => dpcTrigger_effect h hr,
    fun _ _ _ hs hx h h0 => portDisable_effect hs hx h h0, fun _ _ _ hs hx h h1 => forceDown_effect hs hx h h1, fun _ _ h hf => flushComplete_effect h hf,
    fun _ _ _ _ _ hu he hk ho => ctoExpiry_effect hu he hk ho, fun _ _ _ _ he => tagQuarantineExpiry_effect he,
    fun _ _ _ _ hu hs hw h1 h2 hb ho hd => tagAvailable_effect hu hs hw h1 h2 hb ho hd,
    fun _ _ _ _ hs hx hu hb ho hd => linkRequest_effect hs hx hu hb ho hd⟩

end Sys2Proof.Machine
end

section
/-! PROOF. What the commands of power domains and of fabric time do (R399, R400, R403 to R406, R410). -/

namespace Sys2Proof.Machine

set_option Elab.async false

theorem pdState_setPdState (d v : Nat) (s : State) : pdState (setPdState d v s) d = v % 2 ^ NOC.PD.STAT.STATE.w := get_setState_same (by decide +kernel)

theorem setPdState_part {d v : Nat} {s : State} (p : Part) (h : Nat.testBit (raiseMask ||| 2 ^ fieldBit NOC.PD.STAT.STATE) p.bit = false := by decide +kernel) :
    p.same s (setPdState d v s) :=
  part_kept p (fun hP => setState_keeps (hP.mono (by decide +kernel)) (fun _ _ _ _ => set_keeps hP (by decide +kernel)) (agree_refl _ s)) h

theorem setPdState_now (d v : Nat) (s : State) : (setPdState d v s).now = s.now := setPdState_part .now

theorem pdSt_setPdState (d v d' : Nat) (s : State) : pdSt (setPdState d v s) d' = pdSt s d' := pdSt_of (setPdState_part .mgmt) d'

theorem pdState_setPd (d : Nat) (p : PdSt) (s : State) : pdState (setPd d p s) d = pdState s d := get_set_field (by decide +kernel)

theorem pdSt_setPd_same (d : Nat) (p : PdSt) (s : State) : pdSt (setPd d p s) d = p := (pdSt_setPd ..).trans (if_pos rfl)

theorem powerDownStart_effect {d : Fin 13} {s : State} (h : pdOn s d = true ∧ s.on NOC.PD.CTL.AUTO d = true) (ha : pdAllowed s d = true) :
    ∃ t, exec (.powerDownStart d) s = .next t ∧ pdState t d = 1 := by
  refine ⟨setPdState d 1 s, ?_, pdState_setPdState ..⟩
  show execPowerDownStart d s = _
  simp [execPowerDownStart, h, ha]

/-- A packet in DRAINING gives the power-down up (R400). -/
theorem pdWake_draining {d : Nat} {s : State} (h : pdState s d = 1) : pdWake d s = (setPdState d 0 s).bump NOC.PD.STAT.ABORTS 1 d := by
  simp [pdWake, h]

theorem pdState_aborted (d : Nat) (s : State) : pdState ((setPdState d 0 s).bump NOC.PD.STAT.ABORTS 1 d) d = 0 :=
  (get_bump_field (by decide +kernel)).trans (pdState_setPdState ..)

theorem powerDownAbort_effect {d : Fin 13} {s : State} (h : pdState s d = 1) :
    ∃ t, exec (.powerDownAbort d) s = .next t ∧ pdState t d = 0 ∧ t.get NOC.PD.STAT.ABORTS d = satAdd 0xFFFF (s.get NOC.PD.STAT.ABORTS d) 1 := by
  refine ⟨(setPdState d 0 s).bump NOC.PD.STAT.ABORTS 1 d, ?_, pdState_aborted .., ?_⟩
  · show execPowerDownAbort d s = _
    simp [execPowerDownAbort, h, pdWake_draining h]
  · rw [get_bump_sat, setPdState, get_setState_other (by decide +kernel) (by decide +kernel)]
    rfl

theorem pointOfNoReturn_effect {d : Fin 13} {s : State} (h : pdState s d = 1) (ha : pdAllowed s d = true) :
    ∃ t, exec (.pointOfNoReturn d) s = .next t ∧ pdState t d = 2 ∧ (pdSt t d).offAt = s.ns ∧ (pdSt t d).wake = false := by
  refine ⟨setPdState d 2 (setPd d { pdSt s d with wake := false, offAt := s.ns } s), ?_, pdState_setPdState .., ?_, ?_⟩
  · show execPointOfNoReturn d s = _
    simp [execPointOfNoReturn, h, ha]
  all_goals rw [pdSt_setPdState, pdSt_setPd_same]

theorem ns_reach (s : State) (t : Nat) : (s.reach t).ns = max s.ns t := by
  rw [State.ns, reach_now, State.ns]
  omega

theorem minOffExpiry_effect {d : Fin 13} {s : State} (h : pdState s d = 2 ∧ (pdSt s d).wake = true) :
    ∃ t, exec (.minOffExpiry d) s = .next t ∧ pdState t d = 3 ∧ t.ns = max s.ns ((pdSt s d).offAt + 20000) := by
  refine ⟨setPdState d 3 (s.reach ((pdSt s d).offAt + 20000)), ?_, pdState_setPdState .., ?_⟩
  · show execMinOffExpiry d s = _
    simp [execMinOffExpiry, h]
  · rw [State.ns, setPdState_now]
    exact ns_reach ..

theorem domainOn_effect {d : Fin 13} {s : State} (h : pdState s d = 3) (hw : (pdSt s d).held = [] ∧ (pdSt s d).late = []) :
    ∃ t, exec (.domainOn d) s = .next t ∧ pdState t d = 0 ∧ (pdSt t d).wake = false := by
  refine ⟨setPd d { pdSt s d with held := [], late := [], wake := false } (setPdState d 0 s), ?_, ?_, ?_⟩
  · show execDomainOn d s = _
    simp [execDomainOn, h, hw, forL]
  · exact (pdState_setPd ..).trans (pdState_setPdState ..)
  · rw [pdSt_setPd_same]

theorem domainWake_effect {d : Fin 13} {v : Word} {s : State} (hs : served s (NOC.PD.CTL.WAKE.base / 8) = true) (hv : bitOf v.toNat 16 = true)
    (h : pdState s d = 1) : ∃ t, exec (.domainWake d v) s = .next t ∧ pdState t d = 0 ∧ t.get NOC.PD.CTL.AUTO d = bitsOf v.toNat 0 1 := by
  have hput : putRw 32 [NOC.PD.CTL.AUTO, NOC.PD.CTL.IDLE] v.toNat d 0 s =
      (s.set NOC.PD.CTL.AUTO (bitsOf v.toNat 0 1) d).set NOC.PD.CTL.IDLE (bitsOf v.toNat 1 15) d := rfl
  have h1 : pdState (putRw 32 [NOC.PD.CTL.AUTO, NOC.PD.CTL.IDLE] v.toNat d 0 s) d = 1 := by
    rw [hput, pdState]
    simp (disch := decide +kernel) only [get_set_field]
    exact h
  refine ⟨pdCtl d v.toNat s, (atReg_served hs : execDomainWake d v s = _).trans rfl, ?_, ?_⟩ <;>
    simp only [pdCtl, hv, reduceIte, pdWake_draining h1]
  · exact pdState_aborted ..
  · rw [get_bump_field (by decide +kernel), setPdState, get_setState_other (by decide +kernel) (by decide +kernel), hput]
    simp (disch := decide +kernel) only [get_set_field, get_set_bits]

theorem trefLoss_effect {s : State} (ho : s.on TIME.STAT.TREF_OK = true) (h : s.get TIME.STAT.STATE = 0) :
    ∃ t, exec (.trefLoss false) s = .next t ∧ t.get TIME.STAT.TREF_OK = 0 ∧ t.get TIME.STAT.STATE = 0 := by
  refine ⟨timeAlarm 0 (s.set TIME.STAT.TREF_OK 0), ?_, ?_, ?_⟩
  · show execTrefLoss false s = _
    simp [execTrefLoss, ho, h]
  · rw [timeAlarm, get_raise (by decide +kernel)]
    exact get_set_fit (by decide)
  · rw [timeAlarm, get_raise (by decide +kernel), get_set_field (by decide +kernel), h]

/-- A device that disciplines to TREF_IN reaches FREQ (R403). -/
theorem get_setTime {v : Nat} {s : State} (hv : v < 2 ^ TIME.STAT.STATE.w) : (setTime v s).get TIME.STAT.STATE = v := by
  unfold setTime
  dsimp only
  split
  · assumption
  · rw [get_setState_same (by decide +kernel), Nat.mod_eq_of_lt hv]

theorem trefLock_effect {s : State} (ho : s.on TIME.CTL.TREF_EN = true) (h : s.get TIME.STAT.STATE = 0 ∨ s.get TIME.STAT.STATE = 3) :
    ∃ t, exec .trefLock s = .next t ∧ t.get TIME.STAT.TREF_OK = 1 ∧ t.get TIME.STAT.STATE = 1 := by
  have ho' : (s.set TIME.STAT.TREF_OK 1).on TIME.CTL.TREF_EN = true := (on_of_get (get_set_field (by decide +kernel))).trans ho
  refine ⟨setTime 1 (s.set TIME.STAT.TREF_OK 1), ?_, ?_, get_setTime (by decide)⟩
  · show execTrefLock s = _
    simp [execTrefLock, ho', h]
  · rw [get_kept fun hP => setTime_keeps hP rfl]
    exact get_set_fit (by decide)

theorem ppsEdge_effect {second : Nat} {s : State} (h : s.on TIME.CTL.PPS_EN = false) :
    ∃ t, exec (.ppsEdge second) s = .next t ∧ t = s.set TIME.STAT.PPS_OK 1 := by
  have h' : (s.set TIME.STAT.PPS_OK 1).on TIME.CTL.PPS_EN = false := (on_of_get (get_set_field (by decide +kernel))).trans h
  refine ⟨_, ?_, rfl⟩
  show execPpsEdge second s = _
  simp [execPpsEdge, h']

/-- The fields of TIME.CTL as a written word gives them (R404). -/
def timeFields (v : Nat) (s : State) : State := putRw 32 [TIME.CTL.TREF_EN, TIME.CTL.PPS_EN, TIME.CTL.PPSOUT_EN, TIME.CTL.STEPTHR] v 0 0 s

theorem get_timeFields {v : Nat} {e : Ent} {s : State} (h : distinct e TIME.CTL.TREF_EN = true ∧ distinct e TIME.CTL.PPS_EN = true ∧
    distinct e TIME.CTL.PPSOUT_EN = true ∧ distinct e TIME.CTL.STEPTHR = true) : (timeFields v s).get e = s.get e := by
  obtain ⟨h1, h2, h3, h4⟩ := h
  have hput : timeFields v s = (((s.set TIME.CTL.TREF_EN (bitsOf v 0 1)).set TIME.CTL.PPS_EN (bitsOf v 1 1)).set TIME.CTL.PPSOUT_EN (bitsOf v 2 1)).set
      TIME.CTL.STEPTHR (bitsOf v 16 10) := rfl
  rw [hput, get_set_field h4, get_set_field h3, get_set_field h2, get_set_field h1]

/-- In FREE a write of TIME.CTL steps or slews as its bits say (R404). -/
theorem timeCtl_free {v : Nat} {s : State} (h : s.get TIME.STAT.STATE = 0) : timeCtl v s =
    (let s := timeFields v s
     let s := if bitOf v 3 then stepTime (s.get TIME.SET.NS * 2 ^ 16) s else s
     if bitOf v 4 then slewTime (adjOf s) s else s) := by
  have h' : (timeFields v s).get TIME.STAT.STATE = 0 := (get_timeFields (by decide +kernel)).trans h
  unfold timeCtl
  unfold timeFields at h' ⊢
  simp [h']

theorem now_closed {m : Nat} {n : Nat} (h : m.testBit 1 = false := by decide +kernel) : Closed m (fun u => u.now = n) :=
  closed_of_agree fun ha hq => (agree_part ha .now h).trans hq

/-- What a step of fabric time writes once the time is stepped (R404). -/
theorem stepTime_rest_keeps {P : State → Prop} (hP : Closed 0x7c040000000000000000000000000000000000000000000000000000000000000000000000000000000000000000000000000000000000000000000000000000000000000000000000000000001e00008c0400008040 P) {t : Nat} {s : State}
    (h : P ({ s with now := t, mgmt := { s.mgmt with slew := 0, errBase := estErr s, errAt := t / 2 ^ 16 } }.set TIME.STAT.STEPPED 1)) : P (stepTime t s) :=
  forN_keeps hP (fun _ _ hu => gclStep_keeps hP hu) (raise_keeps (hP.mono rfl) h)

theorem stepTime_reads (t : Nat) (s : State) : (stepTime t s).now = t ∧ (stepTime t s).get TIME.STAT.STEPPED = 1 :=
  ⟨stepTime_rest_keeps now_closed rfl, stepTime_rest_keeps (field_closed (by decide +kernel) 0 0 (· = 1)) (get_set_fit (by decide))⟩

theorem timeStep_effect {v : Word} {s : State} (hs : served s (TIME.CTL.STEP.base / 8) = true) (h : s.get TIME.STAT.STATE = 0)
    (hv : bitOf v.toNat 3 = true ∧ bitOf v.toNat 4 = false) :
    ∃ t, exec (.timeStep v) s = .next t ∧ t.now = s.get TIME.SET.NS * 2 ^ 16 ∧ t.get TIME.STAT.STEPPED = 1 := by
  refine ⟨stepTime (s.get TIME.SET.NS * 2 ^ 16) (timeFields v.toNat s), ?_, stepTime_reads ..⟩
  have hn : (timeFields v.toNat s).get TIME.SET.NS = s.get TIME.SET.NS := get_timeFields (by decide +kernel)
  refine (atReg_served hs : execTimeStep v s = _).trans (congrArg _ ?_)
  rw [timeCtl_free h]
  simp only [hv, hn, Bool.false_eq_true, reduceIte]

theorem timeSlew_effect {v : Word} {s : State} (hs : served s (TIME.CTL.SLEW.base / 8) = true) (h : s.get TIME.STAT.STATE = 0)
    (hv : bitOf v.toNat 3 = false ∧ bitOf v.toNat 4 = true) :
    ∃ t, exec (.timeSlew v) s = .next t ∧ t.mgmt.slew = (slewTime (adjOf s) s).mgmt.slew ∧ t.now = s.now := by
  refine ⟨slewTime (adjOf s) (timeFields v.toNat s), ?_, rfl, rfl⟩
  have hn : adjOf (timeFields v.toNat s) = adjOf s := by rw [adjOf, get_timeFields (by decide +kernel), adjOf]
  refine (atReg_served hs : execTimeSlew v s = _).trans (congrArg _ ?_)
  rw [timeCtl_free h]
  simp only [hv, hn, Bool.false_eq_true, reduceIte]

theorem ppsOutSecond_effect {s : State} (h : s.on TIME.CTL.PPSOUT_EN = true) :
    ∃ t, exec .ppsOutSecond s = .next t ∧ t.ns = (s.ns / 1000000000 + 1) * 1000000000 ∧
      t.out = s.out ++ [.ppsOut ((s.ns / 1000000000 + 1) * 1000000000 + s.get TIME.PPSCFG.PWIDTH * 1000000)] := by
  have hn : (s.reach ((s.ns / 1000000000 + 1) * 1000000000)).ns = (s.ns / 1000000000 + 1) * 1000000000 := by rw [ns_reach]; omega
  refine ⟨_, (congrArg Host.Outcome.next (if_pos h) : execPpsOutSecond s = _), hn, ?_⟩
  dsimp only [emit_out]
  rw [hn]
  rfl

/-- Settles O20, command by command. -/
theorem managementEffectsC : Obligations.ManagementEffectsC :=
  ⟨fun _ _ h ha => powerDownStart_effect h ha, fun _ _ h => powerDownAbort_effect h, fun _ _ h ha => pointOfNoReturn_effect h ha, fun _ _ h => minOffExpiry_effect h,
    fun _ _ h hw => domainOn_effect h hw, fun _ _ _ hs hv h => domainWake_effect hs hv h, fun _ _ hp ho h => hp ▸ trefLoss_effect ho h,
    fun _ ho h => trefLock_effect ho h, fun _ _ h => ppsEdge_effect h, fun _ _ hs h hv => timeStep_effect hs h hv, fun _ _ hs h hv => timeSlew_effect hs h hv,
    fun _ h => ppsOutSecond_effect h, fun p s hu hp => ⟨s.emit (.ptm p s.ns), by show execPtmRequest p s = _; simp [execPtmRequest, hu, hp], rfl⟩⟩

end Sys2Proof.Machine
end

section
/-! PROOF. The staging copy of a default that is wider than its field is cut (R283). -/

namespace Sys2Proof.Machine

set_option Elab.async false

/-- A state whose register file spells 2^16 for the default in force, a field of 16 bits, while the staging copy reloads. -/
def wideDefault : State :=
  { State.reset with regs := [(ACT.CFG.DEFAULT.base, 2 ^ 16), (ACT.COMMIT.STG_BUSY.base, 1)] }

theorem wideDefault_get : wideDefault.get ACT.CFG.DEFAULT = 2 ^ 16 := by decide +kernel

theorem wideDefault_on : wideDefault.on ACT.COMMIT.STG_BUSY = true := by decide +kernel

/-- The reload cuts the default to the 16 bits of its field. -/
theorem wideDefault_reloaded {t : State} (ht : exec .stagingReloadDone wideDefault = .next t) :
    t.get ACT.STGCFG.DEFAULT = 0 := by
  have hx : exec .stagingReloadDone wideDefault = execStagingReloadDone wideDefault := rfl
  rw [hx, execStagingReloadDone, if_pos wideDefault_on] at ht
  cases ht
  show (State.set (State.set _ _ _ _ _) _ _ _ _).get ACT.STGCFG.DEFAULT = 0
  rw [get_set_field (by decide +kernel), get_set_same, wideDefault_get]
  decide

/-- Refutes O33: at STAGING_RELOAD_DONE the staged default takes the bits of its field alone, and nothing in the statement bounds what the register file of a state holds for the default in force. A state whose file spells 2^16 for that field of 16 bits reloads 0. -/
theorem not_securityEffectsB : ¬ Obligations.SecurityEffectsB := by
  unfold Obligations.SecurityEffectsB
  rintro ⟨-, -, -, -, -, hreload, -⟩
  obtain ⟨t, ht, -, he⟩ := hreload wideDefault wideDefault_on
  rw [wideDefault_reloaded ht, wideDefault_get] at he
  exact absurd he (by decide)

end Sys2Proof.Machine
end

section
/-! PROOF. What the commands of keys, rotations, IDE streams and the SPDM responder do (R258, R262, R266 to R268, R271 to R273, R276, R277, R292). -/

namespace Sys2Proof.Machine

set_option Elab.async false

theorem raise_part {src cause payload : Nat} {s : State} (p : Part) (h : Nat.testBit raiseMask p.bit = false := by decide +kernel) :
    p.same s (raise src cause payload s) :=
  part_kept p (fun hP => raise_keeps hP (agree_refl _ s)) h

theorem setState_part {e : Ent} {v src i j : Nat} {s : State} (p : Part) (h : Nat.testBit raiseMask p.bit = false := by decide +kernel) :
    p.same s (setState e v src s i j) := by
  unfold setState
  dsimp only
  split
  · cases p <;> rfl
  · have hr := raise_part (src := src) (cause := 0) (payload := v % 2 ^ e.w % 256 + s.get e i j % 256 * 256) (s := s.set e v i j) p h
    cases p <;> exact hr

/-- A record goes at most to the engine, which touches the journal's queue alone. -/
theorem startNext_boot (s : State) : ∃ b, startNext s = { s with boot := b } := by
  unfold startNext
  split
  · exact ⟨s.boot, rfl⟩
  · split
    · exact ⟨s.boot, rfl⟩
    · exact ⟨_, rfl⟩

theorem request_taken {b : JBody} {keys : List SealedKey} {who : JWait} {s : State} (h : (request b keys who s).1 = .taken) :
    ∃ j, request b keys who s = (.taken, { s with boot := j }) := by
  unfold request at h ⊢
  split at h
  · cases h
  · split at h
    · cases h
    · obtain ⟨j, hj⟩ := startNext_boot { s with boot := { s.boot with queue := s.boot.queue ++ [⟨b, keys, who⟩] } }
      rename_i h1 h2
      rw [if_neg h1, if_neg h2, hj]
      exact ⟨j, rfl⟩

theorem noiseSourceFail_effect {src1 : Bool} {s : State} (h : (if src1 then s.sec.noise1 else s.sec.noise0) < 2) :
    ∃ t, exec (.noiseSourceFail src1) s = .next t ∧ (if src1 then t.sec.noise1 else t.sec.noise0) = (if src1 then s.sec.noise1 else s.sec.noise0) + 1 ∧
      t.get SEC.KSTAT.DRBG_OK = s.get SEC.KSTAT.DRBG_OK := by
  have h3 : ¬3 ≤ (if src1 then s.sec.noise1 else s.sec.noise0) := by omega
  cases src1
  · exact ⟨{ s with sec := { s.sec with noise0 := s.sec.noise0 + 1 } }, congrArg _ ((if_neg h3).trans (if_pos h)), rfl, rfl⟩
  · exact ⟨{ s with sec := { s.sec with noise1 := s.sec.noise1 + 1 } }, congrArg _ ((if_neg h3).trans (if_pos h)), rfl, rfl⟩

theorem on_setB {s : State} {e : Ent} {b : Bool} {i j : Nat} (hw : 0 < e.w) : (s.setB e b i j).on e i j = b := by
  have h1 := Nat.one_lt_two_pow hw.ne'
  cases b <;> simp [State.on, b2n, Nat.mod_eq_of_lt h1]

theorem domainKeySet_effect {session : Nat} {key : BitVec 256} {s : State} (hs : look s.sec.sessions session = some fmDoe)
    (h : (request (.key []) [sealKey s .domain key.toNat 0] .none s).1 = .taken) :
    ∃ t, exec (.domainKeySet session key) s = .next t ∧ t.sec.domain = some key.toNat ∧ t.on SEC.KSTAT.DOMAIN = true ∧
      t.out = s.out ++ [.spdm fmDoe 0x7E []] := by
  obtain ⟨j, hj⟩ := request_taken h
  refine ⟨(keySync { s with boot := j, sec := { s.sec with domain := some key.toNat } }).emit (.spdm fmDoe 0x7E []), ?_, rfl, on_setB (by decide), rfl⟩
  show execDomainKeySet session key s = _
  simp [execDomainKeySet, hs, hj]

/-- The fields of RCTL as a written word gives them. -/
def rctlFields (r v : Nat) (s : State) : State := (s.set SEC.ROT.RCTL.LD (bitsOf v 0 12) r).set SEC.ROT.RCTL.RATE (bitsOf v 12 4) r

theorem get_rctlFields {r v i j : Nat} {e : Ent} {s : State} (h : distinct e SEC.ROT.RCTL.LD = true) (h' : distinct e SEC.ROT.RCTL.RATE = true) :
    (rctlFields r v s).get e i j = s.get e i j :=
  (get_set_field h').trans (get_set_field h)

theorem sec_setRotPhase (r v : Nat) (s : State) : (setRotPhase r v s).sec = s.sec := setState_part .sec

theorem rotSt_setRotPhase (r v r' : Nat) (s : State) : rotSt (setRotPhase r v s) r' = rotSt s r' := by simp only [rotSt, sec_setRotPhase]

theorem rotSt_setRot_same (r : Nat) (x : Option RotSt) (s : State) : rotSt (setRot r x s) r = x := by
  unfold rotSt setRot
  split <;> rfl

theorem get_setRot (r : Nat) (x : Option RotSt) (s : State) (e : Ent) (i j : Nat) : (setRot r x s).get e i j = s.get e i j := by
  unfold setRot
  split <;> rfl

theorem rotPhase_setRotPhase {v : Nat} (r : Nat) (s : State) (h : v < 8) : rotPhase (setRotPhase r v s) r = v :=
  (get_setState_same (by decide +kernel)).trans (Nat.mod_eq_of_lt h)

theorem get_setRotPhase {e : Ent} {r v i j : Nat} {s : State} (h : outside raiseMask e = true) (hd : distinct e SEC.ROT.RSTAT.PHASE = true) :
    (setRotPhase r v s).get e i j = s.get e i j :=
  get_setState_other h hd

theorem rotArm_effect {r : Fin 2} {v : Word} {s : State} (hs : served s (SEC.ROT.RCTL.ARM.base / 8) = true)
    (hv : bitOf v.toNat 16 = true ∧ bitOf v.toNat 17 = false) (ha : armState (rctlFields r v.toNat s) r (bitsOf v.toNat 0 12) = false)
    (he : s.dmv.erase = none) :
    ∃ t, exec (.rotArm r v) s = .next t ∧ rotPhase t r = 1 ∧ t.get SEC.ROT.RSTAT.RESULT r = 0 ∧
      rotSt t r = some ⟨bitsOf v.toNat 0 12, 0, 0, false, 0, none, false, false⟩ := by
  obtain ⟨h16, h17⟩ := hv
  have hw : rctlWrite r v.toNat s =
      setRotPhase r 1 (rotResult r 0 (setRot r (some ⟨bitsOf v.toNat 0 12, 0, 0, false, 0, none, false, false⟩) (rctlFields r v.toNat s))) := by
    unfold rctlWrite
    unfold rctlFields at ha ⊢
    simp [h16, h17, ha, he]
  refine ⟨_, (atReg_served hs : execRotArm r v s = _), ?_, ?_, ?_⟩ <;> rw [hw]
  · exact rotPhase_setRotPhase _ _ (by decide)
  · rw [get_setRotPhase (by decide +kernel) (by decide +kernel)]
    exact get_set_fit (by decide)
  · rw [rotSt_setRotPhase]
    exact rotSt_setRot_same ..

theorem rctlCancel_effect {r : Fin 2} {v : Word} {x : RotSt} {s : State} (hs : served s (SEC.ROT.RCTL.CANCEL.base / 8) = true)
    (hv : bitOf v.toNat 16 = false ∧ bitOf v.toNat 17 = true) (hx : rotSt s r = some x ∧ x.key = 0) :
    ∃ t, exec (.rctlCancel r v) s = .next t ∧ rotPhase t r = 0 ∧ rotSt t r = none := by
  obtain ⟨h16, h17⟩ := hv
  obtain ⟨hr, hk⟩ := hx
  have hw : rctlWrite r v.toNat s = rotIdle r (rctlFields r v.toNat s) := by
    have hr' : rotSt (rctlFields r v.toNat s) r = some x := hr
    unfold rctlWrite
    unfold rctlFields at hr' ⊢
    simp [h16, h17, hr', hk]
  refine ⟨_, (atReg_served hs : execRctlCancel r v s = _), ?_, ?_⟩ <;> rw [hw]
  · exact rotPhase_setRotPhase _ _ (by decide)
  · exact (rotSt_setRotPhase ..).trans (rotSt_setRot_same ..)

theorem mem_put_self {α : Type} (l : List (Nat × α)) (k : Nat) (v : α) : (k, v) ∈ put l k v := by
  induction l with
  | nil => exact List.mem_singleton.mpr rfl
  | cons c t ih =>
    obtain ⟨k', v'⟩ := c
    unfold put
    split
    · exact List.mem_cons_self
    · split
      · exact List.mem_cons_self
      · exact List.mem_cons_of_mem _ ih

theorem withoutFm_of {s t : State} (hf : t.fmUp = s.fmUp) (hm : t.mctpOpen = s.mctpOpen) : withoutFm t = withoutFm s := by rw [withoutFm, hf, hm, withoutFm]

theorem decSync_decs (s : State) : (decSync s).decs = s.decs := part_kept .decs fun hP => decSync_keeps hP (agree_refl _ s)

/-- The state in which a decision point has put its decision and raised the event. -/
def reachPut (f obj : Nat) (s : State) : State :=
  raise f 25 (decPayload s.nextDec (shownObj f obj))
    ({ s with nextDec := (s.nextDec + 1) % 2 ^ 16, decs := put s.decs s.nextDec ⟨f, obj % 2 ^ 12, s.ns + decTimeout f, .held, false⟩ }.set GCTL.ASTAT.LASTDEC s.nextDec)

/-- A decision point whose function the assist takes holds while the fabric manager can answer (R392). -/
theorem reachPoint_held {f obj : Nat} {s : State} (hm : bitOf (s.get GCTL.ASSIST.MODE) f = true) (hf : withoutFm s = false) :
    reachPoint f obj s = (true, decSync (reachPut f obj s)) := by
  have h : withoutFm (reachPut f obj s) = false := (withoutFm_of (raise_part .fmUp) (raise_part .mctpOpen)).trans hf
  unfold reachPoint
  rw [if_neg (by simp [hm])]
  exact if_neg (Bool.eq_false_iff.mp h)

theorem reachPut_decs (f obj : Nat) (s : State) : (reachPut f obj s).decs = put s.decs s.nextDec ⟨f, obj % 2 ^ 12, s.ns + decTimeout f, .held, false⟩ :=
  raise_part .decs

theorem rotTimeReached_effect {r : Fin 2} {s : State} (h : rotPhase s r = 1 ∧ bitOf (s.get GCTL.ASSIST.MODE) 6 = true) (hf : withoutFm s = false) :
    ∃ t, exec (.rotTimeReached r) s = .next t ∧ rotPhase t r = 2 ∧ t.decs.any (fun d => d.2.func == 6 && d.2.obj == r.val) = true := by
  obtain ⟨hp, hm⟩ := h
  let s1 := setRotPhase r 2 (s.reach (s.get SEC.ROT.RTIME.TIME r))
  have hm1 : bitOf (s1.get GCTL.ASSIST.MODE) 6 = true := by
    rw [show s1.get GCTL.ASSIST.MODE = s.get GCTL.ASSIST.MODE from get_setRotPhase (by decide +kernel) (by decide +kernel)]
    exact hm
  have hf1 : withoutFm s1 = false := (withoutFm_of (setState_part .fmUp) (setState_part .mctpOpen)).trans hf
  refine ⟨decSync (reachPut 6 r s1), ?_, ?_, ?_⟩
  · show execRotTimeReached r s = _
    simp only [execRotTimeReached, hp]
    exact congrArg _ (by rw [show setRotPhase r 2 (s.reach (s.get SEC.ROT.RTIME.TIME r)) = s1 from rfl, reachPoint_held hm1 hf1]; rfl)
  · rw [rotPhase, get_kept fun hP => decSync_keeps hP rfl, reachPut, get_raise (by decide +kernel), get_set_field (by decide +kernel)]
    exact rotPhase_setRotPhase _ _ (by decide)
  · rw [decSync_decs, reachPut_decs]
    refine List.any_eq_true.mpr ⟨_, mem_put_self .., ?_⟩
    have hr := r.isLt
    simp only [beq_self_eq_true, Bool.true_and, beq_iff_eq]
    omega

/-- The rotation when the block at its cursor is done: the cursor has passed it and the rescue area names it no more. -/
def rekeyed (r : Nat) (x : RotSt) (b : Nat) (s : State) : State :=
  let s := (setRot r (some { x with copying := none }) s).set SEC.ROT.RCURSOR.OFFSET (b + 65536) r
  { s with sec := { s.sec with rescue := put s.sec.rescue r (b, false, x.start) } }

theorem sec_copyOut (ld tc dpa gen : Nat) (ps : List (Nat × List Line × Bool)) (s : State) : (copyOut ld tc dpa gen ps s).sec = s.sec :=
  part_kept .sec fun hP => copyOut_keeps hP (agree_refl _ s)

theorem rekeyBlockDone_effect {r : Fin 2} {x : RotSt} {k : RotBlk} {s : State} (hx : rotSt s r = some x ∧ x.copying = some k)
    (hp : rotPhase s r = 3 ∧ k.stage = 4) (hc : copiesDone s x.ld = true ∧ copiesDone s (rescueAt s r).1 = true)
    (hm : (k.b + 65536) % (64 * 2 ^ 20) ≠ 0) (hb : k.b + 65536 < ldBytes s x.ld ∧ k.b + 65536 < 2 ^ 64) :
    ∃ t, exec (.rekeyBlockDone r) s = .next t ∧ t.get SEC.ROT.RCURSOR.OFFSET r = k.b + 65536 ∧ (rotSt t r).map (·.copying) = some none ∧
      look t.sec.rescue r = some (k.b, false, x.start) := by
  obtain ⟨hr, hk⟩ := hx
  obtain ⟨hp, hst⟩ := hp
  obtain ⟨hc1, hc2⟩ := hc
  let s1 := rekeyed r x k.b s
  let t := copyOut (rescueAt s1 r).1 k.tc (rescueAt s1 r).2 (s1.get SEC.LDKEY.GEN (rescueAt s1 r).1) [(0, [rescueHeader x.ld x.start k.b false], false)] s1
  have hsize : ldBytes t x.ld = ldBytes s x.ld := by
    rw [ldBytes, get_kept (s := s1) fun hP => copyOut_keeps hP rfl, show s1.get BIND.LD.SIZE x.ld = s.get BIND.LD.SIZE x.ld from
      (get_set_field (by decide +kernel)).trans (get_setRot ..), ldBytes]
  have hsec : t.sec = s1.sec := sec_copyOut ..
  refine ⟨t, ?_, ?_, ?_, ?_⟩
  · show execRekeyBlockDone r s = _
    have hlast : ¬ldBytes t x.ld ≤ k.b + 65536 := by omega
    unfold execRekeyBlockDone
    simp only [hr, hk, hp, hst, hc1, hc2, bne_self_eq_false, Bool.not_true, Bool.or_self, Bool.false_eq_true, reduceIte, hm, decide_false, Bool.false_and]
    exact congrArg _ (if_neg hlast)
  · rw [get_kept (s := s1) fun hP => copyOut_keeps hP rfl]
    exact get_set_fit hb.2
  · rw [rotSt, hsec]
    show Option.map _ (rotSt (setRot r (some { x with copying := none }) s) r) = _
    rw [rotSt_setRot_same, Option.map_some]
  · rw [hsec]
    exact look_put_same ..

theorem rotDrainDone_effect {r : Fin 2} {x : RotSt} {s : State} (hx : rotSt s r = some x ∧ x.migDone = false) (hp : rotPhase s r = 4)
    (ho : oldKeyOpen s x.ld = false) :
    ∃ t, exec (.rotDrainDone r) s = .next t ∧ rotPhase t r = 0 ∧ rotSt t r = none ∧ t.get SEC.ROT.RSTAT.RESULT r = 0 ∧ t.get SEC.LDKEY.ROT x.ld = 0 := by
  obtain ⟨hr, hd⟩ := hx
  refine ⟨((setRotPhase r 0 (setRot r none s)).set SEC.ROT.RSTAT.RESULT 0 r).set SEC.LDKEY.ROT 0 x.ld, ?_, ?_, ?_, ?_, get_set_fit (by decide)⟩
  · show execRotDrainDone r s = _
    simp [execRotDrainDone, endRot, hr, hd, hp, ho]
  · rw [rotPhase]
    simp (disch := decide +kernel) only [get_set_field]
    exact rotPhase_setRotPhase _ _ (by decide)
  · exact (rotSt_setRotPhase ..).trans (rotSt_setRot_same ..)
  · rw [get_set_field (by decide +kernel)]
    exact get_set_fit (by decide)

theorem ideEnt_w (c : Bool) : (ideEnt c).w = 2 := by cases c <;> rfl

theorem ideKm_effect {p : PortId} {session : Nat} {cachemem kset : Bool} {key : Nat} {s : State} (hs : look s.sec.sessions session = some (ideDoe s p))
    (hu : isUp s p = true) (h : s.get (ideEnt cachemem) p ≠ 2) :
    ∃ t, exec (.ideKm p session cachemem kset key) s = .next t ∧ look t.sec.linkKeys (p.val * 16 + 2 * b2n cachemem + b2n kset) = some key ∧
      t.get (ideEnt cachemem) p = 1 := by
  refine ⟨({ s with sec := { s.sec with linkKeys := put s.sec.linkKeys (p.val * 16 + 2 * b2n cachemem + b2n kset) key } }).set (ideEnt cachemem) 1 p, ?_,
    look_put_same .., get_set_fit (by rw [ideEnt_w]; decide)⟩
  show execIdeKm p session cachemem kset key s = _
  unfold execIdeKm
  simp only [hs, hu, bne_self_eq_false, Bool.not_true, Bool.or_self, Bool.false_eq_true, reduceIte]
  exact congrArg _ (if_neg h)

theorem kSetGo_effect {p : PortId} {cachemem kset : Bool} {s : State}
    (hk : (look s.sec.linkKeys (p.val * 16 + 2 * b2n cachemem + b2n kset)).isSome = true) (hu : isUp s p = true) :
    ∃ t, exec (.kSetGo p cachemem kset) s = .next t ∧ t.get (ideEnt cachemem) p = 2 ∧ t.on SEC.IDE.KSET p = kset := by
  refine ⟨(s.set (ideEnt cachemem) 2 p).setB SEC.IDE.KSET kset p, ?_, ?_, on_setB (by decide)⟩
  · show execKSetGo p cachemem kset s = _
    simp only [execKSetGo, hk, hu, Bool.and_self, reduceIte]
  · rw [get_setB_field (by cases cachemem <;> decide +kernel)]
    exact get_set_fit (by rw [ideEnt_w]; decide)

theorem get_report (r : ErrRec) (s : State) (e : Ent) (i j : Nat) : (report r s).get e i j = s.get e i j := by
  unfold report
  dsimp only
  split <;> rfl

/-- The failure of an IDE check as it is noted before the port leaves UP (R273). -/
def ideNoted (p : PortId) (cachemem : Bool) (s : State) : State :=
  report (rec0 eSec kIdeFail 1 p) (flag SEC.ESTAT.IDE_FAIL 13 ((s.set (ideEnt cachemem) 3 p).bump SEC.IDE.ERRCNT 1 p))

theorem get_ideNoted {p : PortId} {cachemem : Bool} {e : Ent} {s : State} (he : outside raiseMask e = true) (hd : distinct e SEC.ESTAT.IDE_FAIL = true) (i j : Nat) :
    (ideNoted p cachemem s).get e i j = ((s.set (ideEnt cachemem) 3 p).bump SEC.IDE.ERRCNT 1 p).get e i j := by
  rw [ideNoted, get_report, get_flag_other he hd]

theorem ideNoted_flag (p : PortId) (cachemem : Bool) (s : State) : (ideNoted p cachemem s).on SEC.ESTAT.IDE_FAIL = true := by
  rw [ideNoted, on_of_get (get_report ..)]
  exact on_flag (by decide +kernel) (by decide)

theorem ideCheckFail_effect {p : PortId} {cachemem : Bool} {s : State} (hu : isUp s p = true) (h : s.get (ideEnt cachemem) p ≠ 0) :
    ∃ t, exec (.ideCheckFail p cachemem) s = .next t ∧ t.get SEC.IDE.ERRCNT p = satAdd 0xFF (s.get SEC.IDE.ERRCNT p) 1 ∧
      t.on SEC.ESTAT.IDE_FAIL = true ∧ isUp t p = false := by
  have hide (e : Ent) (he : distinct e SEC.IDE.CM_STATE = true ∧ distinct e SEC.IDE.IO_STATE = true) : distinct e (ideEnt cachemem) = true := by
    cases cachemem
    · exact he.2
    · exact he.1
  have hup : isUp (ideNoted p cachemem s) p = true := by
    rw [isUp, pstate, get_ideNoted (by decide +kernel) (by decide +kernel), get_bump_field (by decide +kernel), get_set_field (hide _ (by decide +kernel))]
    exact hu
  refine ⟨lose p .forced 0 true (ideNoted p cachemem s), ?_, ?_, ?_, ?_⟩
  · show execIdeCheckFail p cachemem s = _
    simp only [execIdeCheckFail, hu, h, Bool.not_true, decide_false, Bool.or_self, Bool.false_eq_true, reduceIte]
    rfl
  · rw [get_kept fun hP => lose_keeps hP rfl, get_ideNoted (by decide +kernel) (by decide +kernel), get_bump_sat, get_set_field (hide _ (by decide +kernel))]
    rfl
  · rw [on_of_get (get_kept fun hP => lose_keeps hP rfl)]
    exact ideNoted_flag ..
  · rw [isUp, pstate_lose hup]
    rfl

theorem keyExchange_effect {doe : Nat} {s : State} (hd : doeServed s doe = true) (hn : (s.sec.sessions.filter (fun q => q.2 == doe)).length < 4) :
    ∃ t, exec (.keyExchange doe) s = .next t ∧ look t.sec.sessions s.sec.nextSession = some doe ∧ t.sec.nextSession = s.sec.nextSession + 1 ∧
      t.out = s.out ++ [.spdm doe 0x64 [s.sec.nextSession]] := by
  refine ⟨{ s with sec := { s.sec with nextSession := s.sec.nextSession + 1, sessions := put s.sec.sessions s.sec.nextSession doe } }.emit
    (.spdm doe 0x64 [s.sec.nextSession]), ?_, look_put_same .., rfl, rfl⟩
  show execKeyExchange doe s = _
  simp [execKeyExchange, hd, Nat.not_le.mpr hn]

theorem getMeasurements_effect {doe index : Nat} {l : List Nat} {s : State} (hd : doeServed s doe = true) (hi : index ≠ 0 ∧ index ≠ 255)
    (hl : measure s doe index = some l) : ∃ t, exec (.getMeasurements doe index) s = .next t ∧ t.out = s.out ++ [.spdm doe 0x60 l] := by
  refine ⟨s.emit (.spdm doe 0x60 l), ?_, rfl⟩
  show execGetMeasurements doe index s = _
  simp [execGetMeasurements, hd, hi, hl]

/-- Settles O32, command by command. -/
theorem securityEffectsA : Obligations.SecurityEffectsA :=
  ⟨fun _ _ h => noiseSourceFail_effect h, fun _ _ _ hs h => domainKeySet_effect hs h, fun _ _ _ hs hv ha he => rotArm_effect hs hv ha he,
    fun _ _ _ _ hs hv hx => rctlCancel_effect hs hv hx, fun _ _ h hf => rotTimeReached_effect h hf, fun _ _ _ _ hx hp hc hm hb => rekeyBlockDone_effect hx hp hc hm hb,
    fun _ _ _ hx hp ho => rotDrainDone_effect hx hp ho, fun _ _ _ _ _ _ hs hu h => ideKm_effect hs hu h, fun _ _ _ _ hk hu => kSetGo_effect hk hu,
    fun _ _ _ hu h => ideCheckFail_effect hu h, fun _ _ hd hn => keyExchange_effect hd hn, fun _ _ _ _ hd hi hl => getMeasurements_effect hd hi hl⟩

end Sys2Proof.Machine
end

section
/-! PROOF. The state of a Beamlink through the operations that write it (R240, R242). -/

namespace Sys2Proof.Machine

set_option Elab.async false

theorem blkSt_modBlk_same (n : Nat) (f : BlkSt → BlkSt) (s : State) : blkSt (modBlk n f s) n = f (blkSt s n) := (blkSt_setBlk ..).trans (if_pos rfl)

theorem get_modBlk (n : Nat) (f : BlkSt → BlkSt) (s : State) (e : Ent) (i j : Nat) : (modBlk n f s).get e i j = s.get e i j := rfl

theorem lstate_setL {v : Nat} (n : Nat) (s : State) (h : v < 8) : lstate (setL n v s) n = v :=
  (get_setState_same (by decide +kernel)).trans (Nat.mod_eq_of_lt h)

theorem get_setL {n v i j : Nat} {e : Ent} {s : State} (h : outside raiseMask e = true) (hd : distinct e BLK.STAT.LSTATE = true) :
    (setL n v s).get e i j = s.get e i j :=
  get_setState_other h hd

theorem blkSt_setL (n v n' : Nat) (s : State) : blkSt (setL n v s) n' = blkSt s n' := blkSt_of (setState_part .blks) n'

theorem pdWake_on {d : Nat} {s : State} (h : pdOn s d = true) : pdWake d s = s := by
  have h0 : pdState s d = 0 := by simpa [pdOn] using h
  simp [pdWake, h0]

/-- A command to a domain that is on runs. -/
theorem atDomain_on {d : Nat} {e : Ent} {c : Instr} {f : State → Result} {s : State} (hs : served s (e.base / 8) = true) (hd : pdOn s d = true) :
    atDomain d e c f s = f s := by
  rw [atDomain, if_pos hs, toDomain, pdWake_on hd]
  exact if_pos hd

/-- A link in TRAIN or HELLO whose attempt fails is DOWN and keeps no message; nothing else of it ends (R240). -/
theorem attemptFail_early {n : Nat} {s : State} (h : lstate s n = 2 ∨ lstate s n = 3) :
    attemptFail n s = modBlk n (fun b => { b with waits := [] }) (setL n 1 (s.bump BLK.STAT.ATTEMPTS 1 n)) := by
  have hb : lstate (s.bump BLK.STAT.ATTEMPTS 1 n) n = lstate s n := get_bump_field (by decide +kernel)
  have h4 : lstate s n ≠ 4 ∧ lstate s n ≠ 5 ∧ lstate s n ≠ 6 := by omega
  simp [attemptFail, linkLeave, hb, h4, lActive, lHandoff, lFenced, lDown]

theorem attemptFail_down {n : Nat} {s : State} (h : lstate s n = 2 ∨ lstate s n = 3) :
    lstate (attemptFail n s) n = 1 ∧ (attemptFail n s).get BLK.STAT.ATTEMPTS n = satAdd 0xFFFF (s.get BLK.STAT.ATTEMPTS n) 1 ∧
      (blkSt (attemptFail n s) n).waits = [] := by
  rw [attemptFail_early h]
  refine ⟨lstate_setL n _ (by decide), ?_, by rw [blkSt_modBlk_same]⟩
  rw [get_modBlk, get_setL (by decide +kernel) (by decide +kernel), get_bump_sat]
  rfl

theorem get_attemptFail {n i j : Nat} {e : Ent} {s : State} (h : lstate s n = 2 ∨ lstate s n = 3) (ho : outside raiseMask e = true)
    (hd : distinct e BLK.STAT.LSTATE = true ∧ distinct e BLK.STAT.ATTEMPTS = true) : (attemptFail n s).get e i j = s.get e i j := by
  rw [attemptFail_early h, get_modBlk, get_setL ho hd.1, get_bump_field hd.2]

/-- A link in HELLO that fails has failed its attempt. -/
theorem linkFail_hello {n : Nat} {s : State} (h : lstate s n = 3) : linkFail n s = attemptFail n s := if_pos h

theorem ctrlTimeout_effect {n : BlkId} {v : CtrlWait} {s : State} (hw : (blkSt s n).waits = [v]) (h : lstate s n = 3) :
    ∃ t, exec (.ctrlTimeout n) s = .next t ∧ t.get BLK.STAT.LSTATE n = 1 ∧ t.get BLK.STAT.ATTEMPTS n = satAdd 0xFFFF (s.get BLK.STAT.ATTEMPTS n) 1 ∧
      (blkSt t n).waits = [] := by
  have h' : lstate (s.reach (v.since + 50000)) n = 3 := h
  refine ⟨attemptFail n (s.reach (v.since + 50000)), ?_, attemptFail_down (.inr h')⟩
  show execCtrlTimeout n s = _
  simp only [execCtrlTimeout, hw, linkFail_hello h']

/-- The fields of BLK.CFG as a written word gives them. -/
def cfgFields (n v : Nat) (s : State) : State :=
  (((s.set BLK.CFG.EN (bitsOf v 0 1) n).set BLK.CFG.PEER_CHK (bitsOf v 1 1) n).set BLK.CFG.PEER_ID (bitsOf v 2 3) n).set BLK.CFG.RETRY_INT (bitsOf v 5 8) n

theorem putRw_cfg (n v : Nat) (s : State) : putRw 32 [BLK.CFG.EN, BLK.CFG.PEER_CHK, BLK.CFG.PEER_ID, BLK.CFG.RETRY_INT] v n 0 s = cfgFields n v s := rfl

theorem get_cfgFields {n v i j : Nat} {e : Ent} {s : State} (h : distinct e BLK.CFG.EN = true ∧ distinct e BLK.CFG.PEER_CHK = true ∧
    distinct e BLK.CFG.PEER_ID = true ∧ distinct e BLK.CFG.RETRY_INT = true) : (cfgFields n v s).get e i j = s.get e i j := by
  obtain ⟨h1, h2, h3, h4⟩ := h
  rw [cfgFields, get_set_field h4, get_set_field h3, get_set_field h2, get_set_field h1]

/-- A live link outside a loopback begins TRAIN (R240). -/
theorem trainStart_live {n : Nat} {s : State} (hl : s.live = true ∧ s.safe = false) (hm : s.get TST.LB.CTL.MODE (32 + n) = 0) :
    trainStart n s = setL n 2 (linkReset n s) := by
  simp [trainStart, hl, hm, lTrain]

theorem live_cfgFields (n v : Nat) (s : State) : (cfgFields n v s).live = s.live := by
  rw [State.live, State.running, State.on, get_cfgFields (by decide +kernel), get_cfgFields (by decide +kernel)]
  rfl

theorem lstate_train (n : Nat) (s : State) : lstate (setL n 2 s) n = 2 := lstate_setL n s (by decide)

theorem blkEnable_effect {n : BlkId} {v : Word} {s : State} (hs : served s (BLK.CFG.EN.base / 8) = true) (hd : pdOn s n = true) (hv : bitOf v.toNat 0 = true)
    (h : lstate s n = 0) (hl : s.live = true ∧ s.safe = false) (hm : s.get TST.LB.CTL.MODE (32 + n) = 0) :
    ∃ t, exec (.blkEnable n v) s = .next t ∧ t.get BLK.STAT.LSTATE n = 2 ∧ t.get BLK.CFG.RETRY_INT n = bitsOf v.toNat 5 8 := by
  have hl' : (cfgFields n v.toNat s).live = true ∧ (cfgFields n v.toNat s).safe = false :=
    ⟨(live_cfgFields ..).trans hl.1, (on_of_get (get_cfgFields (by decide +kernel))).trans hl.2⟩
  have hm' : (cfgFields n v.toNat s).get TST.LB.CTL.MODE (32 + n) = 0 := (get_cfgFields (by decide +kernel)).trans hm
  have h' : lstate (cfgFields n v.toNat s) n = 0 := (get_cfgFields (by decide +kernel)).trans h
  have he : (cfgFields n v.toNat s).on BLK.CFG.EN n = true := by
    have h1 : bitsOf v.toNat 0 1 = 1 := by simpa [bitOf, bitsOf, Nat.testBit] using hv
    refine on_of_get_one ?_
    rw [cfgFields]
    simp (disch := decide +kernel) only [get_set_field, get_set_fit, h1]
  refine ⟨setL n 2 (linkReset n (cfgFields n v.toNat s)), ?_, lstate_train .., ?_⟩
  · refine (atDomain_on hs hd : execBlkEnable n v s = _).trans (congrArg _ ?_)
    simp only [putRw_cfg, he, h', lOff, reduceIte, trainStart_live hl' hm']
  · rw [get_setL (by decide +kernel) (by decide +kernel), get_kept fun hP => linkReset_keeps hP rfl, cfgFields]
    exact get_set_bits (by decide)

/-- The lanes show which of them have locked (R243). -/
def lockShown (n : Nat) (locked : BitVec 9) (s : State) : State := forN 9 (fun l s => s.setB BLK.LANE.LOCK (bitOf locked.toNat l) n l) s

theorem lockShown_keeps {P : State → Prop} (hP : Closed (2 ^ fieldBit BLK.LANE.LOCK) P) {n : Nat} {locked : BitVec 9} {s : State} (h : P s) :
    P (lockShown n locked s) :=
  forN_keeps hP (fun _ _ hu => setB_keeps hP (by decide +kernel) hu) h

theorem blkSt_emit (s : State) (o : Out) (n : Nat) : blkSt (s.emit o) n = blkSt s n := rfl

/-- A message of its own is the one bead that leaves (R242). -/
theorem sendCtrl_out (n : Nat) (m : CtrlMsg) (x : Bool) (s : State) : (sendCtrl n m x s).out.length = s.out.length + 1 := by
  unfold sendCtrl ctrlOut sendBead
  rw [emit_out, List.length_append]
  rfl

theorem sendCtrl_get (n : Nat) (m : CtrlMsg) (x : Bool) (s : State) (e : Ent) (i j : Nat) : (sendCtrl n m x s).get e i j = s.get e i j := by
  unfold sendCtrl ctrlOut sendBead
  rfl

/-- A message of its own changes nothing of a substitution (R242). -/
theorem sendCtrl_sub (n : Nat) (m : CtrlMsg) (x : Bool) (s : State) : (blkSt (sendCtrl n m x s) n).sub = (blkSt s n).sub := by
  unfold sendCtrl ctrlOut sendBead
  dsimp only
  rw [blkSt_emit, blkSt_modBlk_same, blkSt_modBlk_same]

/-- A link that enters HELLO before it says so: in its state, reset, with its first grants (R237, R240). -/
def helloReady (n : Nat) (s : State) : State :=
  modBlk n (fun b => { b with grants := (List.range 18).map (fun c => (c, firstGrant c)) }) (linkReset n (setL n lHello s))

theorem helloReady_out (n : Nat) (s : State) : (helloReady n s).spend.out = s.out := by
  unfold State.spend helloReady
  dsimp only [modBlk, setBlk]
  exact (part_kept .out fun hP => linkReset_keeps hP (agree_refl _ _)).trans (setState_part .out)

theorem helloReady_lstate (n : Nat) (s : State) : lstate (helloReady n s).spend n = 3 := by
  have hg : lstate (helloReady n s).spend n = lstate (linkReset n (setL n lHello s)) n := by
    unfold State.spend helloReady lstate State.get
    dsimp only [modBlk, setBlk]
  rw [hg, lstate, get_kept fun hP => linkReset_keeps hP rfl]
  exact lstate_setL n s (by decide)

theorem enterHello_sends (n : Nat) (s : State) : ∃ m, enterHello n s = sendCtrl n m true (helloReady n s).spend := ⟨_, rfl⟩

theorem enterHello_out (n : Nat) (s : State) : (enterHello n s).out.length = s.out.length + 1 := by
  obtain ⟨m, hm⟩ := enterHello_sends n s
  rw [hm, sendCtrl_out, helloReady_out]

theorem enterHello_lstate (n : Nat) (s : State) : lstate (enterHello n s) n = 3 := by
  obtain ⟨m, hm⟩ := enterHello_sends n s
  rw [hm, lstate, sendCtrl_get]
  exact helloReady_lstate n s

theorem trainComplete_effect {n : BlkId} {s : State} (h : lstate s n = 2) :
    ∃ t, exec (.trainComplete n 0x1FF) s = .next t ∧ t.get BLK.STAT.LSTATE n = 3 ∧ t.get BLK.LANE.LOCK n 8 = 1 ∧ t.out.length = s.out.length + 1 := by
  have hbad (u : State) : (List.range 9).filter (fun l => laneState u n l == 0 && !bitOf (BitVec.toNat (0x1FF : BitVec 9)) l) = [] := by
    have hall : ∀ l ∈ List.range 9, bitOf (BitVec.toNat (0x1FF : BitVec 9)) l = true := by decide
    exact List.filter_eq_nil_iff.mpr fun l hl => by rw [hall l hl, Bool.not_true, Bool.and_false]; exact Bool.false_ne_true
  refine ⟨enterHello n (lockShown n 0x1FF s), ?_, enterHello_lstate .., ?_, ?_⟩
  · show execTrainComplete n 0x1FF s = _
    simp only [execTrainComplete, h, lTrain, bne_self_eq_false, Bool.false_eq_true, reduceIte, hbad]
    rfl
  · rw [get_kept fun hP => enterHello_keeps hP rfl]
    exact get_set_fit (by decide)
  · rw [enterHello_out, show (lockShown n 0x1FF s).out = s.out from part_kept .out fun hP => lockShown_keeps hP (agree_refl _ _)]

theorem blkStateTimeout_effect {n : BlkId} {s : State} (h : lstate s n = 2) :
    ∃ t, exec (.blkStateTimeout n) s = .next t ∧ t.get BLK.STAT.LSTATE n = 1 ∧ t.get BLK.STAT.FAILCAUSE n = 7 ∧
      t.get BLK.STAT.ATTEMPTS n = satAdd 0xFFFF (s.get BLK.STAT.ATTEMPTS n) 1 := by
  have h' : lstate (s.set BLK.STAT.FAILCAUSE 7 n) n = 2 := (get_set_field (by decide +kernel)).trans h
  obtain ⟨hl, ha, -⟩ := attemptFail_down (.inl h')
  refine ⟨attemptFail n (s.set BLK.STAT.FAILCAUSE 7 n), congrArg _ (if_pos h), hl, ?_, ?_⟩
  · rw [get_attemptFail (.inl h') (by decide +kernel) (by decide +kernel)]
    exact get_set_fit (by decide)
  · rw [ha, get_set_field (by decide +kernel)]

theorem blkRetryInterval_effect {n : BlkId} {s : State} (h : lstate s n = 1) (he : s.on BLK.CFG.EN n = true) (hl : s.live = true ∧ s.safe = false)
    (hm : s.get TST.LB.CTL.MODE (32 + n) = 0) : ∃ t, exec (.blkRetryInterval n) s = .next t ∧ t.get BLK.STAT.LSTATE n = 2 := by
  refine ⟨setL n 2 (linkReset n s), ?_, lstate_train ..⟩
  show execBlkRetryInterval n s = _
  simp [execBlkRetryInterval, h, he, lDown, trainStart_live hl hm]

theorem laneLockLoss_effect {n : BlkId} {l : Fin 9} {s : State} (h : lstate s n = 3) :
    ∃ t, exec (.laneLockLoss n l) s = .next t ∧ t.get BLK.LANE.LOCK n l = 0 ∧ t.get BLK.STAT.LSTATE n = 1 ∧
      t.get BLK.STAT.ATTEMPTS n = satAdd 0xFFFF (s.get BLK.STAT.ATTEMPTS n) 1 := by
  have h' : lstate (s.set BLK.LANE.LOCK 0 n l) n = 3 := (get_set_field (by decide +kernel)).trans h
  obtain ⟨hl, ha, -⟩ := attemptFail_down (.inr h')
  refine ⟨attemptFail n (s.set BLK.LANE.LOCK 0 n l), congrArg _ (if_pos h'), ?_, hl, ?_⟩
  · rw [get_attemptFail (.inr h') (by decide +kernel) (by decide +kernel)]
    exact get_set_fit (by decide)
  · rw [ha, get_set_field (by decide +kernel)]

theorem laneErrorWindow_effect {n : BlkId} {l : Fin 9} {s : State} (h : s.get BLK.LSPCFG.SUB_THRESH n = 0) :
    ∃ t, exec (.laneErrorWindow n l) s = .next t ∧ lookD (blkSt t n).winErr l 0 = 0 ∧ s.ns < t.ns := by
  refine ⟨modBlk n (fun b => { b with winErr := del b.winErr l }) (s.reach ((s.ns / 1000000 + 1) * 1000000)), congrArg _ (if_pos ?_), ?_, ?_⟩
  · have h' : (modBlk n (fun b => { b with winErr := del b.winErr l }) (s.reach ((s.ns / 1000000 + 1) * 1000000))).get BLK.LSPCFG.SUB_THRESH n = 0 := h
    simp [h']
  · rw [blkSt_modBlk_same, lookD, look_del_same]
  · show s.ns < (s.reach ((s.ns / 1000000 + 1) * 1000000)).ns
    rw [ns_reach]
    omega

theorem spareLane_of {n : Nat} {s t : State} (h : ∀ l, t.get BLK.LANE.STATE n l = s.get BLK.LANE.STATE n l) : spareLane t n = spareLane s n := by
  simp only [spareLane, laneState, h]

theorem laneSubCommand_effect {n : BlkId} {v : Word} {w : Nat} {s : State} (hs : served s (BLK.LCTL.SUB.base / 8) = true) (hd : pdOn s n = true)
    (hv : bitOf v.toNat 4 = true ∧ bitOf v.toNat 5 = false) (hu : linkUp s n = true) (hl : bitsOf v.toNat 0 4 < 9) (ha : laneState s n (bitsOf v.toNat 0 4) = 0)
    (hw : spareLane s n = some w) (hb : (blkSt s n).sub = none) :
    ∃ t, exec (.laneSubCommand n v) s = .next t ∧
      (blkSt t n).sub = some ⟨s.get BLK.LANE.POS n (bitsOf v.toNat 0 4), bitsOf v.toNat 0 4, wrapAdd 12 (blkSt s n).cwcnt 64, false⟩ ∧
      t.get BLK.LCTL.LANE n = bitsOf v.toNat 0 4 := by
  obtain ⟨h4, h5⟩ := hv
  let s1 := s.set BLK.LCTL.LANE (bitsOf v.toNat 0 4) n
  have hu1 : linkUp s1 n = true := by rw [linkUp, lstate, get_set_field (by decide +kernel)]; exact hu
  have ha1 : laneState s1 n (bitsOf v.toNat 0 4) = 0 := (get_set_field (by decide +kernel)).trans ha
  have hw1 : spareLane s1 n = some w := (spareLane_of fun _ => get_set_field (by decide +kernel)).trans hw
  have hb1 : (blkSt s1 n).sub = none := hb
  refine ⟨laneSubStart n (bitsOf v.toNat 0 4) s1, ?_, ?_, ?_⟩
  · refine (atDomain_on hs hd : execLaneSubCommand n v s = _).trans (congrArg _ ?_)
    unfold lctlWrite
    simp only [h4, h5, Bool.not_true, Bool.false_eq_true, reduceIte]
    refine if_pos ?_
    show (linkUp s1 n && decide (bitsOf v.toNat 0 4 < 9) && decide (laneState s1 n (bitsOf v.toNat 0 4) = 0) && (spareLane s1 n).isSome &&
      (blkSt s1 n).sub.isNone) = true
    simp [hu1, ha1, hw1, hb1, hl]
  · have hp : s1.get BLK.LANE.POS n (bitsOf v.toNat 0 4) = s.get BLK.LANE.POS n (bitsOf v.toNat 0 4) := get_set_field (by decide +kernel)
    simp only [laneSubStart, hb1, hw1, Option.isSome_none, Option.isNone_some, Bool.or_self, Bool.false_eq_true, reduceIte]
    rw [sendCtrl_sub, blkSt_setBlk, if_pos rfl, hp]
    rfl
  · rw [get_kept fun hP => laneSubStart_keeps hP rfl]
    exact get_set_bits (by decide)

theorem spareLaneFail_effect {n : BlkId} {l : Nat} {s : State} (h : spareLane s n = some l) (hb : (blkSt s n).sub = none) :
    ∃ t, exec (.spareLaneFail n) s = .next t ∧ t.get BLK.LANE.STATE n l = 2 ∧ t.get BLK.STAT.NO_SPARE n = b2n (spareLane t n).isNone := by
  let s1 := report { rec0 (unitSrc 2 (laneUnit n l)) kSpareBad 0 l with epoch := s.get FLT.UNIT.EPOCH 2 (laneUnit n l) } s
  have h1 : spareLane s1 n = some l := (spareLane_of fun _ => get_report ..).trans h
  have hb1 : (blkSt s1 n).sub = none := by rw [blkSt_of (part_kept .blks fun hP => report_keeps hP (agree_refl _ s))]; exact hb
  let s2 := fenceUnit 2 (laneUnit n l) (s1.set BLK.LANE.STATE 2 n l)
  have hk (i : Nat) : (noteSpare (setSpare 2 (laneUnit n l) 1 (spareSync n s2))).get BLK.LANE.STATE n i = s2.get BLK.LANE.STATE n i := by
    rw [get_kept fun hP => noteSpare_keeps hP rfl, get_kept fun hP => setSpare_keeps hP rfl]
    exact get_setB_field (by decide +kernel)
  refine ⟨noteSpare (setSpare 2 (laneUnit n l) 1 (spareSync n s2)), ?_, ?_, ?_⟩
  · show execSpareLaneFail n s = _
    simp only [execSpareLaneFail, spareFail, h]
    refine congrArg _ ?_
    show spareDead n s1 = _
    simp only [spareDead, h1, hb1, Option.isSome_none, Bool.false_eq_true, reduceIte]
    rfl
  · rw [hk, get_kept fun hP => fenceUnit_keeps hP rfl]
    exact get_set_fit (by decide)
  · rw [spareLane_of hk, get_kept fun hP => noteSpare_keeps hP rfl, get_kept fun hP => setSpare_keeps hP rfl, spareSync, get_setB_same]
    exact Nat.mod_eq_of_lt (by cases (spareLane s2 n).isNone <;> decide)

end Sys2Proof.Machine
end

section
/-! PROOF. Of the cascade's state the pipeline writes only the list of requests that wait for a path (R250): what holds whatever that list is survives the requests' way through the pipeline. -/

namespace Sys2Proof.Machine

set_option Elab.async false

/-- The state with another list of requests that wait for a path. -/
def withHeld (l : List (Nat × Nat × Nat × LinkReq)) (s : State) : State := { s with blkG := { s.blkG with held := l } }

theorem toRemote_held {P : State → Prop} (hP : Closed 0xc0000000000000000000000000000000000000000000000000000000018000000000000000000000000000000000300000000000000000000000000000000000000000a20000010000000000000000000000000000000000000000000000000000000000001e00008c04022060c4 P)
    (hh : ∀ {u} l, P u → P (withHeld l u)) {x rid : Nat} {r : LinkReq} {mid ruleEp bindEp ld dpa : Nat} {s : State} (h : P s) : P (toRemote x rid r mid ruleEp bindEp ld dpa s) := by
  unfold toRemote
  dsimp only
  split
  · exact enqueue_keeps (hP.mono rfl) (openAs_keeps (hP.mono rfl) h)
  · exact iteP (P := P) (hh _ h) (lostIngress_keeps (hP.mono rfl) h)

theorem routeLd_held {P : State → Prop} (hP : Closed 0xc0000000000000000000000000000000000000000000000000000000018000000000000010000000000000000000300000000000000000000000000000000000000000a20000010000000000000000000000000000000000000000000000000000000000001e00008c04022460c4 P)
    (hh : ∀ {u} l, P u → P (withHeld l u)) {x rid : Nat} {r : LinkReq} {mid ruleEp bindEp ld dpa : Nat} {j : Option Nat} {atom : Option AtomOp} {s : State} (h : P s) : P (routeLd x rid r mid ruleEp bindEp ld dpa j atom s) := by
  unfold routeLd
  have c0 := @toRemote_held P (hP.mono rfl) hh; have c1 := @toPool_keeps P (hP.mono rfl); have c2 := @privateAtom_keeps P (hP.mono rfl)
  have c3 := @lostIngress_keeps P (hP.mono rfl); have c4 := @hmapMiss_keeps P (hP.mono rfl); have c5 := @toHome_keeps P (hP.mono rfl)
  exact byKeep

theorem admitReq_held {P : State → Prop} (hP : Closed 0xc000000000000000000000000000000000000000000000000000000001800000200000001000000000000009f000300000000000000000000000000000000000000000a22000010000000000000000000000000000000000000000000000000000000000001e00008c04027560cc P)
    (hh : ∀ {u} l, P u → P (withHeld l u)) {x rid : Nat} {r : LinkReq} {ruleEp bindEp : Nat} {atom : Option AtomOp} {s : State} (h : P s) : P (admitReq x rid r ruleEp bindEp atom s) := by
  unfold admitReq
  have c0 := @routeLd_held P (hP.mono rfl) hh; have c1 := @perfView_keeps P (hP.mono rfl); have c2 := @perf_keeps P (hP.mono rfl)
  have c3 := @lostIngress_keeps P (hP.mono rfl); have c4 := @missed_keeps P (hP.mono rfl); have c5 := @cfgAccess_keeps P (hP.mono rfl)
  have c6 := @takeLtr_keeps P (hP.mono rfl); have c7 := @openAs_keeps P (hP.mono rfl); have c8 := @sampleReq_keeps P (hP.mono rfl)
  have c9 := @enqueue_keeps P (hP.mono rfl); have c10 := @stallAt_keeps P (hP.mono rfl); have c11 := @modMig_keeps P (hP.mono rfl)
  have c12 := @convSync_keeps P (hP.mono rfl); have c13 := @takeAllow_keeps P (hP.mono rfl)
  exact byKeep

theorem takeIn_held {P : State → Prop} (hP : Closed 0xc000000000000000000000000000000000000000000000000000000001800000200000001000000000000009f000300000000000000000000000000000000000000000a22000010000003ffc100000000000000000000000000000000000000000000000001e00008c04027560cc P)
    (hh : ∀ {u} l, P u → P (withHeld l u)) {x rid : Nat} {r : LinkReq} {atom : Option AtomOp} {s : State} (h : P s) : P (takeIn x rid r atom s) := by
  unfold takeIn
  have c0 := @admitReq_held P (hP.mono rfl) hh; have c1 := @stallAt_keeps P (hP.mono rfl); have c2 := @perfView_keeps P (hP.mono rfl)
  have c3 := @perf_keeps P (hP.mono rfl); have c4 := @actDeny_keeps P (hP.mono rfl); have c5 := @dapDenied_keeps P (hP.mono rfl)
  have c6 := @lostIngress_keeps P (hP.mono rfl)
  exact byKeep

theorem readmit_held {P : State → Prop} (hP : Closed 0xc000000000000000000000000000000000000000000000000000000001800000200000001000000000000009f000300000000000000000000000000000000000000000a22000010000003ffc100000000000000000000000000000000000000000000000001e00008c04027560cc P)
    (hh : ∀ {u} l, P u → P (withHeld l u)) {l : List (Nat × Nat × LinkReq)} {s : State} (h : P s) : P (readmit l s) := by
  unfold readmit
  have c0 := @forL_keeps _ P hP; have c1 := @takeIn_held P (hP.mono rfl) hh
  exact byKeep

theorem retryHeld_held {P : State → Prop} (hP : Closed 0xc000000000000000000000000000000000000000000000000000000001800000200000001000000000000009f000300000000000000000000000000000000000000000a22000010000003ffc100000000000000000000000000000000000000000000000001e00008c04027560cc P)
    (hh : ∀ {u} l, P u → P (withHeld l u)) {s : State} (h : P s) : P (retryHeld s) :=
  readmit_held (hP.mono rfl) hh (hh _ h)

/-- The routes to the other devices are worked out first (R246, R249). -/
def routesSynced (s : State) : State := forN 8 (fun d s => if d = me s then s else routeSync d s) s

/-- The device shows who it is, and which devices it reaches directly and at all. -/
def routesShown (s : State) : State :=
  let s := routesSynced s
  let s := (s.set BLKC.CSTAT.MYID (me s)).set BLKC.CSTAT.DIRECT (directMap s)
  s.set BLKC.CSTAT.REACH ((List.range 8).foldl (fun a d => if s.on BLKC.ROUTE.REACH d then a + 2 ^ d else a) 0)

theorem cascadeSync_held {P : State → Prop} (hP : Closed 0xc000000000000000000000000000007f80000000004000000000000001800000200000001000000000000009f000300000000000000000000000000000000000000000a22000010000003ffc100040000000000000000000000000000000000000000000001e00008c040a7560cc P)
    (hh : ∀ {u} l, P u → P (withHeld l u)) {s : State} (h : P (routesSynced s)) : P (cascadeSync s) := by
  have hw : P (relaySync (masterSync (routesShown s))) := by
    refine relaySync_keeps (hP.mono rfl) (masterSync_keeps (hP.mono rfl) ?_)
    unfold routesShown
    exact set_keeps hP (by decide +kernel) (set_keeps hP (by decide +kernel) (set_keeps hP (by decide +kernel) h))
  exact retryHeld_held (hP.mono rfl) hh (iteP (P := P) hw (sendTopo_keeps (hP.mono rfl) hw))

/-- What each of the first n rounds keeps survives them all. -/
theorem forN_keeps_lt {P : State → Prop} {n : Nat} {f : Nat → State → State} {s : State} (hf : ∀ a < n, ∀ t, P t → P (f a t)) (h : P s) : P (forN n f s) :=
  foldl_keeps _ (fun t a ha => hf a (List.mem_range.mp ha) t) s h

/-- The state with other times at which the last paths went. -/
def withLost (l : List (Nat × Nat)) (s : State) : State := { s with blkG := { s.blkG with lostAt := l } }

/-- The fields of the route to a device. -/
def routeFields : List Ent := [BLKC.ROUTE.LINKS, BLKC.ROUTE.REACH, BLKC.ROUTE.RELAY, BLKC.ROUTE.VIA]

/-- What survives a write of a field of the route to a device, and a note of when its last path went, survives the working out of the route. -/
theorem routeSync_at {P : State → Prop} {d : Nat} (hs : ∀ e ∈ routeFields, ∀ {v u}, P u → P (State.set u e v d 0))
    (hg : ∀ {u}, P u → P (withLost (del u.blkG.lostAt d) u)) (hn : ∀ {u}, P u → P (withLost (put u.blkG.lostAt d u.ns) u)) {s : State} (h : P s) : P (routeSync d s) := by
  have hw (e : Ent) (v : Nat) {u : State} (hu : P u) (he : e ∈ routeFields := by simp [routeFields]) : P (u.set e v d 0) := hs e he hu
  have h0 := hw BLKC.ROUTE.LINKS ((linksTo s d).map (fun l => 2 ^ l)).sum h
  unfold routeSync
  dsimp only
  split
  · have h1 := hg (hw BLKC.ROUTE.REACH 1 h0)
    exact iteP (P := P) h1 (hw BLKC.ROUTE.VIA 0 (hw BLKC.ROUTE.RELAY 0 h1))
  · split
    · next r _ => exact hg (hw BLKC.ROUTE.VIA r (hw BLKC.ROUTE.RELAY 1 (hw BLKC.ROUTE.REACH 1 h0)))
    · have h1 := hw BLKC.ROUTE.VIA 0 (hw BLKC.ROUTE.RELAY 0 h0)
      exact iteP (P := P) (hn h1) h1

/-- The devices whose new link set waits for its fence. -/
def hasFences (l : List Nat) (s : State) : Prop := s.blkG.fences = l

theorem fences_closed {m : Nat} {l : List Nat} (h : m.testBit 28 = false := by decide +kernel) : Closed m (hasFences l) :=
  closed_of_agree fun ha hq => (congrArg BlkG.fences (agree_part ha .blkG h)).trans hq

theorem routeSync_fences {l : List Nat} {d : Nat} {s : State} (h : hasFences l s) : hasFences l (routeSync d s) :=
  routeSync_at (fun _ _ _ _ hu => hu) (fun hu => hu) (fun hu => hu) h

theorem routesSynced_fences {l : List Nat} {s : State} (h : hasFences l s) : hasFences l (routesSynced s) :=
  forN_keeps_lt (fun _ _ _ hu => iteP (P := hasFences l) hu (routeSync_fences hu)) h

theorem cascadeSync_fences {l : List Nat} {s : State} (h : hasFences l s) : hasFences l (cascadeSync s) :=
  cascadeSync_held fences_closed (fun _ hu => hu) (routesSynced_fences h)

end Sys2Proof.Machine
end

section
/-! PROOF. What the commands of link states, lanes and routes do (R240, R242 to R244, R246, R250). -/

namespace Sys2Proof.Machine

set_option Elab.async false

/-- What follows once a failed link is in HANDOFF and shows DOWN (R244). -/
theorem linkDead_rest_keeps {P : State → Prop} (hP : Closed 0xc0000000000000000000000000000f7f80000100004000000000000001800000200000001000000000000009f000300000000000000000000000000000000000000000a22000010000003ffc100040000000000000000000000000000000000000000000001e00008c041a7560cc P)
    {n : Nat} {s : State} (h4 : lstate s n = 4) (h : P (blkFlag BLK.ESTAT.DOWN n (setL n lHandoff (forN 9 (fun l s => closeDec 5 (unitSrc 2 (laneUnit n l)) s) s)))) :
    P (linkDead n s) := by
  unfold linkDead
  rw [if_neg (by simp [h4, lActive])]
  have hh := modBlk_keeps (hP.mono rfl) (a1 := n) (a2 := fun b => { b with slots := [], waits := [], sub := none, bad := 0 }) h
  have hs := startHandoff_keeps (hP.mono rfl) (a1 := n) (cascadeSync_keeps (hP.mono rfl) (heldSync_keeps (hP.mono rfl) (a1 := n) hh))
  exact forL_keeps hP (fun l _ _ hu => startHandoff_keeps (hP.mono rfl) hu) hs

theorem linkDead_down {n : Nat} {s : State} (h4 : lstate s n = 4) : lstate (linkDead n s) n = 5 ∧ (linkDead n s).on BLK.ESTAT.DOWN n = true := by
  constructor
  · refine linkDead_rest_keeps (field_closed (by decide +kernel) n 0 (· = 5)) h4 ?_
    rw [blkFlag, get_flag_other (by decide +kernel) (by decide +kernel)]
    exact lstate_setL n _ (by decide)
  · exact linkDead_rest_keeps (field_closed (by decide +kernel) n 0 (fun v => (v != 0) = true)) h4 (on_flag (by decide +kernel) (by decide))

theorem linkHandoffCommand_effect {n : BlkId} {v : Word} {s : State} (hs : served s (BLK.LCTL.HANDOFF.base / 8) = true) (hd : pdOn s n = true)
    (hv : bitOf v.toNat 4 = false ∧ bitOf v.toNat 5 = true) (h : lstate s n = 4) :
    ∃ t, exec (.linkHandoffCommand n v) s = .next t ∧ t.get BLK.STAT.LSTATE n = 5 ∧ t.on BLK.ESTAT.DOWN n = true := by
  obtain ⟨hb4, hb5⟩ := hv
  let s1 := linkFailRecord n (s.set BLK.LCTL.LANE (bitsOf v.toNat 0 4) n)
  have h0 : lstate (s.set BLK.LCTL.LANE (bitsOf v.toNat 0 4) n) n = 4 := (get_set_field (by decide +kernel)).trans h
  have h1 : lstate s1 n = 4 := (get_report ..).trans h0
  refine ⟨linkDead n s1, ?_, linkDead_down h1⟩
  refine (atDomain_on hs hd : execLinkHandoffCommand n v s = _).trans (congrArg _ ?_)
  simp only [lctlWrite, hb4, hb5, Bool.not_false, reduceIte]
  simp [linkFail, h0, lHello, lActive, s1]

theorem linkSetFenceDone_effect {d : Fin 8} {s : State} (hf : s.blkG.fences.contains d.val = true)
    (hw : (linksTo s d ++ linksTo s (if s.on BLKC.ROUTE.RELAY d then s.get BLKC.ROUTE.VIA d else d.val)).all (fun l => (blkSt s l).win.isEmpty) = true) :
    ∃ t, exec (.linkSetFenceDone d) s = .next t ∧ t.blkG.fences = without d.val s.blkG.fences := by
  refine ⟨fenceDone d s, ?_, ?_⟩
  · show execLinkSetFenceDone d s = _
    simp only [execLinkSetFenceDone, hf, hw, Bool.and_self, reduceIte]
  · have hk (u : State) : (retarget d u).blkG = u.blkG := part_kept .blkG fun hP => retarget_keeps hP (agree_refl _ u)
    have hc (l : List Nat) : (cascadeSync { s with blkG := { s.blkG with fences := l } }).blkG.fences = l := cascadeSync_fences (l := l) rfl
    rw [fenceDone, hk, hc]

/-- A device to which no path leads, and which counts as unreachable. -/
def cutOff (d : Nat) (s : State) : Prop :=
  s.get BLKC.ROUTE.REACH d = 0 ∧ look s.blkG.lostAt d = none ∧ linksTo s d = [] ∧ relayFor s d = none

theorem linksTo_of {s t : State} (hl : ∀ n, t.get BLK.STAT.LSTATE n = s.get BLK.STAT.LSTATE n) (hp : ∀ n, t.get BLK.STAT.PEER n = s.get BLK.STAT.PEER n) (d : Nat) :
    linksTo t d = linksTo s d := by
  simp only [linksTo, linkUp, lstate, peerOf, hl, hp]

theorem relayFor_of {s t : State} {d : Nat} (hl : ∀ n, t.get BLK.STAT.LSTATE n = s.get BLK.STAT.LSTATE n)
    (hp : ∀ n, t.get BLK.STAT.PEER n = s.get BLK.STAT.PEER n) (hs : t.straps = s.straps)
    (ht : ∀ r, r ≠ d → lookD t.blkG.topo r 0 = lookD s.blkG.topo r 0) : relayFor t d = relayFor s d := by
  unfold relayFor
  congr 1
  funext r
  by_cases hr : r = d
  · simp [hr]
  · simp only [me, hs, linksTo_of hl hp, ht r hr]

theorem cutOff_of {s t : State} {d : Nat} (hr : t.get BLKC.ROUTE.REACH d = s.get BLKC.ROUTE.REACH d) (hl : ∀ n, t.get BLK.STAT.LSTATE n = s.get BLK.STAT.LSTATE n)
    (hp : ∀ n, t.get BLK.STAT.PEER n = s.get BLK.STAT.PEER n) (hs : t.straps = s.straps) (ht : t.blkG.topo = s.blkG.topo) (ha : look t.blkG.lostAt d = look s.blkG.lostAt d)
    (h : cutOff d s) : cutOff d t := by
  obtain ⟨h1, h2, h3, h4⟩ := h
  exact ⟨hr.trans h1, ha.trans h2, (linksTo_of hl hp d).trans h3, (relayFor_of hl hp hs fun _ _ => by rw [ht]).trans h4⟩

theorem cutOff_closed {m d : Nat} (hm : outside m BLKC.ROUTE.REACH = true ∧ outside m BLK.STAT.LSTATE = true ∧ outside m BLK.STAT.PEER = true := by decide +kernel)
    (hs : m.testBit 5 = false := by decide +kernel) (hb : m.testBit 28 = false := by decide +kernel) : Closed m (cutOff d) :=
  closed_of_agree fun {s t} ha hq => by
    have hg {e : Ent} (he : outside m e = true) (i : Nat) : t.get e i = s.get e i := agree_get ha he i 0
    have hB : t.blkG = s.blkG := agree_part ha .blkG hb
    exact cutOff_of (hg hm.1 d) (hg hm.2.1) (hg hm.2.2) (agree_part ha .straps hs) (by rw [hB]) (by rw [hB]) hq

theorem completeLost_held {P : State → Prop} (hP : Closed 0xc0000000000000000000000000000000000000000000000000000000018000000000000000000000000000000000300000000000000000000000000000000000000000a20000010000000000000000000000000000000000000000000000000000000000001e00008c04022060c4 P) (hh : ∀ {u} l, P u → P (withHeld l u)) {d : Nat} {s : State} (h : P s) : P (completeLost d s) := by
  unfold completeLost
  extract_lets mine held s1 s2 to_ frame s3 s4 open_
  have h1 : P s1 := hh _ h
  have h2 : P s2 := forL_keeps hP (fun _ _ _ hu => lostIngress_keeps (hP.mono rfl) hu) h1
  have h3 : P s3 := hP.other bySides h2
  have h4 : P s4 := forN_keeps hP (fun _ _ hu => setEgq_keeps (hP.mono rfl) (forL_keeps hP (fun _ _ _ hv => addFreed_keeps (hP.mono rfl) hv) hu)) h3
  refine forL_keeps hP (fun q _ u hu => ?_) h4
  have hq : P { u with frame := { u.frame with reqs := put u.frame.reqs q.1 { q.2 with left := max 1 (lostOps q.2.op false).length } } } := hP.other bySides hu
  exact iteP (P := P) (closeReq_keeps (hP.mono rfl) hq) (forL_keeps hP (fun _ _ _ hv => reply_keeps (hP.mono rfl) hv) hq)

/-- A device's own route stays cut off (R250). -/
theorem routeSync_self {d : Nat} {s : State} (h : cutOff d s) : routeSync d s = ((s.set BLKC.ROUTE.LINKS 0 d).set BLKC.ROUTE.RELAY 0 d).set BLKC.ROUTE.VIA 0 d := by
  obtain ⟨h1, -, h3, h4⟩ := h
  have hr : relayFor (s.set BLKC.ROUTE.LINKS 0 d) d = none :=
    (relayFor_of (fun _ => get_set_field (by decide +kernel)) (fun _ => get_set_field (by decide +kernel)) rfl fun _ _ => rfl).trans h4
  have ho : (((s.set BLKC.ROUTE.LINKS 0 d).set BLKC.ROUTE.RELAY 0 d).set BLKC.ROUTE.VIA 0 d).on BLKC.ROUTE.REACH d = false := by
    rw [State.on]
    simp (disch := decide +kernel) only [get_set_field, h1]
    rfl
  unfold routeSync
  simp [h3, hr, ho]

/-- The routes to the other devices leave a device cut off, and so does its own. -/
theorem routeSync_cutOff {d d' : Nat} {s : State} (hd : d < 8) (hd' : d' < 8) (h : cutOff d s) : cutOff d (routeSync d' s) := by
  by_cases heq : d' = d
  · subst heq
    rw [routeSync_self h]
    have hg {e : Ent} (he : distinct e BLKC.ROUTE.LINKS = true ∧ distinct e BLKC.ROUTE.RELAY = true ∧ distinct e BLKC.ROUTE.VIA = true) (i : Nat) :
        (((s.set BLKC.ROUTE.LINKS 0 d').set BLKC.ROUTE.RELAY 0 d').set BLKC.ROUTE.VIA 0 d').get e i = s.get e i := by
      rw [get_set_field he.2.2, get_set_field he.2.1, get_set_field he.1]
    exact cutOff_of (hg (by decide +kernel) _) (hg (by decide +kernel)) (hg (by decide +kernel)) rfl rfl rfl h
  · refine routeSync_at (fun e he v u hu => ?_) (fun {u} hu => ?_) (fun {u} hu => ?_) h
    · have hkey : e = BLKC.ROUTE.REACH ∨ distinct BLKC.ROUTE.REACH e = true := by
        revert e
        decide +kernel
      have hoff : distinct BLK.STAT.LSTATE e = true ∧ distinct BLK.STAT.PEER e = true := by
        clear hkey
        revert e
        decide +kernel
      refine cutOff_of ?_ (fun _ => get_set_field hoff.1) (fun _ => get_set_field hoff.2) rfl rfl rfl hu
      obtain rfl | hk := hkey
      · refine get_set_other ?_
        simp only [Ent.key, BLKC.ROUTE.REACH]
        omega
      · exact get_set_field hk
    · exact cutOff_of (s := u) rfl (fun _ => rfl) (fun _ => rfl) rfl rfl (look_del_other (Ne.symm heq)) hu
    · exact cutOff_of (s := u) rfl (fun _ => rfl) (fun _ => rfl) rfl rfl (look_put_other (Ne.symm heq)) hu

theorem cascadeSync_cutOff {d : Nat} {s : State} (hd : d < 8) (h : cutOff d s) : cutOff d (cascadeSync s) :=
  cascadeSync_held cutOff_closed (fun _ hu => hu) (forN_keeps_lt (fun _ ha _ hu => iteP (P := cutOff d) hu (routeSync_cutOff hd ha hu)) h)

/-- The device counts as unreachable, and nothing more is known of it (R250). -/
def forgotten (d t : Nat) (s : State) : State :=
  let s := s.reach (t + max 1 (s.get BLKC.CCFG.UNREACH) * 100000)
  { s.set BLKC.ROUTE.REACH 0 d with blkG := { s.blkG with lostAt := del s.blkG.lostAt d, departs := s.blkG.departs.filter (·.2 != d),
                                                          fences := without d s.blkG.fences, topo := del s.blkG.topo d } }

theorem topo_forgotten {d t r : Nat} {s : State} (h : r ≠ d) : lookD (forgotten d t s).blkG.topo r 0 = lookD s.blkG.topo r 0 := by
  show lookD (del s.blkG.topo d) r 0 = _
  rw [lookD, look_del_other h, lookD]

theorem forgotten_cutOff {d t : Nat} {s : State} (hl : linksTo s d = []) (hr : relayFor s d = none) : cutOff d (forgotten d t s) := by
  have hL (n : Nat) : (forgotten d t s).get BLK.STAT.LSTATE n = s.get BLK.STAT.LSTATE n := get_set_field (by decide +kernel)
  have hP (n : Nat) : (forgotten d t s).get BLK.STAT.PEER n = s.get BLK.STAT.PEER n := get_set_field (by decide +kernel)
  exact ⟨get_set_fit (by decide), look_del_same .., (linksTo_of hL hP d).trans hl,
    (relayFor_of hL hP rfl fun r hrd => topo_forgotten hrd).trans hr⟩

/-- The hosts behind a lost device whose homes this device names depart with it (R250). -/
def hostsGone (hosts : List Nat) (s : State) : State := forL hosts (fun h s => departEnd h (departHost h s)) s

theorem hostsGone_cutOff {d : Nat} {hosts : List Nat} {s : State} (h : cutOff d s) : cutOff d (hostsGone hosts s) :=
  forL_keeps (m := 0) cutOff_closed (fun _ _ _ hu => departEnd_keeps cutOff_closed (departHost_keeps cutOff_closed hu)) h

theorem unreachableTimeout_effect {d : Fin 8} {x : Nat} {s : State} (hx : look s.blkG.lostAt d = some x) (hl : linksTo s d = []) (hr : relayFor s d = none) :
    ∃ t, exec (.unreachableTimeout d) s = .next t ∧ t.get BLKC.ROUTE.REACH d = 0 ∧ look t.blkG.lostAt d = none := by
  have h1 : cutOff d (completeLost d (forgotten d x s)) := completeLost_held cutOff_closed (fun _ hu => hu) (forgotten_cutOff hl hr)
  have h2 (hosts : List Nat) : cutOff d (cascadeSync (report (rec0 eBlk kUnreach 1 d) (hostsGone hosts (completeLost d (forgotten d x s))))) :=
    cascadeSync_cutOff d.isLt (report_keeps cutOff_closed (hostsGone_cutOff h1))
  have he : ∃ hosts, exec (.unreachableTimeout d) s =
      .next (cascadeSync (report (rec0 eBlk kUnreach 1 d) (hostsGone hosts (completeLost d (forgotten d x s))))) := by
    show ∃ hosts, execUnreachableTimeout d s = _
    unfold execUnreachableTimeout
    rw [hx]
    exact ⟨_, rfl⟩
  obtain ⟨hosts, he⟩ := he
  obtain ⟨hreach, hlost, -⟩ := h2 hosts
  exact ⟨_, he, hreach, hlost⟩

/-- Settles O31, command by command. -/
theorem beamlinkEffectsC : Obligations.BeamlinkEffectsC :=
  ⟨fun _ _ _ hw h => ctrlTimeout_effect hw h, fun _ _ _ hs hd hv h hl hm => blkEnable_effect hs hd hv h hl hm, fun _ _ h => trainComplete_effect h,
    fun _ _ h => blkStateTimeout_effect h, fun _ _ h he hl hm => blkRetryInterval_effect h he hl hm, fun _ _ _ h => laneLockLoss_effect h,
    fun _ _ _ h => laneErrorWindow_effect h, fun _ _ _ _ hs hd hv hu hl ha hw hb => laneSubCommand_effect hs hd hv hu hl ha hw hb,
    fun _ _ _ h hb => spareLaneFail_effect h hb, fun _ _ _ hs hd hv h => linkHandoffCommand_effect hs hd hv h, fun _ _ hf hw => linkSetFenceDone_effect hf hw,
    fun _ _ _ hx _ hl hr => unreachableTimeout_effect hx hl hr⟩

end Sys2Proof.Machine
end

section
/-! PROOF. What codewords, beads and control messages of a Beamlink do (R227, R230, R233, R235, R241, R243, R244). -/

namespace Sys2Proof.Machine

set_option Elab.async false

theorem wrapAdd_lt (w a b : Nat) : wrapAdd w a b < 2 ^ w := Nat.mod_lt _ (Nat.two_pow_pos w)

theorem flag_part {e : Ent} {src i payload : Nat} {s : State} (p : Part) (h : Nat.testBit raiseMask p.bit = false := by decide +kernel) :
    p.same s (flag e src s i payload) := by
  unfold flag
  split
  · cases p <;> rfl
  · have hr := raise_part (src := src) (cause := e.base % 32 + 1) (payload := payload) (s := s.set e 1 i) p h
    cases p <;> exact hr

theorem blkSt_perf (i code n : Nat) (tc : Option Nat) (s : State) (l : Nat) : blkSt (perf i code n tc s) l = blkSt s l :=
  blkSt_of (part_kept .blks fun hP => perf_keeps hP (agree_refl _ s)) l

theorem blkSt_blkFlag (e : Ent) (n : Nat) (s : State) (l : Nat) : blkSt (blkFlag e n s) l = blkSt s l := blkSt_of (flag_part .blks) l

/-- What is counted and flagged of an uncorrectable codeword (R227). -/
def codewordLost (n : Nat) (s : State) : State := perf (256 + n) 0x13 1 none (blkFlag BLK.ESTAT.UCW n (s.bump BLK.UCWCNT.COUNT 1 n))

theorem codewordLost_counts (n : Nat) (s : State) : (codewordLost n s).get BLK.UCWCNT.COUNT n = satAdd 0xFFFFFFFF (s.get BLK.UCWCNT.COUNT n) 1 ∧
    (codewordLost n s).on BLK.ESTAT.UCW n = true := by
  constructor
  · rw [codewordLost, get_perf (by decide +kernel), blkFlag, get_flag_other (by decide +kernel) (by decide +kernel), get_bump_sat]
    rfl
  · rw [codewordLost, on_of_get (get_perf (by decide +kernel) ..)]
    exact on_flag (by decide +kernel) (by decide)

theorem blkSt_codewordLost (n : Nat) (s : State) (l : Nat) : blkSt (codewordLost n s) l = blkSt s l := by
  rw [codewordLost, blkSt_perf, blkSt_blkFlag]
  rfl

/-- The receiver counts a codeword. -/
def codewordIn (n : Nat) (s : State) : State := modBlk n (fun b => { b with cwcnt := wrapAdd 12 b.cwcnt 1 }) s

theorem blkSt_codewordIn (n : Nat) (s : State) : blkSt (codewordIn n s) n = { blkSt s n with cwcnt := wrapAdd 12 (blkSt s n).cwcnt 1 } := blkSt_modBlk_same ..

theorem codewordReceived_bad {n : BlkId} {s : State} (hs : (blkSt s n).sub = none) (hb : (blkSt s n).bad < 7) :
    ∃ t, exec (.codewordReceived n false []) s = .next t ∧ t.get BLK.UCWCNT.COUNT n = satAdd 0xFFFFFFFF (s.get BLK.UCWCNT.COUNT n) 1 ∧
      t.on BLK.ESTAT.UCW n = true ∧ (blkSt t n).bad = (blkSt s n).bad + 1 ∧ (blkSt t n).cwcnt = wrapAdd 12 (blkSt s n).cwcnt 1 := by
  obtain ⟨hc, hf⟩ := codewordLost_counts n (codewordIn n s)
  have h1 : (blkSt (codewordIn n s) n).sub = none := by rw [blkSt_codewordIn]; exact hs
  have hk : (blkSt (codewordLost n (codewordIn n s)) n).bad = (blkSt s n).bad := by rw [blkSt_codewordLost, blkSt_codewordIn]
  have h8 : ¬8 ≤ (blkSt (codewordLost n (codewordIn n s)) n).bad + 1 := by omega
  refine ⟨modBlk n (fun b => { b with bad := (blkSt (codewordLost n (codewordIn n s)) n).bad + 1 }) (codewordLost n (codewordIn n s)), ?_, hc, hf, ?_, ?_⟩
  · show execCodewordReceived n false [] s = _
    unfold execCodewordReceived
    unfold codewordIn at h1 h8 ⊢
    simp only [h1, Bool.false_eq_true, reduceIte]
    exact congrArg _ (if_neg h8)
  · rw [blkSt_modBlk_same, hk]
  · rw [blkSt_modBlk_same, blkSt_codewordLost, blkSt_codewordIn]

theorem codewordReceived_good {n : BlkId} {s : State} (hs : (blkSt s n).sub = none) :
    ∃ t, exec (.codewordReceived n true []) s = .next t ∧ (blkSt t n).bad = 0 ∧ (blkSt t n).cwcnt = wrapAdd 12 (blkSt s n).cwcnt 1 := by
  have h1 : (blkSt (codewordIn n s) n).sub = none := by rw [blkSt_codewordIn]; exact hs
  refine ⟨modBlk n (fun b => { b with bad := 0 }) (codewordIn n s), ?_, by rw [blkSt_modBlk_same], by rw [blkSt_modBlk_same, blkSt_codewordIn]⟩
  show execCodewordReceived n true [] s = _
  unfold execCodewordReceived
  unfold codewordIn at h1 ⊢
  simp only [h1, List.isEmpty_nil, reduceIte]

theorem wrapSub_self {w a : Nat} (h : a < 2 ^ w) : wrapSub w a a = 0 := by
  rw [wrapSub, Nat.mod_eq_of_lt h, Nat.add_sub_cancel_left, Nat.mod_self]

theorem get_setBlk (n : Nat) (b : BlkSt) (s : State) (e : Ent) (i j : Nat) : (setBlk n b s).get e i j = s.get e i j := rfl

/-- A bead whose turn it is leaves the reorder buffer (R233). -/
theorem extract_turn {n fuel e : Nat} {ps : List LinkPkt} {s : State} (he : s.get BLK.RXSTAT.RXEXP n = e) (h : look (blkSt s n).slots e = some ps) :
    extract n (fuel + 1) s =
      extract n fuel (forL ps (blkIngress n) ((setBlk n { blkSt s n with slots := del (blkSt s n).slots e } s).set BLK.RXSTAT.RXEXP (wrapAdd 16 e 1) n)) := by
  rw [extract]
  simp only [he, h]

theorem extract_none {n fuel : Nat} {s : State} (h : (blkSt s n).slots = []) : extract n fuel s = s := by
  cases fuel with
  | zero => rfl
  | succ k => rw [extract]; simp only [h, look]

/-- The state of a link whose empty reorder buffer has passed on a bead of no packets (R233). -/
def beadTaken (n seq : Nat) (s : State) : State :=
  let s1 := setBlk n { blkSt s n with slots := [(seq, [])] } s
  heldSync n ((setBlk n { blkSt s1 n with slots := [] } s1).set BLK.RXSTAT.RXEXP (wrapAdd 16 seq 1) n)

theorem placeBead_empty {n seq : Nat} {s : State} (hq : seq < 2 ^ 16) (he : s.get BLK.RXSTAT.RXEXP n = seq) (h : (blkSt s n).slots = []) :
    placeBead n seq [] s = beadTaken n seq s := by
  let s1 := setBlk n { blkSt s n with slots := [(seq, [])] } s
  have hb1 : blkSt s1 n = { blkSt s n with slots := [(seq, [])] } := (blkSt_setBlk ..).trans (if_pos rfl)
  have hlook : look (blkSt s1 n).slots seq = some [] := by rw [hb1]; exact if_pos rfl
  have hdel : del (blkSt s1 n).slots seq = [] := by rw [hb1]; simp [del]
  have hx : extract n ((blkSt s1 n).slots.length + 1) s1 = (setBlk n { blkSt s1 n with slots := [] } s1).set BLK.RXSTAT.RXEXP (wrapAdd 16 seq 1) n := by
    have hb2 : (blkSt ((setBlk n { blkSt s1 n with slots := [] } s1).set BLK.RXSTAT.RXEXP (wrapAdd 16 seq 1) n) n).slots = [] :=
      congrArg BlkSt.slots ((blkSt_setBlk n n _ s1).trans (if_pos rfl))
    rw [extract_turn ((get_setBlk ..).trans he) hlook, hdel]
    exact extract_none hb2
  unfold placeBead
  simp only [he, wrapSub_self hq, h, look, put, Option.isSome_none, Bool.false_eq_true, reduceIte]
  exact congrArg (heldSync n) hx

theorem beadTaken_slots (n seq : Nat) (s : State) : (blkSt (beadTaken n seq s) n).slots = [] :=
  congrArg BlkSt.slots ((blkSt_setBlk n n _ (setBlk n { blkSt s n with slots := [(seq, [])] } s)).trans (if_pos rfl))

theorem beadTaken_held (n seq : Nat) (s : State) : (beadTaken n seq s).get BLK.RXSTAT.HELD n = 0 := by
  have h := beadTaken_slots n seq s
  unfold beadTaken heldSync at h ⊢
  rw [get_set_same]
  exact congrArg (fun l : List (Nat × List LinkPkt) => l.length % 2 ^ BLK.RXSTAT.HELD.w) h

theorem dataBead_effect {n : BlkId} {h : BeadHdr} {s : State} (hs : s.safe = false) (hu : linkUp (takeHeader n h s) n = true)
    (he : (takeHeader n h s).get BLK.RXSTAT.RXEXP n = h.seq.toNat) (hb : (blkSt (takeHeader n h s) n).slots = []) :
    ∃ t, exec (.dataBead n h []) s = .next t ∧ t.get BLK.RXSTAT.RXEXP n = wrapAdd 16 h.seq.toNat 1 ∧ (blkSt t n).slots = [] ∧ t.get BLK.RXSTAT.HELD n = 0 := by
  refine ⟨beadTaken n h.seq.toNat (takeHeader n h s), ?_, ?_, beadTaken_slots .., ?_⟩
  · show execDataBead n h [] s = _
    simp only [execDataBead, hs, hu, Bool.false_eq_true, reduceIte, placeBead_empty h.seq.isLt he hb]
  · rw [beadTaken, heldSync, get_set_field (by decide +kernel)]
    exact get_set_fit (wrapAdd_lt ..)
  · exact beadTaken_held ..

theorem beadCrcFail_effect (n : BlkId) (s : State) :
    ∃ t, exec (.beadCrcFail n) s = .next t ∧ t.get BLK.CRCCNT.COUNT n = satAdd 0xFFFFFFFF (s.get BLK.CRCCNT.COUNT n) 1 :=
  ⟨s.bump BLK.CRCCNT.COUNT 1 n, rfl, get_bump_sat ..⟩

theorem lstate_of_linkUp {n : Nat} {s : State} (h : linkUp s n = true) : lstate s n = 4 := by simpa [linkUp, lActive] using h

theorem idleBead_effect {n : BlkId} {h : BeadHdr} {c : BitVec 12} {s : State} (hs : s.safe = false) (hu : linkUp (takeHeader n h s) n = true)
    (hc : wrapSub 12 c.toNat ((takeHeader n h s).get BLK.CRED.LIMIT n 0) < 2048) :
    ∃ t, exec (.idleBead n h [c]) s = .next t ∧ t.get BLK.CRED.LIMIT n 0 = c.toNat := by
  refine ⟨(takeHeader n h s).set BLK.CRED.LIMIT c.toNat n 0, ?_, get_set_fit c.isLt⟩
  have hz : (List.range 18).zip [c] = [(0, c)] := by rw [List.range_succ_eq_map]; rfl
  show execIdleBead n h [c] s = _
  simp [execIdleBead, hs, lstate_of_linkUp hu, lActive, hz, forL, takeGrant, hc]

theorem blkSt_bump (s : State) (e : Ent) (k i j l : Nat) : blkSt (s.bump e k i j) l = blkSt s l := rfl

theorem blkSt_injected (dom inst k : Nat) (s : State) (l : Nat) : blkSt (injected dom inst k s) l = blkSt s l :=
  blkSt_of (part_kept .blks fun hP => injected_keeps hP (agree_refl _ s)) l

/-- A bead that goes again leaves the timer's interval (R235). -/
theorem resend_interval (n seq : Nat) (hold : Bool) (s : State) : (blkSt (resend n seq hold s) n).interval = (blkSt s n).interval := by
  unfold resend
  dsimp only
  split
  · rfl
  · next e _ =>
    refine iteP (P := fun u => (blkSt u n).interval = (blkSt s n).interval) rfl ?_
    rw [blkSt_perf, sendBead, blkSt_emit, blkSt_modBlk_same]
    dsimp only
    rw [blkSt_injected, blkSt_bump, blkSt_setBlk, if_pos rfl]

/-- The expiry of the oldest bead's timer as it is counted, before the bead goes again (R235). -/
def rtoCounted (n : Nat) (s : State) : State :=
  blkFlag BLK.ESTAT.RTO n ((s.reach ((blkSt s n).timerAt + (blkSt s n).interval)).bump BLK.RTOCNT.COUNT 1 n)

/-- The oldest bead has gone again, and the timer runs with a longer interval (R235). -/
def rtoResent (n : Nat) (s : State) : State :=
  let s1 := resend n ((rtoCounted n s).get BLK.SEQSTAT.TXACKED n) false (rtoCounted n s)
  modBlk n (fun b => { b with expiries := (blkSt s n).expiries + 1, interval := min (2 * b.interval) (rtoMaxNs s1 n), timerAt := s1.ns }) s1

theorem get_rtoResent {n i : Nat} {e : Ent} {s : State} (hm : outside 0xc0000000000000000000000000000000000040000000000000000000000000000000000000000000000000000000000000000000000000000000000000000000000000a20000010000000000000000000000000000000000000000000000000000000000001e00008c040a200044 e = true := by decide +kernel) : (rtoResent n s).get e i = (rtoCounted n s).get e i :=
  get_kept (fun hP => resend_keeps hP rfl) hm

theorem get_rtoCounted {n i j : Nat} {e : Ent} {s : State} (ho : outside raiseMask e = true := by decide +kernel)
    (hd : distinct e BLK.ESTAT.RTO = true ∧ distinct e BLK.RTOCNT.COUNT = true := by decide +kernel) : (rtoCounted n s).get e i j = s.get e i j := by
  rw [rtoCounted, blkFlag, get_flag_other ho hd.1, get_bump_field hd.2]
  rfl

theorem rtoMaxNs_of {s t : State} {n : Nat} (h : t.get BLK.RTCFG.RTO n = s.get BLK.RTCFG.RTO n) (hm : t.get BLK.RTCFG.RTOMAX n = s.get BLK.RTCFG.RTOMAX n) :
    rtoMaxNs t n = rtoMaxNs s n := by
  rw [rtoMaxNs, rtoNs, h, hm, rtoMaxNs, rtoNs]

theorem retransmitTimeout_effect {n : BlkId} {e : TxBead} {s : State} (hw : (blkSt s n).win = [e]) (hu : linkUp s n = true)
    (hf : (blkSt s n).expiries + 1 < s.get BLK.RTCFG.FAILN n) :
    ∃ t, exec (.retransmitTimeout n) s = .next t ∧ t.get BLK.RTOCNT.COUNT n = satAdd 0xFFFFFFFF (s.get BLK.RTOCNT.COUNT n) 1 ∧ t.on BLK.ESTAT.RTO n = true ∧
      (blkSt t n).expiries = (blkSt s n).expiries + 1 ∧ (blkSt t n).interval = min (2 * (blkSt s n).interval) (rtoMaxNs s n) := by
  have hfail : ¬max 1 ((rtoResent n s).get BLK.RTCFG.FAILN n) ≤ (blkSt s n).expiries + 1 := by
    rw [get_rtoResent, get_rtoCounted]
    omega
  refine ⟨rtoResent n s, ?_, ?_, ?_, ?_, ?_⟩
  · show execRetransmitTimeout n s = _
    unfold execRetransmitTimeout
    simp only [hw, hu, List.isEmpty_cons, Bool.not_true, Bool.or_self, Bool.false_eq_true, reduceIte]
    exact congrArg _ (if_neg hfail)
  · rw [get_rtoResent, rtoCounted, blkFlag, get_flag_other (by decide +kernel) (by decide +kernel), get_bump_sat]
    rfl
  · rw [on_of_get get_rtoResent]
    exact on_flag (by decide +kernel) (by decide)
  · rw [rtoResent, blkSt_modBlk_same]
  · rw [rtoResent, blkSt_modBlk_same]
    dsimp only
    have hmax : rtoMaxNs (resend n ((rtoCounted n s).get BLK.SEQSTAT.TXACKED n) false (rtoCounted n s)) n = rtoMaxNs s n :=
      rtoMaxNs_of (Eq.trans get_rtoResent get_rtoCounted) (Eq.trans get_rtoResent get_rtoCounted)
    rw [hmax, resend_interval, rtoCounted, blkSt_blkFlag]
    rfl

/-- What a header tells of a link depends on the fields and parts that it shows (R229). -/
theorem txHdr_of {s t : State} {n : Nat} {retx : Bool} {seq : Nat} (hr : t.get BLK.RXSTAT.RXEXP n = s.get BLK.RXSTAT.RXEXP n)
    (hm : t.get BLKC.CSTAT.IS_MASTER = s.get BLKC.CSTAT.IS_MASTER) (hs : t.straps = s.straps) (hc : (blkSt t n).csel = (blkSt s n).csel)
    (hg : (blkSt t n).grants = (blkSt s n).grants) (hl : (blkSt t n).slots = (blkSt s n).slots) : txHdr t n retx seq = txHdr s n retx seq := by
  simp only [txHdr, nakMap, State.on, me, hr, hm, hs, hc, hg, hl]

/-- An answer leaves in one bead (R242). -/
theorem answerCtrl_out (n cseq : Nat) (m : CtrlMsg) (s : State) :
    (answerCtrl n cseq m s).out = s.out ++ [.ctrl n (txHdr s n false (s.get BLK.SEQSTAT.TXNEXT n)) cseq m] := rfl

theorem answerCtrl_get (n cseq : Nat) (m : CtrlMsg) (s : State) (e : Ent) (i j : Nat) : (answerCtrl n cseq m s).get e i j = s.get e i j := rfl

theorem blkSt_answerCtrl (n cseq : Nat) (m : CtrlMsg) (s : State) : blkSt (answerCtrl n cseq m s) n = { blkSt s n with csel := ((blkSt s n).csel + 1) % 18 } := by
  rw [answerCtrl, ctrlOut, sendBead, blkSt_emit, blkSt_modBlk_same]

/-- The peer's HELLO has named it (R241). -/
def peerNamed (n id link : Nat) (mcand : Bool) (nonce : Nat) (s : State) : State :=
  let s := (s.set BLK.STAT.PEER id n).set BLK.STAT.PEERLINK link n
  let s := if mcand then { s with blkG := { s.blkG with cands := insertNat id s.blkG.cands } } else s
  modBlk n (fun b => { b with hello := some nonce }) s

/-- A HELLO that passes its checks before this side's own has been acknowledged is answered, and the link waits (R241). -/
theorem execHello_waits {n : BlkId} {cseq : BitVec 8} {id link : Fin 8} {stepping : Fin 16} {domain : Word} {mcand coarse : Bool} {crc : Word}
    {nonce : BitVec 64} {s : State} (h : lstate s n = 3) (hc : helloCheck s n id stepping domain.toNat coarse crc.toNat = none) (hm : (blkSt s n).macIn = false) :
    execHello n cseq id link stepping domain mcand coarse crc nonce s = .next (answerCtrl n cseq.toNat (.helloAck true) (peerNamed n id link mcand nonce.toNat s)) := by
  have hmac : (blkSt (answerCtrl n cseq.toNat (.helloAck true) (peerNamed n id link mcand nonce.toNat s)) n).macIn = false := by
    rw [blkSt_answerCtrl, peerNamed, blkSt_modBlk_same]
    cases mcand <;> exact hm
  unfold execHello
  rw [if_neg (by rw [h]; decide), if_neg (by rw [h]; decide), hc]
  exact congrArg _ (if_neg (Bool.eq_false_iff.mp hmac))

theorem hello_effect {n : BlkId} {cseq : BitVec 8} {id link : Fin 8} {stepping : Fin 16} {domain : Word} {mcand coarse : Bool} {crc : Word}
    {nonce : BitVec 64} {s : State} (h : lstate s n = 3) (hc : helloCheck s n id stepping domain.toNat coarse crc.toNat = none) (hm : (blkSt s n).macIn = false) :
    ∃ t, exec (.hello n cseq id link stepping domain mcand coarse crc nonce) s = .next t ∧ t.get BLK.STAT.PEER n = id ∧ t.get BLK.STAT.PEERLINK n = link ∧
      (blkSt t n).hello = some nonce.toNat ∧ t.out = s.out ++ [.ctrl n (txHdr s n false (s.get BLK.SEQSTAT.TXNEXT n)) cseq.toNat (.helloAck true)] := by
  have hg (e : Ent) (i j : Nat) : (peerNamed n id link mcand nonce.toNat s).get e i j = ((s.set BLK.STAT.PEER id n).set BLK.STAT.PEERLINK link n).get e i j := by
    unfold peerNamed
    cases mcand <;> rfl
  have hk {e : Ent} (i : Nat) (he : distinct e BLK.STAT.PEERLINK = true ∧ distinct e BLK.STAT.PEER = true := by decide +kernel) :
      (peerNamed n id link mcand nonce.toNat s).get e i = s.get e i := by
    rw [hg, get_set_field he.1, get_set_field he.2]
  have hb : blkSt (peerNamed n id link mcand nonce.toNat s) n = { blkSt s n with hello := some nonce.toNat } := by
    rw [peerNamed, blkSt_modBlk_same]
    cases mcand <;> rfl
  have ho : (peerNamed n id link mcand nonce.toNat s).out = s.out ∧ (peerNamed n id link mcand nonce.toNat s).straps = s.straps := by
    unfold peerNamed
    cases mcand <;> exact ⟨rfl, rfl⟩
  refine ⟨_, execHello_waits h hc hm, ?_, ?_, ?_, ?_⟩
  · rw [answerCtrl_get, hg, get_set_field (by decide +kernel)]
    exact get_set_fit id.isLt
  · rw [answerCtrl_get, hg]
    exact get_set_fit link.isLt
  · rw [blkSt_answerCtrl, hb]
  · rw [answerCtrl_out, ho.1, hk, txHdr_of (hk _) (hk _) ho.2 (by rw [hb]) (by rw [hb]) (by rw [hb])]

/-- An answered message is awaited no more (R242). -/
theorem awaits_answered {n cseq : Nat} {s t : State} (h : (blkSt t n).waits = (blkSt (answered n cseq s) n).waits) : awaits t n cseq = false := by
  rw [awaits, h, answered, blkSt_modBlk_same]
  simp

theorem helloAck_effect {n : BlkId} {cseq : BitVec 8} {k : Nat} {s : State} (h : lstate s n = 3) (ha : awaits s n cseq.toNat = true) (hd : s.sec.domain = some k)
    (hh : (blkSt s n).hello = none) : ∃ t, exec (.helloAck n cseq true) s = .next t ∧ (blkSt t n).macIn = true ∧ awaits t n cseq.toNat = false := by
  let t := modBlk n (fun b => { b with macIn := true }) (answered n cseq.toNat s)
  have hb : blkSt t n = { blkSt (answered n cseq.toNat s) n with macIn := true } := blkSt_modBlk_same ..
  have hn : (blkSt t n).hello.isSome = false := by
    rw [hb, answered, blkSt_modBlk_same, hh]
    rfl
  have hd' : (answered n cseq.toNat s).sec.domain = some k := hd
  refine ⟨t, ?_, by rw [hb], awaits_answered (by rw [hb])⟩
  show execHelloAck n cseq true s = _
  unfold execHelloAck
  rw [if_neg (by rw [h, ha]; decide)]
  simp only [hd', Bool.not_true, Option.isNone_some, Bool.or_self, Bool.false_eq_true, reduceIte]
  exact congrArg _ (if_neg (Bool.eq_false_iff.mp hn))

theorem laneSub_effect {n : BlkId} {cseq : BitVec 8} {pos : Fin 8} {cw : BitVec 12} {s : State} (h : linkUp s n = true) :
    ∃ t, exec (.laneSub n cseq pos cw) s = .next t ∧ look (blkSt t n).txMove pos = some cw.toNat ∧
      t.out = s.out ++ [.ctrl n (txHdr s n false (s.get BLK.SEQSTAT.TXNEXT n)) cseq.toNat (.laneSubAck pos cw.toNat)] := by
  let s1 := modBlk n (fun b => { b with txMove := put b.txMove pos cw.toNat }) s
  have hb : blkSt s1 n = { blkSt s n with txMove := put (blkSt s n).txMove pos cw.toNat } := blkSt_modBlk_same ..
  refine ⟨answerCtrl n cseq.toNat (.laneSubAck pos cw.toNat) s1, ?_, ?_, ?_⟩
  · show execLaneSub n cseq pos cw s = _
    simp only [execLaneSub, h, Bool.not_true, Bool.false_eq_true, reduceIte]
    rfl
  · rw [blkSt_answerCtrl, hb]
    exact look_put_same ..
  · rw [answerCtrl_out, txHdr_of (s := s) (t := s1) rfl rfl rfl (by rw [hb]) (by rw [hb]) (by rw [hb])]
    rfl

theorem laneSubAck_effect {n : BlkId} {cseq : BitVec 8} {pos : Fin 8} {cw : BitVec 12} {q : LaneSub} {s : State} (ha : awaits s n cseq.toNat = true)
    (hs : (blkSt s n).sub = some q) (hq : q.pos = pos.val) :
    ∃ t, exec (.laneSubAck n cseq pos cw) s = .next t ∧ (blkSt t n).sub = some { q with at_ := cw.toNat, agreed := true } ∧ awaits t n cseq.toNat = false := by
  refine ⟨modBlk n (fun b => { b with sub := b.sub.map (fun q => if q.pos = pos.val then { q with at_ := cw.toNat, agreed := true } else q) })
    (answered n cseq.toNat s), ?_, ?_, awaits_answered (by rw [blkSt_modBlk_same])⟩
  · show execLaneSubAck n cseq pos cw s = _
    simp only [execLaneSubAck, ha, Bool.not_true, Bool.false_eq_true, reduceIte]
  · rw [blkSt_modBlk_same, answered, blkSt_modBlk_same]
    simp [hs, hq]

theorem handoff_effect {n : BlkId} {cseq : BitVec 8} {failed : Fin 8} {rxexp : BitVec 16} {l : Nat} {s : State} (h : handoffLink s n failed = some l)
    (hl : lstate s l = 6) : ∃ t, exec (.handoff n cseq failed rxexp) s = .next t ∧
      t.out = s.out ++ [.ctrl n (txHdr s n false (s.get BLK.SEQSTAT.TXNEXT n)) cseq.toNat (.handoffAck l (s.get BLK.RXSTAT.RXEXP l))] := by
  have hf : linkFail l s = s := by simp [linkFail, hl, lHello, lActive]
  refine ⟨answerCtrl n cseq.toNat (.handoffAck l (s.get BLK.RXSTAT.RXEXP l)) s, ?_, answerCtrl_out ..⟩
  have hx : ¬lstate (answerCtrl n cseq.toNat (.handoffAck l (s.get BLK.RXSTAT.RXEXP l)) s) l = lHandoff := by
    rw [lstate, answerCtrl_get]
    exact fun hc => absurd (hl.symm.trans hc) (by decide)
  show execHandoff n cseq failed rxexp s = _
  unfold execHandoff
  simp only [h, hf]
  exact congrArg _ (if_neg hx)

theorem handoffAck_effect {n : BlkId} {cseq : BitVec 8} {failed : Fin 8} {rxexp : BitVec 16} {s : State} (ha : awaits s n cseq.toNat = true)
    (h : handoffLink s n failed = none) : ∃ t, exec (.handoffAck n cseq failed rxexp) s = .next t ∧ awaits t n cseq.toNat = false := by
  have h' : handoffLink (answered n cseq.toNat s) n failed = none := h
  refine ⟨answered n cseq.toNat s, ?_, awaits_answered rfl⟩
  show execHandoffAck n cseq failed rxexp s = _
  simp only [execHandoffAck, ha, h', Bool.not_true, Bool.false_eq_true, reduceIte]

/-- Settles O29, command by command. -/
theorem beamlinkEffectsA : Obligations.BeamlinkEffectsA :=
  ⟨fun _ _ hs hb => codewordReceived_bad hs hb, fun _ _ hs => codewordReceived_good hs, fun _ _ _ hs hu he hb => dataBead_effect hs hu he hb,
    fun _ _ => beadCrcFail_effect .., fun _ _ _ _ hs hu hc => idleBead_effect hs hu hc, fun _ _ _ hw hu hf => retransmitTimeout_effect hw hu hf,
    fun _ _ _ _ _ _ _ _ _ _ _ h hc hm => hello_effect h hc hm, fun _ _ _ _ h ha hd hh => helloAck_effect h ha hd hh, fun _ _ _ _ _ h => laneSub_effect h,
    fun _ _ _ _ _ _ ha hs hq => laneSubAck_effect ha hs hq, fun _ _ _ _ _ _ h _ hl => handoff_effect h hl, fun _ _ _ _ _ ha h => handoffAck_effect ha h⟩

end Sys2Proof.Machine
end

section
/-! PROOF. Statements about the home slices and about migrations that a state of the model contradicts (R142, R155, R165). -/

namespace Sys2Proof.Machine

set_option Elab.async false

theorem after_of {c : Instr} {s t : State} (h : exec c s = .next t) : after c s = t := by rw [after, h]

/-- A write of a host whose number another parked write already carries: the payload parked at port 0 belongs to the request that the message names. -/
def staleWrite : HomeMsg := { wHm with op := .memWr, port := 1, data := some 1, req := 5 }

/-- A state in which a payload of zeros is parked at port 0 under number 1 for request 5. -/
def staleParked : State :=
  { w0 with frame := { w0.frame with parked := [(1, ⟨{ pkt0 with op := .memWr, lst := 1, rid := 5, data := [0], payload := 64 }, false, 0, 0, false⟩)] } }

/-- Nothing reaches the buffer of the writer's own port: the parked payload goes to the pool in place of what the message carries (R155). -/
theorem staleWrite_unsent : ((voq (after (.wr 0 staleWrite) staleParked) 1).map (·.p) ++ stalled (after (.wr 0 staleWrite) staleParked) 1) = [] := by decide +kernel

/-- Refutes O24: a WR takes the payload that is parked for its request number (R155). That no payload is parked *under* that number, as the statement has it, does not exclude one parked for it: the pool then gets the parked line and not the one in the message. -/
theorem not_homeEffectsA : ¬ Obligations.HomeEffectsA := by
  unfold Obligations.HomeEffectsA
  rintro ⟨-, -, -, -, -, -, hwr, -⟩
  obtain ⟨t, ht, hv, -⟩ := hwr 0 staleWrite 1 staleParked (by decide +kernel) rfl (by decide +kernel) (by decide +kernel) (by decide +kernel)
  rw [← after_of ht] at hv
  rw [show staleWrite.port.val = 1 from rfl, staleWrite_unsent] at hv
  exact absurd hv (by decide)

/-- A read without a copy that asks for no data (MemInv), and waits in the carry queue. -/
def dataless : HomeTx := { wTx with msg := { wHm with op := .memInv } }

/-- A state whose first home slice holds that request in its carry queue. -/
def datalessQueued : State := wHome (fun h => { h with txs := [dataless], carry := [0] })

theorem dataless_untracked : tallyFind (after (.carryQueueAllocate 0 0) datalessQueued) 0 0 = none := by decide +kernel

/-- Refutes O25: a request in the carry queue that asks for no data ends in the step in which it takes its way, and the way is free again (R159, R165); the statement does not exclude it. -/
theorem not_homeEffectsB : ¬ Obligations.HomeEffectsB := by
  unfold Obligations.HomeEffectsB
  rintro ⟨-, -, -, hcarry, -⟩
  obtain ⟨t, ht, -, hf⟩ := hcarry 0 0 dataless datalessQueued (by decide +kernel) (by decide +kernel) (by decide +kernel) (by decide +kernel)
  rw [← after_of ht] at hf
  exact absurd (hf.symm.trans (congrArg Option.isSome dataless_untracked)) (by decide)

/-- A host's configuration write that turns the power of its slot 0 off. -/
def slotOffWrite : LinkReq := { wMsg with op := .pcieCfg, route := .cfg (.vppb 0) .slotCtl, data := [1024] }

/-- A migration in QUIESCE with nothing left to copy, while a change of bindings waits for a host whose write to turn the slot off stands in the backlog, and the journal has room for one record. -/
def quietLastPage : State :=
  let s := ((setMig 0 (some wMig) wJ).set BIND.MIG.MSTAT.PHASE 3 0).set PORT.CFG.ROLE 1 0
  { s with bind := { s.bind with change := some ⟨[], [(0, 0)], false, false, [], 0, 0⟩, backlog := [(0, 7, slotOffWrite)] },
           boot := { s.boot with flash := { s.boot.flash with halfPages := 2 } } }

theorem quietLastPage_back : (after (.quiesceCopyDone 0 50000) quietLastPage).get BIND.MIG.MSTAT.PHASE 0 = 1 := by decide +kernel

/-- Refutes O23: when the copy of a quiesce is done the held-back requests go through the pipeline first (R142), and one of them may let a binding change take the journal's last room. MIG_COMMIT is then refused and the migration goes back to COPY, though the journal would have taken it before the step. -/
theorem not_bindingEffects : ¬ Obligations.BindingEffects := by
  unfold Obligations.BindingEffects
  rintro ⟨-, -, -, -, -, -, -, -, -, -, -, -, -, -, hdone, -⟩
  obtain ⟨t, ht, -, hp, -⟩ := hdone 0 50000 wMig quietLastPage (by decide +kernel) (by decide +kernel) (by decide) (by decide +kernel) (by decide +kernel) (by decide)
    rfl (by decide +kernel)
  rw [← after_of ht] at hp
  exact absurd (hp.symm.trans quietLastPage_back) (by decide)

end Sys2Proof.Machine
end
